-- ==== Sys2Proof/Word.lean ====
section
/-! DEFINITION. The word types of the register space, bit fields, and the masters of the register fabric. -/

namespace Sys2Proof

/-- A register word (spec/02_register_conventions.md R31). -/
abbrev Word := BitVec 32

/-- A 64-bit value held in two consecutive words (R44). -/
abbrev Word64 := BitVec 64

/-- A byte of host or DRAM data. -/
abbrev Byte := BitVec 8

/-- The place of a named field in a register word: its lowest bit and its width. -/
structure Field where
  lo : Nat
  width : Nat
  deriving DecidableEq, Repr

/-- The 66 masters of the register fabric (spec/02_register_conventions.md, before R37):
the 64 queue pairs, the SPI port and Beacon. -/
inductive Master where
  | qp (n : Fin 64)
  | spi
  | beacon
  deriving DecidableEq, Repr

/-- The code of a master in DEV_BUS_ERR.MASTER: 0 to 63 a QP, 64 SPI, 65 Beacon. -/
def Master.code : Master → Nat
  | .qp n => n.val
  | .spi => 64
  | .beacon => 65

/-- The four address aliases of R32. -/
inductive Alias where
  | normal
  | set
  | clear
  | toggle
  deriving DecidableEq, Repr

end Sys2Proof
end

