-- ==== Sys2Proof/Machine/CmdTypes.lean ====
section
/-! DEFINITION. Data that command operands carry from outside the device: calibration measurements, the verdict of a runtime self-test,
and what a start-up meets. -/

namespace Sys2Proof.Machine

/-- What a calibration run measured at one pin (spec/13_calibration.md R343 to R345). `found`: a launch and a return within
40 ns; `clipped`: a calibration code was clipped by a limit register (R342). TIMING: `launch` and `ret` are the sums of 256
stamps L and R in stamp units, `hits` the 64 code-density counts, `eye` and `residual` in ps and `inlErr` in 1/16 stamp
units. LEVELS: `e1` and `e2` are the errors of the eight DACs at C1 and C2 in 1/1000 of 7.8125 microvolts, `verify` the
residuals in microvolts. Converter kinds: `z`, `l`, `h`, `z2` are sums of 7 raw results: the zero, the two test DAC codes and
the second zero, or for SYS_FS the reference in `z`. (DESIGN CHOICE, log 9) -/
structure CalMeas where
  pin : Fin 8
  found : Bool
  clipped : Bool
  launch : Nat
  ret : Nat
  hits : List Nat
  eye : Nat
  residual : Nat
  inlErr : Nat
  e1 : List Int
  e2 : List Int
  verify : List Nat
  z : Int
  l : Int
  h : Int
  z2 : Int
  deriving DecidableEq, Repr

/-- What a runtime self-test finds: everything passes, the engine (or the lane, or a block alone under test) fails, or the strand
block fails. -/
inductive RtVerdict where
  | pass
  | unit
  | strand
  deriving DecidableEq, Repr

/-- What a start-up meets that the device does not decide by itself: the SPI straps, the results of the self-check and the logic BIST,
the firmware version when it verifies, the engines that fail read-back, DRAM training, the bypass loop, the step at which a rail left
its limits, its duration and its end. -/
structure StartFacts where
  priv : Bool
  mode : Fin 4
  selfCheck : Bool
  engines : List (Fin 208)
  strands : List (Fin 192)
  coves : List (Fin 16)
  lanes : List (Fin 17)
  crit : BitVec 4
  fw : Option Word
  engBad : List (Fin 208)
  dram : Bool
  loop : Bool
  rail : Option Nat
  ms : BitVec 16
  at_ : Nat
  deriving DecidableEq, Repr

end Sys2Proof.Machine
end

