-- ==== Sys2Proof/Machine/Store.lean ====
section
/-! DEFINITION. Sparse stores: lists of numbered entries with strictly rising keys and no entry equal to the value an
unlisted key reads as, so that equal stores are equal lists. -/

namespace Sys2Proof.Machine

/-- Entries by number, keys strictly rising. -/
abbrev Store (α : Type) := List (Nat × α)

/-- The entry at key `a`, if one is listed. -/
def Store.get? {α : Type} : Store α → Nat → Option α
  | [], _ => none
  | (k, v) :: t, a => if a = k then some v else Store.get? t a

/-- What key `a` reads as, when an unlisted key reads as `d`. -/
def Store.getD {α : Type} (m : Store α) (a : Nat) (d : α) : α := (Store.get? m a).getD d

/-- Write `v` at key `a`, keeping the keys rising. -/
def Store.put {α : Type} : Store α → Nat → α → Store α
  | [], a, v => [(a, v)]
  | (k, w) :: t, a, v =>
    if a < k then (a, v) :: (k, w) :: t
    else if a = k then (a, v) :: t
    else (k, w) :: Store.put t a v

/-- Unlist key `a`. -/
def Store.del {α : Type} : Store α → Nat → Store α
  | [], _ => []
  | (k, w) :: t, a => if a = k then Store.del t a else (k, w) :: Store.del t a

/-- Write `v` at key `a` where an unlisted key reads as `d`: the canonical write. -/
def Store.putD {α : Type} [DecidableEq α] (m : Store α) (a : Nat) (v d : α) : Store α :=
  if v = d then Store.del m a else Store.put m a v

/-- Keys strictly rising, all above `lo` when given. -/
def Store.rising {α : Type} : Option Nat → Store α → Bool
  | _, [] => true
  | lo, (k, _) :: t => (match lo with | none => true | some l => decide (l < k)) && Store.rising (some k) t

/-- The canonical form of a store whose unlisted key `k` reads as `d k`. -/
def Store.wf {α : Type} [DecidableEq α] (d : Nat → α) (m : Store α) : Bool :=
  Store.rising none m && m.all (fun e => decide (e.2 ≠ d e.1))

/-- Drop every entry whose key satisfies `p`. -/
def Store.dropWhere {α : Type} (m : Store α) (p : Nat → Bool) : Store α := m.filter (fun e => !p e.1)

end Sys2Proof.Machine
end

