-- ==== Sys2Proof/Machine/RingTypes.lean ====
section
/-! DEFINITION. Frames on the ring ports and what the ring logic and tideline hold beside their registers
(spec/15_ring_and_system.md, spec/16_tideline.md, spec/14_host_transport.md R350). -/

namespace Sys2Proof.Machine

/-- A frame as a ring port sees it: destination and source MAC, EtherType, tag priority if tagged, bytes from destination
MAC to FCS, and whether the FCS is good. -/
structure EthFrame where
  dst : Nat
  src : Nat
  etype : Nat
  tag : Option (Fin 8)
  len : Nat
  good : Bool
  deriving DecidableEq, Repr

/-- An Adeo frame (R385): the header but for TYPE, and the body. -/
structure Adeo where
  ver : Nat
  flags : Nat
  hops : Nat
  src : Nat
  dst : Nat
  seq : Nat
  ring : Nat
  body : List Byte
  deriving DecidableEq, Repr

/-- A RoCEv2 packet of the device (spec/14_host_transport.md R350), by what it carries. -/
inductive RocePkt where
  | write (va rkey total : Nat) (data : List Byte)   -- one packet of an RDMA WRITE
  | readReq (va rkey len : Nat)
  | readResp (data : List Byte)
  | ack
  | nak (code : Nat)
  deriving DecidableEq, Repr

/-- A frame the device transmits. -/
inductive TxFrame where
  | forward (f : EthFrame)
  | adeo (type : Nat) (f : Adeo)
  | pfc (prio quanta : Nat)
  | roce (qp psn : Nat) (tag : Option Nat) (len : Nat) (pkt : RocePkt)
  deriving DecidableEq, Repr

/-- A frame waiting to leave by a port: its class and its cells. -/
structure Queued where
  cls : Nat
  cells : Nat
  frame : TxFrame
  deriving DecidableEq, Repr

/-- A ring port beside its registers: frames in transit that wait to leave by it, frames the device originated, when the
first cell of its receive side became pending (R390), the counters of the audit snapshot by class (SENT, AVAIL, RET_RX) while
its reply is awaited, heartbeats sent in a row without a reply and when the last was sent, the last PDELAY_REQ (SEQ and egress
stamp) with its instant, and the last link delays. -/
structure RingPort where
  transit : List Queued := []
  own : List Queued := []
  pendSince : Option Nat := none
  audit : Store (Nat × Nat × Nat) := []
  misses : Nat := 0
  hbAt : Nat := 0
  pdelay : Option (Nat × Int) := none
  pdAt : Nat := 0
  delays : List Int := []
  deriving DecidableEq, Repr

/-- The ring logic beside its registers: both ports, the audit guard with the tideline time of its instant, the instant whose
replies are awaited, the keys of frames processed (TYPE, SRC and SEQ, newest first, 16 of a TYPE) and originated (TYPE and SEQ),
frame counts by TYPE, the positions in active test with their last refresh, the breaks announced (the port an announcement arrived
on, its originator and its PORT), the active-test state last announced and when, and whether RG_BYPASS.GO holds RELAY_HOLD low until reset. -/
structure Ring where
  east : RingPort := {}
  west : RingPort := {}
  guard : Option Nat := none
  audited : Option Nat := none
  seen : List (Nat × Nat × Nat) := []
  sent : List (Nat × Nat) := []
  seqs : Store Nat := []
  active : Store Nat := []
  breaks : List (Nat × Nat × Nat) := []
  activeOut : Bool := false
  activeAt : Nat := 0
  bypassed : Bool := false
  deriving DecidableEq, Repr

/-- Tideline beside its registers (spec/16_tideline.md): whether REF_IN, PPS_IN and tide marks are present, when the last edge and
the last mark came, whether the time of ACQUIRE was set (R409), whether it was ever valid (R410), whether the first large offset of
ACQUIRE is past (R410), since when the source has been followed, since when the offset has been within 100 ns, when the current
HOLDOVER began, the master followed (R411), the last offsets of eastbound and westbound marks and when the last eastbound one came
(R414), until when the master sends SETTLE
marks, whether a settlement of this master is owed, the offsets of a settlement, the ageing term: the day it counts from, its last
update, the value it started from (R406), and when marks were last sent (R412). -/
structure Tide where
  ref : Bool := false
  pps : Bool := false
  ring : Bool := false
  lastPps : Nat := 0
  lastMark : Nat := 0
  timeSet : Bool := false
  everValid : Bool := false
  firstDone : Bool := false
  followed : Nat := 0
  within : Option Nat := none
  holdFrom : Nat := 0
  master : Option Nat := none
  thetaE : Option Int := none
  thetaW : Option Int := none
  lastE : Nat := 0
  settling : Option Nat := none
  owesSettle : Bool := false
  settleE : List Int := []
  settleW : List Int := []
  ageDay : Nat := 0
  ageAt : Nat := 0
  ageBase : Int := 0
  sentAt : Nat := 0
  deriving DecidableEq, Repr

end Sys2Proof.Machine
end

