-- ==== Sys2Proof/Machine/StrandTypes.lean ====
section
/-! DEFINITION. The data a strand and its pin slices hold beside their registers: flow position and stacks, the ALPG,
pending pin events, compare windows, step records awaiting their strobes, the fail queue and the tables. -/

namespace Sys2Proof.Machine

/-- A step word's place: segment and step offset. -/
structure Pos where
  seg : Nat
  off : Nat
  deriving DecidableEq, Repr

/-- A loop frame (spec/05_sequencer.md R130): the first body word, the iterations remaining, the iterations run, and
for a MATCH block (R135) its number, by which step records name it. -/
structure LoopFrame where
  body : Pos
  left : Nat
  ran : Nat
  block : Option Nat
  deriving DecidableEq, Repr

/-- A call frame (R130): the place of the CALL, whose following word is the return position, and the loop depth at the
CALL. -/
structure CallFrame where
  ret : Pos
  depth : Nat
  deriving DecidableEq, Repr

/-- The conditions of a driver (spec/04_edges_and_waves.md R110). -/
inductive Drv where
  | hiz
  | vil
  | vih
  | vtt
  deriving DecidableEq, Repr

/-- What a compare expects (R112). -/
inductive Expect where
  | high
  | low
  | inside
  deriving DecidableEq, Repr

/-- A scheduled drive event: its nominal instant in units, its step and the condition it sets. Drive events of one
step at one instant are one event (R117). -/
structure DriveEv where
  t : Nat
  step : Nat
  level : Drv
  deriving DecidableEq, Repr

/-- The kinds of strobe event. -/
inductive StrobeKind where
  | edge
  | wopen
  | wclose
  deriving DecidableEq, Repr

/-- A scheduled strobe event; for a window end, `mate` is the nominal instant of the other end. -/
structure StrobeEv where
  t : Nat
  step : Nat
  kind : StrobeKind
  expect : Expect
  mate : Nat
  deriving DecidableEq, Repr

/-- A window strobe with one end fired. `early` says that the close fired first or that the open passed it (R113);
`ok` that every decision so far met the expectation, `nodec` that one was missing (R85), `mask1` and `mask2` that the
first or the second case of R95 held at some instant of the window. -/
structure Window where
  step : Nat
  expect : Expect
  early : Bool
  ok : Bool
  nodec : Bool
  mask1 : Bool
  mask2 : Bool
  deriving DecidableEq, Repr

/-- A pin's driver, pending events and open windows. `lastDrive` and `lastStrobe` hold the nominal and the actual
instant of the last event of each kind (R118); `parkTo` is the condition the pin goes to, once its strand has
stopped, after its own last event of a step below the given step number (R120); `settleAt` is when its comparator settles (R81); `heldHi` and `heldLo` are the
thresholds of the hold stages (R87, R103). -/
structure Pin where
  cond : Drv := .hiz
  drives : List DriveEv := []
  strobes : List StrobeEv := []
  lastDrive : Option (Nat × Nat) := none
  lastStrobe : Option (Nat × Nat) := none
  windows : List Window := []
  parkTo : Option (Nat × Drv) := none
  settleAt : Option Nat := none
  heldHi : Nat := 0x4000
  heldLo : Nat := 0x4000
  deriving DecidableEq, Repr

/-- A failing strobe of a step: the pin in its strand, its firing instant, and whether no decision was available. -/
structure StrobeFail where
  pin : Nat
  t : Nat
  nodec : Bool
  deriving DecidableEq, Repr

/-- A step whose strobes are not all resolved into a fail event (R205). `pend` counts strobes not yet evaluated;
`block` names the MATCH block the step belongs to; `late` marks a step of an iteration already closed (R136);
`isMatch` marks the event of a MATCH timeout. -/
structure StepRec where
  step : Nat
  start : Nat
  seg : Nat
  off : Nat
  xp : Nat
  yp : Nat
  zp : Nat
  pend : Nat
  fails : List StrobeFail
  block : Option Nat
  lastFire : Nat
  late : Bool
  isMatch : Bool
  deriving DecidableEq, Repr

/-- A fail event (R205) with the flags of its journal record. -/
structure FailEvent where
  start : Nat
  strand : Nat
  pins : Nat
  xp : Nat
  yp : Nat
  zp : Nat
  die : Nat
  dieValid : Bool
  nodec : Bool
  isMatch : Bool
  deriving DecidableEq, Repr

/-- A mark record waiting in a strand's reserved slot (R209): the stopping event and its cause code. -/
structure MarkRec where
  event : FailEvent
  cause : Nat
  deriving DecidableEq, Repr

/-- A granule in a step cache: where it belongs, whether the copy is good (R197) and when it was written. -/
structure CacheLine where
  seg : Nat
  gran : Nat
  good : Bool
  at_ : Nat
  deriving DecidableEq, Repr

/-- The tables of a strand: wave fields (entry * 8 + pin), edge values (((bank * 8 + pin) * 256 + set) * 6 + edge),
micro-op words (4 * entry + word), the scramble tables, branch targets and the sine table. Entries not listed read as the
reset content: the identity for the permutation tables and ZTAB (spec/06_alpg.md R168), the sine of spec/11 R309, else zero
(DESIGN CHOICE, log 7). -/
structure Tables where
  wave : Store Nat := []
  edge : Store Nat := []
  uop : Store Nat := []
  xperm : Store Nat := []
  xlut : Store Nat := []
  yperm : Store Nat := []
  ylut : Store Nat := []
  ztab : Store Nat := []
  bt : Store Nat := []
  sine : Store Int := []
  deriving DecidableEq, Repr

/-- The stop causes of spec/05_sequencer.md R152. -/
inductive Cause where
  | none
  | haltOp
  | parkOp
  | hostHalt
  | underrun
  | breakwater
  | illegalOp
  | nestOvf
  | nestUnf
  | loopOpen
  | badSeg
  | integrity
  | slackMissed
  | syncTo
  | matchTo
  | endOfSeg
  | thermal
  | slack
  | deviceFault
  | clockLoss
  deriving DecidableEq, Repr

/-- The wait of a WAIT_SLACK (R145, R146). -/
inductive Wait where
  | none
  | instant (t : Nat)          -- waiting for the instant, in units
  | sync (since : Nat) (limit : Option Nat) (start : Option Nat)   -- a lash sync: from its own nominal start, its timeout, its start once met
  deriving DecidableEq, Repr

/-- How the next run or resumption of a strand starts: the tideline instant, the start segment of a run, `none` for a
resumption. -/
structure Launch where
  at_ : Nat
  seg : Option Nat
  qp : Nat
  deriving DecidableEq, Repr

/-- A write or a strobe held while the strand is under self-test (spec/02_register_conventions.md R61, R63). -/
inductive Held where
  | write (m : Master) (addr : Nat) (data : Word)
  | strobe (mask : Word)
  deriving DecidableEq, Repr

/-- What a strand holds beside its registers. Instants are in units of 1/512 engine period. -/
structure Strand where
  pos : Pos := ⟨0, 0⟩
  segStart : Bool := false       -- the next word is step 0 of a segment reached by a run start or a transfer of R149
  target : Bool := false         -- the next word is the first word of a transfer target (R143)
  launched : Bool := false       -- the next step is the first of a run or a resumption
  loops : List LoopFrame := []
  calls : List CallFrame := []
  rptLeft : Option Nat := none   -- repetitions left of the RPT word at `pos`
  lastStart : Nat := 0
  lastPos : Pos := ⟨0, 0⟩         -- place of the step word most recently issued
  nextAt : Nat := 0              -- nominal start of the next step
  period : Nat := 512            -- applied period of the last executed step
  holdFrom : Option Nat := none  -- first hold step of the seam in progress
  wait : Wait := .none
  after : Bool := false          -- parked after the PARK word at `pos` (R154)
  stops : List (Cause × Nat) := []   -- causes that take effect at a step start to come, with the instant they were raised
  stopAt : Nat := 0              -- boundary of the most recent stop
  perOld : List (Nat × Nat × Nat) := []            -- period register, its earlier value, when it was replaced (R106)
  slackOld : Option (Bool × Nat × Nat) := none     -- SLACK_VALID and SQ_SLACK_AT before the last application, and its instant (R147)
  stepNo : Nat := 0
  blockNo : Nat := 0
  recs : List StepRec := []
  failTimes : List Nat := []     -- firing instants of the failing strobes the FAIL flag holds (R134)
  matchFirst : Store Nat := []   -- first iteration with an empty mask of its own, by MATCH block (spec/10 R280)
  markers : Nat := 0
  x : Nat := 0
  y : Nat := 0
  z : Nat := 0
  dinv : Bool := false
  bus : Nat := 0
  lastWave : Nat := 0
  tables : Tables := {}
  cache : List CacheLine := []
  anchored : List Nat := []
  launch : Option Launch := none
  failQ : List FailEvent := []
  mark : Option MarkRec := none
  capture : Bool := true         -- capture is running (R209, R210)
  ovfCause : Nat := 0            -- overflow cause of the current run (R229)
  endDue : Bool := false         -- the strand has halted and owes an end mark (R218)
  seq : Nat := 0                 -- records of the strand since the journal reset (R215)
  baseJ : Nat := 0               -- Bj of R221
  baseF : Nat := 0               -- Bf of R221
  holdQ : List Held := []        -- hold queue of R61
  sinePhase : Nat := 0
  sineRun : Bool := false        -- the last sample found EN = 1
  sineLoad : Bool := false       -- the next sample loads the phase (R311)
  sineCode : Nat := 0x4000       -- code of the last sample
  out : Bool := false            -- taken out of service by a failed self-test (spec/17 R441)
  ranSince : Bool := false       -- a run has started since the placement or the last end-of-test mark
  deriving DecidableEq, Repr

end Sys2Proof.Machine
end

