-- ==== Sys2Proof/Machine/CoreTypes.lean ====
section
/-! DEFINITION. Data shared by all blocks: breakwater trips, forced output states, fault messages and records, host
events, and what leaves the device. -/

namespace Sys2Proof.Machine

/-- A breakwater trip not yet ended by REARM (spec/03_pin_slice.md R93 to R98): the tripped pin, the causes qualified,
the scope applied, the pins in scope, and when the engagement check is due. -/
structure Trip where
  pin : Nat
  cause : Nat
  scope : Nat
  pins : List Nat
  checkAt : Option Nat
  deriving DecidableEq, Repr

/-- The causes, other than trips, that force output states (R99): an open Device-class record, a thermal shutdown,
slack with the safe state, and a Grave record; and when the engagement check of a cause that took every pin is due (R96). -/
structure Forced where
  device : Bool := false
  thermal : Bool := false
  slack : Bool := false
  grave : Bool := false
  checkAt : Option Nat := none
  deriving DecidableEq, Repr

/-- A fault message on its way to the collector (spec/18_faults_and_thermal.md R442): source, kind bits, address and
whether FC_FORCE made it. -/
structure FaultMsg where
  source : Nat
  kind : Nat
  addr : Nat
  forced : Bool
  deriving DecidableEq, Repr

/-- A fault record (R442, R445). -/
structure FaultRec where
  stamp : Nat
  source : Nat
  kind : Nat
  cls : Nat
  merge : Nat
  forced : Bool
  addr : Nat
  order : Nat      -- the number of the opening, by which R26 orders records of one class
  deriving DecidableEq, Repr

/-- An event held for the event ring (spec/14_host_transport.md R374). -/
structure EventRec where
  kind : Nat
  seq : Nat
  time : Nat
  body : List Byte
  deriving DecidableEq, Repr

/-- The sequences of a PMU (spec/11_source_measure.md R292, R293). -/
inductive PmuSeq where
  | none
  | connect (since : Nat)
  | off (since : Nat)
  | rangeLimit (since range : Nat)    -- before the current limit moves
  | rangeOpen (since range : Nat)     -- before the old sense path opens
  | rangeEnd (since range : Nat)      -- before the loop has settled
  deriving DecidableEq, Repr

/-- A PMU beside its registers: its state code of R286 when no forced state holds, the range in effect, its switch and
amplifier, the sequence running, whether an application waits for its end (R291), and whether the sine generator drives
its force DAC (R310). -/
structure Pmu where
  state : Nat := 0
  range : Nat := 0
  closed : Bool := false
  amp : Bool := false
  seq : PmuSeq := .none
  again : Bool := false
  sg : Bool := false
  deriving DecidableEq, Repr

/-- A converter (R298 to R303): whether it converts, when the conversion in progress began, how many modulator cycles it
takes, its number since the restart, whether it is disturbed, and the conversions of the notch window, newest first:
cycles, raw value and whether disturbed. -/
structure Conv where
  running : Bool := false
  start : Nat := 0
  cycles : Nat := 0
  seq : Nat := 0
  disturbed : Bool := false
  window : List (Nat × Int × Bool) := []
  deriving DecidableEq, Repr

/-- What the device sends out: answers to register accesses over SPI and from Beacon, frames on the ring ports, pulses and
levels of balls, SPI data. The model keeps them in order of sending; nothing in the device reads them. -/
inductive Output where
  | readData (m : Master) (data : List Word)             -- the words of an executed read burst
  | accepted (m : Master)                                -- an executed write burst
  | deferred (m : Master)                                -- a burst answered DEFERRED (R60, R61)
  | busError (m : Master)                                -- a burst answered with a bus error (R41)
  | frame (port : Nat) (f : TxFrame)                     -- a frame transmitted on a ring port
  | trigPulse (balls : Nat) (t : Nat)                    -- a pulse on the TRIG balls of the mask, at the step start
  | markBalls (levels : Nat) (t : Nat)                   -- the levels of the MARK balls after a change
  | alert (active : Bool)                                -- ALERT_N low or not
  | therm (active : Bool)                                -- THERM_N low or not
  | relayHold (high : Bool)                              -- the RELAY_HOLD ball changes
  | spiData (data : List Byte)                           -- bytes shifted out of the SPI port
  deriving DecidableEq, Repr

end Sys2Proof.Machine
end

