-- ==== Sys2Proof/Machine/HostTypes.lean ====
section
/-! DEFINITION. What the host transport and calibration control hold beside their registers: commands started, transfers
outstanding, calibration runs. -/

namespace Sys2Proof.Machine

/-- An active calibration run (spec/13_calibration.md R338): strand, KIND, SRC, CONTEXT, the pins selected, those that have
dropped out by a trip, and the command that started it, as QP and index. -/
structure CalRun where
  strand : Nat
  kind : Nat
  src : Nat
  context : Nat
  pins : Nat
  tripped : Nat
  cmd : Option (Nat × Nat)
  deriving DecidableEq, Repr

/-- How far a command that has started has come (spec/14_host_transport.md R367). -/
inductive CmdStage where
  | started                                   -- its own row has not acted yet
  | reading                                   -- its IN buffer is being read
  | received                                  -- its IN buffer is in the device
  | deciding                                  -- a work order under decision or waiting to be applied
  | applying                                  -- a placement being applied
  | strands (left : List Nat) (count : Nat)   -- RUN_AT: strands whose first step is awaited; HALT: strands not yet stopped, and those it stopped
  | ledgers (left : List Nat)                 -- LEDGER_READ: strands whose ledgers are awaited
  | calRun
  deriving DecidableEq, Repr

/-- A command that has started and not completed: its QP and command ring index, its 64-byte descriptor, the instant of its
start, how far it has come and the bytes of its IN buffer. -/
structure HostCmd where
  qp : Nat
  idx : Nat
  desc : List Byte
  at_ : Nat
  stage : CmdStage
  input : List Byte
  lost : Bool                  -- the QP has left RTS: no completion is written (R354)
  met : List Nat := []         -- segments of the SEG_WRITE commands in progress at its start, once their images have said which (R369)
  deriving DecidableEq, Repr

/-- The header of a RoCEv2 packet that has arrived (R350, R351): its destination QP number, its PSN, and whether its ICRC is good. -/
structure RoceHead where
  qpn : BitVec 24
  psn : BitVec 24
  icrcOk : Bool
  deriving DecidableEq, Repr

/-- What an RDMA READ of the device is for. -/
inductive ReadUse where
  | doorbell                        -- the doorbell record of the QP
  | streamBell (n : Nat)            -- the doorbell record of stream n
  | descriptor (idx : Nat)          -- a command descriptor
  | input (idx : Nat)               -- the IN buffer of a started command
  | granule (stream gran : Nat)     -- a granule of a stream
  | repair (strand seg gran : Nat)  -- the host copy of a granule that failed its CRC (spec/07_pattern_memory.md R197)
  deriving DecidableEq, Repr

/-- A device RDMA request: a READ of `len` bytes with its use, or a WRITE of `data`. -/
structure Rdma where
  use : Option ReadUse
  va : Nat
  rkey : Nat
  len : Nat
  data : List Byte
  deriving DecidableEq, Repr

/-- What a QP holds beside its registers: requests sent and not answered, in order, and those not yet sent, the send PSN and
the expected PSN, retries made for the oldest request and when it was last sent or progress was made, the descriptors fetched
by index and the next index to fetch. -/
structure Qp where
  out : List Rdma := []
  queue : List Rdma := []
  sPsn : Nat := 0
  ePsn : Nat := 0
  retries : Nat := 0
  progress : Nat := 0
  fetched : List (Nat × List Byte) := []
  fetchNext : Nat := 0
  deriving DecidableEq, Repr

/-- A die result waiting for the result ring (R376, R377). -/
structure ResultRec where
  die : Nat
  payload : List Byte
  deriving DecidableEq, Repr

/-- What the host transport holds beside the QPs: the commands started in order of starting, the turn of R22, results
waiting, the result ring's indices and SEQ, helm key mismatches in the last second, the end of a lockout, the PFC pauses with the
instant they run out, by 8 times the port plus the priority, the lengths of host-transport frames in the receive buffer, and whether a PFC pause is
out (R352). -/
structure HostPath where
  cmds : List HostCmd := []
  turn : Nat := 0
  results : List ResultRec := []
  resPi : Nat := 0
  resCi : Nat := 0
  resSeq : Nat := 0
  misses : List Nat := []
  lockout : Option Nat := none
  pauses : List (Nat × Nat) := []
  rx : List (Nat × Nat) := []
  xoff : Bool := false
  deriving DecidableEq, Repr

end Sys2Proof.Machine
end

