-- ==== Sys2Proof/Syntax.lean ====
section
/-! DEFINITION. The commands of the TVK-1536, one constructor per row of spec/opcode_table.json, in the table's order. A command carries
what comes from outside the device or what the spec leaves to it: a master `m`, an address space `al`, a pin `n`, a strand `k`, a port `p`,
register data `d`, the instant `at_` of an event that nothing in the device schedules (in units of 1/512 engine period of the device
clock), and what a measurement or a check found. -/

namespace Sys2Proof

open Sys2Proof.Machine

/-- The commands. -/
inductive Instr where
  /-- REG_WRITE (R40): A register write burst from any master to registers that have no row of their own is checked word by word and then executed or rejected as a whole. -/
  | regWrite (m : Master) (addr : BitVec 24) (data : List Word) (tail : Fin 4)
  /-- RC_READ (R42): A read of a register with RC fields returns the value and clears those fields atomically. -/
  | rcRead (m : Master) (addr : BitVec 24) (count : Nat) (tail : Fin 4)
  /-- SNAP_WRITE (R66): A write of an RC register offset to a _SNAP register copies that register without clearing it. -/
  | snapWrite (m : Master) (addr : BitVec 22) (offset : Word)
  /-- DEV_LOCK_WRITE (R54): A write to DEV_LOCK sets the lock bits written as 1, and set-only bits cannot be cleared. -/
  | devLockWrite (m : Master) (al : Alias) (d : Word)
  /-- UPD_STROBE (R51): A write to DEV_UPD_STROBE applies every pending shadow of each group in the mask at once. -/
  | updStrobe (m : Master) (mask : Word)
  /-- UPD_ARM (R53): Writing DEV_UPD_CTRL.ARM = 1 arms the scheduled strobe, or refuses it as late. -/
  | updArm (m : Master) (slack : Bool)
  /-- UPD_DISARM (R53): Writing DEV_UPD_CTRL.ARM = 0 disarms the scheduled strobe. -/
  | updDisarm (m : Master)
  /-- SCHEDULED_STROBE (R418): At the first engine clock edge at or after TL_UPD_AT, the armed strobe applies its groups and clears ARM. -/
  | scheduledStrobe
  /-- PS_LIM_WRITE (R73): An accepted write to PS_LIM re-clips the driver level codes in force at once. -/
  | psLimWrite (m : Master) (al : Alias) (n : Fin 1536) (d : Word)
  /-- PM_LIM_WRITE (R290): An accepted write to PM_LIM_V or PM_LIM_I re-clips the force code, the clamps and the range in force at once. -/
  | pmLimWrite (m : Master) (al : Alias) (n : Fin 1536) (current : Bool) (d : Word)
  /-- PS_EVT_ARM (R88): Writing PS_EVT.ARM = 1 arms the pin's event, records AT_ARM and clears FIRED. -/
  | psEvtArm (m : Master) (n : Fin 1536) (target : Fin 8) (ring : Bool) (wake : Bool)
  /-- PS_EVT_DISARM (R88): Writing PS_EVT.ARM = 0 disarms the pin's event. -/
  | psEvtDisarm (m : Master) (n : Fin 1536) (target : Fin 8) (ring : Bool) (wake : Bool)
  /-- COMPARATOR_DECISION (R83): A comparator decision changes as the ball leaves a hysteresis band or a decision is remade, and STATE is updated. -/
  | comparatorDecision (n : Fin 1536) (hi : Fin 3) (lo : Fin 3) (at_ : Nat)
  /-- CMP_SETTLED (R81): The settling time of a new comparator mode expires and the decisions are made from the input. -/
  | cmpSettled (n : Fin 1536) (hi : Fin 3) (lo : Fin 3)
  /-- HOLD_REFRESH (R87): Every 1 ms the ebb clock refreshes the threshold hold stages of sleeping coves. -/
  | holdRefresh
  /-- BW_TRIP (R93): A breakwater condition persists for the qualification time, the trip latches and every pin of its scope goes SAFE. -/
  | bwTrip (n : Fin 1536) (ovh : Bool) (ovl : Bool) (oc : Bool) (at_ : Nat)
  /-- BW_ENGAGE_CHECK (R96): One microsecond after a trip latch, the breakwater checks each pin of the scope, and a failure raises a Grave fault. -/
  | bwEngageCheck (bad : List (Fin 1536))
  /-- BW_REARM (R98): Writing PS_BW_CTRL.REARM = 1 ends the trip and returns the scope to DISCONNECTED, or it is refused while a condition remains. -/
  | bwRearm (m : Master) (n : Fin 1536) (action : Fin 4) (present : Bool)
  /-- DRIVE_EVENT (R116): A scheduled drive event of a pin fires and sets the driver condition. -/
  | driveEvent (n : Fin 1536)
  /-- STROBE_EVENT (R112): A strobe event fires and evaluates the compare against the comparator decisions. -/
  | strobeEvent (n : Fin 1536)
  /-- WV_DATA_WRITE (R123): A write through WV_DATA changes a wave table field, or is refused while the strand runs. -/
  | wvDataWrite (m : Master) (al : Alias) (k : Fin 192) (d : Word)
  /-- ED_EDGE_WRITE (R123): A write through ED_E0 to ED_E5 changes an edge value, or is refused when it addresses the bank in force while the strand runs. -/
  | edEdgeWrite (m : Master) (al : Alias) (k : Fin 192) (e : Fin 6) (d : Word)
  /-- NEXT (R128): A NEXT step word is executed as a step and the following word is selected. -/
  | next (k : Fin 192)
  /-- RPT (R128): An RPT step word repeats its step N more times before the following word. -/
  | rpt (k : Fin 192)
  /-- LOOP_BEGIN (R131): LOOP_BEGIN pushes a loop frame, or skips the body when the count is zero. -/
  | loopBegin (k : Fin 192)
  /-- LOOP_END (R131): LOOP_END decrements the loop frame and loops back or pops the frame. -/
  | loopEnd (k : Fin 192)
  /-- CALL (R128): CALL pushes a return address and transfers to step 0 of a segment. -/
  | call (k : Fin 192)
  /-- RET (R128): RET returns to the word after the CALL that pushed the return address. -/
  | ret (k : Fin 192)
  /-- JMP (R128): JMP transfers to step 0 of the named segment. -/
  | jmp (k : Fin 192)
  /-- JIF (R133): JIF evaluates its condition at decode and branches through the branch target table when the condition holds. -/
  | jif (k : Fin 192)
  /-- MATCH (R135): MATCH closes a MATCH block, and the block passes, iterates again or times out on its fail mask. -/
  | matchOp (k : Fin 192)
  /-- TRIG (R149): TRIG pulses the selected TRIG balls and the acquisition engine. -/
  | trig (k : Fin 192)
  /-- MARK (R150): MARK sets the selected markers at the step start. -/
  | mark (k : Fin 192)
  /-- WAIT_SLACK (R145): WAIT_SLACK starts a wait for an instant or for a lash sync, or is missed. -/
  | waitSlack (k : Fin 192)
  /-- SLACK_WAIT_DONE (R145): The WAIT_SLACK instant is reached and the step starts after one held step. -/
  | slackWaitDone (k : Fin 192)
  /-- LASH_SYNC_MET (R284): The last member of a split group reaches its sync, and the waiting members start together and rejoin their leader. -/
  | lashSyncMet (k : Fin 192)
  /-- SYNC_TO (R146): A lash sync timeout passes and the strand halts with cause SYNC_TO. -/
  | syncTo (k : Fin 192)
  /-- PARK_OP (R152): PARK executes its step and the strand parks. -/
  | parkOp (k : Fin 192)
  /-- HALT_OP (R152): HALT executes its step and the strand halts. -/
  | haltOp (k : Fin 192)
  /-- ILLEGAL_OP (R128): A reserved opcode or reserved JIF condition halts the strand before the step with cause ILLEGAL_OP. -/
  | illegalOp (k : Fin 192)
  /-- HOLD_STEP (R143): A transfer target word is absent at its read point and the strand issues a hold step. -/
  | holdStep (k : Fin 192)
  /-- HOLD_LIMIT (R144): HOLD_LIMIT passes with the word still absent and the strand parks with cause UNDERRUN. -/
  | holdLimit (k : Fin 192)
  /-- RUN_START (R151): At the slack-water instant, the first step of an accepted run or resumption starts. -/
  | runStart (k : Fin 192)
  /-- SQ_HALT (R152): SQ_CMD HALT stops the strand with cause HOST_HALT. -/
  | sqHalt (m : Master) (k : Fin 192)
  /-- SQ_RESUME (R154): SQ_CMD RESUME resumes a parked strand within 1 µs. -/
  | sqResume (m : Master) (k : Fin 192)
  /-- SQ_LEDGER_CLR (R158): SQ_CMD LEDGER_CLR clears the step ledger of an idle or halted strand. -/
  | sqLedgerClr (m : Master) (k : Fin 192)
  /-- SQ_BT_WRITE (R159): A write through SQ_BT_DATA sets a branch target entry, or is refused while the strand runs. -/
  | sqBtWrite (m : Master) (al : Alias) (k : Fin 192) (d : Word)
  /-- AG_TAB_WRITE (R177): A write through AG_TAB_DATA changes an ALPG table entry, or is refused. -/
  | agTabWrite (m : Master) (al : Alias) (k : Fin 192) (d : Word)
  /-- GRANULE_REFILL (R197): A requested step granule arrives and is checked against its CRC-16, then cached or retried. -/
  | granuleRefill (k : Fin 192) (seg : Nat) (gran : Nat) (read1 : Bool) (read2 : Bool) (t : Nat)
  /-- REQUEST_PROMOTION (R20): A class 4, 5 or 6 memory request that has waited 20 µs moves to class 3. -/
  | requestPromotion
  /-- PREFETCH_WINDOW (R187): The 4 µs window before a channel's retraining pause opens and the lookahead extends for that channel. -/
  | prefetchWindow (c : Fin 8)
  /-- RETRAIN_PAUSE_START (R186): A due retraining pause starts on one channel, forced after 100 µs of waiting. -/
  | retrainPauseStart (c : Fin 8)
  /-- RETRAIN_PAUSE_END (R186): A channel's retraining pause ends and its waiting requests are served. -/
  | retrainPauseEnd (c : Fin 8) (ok : Bool)
  /-- SELF_REFRESH_ENTRY (R189): With every cove asleep and no request outstanding, the memory enters partial-array self-refresh. -/
  | selfRefreshEntry
  /-- SELF_REFRESH_EXIT (R189): A request or cove wake request brings the memory out of self-refresh and each channel retrains. -/
  | selfRefreshExit
  /-- SEG_WRITE (R193): The SEG_WRITE command starts the transfer of a segment image. -/
  | segWrite
  /-- SEG_IMAGE_RECEIVED (R195): A received segment image is checked and loaded, or refused. -/
  | segImageReceived
  /-- SEG_FREE (R196): SEG_FREE frees an inactive segment's groups and closes its stream. -/
  | segFree
  /-- STREAM_OPEN (R201): STREAM_OPEN opens a host stream for one segment, or is refused. -/
  | streamOpen
  /-- STREAM_PULL (R200): The device pulls an available stream granule by RDMA READ into the stream buffer. -/
  | streamPull (n : Fin 16)
  /-- ACTIVE_TEST_CHANGE (R204): The device's active-test state changes and it announces ACTIVE to its ring. -/
  | activeTestChange
  /-- FAIL_EVENT (R206): A strand forms the fail event of a step, counts it and queues it or counts it only. -/
  | failEvent (k : Fin 192)
  /-- FAIL_SWITCH_ACCEPT (R17): The fail switch accepts a queued event, journals it and offers it to its splice lane. -/
  | failSwitchAccept
  /-- JOURNAL_GROUP_TIMEOUT (R212): One microsecond after a group's first record, the partial journal group is padded and sent to DRAM. -/
  | journalGroupTimeout
  /-- JOURNAL_GROUP_WRITTEN (R221): A journal group reaches DRAM and its fail event records are counted in FL_JRN_EV. -/
  | journalGroupWritten
  /-- TIME_BASE (R216): After 2^39 engine cycles the journal writer inserts a time-base record. -/
  | timeBase
  /-- END_MARK (R218): A halted strand whose strobes are evaluated and whose queue has drained writes its end mark. -/
  | endMark (k : Fin 192)
  /-- JRN_RESET (R219): FL_DEV_CMD.JRN_RESET flushes the writer and restarts the journal at group 0. -/
  | jrnReset (m : Master)
  /-- JOURNAL_AUDIT (R227): FL_DEV_CMD.AUDIT starts a scan of the journal against end marks. -/
  | journalAudit (m : Master)
  /-- JOURNAL_AUDIT_DONE (R227): The journal audit scan finishes and reports imbalances. -/
  | journalAuditDone (bad : List Nat)
  /-- FL_LEDGER_CLR (R230): FL_CMD.LEDGER_CLR clears the strand's fail ledger. -/
  | flLedgerClr (m : Master) (k : Fin 192)
  /-- FL_DIE_WRITE (R230): A write to FL_DIE sets the strand's die, or is refused. -/
  | flDieWrite (m : Master) (al : Alias) (k : Fin 192) (d : Word)
  /-- LEDGER_READ (R229): LEDGER_READ snapshots and writes the ledgers of the named strands and the device. -/
  | ledgerRead
  /-- LANE_FOLD (R241): A splice lane takes an event and folds its cells into the die, segment, row and column contexts. -/
  | laneFold (l : Fin 16) (bad : List Nat)
  /-- CONTEXT_FETCHED (R238): A context fetched from DRAM arrives in the pool and waiting events fold. -/
  | contextFetched (slot : Nat) (good : Bool)
  /-- SP_FINAL (R244): SP_CMD FINAL starts the final splice of a die. -/
  | spFinal (m : Master) (die : BitVec 16)
  /-- SP_FINAL_ALL (R244): SP_CMD FINAL_ALL starts the final splice of every placed die it can. -/
  | spFinalAll (m : Master)
  /-- SP_RELEASE (R240): SP_CMD RELEASE frees a die's contexts without a result. -/
  | spRelease (m : Master) (die : BitVec 16)
  /-- LANE_SPLICE_DONE (R246): A lane finishes its work of a final splice, and the die result is combined when all lanes are done. -/
  | laneSpliceDone (l : Fin 16) (d : Nat) (badGroups : List Nat) (badCtx : Bool)
  /-- RESULT_WRITE (R377): A waiting die result is written to the result ring once it has room, and the die's contexts are released. -/
  | resultWrite
  /-- WORK_ORDER (R371): The WORK_ORDER command starts fetching a work order. -/
  | workOrder
  /-- WORK_ORDER_RECEIVED (R262): The whole work order is in the device and the placement engine decides. -/
  | workOrderReceived
  /-- PLACEMENT_DECIDED (R275): The placement decision completes and the apply begins once running final splices have written their results. -/
  | placementDecided
  /-- PLACEMENT_APPLIED (R272): The apply of a placement completes and WORK_ORDER completes. -/
  | placementApplied
  /-- PL_RELEASE (R276): PL_CMD.RELEASE removes the placement in force. -/
  | plRelease (m : Master)
  /-- PM_FORCE_DIRECT_WRITE (R297): A write to PM_FORCE_DIRECT sets the force code in force and the PM_FORCE shadow at once. -/
  | pmForceDirectWrite (m : Master) (al : Alias) (n : Fin 1536) (d : Word)
  /-- PMU_CONNECT_CLOSE (R292): Five microseconds into a connect, the PMU switch closes and the state becomes FV or FI. -/
  | pmuConnectClose (n : Fin 1536)
  /-- PMU_DISCONNECT_OFF (R292): One microsecond into a disconnect with MODE = OFF, the force amplifier is disabled. -/
  | pmuDisconnectOff (n : Fin 1536)
  /-- PMU_RANGE_LIMIT_MOVE (R293): One microsecond into a range change, the current limit moves to the new range. -/
  | pmuRangeLimitMove (n : Fin 1536) (outside : Bool)
  /-- PMU_RANGE_OLD_OPEN (R293): Two microseconds into a range change, the old sense path opens. -/
  | pmuRangeOldOpen (n : Fin 1536)
  /-- PMU_RANGE_DONE (R293): A range change completes and the PMU leaves RANGING. -/
  | pmuRangeDone (n : Fin 1536)
  /-- CONVERSION_END (R301): A converter conversion ends and its corrected result reaches AD_DATA. -/
  | conversionEnd (n : Fin 1536) (raw : Int)
  /-- SINE_SAMPLE (R309): The sine generator advances its phase and outputs one sample to the driven force DACs. -/
  | sineSample (k : Fin 192)
  /-- SG_TAB_WRITE (R312): A write through SG_TAB_DATA changes a sine table entry, or is refused while enabled. -/
  | sgTabWrite (m : Master) (al : Alias) (k : Fin 192) (d : Word)
  /-- TD_START (R319): TD_CTRL.START begins a TDC measurement. -/
  | tdStart (m : Master) (n : Fin 1536)
  /-- TD_STOP (R319): TD_CTRL.STOP ends the measurement with status STOPPED. -/
  | tdStop (m : Master) (n : Fin 1536)
  /-- TDC_CAL_DONE (R317): The interpolator calibration completes and the measurement proceeds or ends with CAL_FAIL. -/
  | tdcCalDone (n : Fin 1536) (m1 : Nat) (m2 : Nat)
  /-- TDC_TIMEOUT (R319): TD_CFG.TIMEOUT passes and the measurement ends with TIMEOUT. -/
  | tdcTimeout (n : Fin 1536)
  /-- AQ_START (R320): AQ_CTRL.START moves the acquisition engine from IDLE to PRE. -/
  | aqStart (m : Master) (k : Fin 192)
  /-- AQ_STOP (R330): AQ_CTRL.STOP ends capture. -/
  | aqStop (m : Master) (k : Fin 192)
  /-- AQ_FORCE (R323): AQ_CTRL.FORCE triggers the acquisition engine. -/
  | aqForce (m : Master) (k : Fin 192)
  /-- AQ_CMP_SAMPLE (R321): A CMP acquisition sample is taken every AQ_DIV engine cycles. -/
  | aqCmpSample (k : Fin 192)
  /-- AQ_REARM_DONE (R327): The record header is written and the acquisition engine re-enters PRE. -/
  | aqRearmDone (k : Fin 192) (ns : Nat)
  /-- AQ_SPILL_WRITTEN (R328): A block of acquisition rows reaches the spill area in DRAM. -/
  | aqSpillWritten (k : Fin 192)
  /-- CAL_TIMING (R343): CB_CMD KIND TIMING starts a timing calibration run. -/
  | calTiming (m : Master) (strand : Fin 256) (pins : BitVec 8) (ctx : Fin 4)
  /-- CAL_LEVELS (R343): CB_CMD KIND LEVELS starts a level calibration run. -/
  | calLevels (m : Master) (strand : Fin 256) (pins : BitVec 8) (ctx : Fin 4)
  /-- CAL_CONV (R345): CB_CMD KIND CONV starts a converter calibration run through the test DAC. -/
  | calConv (m : Master) (strand : Fin 256) (pins : BitVec 8) (ctx : Fin 4)
  /-- CAL_SYS_ZERO (R344): CB_CMD KIND SYS_ZERO measures the zero input of a system calibration. -/
  | calSysZero (m : Master) (strand : Fin 256) (pins : BitVec 8) (ctx : Fin 4) (src : Fin 8)
  /-- CAL_SYS_FS (R344): CB_CMD KIND SYS_FS measures the reference and computes the converter pair. -/
  | calSysFs (m : Master) (strand : Fin 256) (pins : BitVec 8) (ctx : Fin 4) (src : Fin 8)
  /-- CAL_ABORT (R342): CB_CMD KIND ABORT ends the run on the strand with ABORTED. -/
  | calAbort (m : Master) (strand : Fin 256)
  /-- CAL_RUN_END (R347): A calibration run ends and its accepted values are written to the shadows. -/
  | calRunEnd (c : Fin 16) (meas : List CalMeas) (temp : BitVec 8)
  /-- CB_DATA_WRITE (R333): A write through CB_DATA sets a calibration item shadow, or is refused. -/
  | cbDataWrite (m : Master) (al : Alias) (d : Word)
  /-- CB_COMMIT (R349): CB_COMMIT with CONFIRM and GO starts copying the values in force to the calibration store. -/
  | cbCommit (m : Master) (confirm : BitVec 16)
  /-- CB_COMMIT_DONE (R349): The calibration commit completes and sets COMMIT_DONE. -/
  | cbCommitDone (ok : Bool) (at_ : Nat)
  /-- CAL_RUN (R371): The CAL_RUN command starts a calibration run. -/
  | calRun
  /-- KNOCK (R362): A 16-byte knock SEND delivers a new ring or stream index. -/
  | knock (h : RoceHead) (payload : List Byte) (at_ : Nat)
  /-- DOORBELL_POLL (R363): Once per TL_POLL interval, the device reads each doorbell record and takes the indices. -/
  | doorbellPoll (at_ : Nat)
  /-- WINDOW_WRITE (R357): An RDMA WRITE to the register window executes as one burst. -/
  | windowWrite (h : RoceHead) (va : BitVec 64) (rkey : Word) (data : List Byte) (at_ : Nat)
  /-- WINDOW_READ (R357): An RDMA READ to the register window executes as one burst and returns the data. -/
  | windowRead (h : RoceHead) (va : BitVec 64) (rkey : Word) (len : Word) (at_ : Nat)
  /-- RDMA_READ_RESPONSE (R350): Data of a device RDMA READ arrives from the host. -/
  | rdmaReadResponse (h : RoceHead) (data : List Byte) (at_ : Nat)
  /-- RDMA_ACK (R350): The host acknowledges a device RDMA request. -/
  | rdmaAck (h : RoceHead) (at_ : Nat)
  /-- NAK_RCVD (R354): The host NAKs a device request and the QP enters ERROR. -/
  | nakRcvd (h : RoceHead) (at_ : Nat)
  /-- ACK_TIMEOUT (R350): The local ACK timeout expires, and the device retransmits or puts the QP into ERROR. -/
  | ackTimeout (q : Fin 64)
  /-- PFC_FRAME (R352): A PFC frame pauses or resumes host-transport transmission on its priority. -/
  | pfcFrame (p : Fin 2) (enable : BitVec 8) (quanta : List (BitVec 16)) (at_ : Nat)
  /-- QP_ENABLE (R353): Writing HT_QPn_CTRL.EN = 1 checks the set-up and moves the QP to RTS. -/
  | qpEnable (m : Master) (q : Fin 64) (cfg : Word)
  /-- QP_DISABLE (R354): Writing HT_QPn_CTRL.EN = 0 stops the QP and moves it to DISABLED. -/
  | qpDisable (m : Master) (q : Fin 64) (cfg : Word)
  /-- COMMAND_START (R367): A fetched command descriptor is checked and started once its conditions hold. -/
  | commandStart
  /-- RUN_AT (R371): RUN_AT schedules runs or resumptions of the named strands at tideline time T. -/
  | runAt
  /-- HALT (R371): The HALT command stops each named strand with cause HOST_HALT. -/
  | halt
  /-- RESULT_FETCH (R371): RESULT_FETCH writes journal groups or acquisition records to host memory. -/
  | resultFetch (bad : List Nat)
  /-- REG_BATCH (R372): REG_BATCH executes a list of register bursts with one status. -/
  | regBatch
  /-- HELM_CLAIM (R355): HELM_CLAIM compares a key with the helm key and makes the QP privileged on a match. -/
  | helmClaim
  /-- LOCKOUT_END (R355): The 10 s HELM_CLAIM lockout ends. -/
  | lockoutEnd
  /-- HELM_ACK (R457): HELM_ACK acknowledges a pending helm transfer. -/
  | helmAck
  /-- NOP (R371): NOP completes at its start. -/
  | nop
  /-- EVENT_WRITE (R375): A held event record, or a LOST record, is written to the event ring when room exists. -/
  | eventWrite
  /-- FRAME_FORWARD (R381): A frame received on a ring port is consumed, removed or forwarded cut-through. -/
  | frameForward (p : Fin 2) (f : EthFrame) (at_ : Nat)
  /-- TIDE_MARK (R413): A tide mark MARK arrives, yields the tideline offset and is forwarded with CORR updated. -/
  | tideMark (p : Fin 2) (f : Adeo) (at_ : Nat) (half : Bool) (stay : Nat)
  /-- PDELAY_REQ (R413): A PDELAY_REQ arrives and is answered with a PDELAY_RESP. -/
  | pdelayReq (p : Fin 2) (f : Adeo) (at_ : Nat) (half : Bool) (stay : Nat)
  /-- PDELAY_RESP (R413): A PDELAY_RESP arrives and updates the port's mean link delay. -/
  | pdelayResp (p : Fin 2) (f : Adeo) (at_ : Nat) (half : Bool)
  /-- AUDIT (R391): An AUDIT frame arrives and the sender checks the ring credit identity. -/
  | audit (p : Fin 2) (f : Adeo) (at_ : Nat)
  /-- SLACK (R395): A SLACK frame arrives, and the device enters the slack state and forwards the frame. -/
  | slack (p : Fin 2) (f : Adeo) (at_ : Nat)
  /-- HEARTBEAT (R392): A HEARTBEAT arrives and ring hardware answers with an HB_REPLY. -/
  | heartbeat (p : Fin 2) (f : Adeo) (at_ : Nat)
  /-- HB_REPLY (R393): An HB_REPLY arrives and resets the port's miss count. -/
  | hbReply (p : Fin 2) (f : Adeo) (at_ : Nat)
  /-- CREDIT (R390): A CREDIT frame arrives and returns credit to the sender. -/
  | credit (p : Fin 2) (f : Adeo) (at_ : Nat)
  /-- ACTIVE (R400): An ACTIVE frame updates the active-test map and MC_RING_ACTIVE. -/
  | active (p : Fin 2) (f : Adeo) (at_ : Nat)
  /-- LINK (R399): A LINK announcement arrives and host traffic turns away from the break. -/
  | link (p : Fin 2) (f : Adeo) (at_ : Nat)
  /-- LINK_INIT (R389): A LINK_INIT frame arrives and sets the link's credit counters. -/
  | linkInit (p : Fin 2) (f : Adeo) (at_ : Nat)
  /-- CREDIT_TIMEOUT (R390): Two microseconds after a cell becomes pending, the receiver sends a CREDIT frame. -/
  | creditTimeout (p : Fin 2)
  /-- AUDIT_GUARD (R391): One microsecond before an audit instant, credited and CREDIT transmission pauses. -/
  | auditGuard
  /-- AUDIT_INSTANT (R391): At each 10 ms multiple of tideline, the ports snapshot their credit counters and receivers send AUDIT frames. -/
  | auditInstant
  /-- AUDIT_TIMEOUT (R391): No AUDIT frame arrives within 100 µs and the link stays unchecked. -/
  | auditTimeout
  /-- HEARTBEAT_SEND (R393): Every RG_HB.PERIOD, each port with its link up sends a neighbour heartbeat. -/
  | heartbeatSend
  /-- HB_MISS (R393): MISS consecutive heartbeats go unanswered and the port declares its link down. -/
  | hbMiss (p : Fin 2)
  /-- PCS_LOCK_LOSS (R398): Loss of PCS lock for 10 µs takes the link down and a LINK announcement is sent. -/
  | pcsLockLoss (p : Fin 2) (bypass : Bool) (at_ : Nat)
  /-- FEC_UNCORRECTABLE (R389): An uncorrectable FEC codeword takes the link down and reinitialises it. -/
  | fecUncorrectable (p : Fin 2) (at_ : Nat)
  /-- LINK_TRAINED (R389): A link comes up after training and the link initialisation begins. -/
  | linkTrained (p : Fin 2) (at_ : Nat)
  /-- RG_CMD_SLACK (R394): RG_CMD.SLACK originates slack on both ports. -/
  | rgCmdSlack (m : Master)
  /-- RG_CMD_SLACK_CLR (R397): RG_CMD.SLACK_CLR ends the slack state, or is refused. -/
  | rgCmdSlackClr (m : Master)
  /-- RG_BYPASS_GO (R402): RG_BYPASS.GO with CONFIRM drops RELAY_HOLD until reset. -/
  | rgBypassGo (m : Master) (confirm : BitVec 16)
  /-- ACTIVE_REPEAT (R400): Every 1 ms, the device repeats its ACTIVE frame. -/
  | activeRepeat
  /-- ACTIVE_EXPIRY (R400): An active-test map entry not refreshed for 3 ms expires. -/
  | activeExpiry
  /-- TIDE_MARK_SEND (R412): Every 15.625 ms, the time master originates tide marks on both ports. -/
  | tideMarkSend (e : Nat) (w : Nat)
  /-- PDELAY_REQ_SEND (R413): Every 1 ms, each port sends a PDELAY_REQ. -/
  | pdelayReqSend (p : Fin 2) (out : Nat)
  /-- PPS_EDGE (R408): A rising PPS_IN edge marks a whole second of external time. -/
  | ppsEdge (at_ : Nat) (half : Bool)
  /-- SOURCE_APPEAR (R407): A time source appears and tideline enters ACQUIRE. -/
  | sourceAppear (w : Fin 3) (at_ : Nat)
  /-- SOURCE_LOSS (R408): REF_IN, PPS_IN or tide marks are missing for their limit, and tideline changes source or state. -/
  | sourceLoss (w : Fin 3) (at_ : Nat)
  /-- LOCK_ACHIEVED (R407): The offset stays within 100 ns for 1 s and tideline enters LOCKED. -/
  | lockAchieved
  /-- AGEING_UPDATE (R406): Every 1 s, the oscillator ageing term is updated. -/
  | ageingUpdate
  /-- TL_AGE_WRITE (R406): A write to TL_AGE_TRIM or TL_AGE_RATE restarts the ageing accumulation. -/
  | tlAgeWrite (m : Master) (al : Alias) (rate : Bool) (d : Word)
  /-- TL_SET (R410): TL_CMD.SET loads tideline from TL_SET and enters FREE, or is refused. -/
  | tlSet (m : Master)
  /-- TL_SETTLE (R414): TL_CMD.SETTLE starts an asymmetry settlement on the master. -/
  | tlSettle (m : Master)
  /-- SETTLE_DONE (R414): Sixty-four settle marks of each direction have arrived and TL_ASYM is set, or the settlement fails. -/
  | settleDone
  /-- EBB_TRIM (R421): Every 1 s while tideline is valid, the ebb clock is measured and trimmed. -/
  | ebbTrim
  /-- CV_WAKE (R423): CV_CMD.WAKE requests a cove wake. -/
  | cvWake (m : Master) (c : Fin 16)
  /-- COVE_WAKE_ADMIT (R24): A pending cove wake is admitted and its PLL starts, at least 50 µs after the previous one. -/
  | coveWakeAdmit
  /-- COVE_PLL_LOCKED (R423): The cove PLL locks and the engine clock reaches the strands. -/
  | covePllLocked (c : Fin 16) (at_ : Nat)
  /-- LOCK_FAIL (R424): The cove PLL is not locked 100 µs after its start, and the cove returns to sleep. -/
  | lockFail (c : Fin 16)
  /-- COVE_SETTLED (R423): Two hundred microseconds after the PLL start, the cove's pin electronics are settled and it is AWAKE. -/
  | coveSettled (c : Fin 16)
  /-- LOCK_LOST (R424): An awake cove's PLL loses lock, and the cove sleeps with its strands halted by CLOCK_LOSS. -/
  | lockLost (c : Fin 16) (at_ : Nat)
  /-- COVE_SLEEP (R425): A cove that meets the sleep conditions goes to sleep. -/
  | coveSleep (c : Fin 16)
  /-- DEV_PWR_DEEP (R427): DEV_PWR_CMD DEEP puts the device into deep standby. -/
  | devPwrDeep (m : Master) (confirm : BitVec 16)
  /-- DEV_PWR_WAKE (R428): DEV_PWR_CMD WAKE over SPI, or an enabled comparator event, leaves deep standby. -/
  | devPwrWake (event : Option (Fin 1536))
  /-- STARTUP (R432): The start-up sequence runs from the later of the PWR_OK and RST_N rising edges. -/
  | startup (f : StartFacts)
  /-- PWR_OK_FALL (R430): PWR_OK low for 1 µs resets the whole device, the always-on domain included. -/
  | pwrOkFall
  /-- RST_N_FALL (R431): RST_N low resets everything outside the always-on domain and part of it. -/
  | rstNFall
  /-- SUPPLY_EXCURSION (R507): A rail leaves its monitor limits and a Note is raised. -/
  | supplyExcursion (k : Fin 8) (at_ : Nat)
  /-- SUPPLY_GRAVE (R430): A rail has been out of limits for 50 µs and a Grave fault is raised. -/
  | supplyGrave (k : Fin 8)
  /-- RT_SELFTEST_STRAND (R439): BI_RT_CMD KIND STRAND starts a runtime self-test of a strand. -/
  | rtSelftestStrand (m : Master) (num : Fin 256) (subst : Bool)
  /-- RT_SELFTEST_ENGINE (R439): BI_RT_CMD KIND ENGINE starts a runtime self-test of an engine. -/
  | rtSelftestEngine (m : Master) (num : Fin 256) (subst : Bool)
  /-- RT_SELFTEST_LANE (R439): BI_RT_CMD KIND LANE starts a runtime self-test of a splice lane. -/
  | rtSelftestLane (m : Master) (num : Fin 256)
  /-- RT_SELFTEST_END (R441): Fourteen milliseconds after acceptance, the runtime self-test ends with its outcome. -/
  | rtSelftestEnd (v : RtVerdict)
  /-- FAULT_MESSAGE (R446): A fault message opens or merges into its source's record and the class actions are taken. -/
  | faultMessage (raised : Option FaultMsg)
  /-- FC_ACK (R445): A write to FC_ACK closes a source's record, or is refused. -/
  | fcAck (m : Master) (source : Fin 4096)
  /-- FC_FORCE (R453): FC_FORCE with GO injects a forced fault message. -/
  | fcForce (m : Master) (d : Word)
  /-- FC_REC_SEL (R447): A write to FC_REC_SEL captures a source's record into FC_REC0–3. -/
  | fcRecSel (m : Master) (al : Alias) (d : Word)
  /-- FC_LOG_SEL (R448): A write to FC_LOG_SEL captures a history entry into FC_LOG0–3. -/
  | fcLogSel (m : Master) (al : Alias) (d : Word)
  /-- COLLECTOR_SELFCHECK (R454): Every 100 ms, the collector passes a test message through its path and compares the result. -/
  | collectorSelfcheck (result : Option Bool)
  /-- SELFCHECK_TIMEOUT (R454): A collector self-check not completed within 1 ms raises SELFCHECK and Grave actions. -/
  | selfcheckTimeout
  /-- FC_WDT_KICK (R455): A Beacon write to FC_WDT_KICK restarts the watchdog interval. -/
  | fcWdtKick (m : Master) (d : Word)
  /-- WATCHDOG_EXPIRY (R455): An interval passes without a kick, and Beacon is held while helm passes to the host. -/
  | watchdogExpiry
  /-- HELM_TIMEOUT (R457): A helm transfer has gone 1 s unacknowledged, and a Device record opens and RELAY_HOLD drops. -/
  | helmTimeout
  /-- FC_HELM_ACK (R457): FC_HELM_CMD.ACK acknowledges the pending helm transfer. -/
  | fcHelmAck (m : Master)
  /-- FC_HELM_RESET (R458): FC_HELM_CMD.RESET with CONFIRM resets Beacon alone. -/
  | fcHelmReset (m : Master) (confirm : BitVec 16)
  /-- FC_HELM_RETURN (R459): FC_HELM_CMD.RETURN returns helm to a running Beacon. -/
  | fcHelmReturn (m : Master)
  /-- BEACON_BOOT_DONE (R458): Beacon's boot code finishes verifying the firmware after a reset, and Beacon runs or stays stopped. -/
  | beaconBootDone (fw : Option Word) (at_ : Nat)
  /-- SENSOR_READ (R461): Every 10 µs, the thermal monitor reads one sensor and updates the maximum and the thermal level. -/
  | sensorRead (ok : Bool) (raw : BitVec 16)
  /-- THERMAL_HALT_DEADLINE (R462): Ten milliseconds after HALT entry, strands that reached no segment start halt with THERMAL. -/
  | thermalHaltDeadline
  /-- THERMAL_RESTART (R464): The maximum has stayed below 95 °C for 10 s and the device restarts into standby. -/
  | thermalRestart
  /-- TH_EXCLUDE_WRITE (R465): A write to TH_EXCLUDE excludes sensors and takes their coves' engines out of service. -/
  | thExcludeWrite (m : Master) (al : Alias) (d : Word)
  /-- CS_LOAD (R475): CS_CMD LOAD verifies a slot's BASE image and loads it into every engine. -/
  | csLoad (m : Master) (slot : Fin 2)
  /-- CS_APPLY_PATCH (R475): CS_CMD APPLY_PATCH verifies the staged PATCH image and loads it into every engine. -/
  | csApplyPatch (m : Master)
  /-- CS_CLEAR_PATCH (R475): CS_CMD CLEAR_PATCH restores the patch section of the base in force. -/
  | csClearPatch (m : Master)
  /-- CS_PROGRAM (R475): CS_CMD PROGRAM checks the staged image and writes it to a flash slot. -/
  | csProgram (m : Master) (slot : Fin 2)
  /-- CS_COMMAND_DONE (R472): A microcode command ends with its result code after read-back of every engine. -/
  | csCommandDone (bad : List (Fin 208)) (at_ : Nat)
  /-- SPI_READ (R484): An SPI READ frame fetches consecutive words one by one. -/
  | spiRead (waddr : BitVec 22) (words : Nat) (cut : Bool)
  /-- SPI_WRITE (R483): An SPI WRITE frame executes its words as one burst at the SPI_CS_N rising edge. -/
  | spiWrite (waddr : BitVec 22) (data : List Word) (bits : Fin 32)
  /-- SPI_BAD_CMD (R482): An SPI frame with a reserved command accesses nothing and sets BAD_CMD. -/
  | spiBadCmd (waddr : BitVec 22) (words : Nat) (whole : Bool)
  /-- LS_FLUSH (R497): LS_CMD FLUSH requests a flush of the lifetime counts to flash. -/
  | lsFlush (m : Master)
  /-- SCHEDULED_FLUSH (R497): Every 10 minutes, a flush of the lifetime counts starts. -/
  | scheduledFlush
  /-- LS_SETUP_COMMIT (R494): LS_CMD SETUP_COMMIT writes the setup shadow to the SETUP section. -/
  | lsSetupCommit (m : Master) (confirm : BitVec 16)
  /-- LS_SETUP_WRITE (R494): A write through LS_SETUP_DATA changes the setup shadow only. -/
  | lsSetupWrite (m : Master) (al : Alias) (d : Word)
  /-- LS_CMD_DONE (R497): A flash operation of the life store ends and LS_RES records its code. -/
  | lsCmdDone (ok : Bool) (at_ : Nat)
  /-- CALENDAR_TICK (R499): Each second, the calendar advances and the power-state time counters increment. -/
  | calendarTick
  /-- VDD_AON_LOSS (R510): VDD_AON falls below its monitor limit or is removed, so every always-on function stops, the Grave record, the fault history and the sensor exclusions are cleared, and the calendar stops counting. -/
  | vddAonLoss
  /-- FLUSH_WAIT_END (R497): A requested flush that was written less than 60 s after the previous flush starts once the 60 s have passed. -/
  | flushWaitEnd
  /-- PFC_PAUSE_EXPIRY (R352): A PFC pause in force for the host-transport priority runs out, and transmission of host-transport frames resumes. -/
  | pfcPauseExpiry (p : Fin 2)
  deriving DecidableEq, Repr

end Sys2Proof
end

