-- ==== Sys2Proof/WellFormed.lean ====
section
/-! DEFINITION. Well-formed commands: operands that the types leave too wide are within what the spec lets arrive. The meanings are total
on every command; these are the bounds a sender keeps. -/

namespace Sys2Proof

open Sys2Proof.Machine

/-- A number of words within the register space (spec/02_register_conventions.md R31). -/
def wordsFit (n : Nat) : Bool := decide (n ≤ 4194304)

/-- Numbers of journal groups, none twice (spec/08_fail_capture.md R212). -/
def groupsFit (l : List Nat) : Bool := l.all (fun g => decide (g < 8388608)) && decide l.Nodup

/-- What a calibration run measured: each pin once, with 64 code-density counts and eight errors and residuals
(spec/13_calibration.md R343 to R345). -/
def measFit (l : List CalMeas) : Bool :=
  decide (l.map (fun x => x.pin)).Nodup &&
  l.all (fun x => x.hits.length == 64 && x.e1.length == 8 && x.e2.length == 8 && x.verify.length == 8)

/-- An Ethernet frame: MAC addresses of 48 bits, an EtherType of 16, at least 64 bytes. -/
def frameFit (f : EthFrame) : Bool :=
  decide (f.dst < 281474976710656) && decide (f.src < 281474976710656) && decide (f.etype < 65536) && decide (64 ≤ f.len)

/-- An Adeo frame: the widths of its header and a body of 32 bytes (spec/15_ring_and_system.md R385). -/
def adeoFit (f : Adeo) : Bool :=
  decide (f.ver < 256) && decide (f.flags < 256) && decide (f.hops < 256) && decide (f.src < 65536) && decide (f.dst < 65536) &&
  decide (f.seq < 4294967296) && decide (f.ring < 256) && f.body.length == 32

/-- A fault message from outside the blocks modelled: 12-bit source, 4-bit kind, 32-bit address
(spec/18_faults_and_thermal.md R442). -/
def faultFit : Option FaultMsg → Bool
  | none => true
  | some m => decide (m.source < 4096) && decide (m.kind < 16) && decide (m.addr < 4294967296)

/-- What a start-up meets: each thing out of service once, a step of the sequence for a rail (spec/17_clocks_power_startup.md R432). -/
def startFit (f : StartFacts) : Bool :=
  decide f.engines.Nodup && decide f.strands.Nodup && decide f.coves.Nodup && decide f.lanes.Nodup && decide f.engBad.Nodup &&
  (match f.rail with | none => true | some n => decide (n ≤ 11))

/-- A command is well-formed. -/
def Instr.wf (i : Instr) : Bool :=
  match i with
  | .regWrite _ _ data _ => wordsFit data.length
  | .rcRead _ _ count _ => wordsFit count
  | .snapWrite _ addr _ => decide (addr.toNat % 4 = 0)
  | .devLockWrite _ _ _ => true
  | .updStrobe _ _ => true
  | .updArm _ _ => true
  | .updDisarm _ => true
  | .scheduledStrobe => true
  | .psLimWrite _ _ _ _ => true
  | .pmLimWrite _ _ _ _ _ => true
  | .psEvtArm _ _ _ _ _ => true
  | .psEvtDisarm _ _ _ _ _ => true
  | .comparatorDecision _ _ _ _ => true
  | .cmpSettled _ _ _ => true
  | .holdRefresh => true
  | .bwTrip _ _ _ _ _ => true
  | .bwEngageCheck bad => decide bad.Nodup
  | .bwRearm _ _ _ _ => true
  | .driveEvent _ => true
  | .strobeEvent _ => true
  | .wvDataWrite _ _ _ _ => true
  | .edEdgeWrite _ _ _ _ _ => true
  | .next _ => true
  | .rpt _ => true
  | .loopBegin _ => true
  | .loopEnd _ => true
  | .call _ => true
  | .ret _ => true
  | .jmp _ => true
  | .jif _ => true
  | .matchOp _ => true
  | .trig _ => true
  | .mark _ => true
  | .waitSlack _ => true
  | .slackWaitDone _ => true
  | .lashSyncMet _ => true
  | .syncTo _ => true
  | .parkOp _ => true
  | .haltOp _ => true
  | .illegalOp _ => true
  | .holdStep _ => true
  | .holdLimit _ => true
  | .runStart _ => true
  | .sqHalt _ _ => true
  | .sqResume _ _ => true
  | .sqLedgerClr _ _ => true
  | .sqBtWrite _ _ _ _ => true
  | .agTabWrite _ _ _ _ => true
  | .granuleRefill _ seg gran _ _ _ => decide (seg < 65536) && decide (gran < 262144)
  | .requestPromotion => true
  | .prefetchWindow _ => true
  | .retrainPauseStart _ => true
  | .retrainPauseEnd _ _ => true
  | .selfRefreshEntry => true
  | .selfRefreshExit => true
  | .segWrite => true
  | .segImageReceived => true
  | .segFree => true
  | .streamOpen => true
  | .streamPull _ => true
  | .activeTestChange => true
  | .failEvent _ => true
  | .failSwitchAccept => true
  | .journalGroupTimeout => true
  | .journalGroupWritten => true
  | .timeBase => true
  | .endMark _ => true
  | .jrnReset _ => true
  | .journalAudit _ => true
  | .journalAuditDone bad => groupsFit bad
  | .flLedgerClr _ _ => true
  | .flDieWrite _ _ _ _ => true
  | .ledgerRead => true
  | .laneFold _ bad => decide bad.Nodup
  | .contextFetched _ _ => true
  | .spFinal _ _ => true
  | .spFinalAll _ => true
  | .spRelease _ _ => true
  | .laneSpliceDone _ d badGroups _ => decide (d < 65536) && groupsFit badGroups
  | .resultWrite => true
  | .workOrder => true
  | .workOrderReceived => true
  | .placementDecided => true
  | .placementApplied => true
  | .plRelease _ => true
  | .pmForceDirectWrite _ _ _ _ => true
  | .pmuConnectClose _ => true
  | .pmuDisconnectOff _ => true
  | .pmuRangeLimitMove _ _ => true
  | .pmuRangeOldOpen _ => true
  | .pmuRangeDone _ => true
  | .conversionEnd _ raw => decide (-2147483648 ≤ raw) && decide (raw < 2147483648)
  | .sineSample _ => true
  | .sgTabWrite _ _ _ _ => true
  | .tdStart _ _ => true
  | .tdStop _ _ => true
  | .tdcCalDone _ m1 m2 => decide (m1 < 4294967296) && decide (m2 < 4294967296)
  | .tdcTimeout _ => true
  | .aqStart _ _ => true
  | .aqStop _ _ => true
  | .aqForce _ _ => true
  | .aqCmpSample _ => true
  | .aqRearmDone _ _ => true
  | .aqSpillWritten _ => true
  | .calTiming _ _ _ _ => true
  | .calLevels _ _ _ _ => true
  | .calConv _ _ _ _ => true
  | .calSysZero _ _ _ _ _ => true
  | .calSysFs _ _ _ _ _ => true
  | .calAbort _ _ => true
  | .calRunEnd _ meas _ => measFit meas
  | .cbDataWrite _ _ _ => true
  | .cbCommit _ _ => true
  | .cbCommitDone _ _ => true
  | .calRun => true
  | .knock _ payload _ => decide (payload.length ≤ 4096)
  | .doorbellPoll _ => true
  | .windowWrite _ _ _ data _ => decide (data.length ≤ 2147483648)
  | .windowRead _ _ _ _ _ => true
  | .rdmaReadResponse _ data _ => decide (data.length ≤ 2147483648)
  | .rdmaAck _ _ => true
  | .nakRcvd _ _ => true
  | .ackTimeout _ => true
  | .pfcFrame _ _ quanta _ => decide (quanta.length = 8)
  | .qpEnable _ _ _ => true
  | .qpDisable _ _ _ => true
  | .commandStart => true
  | .runAt => true
  | .halt => true
  | .resultFetch bad => groupsFit bad
  | .regBatch => true
  | .helmClaim => true
  | .lockoutEnd => true
  | .helmAck => true
  | .nop => true
  | .eventWrite => true
  | .frameForward _ f _ => frameFit f
  | .tideMark _ f _ _ _ => adeoFit f
  | .pdelayReq _ f _ _ _ => adeoFit f
  | .pdelayResp _ f _ _ => adeoFit f
  | .audit _ f _ => adeoFit f
  | .slack _ f _ => adeoFit f
  | .heartbeat _ f _ => adeoFit f
  | .hbReply _ f _ => adeoFit f
  | .credit _ f _ => adeoFit f
  | .active _ f _ => adeoFit f
  | .link _ f _ => adeoFit f
  | .linkInit _ f _ => adeoFit f
  | .creditTimeout _ => true
  | .auditGuard => true
  | .auditInstant => true
  | .auditTimeout => true
  | .heartbeatSend => true
  | .hbMiss _ => true
  | .pcsLockLoss _ _ _ => true
  | .fecUncorrectable _ _ => true
  | .linkTrained _ _ => true
  | .rgCmdSlack _ => true
  | .rgCmdSlackClr _ => true
  | .rgBypassGo _ _ => true
  | .activeRepeat => true
  | .activeExpiry => true
  | .tideMarkSend _ _ => true
  | .pdelayReqSend _ _ => true
  | .ppsEdge _ _ => true
  | .sourceAppear _ _ => true
  | .sourceLoss _ _ => true
  | .lockAchieved => true
  | .ageingUpdate => true
  | .tlAgeWrite _ _ _ _ => true
  | .tlSet _ => true
  | .tlSettle _ => true
  | .settleDone => true
  | .ebbTrim => true
  | .cvWake _ _ => true
  | .coveWakeAdmit => true
  | .covePllLocked _ _ => true
  | .lockFail _ => true
  | .coveSettled _ => true
  | .lockLost _ _ => true
  | .coveSleep _ => true
  | .devPwrDeep _ _ => true
  | .devPwrWake _ => true
  | .startup f => startFit f
  | .pwrOkFall => true
  | .rstNFall => true
  | .supplyExcursion _ _ => true
  | .supplyGrave _ => true
  | .rtSelftestStrand _ _ _ => true
  | .rtSelftestEngine _ _ _ => true
  | .rtSelftestLane _ _ => true
  | .rtSelftestEnd _ => true
  | .faultMessage raised => faultFit raised
  | .fcAck _ _ => true
  | .fcForce _ _ => true
  | .fcRecSel _ _ _ => true
  | .fcLogSel _ _ _ => true
  | .collectorSelfcheck _ => true
  | .selfcheckTimeout => true
  | .fcWdtKick _ _ => true
  | .watchdogExpiry => true
  | .helmTimeout => true
  | .fcHelmAck _ => true
  | .fcHelmReset _ _ => true
  | .fcHelmReturn _ => true
  | .beaconBootDone _ _ => true
  | .sensorRead _ _ => true
  | .thermalHaltDeadline => true
  | .thermalRestart => true
  | .thExcludeWrite _ _ _ => true
  | .csLoad _ _ => true
  | .csApplyPatch _ => true
  | .csClearPatch _ => true
  | .csProgram _ _ => true
  | .csCommandDone bad _ => decide bad.Nodup
  | .spiRead _ _ _ => true
  | .spiWrite _ _ _ => true
  | .spiBadCmd _ _ _ => true
  | .lsFlush _ => true
  | .scheduledFlush => true
  | .lsSetupCommit _ _ => true
  | .lsSetupWrite _ _ _ => true
  | .lsCmdDone _ _ => true
  | .calendarTick => true
  | .vddAonLoss => true
  | .flushWaitEnd => true
  | .pfcPauseExpiry _ => true

end Sys2Proof
end

