-- ==== Sys2Proof/Config.lean ====
section
/-! DEFINITION. The values the spec leaves open, as constants without a body: no proof can see what they are. -/

namespace Sys2Proof

/-- The value the spec leaves open at the `n`-th place where a run met one (assumption log 3). -/
opaque Config.freeNat : Nat → Nat

/-- Whether a tie of the rounding of a / b goes up, where the spec says only 'round' (assumption log 4). -/
opaque Config.tieUp : Int → Nat → Bool

/-- Whether an inexact a / b is taken upward, where the spec states no rounding at all (assumption log 4). -/
opaque Config.inexactUp : Int → Nat → Bool

/-- The low 24 bits of the fused serial number (spec/21_life_store.md R493; assumption log 6). -/
opaque Config.serial : BitVec 24

/-- Whether the signature of a microcode image holds: the ECDSA P-384 check with the key fused in the device, which the spec does
not give (spec/19_engine_control_store.md R470, R471; assumption log 5). -/
opaque Config.sigValid : List Byte → Bool

end Sys2Proof
end

