-- ==== Sys2Proof/Machine/Bits.lean ====
section
/-! DEFINITION. Bit fields of words, 64-bit pairs, byte order, saturating counters and the CRCs the spec names. -/

namespace Sys2Proof

/-- The value of a field of a word. -/
def Field.get (f : Field) (w : Word) : Nat := (w.toNat >>> f.lo) % 2 ^ f.width

/-- A word with one field replaced by `v`, cut to the field's width. -/
def Field.put (f : Field) (w : Word) (v : Nat) : Word :=
  let mask := (2 ^ f.width - 1) <<< f.lo
  (w &&& ~~~ BitVec.ofNat 32 mask) ||| BitVec.ofNat 32 ((v % 2 ^ f.width) <<< f.lo)

/-- The highest value a field holds. -/
def Field.max (f : Field) : Nat := 2 ^ f.width - 1

end Sys2Proof

namespace Sys2Proof.Machine

/-- A number's bit. -/
def bitOf (v i : Nat) : Bool := v.testBit i

/-- A bit as a number. -/
def bitN (b : Bool) : Nat := if b then 1 else 0

/-- Bits [hi:lo] of a number. -/
def bitsOf (v hi lo : Nat) : Nat := (v >>> lo) % 2 ^ (hi + 1 - lo)

/-- The low word of a 64-bit value. -/
def lo32 (v : Nat) : Word := BitVec.ofNat 32 v

/-- The high word of a 64-bit value. -/
def hi32 (v : Nat) : Word := BitVec.ofNat 32 (v >>> 32)

/-- Clip to the range `lo` to `hi` as max(lo, min(hi, v)); with lo above hi it yields lo (R72). -/
def clipTo (lo hi v : Nat) : Nat := max lo (min hi v)

/-- A two's complement value of width `w` as an integer. -/
def signed (w v : Nat) : Int := if v % 2 ^ w < 2 ^ (w - 1) then (v % 2 ^ w : Nat) else ((v % 2 ^ w : Nat) : Int) - (2 ^ w : Nat)

/-- An integer as a two's complement value of width `w`. -/
def unsigned (w : Nat) (i : Int) : Nat := (i % ((2 ^ w : Nat) : Int)).toNat

/-- An integer clipped to the two's complement range of width `w`. -/
def clipSigned (w : Nat) (i : Int) : Int := max (-((2 ^ (w - 1) : Nat) : Int)) (min (((2 ^ (w - 1) : Nat) : Int) - 1) i)

/-- Parity of a number below 2^n. -/
def parity : Nat → Nat → Bool
  | 0, _ => false
  | n + 1, v => xor (v.testBit n) (parity n v)

/-- The little-endian bytes of a number, `n` of them. -/
def leBytes : Nat → Nat → List Byte
  | 0, _ => []
  | n + 1, v => BitVec.ofNat 8 v :: leBytes n (v / 256)

/-- The number that little-endian bytes spell. -/
def leNat : List Byte → Nat
  | [] => 0
  | b :: t => b.toNat + 256 * leNat t

/-- Bytes `off` to `off + n - 1` of a list as a little-endian number; bytes past the end read as zero. -/
def leAt (bs : List Byte) (off n : Nat) : Nat := leNat ((bs.drop off).take n)

/-- The big-endian number of bytes. -/
def beNat (bs : List Byte) : Nat := leNat bs.reverse

/-- One bit step of CRC-16, polynomial 0x1021, unreflected. -/
def crc16Bit (c : Nat) : Nat :=
  if c.testBit 15 then Nat.xor ((c * 2) % 65536) 0x1021 else (c * 2) % 65536

/-- Apply `f` `n` times. -/
def iter {α : Type} (f : α → α) : Nat → α → α
  | 0, x => x
  | n + 1, x => iter f n (f x)

/-- The granule CRC-16 of spec/07_pattern_memory.md R192: polynomial 0x1021, initial value 0xFFFF, no reflection. -/
def crc16 (bs : List Byte) : Nat :=
  bs.foldl (fun c b => iter crc16Bit 8 (Nat.xor c (b.toNat * 256))) 0xFFFF

/-- One bit step of the reflected IEEE 802.3 CRC-32. -/
def crc32Bit (c : Nat) : Nat :=
  if c.testBit 0 then Nat.xor (c / 2) 0xEDB88320 else c / 2

/-- The IEEE 802.3 CRC-32 of spec/07_pattern_memory.md R191 and spec/08_fail_capture.md R217. -/
def crc32 (bs : List Byte) : Nat :=
  Nat.xor (bs.foldl (fun c b => iter crc32Bit 8 (Nat.xor c b.toNat)) 0xFFFFFFFF) 0xFFFFFFFF

/-- The remainder of `a` by `b` for a zero-safe division upward: the least q with q * b at least a. -/
def ceilDiv (a b : Nat) : Nat := (a + b - 1) / b

/-- Keep the first `n` entries of a list and pad with `d` up to `n`. -/
def padTo {α : Type} (n : Nat) (d : α) (l : List α) : List α :=
  (l ++ List.replicate (n - l.length) d).take n

/-- Replace entry `i` of a list. -/
def setAt {α : Type} (l : List α) (i : Nat) (v : α) : List α := l.set i v

/-- Apply `f` to entry `i` of a list. -/
def modAt {α : Type} (l : List α) (i : Nat) (f : α → α) : List α :=
  match l[i]? with
  | some v => l.set i (f v)
  | none => l

end Sys2Proof.Machine
end

