-- ==== Sys2Proof/Machine/RegNames.lean ====
section
/-! DEFINITION. Register names and field places, one constant per register of the spec and one per named field
(spec/02_register_conventions.md R67 says which chapter defines each). A register constant is the offset in its block:
device address, cove, strand, pin, QP or reserve-engine window offset. -/

namespace Sys2Proof.Machine

namespace Reg

/-! spec/02_register_conventions.md -/
/-- device address. -/
abbrev DEV_BUS_ERR : Nat := 0x12C
/-- device address. -/
abbrev DEV_UPD_STROBE : Nat := 0x100
/-- device address. -/
abbrev DEV_UPD_PEND : Nat := 0x104
/-- device address. -/
abbrev DEV_UPD_SCHED : Nat := 0x108
/-- device address. -/
abbrev DEV_UPD_CTRL : Nat := 0x10C
/-- device address. -/
abbrev DEV_UPD_STAT : Nat := 0x110
/-- device address. -/
abbrev DEV_LOCK : Nat := 0x120
/-- device address. -/
abbrev DEV_LOCK_VIOL : Nat := 0x124
/-- device address. -/
abbrev DEV_PRIV_VIOL : Nat := 0x128
/-- device address. -/
abbrev DEV_SNAP : Nat := 0x130

/-! spec/03_pin_slice.md -/
/-- pin offset. -/
abbrev PS_VIH : Nat := 0x0
/-- pin offset. -/
abbrev PS_VIL : Nat := 0x4
/-- pin offset. -/
abbrev PS_VTT : Nat := 0x8
/-- pin offset. -/
abbrev PS_VOH : Nat := 0x10
/-- pin offset. -/
abbrev PS_VOL : Nat := 0x14
/-- pin offset. -/
abbrev PS_DRV_CTRL : Nat := 0xC
/-- pin offset. -/
abbrev PS_CMP_CFG : Nat := 0x18
/-- pin offset. -/
abbrev PS_LOAD : Nat := 0x1C
/-- pin offset. -/
abbrev PS_LIM : Nat := 0x20
/-- pin offset. -/
abbrev PS_BW_VTHR : Nat := 0x24
/-- pin offset. -/
abbrev PS_BW_ITHR : Nat := 0x28
/-- pin offset. -/
abbrev PS_BW_CTRL : Nat := 0x2C
/-- pin offset. -/
abbrev PS_BW_STAT : Nat := 0x30
/-- pin offset. -/
abbrev PS_STAT : Nat := 0x34
/-- pin offset. -/
abbrev PS_CMP_STATE : Nat := 0x38
/-- pin offset. -/
abbrev PS_EVT : Nat := 0x3C

/-! spec/04_edges_and_waves.md -/
/-- strand offset. -/
abbrev WV_CTRL : Nat := 0x600
/-- strand offset. -/
abbrev WV_STAT : Nat := 0x604
/-- strand offset. -/
abbrev WV_LOSS : Nat := 0x608
/-- strand offset. -/
abbrev WV_ACC : Nat := 0x60C
/-- strand offset. -/
abbrev WV_ADDR : Nat := 0x610
/-- strand offset. -/
abbrev WV_DATA : Nat := 0x614
/-- strand offset. -/
abbrev ED_CTRL : Nat := 0x620
/-- strand offset. -/
abbrev ED_ADDR : Nat := 0x624
/-- strand offset. -/
abbrev ED_E0 : Nat := 0x628
/-- strand offset. -/
abbrev ED_E1 : Nat := 0x62C
/-- strand offset. -/
abbrev ED_E2 : Nat := 0x630
/-- strand offset. -/
abbrev ED_E3 : Nat := 0x634
/-- strand offset. -/
abbrev ED_E4 : Nat := 0x638
/-- strand offset. -/
abbrev ED_E5 : Nat := 0x63C
/-- strand offset, 64 of them every 4 bytes. -/
abbrev WV_PER : Nat := 0x700

/-! spec/05_sequencer.md -/
/-- strand offset. -/
abbrev SQ_STATE : Nat := 0x0
/-- strand offset. -/
abbrev SQ_STAT : Nat := 0x4
/-- strand offset. -/
abbrev SQ_SEG : Nat := 0x8
/-- strand offset. -/
abbrev SQ_OFFS : Nat := 0xC
/-- strand offset. -/
abbrev SQ_CMD : Nat := 0x10
/-- strand offset. -/
abbrev SQ_FLAGS : Nat := 0x14
/-- strand offset. -/
abbrev SQ_MATCH : Nat := 0x18
/-- strand offset. -/
abbrev SQ_ANCH : Nat := 0x1C
/-- strand offset. -/
abbrev SQ_SLIPS : Nat := 0x20
/-- strand offset. -/
abbrev SQ_BT_ADDR : Nat := 0x30
/-- strand offset. -/
abbrev SQ_BT_DATA : Nat := 0x34
/-- strand offset. -/
abbrev SQ_CTRL : Nat := 0x40
/-- strand offset. -/
abbrev SQ_TRIG_CFG : Nat := 0x44
/-- strand offset. -/
abbrev SQ_TRIG_SEG : Nat := 0x48
/-- strand offset. -/
abbrev SQ_SLACK_AT_LO : Nat := 0x50
/-- strand offset. -/
abbrev SQ_SLACK_AT_HI : Nat := 0x54
/-- strand offset. -/
abbrev SQ_ISSUED_LO : Nat := 0x80
/-- strand offset. -/
abbrev SQ_ISSUED_HI : Nat := 0x84
/-- strand offset. -/
abbrev SQ_EXEC_LO : Nat := 0x88
/-- strand offset. -/
abbrev SQ_EXEC_HI : Nat := 0x8C
/-- strand offset. -/
abbrev SQ_HELD_LO : Nat := 0x90
/-- strand offset. -/
abbrev SQ_HELD_HI : Nat := 0x94
/-- strand offset. -/
abbrev SQ_HOLD_TIME_LO : Nat := 0x98
/-- strand offset. -/
abbrev SQ_HOLD_TIME_HI : Nat := 0x9C
/-- strand offset. -/
abbrev SQ_PARK_TIME_LO : Nat := 0xA0
/-- strand offset. -/
abbrev SQ_PARK_TIME_HI : Nat := 0xA4

/-! spec/06_alpg.md -/
/-- strand offset. -/
abbrev AG_CTRL : Nat := 0x400
/-- strand offset. -/
abbrev AG_STAT : Nat := 0x404
/-- strand offset. -/
abbrev AG_X_INIT : Nat := 0x408
/-- strand offset. -/
abbrev AG_YZ_INIT : Nat := 0x40C
/-- strand offset. -/
abbrev AG_X_VAL : Nat := 0x410
/-- strand offset. -/
abbrev AG_YZ_VAL : Nat := 0x414
/-- strand offset. -/
abbrev AG_BUS_LO : Nat := 0x418
/-- strand offset. -/
abbrev AG_BUS_HI : Nat := 0x41C
/-- strand offset. -/
abbrev AG_X_MIN : Nat := 0x420
/-- strand offset. -/
abbrev AG_X_MAX : Nat := 0x424
/-- strand offset. -/
abbrev AG_Y_RANGE : Nat := 0x428
/-- strand offset. -/
abbrev AG_Z_RANGE : Nat := 0x42C
/-- strand offset, 4 of them every 4 bytes. -/
abbrev AG_XA : Nat := 0x440
/-- strand offset, 4 of them every 4 bytes. -/
abbrev AG_YA : Nat := 0x450
/-- strand offset, 4 of them every 4 bytes. -/
abbrev AG_ZA : Nat := 0x460
/-- strand offset, 4 of them every 4 bytes. -/
abbrev AG_BG : Nat := 0x470
/-- strand offset. -/
abbrev AG_CHK_XM : Nat := 0x480
/-- strand offset. -/
abbrev AG_CHK_YM : Nat := 0x484
/-- strand offset. -/
abbrev AG_CHK_WORD : Nat := 0x488
/-- strand offset, 4 of them every 4 bytes. -/
abbrev AG_AXM : Nat := 0x490
/-- strand offset, 4 of them every 4 bytes. -/
abbrev AG_AYZM : Nat := 0x4A0
/-- strand offset. -/
abbrev AG_TAB_ADDR : Nat := 0x4C0
/-- strand offset. -/
abbrev AG_TAB_DATA : Nat := 0x4C4

/-! spec/07_pattern_memory.md -/
/-- device address. -/
abbrev MC_STAT : Nat := 0x40004
/-- device address. -/
abbrev MC_BUDGET_TOTAL : Nat := 0x40010
/-- device address. -/
abbrev MC_BUDGET_RSV : Nat := 0x40014
/-- device address. -/
abbrev MC_BUDGET_USED : Nat := 0x40018
/-- device address. -/
abbrev MC_REFILL_CFG : Nat := 0x40020
/-- device address. -/
abbrev MC_RETRAIN_CFG : Nat := 0x40024
/-- device address. -/
abbrev MC_RETRAIN_STAT : Nat := 0x40028
/-- device address. -/
abbrev MC_PASR : Nat := 0x40030
/-- device address. -/
abbrev MC_FREE : Nat := 0x40040
/-- device address. -/
abbrev MC_CRC_CNT : Nat := 0x40044
/-- device address. -/
abbrev MC_CRC_LOC0 : Nat := 0x40048
/-- device address. -/
abbrev MC_CRC_LOC1 : Nat := 0x4004C
/-- device address. -/
abbrev MC_STREAM_ALLOW : Nat := 0x40050
/-- device address. -/
abbrev MC_STREAM_CFG : Nat := 0x40054
/-- device address. -/
abbrev MC_RING_ACTIVE : Nat := 0x40058
/-- device address, 16 of them every 16 bytes. -/
abbrev MC_STRM_STAT : Nat := 0x40100
/-- device address, 16 of them every 16 bytes. -/
abbrev MC_STRM_PROD : Nat := 0x40104
/-- device address, 16 of them every 16 bytes. -/
abbrev MC_STRM_PULL : Nat := 0x40108
/-- device address, 16 of them every 16 bytes. -/
abbrev MC_STRM_CONS : Nat := 0x4010C

/-! spec/08_fail_capture.md -/
/-- strand offset. -/
abbrev FL_DIE : Nat := 0xC00
/-- strand offset. -/
abbrev FL_STAT : Nat := 0xC04
/-- strand offset. -/
abbrev FL_OVF0 : Nat := 0xC08
/-- strand offset. -/
abbrev FL_OVF1 : Nat := 0xC0C
/-- strand offset. -/
abbrev FL_INFLIGHT : Nat := 0xC10
/-- strand offset. -/
abbrev FL_MASKED : Nat := 0xC14
/-- strand offset. -/
abbrev FL_CMD : Nat := 0xC18
/-- strand offset. -/
abbrev FL_SEEN_LO : Nat := 0xC40
/-- strand offset. -/
abbrev FL_SEEN_HI : Nat := 0xC44
/-- strand offset. -/
abbrev FL_FOLDED_LO : Nat := 0xC48
/-- strand offset. -/
abbrev FL_FOLDED_HI : Nat := 0xC4C
/-- strand offset. -/
abbrev FL_SPILLED_LO : Nat := 0xC50
/-- strand offset. -/
abbrev FL_SPILLED_HI : Nat := 0xC54
/-- strand offset. -/
abbrev FL_COUNTED_ONLY_LO : Nat := 0xC58
/-- strand offset. -/
abbrev FL_COUNTED_ONLY_HI : Nat := 0xC5C
/-- strand offset. -/
abbrev FL_JRN_EV_LO : Nat := 0xC60
/-- strand offset. -/
abbrev FL_JRN_EV_HI : Nat := 0xC64
/-- strand offset, 8 of them every 4 bytes. -/
abbrev FL_PIN_FAIL : Nat := 0xC80
/-- device address. -/
abbrev FL_DEV_STAT : Nat := 0x7004
/-- device address. -/
abbrev FL_DEV_CMD : Nat := 0x7008
/-- device address. -/
abbrev FL_JRN_WP : Nat := 0x7010
/-- device address. -/
abbrev FL_JRN_CRC : Nat := 0x7014
/-- device address. -/
abbrev FL_JRN_EVENTS_LO : Nat := 0x7020
/-- device address. -/
abbrev FL_JRN_EVENTS_HI : Nat := 0x7024
/-- device address. -/
abbrev FL_IMB0 : Nat := 0x7030
/-- device address. -/
abbrev FL_IMB1 : Nat := 0x7034
/-- device address. -/
abbrev FL_IMB_CNT : Nat := 0x7038

/-! spec/09_splice_engine.md -/
/-- device address. -/
abbrev SP_CTRL : Nat := 0x50000
/-- device address. -/
abbrev SP_STAT : Nat := 0x50004
/-- device address. -/
abbrev SP_CMD : Nat := 0x50008
/-- device address. -/
abbrev SP_CTX_USED : Nat := 0x50010
/-- device address. -/
abbrev SP_POOL_USED : Nat := 0x50014
/-- device address. -/
abbrev SP_PEND : Nat := 0x50018
/-- device address. -/
abbrev SP_LAST : Nat := 0x5001C
/-- device address. -/
abbrev SP_CRC_CNT : Nat := 0x50020
/-- device address. -/
abbrev SP_CRC_LOC : Nat := 0x50024
/-- device address. -/
abbrev SP_LOST : Nat := 0x50028
/-- device address. -/
abbrev SP_NODIE : Nat := 0x5002C

/-! spec/10_placement_and_lashing.md -/
/-- device address. -/
abbrev PL_STATE : Nat := 0x60000
/-- device address. -/
abbrev PL_STAT : Nat := 0x60004
/-- device address. -/
abbrev PL_REFUSE : Nat := 0x60008
/-- device address. -/
abbrev PL_ID : Nat := 0x6000C
/-- device address. -/
abbrev PL_TIME : Nat := 0x60010
/-- device address, 7 of them every 4 bytes. -/
abbrev PL_HEALTH : Nat := 0x60020
/-- device address. -/
abbrev PL_CMD : Nat := 0x60040
/-- device address. -/
abbrev PL_TAB_ADDR : Nat := 0x60050
/-- device address. -/
abbrev PL_TAB_DATA : Nat := 0x60054
/-- cove offset, 12 of them every 4 bytes. -/
abbrev LB_POS : Nat := 0x1000
/-- cove offset, 12 of them every 4 bytes. -/
abbrev LB_MATCH : Nat := 0x1040
/-- cove offset. -/
abbrev LB_STAT : Nat := 0x1080

/-! spec/11_source_measure.md -/
/-- pin offset. -/
abbrev PM_CTRL : Nat := 0x40
/-- pin offset. -/
abbrev PM_FORCE : Nat := 0x44
/-- pin offset. -/
abbrev PM_FORCE_DIRECT : Nat := 0x48
/-- pin offset. -/
abbrev PM_CLAMP_HI : Nat := 0x4C
/-- pin offset. -/
abbrev PM_CLAMP_LO : Nat := 0x50
/-- pin offset. -/
abbrev PM_LIM_V : Nat := 0x54
/-- pin offset. -/
abbrev PM_LIM_I : Nat := 0x58
/-- pin offset. -/
abbrev PM_STAT : Nat := 0x5C
/-- pin offset. -/
abbrev PM_STATE : Nat := 0x60
/-- pin offset. -/
abbrev AD_CFG : Nat := 0x80
/-- pin offset. -/
abbrev AD_NOTCH : Nat := 0x84
/-- pin offset. -/
abbrev AD_DATA : Nat := 0x88
/-- pin offset. -/
abbrev AD_STAT : Nat := 0x8C
/-- pin offset. -/
abbrev AD_OFS_V : Nat := 0x90
/-- pin offset, 5 of them every 8 bytes. -/
abbrev AD_OFS_I : Nat := 0x98
/-- pin offset. -/
abbrev AD_GAIN_V : Nat := 0x94
/-- pin offset, 5 of them every 8 bytes. -/
abbrev AD_GAIN_I : Nat := 0x9C
/-- strand offset. -/
abbrev SG_CTRL : Nat := 0xA00
/-- strand offset. -/
abbrev SG_STAT : Nat := 0xA04
/-- strand offset. -/
abbrev SG_FTW_LO : Nat := 0xA08
/-- strand offset. -/
abbrev SG_FTW_HI : Nat := 0xA0C
/-- strand offset. -/
abbrev SG_PHASE0 : Nat := 0xA10
/-- strand offset. -/
abbrev SG_AMPL : Nat := 0xA14
/-- strand offset. -/
abbrev SG_OFFSET : Nat := 0xA18
/-- strand offset. -/
abbrev SG_TAB_ADDR : Nat := 0xA20
/-- strand offset. -/
abbrev SG_TAB_DATA : Nat := 0xA24
/-- strand offset. -/
abbrev SG_TDAC : Nat := 0xA30

/-! spec/12_time_and_acquisition.md -/
/-- pin offset. -/
abbrev TD_CFG : Nat := 0xC0
/-- pin offset. -/
abbrev TD_N : Nat := 0xC4
/-- pin offset. -/
abbrev TD_CTRL : Nat := 0xC8
/-- pin offset. -/
abbrev TD_STAT : Nat := 0xCC
/-- pin offset. -/
abbrev TD_COUNT : Nat := 0xD0
/-- pin offset. -/
abbrev TD_MISS : Nat := 0xD4
/-- pin offset. -/
abbrev TD_MEAN_LO : Nat := 0xD8
/-- pin offset. -/
abbrev TD_MEAN_HI : Nat := 0xDC
/-- pin offset. -/
abbrev TD_STD : Nat := 0xE0
/-- pin offset. -/
abbrev TD_MIN : Nat := 0xE4
/-- pin offset. -/
abbrev TD_MAX : Nat := 0xE8
/-- pin offset. -/
abbrev TD_LAST : Nat := 0xF0
/-- pin offset. -/
abbrev TD_SCALE : Nat := 0xEC
/-- strand offset. -/
abbrev AQ_CFG : Nat := 0x800
/-- strand offset. -/
abbrev AQ_LEN : Nat := 0x804
/-- strand offset. -/
abbrev AQ_PRE : Nat := 0x808
/-- strand offset. -/
abbrev AQ_NREC : Nat := 0x80C
/-- strand offset. -/
abbrev AQ_DIV : Nat := 0x810
/-- strand offset. -/
abbrev AQ_PT_SEL0 : Nat := 0x814
/-- strand offset. -/
abbrev AQ_PT_SEL1 : Nat := 0x818
/-- strand offset. -/
abbrev AQ_PT_VAL_LO : Nat := 0x820
/-- strand offset. -/
abbrev AQ_PT_VAL_HI : Nat := 0x824
/-- strand offset. -/
abbrev AQ_PT_DC_LO : Nat := 0x828
/-- strand offset. -/
abbrev AQ_PT_DC_HI : Nat := 0x82C
/-- strand offset. -/
abbrev AQ_CTRL : Nat := 0x830
/-- strand offset. -/
abbrev AQ_STAT : Nat := 0x834
/-- strand offset. -/
abbrev AQ_REC : Nat := 0x838
/-- strand offset. -/
abbrev AQ_RECNUM : Nat := 0x83C
/-- strand offset. -/
abbrev AQ_MISSED : Nat := 0x840
/-- strand offset. -/
abbrev AQ_MISS_T_LO : Nat := 0x844
/-- strand offset. -/
abbrev AQ_MISS_T_HI : Nat := 0x848
/-- strand offset. -/
abbrev AQ_DEAD : Nat := 0x84C
/-- strand offset. -/
abbrev AQ_FILL : Nat := 0x850
/-- strand offset. -/
abbrev AQ_OVF : Nat := 0x854

/-! spec/13_calibration.md -/
/-- device address. -/
abbrev CB_CMD : Nat := 0x70000
/-- device address. -/
abbrev CB_STAT : Nat := 0x70004
/-- device address. -/
abbrev CB_BUSY : Nat := 0x70008
/-- device address. -/
abbrev CB_RES : Nat := 0x7000C
/-- device address. -/
abbrev CB_REF_Q : Nat := 0x70010
/-- device address. -/
abbrev CB_REF_DELAY : Nat := 0x70014
/-- device address. -/
abbrev CB_TOL : Nat := 0x70018
/-- device address. -/
abbrev CB_CTRL : Nat := 0x7001C
/-- device address. -/
abbrev CB_ADDR : Nat := 0x70020
/-- device address. -/
abbrev CB_DATA : Nat := 0x70024
/-- device address. -/
abbrev CB_COMMIT : Nat := 0x70030

/-! spec/14_host_transport.md -/
/-- device address. -/
abbrev HT_STAT : Nat := 0x10004
/-- device address. -/
abbrev HT_IP : Nat := 0x10010
/-- device address. -/
abbrev HT_MAC_LO : Nat := 0x10014
/-- device address. -/
abbrev HT_MAC_HI : Nat := 0x10018
/-- device address. -/
abbrev HT_PFC : Nat := 0x10020
/-- device address. -/
abbrev HT_EVT_CFG : Nat := 0x10030
/-- device address. -/
abbrev HT_RES_CFG : Nat := 0x10040
/-- device address. -/
abbrev HT_EVT_BASE_LO : Nat := 0x10034
/-- device address. -/
abbrev HT_EVT_BASE_HI : Nat := 0x10038
/-- device address. -/
abbrev HT_RES_BASE_LO : Nat := 0x10044
/-- device address. -/
abbrev HT_RES_BASE_HI : Nat := 0x10048
/-- device address. -/
abbrev HT_EVT_RKEY : Nat := 0x1003C
/-- device address. -/
abbrev HT_RES_RKEY : Nat := 0x1004C
/-- device address. -/
abbrev HT_EVT_LOST : Nat := 0x10050
/-- device address. -/
abbrev HT_KEY_FAIL : Nat := 0x10054
/-- QP offset. -/
abbrev HT_QP_CTRL : Nat := 0x0
/-- QP offset. -/
abbrev HT_QP_STAT : Nat := 0x4
/-- QP offset. -/
abbrev HT_QP_PEER : Nat := 0x8
/-- QP offset. -/
abbrev HT_QP_SPSN : Nat := 0x20
/-- QP offset. -/
abbrev HT_QP_EPSN : Nat := 0x24
/-- QP offset. -/
abbrev HT_QP_IP : Nat := 0xC
/-- QP offset. -/
abbrev HT_QP_MAC_LO : Nat := 0x10
/-- QP offset. -/
abbrev HT_QP_MAC_HI : Nat := 0x14
/-- QP offset. -/
abbrev HT_QP_VLAN : Nat := 0x18
/-- QP offset. -/
abbrev HT_QP_SPORT : Nat := 0x1C
/-- QP offset. -/
abbrev HT_QP_WKEY : Nat := 0x28
/-- QP offset. -/
abbrev HT_QP_CMD_RKEY : Nat := 0x38
/-- QP offset. -/
abbrev HT_QP_CPL_RKEY : Nat := 0x48
/-- QP offset. -/
abbrev HT_QP_DB_RKEY : Nat := 0x58
/-- QP offset. -/
abbrev HT_QP_RING : Nat := 0x2C
/-- QP offset. -/
abbrev HT_QP_CMD_BASE_LO : Nat := 0x30
/-- QP offset. -/
abbrev HT_QP_CMD_BASE_HI : Nat := 0x34
/-- QP offset. -/
abbrev HT_QP_CPL_BASE_LO : Nat := 0x40
/-- QP offset. -/
abbrev HT_QP_CPL_BASE_HI : Nat := 0x44
/-- QP offset. -/
abbrev HT_QP_DB_BASE_LO : Nat := 0x50
/-- QP offset. -/
abbrev HT_QP_DB_BASE_HI : Nat := 0x54
/-- QP offset. -/
abbrev HT_QP_CMD_PI : Nat := 0x60
/-- QP offset. -/
abbrev HT_QP_CMD_CI : Nat := 0x64
/-- QP offset. -/
abbrev HT_QP_CPL_PI : Nat := 0x68
/-- QP offset. -/
abbrev HT_QP_CPL_CI : Nat := 0x6C
/-- QP offset. -/
abbrev HT_QP_PRIV : Nat := 0x70

/-! spec/15_ring_and_system.md -/
/-- device address. -/
abbrev RG_STATE : Nat := 0x20000
/-- device address. -/
abbrev RG_STAT : Nat := 0x20004
/-- device address. -/
abbrev RG_ADDR : Nat := 0x20008
/-- device address. -/
abbrev RG_CTRL : Nat := 0x2000C
/-- device address. -/
abbrev RG_TC_MAP : Nat := 0x20010
/-- device address. -/
abbrev RG_HB : Nat := 0x20014
/-- device address. -/
abbrev RG_CMD : Nat := 0x20018
/-- device address. -/
abbrev RG_BYPASS : Nat := 0x2001C
/-- device address. -/
abbrev RG_SLACK : Nat := 0x20020
/-- device address. -/
abbrev RG_SLACK_T_LO : Nat := 0x20024
/-- device address. -/
abbrev RG_SLACK_T_HI : Nat := 0x20028
/-- device address. -/
abbrev RG_ACTIVE_LO : Nat := 0x20030
/-- device address. -/
abbrev RG_ACTIVE_HI : Nat := 0x20034
/-- device address, 2 of them every 16 bytes. -/
abbrev RG_LINK : Nat := 0x20040
/-- device address, 2 of them every 16 bytes. -/
abbrev RG_LINK_ERR : Nat := 0x20044
/-- device address, 6 of them every 32 bytes. -/
abbrev RG_CR_CLINK : Nat := 0x20100
/-- device address, 6 of them every 32 bytes. -/
abbrev RG_CR_AVAIL : Nat := 0x20104
/-- device address, 6 of them every 32 bytes. -/
abbrev RG_CR_SENT : Nat := 0x20108
/-- device address, 6 of them every 32 bytes. -/
abbrev RG_CR_RET_RX : Nat := 0x2010C
/-- device address, 6 of them every 32 bytes. -/
abbrev RG_CR_RX : Nat := 0x20110
/-- device address, 6 of them every 32 bytes. -/
abbrev RG_CR_RET_TX : Nat := 0x20114
/-- device address, 6 of them every 32 bytes. -/
abbrev RG_CR_HELD : Nat := 0x20118
/-- device address. -/
abbrev RG_AUDIT : Nat := 0x20200

/-! spec/16_tideline.md -/
/-- device address. -/
abbrev TL_STATE : Nat := 0x30000
/-- device address. -/
abbrev TL_STAT : Nat := 0x30004
/-- device address. -/
abbrev TL_NOW_LO : Nat := 0x30008
/-- device address. -/
abbrev TL_NOW_HI : Nat := 0x3000C
/-- device address. -/
abbrev TL_CTRL : Nat := 0x30010
/-- device address. -/
abbrev TL_CMD : Nat := 0x30014
/-- device address. -/
abbrev TL_SET_LO : Nat := 0x30018
/-- device address. -/
abbrev TL_SET_HI : Nat := 0x3001C
/-- device address. -/
abbrev TL_UPD_AT_LO : Nat := 0x30040
/-- device address. -/
abbrev TL_UPD_AT_HI : Nat := 0x30044
/-- device address. -/
abbrev TL_OFFSET : Nat := 0x30020
/-- device address. -/
abbrev TL_AGE_TRIM : Nat := 0x30030
/-- device address. -/
abbrev TL_AGE_RATE : Nat := 0x30034
/-- device address. -/
abbrev TL_AGE_ACC : Nat := 0x30038
/-- device address. -/
abbrev TL_FREQ : Nat := 0x3003C
/-- device address. -/
abbrev TL_POLL : Nat := 0x30048
/-- device address. -/
abbrev TL_PD0 : Nat := 0x30050
/-- device address. -/
abbrev TL_PD1 : Nat := 0x30054
/-- device address. -/
abbrev TL_ASYM : Nat := 0x30058
/-- device address. -/
abbrev TL_PPS_DLY : Nat := 0x3005C

/-! spec/17_clocks_power_startup.md -/
/-- device address. -/
abbrev DEV_ID : Nat := 0x0
/-- device address. -/
abbrev DEV_FW_VER : Nat := 0x4
/-- device address. -/
abbrev DEV_STATE : Nat := 0x8
/-- device address. -/
abbrev DEV_STAT : Nat := 0xC
/-- device address. -/
abbrev DEV_PWR_CMD : Nat := 0x10
/-- device address. -/
abbrev DEV_PWR_CFG : Nat := 0x14
/-- device address. -/
abbrev DEV_PWR_STAT : Nat := 0x18
/-- device address. -/
abbrev BI_RESULT : Nat := 0x3000
/-- device address, 7 of them every 4 bytes. -/
abbrev BI_ENG : Nat := 0x3010
/-- device address, 6 of them every 4 bytes. -/
abbrev BI_STRAND : Nat := 0x3030
/-- device address. -/
abbrev BI_LANE : Nat := 0x3050
/-- device address. -/
abbrev BI_COVE : Nat := 0x3054
/-- device address. -/
abbrev BI_RT_CMD : Nat := 0x3060
/-- device address. -/
abbrev BI_RT_STAT : Nat := 0x3064
/-- cove offset. -/
abbrev CV_CMD : Nat := 0x4
/-- cove offset. -/
abbrev CV_STATE : Nat := 0x8
/-- cove offset. -/
abbrev CV_STAT : Nat := 0xC

/-! spec/18_faults_and_thermal.md -/
/-- device address. -/
abbrev FC_SUMMARY : Nat := 0x1000
/-- device address. -/
abbrev FC_STAT : Nat := 0x1004
/-- device address. -/
abbrev FC_NEXT : Nat := 0x1008
/-- device address. -/
abbrev FC_REC_SEL : Nat := 0x100C
/-- device address. -/
abbrev FC_LOG_SEL : Nat := 0x102C
/-- device address, 4 of them every 4 bytes. -/
abbrev FC_REC : Nat := 0x1010
/-- device address, 4 of them every 4 bytes. -/
abbrev FC_LOG : Nat := 0x1030
/-- device address. -/
abbrev FC_ACK : Nat := 0x1020
/-- device address. -/
abbrev FC_FORCE : Nat := 0x1024
/-- device address. -/
abbrev FC_ALERT_CFG : Nat := 0x1028
/-- device address. -/
abbrev FC_WDT : Nat := 0x1040
/-- device address. -/
abbrev FC_WDT_KICK : Nat := 0x1044
/-- device address. -/
abbrev FC_HELM_STATE : Nat := 0x1050
/-- device address. -/
abbrev FC_HELM_EPOCH : Nat := 0x1054
/-- device address. -/
abbrev FC_HELM_CMD : Nat := 0x1058
/-- device address. -/
abbrev TH_MAX : Nat := 0x2000
/-- device address. -/
abbrev TH_STATE : Nat := 0x2004
/-- device address. -/
abbrev TH_STAT : Nat := 0x2008
/-- device address. -/
abbrev TH_EXCLUDE : Nat := 0x200C
/-- device address, 24 of them every 4 bytes. -/
abbrev TH_SENS : Nat := 0x2100

/-! spec/19_engine_control_store.md -/
/-- device address. -/
abbrev CS_UCODE_VER : Nat := 0x6000
/-- device address. -/
abbrev CS_STAT : Nat := 0x6004
/-- device address. -/
abbrev CS_RES : Nat := 0x6008
/-- device address. -/
abbrev CS_LOADED : Nat := 0x600C
/-- device address. -/
abbrev CS_SLOT : Nat := 0x6010
/-- device address. -/
abbrev CS_CMD : Nat := 0x6014
/-- device address. -/
abbrev CS_STAGE_ADDR : Nat := 0x6018
/-- device address. -/
abbrev CS_STAGE_DATA : Nat := 0x601C
/-- device address. -/
abbrev CS_PATCH : Nat := 0x6020
/-- device address, 16 of them every 4 bytes. -/
abbrev CS_PATCH_ADDR : Nat := 0x6040
/-- reserve-engine window offset. -/
abbrev RE_STATE : Nat := 0x0
/-- reserve-engine window offset. -/
abbrev RE_UCODE_VER : Nat := 0x4

/-! spec/20_spi_port.md -/
/-- device address. -/
abbrev SPI_STAT : Nat := 0x5000
/-- device address. -/
abbrev SPI_LAST : Nat := 0x5004

/-! spec/21_life_store.md -/
/-- device address. -/
abbrev LS_STAT : Nat := 0x4000
/-- device address. -/
abbrev LS_RES : Nat := 0x4004
/-- device address. -/
abbrev LS_CMD : Nat := 0x4008
/-- device address. -/
abbrev LS_CNT_SEL : Nat := 0x4010
/-- device address. -/
abbrev LS_CNT : Nat := 0x4014
/-- device address. -/
abbrev LS_CAL_S : Nat := 0x4020
/-- device address. -/
abbrev LS_FACTORY_S : Nat := 0x4028
/-- device address. -/
abbrev LS_CAL_DAY : Nat := 0x4024
/-- device address. -/
abbrev LS_HIST_SEL : Nat := 0x4030
/-- device address. -/
abbrev LS_HIST_DATA : Nat := 0x4034
/-- device address. -/
abbrev LS_WEAR : Nat := 0x4038
/-- device address. -/
abbrev LS_SETUP_ADDR : Nat := 0x4040
/-- device address. -/
abbrev LS_SETUP_DATA : Nat := 0x4044

/-! spec/02_register_conventions.md -/
/-- device address. -/
abbrev HT_SNAP : Nat := 0x100FC
/-- device address. -/
abbrev RG_SNAP : Nat := 0x200FC
/-- device address. -/
abbrev TL_SNAP : Nat := 0x300FC
/-- device address. -/
abbrev MC_SNAP : Nat := 0x400FC
/-- device address. -/
abbrev SP_SNAP : Nat := 0x500FC
/-- device address. -/
abbrev PL_SNAP : Nat := 0x600FC
/-- device address. -/
abbrev CB_SNAP : Nat := 0x700FC
/-- cove offset. -/
abbrev CV_SNAP : Nat := 0xFC
/-- strand offset. -/
abbrev SQ_SNAP : Nat := 0x3FC
/-- reserve-engine window offset. -/
abbrev RE_SNAP : Nat := 0x3FC

end Reg

namespace Fld

abbrev DEV_BUS_ERR_VALID : Field := ⟨31, 1⟩
abbrev DEV_BUS_ERR_MASTER : Field := ⟨24, 7⟩
abbrev DEV_BUS_ERR_ADDR : Field := ⟨0, 24⟩

abbrev DEV_UPD_CTRL_SRC : Field := ⟨1, 1⟩
abbrev DEV_UPD_CTRL_ARM : Field := ⟨0, 1⟩

abbrev DEV_UPD_STAT_LATE : Field := ⟨1, 1⟩
abbrev DEV_UPD_STAT_FIRED : Field := ⟨0, 1⟩

abbrev DEV_LOCK_DUT_LIMITS : Field := ⟨2, 1⟩
abbrev DEV_LOCK_BW_THRESH : Field := ⟨1, 1⟩
abbrev DEV_LOCK_LEVEL_RANGE : Field := ⟨0, 1⟩

abbrev DEV_LOCK_VIOL_COUNT : Field := ⟨24, 8⟩
abbrev DEV_LOCK_VIOL_ADDR : Field := ⟨0, 24⟩

abbrev DEV_PRIV_VIOL_COUNT : Field := ⟨24, 8⟩
abbrev DEV_PRIV_VIOL_ADDR : Field := ⟨0, 24⟩

abbrev PS_VIH_CODE : Field := ⟨0, 16⟩

abbrev PS_VIL_CODE : Field := ⟨0, 16⟩

abbrev PS_VTT_CODE : Field := ⟨0, 16⟩

abbrev PS_VOH_CODE : Field := ⟨0, 16⟩

abbrev PS_VOL_CODE : Field := ⟨0, 16⟩

abbrev PS_DRV_CTRL_CONN : Field := ⟨4, 1⟩
abbrev PS_DRV_CTRL_MODE : Field := ⟨0, 3⟩

abbrev PS_CMP_CFG_BIAS : Field := ⟨8, 1⟩
abbrev PS_CMP_CFG_HYST : Field := ⟨4, 2⟩
abbrev PS_CMP_CFG_MODE : Field := ⟨0, 2⟩

abbrev PS_LOAD_EN : Field := ⟨31, 1⟩
abbrev PS_LOAD_ISRC : Field := ⟨16, 12⟩
abbrev PS_LOAD_ISNK : Field := ⟨0, 12⟩

abbrev PS_LIM_HI : Field := ⟨16, 16⟩
abbrev PS_LIM_LO : Field := ⟨0, 16⟩

abbrev PS_BW_VTHR_VHI : Field := ⟨16, 16⟩
abbrev PS_BW_VTHR_VLO : Field := ⟨0, 16⟩

abbrev PS_BW_ITHR_QUAL : Field := ⟨12, 2⟩
abbrev PS_BW_ITHR_ILIM : Field := ⟨0, 12⟩

abbrev PS_BW_CTRL_REARM : Field := ⟨4, 1⟩
abbrev PS_BW_CTRL_ACTION : Field := ⟨0, 2⟩

abbrev PS_BW_STAT_TRIPPED : Field := ⟨31, 1⟩
abbrev PS_BW_STAT_CAUSE : Field := ⟨28, 3⟩
abbrev PS_BW_STAT_SCOPE : Field := ⟨26, 2⟩
abbrev PS_BW_STAT_MASKED : Field := ⟨0, 24⟩

abbrev PS_STAT_REARM_REF : Field := ⟨3, 1⟩
abbrev PS_STAT_SLOW_STROBE : Field := ⟨2, 1⟩
abbrev PS_STAT_WIN_INV : Field := ⟨1, 1⟩
abbrev PS_STAT_LIM_CLIP : Field := ⟨0, 1⟩

abbrev PS_CMP_STATE_MODE_EFF : Field := ⟨8, 3⟩
abbrev PS_CMP_STATE_LO_DEC : Field := ⟨4, 2⟩
abbrev PS_CMP_STATE_HI_DEC : Field := ⟨2, 2⟩
abbrev PS_CMP_STATE_STATE : Field := ⟨0, 2⟩

abbrev PS_EVT_ARM : Field := ⟨31, 1⟩
abbrev PS_EVT_FIRED : Field := ⟨30, 1⟩
abbrev PS_EVT_AT_ARM : Field := ⟨28, 2⟩
abbrev PS_EVT_FIRE_STATE : Field := ⟨26, 2⟩
abbrev PS_EVT_RING_EN : Field := ⟨9, 1⟩
abbrev PS_EVT_WAKE_EN : Field := ⟨8, 1⟩
abbrev PS_EVT_TARGET : Field := ⟨0, 3⟩

abbrev WV_CTRL_HALT_PARK : Field := ⟨0, 1⟩

abbrev WV_STAT_BUSY_REJ : Field := ⟨6, 1⟩
abbrev WV_STAT_STROBE_LOST : Field := ⟨5, 1⟩
abbrev WV_STAT_DRIVE_DROP : Field := ⟨4, 1⟩
abbrev WV_STAT_SEP : Field := ⟨3, 1⟩
abbrev WV_STAT_ORDER : Field := ⟨2, 1⟩
abbrev WV_STAT_PER_CLIP : Field := ⟨1, 1⟩
abbrev WV_STAT_FMT_RSV : Field := ⟨0, 1⟩

abbrev WV_LOSS_STROBES : Field := ⟨16, 16⟩
abbrev WV_LOSS_DRIVES : Field := ⟨0, 16⟩

abbrev WV_ACC_RESIDUE : Field := ⟨0, 9⟩

abbrev WV_ADDR_AINC : Field := ⟨31, 1⟩
abbrev WV_ADDR_PIN : Field := ⟨12, 3⟩
abbrev WV_ADDR_INDEX : Field := ⟨0, 12⟩

abbrev ED_CTRL_BANK : Field := ⟨0, 1⟩

abbrev ED_ADDR_AINC : Field := ⟨31, 1⟩
abbrev ED_ADDR_PIN : Field := ⟨16, 3⟩
abbrev ED_ADDR_BANK : Field := ⟨8, 1⟩
abbrev ED_ADDR_SET : Field := ⟨0, 8⟩

abbrev ED_E0_VALUE : Field := ⟨0, 20⟩

abbrev ED_E1_VALUE : Field := ⟨0, 20⟩

abbrev ED_E2_VALUE : Field := ⟨0, 20⟩

abbrev ED_E3_VALUE : Field := ⟨0, 20⟩

abbrev ED_E4_VALUE : Field := ⟨0, 20⟩

abbrev ED_E5_VALUE : Field := ⟨0, 20⟩

abbrev SQ_STATE_STATE : Field := ⟨28, 4⟩
abbrev SQ_STATE_CAUSE : Field := ⟨22, 6⟩
abbrev SQ_STATE_ROLE : Field := ⟨20, 2⟩
abbrev SQ_STATE_LOOP_DEPTH : Field := ⟨16, 4⟩
abbrev SQ_STATE_CALL_DEPTH : Field := ⟨12, 4⟩
abbrev SQ_STATE_SLACK_VALID : Field := ⟨11, 1⟩

abbrev SQ_STAT_BT_REJ : Field := ⟨8, 1⟩
abbrev SQ_STAT_CMD_REJ : Field := ⟨7, 1⟩
abbrev SQ_STAT_LEDGER_ERR : Field := ⟨6, 1⟩
abbrev SQ_STAT_MATCH_LATE : Field := ⟨5, 1⟩
abbrev SQ_STAT_MATCH_TO : Field := ⟨4, 1⟩
abbrev SQ_STAT_SLACK_LATE : Field := ⟨3, 1⟩
abbrev SQ_STAT_UNDERRUN : Field := ⟨2, 1⟩
abbrev SQ_STAT_SEAM_SLIP : Field := ⟨1, 1⟩
abbrev SQ_STAT_STOPPED : Field := ⟨0, 1⟩

abbrev SQ_SEG_SEG : Field := ⟨0, 16⟩

abbrev SQ_OFFS_OFFS : Field := ⟨0, 24⟩

abbrev SQ_CMD_CMD : Field := ⟨0, 4⟩

abbrev SQ_FLAGS_FAIL : Field := ⟨4, 1⟩
abbrev SQ_FLAGS_F : Field := ⟨0, 4⟩

abbrev SQ_MATCH_VALID : Field := ⟨31, 1⟩
abbrev SQ_MATCH_TIMEOUT : Field := ⟨30, 1⟩
abbrev SQ_MATCH_SKIPPED : Field := ⟨29, 1⟩
abbrev SQ_MATCH_ITER : Field := ⟨0, 16⟩

abbrev SQ_ANCH_SEGS : Field := ⟨16, 5⟩
abbrev SQ_ANCH_STEPS : Field := ⟨0, 13⟩

abbrev SQ_BT_ADDR_AINC : Field := ⟨31, 1⟩
abbrev SQ_BT_ADDR_INDEX : Field := ⟨0, 10⟩

abbrev SQ_BT_DATA_SEG : Field := ⟨0, 16⟩

abbrev SQ_CTRL_HOLD_LIMIT : Field := ⟨0, 12⟩

abbrev SQ_TRIG_CFG_MARK_EN : Field := ⟨12, 4⟩
abbrev SQ_TRIG_CFG_SEG_ANY : Field := ⟨9, 1⟩
abbrev SQ_TRIG_CFG_SEG_ACQ : Field := ⟨8, 1⟩
abbrev SQ_TRIG_CFG_SEG_BALL : Field := ⟨4, 4⟩
abbrev SQ_TRIG_CFG_TRIG_EN : Field := ⟨0, 4⟩

abbrev SQ_TRIG_SEG_SEG : Field := ⟨0, 16⟩

abbrev AG_CTRL_YLUT_SRC : Field := ⟨20, 1⟩
abbrev AG_CTRL_YLUT_SHIFT : Field := ⟨16, 4⟩
abbrev AG_CTRL_XLUT_SRC : Field := ⟨13, 1⟩
abbrev AG_CTRL_XLUT_SHIFT : Field := ⟨8, 5⟩
abbrev AG_CTRL_SCR_EN : Field := ⟨1, 1⟩
abbrev AG_CTRL_CHAIN : Field := ⟨0, 1⟩

abbrev AG_STAT_MINMAX : Field := ⟨3, 1⟩
abbrev AG_STAT_TAB_REJ : Field := ⟨2, 1⟩
abbrev AG_STAT_RANGE : Field := ⟨1, 1⟩
abbrev AG_STAT_OP_RSV : Field := ⟨0, 1⟩

abbrev AG_X_INIT_X : Field := ⟨0, 18⟩

abbrev AG_YZ_INIT_Z : Field := ⟨16, 6⟩
abbrev AG_YZ_INIT_Y : Field := ⟨0, 14⟩

abbrev AG_X_VAL_X : Field := ⟨0, 18⟩

abbrev AG_YZ_VAL_DINV : Field := ⟨31, 1⟩
abbrev AG_YZ_VAL_Z : Field := ⟨16, 6⟩
abbrev AG_YZ_VAL_Y : Field := ⟨0, 14⟩

abbrev AG_X_MIN_VALUE : Field := ⟨0, 18⟩

abbrev AG_X_MAX_VALUE : Field := ⟨0, 18⟩

abbrev AG_Y_RANGE_MAX : Field := ⟨16, 14⟩
abbrev AG_Y_RANGE_MIN : Field := ⟨0, 14⟩

abbrev AG_Z_RANGE_MAX : Field := ⟨8, 6⟩
abbrev AG_Z_RANGE_MIN : Field := ⟨0, 6⟩

abbrev AG_XA_VALUE : Field := ⟨0, 18⟩

abbrev AG_YA_VALUE : Field := ⟨0, 14⟩

abbrev AG_ZA_VALUE : Field := ⟨0, 6⟩

abbrev AG_BG_BG : Field := ⟨0, 18⟩

abbrev AG_CHK_XM_VALUE : Field := ⟨0, 18⟩

abbrev AG_CHK_YM_VALUE : Field := ⟨0, 14⟩

abbrev AG_CHK_WORD_VALUE : Field := ⟨0, 18⟩

abbrev AG_AXM_XM : Field := ⟨0, 18⟩

abbrev AG_AYZM_ZM : Field := ⟨16, 6⟩
abbrev AG_AYZM_YM : Field := ⟨0, 14⟩

abbrev AG_TAB_ADDR_AINC : Field := ⟨31, 1⟩
abbrev AG_TAB_ADDR_TABLE : Field := ⟨16, 3⟩
abbrev AG_TAB_ADDR_INDEX : Field := ⟨0, 10⟩

abbrev MC_STAT_BUDGET_OVER : Field := ⟨7, 1⟩
abbrev MC_STAT_STREAM_UNDERRUN : Field := ⟨6, 1⟩
abbrev MC_STAT_STREAM_SUSPEND : Field := ⟨5, 1⟩
abbrev MC_STAT_PANIC_LATE : Field := ⟨4, 1⟩
abbrev MC_STAT_RETRAIN_FORCED : Field := ⟨3, 1⟩
abbrev MC_STAT_PASR_KEPT : Field := ⟨2, 1⟩
abbrev MC_STAT_CRC_FATAL : Field := ⟨1, 1⟩
abbrev MC_STAT_CRC_FIXED : Field := ⟨0, 1⟩

abbrev MC_BUDGET_TOTAL_MBPS : Field := ⟨0, 17⟩

abbrev MC_BUDGET_RSV_HOST : Field := ⟨16, 8⟩
abbrev MC_BUDGET_RSV_SPLICE : Field := ⟨8, 8⟩
abbrev MC_BUDGET_RSV_JOURNAL : Field := ⟨0, 8⟩

abbrev MC_BUDGET_USED_MBPS : Field := ⟨0, 17⟩

abbrev MC_REFILL_CFG_PANIC : Field := ⟨0, 5⟩

abbrev MC_RETRAIN_CFG_INTERVAL : Field := ⟨0, 16⟩

abbrev MC_RETRAIN_STAT_COUNT : Field := ⟨16, 16⟩
abbrev MC_RETRAIN_STAT_FORCED : Field := ⟨8, 8⟩
abbrev MC_RETRAIN_STAT_LAST_CH : Field := ⟨0, 3⟩

abbrev MC_PASR_EN : Field := ⟨8, 1⟩
abbrev MC_PASR_KEEP : Field := ⟨0, 8⟩

abbrev MC_FREE_GROUPS : Field := ⟨0, 20⟩

abbrev MC_CRC_CNT_DRAM_FIXED : Field := ⟨16, 16⟩
abbrev MC_CRC_CNT_HOST_FIXED : Field := ⟨8, 8⟩
abbrev MC_CRC_CNT_FATAL : Field := ⟨0, 8⟩

abbrev MC_CRC_LOC0_STRAND : Field := ⟨24, 8⟩
abbrev MC_CRC_LOC0_SEG : Field := ⟨0, 16⟩

abbrev MC_CRC_LOC1_OUTCOME : Field := ⟨20, 2⟩
abbrev MC_CRC_LOC1_GRANULE : Field := ⟨0, 18⟩

abbrev MC_STREAM_ALLOW_ALLOW : Field := ⟨0, 5⟩

abbrev MC_STREAM_CFG_RATE_CAP : Field := ⟨0, 8⟩

abbrev MC_RING_ACTIVE_LARGE : Field := ⟨7, 1⟩
abbrev MC_RING_ACTIVE_COUNT : Field := ⟨0, 7⟩

abbrev MC_STRM_STAT_STATE : Field := ⟨30, 2⟩
abbrev MC_STRM_STAT_UNDERRUN : Field := ⟨29, 1⟩
abbrev MC_STRM_STAT_STRAND : Field := ⟨16, 8⟩
abbrev MC_STRM_STAT_SEG : Field := ⟨0, 16⟩

abbrev MC_STRM_PROD_INDEX : Field := ⟨0, 19⟩

abbrev MC_STRM_PULL_INDEX : Field := ⟨0, 19⟩

abbrev MC_STRM_CONS_INDEX : Field := ⟨0, 19⟩

abbrev FL_DIE_VALID : Field := ⟨31, 1⟩
abbrev FL_DIE_DIE : Field := ⟨0, 16⟩

abbrev FL_STAT_CMD_REJ : Field := ⟨3, 1⟩
abbrev FL_STAT_LEDGER_ERR : Field := ⟨2, 1⟩
abbrev FL_STAT_STOPPED : Field := ⟨1, 1⟩
abbrev FL_STAT_OVF : Field := ⟨0, 1⟩

abbrev FL_OVF0_VALID : Field := ⟨31, 1⟩
abbrev FL_OVF0_CAUSE : Field := ⟨29, 2⟩
abbrev FL_OVF0_SEG : Field := ⟨0, 16⟩

abbrev FL_OVF1_OFFS : Field := ⟨0, 24⟩

abbrev FL_INFLIGHT_COUNT : Field := ⟨0, 11⟩

abbrev FL_CMD_LEDGER_CLR : Field := ⟨0, 1⟩

abbrev FL_DEV_STAT_CMD_REJ : Field := ⟨4, 1⟩
abbrev FL_DEV_STAT_AUDIT_DONE : Field := ⟨3, 1⟩
abbrev FL_DEV_STAT_JRN_CRC : Field := ⟨2, 1⟩
abbrev FL_DEV_STAT_JRN_LIMIT : Field := ⟨1, 1⟩
abbrev FL_DEV_STAT_IMBALANCE : Field := ⟨0, 1⟩

abbrev FL_DEV_CMD_AUDIT : Field := ⟨1, 1⟩
abbrev FL_DEV_CMD_JRN_RESET : Field := ⟨0, 1⟩

abbrev FL_JRN_WP_GROUPS : Field := ⟨0, 24⟩

abbrev FL_JRN_CRC_COUNT : Field := ⟨24, 8⟩
abbrev FL_JRN_CRC_GROUP : Field := ⟨0, 24⟩

abbrev FL_IMB0_KIND : Field := ⟨28, 4⟩
abbrev FL_IMB0_LOC : Field := ⟨0, 24⟩

abbrev FL_IMB1_STRAND : Field := ⟨24, 8⟩
abbrev FL_IMB1_DIFF : Field := ⟨0, 24⟩

abbrev FL_IMB_CNT_COUNT : Field := ⟨0, 16⟩

abbrev SP_CTRL_BOUND : Field := ⟨16, 11⟩
abbrev SP_CTRL_AUTO : Field := ⟨0, 1⟩

abbrev SP_STAT_CMD_REJ : Field := ⟨5, 1⟩
abbrev SP_STAT_CTX_FULL : Field := ⟨4, 1⟩
abbrev SP_STAT_CRC_ERR : Field := ⟨3, 1⟩
abbrev SP_STAT_NODIE : Field := ⟨2, 1⟩
abbrev SP_STAT_BOUND_HIT : Field := ⟨1, 1⟩
abbrev SP_STAT_DONE : Field := ⟨0, 1⟩

abbrev SP_CMD_CODE : Field := ⟨30, 2⟩
abbrev SP_CMD_DIE : Field := ⟨0, 16⟩

abbrev SP_CTX_USED_COUNT : Field := ⟨0, 21⟩

abbrev SP_POOL_USED_COUNT : Field := ⟨0, 18⟩

abbrev SP_PEND_RUNNING : Field := ⟨8, 8⟩
abbrev SP_PEND_WAITING : Field := ⟨0, 8⟩

abbrev SP_LAST_VALID : Field := ⟨31, 1⟩
abbrev SP_LAST_OUTCOME : Field := ⟨16, 3⟩
abbrev SP_LAST_DIE : Field := ⟨0, 16⟩

abbrev SP_CRC_CNT_CTX : Field := ⟨16, 16⟩
abbrev SP_CRC_CNT_RECOMP : Field := ⟨8, 8⟩
abbrev SP_CRC_CNT_REANALYSE : Field := ⟨0, 8⟩

abbrev SP_CRC_LOC_DIE : Field := ⟨16, 16⟩
abbrev SP_CRC_LOC_SEG : Field := ⟨0, 16⟩

abbrev PL_STATE_STATE : Field := ⟨28, 4⟩
abbrev PL_STATE_DIES : Field := ⟨8, 8⟩
abbrev PL_STATE_GROUPS : Field := ⟨0, 8⟩

abbrev PL_STAT_ENGINE_SHORT : Field := ⟨4, 1⟩
abbrev PL_STAT_SUBST : Field := ⟨3, 1⟩
abbrev PL_STAT_DROPPED : Field := ⟨2, 1⟩
abbrev PL_STAT_REFUSED : Field := ⟨1, 1⟩
abbrev PL_STAT_APPLIED : Field := ⟨0, 1⟩

abbrev PL_REFUSE_REASON : Field := ⟨24, 8⟩
abbrev PL_REFUSE_DETAIL : Field := ⟨0, 24⟩

abbrev PL_TIME_APPLY : Field := ⟨16, 16⟩
abbrev PL_TIME_PLACE : Field := ⟨0, 16⟩

abbrev PL_CMD_RELEASE : Field := ⟨0, 1⟩

abbrev PL_TAB_ADDR_AINC : Field := ⟨31, 1⟩
abbrev PL_TAB_ADDR_WORD : Field := ⟨0, 11⟩

abbrev LB_POS_LEADER : Field := ⟨24, 8⟩
abbrev LB_POS_ROLE : Field := ⟨16, 2⟩
abbrev LB_POS_ENGINE : Field := ⟨0, 4⟩

abbrev LB_MATCH_VALID : Field := ⟨31, 1⟩
abbrev LB_MATCH_PASSED : Field := ⟨30, 1⟩
abbrev LB_MATCH_FIRST : Field := ⟨0, 16⟩

abbrev LB_STAT_SYNC_TO : Field := ⟨2, 1⟩
abbrev LB_STAT_REJOIN : Field := ⟨1, 1⟩
abbrev LB_STAT_SPLIT : Field := ⟨0, 1⟩

abbrev PM_CTRL_MODE : Field := ⟨8, 2⟩
abbrev PM_CTRL_RANGE : Field := ⟨4, 3⟩
abbrev PM_CTRL_CONN : Field := ⟨0, 1⟩

abbrev PM_FORCE_CODE : Field := ⟨0, 16⟩

abbrev PM_FORCE_DIRECT_CODE : Field := ⟨0, 16⟩

abbrev PM_CLAMP_HI_CODE : Field := ⟨0, 16⟩

abbrev PM_CLAMP_LO_CODE : Field := ⟨0, 16⟩

abbrev PM_LIM_V_HI : Field := ⟨16, 16⟩
abbrev PM_LIM_V_LO : Field := ⟨0, 16⟩

abbrev PM_LIM_I_MAXRANGE : Field := ⟨16, 3⟩
abbrev PM_LIM_I_IMAX : Field := ⟨0, 15⟩

abbrev PM_STAT_SG_OVR : Field := ⟨6, 1⟩
abbrev PM_STAT_RANGE_OVR : Field := ⟨5, 1⟩
abbrev PM_STAT_VCLAMP : Field := ⟨4, 1⟩
abbrev PM_STAT_ILIM : Field := ⟨3, 1⟩
abbrev PM_STAT_CLAMP_INV : Field := ⟨2, 1⟩
abbrev PM_STAT_RSV : Field := ⟨1, 1⟩
abbrev PM_STAT_LIM_CLIP : Field := ⟨0, 1⟩

abbrev PM_STATE_SG : Field := ⟨10, 1⟩
abbrev PM_STATE_VCLAMP : Field := ⟨9, 1⟩
abbrev PM_STATE_ILIM : Field := ⟨8, 1⟩
abbrev PM_STATE_RANGE_EFF : Field := ⟨4, 3⟩
abbrev PM_STATE_STATE : Field := ⟨0, 4⟩

abbrev AD_CFG_EN : Field := ⟨31, 1⟩
abbrev AD_CFG_SRC : Field := ⟨28, 3⟩
abbrev AD_CFG_NOTCH : Field := ⟨26, 2⟩
abbrev AD_CFG_ORDER : Field := ⟨24, 2⟩
abbrev AD_CFG_DEC : Field := ⟨0, 17⟩

abbrev AD_NOTCH_PERIOD : Field := ⟨0, 24⟩

abbrev AD_DATA_DISTURBED : Field := ⟨31, 1⟩
abbrev AD_DATA_SEQ : Field := ⟨24, 7⟩
abbrev AD_DATA_RESULT : Field := ⟨0, 24⟩

abbrev AD_STAT_STOPPED : Field := ⟨3, 1⟩
abbrev AD_STAT_NOTCH_SHORT : Field := ⟨2, 1⟩
abbrev AD_STAT_CFG_CLIP : Field := ⟨1, 1⟩
abbrev AD_STAT_SAT : Field := ⟨0, 1⟩

abbrev AD_OFS_V_OFS : Field := ⟨0, 24⟩

abbrev AD_OFS_I_OFS : Field := ⟨0, 24⟩

abbrev AD_GAIN_V_GAIN : Field := ⟨0, 24⟩

abbrev AD_GAIN_I_GAIN : Field := ⟨0, 24⟩

abbrev SG_CTRL_EN : Field := ⟨31, 1⟩
abbrev SG_CTRL_PINS : Field := ⟨0, 8⟩

abbrev SG_STAT_TAB_REJ : Field := ⟨2, 1⟩
abbrev SG_STAT_CLIP : Field := ⟨1, 1⟩
abbrev SG_STAT_FTW_CLIP : Field := ⟨0, 1⟩

abbrev SG_PHASE0_VALUE : Field := ⟨0, 16⟩

abbrev SG_AMPL_VALUE : Field := ⟨0, 16⟩

abbrev SG_OFFSET_VALUE : Field := ⟨0, 16⟩

abbrev SG_TAB_ADDR_AINC : Field := ⟨31, 1⟩
abbrev SG_TAB_ADDR_INDEX : Field := ⟨0, 12⟩

abbrev SG_TAB_DATA_ENTRY : Field := ⟨0, 18⟩

abbrev SG_TDAC_EN : Field := ⟨31, 1⟩
abbrev SG_TDAC_CODE : Field := ⟨0, 10⟩

abbrev TD_CFG_MODE : Field := ⟨30, 2⟩
abbrev TD_CFG_ARM : Field := ⟨28, 2⟩
abbrev TD_CFG_START_EDGE : Field := ⟨26, 2⟩
abbrev TD_CFG_STOP_EDGE : Field := ⟨24, 2⟩
abbrev TD_CFG_RING : Field := ⟨23, 1⟩
abbrev TD_CFG_TIMEOUT : Field := ⟨0, 16⟩

abbrev TD_N_N : Field := ⟨0, 25⟩

abbrev TD_CTRL_STOP : Field := ⟨1, 1⟩
abbrev TD_CTRL_START : Field := ⟨0, 1⟩

abbrev TD_STAT_STATE : Field := ⟨28, 4⟩
abbrev TD_STAT_STATUS : Field := ⟨24, 4⟩
abbrev TD_STAT_CMD_REJ : Field := ⟨3, 1⟩
abbrev TD_STAT_CLOSE : Field := ⟨2, 1⟩
abbrev TD_STAT_OVR : Field := ⟨1, 1⟩
abbrev TD_STAT_DONE : Field := ⟨0, 1⟩

abbrev TD_COUNT_COUNT : Field := ⟨0, 25⟩

abbrev TD_SCALE_SCALE : Field := ⟨0, 16⟩

abbrev AQ_CFG_SRC : Field := ⟨30, 2⟩
abbrev AQ_CFG_TSRC : Field := ⟨28, 2⟩
abbrev AQ_CFG_MEAS_EN : Field := ⟨27, 1⟩
abbrev AQ_CFG_MEAS_PIN : Field := ⟨24, 3⟩
abbrev AQ_CFG_PINS : Field := ⟨16, 8⟩
abbrev AQ_CFG_AVG : Field := ⟨0, 13⟩

abbrev AQ_LEN_ROWS : Field := ⟨0, 24⟩

abbrev AQ_PRE_ROWS : Field := ⟨0, 24⟩

abbrev AQ_NREC_COUNT : Field := ⟨0, 16⟩

abbrev AQ_DIV_CYCLES : Field := ⟨0, 16⟩

abbrev AQ_CTRL_FORCE : Field := ⟨2, 1⟩
abbrev AQ_CTRL_STOP : Field := ⟨1, 1⟩
abbrev AQ_CTRL_START : Field := ⟨0, 1⟩

abbrev AQ_STAT_STATE : Field := ⟨28, 4⟩
abbrev AQ_STAT_PT_FOREIGN : Field := ⟨4, 1⟩
abbrev AQ_STAT_OVF : Field := ⟨3, 1⟩
abbrev AQ_STAT_CFG_CLIP : Field := ⟨2, 1⟩
abbrev AQ_STAT_CFG_REJ : Field := ⟨1, 1⟩
abbrev AQ_STAT_DONE : Field := ⟨0, 1⟩

abbrev AQ_REC_FLAGS : Field := ⟨29, 3⟩
abbrev AQ_REC_PRE_VALID : Field := ⟨0, 24⟩

abbrev AQ_DEAD_MAX : Field := ⟨16, 16⟩
abbrev AQ_DEAD_LAST : Field := ⟨0, 16⟩

abbrev AQ_FILL_KIB : Field := ⟨0, 13⟩

abbrev AQ_OVF_VALID : Field := ⟨31, 1⟩
abbrev AQ_OVF_ROWS : Field := ⟨0, 24⟩

abbrev CB_CMD_KIND : Field := ⟨28, 4⟩
abbrev CB_CMD_CONTEXT : Field := ⟨26, 2⟩
abbrev CB_CMD_SRC : Field := ⟨23, 3⟩
abbrev CB_CMD_PINS : Field := ⟨8, 8⟩
abbrev CB_CMD_STRAND : Field := ⟨0, 8⟩

abbrev CB_STAT_COMMIT_FAIL : Field := ⟨5, 1⟩
abbrev CB_STAT_COMMIT_DONE : Field := ⟨4, 1⟩
abbrev CB_STAT_ITEM_REJ : Field := ⟨3, 1⟩
abbrev CB_STAT_BUSY_REJ : Field := ⟨2, 1⟩
abbrev CB_STAT_REFUSED : Field := ⟨1, 1⟩
abbrev CB_STAT_DONE : Field := ⟨0, 1⟩

abbrev CB_BUSY_COMMIT : Field := ⟨31, 1⟩
abbrev CB_BUSY_COVES : Field := ⟨0, 16⟩

abbrev CB_RES_STRAND : Field := ⟨24, 8⟩
abbrev CB_RES_KIND : Field := ⟨20, 4⟩
abbrev CB_RES_OUTCOME : Field := ⟨16, 4⟩
abbrev CB_RES_ACCEPT : Field := ⟨8, 8⟩
abbrev CB_RES_REJECT : Field := ⟨0, 8⟩

abbrev CB_REF_Q_Q : Field := ⟨0, 24⟩

abbrev CB_REF_DELAY_TREF : Field := ⟨0, 16⟩

abbrev CB_TOL_LEVEL : Field := ⟨24, 8⟩
abbrev CB_TOL_TIME : Field := ⟨16, 8⟩
abbrev CB_TOL_CONV_GAIN : Field := ⟨8, 8⟩
abbrev CB_TOL_CONV_OFS : Field := ⟨0, 8⟩

abbrev CB_CTRL_AUTO_STROBE : Field := ⟨0, 1⟩

abbrev CB_ADDR_AINC : Field := ⟨31, 1⟩
abbrev CB_ADDR_PIN : Field := ⟨16, 11⟩
abbrev CB_ADDR_ITEM : Field := ⟨0, 7⟩

abbrev CB_COMMIT_CONFIRM : Field := ⟨16, 16⟩
abbrev CB_COMMIT_GO : Field := ⟨0, 1⟩

abbrev HT_STAT_CFG_REJ : Field := ⟨6, 1⟩
abbrev HT_STAT_LOCKOUT : Field := ⟨5, 1⟩
abbrev HT_STAT_KEY_FAIL : Field := ⟨4, 1⟩
abbrev HT_STAT_RES_WAIT : Field := ⟨3, 1⟩
abbrev HT_STAT_EVT_LOST : Field := ⟨2, 1⟩
abbrev HT_STAT_UNK_QP : Field := ⟨1, 1⟩
abbrev HT_STAT_ICRC : Field := ⟨0, 1⟩

abbrev HT_PFC_XON : Field := ⟨24, 8⟩
abbrev HT_PFC_XOFF : Field := ⟨16, 8⟩
abbrev HT_PFC_EN : Field := ⟨8, 1⟩
abbrev HT_PFC_PRIO : Field := ⟨0, 3⟩

abbrev HT_EVT_CFG_EN : Field := ⟨31, 1⟩
abbrev HT_EVT_CFG_QP : Field := ⟨16, 6⟩
abbrev HT_EVT_CFG_LOG2 : Field := ⟨8, 5⟩
abbrev HT_EVT_CFG_FAULT_EN : Field := ⟨1, 1⟩
abbrev HT_EVT_CFG_STOP_EN : Field := ⟨0, 1⟩

abbrev HT_RES_CFG_EN : Field := ⟨31, 1⟩
abbrev HT_RES_CFG_QP : Field := ⟨16, 6⟩
abbrev HT_RES_CFG_LOG2 : Field := ⟨8, 5⟩

abbrev HT_KEY_FAIL_COUNT : Field := ⟨24, 8⟩
abbrev HT_KEY_FAIL_QP : Field := ⟨0, 6⟩

abbrev HT_QP_CTRL_STATE : Field := ⟨30, 2⟩
abbrev HT_QP_CTRL_EN : Field := ⟨15, 1⟩
abbrev HT_QP_CTRL_MTU : Field := ⟨12, 2⟩
abbrev HT_QP_CTRL_RETRY : Field := ⟨8, 3⟩
abbrev HT_QP_CTRL_TIMEOUT : Field := ⟨3, 5⟩
abbrev HT_QP_CTRL_PORT : Field := ⟨0, 1⟩

abbrev HT_QP_STAT_CPL_LOST : Field := ⟨7, 1⟩
abbrev HT_QP_STAT_CFG_REJ : Field := ⟨6, 1⟩
abbrev HT_QP_STAT_IDX_ERR : Field := ⟨5, 1⟩
abbrev HT_QP_STAT_KNOCK_BAD : Field := ⟨4, 1⟩
abbrev HT_QP_STAT_WIN_DEFER : Field := ⟨3, 1⟩
abbrev HT_QP_STAT_WIN_ERR : Field := ⟨2, 1⟩
abbrev HT_QP_STAT_RETRY_EXC : Field := ⟨1, 1⟩
abbrev HT_QP_STAT_NAK_RCVD : Field := ⟨0, 1⟩

abbrev HT_QP_PEER_VALUE : Field := ⟨0, 24⟩

abbrev HT_QP_SPSN_VALUE : Field := ⟨0, 24⟩

abbrev HT_QP_EPSN_VALUE : Field := ⟨0, 24⟩

abbrev HT_QP_VLAN_TAG_EN : Field := ⟨31, 1⟩
abbrev HT_QP_VLAN_DSCP : Field := ⟨24, 6⟩
abbrev HT_QP_VLAN_PCP : Field := ⟨13, 3⟩
abbrev HT_QP_VLAN_VID : Field := ⟨0, 12⟩

abbrev HT_QP_SPORT_PORT : Field := ⟨0, 16⟩

abbrev HT_QP_RING_CPL_LOG2 : Field := ⟨8, 5⟩
abbrev HT_QP_RING_CMD_LOG2 : Field := ⟨0, 5⟩

abbrev HT_QP_PRIV_PRIV : Field := ⟨0, 1⟩

abbrev RG_STATE_HOLD : Field := ⟨31, 1⟩
abbrev RG_STATE_SLACK : Field := ⟨30, 1⟩
abbrev RG_STATE_BREAK : Field := ⟨28, 2⟩

abbrev RG_STAT_SELF_LOOP_FAIL : Field := ⟨4, 1⟩
abbrev RG_STAT_SPLIT : Field := ⟨3, 1⟩
abbrev RG_STAT_CMD_REJ : Field := ⟨2, 1⟩
abbrev RG_STAT_ADDR_DUP : Field := ⟨1, 1⟩
abbrev RG_STAT_SLACK_RX : Field := ⟨0, 1⟩

abbrev RG_ADDR_RING : Field := ⟨8, 5⟩
abbrev RG_ADDR_POS : Field := ⟨0, 6⟩

abbrev RG_CTRL_SLACK_ON_FAULT : Field := ⟨0, 1⟩

abbrev RG_TC_MAP_UNTAGGED : Field := ⟨16, 2⟩
abbrev RG_TC_MAP_PCP : Field := ⟨0, 16⟩

abbrev RG_HB_MISS : Field := ⟨16, 4⟩
abbrev RG_HB_PERIOD : Field := ⟨0, 16⟩

abbrev RG_CMD_SLACK_CLR : Field := ⟨1, 1⟩
abbrev RG_CMD_SLACK : Field := ⟨0, 1⟩

abbrev RG_BYPASS_CONFIRM : Field := ⟨16, 16⟩
abbrev RG_BYPASS_GO : Field := ⟨0, 1⟩

abbrev RG_SLACK_REASON : Field := ⟨24, 8⟩
abbrev RG_SLACK_SRC : Field := ⟨0, 16⟩

abbrev RG_LINK_STATE : Field := ⟨30, 2⟩
abbrev RG_LINK_CAUSE : Field := ⟨27, 3⟩

abbrev RG_LINK_ERR_REBASE : Field := ⟨28, 4⟩
abbrev RG_LINK_ERR_RING : Field := ⟨24, 4⟩
abbrev RG_LINK_ERR_GIANT : Field := ⟨18, 6⟩
abbrev RG_LINK_ERR_LOOP : Field := ⟨12, 6⟩
abbrev RG_LINK_ERR_FCS : Field := ⟨6, 6⟩
abbrev RG_LINK_ERR_DOWN_DROP : Field := ⟨0, 6⟩

abbrev RG_AUDIT_FAIL : Field := ⟨16, 16⟩
abbrev RG_AUDIT_SKIPPED : Field := ⟨8, 8⟩
abbrev RG_AUDIT_DONE : Field := ⟨0, 8⟩

abbrev TL_STATE_STATE : Field := ⟨28, 4⟩
abbrev TL_STATE_SOURCE : Field := ⟨26, 2⟩
abbrev TL_STATE_MASTER : Field := ⟨25, 1⟩
abbrev TL_STATE_SETTLED : Field := ⟨24, 1⟩
abbrev TL_STATE_HOLD_S : Field := ⟨0, 16⟩

abbrev TL_STAT_SET_REJ : Field := ⟨8, 1⟩
abbrev TL_STAT_MASTER_DUP : Field := ⟨7, 1⟩
abbrev TL_STAT_SETTLE_FAIL : Field := ⟨6, 1⟩
abbrev TL_STAT_CLIP : Field := ⟨5, 1⟩
abbrev TL_STAT_STEPPED : Field := ⟨4, 1⟩
abbrev TL_STAT_MARK_LOSS : Field := ⟨3, 1⟩
abbrev TL_STAT_PPS_MISS : Field := ⟨2, 1⟩
abbrev TL_STAT_REF_LOSS : Field := ⟨1, 1⟩
abbrev TL_STAT_LOCKED : Field := ⟨0, 1⟩

abbrev TL_CTRL_STEP_THR : Field := ⟨8, 8⟩
abbrev TL_CTRL_REF_FREQ : Field := ⟨2, 2⟩
abbrev TL_CTRL_EXT_EN : Field := ⟨1, 1⟩
abbrev TL_CTRL_MASTER : Field := ⟨0, 1⟩

abbrev TL_CMD_SET : Field := ⟨1, 1⟩
abbrev TL_CMD_SETTLE : Field := ⟨0, 1⟩

abbrev TL_POLL_US : Field := ⟨0, 16⟩

abbrev DEV_FW_VER_MAJOR : Field := ⟨24, 8⟩
abbrev DEV_FW_VER_MINOR : Field := ⟨16, 8⟩
abbrev DEV_FW_VER_BUILD : Field := ⟨0, 16⟩

abbrev DEV_STATE_STATE : Field := ⟨28, 4⟩
abbrev DEV_STATE_STEP : Field := ⟨24, 4⟩
abbrev DEV_STATE_POWER : Field := ⟨20, 2⟩
abbrev DEV_STATE_AWAKE : Field := ⟨0, 16⟩

abbrev DEV_STAT_UCODE_FAIL : Field := ⟨3, 1⟩
abbrev DEV_STAT_FW_FAIL : Field := ⟨2, 1⟩
abbrev DEV_STAT_CAL_DEFAULTED : Field := ⟨1, 1⟩
abbrev DEV_STAT_SETUP_DEFAULTED : Field := ⟨0, 1⟩

abbrev DEV_PWR_CMD_CONFIRM : Field := ⟨16, 16⟩
abbrev DEV_PWR_CMD_CMD : Field := ⟨0, 2⟩

abbrev DEV_PWR_CFG_EVT_WAKE : Field := ⟨0, 1⟩

abbrev DEV_PWR_STAT_LAST_START : Field := ⟨28, 4⟩
abbrev DEV_PWR_STAT_CMD_REJ : Field := ⟨16, 1⟩
abbrev DEV_PWR_STAT_START_MS : Field := ⟨0, 16⟩

abbrev BI_RESULT_DONE : Field := ⟨31, 1⟩
abbrev BI_RESULT_PASS : Field := ⟨30, 1⟩
abbrev BI_RESULT_CRIT : Field := ⟨24, 4⟩
abbrev BI_RESULT_LANES : Field := ⟨16, 5⟩
abbrev BI_RESULT_ENGINES : Field := ⟨8, 8⟩
abbrev BI_RESULT_STRANDS : Field := ⟨0, 8⟩

abbrev BI_LANE_RESERVE : Field := ⟨27, 5⟩
abbrev BI_LANE_FAIL : Field := ⟨0, 17⟩

abbrev BI_COVE_FAIL : Field := ⟨0, 16⟩

abbrev BI_RT_CMD_KIND : Field := ⟨30, 2⟩
abbrev BI_RT_CMD_SUBST : Field := ⟨29, 1⟩
abbrev BI_RT_CMD_NUM : Field := ⟨0, 8⟩

abbrev BI_RT_STAT_STATE : Field := ⟨30, 2⟩
abbrev BI_RT_STAT_KIND : Field := ⟨28, 2⟩
abbrev BI_RT_STAT_RESULT : Field := ⟨24, 4⟩
abbrev BI_RT_STAT_SUBST : Field := ⟨23, 1⟩
abbrev BI_RT_STAT_DONE : Field := ⟨22, 1⟩
abbrev BI_RT_STAT_NUM : Field := ⟨12, 8⟩
abbrev BI_RT_STAT_DISCARDED : Field := ⟨0, 9⟩

abbrev CV_CMD_WAKE : Field := ⟨0, 1⟩

abbrev CV_STATE_STATE : Field := ⟨28, 4⟩
abbrev CV_STATE_CAUSE : Field := ⟨24, 4⟩

abbrev CV_STAT_LOCK_LOST : Field := ⟨1, 1⟩
abbrev CV_STAT_LOCK_FAIL : Field := ⟨0, 1⟩

abbrev FC_SUMMARY_MAX_CLASS : Field := ⟨30, 2⟩
abbrev FC_SUMMARY_ANY : Field := ⟨29, 1⟩
abbrev FC_SUMMARY_GRAVE : Field := ⟨28, 1⟩
abbrev FC_SUMMARY_LOGGED : Field := ⟨16, 7⟩
abbrev FC_SUMMARY_OPEN : Field := ⟨0, 12⟩

abbrev FC_STAT_LOG_WRAP : Field := ⟨5, 1⟩
abbrev FC_STAT_FORCE_REJ : Field := ⟨4, 1⟩
abbrev FC_STAT_ACK_REJ : Field := ⟨3, 1⟩
abbrev FC_STAT_CLASS_RAISED : Field := ⟨2, 1⟩
abbrev FC_STAT_MERGED : Field := ⟨1, 1⟩
abbrev FC_STAT_OPENED : Field := ⟨0, 1⟩

abbrev FC_NEXT_VALID : Field := ⟨31, 1⟩
abbrev FC_NEXT_CLASS : Field := ⟨12, 2⟩
abbrev FC_NEXT_SOURCE : Field := ⟨0, 12⟩

abbrev FC_REC_SEL_INDEX : Field := ⟨0, 12⟩

abbrev FC_LOG_SEL_INDEX : Field := ⟨0, 12⟩

abbrev FC_ACK_SOURCE : Field := ⟨0, 12⟩

abbrev FC_FORCE_GO : Field := ⟨31, 1⟩
abbrev FC_FORCE_SOURCE : Field := ⟨16, 12⟩
abbrev FC_FORCE_KIND : Field := ⟨0, 8⟩

abbrev FC_ALERT_CFG_LEVEL : Field := ⟨0, 2⟩

abbrev FC_WDT_PERIOD : Field := ⟨0, 16⟩

abbrev FC_HELM_STATE_HOLDER : Field := ⟨31, 1⟩
abbrev FC_HELM_STATE_PENDING : Field := ⟨30, 1⟩
abbrev FC_HELM_STATE_BEACON_RUN : Field := ⟨29, 1⟩
abbrev FC_HELM_STATE_CAUSE : Field := ⟨26, 3⟩
abbrev FC_HELM_STATE_LEFT_MS : Field := ⟨16, 10⟩
abbrev FC_HELM_STATE_WDT_COUNT : Field := ⟨0, 16⟩

abbrev FC_HELM_CMD_CONFIRM : Field := ⟨16, 16⟩
abbrev FC_HELM_CMD_RESET : Field := ⟨2, 1⟩
abbrev FC_HELM_CMD_RETURN : Field := ⟨1, 1⟩
abbrev FC_HELM_CMD_ACK : Field := ⟨0, 1⟩

abbrev TH_MAX_SENSOR : Field := ⟨24, 5⟩
abbrev TH_MAX_TEMP : Field := ⟨0, 16⟩

abbrev TH_STATE_LEVEL : Field := ⟨28, 4⟩
abbrev TH_STATE_COOL : Field := ⟨0, 10⟩

abbrev TH_STAT_EXCL_REJ : Field := ⟨5, 1⟩
abbrev TH_STAT_RESTARTED : Field := ⟨4, 1⟩
abbrev TH_STAT_BROKEN : Field := ⟨3, 1⟩
abbrev TH_STAT_SHUTDOWN : Field := ⟨2, 1⟩
abbrev TH_STAT_HALT : Field := ⟨1, 1⟩
abbrev TH_STAT_WARN : Field := ⟨0, 1⟩

abbrev TH_EXCLUDE_SENSORS : Field := ⟨0, 24⟩

abbrev TH_SENS_BROKEN : Field := ⟨31, 1⟩
abbrev TH_SENS_EXCLUDED : Field := ⟨30, 1⟩
abbrev TH_SENS_TEMP : Field := ⟨0, 16⟩

abbrev CS_UCODE_VER_MAJOR : Field := ⟨24, 8⟩
abbrev CS_UCODE_VER_MINOR : Field := ⟨16, 8⟩
abbrev CS_UCODE_VER_PATCH : Field := ⟨8, 8⟩
abbrev CS_UCODE_VER_RT_PATCH : Field := ⟨1, 1⟩
abbrev CS_UCODE_VER_SLOT : Field := ⟨0, 1⟩

abbrev CS_STAT_BUSY : Field := ⟨31, 1⟩
abbrev CS_STAT_ENG_BAD : Field := ⟨8, 8⟩
abbrev CS_STAT_FAIL : Field := ⟨1, 1⟩
abbrev CS_STAT_DONE : Field := ⟨0, 1⟩

abbrev CS_RES_CMD : Field := ⟨28, 4⟩
abbrev CS_RES_CODE : Field := ⟨16, 8⟩
abbrev CS_RES_ENGINE : Field := ⟨0, 8⟩

abbrev CS_LOADED_FALLBACK : Field := ⟨31, 1⟩
abbrev CS_LOADED_CODE_A : Field := ⟨20, 4⟩
abbrev CS_LOADED_CODE_B : Field := ⟨16, 4⟩
abbrev CS_LOADED_TIME : Field := ⟨0, 16⟩

abbrev CS_SLOT_PREF : Field := ⟨0, 1⟩

abbrev CS_CMD_SLOT : Field := ⟨4, 1⟩
abbrev CS_CMD_CMD : Field := ⟨0, 4⟩

abbrev CS_STAGE_ADDR_AINC : Field := ⟨31, 1⟩
abbrev CS_STAGE_ADDR_OFFSET : Field := ⟨0, 16⟩

abbrev CS_PATCH_NNANO : Field := ⟨16, 6⟩
abbrev CS_PATCH_VALID : Field := ⟨0, 16⟩

abbrev CS_PATCH_ADDR_ADDR : Field := ⟨0, 13⟩

abbrev RE_STATE_STATE : Field := ⟨30, 2⟩
abbrev RE_STATE_STRAND : Field := ⟨0, 8⟩

abbrev RE_UCODE_VER_VER : Field := ⟨8, 24⟩

abbrev SPI_STAT_PRIV : Field := ⟨31, 1⟩
abbrev SPI_STAT_MODE : Field := ⟨29, 2⟩
abbrev SPI_STAT_PARTIAL : Field := ⟨7, 1⟩
abbrev SPI_STAT_BAD_CMD : Field := ⟨6, 1⟩
abbrev SPI_STAT_LONG : Field := ⟨5, 1⟩
abbrev SPI_STAT_MALFORMED : Field := ⟨4, 1⟩
abbrev SPI_STAT_DEFER : Field := ⟨3, 1⟩
abbrev SPI_STAT_BUS_ERR : Field := ⟨2, 1⟩
abbrev SPI_STAT_RSV_HIT : Field := ⟨1, 1⟩
abbrev SPI_STAT_WRAP : Field := ⟨0, 1⟩

abbrev SPI_LAST_OUTCOME : Field := ⟨29, 3⟩
abbrev SPI_LAST_WORDS : Field := ⟨22, 7⟩
abbrev SPI_LAST_WADDR : Field := ⟨0, 22⟩

abbrev LS_STAT_CMD_REJ : Field := ⟨6, 1⟩
abbrev LS_STAT_DONE : Field := ⟨5, 1⟩
abbrev LS_STAT_PEND_SAT : Field := ⟨4, 1⟩
abbrev LS_STAT_CAL_SKEW : Field := ⟨3, 1⟩
abbrev LS_STAT_CAL_END : Field := ⟨2, 1⟩
abbrev LS_STAT_JRN_TRUNC : Field := ⟨1, 1⟩

abbrev LS_RES_BUSY : Field := ⟨31, 1⟩
abbrev LS_RES_CMD : Field := ⟨24, 4⟩
abbrev LS_RES_CODE : Field := ⟨16, 8⟩

abbrev LS_CMD_CONFIRM : Field := ⟨16, 16⟩
abbrev LS_CMD_CMD : Field := ⟨0, 4⟩

abbrev LS_CNT_SEL_AINC : Field := ⟨31, 1⟩
abbrev LS_CNT_SEL_INDEX : Field := ⟨0, 11⟩

abbrev LS_CAL_DAY_DAY : Field := ⟨0, 13⟩

abbrev LS_HIST_SEL_AINC : Field := ⟨31, 1⟩
abbrev LS_HIST_SEL_ENTRY : Field := ⟨8, 8⟩
abbrev LS_HIST_SEL_WORD : Field := ⟨0, 5⟩

abbrev LS_WEAR_HIST : Field := ⟨24, 8⟩
abbrev LS_WEAR_ERASES : Field := ⟨0, 24⟩

abbrev LS_SETUP_ADDR_AINC : Field := ⟨31, 1⟩
abbrev LS_SETUP_ADDR_WORD : Field := ⟨0, 4⟩

end Fld

end Sys2Proof.Machine
end

