-- ==== Sys2Proof/Machine/RegMap.lean ====
section
/-! DEFINITION. The register map (spec/02_register_conventions.md R31, R33, R35, R46): for every register of the spec
its offset, how many of it there are and how far apart, its reset value, which of its bits are writable, read-clearing,
read-only or write-only, its update group, its DEV_LOCK bit and its privilege. One list per block of the address map. -/

namespace Sys2Proof.Machine

/-- One row of the register map. Offsets count from the row's block; `count` registers stand `stride` bytes apart;
register i resets to `reset + i * inc`. The masks name the bits of each field type: `w` writable (RW, RWU, RWL, RWP, reserved
bits left out), `cmd` those of `w` that act on a write and read zero, `rc` read-clearing, `ro` read-only, `wo` write-only.
`group` is the update group of an RWU register, `lock` the DEV_LOCK bit of an RWL register, `priv` marks a privileged
register (R58) and `aliased` says that the set, clear and toggle aliases exist (R33). -/
structure RegRow where
  off : Nat
  count : Nat := 1
  stride : Nat := 0
  reset : Nat := 0
  inc : Nat := 0
  w : Nat := 0
  cmd : Nat := 0
  rc : Nat := 0
  ro : Nat := 0
  wo : Nat := 0
  group : Option Nat := none
  lock : Option Nat := none
  priv : Bool := false
  aliased : Bool := true
  deriving DecidableEq, Repr

/-- Device-level registers, by absolute address (the 0x00 to 0x07 blocks of R35). Part 0. -/
def deviceRows0 : List RegRow := [
  { off := Reg.DEV_BUS_ERR, rc := 0xFFFFFFFF, aliased := false },
  { off := Reg.DEV_UPD_STROBE, wo := 0xFFFFFFFF, aliased := false },
  { off := Reg.DEV_UPD_PEND, ro := 0xFFFFFFFF, aliased := false },
  { off := Reg.DEV_UPD_SCHED, w := 0xFFFFFFFF },
  { off := Reg.DEV_UPD_CTRL, w := 0x3 },
  { off := Reg.DEV_UPD_STAT, rc := 0x3, ro := 0xFFFFFFFC, aliased := false },
  { off := Reg.DEV_LOCK, w := 0x7 },
  { off := Reg.DEV_LOCK_VIOL, rc := 0xFFFFFFFF, aliased := false },
  { off := Reg.DEV_PRIV_VIOL, rc := 0xFFFFFFFF, aliased := false },
  { off := Reg.DEV_SNAP, ro := 0xFFFFFFFF, wo := 0xFFFF, aliased := false },
  { off := Reg.MC_STAT, rc := 0xFF, ro := 0xFFFFFF00, aliased := false },
  { off := Reg.MC_BUDGET_TOTAL, reset := 0x17700, w := 0x1FFFF, group := some 18 },
  { off := Reg.MC_BUDGET_RSV, reset := 0xC1830, w := 0xFFFFFF, group := some 18 },
  { off := Reg.MC_BUDGET_USED, ro := 0xFFFFFFFF, aliased := false },
  { off := Reg.MC_REFILL_CFG, reset := 0x4, w := 0x1F, group := some 18 },
  { off := Reg.MC_RETRAIN_CFG, reset := 0x32, w := 0xFFFF, group := some 18 },
  { off := Reg.MC_RETRAIN_STAT, rc := 0xFFFFFF07, ro := 0xF8, aliased := false },
  { off := Reg.MC_PASR, reset := 0xFF, w := 0x1FE, group := some 18 },
  { off := Reg.MC_FREE, reset := 0xC0000, ro := 0xFFFFFFFF, aliased := false },
  { off := Reg.MC_CRC_CNT, rc := 0xFFFFFFFF, aliased := false },
  { off := Reg.MC_CRC_LOC0, ro := 0xFFFFFFFF, aliased := false },
  { off := Reg.MC_CRC_LOC1, ro := 0xFFFFFFFF, aliased := false },
  { off := Reg.MC_STREAM_ALLOW, w := 0x1F },
  { off := Reg.MC_STREAM_CFG, reset := 0x64, w := 0xFF, group := some 18 },
  { off := Reg.MC_RING_ACTIVE, ro := 0xFFFFFFFF, aliased := false },
  { off := Reg.MC_STRM_STAT, count := 16, stride := 16, reset := 0xFF0000, ro := 0xFFFFFFFF, aliased := false },
  { off := Reg.MC_STRM_PROD, count := 16, stride := 16, ro := 0xFFFFFFFF, aliased := false },
  { off := Reg.MC_STRM_PULL, count := 16, stride := 16, ro := 0xFFFFFFFF, aliased := false },
  { off := Reg.MC_STRM_CONS, count := 16, stride := 16, ro := 0xFFFFFFFF, aliased := false },
  { off := Reg.FL_DEV_STAT, rc := 0x1F, ro := 0xFFFFFFE0, aliased := false },
  { off := Reg.FL_DEV_CMD, wo := 0xFFFFFFFF, aliased := false },
  { off := Reg.FL_JRN_WP, ro := 0xFFFFFFFF, aliased := false },
  { off := Reg.FL_JRN_CRC, rc := 0xFFFFFFFF, aliased := false },
  { off := Reg.FL_JRN_EVENTS_LO, ro := 0xFFFFFFFF, aliased := false },
  { off := Reg.FL_JRN_EVENTS_HI, ro := 0xFFFFFFFF, aliased := false },
  { off := Reg.FL_IMB0, ro := 0xFFFFFFFF, aliased := false },
  { off := Reg.FL_IMB1, ro := 0xFFFFFFFF, aliased := false },
  { off := Reg.FL_IMB_CNT, rc := 0xFFFF, ro := 0xFFFF0000, aliased := false },
  { off := Reg.SP_CTRL, reset := 0x4000001, w := 0x7FF0001, group := some 19 },
  { off := Reg.SP_STAT, rc := 0x3F, ro := 0xFFFFFFC0, aliased := false } ]

/-- Device-level registers, by absolute address (the 0x00 to 0x07 blocks of R35). Part 1. -/
def deviceRows1 : List RegRow := [
  { off := Reg.SP_CMD, wo := 0xFFFFFFFF, aliased := false },
  { off := Reg.SP_CTX_USED, ro := 0xFFFFFFFF, aliased := false },
  { off := Reg.SP_POOL_USED, ro := 0xFFFFFFFF, aliased := false },
  { off := Reg.SP_PEND, ro := 0xFFFFFFFF, aliased := false },
  { off := Reg.SP_LAST, ro := 0xFFFFFFFF, aliased := false },
  { off := Reg.SP_CRC_CNT, rc := 0xFFFFFFFF, aliased := false },
  { off := Reg.SP_CRC_LOC, ro := 0xFFFFFFFF, aliased := false },
  { off := Reg.SP_LOST, rc := 0xFFFFFFFF, aliased := false },
  { off := Reg.SP_NODIE, rc := 0xFFFFFFFF, aliased := false },
  { off := Reg.PL_STATE, ro := 0xFFFFFFFF, aliased := false },
  { off := Reg.PL_STAT, rc := 0x1F, ro := 0xFFFFFFE0, aliased := false },
  { off := Reg.PL_REFUSE, ro := 0xFFFFFFFF, aliased := false },
  { off := Reg.PL_ID, ro := 0xFFFFFFFF, aliased := false },
  { off := Reg.PL_TIME, ro := 0xFFFFFFFF, aliased := false },
  { off := Reg.PL_HEALTH, count := 7, stride := 4, ro := 0xFFFFFFFF, aliased := false },
  { off := Reg.PL_CMD, wo := 0xFFFFFFFF, aliased := false },
  { off := Reg.PL_TAB_ADDR, w := 0x800007FF },
  { off := Reg.PL_TAB_DATA, ro := 0xFFFFFFFF, aliased := false },
  { off := Reg.CB_CMD, wo := 0xFFFFFFFF, aliased := false },
  { off := Reg.CB_STAT, rc := 0x3F, ro := 0xFFFFFFC0, aliased := false },
  { off := Reg.CB_BUSY, ro := 0xFFFFFFFF, aliased := false },
  { off := Reg.CB_RES, ro := 0xFFFFFFFF, aliased := false },
  { off := Reg.CB_REF_Q, w := 0xFFFFFF },
  { off := Reg.CB_REF_DELAY, reset := 0x6000, w := 0xFFFF, group := some 22 },
  { off := Reg.CB_TOL, reset := 0x10063210, w := 0xFFFFFFFF },
  { off := Reg.CB_CTRL, w := 0x1 },
  { off := Reg.CB_ADDR, w := 0x87FF007F },
  { off := Reg.CB_DATA, w := 0xFFFFFFFF },
  { off := Reg.CB_COMMIT, w := 0xFFFF0001, cmd := 0xFFFF0001, priv := true, aliased := false },
  { off := Reg.HT_STAT, rc := 0x7F, ro := 0xFFFFFF80, aliased := false },
  { off := Reg.HT_IP, w := 0xFFFFFFFF },
  { off := Reg.HT_MAC_LO, ro := 0xFFFFFFFF, aliased := false },
  { off := Reg.HT_MAC_HI, ro := 0xFFFFFFFF, aliased := false },
  { off := Reg.HT_PFC, reset := 0x20300003, w := 0xFFFF0107, group := some 2 },
  { off := Reg.HT_EVT_CFG, reset := 0x400, w := 0x803F1F03 },
  { off := Reg.HT_RES_CFG, reset := 0x1000, w := 0x803F1F00 },
  { off := Reg.HT_EVT_BASE_LO, w := 0xFFFFFFFF },
  { off := Reg.HT_EVT_BASE_HI, w := 0xFFFFFFFF },
  { off := Reg.HT_RES_BASE_LO, w := 0xFFFFFFFF },
  { off := Reg.HT_RES_BASE_HI, w := 0xFFFFFFFF } ]

/-- Device-level registers, by absolute address (the 0x00 to 0x07 blocks of R35). Part 2. -/
def deviceRows2 : List RegRow := [
  { off := Reg.HT_EVT_RKEY, w := 0xFFFFFFFF },
  { off := Reg.HT_RES_RKEY, w := 0xFFFFFFFF },
  { off := Reg.HT_EVT_LOST, rc := 0xFFFFFFFF, aliased := false },
  { off := Reg.HT_KEY_FAIL, rc := 0xFF00003F, ro := 0xFFFFC0, aliased := false },
  { off := Reg.RG_STATE, ro := 0xFFFFFFFF, aliased := false },
  { off := Reg.RG_STAT, rc := 0x1F, ro := 0xFFFFFFE0, aliased := false },
  { off := Reg.RG_ADDR, w := 0x1F3F },
  { off := Reg.RG_CTRL, w := 0x1, group := some 16 },
  { off := Reg.RG_TC_MAP, reset := 0x3AA7F, w := 0x3FFFF, group := some 16 },
  { off := Reg.RG_HB, reset := 0x30064, w := 0xFFFFF, group := some 16 },
  { off := Reg.RG_CMD, wo := 0xFFFFFFFF, aliased := false },
  { off := Reg.RG_BYPASS, w := 0xFFFF0001, cmd := 0x1, priv := true },
  { off := Reg.RG_SLACK, ro := 0xFFFFFFFF, aliased := false },
  { off := Reg.RG_SLACK_T_LO, ro := 0xFFFFFFFF, aliased := false },
  { off := Reg.RG_SLACK_T_HI, ro := 0xFFFFFFFF, aliased := false },
  { off := Reg.RG_ACTIVE_LO, ro := 0xFFFFFFFF, aliased := false },
  { off := Reg.RG_ACTIVE_HI, ro := 0xFFFFFFFF, aliased := false },
  { off := Reg.RG_LINK, count := 2, stride := 16, ro := 0xFFFFFFFF, aliased := false },
  { off := Reg.RG_LINK_ERR, count := 2, stride := 16, rc := 0xFFFFFFFF, aliased := false },
  { off := Reg.RG_CR_CLINK, count := 6, stride := 32, ro := 0xFFFFFFFF, aliased := false },
  { off := Reg.RG_CR_AVAIL, count := 6, stride := 32, ro := 0xFFFFFFFF, aliased := false },
  { off := Reg.RG_CR_SENT, count := 6, stride := 32, ro := 0xFFFFFFFF, aliased := false },
  { off := Reg.RG_CR_RET_RX, count := 6, stride := 32, ro := 0xFFFFFFFF, aliased := false },
  { off := Reg.RG_CR_RX, count := 6, stride := 32, ro := 0xFFFFFFFF, aliased := false },
  { off := Reg.RG_CR_RET_TX, count := 6, stride := 32, ro := 0xFFFFFFFF, aliased := false },
  { off := Reg.RG_CR_HELD, count := 6, stride := 32, ro := 0xFFFFFFFF, aliased := false },
  { off := Reg.RG_AUDIT, rc := 0xFFFFFFFF, aliased := false },
  { off := Reg.TL_STATE, ro := 0xFFFFFFFF, aliased := false },
  { off := Reg.TL_STAT, rc := 0x1FF, ro := 0xFFFFFE00, aliased := false },
  { off := Reg.TL_NOW_LO, ro := 0xFFFFFFFF, aliased := false },
  { off := Reg.TL_NOW_HI, ro := 0xFFFFFFFF, aliased := false },
  { off := Reg.TL_CTRL, reset := 0xA00, w := 0xFF0F, group := some 17 },
  { off := Reg.TL_CMD, wo := 0xFFFFFFFF, aliased := false },
  { off := Reg.TL_SET_LO, w := 0xFFFFFFFF },
  { off := Reg.TL_SET_HI, w := 0xFFFFFFFF },
  { off := Reg.TL_UPD_AT_LO, w := 0xFFFFFFFF },
  { off := Reg.TL_UPD_AT_HI, w := 0xFFFFFFFF },
  { off := Reg.TL_OFFSET, ro := 0xFFFFFFFF, aliased := false },
  { off := Reg.TL_AGE_TRIM, w := 0xFFFFFFFF },
  { off := Reg.TL_AGE_RATE, w := 0xFFFFFFFF } ]

/-- Device-level registers, by absolute address (the 0x00 to 0x07 blocks of R35). Part 3. -/
def deviceRows3 : List RegRow := [
  { off := Reg.TL_AGE_ACC, ro := 0xFFFFFFFF, aliased := false },
  { off := Reg.TL_FREQ, ro := 0xFFFFFFFF, aliased := false },
  { off := Reg.TL_POLL, reset := 0x64, w := 0xFFFF, group := some 17 },
  { off := Reg.TL_PD0, ro := 0xFFFFFFFF, aliased := false },
  { off := Reg.TL_PD1, ro := 0xFFFFFFFF, aliased := false },
  { off := Reg.TL_ASYM, ro := 0xFFFFFFFF, aliased := false },
  { off := Reg.TL_PPS_DLY, w := 0xFFFFFFFF, group := some 17 },
  { off := Reg.DEV_ID, reset := 0x7D1536B2, ro := 0xFFFFFFFF, aliased := false },
  { off := Reg.DEV_FW_VER, ro := 0xFFFFFFFF, aliased := false },
  { off := Reg.DEV_STATE, reset := 0x3000000, ro := 0xFFFFFFFF, aliased := false },
  { off := Reg.DEV_STAT, ro := 0xFFFFFFFF, aliased := false },
  { off := Reg.DEV_PWR_CMD, w := 0xFFFF0003, cmd := 0xFFFF0003, priv := true, aliased := false },
  { off := Reg.DEV_PWR_CFG, w := 0x1 },
  { off := Reg.DEV_PWR_STAT, rc := 0x10000, ro := 0xFFFEFFFF, aliased := false },
  { off := Reg.BI_RESULT, ro := 0xFFFFFFFF, aliased := false },
  { off := Reg.BI_ENG, count := 7, stride := 4, ro := 0xFFFFFFFF, aliased := false },
  { off := Reg.BI_STRAND, count := 6, stride := 4, ro := 0xFFFFFFFF, aliased := false },
  { off := Reg.BI_LANE, reset := 0x80000000, ro := 0xFFFFFFFF, aliased := false },
  { off := Reg.BI_COVE, ro := 0xFFFFFFFF, aliased := false },
  { off := Reg.BI_RT_CMD, wo := 0xFFFFFFFF, aliased := false },
  { off := Reg.BI_RT_STAT, rc := 0x400000, ro := 0xFFBFFFFF, aliased := false },
  { off := Reg.FC_SUMMARY, ro := 0xFFFFFFFF, aliased := false },
  { off := Reg.FC_STAT, rc := 0x3F, ro := 0xFFFFFFC0, aliased := false },
  { off := Reg.FC_NEXT, reset := 0xFFF, ro := 0xFFFFFFFF, aliased := false },
  { off := Reg.FC_REC_SEL, w := 0xFFF },
  { off := Reg.FC_LOG_SEL, w := 0xFFF },
  { off := Reg.FC_REC, count := 4, stride := 4, ro := 0xFFFFFFFF, aliased := false },
  { off := Reg.FC_LOG, count := 4, stride := 4, ro := 0xFFFFFFFF, aliased := false },
  { off := Reg.FC_ACK, wo := 0xFFFFFFFF, aliased := false },
  { off := Reg.FC_FORCE, w := 0x8FFF00FF, cmd := 0x80000000, priv := true },
  { off := Reg.FC_ALERT_CFG, reset := 0x2, w := 0x3, group := some 1 },
  { off := Reg.FC_WDT, reset := 0x64, w := 0xFFFF, priv := true },
  { off := Reg.FC_WDT_KICK, wo := 0xFFFFFFFF, aliased := false },
  { off := Reg.FC_HELM_STATE, ro := 0xFFFFFFFF, aliased := false },
  { off := Reg.FC_HELM_EPOCH, ro := 0xFFFFFFFF, aliased := false },
  { off := Reg.FC_HELM_CMD, w := 0xFFFF0007, cmd := 0xFFFF0007, priv := true },
  { off := Reg.TH_MAX, ro := 0xFFFFFFFF, aliased := false },
  { off := Reg.TH_STATE, ro := 0xFFFFFFFF, aliased := false },
  { off := Reg.TH_STAT, rc := 0x3F, ro := 0xFFFFFFC0, aliased := false },
  { off := Reg.TH_EXCLUDE, w := 0xFFFFFF, priv := true } ]

/-- Device-level registers, by absolute address (the 0x00 to 0x07 blocks of R35). Part 4. -/
def deviceRows4 : List RegRow := [
  { off := Reg.TH_SENS, count := 24, stride := 4, ro := 0xFFFFFFFF, aliased := false },
  { off := Reg.CS_UCODE_VER, ro := 0xFFFFFFFF, aliased := false },
  { off := Reg.CS_STAT, rc := 0xFF03, ro := 0xFFFF00FC, aliased := false },
  { off := Reg.CS_RES, ro := 0xFFFFFFFF, aliased := false },
  { off := Reg.CS_LOADED, ro := 0xFFFFFFFF, aliased := false },
  { off := Reg.CS_SLOT, w := 0x1, priv := true },
  { off := Reg.CS_CMD, w := 0x1F, cmd := 0xF, priv := true },
  { off := Reg.CS_STAGE_ADDR, w := 0x8000FFFC, priv := true },
  { off := Reg.CS_STAGE_DATA, w := 0xFFFFFFFF, priv := true },
  { off := Reg.CS_PATCH, ro := 0xFFFFFFFF, aliased := false },
  { off := Reg.CS_PATCH_ADDR, count := 16, stride := 4, ro := 0xFFFFFFFF, aliased := false },
  { off := Reg.SPI_STAT, rc := 0xFF, ro := 0xFFFFFF00, aliased := false },
  { off := Reg.SPI_LAST, ro := 0xFFFFFFFF, aliased := false },
  { off := Reg.LS_STAT, rc := 0x7E, ro := 0xFFFFFF81, aliased := false },
  { off := Reg.LS_RES, ro := 0xFFFFFFFF, aliased := false },
  { off := Reg.LS_CMD, w := 0xFFFF000F, cmd := 0xFFFF000F, priv := true, aliased := false },
  { off := Reg.LS_CNT_SEL, w := 0x800007FF },
  { off := Reg.LS_CNT, ro := 0xFFFFFFFF, aliased := false },
  { off := Reg.LS_CAL_S, ro := 0xFFFFFFFF, aliased := false },
  { off := Reg.LS_FACTORY_S, ro := 0xFFFFFFFF, aliased := false },
  { off := Reg.LS_CAL_DAY, ro := 0xFFFFFFFF, aliased := false },
  { off := Reg.LS_HIST_SEL, w := 0x8000FF1F },
  { off := Reg.LS_HIST_DATA, ro := 0xFFFFFFFF, aliased := false },
  { off := Reg.LS_WEAR, ro := 0xFFFFFFFF, aliased := false },
  { off := Reg.LS_SETUP_ADDR, w := 0x8000000F, priv := true },
  { off := Reg.LS_SETUP_DATA, w := 0xFFFFFFFF, priv := true },
  { off := Reg.HT_SNAP, ro := 0xFFFFFFFF, wo := 0xFFFF, aliased := false },
  { off := Reg.RG_SNAP, ro := 0xFFFFFFFF, wo := 0xFFFF, aliased := false },
  { off := Reg.TL_SNAP, ro := 0xFFFFFFFF, wo := 0xFFFF, aliased := false },
  { off := Reg.MC_SNAP, ro := 0xFFFFFFFF, wo := 0xFFFF, aliased := false },
  { off := Reg.SP_SNAP, ro := 0xFFFFFFFF, wo := 0xFFFF, aliased := false },
  { off := Reg.PL_SNAP, ro := 0xFFFFFFFF, wo := 0xFFFF, aliased := false },
  { off := Reg.CB_SNAP, ro := 0xFFFFFFFF, wo := 0xFFFF, aliased := false } ]

/-- Device-level registers, by absolute address (the 0x00 to 0x07 blocks of R35). -/
def deviceRows : List RegRow := deviceRows0 ++ deviceRows1 ++ deviceRows2 ++ deviceRows3 ++ deviceRows4

/-- Registers of a cove block. -/
def coveRows : List RegRow := [
  { off := Reg.LB_POS, count := 12, stride := 4, reset := 0xFF000000, inc := 1, ro := 0xFFFFFFFF, aliased := false },
  { off := Reg.LB_MATCH, count := 12, stride := 4, ro := 0xFFFFFFFF, aliased := false },
  { off := Reg.LB_STAT, rc := 0x7, ro := 0xFFFFFFF8, aliased := false },
  { off := Reg.CV_CMD, wo := 0xFFFFFFFF, aliased := false },
  { off := Reg.CV_STATE, ro := 0xFFFFFFFF, aliased := false },
  { off := Reg.CV_STAT, rc := 0x3, ro := 0xFFFFFFFC, aliased := false },
  { off := Reg.CV_SNAP, ro := 0xFFFFFFFF, wo := 0xFFFF, aliased := false } ]

/-- Registers of a strand block below its pin slices. Part 0. -/
def strandRows0 : List RegRow := [
  { off := Reg.WV_CTRL, w := 0x1, group := some 5 },
  { off := Reg.WV_STAT, rc := 0x7F, ro := 0xFFFFFF80, aliased := false },
  { off := Reg.WV_LOSS, rc := 0xFFFFFFFF, aliased := false },
  { off := Reg.WV_ACC, ro := 0xFFFFFFFF, aliased := false },
  { off := Reg.WV_ADDR, w := 0x80007FFF },
  { off := Reg.WV_DATA, w := 0xFFFFFFFF },
  { off := Reg.ED_CTRL, w := 0x1, group := some 6 },
  { off := Reg.ED_ADDR, w := 0x800701FF },
  { off := Reg.ED_E0, w := 0xFFFFF },
  { off := Reg.ED_E1, w := 0xFFFFF },
  { off := Reg.ED_E2, w := 0xFFFFF },
  { off := Reg.ED_E3, w := 0xFFFFF },
  { off := Reg.ED_E4, w := 0xFFFFF },
  { off := Reg.ED_E5, w := 0xFFFFF },
  { off := Reg.WV_PER, count := 64, stride := 4, reset := 0x200, w := 0xFFFFFFFF, group := some 5 },
  { off := Reg.SQ_STATE, ro := 0xFFFFFFFF, aliased := false },
  { off := Reg.SQ_STAT, rc := 0x1FF, ro := 0xFFFFFE00, aliased := false },
  { off := Reg.SQ_SEG, ro := 0xFFFFFFFF, aliased := false },
  { off := Reg.SQ_OFFS, ro := 0xFFFFFFFF, aliased := false },
  { off := Reg.SQ_CMD, wo := 0xFFFFFFFF, aliased := false },
  { off := Reg.SQ_FLAGS, w := 0x1F },
  { off := Reg.SQ_MATCH, ro := 0xFFFFFFFF, aliased := false },
  { off := Reg.SQ_ANCH, ro := 0xFFFFFFFF, aliased := false },
  { off := Reg.SQ_SLIPS, ro := 0xFFFFFFFF, aliased := false },
  { off := Reg.SQ_BT_ADDR, w := 0x800003FF },
  { off := Reg.SQ_BT_DATA, w := 0xFFFF },
  { off := Reg.SQ_CTRL, reset := 0x64, w := 0xFFF, group := some 3 },
  { off := Reg.SQ_TRIG_CFG, w := 0xF3FF, group := some 3 },
  { off := Reg.SQ_TRIG_SEG, w := 0xFFFF, group := some 3 },
  { off := Reg.SQ_SLACK_AT_LO, w := 0xFFFFFFFF, group := some 3 },
  { off := Reg.SQ_SLACK_AT_HI, w := 0xFFFFFFFF, group := some 3 },
  { off := Reg.SQ_ISSUED_LO, ro := 0xFFFFFFFF, aliased := false },
  { off := Reg.SQ_ISSUED_HI, ro := 0xFFFFFFFF, aliased := false },
  { off := Reg.SQ_EXEC_LO, ro := 0xFFFFFFFF, aliased := false },
  { off := Reg.SQ_EXEC_HI, ro := 0xFFFFFFFF, aliased := false },
  { off := Reg.SQ_HELD_LO, ro := 0xFFFFFFFF, aliased := false },
  { off := Reg.SQ_HELD_HI, ro := 0xFFFFFFFF, aliased := false },
  { off := Reg.SQ_HOLD_TIME_LO, ro := 0xFFFFFFFF, aliased := false },
  { off := Reg.SQ_HOLD_TIME_HI, ro := 0xFFFFFFFF, aliased := false },
  { off := Reg.SQ_PARK_TIME_LO, ro := 0xFFFFFFFF, aliased := false } ]

/-- Registers of a strand block below its pin slices. Part 1. -/
def strandRows1 : List RegRow := [
  { off := Reg.SQ_PARK_TIME_HI, ro := 0xFFFFFFFF, aliased := false },
  { off := Reg.AG_CTRL, w := 0x1F3F03, group := some 4 },
  { off := Reg.AG_STAT, rc := 0xF, ro := 0xFFFFFFF0, aliased := false },
  { off := Reg.AG_X_INIT, w := 0x3FFFF, group := some 4 },
  { off := Reg.AG_YZ_INIT, w := 0x3F3FFF, group := some 4 },
  { off := Reg.AG_X_VAL, ro := 0xFFFFFFFF, aliased := false },
  { off := Reg.AG_YZ_VAL, ro := 0xFFFFFFFF, aliased := false },
  { off := Reg.AG_BUS_LO, ro := 0xFFFFFFFF, aliased := false },
  { off := Reg.AG_BUS_HI, ro := 0xFFFFFFFF, aliased := false },
  { off := Reg.AG_X_MIN, w := 0x3FFFF, group := some 4 },
  { off := Reg.AG_X_MAX, reset := 0x3FFFF, w := 0x3FFFF, group := some 4 },
  { off := Reg.AG_Y_RANGE, reset := 0x3FFF0000, w := 0x3FFF3FFF, group := some 4 },
  { off := Reg.AG_Z_RANGE, reset := 0x3F00, w := 0x3F3F, group := some 4 },
  { off := Reg.AG_XA, count := 4, stride := 4, w := 0x3FFFF, group := some 4 },
  { off := Reg.AG_YA, count := 4, stride := 4, w := 0x3FFF, group := some 4 },
  { off := Reg.AG_ZA, count := 4, stride := 4, w := 0x3F, group := some 4 },
  { off := Reg.AG_BG, count := 4, stride := 4, w := 0x3FFFF, group := some 4 },
  { off := Reg.AG_CHK_XM, reset := 0x1, w := 0x3FFFF, group := some 4 },
  { off := Reg.AG_CHK_YM, reset := 0x1, w := 0x3FFF, group := some 4 },
  { off := Reg.AG_CHK_WORD, reset := 0x3FFFF, w := 0x3FFFF, group := some 4 },
  { off := Reg.AG_AXM, count := 4, stride := 4, w := 0x3FFFF, group := some 4 },
  { off := Reg.AG_AYZM, count := 4, stride := 4, w := 0x3F3FFF, group := some 4 },
  { off := Reg.AG_TAB_ADDR, w := 0x800703FF },
  { off := Reg.AG_TAB_DATA, w := 0xFFFFFFFF },
  { off := Reg.FL_DIE, w := 0x8000FFFF },
  { off := Reg.FL_STAT, rc := 0xF, ro := 0xFFFFFFF0, aliased := false },
  { off := Reg.FL_OVF0, ro := 0xFFFFFFFF, aliased := false },
  { off := Reg.FL_OVF1, ro := 0xFFFFFFFF, aliased := false },
  { off := Reg.FL_INFLIGHT, ro := 0xFFFFFFFF, aliased := false },
  { off := Reg.FL_MASKED, ro := 0xFFFFFFFF, aliased := false },
  { off := Reg.FL_CMD, wo := 0xFFFFFFFF, aliased := false },
  { off := Reg.FL_SEEN_LO, ro := 0xFFFFFFFF, aliased := false },
  { off := Reg.FL_SEEN_HI, ro := 0xFFFFFFFF, aliased := false },
  { off := Reg.FL_FOLDED_LO, ro := 0xFFFFFFFF, aliased := false },
  { off := Reg.FL_FOLDED_HI, ro := 0xFFFFFFFF, aliased := false },
  { off := Reg.FL_SPILLED_LO, ro := 0xFFFFFFFF, aliased := false },
  { off := Reg.FL_SPILLED_HI, ro := 0xFFFFFFFF, aliased := false },
  { off := Reg.FL_COUNTED_ONLY_LO, ro := 0xFFFFFFFF, aliased := false },
  { off := Reg.FL_COUNTED_ONLY_HI, ro := 0xFFFFFFFF, aliased := false },
  { off := Reg.FL_JRN_EV_LO, ro := 0xFFFFFFFF, aliased := false } ]

/-- Registers of a strand block below its pin slices. Part 2. -/
def strandRows2 : List RegRow := [
  { off := Reg.FL_JRN_EV_HI, ro := 0xFFFFFFFF, aliased := false },
  { off := Reg.FL_PIN_FAIL, count := 8, stride := 4, ro := 0xFFFFFFFF, aliased := false },
  { off := Reg.SG_CTRL, w := 0x800000FF, group := some 8 },
  { off := Reg.SG_STAT, rc := 0x7, ro := 0xFFFFFFF8, aliased := false },
  { off := Reg.SG_FTW_LO, w := 0xFFFFFFFF, group := some 8 },
  { off := Reg.SG_FTW_HI, w := 0xFFFF, group := some 8 },
  { off := Reg.SG_PHASE0, w := 0xFFFF, group := some 8 },
  { off := Reg.SG_AMPL, w := 0xFFFF, group := some 8 },
  { off := Reg.SG_OFFSET, reset := 0x4000, w := 0xFFFF, group := some 8 },
  { off := Reg.SG_TAB_ADDR, w := 0x80000FFF },
  { off := Reg.SG_TAB_DATA, w := 0x3FFFF },
  { off := Reg.SG_TDAC, w := 0x800003FF },
  { off := Reg.AQ_CFG, reset := 0x20000001, w := 0xFFFF1FFF, group := some 7 },
  { off := Reg.AQ_LEN, reset := 0x400, w := 0xFFFFFF, group := some 7 },
  { off := Reg.AQ_PRE, w := 0xFFFFFF, group := some 7 },
  { off := Reg.AQ_NREC, reset := 0x1, w := 0xFFFF, group := some 7 },
  { off := Reg.AQ_DIV, w := 0xFFFF, group := some 7 },
  { off := Reg.AQ_PT_SEL0, reset := 0xFFFFFFFF, w := 0xFFFFFFFF, group := some 7 },
  { off := Reg.AQ_PT_SEL1, reset := 0xFFFFFFFF, w := 0xFFFFFFFF, group := some 7 },
  { off := Reg.AQ_PT_VAL_LO, w := 0xFFFFFFFF, group := some 7 },
  { off := Reg.AQ_PT_VAL_HI, w := 0xFFFFFFFF, group := some 7 },
  { off := Reg.AQ_PT_DC_LO, reset := 0xFFFFFFFF, w := 0xFFFFFFFF, group := some 7 },
  { off := Reg.AQ_PT_DC_HI, reset := 0xFFFFFFFF, w := 0xFFFFFFFF, group := some 7 },
  { off := Reg.AQ_CTRL, wo := 0xFFFFFFFF, aliased := false },
  { off := Reg.AQ_STAT, rc := 0x1F, ro := 0xFFFFFFE0, aliased := false },
  { off := Reg.AQ_REC, ro := 0xFFFFFFFF, aliased := false },
  { off := Reg.AQ_RECNUM, ro := 0xFFFFFFFF, aliased := false },
  { off := Reg.AQ_MISSED, ro := 0xFFFFFFFF, aliased := false },
  { off := Reg.AQ_MISS_T_LO, ro := 0xFFFFFFFF, aliased := false },
  { off := Reg.AQ_MISS_T_HI, ro := 0xFFFFFFFF, aliased := false },
  { off := Reg.AQ_DEAD, ro := 0xFFFFFFFF, aliased := false },
  { off := Reg.AQ_FILL, ro := 0xFFFFFFFF, aliased := false },
  { off := Reg.AQ_OVF, ro := 0xFFFFFFFF, aliased := false },
  { off := Reg.SQ_SNAP, ro := 0xFFFFFFFF, wo := 0xFFFF, aliased := false } ]

/-- Registers of a strand block below its pin slices. -/
def strandRows : List RegRow := strandRows0 ++ strandRows1 ++ strandRows2

/-- Registers of a pin slice. Part 0. -/
def pinRows0 : List RegRow := [
  { off := Reg.PS_VIH, reset := 0x4000, w := 0xFFFF, group := some 9 },
  { off := Reg.PS_VIL, reset := 0x4000, w := 0xFFFF, group := some 9 },
  { off := Reg.PS_VTT, reset := 0x4000, w := 0xFFFF, group := some 9 },
  { off := Reg.PS_VOH, reset := 0x4000, w := 0xFFFF, group := some 10 },
  { off := Reg.PS_VOL, reset := 0x4000, w := 0xFFFF, group := some 10 },
  { off := Reg.PS_DRV_CTRL, w := 0x17, group := some 9 },
  { off := Reg.PS_CMP_CFG, reset := 0x23, w := 0x133, group := some 10 },
  { off := Reg.PS_LOAD, w := 0x8FFF0FFF, group := some 11 },
  { off := Reg.PS_LIM, reset := 0xBD0020C0, w := 0xFFFFFFFF, lock := some 0 },
  { off := Reg.PS_BW_VTHR, reset := 0xFB801120, w := 0xFFFFFFFF, lock := some 1 },
  { off := Reg.PS_BW_ITHR, reset := 0x14B0, w := 0x3FFF, lock := some 1 },
  { off := Reg.PS_BW_CTRL, reset := 0x1, w := 0x3, wo := 0x10, aliased := false },
  { off := Reg.PS_BW_STAT, ro := 0xFFFFFFFF, aliased := false },
  { off := Reg.PS_STAT, rc := 0xF, ro := 0xFFFFFFF0, aliased := false },
  { off := Reg.PS_CMP_STATE, reset := 0x52A, ro := 0xFFFFFFFF, aliased := false },
  { off := Reg.PS_EVT, w := 0x80000307, ro := 0x7C000000, aliased := false },
  { off := Reg.PM_CTRL, w := 0x371, group := some 12 },
  { off := Reg.PM_FORCE, reset := 0x4000, w := 0xFFFF, group := some 12 },
  { off := Reg.PM_FORCE_DIRECT, reset := 0x4000, w := 0xFFFF },
  { off := Reg.PM_CLAMP_HI, reset := 0xFB80, w := 0xFFFF, group := some 13 },
  { off := Reg.PM_CLAMP_LO, reset := 0x1120, w := 0xFFFF, group := some 13 },
  { off := Reg.PM_LIM_V, reset := 0xFB801120, w := 0xFFFFFFFF, lock := some 2 },
  { off := Reg.PM_LIM_I, reset := 0x44000, w := 0x77FFF, lock := some 2 },
  { off := Reg.PM_STAT, rc := 0x7F, ro := 0xFFFFFF80, aliased := false },
  { off := Reg.PM_STATE, ro := 0xFFFFFFFF, aliased := false },
  { off := Reg.AD_CFG, reset := 0x2000400, w := 0xFF01FFFF, group := some 14 },
  { off := Reg.AD_NOTCH, reset := 0x32000, w := 0xFFFFFF, group := some 14 },
  { off := Reg.AD_DATA, ro := 0xFFFFFFFF, aliased := false },
  { off := Reg.AD_STAT, rc := 0xF, ro := 0xFFFFFFF0, aliased := false },
  { off := Reg.AD_OFS_V, w := 0xFFFFFF, group := some 23 },
  { off := Reg.AD_OFS_I, count := 5, stride := 8, w := 0xFFFFFF, group := some 23 },
  { off := Reg.AD_GAIN_V, reset := 0x400000, w := 0xFFFFFF, group := some 23 },
  { off := Reg.AD_GAIN_I, count := 5, stride := 8, reset := 0x400000, w := 0xFFFFFF, group := some 23 },
  { off := Reg.TD_CFG, reset := 0x8000000, w := 0xFF80FFFF, group := some 15 },
  { off := Reg.TD_N, reset := 0x1, w := 0x1FFFFFF, group := some 15 },
  { off := Reg.TD_CTRL, wo := 0xFFFFFFFF, aliased := false },
  { off := Reg.TD_STAT, rc := 0xF, ro := 0xFFFFFFF0, aliased := false },
  { off := Reg.TD_COUNT, ro := 0xFFFFFFFF, aliased := false },
  { off := Reg.TD_MISS, ro := 0xFFFFFFFF, aliased := false },
  { off := Reg.TD_MEAN_LO, ro := 0xFFFFFFFF, aliased := false } ]

/-- Registers of a pin slice. Part 1. -/
def pinRows1 : List RegRow := [
  { off := Reg.TD_MEAN_HI, ro := 0xFFFFFFFF, aliased := false },
  { off := Reg.TD_STD, ro := 0xFFFFFFFF, aliased := false },
  { off := Reg.TD_MIN, ro := 0xFFFFFFFF, aliased := false },
  { off := Reg.TD_MAX, ro := 0xFFFFFFFF, aliased := false },
  { off := Reg.TD_LAST, ro := 0xFFFFFFFF, aliased := false },
  { off := Reg.TD_SCALE, reset := 0x4000, ro := 0xFFFFFFFF, aliased := false } ]

/-- Registers of a pin slice. -/
def pinRows : List RegRow := pinRows0 ++ pinRows1

/-- Registers of a queue pair. -/
def qpRows : List RegRow := [
  { off := Reg.HT_QP_CTRL, reset := 0x750, w := 0xB7F9, ro := 0xC0000000, aliased := false },
  { off := Reg.HT_QP_STAT, rc := 0xFF, ro := 0xFFFFFF00, aliased := false },
  { off := Reg.HT_QP_PEER, w := 0xFFFFFF },
  { off := Reg.HT_QP_SPSN, w := 0xFFFFFF },
  { off := Reg.HT_QP_EPSN, w := 0xFFFFFF },
  { off := Reg.HT_QP_IP, w := 0xFFFFFFFF },
  { off := Reg.HT_QP_MAC_LO, w := 0xFFFFFFFF },
  { off := Reg.HT_QP_MAC_HI, w := 0xFFFFFFFF },
  { off := Reg.HT_QP_VLAN, w := 0xBF00EFFF },
  { off := Reg.HT_QP_SPORT, reset := 0xC000, w := 0xFFFF },
  { off := Reg.HT_QP_WKEY, w := 0xFFFFFFFF },
  { off := Reg.HT_QP_CMD_RKEY, w := 0xFFFFFFFF },
  { off := Reg.HT_QP_CPL_RKEY, w := 0xFFFFFFFF },
  { off := Reg.HT_QP_DB_RKEY, w := 0xFFFFFFFF },
  { off := Reg.HT_QP_RING, reset := 0x404, w := 0x1F1F },
  { off := Reg.HT_QP_CMD_BASE_LO, w := 0xFFFFFFFF },
  { off := Reg.HT_QP_CMD_BASE_HI, w := 0xFFFFFFFF },
  { off := Reg.HT_QP_CPL_BASE_LO, w := 0xFFFFFFFF },
  { off := Reg.HT_QP_CPL_BASE_HI, w := 0xFFFFFFFF },
  { off := Reg.HT_QP_DB_BASE_LO, w := 0xFFFFFFFF },
  { off := Reg.HT_QP_DB_BASE_HI, w := 0xFFFFFFFF },
  { off := Reg.HT_QP_CMD_PI, ro := 0xFFFFFFFF, aliased := false },
  { off := Reg.HT_QP_CMD_CI, ro := 0xFFFFFFFF, aliased := false },
  { off := Reg.HT_QP_CPL_PI, ro := 0xFFFFFFFF, aliased := false },
  { off := Reg.HT_QP_CPL_CI, ro := 0xFFFFFFFF, aliased := false },
  { off := Reg.HT_QP_PRIV, w := 0x1, priv := true } ]

/-- Registers of a reserve-engine window. -/
def reserveRows : List RegRow := [
  { off := Reg.RE_STATE, reset := 0xFF, ro := 0xFFFFFFFF, aliased := false },
  { off := Reg.RE_UCODE_VER, ro := 0xFFFFFFFF, aliased := false },
  { off := Reg.RE_SNAP, ro := 0xFFFFFFFF, wo := 0xFFFF, aliased := false } ]
/-- The blocks of the address map of R35. -/
inductive Block where
  | dev
  | qp (n : Nat)
  | cove (c : Nat)
  | strand (s : Nat)
  | pin (n : Nat)
  | reserve (c : Nat)
  deriving DecidableEq, Repr

/-- The base address of a block. -/
def Block.base : Block → Nat
  | .dev => 0
  | .qp n => 0x10400 + n * 0x200
  | .cove c => 0x80000 + c * 0x8000
  | .strand s => 0x100000 + s * 0x2000
  | .pin n => 0x100000 + (n / 8) * 0x2000 + 0x1000 + (n % 8) * 0x100
  | .reserve c => 0x2E0000 + c * 0x400

/-- The rows of a block. -/
def Block.rows : Block → List RegRow
  | .dev => deviceRows
  | .qp _ => qpRows
  | .cove _ => coveRows
  | .strand _ => strandRows
  | .pin _ => pinRows
  | .reserve _ => reserveRows

/-- The block that a normal-space byte address lies in (R35); addresses between blocks fall to the device block,
whose rows do not list them. -/
def blockOf (a : Nat) : Block :=
  if 0x10400 ≤ a ∧ a < 0x18400 then .qp ((a - 0x10400) / 0x200)
  else if 0x80000 ≤ a ∧ a < 0x100000 then .cove ((a - 0x80000) / 0x8000)
  else if 0x100000 ≤ a ∧ a < 0x280000 then
    let s := (a - 0x100000) / 0x2000
    let o := (a - 0x100000) % 0x2000
    if o < 0x1000 then .strand s
    else if o < 0x1800 then .pin (8 * s + (o - 0x1000) / 0x100)
    else .dev
  else if 0x2E0000 ≤ a ∧ a < 0x2E4000 then .reserve ((a - 0x2E0000) / 0x400)
  else .dev

/-- A register found in the map: its row and its number within the row. -/
structure RegHit where
  row : RegRow
  index : Nat
  deriving DecidableEq, Repr

/-- The register of a row at offset `o`, if the row has one there. -/
def RegRow.hit? (r : RegRow) (o : Nat) : Option RegHit :=
  if o < r.off then none
  else if o = r.off then some ⟨r, 0⟩
  else if r.stride = 0 then none
  else if (o - r.off) % r.stride = 0 ∧ (o - r.off) / r.stride < r.count then some ⟨r, (o - r.off) / r.stride⟩
  else none

/-- The first register of `rows` at offset `o`. -/
def findReg : List RegRow → Nat → Option RegHit
  | [], _ => none
  | r :: t, o =>
    match r.hit? o with
    | some h => some h
    | none => findReg t o

/-- The register at normal-space byte address `a`, if the map defines one (R35). -/
def regAt (a : Nat) : Option RegHit := findReg (blockOf a).rows (a - (blockOf a).base)

/-- The reset value of a register found in the map. -/
def RegHit.resetValue (h : RegHit) : Word := BitVec.ofNat 32 (h.row.reset + h.index * h.row.inc)

/-- What a register whose address is not listed in the store reads as: its reset value, zero where the map has none. (DESIGN CHOICE, log 7) -/
def resetOf (a : Nat) : Word :=
  match regAt a with
  | some h => h.resetValue
  | none => 0

/-- The addresses of a block's registers. -/
abbrev devA (off : Nat) : Nat := off
def qpA (n off : Nat) : Nat := 0x10400 + n * 0x200 + off
def coveA (c off : Nat) : Nat := 0x80000 + c * 0x8000 + off
def strandA (s off : Nat) : Nat := 0x100000 + s * 0x2000 + off
def pinA (n off : Nat) : Nat := 0x100000 + (n / 8) * 0x2000 + 0x1000 + (n % 8) * 0x100 + off
def reserveA (c off : Nat) : Nat := 0x2E0000 + c * 0x400 + off

end Sys2Proof.Machine
end

