-- ==== Sys2Proof/Machine/AcqTypes.lean ====
section
/-! DEFINITION. What a capture TDC and an acquisition engine hold beside their registers
(spec/12_time_and_acquisition.md R313 to R332). Stamps are in stamp units, 1/1024 engine period. -/

namespace Sys2Proof.Machine

/-- A capture TDC: the configuration taken at START, the instant of START in units, the scale, the instant of the last
stamp, whether a shot is in progress with its arm instant, the start transition it has taken, and the running sums. -/
structure Tdc where
  cfg : Word := 0
  n : Nat := 0
  startAt : Nat := 0
  scale : Nat := 0x4000
  lastStamp : Option Int := none
  armed : Bool := false
  arm : Int := 0
  first : Option Int := none
  sum : Int := 0
  sumSq : Nat := 0
  mn : Int := 0
  mx : Int := 0
  deriving DecidableEq, Repr

/-- A row of an acquisition record: its row time in stamp units, the flag word and values of an ADC row, or the code of a
TDC row (edge * 8 + pin) or of a CMP row. -/
structure AqRow where
  t : Int
  flags : Nat
  vals : List Int
  code : Nat
  deriving DecidableEq, Repr

/-- A record started: its trigger instant in stamp units and in tideline time, its pretrigger rows, and the triggers
missed before it with the first of them. -/
structure AqRecord where
  trig : Int
  tide : Nat
  pre : List AqRow
  post : List AqRow
  deriving DecidableEq, Repr

/-- An acquisition engine: the AQ_ values in force at START as applied, the conversion results not yet averaged by pin, the
pretrigger rows, the record in progress, the missed triggers that the next record reports, the dead time before it, when
REARM began and how many rows it closes, the next CMP sample, the records in the store as bytes, and the bytes of the store
that lie in the spill area. -/
structure Acq where
  cfg : Word := 0
  avg : Nat := 1
  len : Nat := 1024
  pre : Nat := 0
  nrec : Nat := 1
  div : Nat := 0
  sel : List (Option Nat) := []
  value : Nat := 0
  care : Nat := 0
  results : Store (List (Int × Bool)) := []
  rows : List AqRow := []
  record : Option AqRecord := none
  missed : Nat := 0
  missT : Nat := 0
  dead : Nat := 0
  rearmAt : Nat := 0
  nextSample : Nat := 0
  store : List (List Byte) := []
  spilled : Nat := 0
  deriving DecidableEq, Repr

end Sys2Proof.Machine
end

