-- ==== Sys2Proof/Machine/MemTypes.lean ====
section
/-! DEFINITION. What the memory controller holds: segments, streams, requests, channels (spec/07_pattern_memory.md), and
what the fail path holds: switch, journal writer and journal (spec/08_fail_capture.md). -/

namespace Sys2Proof.Machine

/-- A pair record of a segment image (R191): a LOOP_BEGIN word, its closing word, and whether it is a MATCH block. -/
structure LoopPair where
  first : Nat
  close : Nat
  isMatch : Bool
  deriving DecidableEq, Repr

/-- A loaded segment (R137, R181, R191): its length in granules, successor, fetch density, pairs, granule CRCs, granules
held in DRAM as 64 step words each, the start channel C0, the numbers of its groups, and its stream. -/
structure Segment where
  len : Nat
  succ : Option Nat
  fd : Nat
  pairs : List LoopPair
  crcs : List Nat
  grans : Store (List Word64)
  chan0 : Nat
  groups : List Nat
  stream : Option Nat
  deriving DecidableEq, Repr

/-- A host stream that is not closed (R200 to R202): its segment, the granule slots of the host buffer with their address,
key and QP, the doorbell record's address and key, the granules read from the host and not yet arrived, what it adds to
MC_BUDGET_USED (nothing when its charge is a placed group's), and its charge without doubling. The indices P, pull and Q, the
bound strand and the state stand in the MC_STRMn registers. -/
structure Stream where
  seg : Nat
  slots : Nat
  hostVa : Nat
  rkey : Nat
  qp : Nat
  bellVa : Nat
  bellKey : Nat
  pulling : List Nat
  charge : Nat
  rate : Nat
  deriving DecidableEq, Repr

/-- What a memory request is for. -/
inductive MemUse where
  | refill (strand seg gran : Nat)
  | context (id : Nat)
  | acq (strand : Nat)
  | host (tag : Nat)
  deriving DecidableEq, Repr

/-- A request to the memory controller (spec/01_architecture.md R19, R20): its use, class, channel, when it was made in that
class, whether it has been promoted or is for a target the lookahead did not determine (R184), and how many older class 1
requests to its channel were outstanding then (R185). -/
structure MemReq where
  use : MemUse
  cls : Nat
  chan : Nat
  at_ : Nat
  promoted : Bool
  older : Nat
  deriving DecidableEq, Repr

/-- A DRAM channel (R186, R187, R189): in a pause, when its last pause began and ended, when its prefetch window opened,
and whether it still has to retrain after self-refresh. -/
structure Channel where
  paused : Bool := false
  lastPause : Nat := 0
  lastEnd : Nat := 0
  window : Option Nat := none
  training : Bool := false
  deriving DecidableEq, Repr

/-- What the memory controller holds beside its registers: segments and streams by number, requests in order of making,
channels, self-refresh, the traffic of the last 100 microseconds as instants and bytes (R199), the instant the next stream pull
may start (R200), and refills that wait for a host copy (R197) as strand, segment and granule. (DESIGN CHOICE, log 18) -/
structure Mem where
  segs : Store Segment := []
  streams : Store Stream := []
  reqs : List MemReq := []
  chans : Store Channel := []
  selfRefresh : Bool := false
  traffic : List (Nat × Nat) := []
  nextPull : Nat := 0
  repairs : List (Nat × Nat × Nat) := []
  deriving DecidableEq, Repr

/-- A journal record as the fields of R214, before the group CRC is known. -/
structure JrnRec where
  strand : Nat        -- 255 for time base and pad records
  type : Nat
  time : Int          -- engine cycles from the preceding base; the base instant itself for a time base
  x : Nat
  y : Nat
  z : Nat
  die : Nat
  pins : Nat
  seq : Nat
  flags : Nat
  ev32 : Nat
  deriving DecidableEq, Repr

/-- What the fail switch and the journal writer hold: whose turn it is (R16), the group being filled and when its first
record entered (R212), groups on their way to DRAM, the journal in DRAM, the last time base (R216), and an audit under way. (DESIGN CHOICE, log 50) -/
structure FailPath where
  turn : Nat := 0
  buffer : List JrnRec := []
  since : Nat := 0
  writing : List (Nat × List JrnRec) := []
  nextGroup : Nat := 0
  journal : Store (List JrnRec) := []
  base : Option Nat := none
  audit : Option Nat := none
  deriving DecidableEq, Repr

end Sys2Proof.Machine
end

