-- ==== Sys2Proof/Machine/SpliceTypes.lean ====
section
/-! DEFINITION. What the splice engine and the placement engine hold (spec/09_splice_engine.md, spec/10_placement_and_lashing.md):
contexts, lanes, the analysis of a die, final splices; geometry, the placement table and a placement being made. -/

namespace Sys2Proof.Machine

/-- The kinds of context (R234). -/
inductive CtxKind where
  | die
  | seg
  | row
  | col
  deriving DecidableEq, Repr

/-- A context (R234, R235). It is found by its kind, lane, die, segment and line; the chains of NEXT and HEAD are not kept, since
no result depends on them (R237). Of the fields, a kind uses those of its table: `list` is LIST, `flag` MUST, EARLY or
CTX_LOST, `recomp` RECOMP, `a` NROWS, NSEGS; `b` NCOLS, CELLS; `mrRows`, `mrCols`; `events`, `nonData`, `outside`, `early`.
`pooled` says that it is in the pool, and `used` orders the last uses. (DEDUCED, log 21) -/
structure Ctx where
  kind : CtxKind
  lane : Nat
  die : Nat
  seg : Nat
  line : Nat
  flag : Bool := false
  recomp : Bool := false
  list : List Nat := []
  hits : Nat := 0
  a : Nat := 0
  b : Nat := 0
  mrRows : Nat := 0
  mrCols : Nat := 0
  events : Nat := 0
  nonData : Nat := 0
  outside : Nat := 0
  early : Nat := 0
  pooled : Bool := true
  used : Nat := 0
  deriving DecidableEq, Repr

/-- An event at a lane: its strand, its journal fields. -/
structure LaneEv where
  strand : Nat
  die : Nat
  x : Nat
  y : Nat
  z : Nat
  pins : Nat
  deriving DecidableEq, Repr

/-- A lane: its input queue (R241), events taken that wait for a context (R242), dies with CTX_LOST that have no die context
(R239). -/
structure Lane where
  input : List LaneEv := []
  waiting : List LaneEv := []
  lost : List Nat := []
  deriving DecidableEq, Repr

/-- The analysis of a die (R245): the window's start and the latest end-of-test mark, as record positions of the journal,
FL_COUNTED_ONLY of its strands at that mark, overflow marks by position, and imbalances by the position at their report. -/
structure DieRec where
  start : Nat := 0
  mark : Option Nat := none
  counted : Nat := 0
  overflows : List Nat := []
  imbalances : List Nat := []
  again : Bool := false
  deriving DecidableEq, Repr

/-- What a lane of a final splice found for its die. -/
structure LaneSum where
  records : List (Nat × Nat × Nat × Nat) := []   -- segment, kind, spare, line (R252)
  events : Nat := 0
  cells : Nat := 0
  nonData : Nat := 0
  outside : Nat := 0
  unrepairable : Bool := false
  undetermined : Bool := false
  lost : Bool := false
  recomputed : Bool := false
  early : Bool := false
  bad : Bool := false
  deriving DecidableEq, Repr

/-- A final splice running (R244 to R246): its die, window, BOUND and the lanes still at work, what the finished lanes found,
the ledger imbalance and overflow flags as they stood at its start, whether its result has been formed, and whether a journal
reset has made records of the window unreadable since (R251). -/
structure Final where
  die : Nat
  start : Nat
  stop : Nat
  bound : Nat
  left : List Nat
  sums : List LaneSum
  counted : Nat
  imbalance : Bool
  overflow : Bool
  formed : Bool
  cut : Bool
  deriving DecidableEq, Repr

/-- The splice engine beside its registers: contexts by slot, lanes, dies analysed, final splices in order of starting, a count
of uses, and the physical lane of each logical lane where it is not the one of its own number (spec/17_clocks_power_startup.md
R434, R440). -/
structure Splice where
  ctxs : Store Ctx := []
  lanes : Store Lane := []
  dies : Store DieRec := []
  finals : List Final := []
  uses : Nat := 0
  phys : Store Nat := []
  deriving DecidableEq, Repr

/-! ### Placement -/

/-- A repair geometry descriptor (R231). -/
structure Geometry where
  banks : Nat
  subs : Nat
  rows : Nat
  cols : Nat
  spareRows : Nat
  spareCols : Nat
  iow : Nat
  slots : Nat
  rowShift : Nat
  rowBits : Nat
  colShift : Nat
  colBits : Nat
  bankShift : Nat
  bankBits : Nat
  nonAct : Nat
  bins : List Nat
  iomap : List Nat
  deriving DecidableEq, Repr

/-- A strand entry of the placement table (R274). -/
structure StrandEntry where
  engine : Nat := 0xFF
  role : Nat := 0
  placed : Bool := false
  subst : Bool := false
  slot : Nat := 0
  die : Option Nat := none
  group : Option Nat := none
  deriving DecidableEq, Repr

/-- A group entry of the placement table (R274), with its strands and its anchored segments. -/
structure GroupEntry where
  leader : Nat
  strands : List Nat
  firstCove : Nat
  coves : Nat
  type : Nat
  stream : Bool
  dies : Nat
  charge : Nat
  anchors : List Nat
  anchSteps : Nat
  program : List Nat
  deriving DecidableEq, Repr

/-- A placement: the table of R274, the die type of each die and the geometry of each die type. -/
structure Placement where
  orderId : Nat
  id : Nat
  dropped : List (Nat × Nat)
  wake : Nat
  ndies : Nat
  charge : Nat
  streams : Nat
  acq : Nat
  strands : Store StrandEntry
  groups : List GroupEntry
  refDrop : Bool          -- a strand with only reference contacts was left unplaced (R273)
  types : Store Nat
  geoms : Store Geometry
  deriving DecidableEq, Repr

/-- A work order being decided or applied: the command, when its decision started, the restarts made (R270), the refusal or the
placement decided, and, once the apply has begun, when it began and when its waking coves were asked for. -/
structure Placing where
  qp : Nat
  idx : Nat
  since : Nat
  restarts : Nat
  refusal : Option (Nat × Nat)
  table : Option Placement
  applying : Option Nat
  deriving DecidableEq, Repr

/-- The placement engine: the placement in force, the one being made, and the coves woken by a contact event or by CV_CMD since
the last apply or RELEASE (R276), and the coves none of whose strands has started a run since the last apply
(spec/21_life_store.md R495). -/
structure Place where
  table : Option Placement := none
  making : Option Placing := none
  stay : List Nat := []
  toTouch : List Nat := []
  deriving DecidableEq, Repr

end Sys2Proof.Machine
end

