-- ==== Sys2Proof/Machine/SysTypes.lean ====
section
/-! DEFINITION. What power and start-up, the fault collector, Beacon and helm, the thermal monitor, the engine control stores and
the life store hold beside their registers (spec/17 to spec/21). -/

namespace Sys2Proof.Machine

/-- A runtime self-test under way (spec/17_clocks_power_startup.md R439): KIND, target, SUBST, when it was accepted, the strand in
SELFTEST with the state it was in before, and the stop causes it met. -/
structure RtTest where
  kind : Nat
  num : Nat
  subst : Bool
  at_ : Nat
  strand : Option Nat
  was : Nat
  deriving DecidableEq, Repr

/-- Power, clocks and start-up: the instant of the last PLL start (R24), the PLL start of each cove that wakes, the last trim of the
ebb clock, the last refresh of the hold stages, what the next start-up is counted as (DEV_PWR_STAT.LAST_START), the self-test under way, the BI_RT_CMD writes that wait for a microcode command (R476), the SPI straps sampled, and the rails
out of limits with the instant they left; whether the start-up sequence has run since the last reset or wake, and whether VDD_AON
has been lost since it last ran. -/
structure Power where
  lastPll : Option Nat := none
  plls : Store Nat := []
  trimAt : Nat := 0
  holdAt : Nat := 0
  cause : Nat := 1
  test : Option RtTest := none
  testWaits : List Word := []
  rails : Store Nat := []
  begun : Bool := false
  aonLost : Bool := false
  deriving DecidableEq, Repr

/-- The fault collector (spec/18_faults_and_thermal.md): open records by source, openings so far, the history, newest first, when
the last self-check began and the one under way; Beacon and helm: the last kick, the acknowledgement deadline, the boot under way; and ALERT_N low. -/
structure Faults where
  recs : Store FaultRec := []
  opened : Nat := 0
  history : List FaultRec := []
  checkAt : Nat := 0
  checking : Option Nat := none
  kickAt : Nat := 0
  helmDue : Option Nat := none
  booting : Option Nat := none
  alert : Bool := false
  deriving DecidableEq, Repr

/-- The thermal monitor (R461 to R464): the sensor read next, whether the HALT deadline is past, when it was last read, when HALT was entered while its deadline is
ahead, since when the maximum has been below 95 degrees in SHUTDOWN. -/
structure Thermal where
  next : Nat := 0
  overdue : Bool := false
  readAt : Nat := 0
  haltAt : Option Nat := none
  coolSince : Option Nat := none
  deriving DecidableEq, Repr

/-- A microcode command under way (spec/19_engine_control_store.md R475): CMD, SLOT and when it began; and the result of its checks. -/
structure CsRun where
  cmd : Nat
  slot : Nat
  at_ : Nat
  code : Nat
  deriving DecidableEq, Repr

/-- The engine control stores: the staging buffer by word, the BASE image in the engines and the PATCH image applied over its
patch section, and the command under way. (DESIGN CHOICE, log 7) -/
structure CtlStore where
  staging : Store Word := []
  base : List Byte := []
  patch : Option (List Byte) := none
  run : Option CsRun := none
  deriving DecidableEq, Repr

/-- A flash operation of Beacon, in the order requested (spec/21_life_store.md R497). -/
inductive FlashOp where
  | flush (requested : Bool)
  | setup
  | cal
  | program (slot : Nat) (image : List Byte)
  deriving DecidableEq, Repr

/-- The clock record of CLOCK (R499): calendar, TL_AGE_TRIM, TL_AGE_RATE, accumulated ageing term. -/
structure ClockRec where
  calendar : Nat
  trim : Word
  rate : Word
  acc : Int
  deriving DecidableEq, Repr

/-- The flash (R490): the body of each section whose check word holds; FACTORY_S of DIR; the calibration values by register address;
the counters of LIFE with its sector, the records in it, and the erases of each sector; the last clock record; HIST, oldest
first; and whether a journal ends in a bad record. -/
structure Flash where
  dir : Option Nat := none
  setup : Option (List Byte) := none
  cal : Option (List (Nat × Word)) := none
  slotA : Option (List Byte) := none
  slotB : Option (List Byte) := none
  life : Store Nat := []
  sector : Nat := 0
  records : Nat := 1559
  erases : Store Nat := []
  clock : Option ClockRec := none
  hist : List (List Word) := []
  truncated : Bool := false
  deriving DecidableEq, Repr, Inhabited

/-- The life store beside its registers: the flash, the setup shadow, the helm key loaded at step 4, the flash operations in order with
the start of the first when it runs, the start of the last flush and of the last scheduled one, the starts of requested flushes in the
last 24 hours, the flushes that wait for their 60 seconds (true for a requested one), and the last calendar second. -/
structure Life where
  flash : Flash := {}
  shadow : List Byte := []
  helmKey : Option (List Byte) := none
  ops : List FlashOp := []
  opSince : Option Nat := none
  flushAt : Option Nat := none
  schedAt : Nat := 0
  starts : List Nat := []
  waiting : List Bool := []
  secAt : Nat := 0
  deriving DecidableEq, Repr

end Sys2Proof.Machine

namespace Sys2Proof

/-- What the flash holds as the factory left it: the spec does not give it (spec/21_life_store.md R490; assumption log 6). -/
opaque Config.factoryFlash : Machine.Flash

end Sys2Proof
end

