-- ==== Sys2Proof/Machine/State.lean ====
section
/-! DEFINITION. The state of the device. -/

namespace Sys2Proof.Machine

/-- The event path to the host (R374, R375): events raised since reset, events held, events dropped since the last LOST record. -/
structure EvtPath where
  seq : Nat := 0
  held : List EventRec := []
  dropped : Nat := 0
  pi : Nat := 0
  ci : Nat := 0
  deriving DecidableEq, Repr

/-- What the device holds. Instants are in units of 1/512 engine period (spec/04_edges_and_waves.md R105) on the device
clock. -/
structure State where
  /-- The present instant on the device clock. -/
  now : Nat := 0
  /-- Tideline time less the device's count of engine cycles; tideline time is valid as TL_STATE says (spec/16 R403, R407). -/
  tideOff : Int := 0
  /-- How many free values have been used: the model's own field (assumption log 3). -/
  fresh : Nat := 0
  /-- The registers of spec/02 to spec/21 in force, and the calibration items (spec/13), by address; one not listed holds its reset value. -/
  regs : Store Word := []
  /-- The shadows written since their last strobe, by the register's address (spec/02 R47). -/
  shadows : Store Word := []
  /-- Strobed values that wait for a step start of their strand (spec/02 R49). -/
  captured : Store Word := []
  /-- The RUN_AT that a scheduled strobe of SRC = 1 is bound to: QP, index and instant (spec/02 R50, R51). -/
  bound : Option (Nat × Nat × Nat) := none
  /-- The strands, 0 to 191 (spec/05 to spec/08). -/
  strands : Store Strand := []
  /-- The pin slices, 0 to 1535 (spec/03, spec/04). -/
  pins : Store Pin := []
  /-- The PMUs, by pin (spec/11 R286 to R297). -/
  pmus : Store Pmu := []
  /-- The converters, by pin (spec/11 R298 to R303). -/
  convs : Store Conv := []
  /-- The capture TDCs, by pin (spec/12 R313 to R320). -/
  tdcs : Store Tdc := []
  /-- The acquisition engines, by strand (spec/12 R321 to R332). -/
  acqs : Store Acq := []
  /-- The calibration runs that are active, by cove (spec/13 R338, R339). -/
  calRuns : Store CalRun := []
  /-- The means of SYS_ZERO that wait for SYS_FS, by source (spec/13 R344). -/
  calZero : Store Int := []
  /-- The queue pairs, 0 to 63 (spec/14 R350, R354). -/
  qps : Store Qp := []
  /-- Commands, results and pauses of the host transport (spec/14). -/
  host : HostPath := {}
  /-- The ring ports, links, queues, frames seen and the bypass (spec/15). -/
  ring : Ring := {}
  /-- Tideline time: servo, sources, path delays (spec/16). -/
  tide : Tide := {}
  /-- Breakwater trips that stand (spec/03 R91 to R98). -/
  trips : List Trip := []
  /-- The memory controller and the pattern memory (spec/07). -/
  mem : Mem := {}
  /-- The fail switch and the journal (spec/08). -/
  failPath : FailPath := {}
  /-- The splice lanes (spec/09). -/
  splice : Splice := {}
  /-- The placement engine (spec/10). -/
  place : Place := {}
  /-- The causes that force output states (spec/03 R99, R100). -/
  forced : Forced := {}
  /-- Fault messages on their way to the collector, oldest first (spec/18 R442). -/
  faultQ : List FaultMsg := []
  /-- Events on their way to the host (spec/14 R374, R375). -/
  evt : EvtPath := {}
  /-- Power states, start-up and self-test (spec/17). -/
  power : Power := {}
  /-- The fault collector, Beacon and helm (spec/18). -/
  faults : Faults := {}
  /-- The thermal monitor (spec/18 R461 to R464). -/
  thermal : Thermal := {}
  /-- The engine control stores (spec/19). -/
  ctl : CtlStore := {}
  /-- The life store and its flash (spec/21 R490 to R500). -/
  store : Life := {}
  /-- Counts of the life counters since the last flush, by index (spec/21 R495, R496). -/
  counts : Store Nat := []
  /-- What has left the device, oldest first. -/
  sent : List Output := []
  /-- The commands that wait, first in, first out. -/
  pending : List Instr := []
  deriving DecidableEq, Repr

/-- The device right after reset: every register at its reset value, nothing running, no command waiting. Only the flash holds
something, what the factory left (assumption log 6). -/
def State.reset : State := { store := { flash := Config.factoryFlash } }

/-- The ways the device stops for good: the spec stops it on none. -/
inductive Fault where
  /-- Raised by no command: no rule of the spec leaves the device without a next state (safe). -/
  | none
  deriving DecidableEq, Repr

/-- The ways a command is refused by the model: every command has its meaning. -/
inductive Refusal where
  /-- Raised by a command without a meaning, by its mnemonic: now by none (safe, since the run stops there). -/
  | notModelled (mnemonic : String)
  deriving DecidableEq, Repr

end Sys2Proof.Machine
end

