-- ==== Sys2Proof/Machine/Ops.lean ====
section
/-! DEFINITION. The named operations over the state: registers and their fields, strands, pins, time, free values,
fault messages, host events and outputs. Every other file reads and writes the state through these. -/

namespace Sys2Proof.Machine

/-! ### Registers in force -/

/-- The value of the register at normal-space address `a` (spec/02_register_conventions.md R47: the value in force). -/
def State.rd (s : State) (a : Nat) : Word := Store.getD s.regs a (resetOf a)

/-- Put a value into the register at `a`. -/
def State.wr (s : State) (a : Nat) (v : Word) : State :=
  { s with regs := Store.putD s.regs a v (resetOf a) }

/-- The value of a field of the register at `a`. -/
def State.fld (s : State) (a : Nat) (f : Field) : Nat := f.get (s.rd a)

/-- Put a value into a field of the register at `a`. -/
def State.setFld (s : State) (a : Nat) (f : Field) (v : Nat) : State := s.wr a (f.put (s.rd a) v)

/-- Whether a field is not zero. -/
def State.flag (s : State) (a : Nat) (f : Field) : Bool := s.fld a f != 0

/-- Set a one-bit field. -/
def State.raise (s : State) (a : Nat) (f : Field) : State := s.setFld a f 1

/-- Set a one-bit field when `c` holds. -/
def State.raiseIf (s : State) (c : Bool) (a : Nat) (f : Field) : State := if c then s.raise a f else s

/-- Add to a counter field, saturating at its highest value. -/
def State.satAdd (s : State) (a : Nat) (f : Field) (n : Nat) : State :=
  s.setFld a f (min f.max (s.fld a f + n))

/-- The 64-bit value of two consecutive words, low word first (R44). -/
def State.rd64 (s : State) (a : Nat) : Nat := (s.rd a).toNat + (s.rd (a + 4)).toNat * 4294967296

/-- Put a 64-bit value into two consecutive words. -/
def State.wr64 (s : State) (a : Nat) (v : Nat) : State := (s.wr a (lo32 v)).wr (a + 4) (hi32 v)

/-- Add to a 64-bit counter. -/
def State.add64 (s : State) (a : Nat) (n : Nat) : State := s.wr64 a (s.rd64 a + n)

/-- Apply `f` for each entry of a list, in order. -/
def State.each {α : Type} (s : State) (l : List α) (f : State → α → State) : State := l.foldl f s

/-! ### Strands and pins -/

/-- What strand `k` holds beside its registers. -/
def State.strand (s : State) (k : Nat) : Strand := Store.getD s.strands k {}

/-- Replace what strand `k` holds. -/
def State.setStrand (s : State) (k : Nat) (v : Strand) : State := { s with strands := Store.putD s.strands k v {} }

/-- Change what strand `k` holds. -/
def State.modStrand (s : State) (k : Nat) (f : Strand → Strand) : State := s.setStrand k (f (s.strand k))

/-- What pin `n` of the device holds beside its registers. -/
def State.pin (s : State) (n : Nat) : Pin := Store.getD s.pins n {}

/-- Replace what pin `n` holds. -/
def State.setPin (s : State) (n : Nat) (v : Pin) : State := { s with pins := Store.putD s.pins n v {} }

/-- Change what pin `n` holds. -/
def State.modPin (s : State) (n : Nat) (f : Pin → Pin) : State := s.setPin n (f (s.pin n))

/-- A register of strand `k`. -/
def State.sq (s : State) (k off : Nat) : Word := s.rd (strandA k off)

/-- The device pin number of pin `p` of strand `k` (spec/00_scope.md R4). -/
def pinOf (k p : Nat) : Nat := 8 * k + p

/-- The pins of a strand. -/
def pinsOf (k : Nat) : List Nat := (List.range 8).map (pinOf k)

/-- The cove of a strand (R4). -/
def coveOf (k : Nat) : Nat := k / 12

/-- The address of the LB_POS register of strand `k`'s position. -/
def lbPos (k : Nat) : Nat := coveA (k / 12) (Reg.LB_POS + 4 * (k % 12))

/-- All strands. -/
@[irreducible] def allStrands : List Nat := List.range 192

/-- All pins. -/
def allPins : List Nat := List.range 1536

/-- LB_POS.LEADER of strand `k`: 255 when it is in no lash group (spec/10_placement_and_lashing.md). -/
def State.leaderOf (s : State) (k : Nat) : Nat := s.fld (lbPos k) Fld.LB_POS_LEADER

/-- The members of the lash group of strand `k`, rising; the strand alone when it is in none. -/
def State.groupOf (s : State) (k : Nat) : List Nat :=
  if s.leaderOf k = 255 then [k] else allStrands.filter (fun j => s.leaderOf j == s.leaderOf k)

/-- SQ_STATE.ROLE: 0 unlashed, 1 leader, 2 lashed follower, 3 split follower. -/
def State.role (s : State) (k : Nat) : Nat := s.fld (strandA k Reg.SQ_STATE) Fld.SQ_STATE_ROLE

/-- Set a strand's role in SQ_STATE and LB_POS. -/
def State.setRole (s : State) (k r : Nat) : State :=
  (s.setFld (strandA k Reg.SQ_STATE) Fld.SQ_STATE_ROLE r).setFld (lbPos k) Fld.LB_POS_ROLE r

/-- The strands that take the flow of strand `k`: itself and, for a leader, its lashed followers that have not stopped alone
(R127, R278, R285). -/
def State.crew (s : State) (k : Nat) : List Nat :=
  if s.role k = 1 then k :: (s.groupOf k).filter (fun j => j != k && s.role j == 2 &&
    (let st := s.fld (strandA j Reg.SQ_STATE) Fld.SQ_STATE_STATE; st != 0 && st != 5))
  else [k]

/-! ### Time -/

/-- Units of 1/512 engine period in one engine cycle (spec/04_edges_and_waves.md R105). -/
def cycU : Nat := 512

/-- Units in one microsecond at 1.2 GHz. -/
def usU : Nat := 614400

/-- Engine cycles in one second. -/
def secC : Nat := 1200000000

/-- The device clock is at least `t`. (DESIGN CHOICE, log 10) -/
def State.advanceTo (s : State) (t : Nat) : State := { s with now := max s.now t }

/-- A fresh free value: what the spec leaves open. It may be anything (Config.freeNat); the count steps on. -/
def State.free (s : State) : Nat × State := (Config.freeNat s.fresh, { s with fresh := s.fresh + 1 })

/-- The nearest integer to a / b. A tie goes where the spec leaves it open (Config.tieUp). -/
def roundDiv (a : Int) (b : Nat) : Int :=
  let q := (2 * a + b) / (2 * b)
  if (2 * a + b) % (2 * b) = 0 && !Config.tieUp a b then q - 1 else q

/-- An integer next to a / b, where the spec states no rounding (Config.inexactUp). -/
def openDiv (a : Int) (b : Nat) : Int :=
  if a % b = 0 then a / b else if Config.inexactUp a b then a / b + 1 else a / b

/-- The integer square root of a number below 4^n: the highest r with r * r at most v. -/
def isqrt : Nat → Nat → Nat → Nat
  | 0, r, _ => r
  | n + 1, r, v => isqrt n (if (r + 2 ^ n) * (r + 2 ^ n) ≤ v then r + 2 ^ n else r) v

/-- Tideline time as an exact count of engine periods (spec/16_tideline.md R403, R405: an engine clock edge at every count). -/
def State.tideNow (s : State) : Nat := (((s.now / cycU : Nat) : Int) + s.tideOff).toNat % 18446744073709551616

/-- Whether tideline time is valid (R407: every state but INVALID). -/
def State.tideValid (s : State) : Bool := s.fld Reg.TL_STATE Fld.TL_STATE_STATE != 0

/-- The instant of tideline time `t`, in units of the device clock. -/
def State.unitsOf (s : State) (t : Nat) : Nat := (((t : Nat) : Int) - s.tideOff).toNat * cycU

/-- The tideline time of an instant in units, at the engine clock edge at or before it. -/
def State.tideOf (s : State) (u : Nat) : Nat := (((u / cycU : Nat) : Int) + s.tideOff).toNat % 18446744073709551616

/-- The STAMP of a message or event: tideline time, zero while tideline is INVALID (R442). -/
def State.stamp (s : State) : Nat := if s.tideValid then s.tideNow else 0

/-! ### What leaves the device -/

/-- Send something out. -/
def State.send (s : State) (o : Output) : State := { s with sent := s.sent ++ [o] }

/-! ### Fault messages -/

/-- A block raises a fault message (spec/18_faults_and_thermal.md R442, R443, R444): it is on its way to the collector,
where FAULT_MESSAGE takes it. (DEDUCED, log 38) -/
def State.fault (s : State) (source bit addr : Nat) : State :=
  { s with faultQ := s.faultQ ++ [⟨source, 2 ^ bit, addr, false⟩] }

/-- The fault source of a pin, a strand, an engine, a cove or a physical splice lane (R443). -/
def srcPin (n : Nat) : Nat := n
def srcStrand (k : Nat) : Nat := 0x600 + k
def srcEngine (e : Nat) : Nat := 0x6C0 + e
def srcCove (c : Nat) : Nat := 0x790 + c
def srcLane (l : Nat) : Nat := 0x7A0 + l
def srcMem : Nat := 0x7C0
def srcJournal : Nat := 0x7C1
def srcHost : Nat := 0x7C2
def srcRing (p : Nat) : Nat := 0x7C3 + p
def srcTide : Nat := 0x7C5
def srcFabric : Nat := 0x7C6
def srcBeacon : Nat := 0x7C7
def srcThermal : Nat := 0x7C8
def srcSupply : Nat := 0x7C9
def srcCollector : Nat := 0x7CA

/-! ### Host events -/

/-- Entries of the event ring (spec/14_host_transport.md HT_EVT_CFG.LOG2, clipped to 4 to 16). -/
def State.evtSize (s : State) : Nat := 2 ^ clipTo 4 16 (s.fld Reg.HT_EVT_CFG Fld.HT_EVT_CFG_LOG2)

/-- Whether QP `q` is in RTS (R353). -/
def State.qpRts (s : State) (q : Nat) : Bool := s.fld (qpA q Reg.HT_QP_CTRL) Fld.HT_QP_CTRL_STATE == 1

/-- Whether events can be taken at all: the ring is enabled and its owning QP is in RTS (R375). -/
def State.evtOpen (s : State) : Bool :=
  s.flag Reg.HT_EVT_CFG Fld.HT_EVT_CFG_EN && s.qpRts (s.fld Reg.HT_EVT_CFG Fld.HT_EVT_CFG_QP)

/-- Free slots of the event ring beyond the events held for it. -/
def State.evtFree (s : State) : Nat := s.evtSize - (s.evt.pi - s.evt.ci) - s.evt.held.length

/-- Raise an event (R374, R375): it takes the next SEQ and is held, or is dropped and counted. -/
def State.pushEvent (s : State) (kind : Nat) (body : List Byte) : State :=
  let rec_ : EventRec := ⟨kind, s.evt.seq % 4294967296, s.stamp, padTo 16 0 body⟩
  let s1 := { s with evt := { s.evt with seq := s.evt.seq + 1 } }
  if s.evtOpen && decide (1 < s.evtFree) && decide (s.evt.held.length < 256) then
    { s1 with evt := { s1.evt with held := s1.evt.held ++ [rec_] } }
  else
    let s2 := { s1 with evt := { s1.evt with dropped := s1.evt.dropped + 1 } }
    (s2.wr Reg.HT_EVT_LOST (BitVec.ofNat 32 (min 4294967295 ((s2.rd Reg.HT_EVT_LOST).toNat + 1)))).raise
      Reg.HT_STAT Fld.HT_STAT_EVT_LOST

/-! ### Coves -/

/-- Whether a cove is awake (spec/17_clocks_power_startup.md CV_STATE). -/
def State.coveAwake (s : State) (c : Nat) : Bool := s.fld (coveA c Reg.CV_STATE) Fld.CV_STATE_STATE == 3

/-! ### Resets (spec/17_clocks_power_startup.md R422, R428, R430, R431) -/

/-- The registers of the always-on domain (R422): DEV_, FC_, TH_ and SPI_. -/
def inAon (a : Nat) : Bool := decide (a < 0x3000) || (decide (0x5000 ≤ a) && decide (a < 0x6000))

/-- The calendar, which runs on from VDD_AON. -/
def isCalendar (a : Nat) : Bool := a == Reg.LS_CAL_S || a == Reg.LS_CAL_DAY || a == Reg.LS_FACTORY_S

/-- The state after a reset of everything outside the always-on domain: registers that `keep` names hold their values, and what the
always-on domain and the flash hold stands. (DEDUCED, log 45) -/
def State.coreReset (s : State) (keep : Nat → Bool) : State :=
  { State.reset with
    now := s.now, fresh := s.fresh, sent := s.sent, pending := s.pending,
    regs := s.regs.filter (fun e => keep e.1), shadows := s.shadows.filter (fun e => keep e.1),
    forced := s.forced, faultQ := s.faultQ, thermal := s.thermal, counts := s.counts,
    power := { s.power with plls := [], lastPll := none, test := none, testWaits := [], begun := false },
    faults := { s.faults with helmDue := none, booting := none },
    store := { s.store with shadow := [], helmKey := none, ops := [], opSince := none, waiting := [] } }

/-- The segments that stay loaded through deep standby (R428): those not dropped when the memory went into self-refresh, but for
streams. -/
def State.keepSegments (s old : State) : State :=
  let segs := old.mem.segs.filter (fun e => e.2.stream.isNone)
  let s1 := { s with mem := { s.mem with segs := segs } }
  s1.setFld Reg.MC_FREE Fld.MC_FREE_GROUPS (s1.fld Reg.MC_FREE Fld.MC_FREE_GROUPS - (segs.map (fun e => e.2.groups.length)).foldl (fun m x => m + x) 0)

/-- The device leaves deep standby (R428): steps 4 to 11 of the start-up sequence follow; `cause` is what DEV_PWR_STAT.LAST_START will
show. -/
def State.deepWake (s : State) (cause : Nat) : State :=
  let s1 := (s.coreReset (fun a => inAon a || isCalendar a)).keepSegments s
  let s2 := ((s1.wr Reg.DEV_STATE 0x04000000).wr Reg.DEV_STAT 0).wr Reg.DEV_FW_VER 0
  { s2 with power := { s2.power with cause := cause } }.setFld Reg.FC_HELM_STATE Fld.FC_HELM_STATE_BEACON_RUN 0

/-- The core domain is off: deep standby or a thermal shutdown (R426; spec/18 R463). -/
def State.coreOut (s : State) : Bool := s.fld Reg.DEV_STATE Fld.DEV_STATE_POWER == 2

/-- Deep standby can be left: a thermal shutdown is left by its own restart only (spec/18 R462). -/
def State.mayWake (s : State) : Bool := s.coreOut && s.fld Reg.TH_STATE Fld.TH_STATE_LEVEL != 3

/-- Request a cove wake (R89, R423): the cove waits for admission under R24; a cove awake or already waking is left. A cove woken
by a contact event (cause 2) or by CV_CMD (cause 3) stays awake under R276. A cove whose sensor is excluded does not wake (R465). In
deep standby a contact event wakes the device when DEV_PWR_CFG.EVT_WAKE is 1 (R428). (DEDUCED, log 37) -/
def State.requestWake (s : State) (c cause : Nat) : State :=
  if s.coreOut then
    if cause = 2 ∧ s.mayWake ∧ s.flag Reg.DEV_PWR_CFG Fld.DEV_PWR_CFG_EVT_WAKE then s.deepWake 4 else s
  else if s.fld (coveA c Reg.CV_STATE) Fld.CV_STATE_STATE == 0 && !bitOf (s.rd Reg.TH_EXCLUDE).toNat c then
    let s1 := (s.setFld (coveA c Reg.CV_STATE) Fld.CV_STATE_STATE 4).setFld (coveA c Reg.CV_STATE) Fld.CV_STATE_CAUSE cause
    if cause = 2 ∨ cause = 3 then { s1 with place := { s1.place with stay := s1.place.stay.filter (fun x => x != c) ++ [c] } } else s1
  else s

/-! ### Lifetime counts -/

/-- Add one to the pending lifetime count numbered `i` (spec/21_life_store.md R495, R496): 24 bits, and an excess is lost and
sets LS_STAT.PEND_SAT. -/
def State.life (s : State) (i : Nat) : State :=
  if 0xFFFFFF ≤ Store.getD s.counts i 0 then s.raise Reg.LS_STAT Fld.LS_STAT_PEND_SAT
  else { s with counts := Store.putD s.counts i (Store.getD s.counts i 0 + 1) 0 }

end Sys2Proof.Machine
end

