-- ==== Sys2Proof/Machine/PinOps.lean ====
section
/-! DEFINITION. Shared operations of a pin slice: output states, levels, the window comparator and its events
(spec/03_pin_slice.md), and pending pin events (spec/04_edges_and_waves.md). -/

namespace Sys2Proof.Machine

/-! ### Output states (R99, R100) -/

/-- The pin lies in the scope of a trip that has not ended: the first case of R95. -/
def State.inTrip (s : State) (n : Nat) : Bool := s.trips.any (fun t => t.pins.contains n)

/-- A cause other than a trip holds every pin SAFE (R99). -/
def State.safeAll (s : State) : Bool := s.forced.device || s.forced.thermal || s.forced.slack

/-- The second case of R95: SAFE for a cause other than a trip, or HIGH-Z. -/
def State.safeOther (s : State) : Bool := s.safeAll || s.forced.grave

/-- The output states of a pin. -/
inductive BallState where
  | highZ
  | safe
  | disconnected
  | connected
  deriving DecidableEq, Repr

/-- The output state of pin `n`: the first matching row of R100. -/
def State.ball (s : State) (n : Nat) : BallState :=
  if s.forced.grave then .highZ
  else if s.safeAll || s.inTrip n then .safe
  else if !s.coveAwake (coveOf (n / 8)) || !s.flag (pinA n Reg.PS_DRV_CTRL) Fld.PS_DRV_CTRL_CONN then .disconnected
  else .connected

/-- What the driver does at the ball (R74, R110): the condition of the pattern in PATTERN, a level in the static modes,
high impedance otherwise and in every state but CONNECTED. -/
def State.driverAt (s : State) (n : Nat) : Drv :=
  match s.ball n with
  | .connected =>
    match s.fld (pinA n Reg.PS_DRV_CTRL) Fld.PS_DRV_CTRL_MODE with
    | 1 => (s.pin n).cond
    | 2 => .vih
    | 3 => .vil
    | 4 => .vtt
    | _ => .hiz
  | _ => .hiz

/-- Whether the active load of the pin acts (R77). -/
def State.loadActs (s : State) (n : Nat) : Bool :=
  s.flag (pinA n Reg.PS_LOAD) Fld.PS_LOAD_EN && s.ball n == .connected && s.driverAt n == .hiz

/-- A load current code as applied: at most 4,000 (R76). -/
def loadCode (c : Nat) : Nat := min c 4000

/-- Whether the contact-bias source is on (R90): enabled, and no forced state. -/
def State.biasOn (s : State) (n : Nat) : Bool :=
  s.flag (pinA n Reg.PS_CMP_CFG) Fld.PS_CMP_CFG_BIAS && !s.safeAll && !s.inTrip n && !s.forced.grave

/-! ### Levels -/

/-- A driver level as applied (R72): clipped to PS_LIM, then to the hardware range. -/
def State.driveLevel (s : State) (n code : Nat) : Nat :=
  clipTo 0x20C0 0xBD00 (clipTo (s.fld (pinA n Reg.PS_LIM) Fld.PS_LIM_LO) (s.fld (pinA n Reg.PS_LIM) Fld.PS_LIM_HI) code)

/-- A comparator threshold as applied (R78). -/
def thresholdLevel (code : Nat) : Nat := clipTo 0x1120 0xFB80 code

/-- The level of the code in the register at offset `off` of pin `n` is changed by clipping. -/
def State.levelClips (s : State) (n off : Nat) : Bool :=
  let c := (s.rd (pinA n off)).toNat % 65536
  s.driveLevel n c != c

/-- Set PS_STAT.LIM_CLIP when the application of the level at `off` changed the code through clipping (R72). -/
def State.noteClip (s : State) (n off : Nat) : State :=
  s.raiseIf (s.levelClips n off) (pinA n Reg.PS_STAT) Fld.PS_STAT_LIM_CLIP

/-- Re-clip the three driver levels in force (R73). -/
def State.reclip (s : State) (n : Nat) : State :=
  ((s.noteClip n Reg.PS_VIH).noteClip n Reg.PS_VIL).noteClip n Reg.PS_VTT

/-! ### The window comparator -/

/-- A comparator decision: not beyond the threshold, beyond it, or undetermined (PS_CMP_STATE). -/
inductive Dec where
  | no
  | yes
  | undet
  deriving DecidableEq, Repr

/-- The code of a decision in PS_CMP_STATE. -/
def Dec.code : Dec → Nat
  | .no => 0
  | .yes => 1
  | .undet => 2

/-- The decision a code stands for. -/
def decOf : Nat → Dec
  | 0 => .no
  | 1 => .yes
  | _ => .undet

/-- The VOH decision of pin `n`. -/
def State.hiDec (s : State) (n : Nat) : Dec := decOf (s.fld (pinA n Reg.PS_CMP_STATE) Fld.PS_CMP_STATE_HI_DEC)

/-- The VOL decision of pin `n`. -/
def State.loDec (s : State) (n : Nat) : Dec := decOf (s.fld (pinA n Reg.PS_CMP_STATE) Fld.PS_CMP_STATE_LO_DEC)

/-- PS_CMP_STATE.STATE of pin `n`. -/
def State.cmpState (s : State) (n : Nat) : Nat := s.fld (pinA n Reg.PS_CMP_STATE) Fld.PS_CMP_STATE_STATE

/-- VOL is above VOH in force (R84). -/
def State.windowInverted (s : State) (n : Nat) : Bool :=
  decide (thresholdLevel (s.fld (pinA n Reg.PS_VOH) Fld.PS_VOH_CODE) < thresholdLevel (s.fld (pinA n Reg.PS_VOL) Fld.PS_VOL_CODE))

/-- STATE from the two decisions (R82, R84). -/
def stateOf (inverted : Bool) (hi lo : Dec) : Nat :=
  if inverted && hi == .yes then 1
  else if hi == .undet || lo == .undet then 2
  else if hi == .yes then 1
  else if lo == .yes then 3
  else 0

/-- Whether a decision meets an expectation (R112), or none is available. -/
def meets (hi lo : Dec) (st : Nat) : Expect → Option Bool
  | .high => match hi with | .undet => none | d => some (d == .yes)
  | .low => match lo with | .undet => none | d => some (d == .yes)
  | .inside => if st = 2 then none else some (st == 0)

/-- The result of a strobe: a pass, a fail on a decision, or a fail for want of one (R85). -/
inductive Verdict where
  | pass
  | fail
  | nodec
  deriving DecidableEq, Repr

/-- Evaluate a strobe's condition at pin `n` now (R85, R112): Fast mode and a decision are needed. -/
def State.compare (s : State) (n : Nat) (e : Expect) : Verdict :=
  if s.fld (pinA n Reg.PS_CMP_STATE) Fld.PS_CMP_STATE_MODE_EFF != 0 then .nodec
  else match meets (s.hiDec n) (s.loDec n) (s.cmpState n) e with
    | none => .nodec
    | some true => .pass
    | some false => .fail

/-- Bring the open windows of pin `n` up to date with the present decisions (R112) and forced states (R95). -/
def State.noteWindows (s : State) (n : Nat) : State :=
  if (s.pin n).windows.isEmpty then s
  else
    let upd (w : Window) : Window :=
      if w.early then { w with mask1 := w.mask1 || s.inTrip n, mask2 := w.mask2 || s.safeOther }
      else
        let v := s.compare n w.expect
        { w with ok := w.ok && v == .pass, nodec := w.nodec || v == .nodec,
                 mask1 := w.mask1 || s.inTrip n, mask2 := w.mask2 || s.safeOther }
    s.modPin n (fun p => { p with windows := p.windows.map upd })

/-- Bring the open windows of every pin up to date: after anything that begins or ends a forced state (R95). -/
def State.noteForced (s : State) : State := s.each (s.pins.map (·.1)) State.noteWindows

/-- Fire the armed event of pin `n` on entry into STATE `st` (R88, R89). -/
def State.firePinEvent (s : State) (n st : Nat) : State :=
  let a := pinA n Reg.PS_EVT
  let s1 := ((s.setFld a Fld.PS_EVT_ARM 0).setFld a Fld.PS_EVT_FIRED 1).setFld a Fld.PS_EVT_FIRE_STATE st
  let s2 := if s1.flag a Fld.PS_EVT_RING_EN then
      s1.pushEvent 1 (leBytes 2 n ++ leBytes 1 st ++ leBytes 1 (s1.fld a Fld.PS_EVT_AT_ARM)) else s1
  let s3 := if s2.flag a Fld.PS_EVT_WAKE_EN && !s2.coveAwake (coveOf (n / 8)) then s2.requestWake (coveOf (n / 8)) 2 else s2
  s3.life n

/-- Whether STATE `st` is among the targets of PS_EVT (PS_EVT.TARGET: bit 0 inside, bit 1 above, bit 2 below). -/
def targetHas (target st : Nat) : Bool :=
  match st with
  | 0 => bitOf target 0
  | 1 => bitOf target 1
  | 3 => bitOf target 2
  | _ => false

/-- Put new decisions into force at pin `n` (R82 to R84): STATE follows, the open windows see the decision (R112), and a
change of STATE into a target fires an armed event (R88). -/
def State.setDecisions (s : State) (n : Nat) (hi lo : Dec) : State :=
  let a := pinA n Reg.PS_CMP_STATE
  let old := s.cmpState n
  let st := stateOf (s.windowInverted n) hi lo
  let s1 := ((s.setFld a Fld.PS_CMP_STATE_HI_DEC hi.code).setFld a Fld.PS_CMP_STATE_LO_DEC lo.code).setFld a Fld.PS_CMP_STATE_STATE st
  let s2 := s1.noteWindows n
  if st != old && s2.flag (pinA n Reg.PS_EVT) Fld.PS_EVT_ARM && targetHas (s2.fld (pinA n Reg.PS_EVT) Fld.PS_EVT_TARGET) st then
    s2.firePinEvent n st
  else s2

/-- Both decisions become undetermined (R83). -/
def State.undetermine (s : State) (n : Nat) : State := s.setDecisions n .undet .undet

/-- The settling time of a comparator mode, in units (R81). -/
def cmpSettle : Nat → Nat
  | 0 => 2 * usU
  | 1 => 2 * usU
  | 2 => 10 * usU
  | _ => 100 * usU

/-- Start the comparator of pin `n` in the mode in force, as for a mode change (R80, R81): settling, both decisions
undetermined; Fast and Balanced stay off while the cove sleeps. -/
def State.startComparator (s : State) (n : Nat) : State :=
  let m := s.fld (pinA n Reg.PS_CMP_CFG) Fld.PS_CMP_CFG_MODE
  let a := pinA n Reg.PS_CMP_STATE
  if m < 2 && !s.coveAwake (coveOf (n / 8)) then
    ((s.setFld a Fld.PS_CMP_STATE_MODE_EFF 4).modPin n (fun p => { p with settleAt := none })).undetermine n
  else
    ((s.setFld a Fld.PS_CMP_STATE_MODE_EFF 5).modPin n (fun p => { p with settleAt := some (s.now + cmpSettle m) })).undetermine n

/-- Take the thresholds in force into the hold stages of pin `n` (R87). -/
def State.holdThresholds (s : State) (n : Nat) : State :=
  s.modPin n (fun p => { p with
    heldHi := thresholdLevel (s.fld (pinA n Reg.PS_VOH) Fld.PS_VOH_CODE),
    heldLo := thresholdLevel (s.fld (pinA n Reg.PS_VOL) Fld.PS_VOL_CODE) })

/-! ### Pending events of a pin -/

/-- Insert into a list sorted by instant, after entries at the same instant (R117: step order). -/
def insertBy {α : Type} (key : α → Nat) (e : α) : List α → List α
  | [] => [e]
  | h :: t => if key e < key h then e :: h :: t else h :: insertBy key e t

/-- The pending events of a pin that take room under R119. -/
def Pin.load (p : Pin) : Nat := p.drives.length + p.strobes.length

/-- When an event with nominal instant `t` fires, after the last of its kind (R118), and whether it was delayed. (DEDUCED, log 17) -/
def fireAt (last : Option (Nat × Nat)) (t : Nat) : Nat × Bool :=
  match last with
  | none => (t, false)
  | some (nom, act) =>
    if t = nom then (act, false)
    else if t = act then (t, false)
    else if t < act + 256 then (act + 256, true)
    else (t, false)

/-- The condition a stopped strand's pin goes to, if its own last event of the steps executed before the stop has fired (R120). -/
def Pin.settlePark (p : Pin) : Pin :=
  match p.parkTo with
  | some (n, c) =>
    if p.drives.all (fun e => decide (n ≤ e.step)) && p.strobes.all (fun e => decide (n ≤ e.step)) then
      { p with cond := c, parkTo := none }
    else p
  | none => p

end Sys2Proof.Machine
end

