-- ==== Sys2Proof/Machine/Waves.lean ====
section
/-! DEFINITION. The wave table, the edge sets and the pin events of a step (spec/04_edges_and_waves.md R105 to R124),
with the meaning of DRIVE_EVENT. -/

namespace Sys2Proof.Machine

/-! ### Tables -/

/-- The pin field of a wave entry: bits [63:32], the rest reserved (R108). -/
def Tables.waveField (t : Tables) (entry p : Nat) : Nat := Store.getD t.wave (entry * 8 + p) 0

/-- The key of an edge value in the table. -/
def edgeKey (bank p set e : Nat) : Nat := ((bank * 8 + p) * 256 + set) * 6 + e

/-- An edge value (R115). -/
def Tables.edgeVal (t : Tables) (bank p set e : Nat) : Nat := Store.getD t.edge (edgeKey bank p set e) 0

/-- The parts of a pin field (R108). -/
def fieldFormat (f : Nat) : Nat := bitsOf f 31 27
def fieldWindow (f : Nat) : Bool := bitOf f 26
def fieldPark (f : Nat) : Nat := bitsOf f 25 24
def fieldSrc0 (f : Nat) : Nat := bitsOf f 23 16
def fieldSrc1 (f : Nat) : Nat := bitsOf f 15 8
def fieldEset (f : Nat) : Nat := bitsOf f 7 0

/-- The driver condition a PARK code names (R108). -/
def parkDrv : Nat → Drv
  | 1 => .vil
  | 2 => .vih
  | 3 => .vtt
  | _ => .hiz

/-- A data value as a driver level (R110). -/
def levelOf (d : Bool) : Drv := if d then .vih else .vil

/-- The value of a phase (R111): the step's data bit or an ALPG bus bit, inverted by INV. -/
def phaseValue (src data bus bit : Nat) : Bool :=
  xor (if bitOf src 7 then bitOf bus (src % 64) else bitOf data bit) (bitOf src 6)

/-! ### Formats -/

/-- What a format compares (R110). -/
inductive Compare where
  | none
  | one            -- expect D0, per STROBE
  | both           -- D0 at strobe-open and D1 at strobe-close, each an edge strobe
  | inside         -- inside the window, per STROBE
  deriving DecidableEq, Repr

/-- What a format does at its edges (R110): the levels of drive-on, drive-data, drive-return and drive-off, if they
produce events, and its compare. -/
structure FormatActs where
  on : Option Drv
  data : Option Drv
  ret : Option Drv
  off : Option Drv
  cmp : Compare
  deriving DecidableEq, Repr

/-- The table *Formats* of R110; reserved codes act as HIZ. -/
def formatActs (fmt : Nat) (d0 d1 : Bool) (park : Drv) : FormatActs :=
  match fmt with
  | 0x01 => ⟨levelOf d0, levelOf d0, none, none, .none⟩
  | 0x02 => ⟨Drv.vil, levelOf d0, Drv.vil, none, .none⟩
  | 0x03 => ⟨Drv.vih, levelOf d0, Drv.vih, none, .none⟩
  | 0x04 => ⟨levelOf (!d0), levelOf d0, levelOf (!d0), none, .none⟩
  | 0x05 => ⟨levelOf d0, levelOf d0, levelOf d1, none, .none⟩
  | 0x06 => ⟨levelOf d0, levelOf d0, none, Drv.hiz, .none⟩
  | 0x07 => ⟨Drv.vtt, none, none, Drv.hiz, .none⟩
  | 0x08 => ⟨none, none, none, Drv.hiz, .one⟩
  | 0x09 => ⟨none, none, none, Drv.hiz, .both⟩
  | 0x0A => ⟨none, none, none, Drv.hiz, .inside⟩
  | 0x0B => ⟨none, none, none, Drv.hiz, .none⟩
  | 0x0C => ⟨none, none, none, none, .none⟩
  | 0x0D => ⟨park, none, none, none, .none⟩
  | _ => ⟨none, none, none, Drv.hiz, .none⟩

/-- The format codes R110 reserves. -/
def formatReserved (fmt : Nat) : Bool := decide (0x0E ≤ fmt)

/-! ### The events of one step at one pin -/

/-- The condition the pin's scheduled drive events leave for an event of a new step at instant `t` (R110): those of
earlier steps at or before `t`, and those of the new step (`mine`) before `t`, in order of instant. -/
def condAt (p : Pin) (t : Nat) (mine : List DriveEv) : Drv :=
  let before := p.drives.filter (fun e => decide (e.t ≤ t))
  let own := mine.filter (fun e => decide (e.t < t))
  let all := own.foldl (fun l e => insertBy DriveEv.t e l) before
  match all.getLast? with
  | some e => e.level
  | none => p.cond

/-- Add one drive action of the step, in order of instant and then of R117, to the step's merged drive events: a
drive-on acts only from high impedance (R110), actions at one instant merge into one event, the last one setting the
condition (R117). -/
def addDrive (p : Pin) (step : Nat) (mine : List DriveEv) (act : Nat × Bool × Drv) : List DriveEv :=
  let (t, isOn, level) := act
  if isOn && condAt p t mine != .hiz then mine
  else match mine.getLast? with
    | some e => if e.t = t then mine.dropLast ++ [{ e with level := level }] else mine ++ [⟨t, step, level⟩]
    | none => [⟨t, step, level⟩]

/-- The drive events of a step at a pin. `base` is the step start plus the drive deskew (R116). -/
def stepDrives (p : Pin) (step base : Nat) (acts : FormatActs) (edge : Nat → Nat) : List DriveEv :=
  let one (e : Nat) (isOn : Bool) (l : Option Drv) : List (Nat × Bool × Drv) :=
    match l with
    | some d => [(base + edge e, isOn, d)]
    | none => []
  let raw := one 0 true acts.on ++ one 1 false acts.data ++ one 2 false acts.ret ++ one 3 false acts.off
  (raw.foldl (fun l a => insertBy (fun x => x.1) a l) []).foldl (addDrive p step) []

/-- The strobe events of a step at a pin (R112, R116); a window whose close equals its open is an edge strobe. -/
def stepStrobes (step base : Nat) (cmp : Compare) (window d0 d1 : Bool) (edge : Nat → Nat) : List StrobeEv :=
  let o := base + edge 4
  let c := base + edge 5
  let exp (d : Bool) : Expect := if d then .high else .low
  let per (x : Expect) : List StrobeEv :=
    if window && o != c then
      insertBy StrobeEv.t ⟨c, step, .wclose, x, o⟩ [⟨o, step, .wopen, x, c⟩]
    else [⟨o, step, .edge, x, o⟩]
  match cmp with
  | .none => []
  | .one => per (exp d0)
  | .inside => per .inside
  | .both => insertBy StrobeEv.t ⟨c, step, .edge, exp d1, c⟩ [⟨o, step, .edge, exp d0, o⟩]

/-- One event of a step, for the room of R119. -/
inductive StepEv where
  | drive (e : DriveEv)
  | strobe (e : StrobeEv)
  deriving DecidableEq, Repr

/-- Its nominal instant. -/
def StepEv.time : StepEv → Nat
  | .drive e => e.t
  | .strobe e => e.t

/-- The events of a step at a pin in the order of R117. -/
def stepOrder (ds : List DriveEv) (ss : List StrobeEv) : List StepEv :=
  (ss.map StepEv.strobe).foldl (fun l e => insertBy StepEv.time e l) (ds.map StepEv.drive)

/-- A window end in a list of events. -/
def isWindowEnd : StepEv → Bool
  | .strobe e => e.kind != .edge
  | .drive _ => false

/-- What of a step's events fits into `room` places (R119): the drive events and strobe events kept, the drive events
dropped, and the strobes dropped with their instants; a window whose close does not fit is dropped whole. -/
def admitEvents (room : Nat) (evs : List StepEv) : List DriveEv × List StrobeEv × Nat × List Nat :=
  let keep := evs.take room
  let rest := evs.drop room
  let cut := rest.any isWindowEnd
  let ds := keep.filterMap (fun | .drive e => some e | _ => none)
  let ss := keep.filterMap (fun | .strobe e => if cut && e.kind != .edge then none else some e | _ => none)
  let nd := (rest.filter (fun | .drive _ => true | _ => false)).length
  let le := rest.filterMap (fun | .strobe e => if e.kind == .edge then some e.t else none | _ => none)
  let lw := if cut then (evs.filterMap (fun | .strobe e => if e.kind == .wopen then some e.t else none | _ => none)).take 1 else []
  (ds, ss, nd, le ++ lw)

/-- The strobes among kept strobe events: a window counts once. -/
def strobeCount (ss : List StrobeEv) : Nat := (ss.filter (fun e => e.kind != .wclose)).length

/-! ### Deskew -/

/-- The address of calibration item `i` of pin `n` (spec/13_calibration.md R333): items stand above the register space. -/
def calA (n i : Nat) : Nat := 0x400000 + (n * 0x80 + i) * 4

/-- The drive deskew Dd(p) in force. -/
def State.deskewD (s : State) (n : Nat) : Nat := (s.rd (calA n 0x08)).toNat % 65536

/-- The compare deskew Dc(p) in force. -/
def State.deskewC (s : State) (n : Nat) : Nat := (s.rd (calA n 0x09)).toNat % 65536

/-! ### Issuing a step at the pins -/

/-- Count lost events of strand `k` (R119). -/
def State.noteLoss (s : State) (k drives strobes : Nat) : State :=
  let s1 := if drives = 0 then s else
    (s.satAdd (strandA k Reg.WV_LOSS) Fld.WV_LOSS_DRIVES drives).raise (strandA k Reg.WV_STAT) Fld.WV_STAT_DRIVE_DROP
  if strobes = 0 then s1 else
    (s1.satAdd (strandA k Reg.WV_LOSS) Fld.WV_LOSS_STROBES strobes).raise (strandA k Reg.WV_STAT) Fld.WV_STAT_STROBE_LOST

/-- Issue a step at pin `p` of strand `k`: schedule its events and note them in the step's record (R110 to R119). -/
def State.issuePin (s : State) (k start wave data bus : Nat) (acc : StepRec) (p : Nat) : State × StepRec :=
  let n := pinOf k p
  let tb := (s.strand k).tables
  let f := tb.waveField wave p
  let d0 := phaseValue (fieldSrc0 f) data bus (2 * p)
  let d1 := phaseValue (fieldSrc1 f) data bus (2 * p + 1)
  let acts := formatActs (fieldFormat f) d0 d1 (parkDrv (fieldPark f))
  let bank := s.fld (strandA k Reg.ED_CTRL) Fld.ED_CTRL_BANK
  let edge := tb.edgeVal bank p (fieldEset f)
  let pin := s.pin n
  let ds := stepDrives pin acc.step (start + s.deskewD n) acts edge
  let ss := stepStrobes acc.step (start + s.deskewC n) acts.cmp (fieldWindow f) d0 d1 edge
  let (kd, ks, nd, lost) := admitEvents (32 - pin.load) (stepOrder ds ss)
  let s1 := s.raiseIf (formatReserved (fieldFormat f)) (strandA k Reg.WV_STAT) Fld.WV_STAT_FMT_RSV
  let s2 := s1.noteLoss k nd lost.length
  let s3 := s2.setPin n { pin with
    drives := kd.foldl (fun l e => insertBy DriveEv.t e l) pin.drives,
    strobes := ks.foldl (fun l e => insertBy StrobeEv.t e l) pin.strobes }
  (s3, { acc with pend := acc.pend + strobeCount ks, fails := acc.fails ++ lost.map (fun t => ⟨p, t, true⟩) })

/-- Issue a step at all eight pins of strand `k`. -/
def State.issuePins (s : State) (k start wave data bus : Nat) (acc : StepRec) : State × StepRec :=
  (List.range 8).foldl (fun (x : State × StepRec) p => x.1.issuePin k start wave data bus x.2 p) (s, acc)

/-! ### Step records -/

/-- Drop the records of strand `k` that are complete and form no event (R14): no strobe pending, no fail, no MATCH block. -/
def State.pruneRecs (s : State) (k : Nat) : State :=
  s.modStrand k (fun st => { st with
    recs := st.recs.filter (fun r => !(r.pend == 0 && r.fails.isEmpty && r.block.isNone)) })

/-- Change the record of step `step` in a list. -/
def modRec (step : Nat) (f : StepRec → StepRec) (l : List StepRec) : List StepRec :=
  l.map (fun r => if r.step == step && !r.isMatch then f r else r)

/-- A strobe of step `step` at pin `p` of strand `k` has been evaluated at instant `t`, failing or not (R114, R134, R135):
it leaves the record's count, a fail enters the record, and outside a MATCH block it is one the FAIL flag sees. -/
def State.resolveStrobe (s : State) (k step p t : Nat) (failed nodec : Bool) : State :=
  let late := (s.strand k).recs.any (fun r => r.step == step && r.late)
  let free := (s.strand k).recs.any (fun r => r.step == step && r.block.isNone)
  let s1 := s.raiseIf late (strandA k Reg.SQ_STAT) Fld.SQ_STAT_MATCH_LATE
  let s2 := s1.modStrand k (fun st => { st with
    recs := modRec step (fun r => { r with
      pend := r.pend - 1, lastFire := max r.lastFire t,
      fails := if failed then r.fails ++ [⟨p, t, nodec⟩] else r.fails }) st.recs,
    failTimes := if failed && free then st.failTimes ++ [t] else st.failTimes })
  s2.pruneRecs k

/-- A masked strobe (R95, R207): counted in FL_MASKED, and in PS_BW_STAT.MASKED under the first case. -/
def State.countMasked (s : State) (n : Nat) (first : Bool) : State :=
  let s1 := s.wr (strandA (n / 8) Reg.FL_MASKED)
    (BitVec.ofNat 32 (min 4294967295 ((s.rd (strandA (n / 8) Reg.FL_MASKED)).toNat + 1)))
  if first then s1.satAdd (pinA n Reg.PS_BW_STAT) Fld.PS_BW_STAT_MASKED 1 else s1

/-- Conclude a strobe of pin `n` (R85, R95, R112): masked, or passed, or failed. -/
def State.conclude (s : State) (n step t : Nat) (mask1 mask2 ok nodec : Bool) : State :=
  let k := n / 8
  if mask1 || mask2 then (s.countMasked n mask1).resolveStrobe k step (n % 8) t false false
  else
    let s1 := s.raiseIf nodec (pinA n Reg.PS_STAT) Fld.PS_STAT_SLOW_STROBE
    s1.resolveStrobe k step (n % 8) t (!ok) nodec

/-- Conclude a window whose close came before its open (R113): a fail without decision, and ORDER; `slow` says that a decision was
missing at one of its ends (R85). -/
def State.concludeOrder (s : State) (n step t : Nat) (mask1 mask2 slow : Bool) : State :=
  let k := n / 8
  let s1 := s.raise (strandA k Reg.WV_STAT) Fld.WV_STAT_ORDER
  if mask1 || mask2 then (s1.countMasked n mask1).resolveStrobe k step (n % 8) t false false
  else (s1.raiseIf slow (pinA n Reg.PS_STAT) Fld.PS_STAT_SLOW_STROBE).resolveStrobe k step (n % 8) t true true

/-- The window of step `step` at a pin, if an end of it has fired. -/
def Pin.windowOf (p : Pin) (step : Nat) : Option Window := p.windows.find? (fun w => w.step == step)

/-- Forget the window of step `step`. -/
def Pin.dropWindow (p : Pin) (step : Nat) : Pin := { p with windows := p.windows.filter (fun w => w.step != step) }

/-! ### Meanings -/

/-- DRIVE_EVENT: the earliest drive event of pin `n` fires (R116 to R118) and sets the driver condition; without one
nothing happens. -/
def execDriveEvent (n : Fin 1536) (s : State) : Host.Outcome State Fault Refusal :=
  match (s.pin n).drives with
  | [] => .next s
  | e :: rest =>
    let (act, delayed) := fireAt (s.pin n).lastDrive e.t
    let s1 := (s.advanceTo act).raiseIf delayed (strandA (n / 8) Reg.WV_STAT) Fld.WV_STAT_SEP
    .next (s1.modPin n (fun p =>
      ({ p with drives := rest, cond := e.level, lastDrive := some (e.t, act) } : Pin).settlePark))

/-- Fire a strobe event of pin `n` at instant `act`, with its list already shortened. (DEDUCED, log 17) -/
def State.fireStrobe (s : State) (n : Nat) (e : StrobeEv) (act : Nat) (delayed : Bool) : State :=
  let v := s.compare n e.expect
  match e.kind with
  | .edge => s.conclude n e.step act (s.inTrip n) s.safeOther (v == .pass) (v == .nodec)
  | .wopen =>
    match (s.pin n).windowOf e.step with
    | some w => (s.modPin n (fun p => p.dropWindow e.step)).concludeOrder n e.step act (w.mask1 || s.inTrip n) (w.mask2 || s.safeOther)
        (w.nodec || v == .nodec)
    | none =>
      s.modPin n (fun p => { p with windows := p.windows ++
        [⟨e.step, e.expect, delayed && decide (e.mate < act), v == .pass, v == .nodec, s.inTrip n, s.safeOther⟩] })
  | .wclose =>
    match (s.pin n).windowOf e.step with
    | none =>
      s.modPin n (fun p => { p with windows := p.windows ++ [⟨e.step, e.expect, true, false, v == .nodec, s.inTrip n, s.safeOther⟩] })
    | some w =>
      let s1 := s.modPin n (fun p => p.dropWindow e.step)
      let m1 := w.mask1 || s.inTrip n
      let m2 := w.mask2 || s.safeOther
      if w.early then s1.concludeOrder n e.step act m1 m2 (w.nodec || v == .nodec)
      else s1.conclude n e.step act m1 m2 (w.ok && v == .pass) (w.nodec || v == .nodec)

/-! ### The table windows -/

/-- SQ_STATE.STATE of strand `k` (spec/05_sequencer.md R151). -/
def State.sqState (s : State) (k : Nat) : Nat := s.fld (strandA k Reg.SQ_STATE) Fld.SQ_STATE_STATE

/-- The strand is IDLE, HALTED or PARKED: its tables may be written (R123, R159, R177). -/
def State.tablesOpen (s : State) (k : Nat) : Bool := s.sqState k == 0 || s.sqState k == 5 || s.sqState k == 4

/-- What an aliased write stores (spec/02_register_conventions.md R32): data `d` onto the value `old`. -/
def aliasValue (al : Alias) (old d : Word) : Word :=
  match al with
  | .normal => d
  | .set => old ||| d
  | .clear => old &&& ~~~ d
  | .toggle => old ^^^ d

/-- The value WV_DATA shows: bits [63:32] of the pin field at WV_ADDR. -/
def State.wvData (s : State) (k : Nat) : Word :=
  BitVec.ofNat 32 ((s.strand k).tables.waveField
    (s.fld (strandA k Reg.WV_ADDR) Fld.WV_ADDR_INDEX) (s.fld (strandA k Reg.WV_ADDR) Fld.WV_ADDR_PIN))

/-- The address step after a WV_DATA access (WV_ADDR.AINC). -/
def State.wvAdvance (s : State) (k : Nat) : State :=
  let a := strandA k Reg.WV_ADDR
  if s.flag a Fld.WV_ADDR_AINC then
    let p := s.fld a Fld.WV_ADDR_PIN
    if p = 7 then (s.setFld a Fld.WV_ADDR_PIN 0).setFld a Fld.WV_ADDR_INDEX (s.fld a Fld.WV_ADDR_INDEX + 1)
    else s.setFld a Fld.WV_ADDR_PIN (p + 1)
  else s

/-- A write through WV_DATA (R123, R124). -/
def State.wvWrite (s : State) (k : Nat) (al : Alias) (d : Word) : State :=
  let key := s.fld (strandA k Reg.WV_ADDR) Fld.WV_ADDR_INDEX * 8 + s.fld (strandA k Reg.WV_ADDR) Fld.WV_ADDR_PIN
  let s1 :=
    if s.tablesOpen k then
      s.modStrand k (fun st => { st with tables := { st.tables with
        wave := Store.putD st.tables.wave key (aliasValue al (s.wvData k) d).toNat 0 } })
    else s.raise (strandA k Reg.WV_STAT) Fld.WV_STAT_BUSY_REJ
  s1.wvAdvance k

/-- The table key of edge `e` at ED_ADDR. -/
def State.edKey (s : State) (k e : Nat) : Nat :=
  let a := strandA k Reg.ED_ADDR
  edgeKey (s.fld a Fld.ED_ADDR_BANK) (s.fld a Fld.ED_ADDR_PIN) (s.fld a Fld.ED_ADDR_SET) e

/-- The value ED_Ee shows. -/
def State.edData (s : State) (k e : Nat) : Word := BitVec.ofNat 32 (Store.getD (s.strand k).tables.edge (s.edKey k e) 0)

/-- The address step after an access to ED_E5 (ED_ADDR.AINC). -/
def State.edAdvance (s : State) (k e : Nat) : State :=
  let a := strandA k Reg.ED_ADDR
  if e = 5 && s.flag a Fld.ED_ADDR_AINC then
    let t := s.fld a Fld.ED_ADDR_SET
    if t = 255 then (s.setFld a Fld.ED_ADDR_SET 0).setFld a Fld.ED_ADDR_PIN (s.fld a Fld.ED_ADDR_PIN + 1)
    else s.setFld a Fld.ED_ADDR_SET (t + 1)
  else s

/-- A write through ED_Ee (R123, R124): refused when it addresses the bank in force while the strand runs. -/
def State.edWrite (s : State) (k e : Nat) (al : Alias) (d : Word) : State :=
  let inForce := s.fld (strandA k Reg.ED_ADDR) Fld.ED_ADDR_BANK == s.fld (strandA k Reg.ED_CTRL) Fld.ED_CTRL_BANK
  let s1 :=
    if inForce && !s.tablesOpen k then s.raise (strandA k Reg.WV_STAT) Fld.WV_STAT_BUSY_REJ
    else s.modStrand k (fun st => { st with tables := { st.tables with
        edge := Store.putD st.tables.edge (s.edKey k e) ((aliasValue al (s.edData k e) d).toNat % 1048576) 0 } })
  s1.edAdvance k e

end Sys2Proof.Machine
end

