-- ==== Sys2Proof/Machine/Alpg.lean ====
section
/-! DEFINITION. The algorithmic pattern generator (spec/06_alpg.md R160 to R178): address operations, ranges and carries,
scramble, data, the bus of a step, its micro-op, the split copy and the table window. -/

namespace Sys2Proof.Machine

/-! ### Micro-op fields (R164) -/

/-- A micro-op entry as a 96-bit number. -/
def Tables.microOp (t : Tables) (e : Nat) : Nat :=
  Store.getD t.uop (4 * e) 0 + Store.getD t.uop (4 * e + 1) 0 * 2 ^ 32 + Store.getD t.uop (4 * e + 2) 0 * 2 ^ 64

/-- An address operation: OP, SEL and ONCARRY. -/
structure AddrOp where
  op : Nat
  sel : Nat
  onCarry : Bool
  deriving DecidableEq, Repr

def uopX (u : Nat) : AddrOp := ⟨bitsOf u 95 92, bitsOf u 91 90, bitOf u 89⟩
def uopY (u : Nat) : AddrOp := ⟨bitsOf u 83 80, bitsOf u 79 78, bitOf u 77⟩
def uopZ (u : Nat) : AddrOp := ⟨bitsOf u 71 68, bitsOf u 67 66, bitOf u 65⟩
def uopData (u : Nat) : Nat := bitsOf u 63 48
def uopCmd (u : Nat) : Nat := bitsOf u 47 40
def uopXRaw (u : Nat) : Bool := bitOf u 38
def uopYRaw (u : Nat) : Bool := bitOf u 37
def uopZRaw (u : Nat) : Bool := bitOf u 36

/-! ### One generator -/

/-- The result of an address operation: the new value, the carry-out, the value stored by SAVE, and the AG_STAT bits it
sets (R165). -/
structure AddrResult where
  v : Nat
  carry : Bool
  save : Option Nat
  range : Bool
  minmax : Bool
  rsv : Bool
  deriving DecidableEq, Repr

/-- A range step with signed distance `d` (R165), in a range `lo` to `hi` that may be the wrong way round. -/
def rangeStep (width lo hi v : Nat) (d : Int) : AddrResult :=
  let bad := decide (hi < lo)
  let lo' := if bad then 0 else lo
  let hi' := if bad then 2 ^ width - 1 else hi
  if v < lo' ∨ hi' < v then ⟨if 0 ≤ d then lo' else hi', false, none, true, bad, false⟩
  else
    let n : Int := ((hi' - lo' + 1 : Nat) : Int)
    let t : Int := ((v - lo' : Nat) : Int) + d
    ⟨lo' + (t % n).toNat, decide (n ≤ t ∨ t < 0), none, false, bad, false⟩

/-- Whether a value left by LOAD or INV lies outside the range in use (R165). -/
def outside (width lo hi v : Nat) : Bool :=
  let bad := decide (hi < lo)
  let lo' := if bad then 0 else lo
  let hi' := if bad then 2 ^ width - 1 else hi
  decide (v < lo' ∨ hi' < v)

/-- One address operation with its carry-in (R164, R165, R167); `aux` are the auxiliary registers in force. -/
def addrStep (width lo hi : Nat) (aux : Nat → Nat) (o : AddrOp) (carryIn : Bool) (v : Nat) : AddrResult :=
  if o.onCarry && !carryIn then ⟨v, false, none, false, false, false⟩
  else match o.op with
    | 0x0 => ⟨v, false, none, false, false, false⟩
    | 0x1 => rangeStep width lo hi v 1
    | 0x2 => rangeStep width lo hi v (-1)
    | 0x3 => rangeStep width lo hi v (aux o.sel)
    | 0x4 => rangeStep width lo hi v (-(aux o.sel : Int))
    | 0x5 => ⟨aux o.sel, false, none, outside width lo hi (aux o.sel), false, false⟩
    | 0x6 => ⟨v, false, some v, false, false, false⟩
    | 0x7 => ⟨2 ^ width - 1 - v, false, none, outside width lo hi (2 ^ width - 1 - v), false, false⟩
    | _ => ⟨v, false, none, false, false, true⟩

/-! ### Values in force -/

/-- The auxiliary registers of the X, Y and Z generators. -/
def State.auxX (s : State) (k i : Nat) : Nat := (s.sq k (Reg.AG_XA + 4 * i)).toNat
def State.auxY (s : State) (k i : Nat) : Nat := (s.sq k (Reg.AG_YA + 4 * i)).toNat
def State.auxZ (s : State) (k i : Nat) : Nat := (s.sq k (Reg.AG_ZA + 4 * i)).toNat

/-! ### Scramble (R168) -/

/-- The eight index bits of a scramble lookup, from `shift` of a source. -/
def lutIndex (src shift : Nat) : Nat := (src >>> shift) % 256

/-- Permute the bits of `v`, `n` of them, by table entries; an entry at or beyond the width gives 0. -/
def permute (width n : Nat) (entry : Nat → Nat) (v : Nat) : Nat :=
  (List.range n).foldl (fun acc i =>
    acc + (if entry i < width && bitOf v (entry i) then 2 ^ i else 0)) 0

/-- The physical X, Y and Z of logical values in strand `k` (R168). -/
def State.physical (s : State) (k lx ly lz : Nat) : Nat × Nat × Nat :=
  let a := strandA k Reg.AG_CTRL
  if s.flag a Fld.AG_CTRL_SCR_EN then
    let t := (s.strand k).tables
    let kx := lutIndex (if s.flag a Fld.AG_CTRL_XLUT_SRC then ly else lx) (s.fld a Fld.AG_CTRL_XLUT_SHIFT)
    let ky := lutIndex (if s.flag a Fld.AG_CTRL_YLUT_SRC then lx else ly) (s.fld a Fld.AG_CTRL_YLUT_SHIFT)
    (Nat.xor (permute 18 18 (fun i => Store.getD t.xperm i i) lx) (Store.getD t.xlut kx 0),
     Nat.xor (permute 14 14 (fun i => Store.getD t.yperm i i) ly) (Store.getD t.ylut ky 0),
     Store.getD t.ztab lz lz)
  else (lx, ly, lz)

/-! ### Data (R169 to R171) -/

/-- The 18-bit data output of a step. -/
def State.alpgData (s : State) (k dop lx ly lz px py : Nat) (dinv : Bool) : Nat :=
  let ones := 0x3FFFF
  let pick (c : Bool) (v : Nat) : Nat := if c then v else 0
  let chk := xor (parity 18 (Nat.land px (s.sq k Reg.AG_CHK_XM).toNat)) (parity 14 (Nat.land py (s.sq k Reg.AG_CHK_YM).toNat))
  let axSel := bitsOf dop 10 9
  let yz := strandA k (Reg.AG_AYZM + 4 * axSel)
  let ax := xor (parity 18 (Nat.land lx (s.sq k (Reg.AG_AXM + 4 * axSel)).toNat))
    (xor (parity 14 (Nat.land ly (s.fld yz Fld.AG_AYZM_YM))) (parity 6 (Nat.land lz (s.fld yz Fld.AG_AYZM_ZM))))
  let terms := [
    pick (bitOf dop 15) ((s.sq k (Reg.AG_BG + 4 * bitsOf dop 14 13)).toNat),
    pick (bitOf dop 12 && chk) ((s.sq k Reg.AG_CHK_WORD).toNat),
    pick (bitOf dop 11 && ax) ones,
    pick (bitOf dop 8) ones,
    pick dinv ones]
  terms.foldl Nat.xor 0 % 2 ^ 18

/-- The bus of a step of strand `k` with micro-op `u` (R161 stage 2, R163). -/
def State.alpgBus (s : State) (k u : Nat) : Nat :=
  let st := s.strand k
  let (px, py, pz) := s.physical k st.x st.y st.z
  let d := s.alpgData k (uopData u) st.x st.y st.z px py st.dinv
  let xp := if uopXRaw u then st.x else px
  let yp := if uopYRaw u then st.y else py
  let zp := if uopZRaw u then st.z else pz
  xp % 2 ^ 18 + (yp % 2 ^ 14) * 2 ^ 18 + (zp % 2 ^ 6) * 2 ^ 32 + d * 2 ^ 38 + uopCmd u * 2 ^ 56

/-- The XP, YP and ZP fields of a bus (R163). -/
def busX (b : Nat) : Nat := bitsOf b 17 0
def busY (b : Nat) : Nat := bitsOf b 31 18
def busZ (b : Nat) : Nat := bitsOf b 37 32

/-- Store a SAVE into an auxiliary register in force (R165: its shadow is not touched). -/
def State.saveAux (s : State) (k base sel : Nat) (v : Option Nat) : State :=
  match v with
  | some x => s.wr (strandA k (base + 4 * sel)) (BitVec.ofNat 32 x)
  | none => s

/-- The micro-op of a step updates the generator (R161 stage 3, R164 to R167). -/
def State.microStep (s : State) (k u : Nat) : State :=
  let st := s.strand k
  let xr (c : Bool) := addrStep 18 (s.sq k Reg.AG_X_MIN).toNat (s.sq k Reg.AG_X_MAX).toNat (s.auxX k) (uopX u) c st.x
  let ya := strandA k Reg.AG_Y_RANGE
  let yr (c : Bool) := addrStep 14 (s.fld ya Fld.AG_Y_RANGE_MIN) (s.fld ya Fld.AG_Y_RANGE_MAX) (s.auxY k) (uopY u) c st.y
  let za := strandA k Reg.AG_Z_RANGE
  let zr (c : Bool) := addrStep 6 (s.fld za Fld.AG_Z_RANGE_MIN) (s.fld za Fld.AG_Z_RANGE_MAX) (s.auxZ k) (uopZ u) c st.z
  let yFirst := s.flag (strandA k Reg.AG_CTRL) Fld.AG_CTRL_CHAIN
  let x := if yFirst then xr (yr false).carry else xr false
  let y := if yFirst then yr false else yr (xr false).carry
  let z := zr (if yFirst then x.carry else y.carry)
  let d0 := if bitOf (uopData u) 6 then false else st.dinv
  let d1 := xor d0 (bitOf (uopData u) 7)
  let a := strandA k Reg.AG_STAT
  let s1 := (s.raiseIf (x.range || y.range || z.range) a Fld.AG_STAT_RANGE).raiseIf (x.minmax || y.minmax || z.minmax) a Fld.AG_STAT_MINMAX
  let s2 := s1.raiseIf (x.rsv || y.rsv || z.rsv) a Fld.AG_STAT_OP_RSV
  let s3 := ((s2.saveAux k Reg.AG_XA (uopX u).sel x.save).saveAux k Reg.AG_YA (uopY u).sel y.save).saveAux k Reg.AG_ZA (uopZ u).sel z.save
  s3.modStrand k (fun t => { t with x := x.v, y := y.v, z := z.v, dinv := d1 })

/-- Load the generator at a run start (R160). -/
def State.alpgStart (s : State) (k : Nat) : State :=
  s.modStrand k (fun t => { t with
    x := s.fld (strandA k Reg.AG_X_INIT) Fld.AG_X_INIT_X,
    y := s.fld (strandA k Reg.AG_YZ_INIT) Fld.AG_YZ_INIT_Y,
    z := s.fld (strandA k Reg.AG_YZ_INIT) Fld.AG_YZ_INIT_Z, dinv := false })

/-- The value AG_X_VAL shows. -/
def State.agXVal (s : State) (k : Nat) : Word := BitVec.ofNat 32 (s.strand k).x

/-- The value AG_YZ_VAL shows. -/
def State.agYzVal (s : State) (k : Nat) : Word :=
  BitVec.ofNat 32 ((s.strand k).y + (s.strand k).z * 2 ^ 16 + bitN (s.strand k).dinv * 2 ^ 31)

/-- The update-buffered AG_ registers of a strand (R174): their offsets. -/
def agBuffered : List Nat :=
  [Reg.AG_CTRL, Reg.AG_X_INIT, Reg.AG_YZ_INIT, Reg.AG_X_MIN, Reg.AG_X_MAX, Reg.AG_Y_RANGE, Reg.AG_Z_RANGE,
   Reg.AG_CHK_XM, Reg.AG_CHK_YM, Reg.AG_CHK_WORD] ++
  (List.range 4).flatMap (fun i => [Reg.AG_XA + 4 * i, Reg.AG_YA + 4 * i, Reg.AG_ZA + 4 * i, Reg.AG_BG + 4 * i,
    Reg.AG_AXM + 4 * i, Reg.AG_AYZM + 4 * i])

/-- A follower that splits takes the leader's generator state and AG_ values in force (R174); tables and shadows stay. -/
def State.alpgCopy (s : State) (leader k : Nat) : State :=
  let l := s.strand leader
  let s1 := s.each agBuffered (fun s o => s.wr (strandA k o) (s.sq leader o))
  s1.modStrand k (fun t => { t with x := l.x, y := l.y, z := l.z, dinv := l.dinv })

/-! ### The table window (R177, R178) -/

/-- An ALPG table by its TABLE code: its size and entry width; micro-op words have index 4e + w. -/
def agTable : Nat → Option (Nat × Nat)
  | 0 => some (1024, 32)
  | 1 => some (18, 5)
  | 2 => some (256, 18)
  | 3 => some (14, 4)
  | 4 => some (256, 14)
  | 5 => some (64, 6)
  | _ => none

/-- An entry of a table. -/
def Tables.agEntry (t : Tables) (tab i : Nat) : Nat :=
  match tab with
  | 0 => if i % 4 = 3 then 0 else Store.getD t.uop i 0
  | 1 => Store.getD t.xperm i i
  | 2 => Store.getD t.xlut i 0
  | 3 => Store.getD t.yperm i i
  | 4 => Store.getD t.ylut i 0
  | 5 => Store.getD t.ztab i i
  | _ => 0

/-- Put an entry into a table; micro-op word 3 is ignored. -/
def Tables.agPut (t : Tables) (tab i v : Nat) : Tables :=
  match tab with
  | 0 => if i % 4 = 3 then t else { t with uop := Store.putD t.uop i v 0 }
  | 1 => { t with xperm := Store.putD t.xperm i v i }
  | 2 => { t with xlut := Store.putD t.xlut i v 0 }
  | 3 => { t with yperm := Store.putD t.yperm i v i }
  | 4 => { t with ylut := Store.putD t.ylut i v 0 }
  | 5 => { t with ztab := Store.putD t.ztab i v i }
  | _ => t

/-- The value AG_TAB_DATA shows. -/
def State.agTabData (s : State) (k : Nat) : Word :=
  let a := strandA k Reg.AG_TAB_ADDR
  let i := s.fld a Fld.AG_TAB_ADDR_INDEX
  match agTable (s.fld a Fld.AG_TAB_ADDR_TABLE) with
  | some (size, _) => if i < size then BitVec.ofNat 32 ((s.strand k).tables.agEntry (s.fld a Fld.AG_TAB_ADDR_TABLE) i) else 0
  | none => 0

/-- The address step after an AG_TAB_DATA access. -/
def State.agAdvance (s : State) (k : Nat) : State :=
  let a := strandA k Reg.AG_TAB_ADDR
  if s.flag a Fld.AG_TAB_ADDR_AINC then s.setFld a Fld.AG_TAB_ADDR_INDEX (s.fld a Fld.AG_TAB_ADDR_INDEX + 1) else s

/-- A write through AG_TAB_DATA. -/
def State.agTabWrite (s : State) (k : Nat) (al : Alias) (d : Word) : State :=
  let a := strandA k Reg.AG_TAB_ADDR
  let i := s.fld a Fld.AG_TAB_ADDR_INDEX
  let tab := s.fld a Fld.AG_TAB_ADDR_TABLE
  let rej := s.raise (strandA k Reg.AG_STAT) Fld.AG_STAT_TAB_REJ
  let s1 :=
    if !s.tablesOpen k then rej
    else match agTable tab with
      | some (size, width) =>
        if i < size then
          s.modStrand k (fun st => { st with tables := st.tables.agPut tab i ((aliasValue al (s.agTabData k) d).toNat % 2 ^ width) })
        else rej
      | none => rej
  s1.agAdvance k

end Sys2Proof.Machine
end

