-- ==== Sys2Proof/Machine/RingPort.lean ====
section
/-! DEFINITION. Transmission on the ring ports (spec/15_ring_and_system.md R383, R384, R388 to R390): classes, cells, credit,
priority, guard, and Adeo frames the device originates (R385). -/

namespace Sys2Proof.Machine

/-- Port 0 is East, port 1 West. -/
def State.port (s : State) (p : Nat) : RingPort := if p = 0 then s.ring.east else s.ring.west

/-- Change what port `p` holds. -/
def State.modPort (s : State) (p : Nat) (f : RingPort → RingPort) : State :=
  if p = 0 then { s with ring := { s.ring with east := f s.ring.east } }
  else { s with ring := { s.ring with west := f s.ring.west } }

/-- The port opposite to `p`. -/
def otherPort (p : Nat) : Nat := 1 - p

/-- The address of RG_LINKp and RG_LINKp_ERR; the ports are 0 and 1. -/
def linkA (p : Nat) : Nat := Reg.RG_LINK + 0x10 * (p % 2)
def linkErrA (p : Nat) : Nat := Reg.RG_LINK_ERR + 0x10 * (p % 2)

/-- RG_LINKp.STATE: 0 down, 1 training, 2 initialising, 3 up. -/
def State.linkState (s : State) (p : Nat) : Nat := s.fld (linkA p) Fld.RG_LINK_STATE

/-- RELAY_HOLD is high: the device is on the ring (R402). -/
def State.onRing (s : State) : Bool := s.flag Reg.RG_STATE Fld.RG_STATE_HOLD

/-- The address of counter `i` of port `p` and class `t` (R390): 0 C_LINK, 1 AVAIL, 2 SENT, 3 RET_RX, 4 RX, 5 RET_TX, 6 HELD. -/
def crA (p t i : Nat) : Nat := Reg.RG_CR_CLINK + 0x20 * ((3 * p + t - 1) % 6) + 4 * i

/-- A credit counter. -/
def State.cr (s : State) (p t i : Nat) : Nat := (s.rd (crA p t i)).toNat

/-- Add to a credit counter, modulo 2^32. -/
def State.addCr (s : State) (p t i : Nat) (n : Int) : State :=
  s.wr (crA p t i) (BitVec.ofNat 32 (unsigned 32 ((s.cr p t i : Int) + n)))

/-- Cells of a frame (R388). -/
def frameCells (len : Nat) : Nat := ceilDiv len 64

/-- C_LINK of a class (R388). -/
def classCells : Nat → Nat
  | 1 => 256
  | 2 => 256
  | _ => 1536

/-- Cells of port `p`'s receive side, class `t`, that have left the buffer and are not yet returned. -/
def State.pendingCells (s : State) (p t : Nat) : Nat :=
  unsigned 32 ((s.cr p t 4 : Int) - (s.cr p t 5 : Int) - (s.cr p t 6 : Int))

/-- This device's address (R380). -/
def State.devAddr (s : State) : Nat := 64 * s.fld Reg.RG_ADDR Fld.RG_ADDR_RING + s.fld Reg.RG_ADDR Fld.RG_ADDR_POS

/-- Transmit a TC0 frame on port `p`: it needs a link that carries frames and RELAY_HOLD (R402). -/
def State.sendTc0 (s : State) (p : Nat) (f : TxFrame) : State :=
  if s.onRing && !s.forced.grave && decide (2 ≤ s.linkState p) then s.send (.frame p f) else s

/-- The next SEQ of an Adeo TYPE (R385). -/
def State.nextSeq (s : State) (type : Nat) : Nat × State :=
  let q := Store.getD s.ring.seqs type 0
  (q, { s with ring := { s.ring with
    seqs := Store.putD s.ring.seqs type ((q + 1) % 4294967296) 0,
    sent := ((type, q) :: s.ring.sent).take 160 } })

/-- Originate an Adeo frame on one port. -/
def State.originate (s : State) (p type seq flags dst : Nat) (body : List Byte) : State :=
  s.sendTc0 p (.adeo type { ver := 1, flags := flags + 2 * p, hops := 64, src := s.devAddr, dst := dst, seq := seq,
                            ring := s.fld Reg.RG_ADDR Fld.RG_ADDR_RING, body := padTo 32 0 body })

/-- Originate one Adeo frame on both ports, with one SEQ, to all. -/
def State.originateBoth (s : State) (type : Nat) (body : List Byte) : State :=
  let (q, s1) := s.nextSeq type
  (s1.originate 0 type q 0 0xFFFF body).originate 1 type q 0 0xFFFF body

/-- Originate a frame for the neighbour on port `p` (FLAGS.LOCAL). -/
def State.originateLocal (s : State) (p type : Nat) (body : List Byte) : State :=
  let (q, s1) := s.nextSeq type
  s1.originate p type q 1 0xFFFF body

/-- Send a CREDIT frame on port `p` now: everything pending is returned (R390). -/
def State.sendCredit (s : State) (p : Nat) : State :=
  let ret (t : Nat) := unsigned 32 ((s.cr p t 4 : Int) - (s.cr p t 6 : Int))
  let s1 := s.each [1, 2, 3] (fun s t => s.wr (crA p t 5) (BitVec.ofNat 32 (ret t)))
  (s1.modPort p (fun q => { q with pendSince := none })).originateLocal p 6
    (leBytes 4 (ret 1) ++ leBytes 4 (ret 2) ++ leBytes 4 (ret 3))

/-- Cells of port `p`'s receive side have left the buffer (R390): a CREDIT frame when 32 are pending, else the 2 µs run. -/
def State.returnCells (s : State) (p : Nat) : State :=
  let n := s.pendingCells p 1 + s.pendingCells p 2 + s.pendingCells p 3
  if n = 0 then s
  else
    let s1 := if (s.port p).pendSince.isNone then s.modPort p (fun q => { q with pendSince := some s.now }) else s
    if 32 ≤ n && s1.ring.guard.isNone && s1.linkState p == 3 then s1.sendCredit p else s1

/-- Whether port `p` may start a credited frame of class `t` and `n` cells (R384, R391). -/
def State.mayStart (s : State) (p t n : Nat) : Bool :=
  s.onRing && !s.forced.grave && s.linkState p == 3 && s.ring.guard.isNone && decide (n ≤ s.cr p t 1)

/-- Start a credited frame on port `p` (R390). -/
def State.startFrame (s : State) (p : Nat) (q : Queued) : State :=
  ((s.addCr p q.cls 2 q.cells).addCr p q.cls 1 (-(q.cells : Int))).send (.frame p q.frame)

/-- A PFC pause holds host-transport frames of a tag priority on port `p` (spec/14_host_transport.md R352). -/
def State.paused (s : State) (p : Nat) (f : TxFrame) : Bool :=
  match f with
  | .roce _ _ tag _ _ => s.flag Reg.HT_PFC Fld.HT_PFC_EN && tag == some (s.fld Reg.HT_PFC Fld.HT_PFC_PRIO) &&
      s.host.pauses.any (fun e => e.1 == 8 * p + s.fld Reg.HT_PFC Fld.HT_PFC_PRIO)
  | _ => false

/-- The next frame of class `t` that port `p` may start: transit first, then own frames not paused (R383, R384). -/
def State.pick (s : State) (p t : Nat) : Option (Bool × Queued) :=
  match (s.port p).transit.find? (fun q => q.cls == t) with
  | some q => if s.mayStart p t q.cells then some (true, q) else none
  | none =>
    match (s.port p).own.find? (fun q => q.cls == t && !s.paused p q.frame) with
    | some q => if s.mayStart p t q.cells then some (false, q) else none
    | none => none

/-- Start frames on port `p` while it may, in class order, at most `n` of them. -/
def State.pump : Nat → State → Nat → State
  | 0, s, _ => s
  | n + 1, s, p =>
    match (s.pick p 1).or ((s.pick p 2).or (s.pick p 3)) with
    | none => s
    | some (true, q) =>
      let s1 := (s.startFrame p q).modPort p (fun r => { r with transit := r.transit.erase q })
      State.pump n ((s1.addCr (otherPort p) q.cls 6 (-(q.cells : Int))).returnCells (otherPort p)) p
    | some (false, q) =>
      State.pump n ((s.startFrame p q).modPort p (fun r => { r with own := r.own.erase q })) p

/-- Start what port `p` may start. -/
def State.drain (s : State) (p : Nat) : State :=
  State.pump ((s.port p).transit.length + (s.port p).own.length) s p

/-- Queue a frame the device originates, in its class, and start what may start; on a link that is down it is dropped and
counted (R398). -/
def State.sendOwn (s : State) (p cls len : Nat) (f : TxFrame) : State :=
  if s.linkState p == 0 then s.satAdd (linkErrA p) Fld.RG_LINK_ERR_DOWN_DROP 1
  else (s.modPort p (fun r => { r with own := r.own ++ [⟨cls, frameCells len, f⟩] })).drain p

/-- The class of a tagged or untagged frame (R383). -/
def State.classOf (s : State) (tag : Option Nat) : Nat :=
  let c := match tag with
    | some k => s.fld Reg.RG_TC_MAP ⟨2 * k, 2⟩
    | none => s.fld Reg.RG_TC_MAP Fld.RG_TC_MAP_UNTAGGED
  if c = 0 then 3 else c

/-- The port of host traffic of a QP with PORT `pref` (R351, R399): away from a break, and from a link that is down. -/
def State.hostPort (s : State) (pref : Nat) : Nat :=
  let away := match s.fld Reg.RG_STATE Fld.RG_STATE_BREAK with
    | 1 => 1
    | 2 => 0
    | _ => pref
  if s.linkState away == 3 || s.linkState (otherPort away) != 3 then away else otherPort away

end Sys2Proof.Machine
end

