-- ==== Sys2Proof/Machine/TideCore.lean ====
section
/-! DEFINITION. Tideline's shared operations (spec/16_tideline.md R407 to R414): sources, settlements, schedules held; and what the
application of a device-level register brings about. -/

namespace Sys2Proof.Machine

/-- Any strand is in active test (spec/07_pattern_memory.md R204). -/
def State.activeTest (s : State) : Bool :=
  allStrands.any (fun k => let st := s.fld (strandA k Reg.SQ_STATE) Fld.SQ_STATE_STATE; st == 1 || st == 2 || st == 3 || st == 4)

/-! ### Settlements (R414) -/

/-- The ring is whole as far as this device knows. -/
def State.ringWhole (s : State) : Bool := s.ring.breaks.isEmpty && s.linkState 0 == 3 && s.linkState 1 == 3

/-- A settlement under way fails (spec/16_tideline.md R414). -/
def State.failSettle (s : State) : State :=
  if s.tide.settling.isSome || !s.tide.settleE.isEmpty || !s.tide.settleW.isEmpty then
    ({ s with tide := { s.tide with settling := none, settleE := [], settleW := [] } }).raise Reg.TL_STAT Fld.TL_STAT_SETTLE_FAIL
  else s

/-- The master sends SETTLE marks for a second (R414). -/
def State.startSettle (s : State) : State :=
  { s with tide := { s.tide with settling := some (s.now + 1000000 * usU), owesSettle := false, settleE := [], settleW := [] } }

/-- A master starts the settlement it owes once its ring is whole. -/
def State.settleIfWhole (s : State) : State :=
  if s.ringWhole && s.flag Reg.TL_CTRL Fld.TL_CTRL_MASTER then s.startSettle else s

/-- A master starts the settlement it owes since it became master. -/
def State.settleOwed (s : State) : State := if s.tide.owesSettle then s.settleIfWhole else s

/-! ### Sources and states (R407 to R409) -/

/-- TL_STATE.STATE and SOURCE. -/
def State.tlState (s : State) : Nat := s.fld Reg.TL_STATE Fld.TL_STATE_STATE
def State.tlSource (s : State) : Nat := s.fld Reg.TL_STATE Fld.TL_STATE_SOURCE

/-- Put STATE and SOURCE. -/
def State.setTl (s : State) (st src : Nat) : State :=
  (s.setFld Reg.TL_STATE Fld.TL_STATE_STATE st).setFld Reg.TL_STATE Fld.TL_STATE_SOURCE src

/-- The source R408 chooses: 2 external, 1 ring, 0 none. -/
def State.bestSource (s : State) : Nat :=
  if s.flag Reg.TL_CTRL Fld.TL_CTRL_EXT_EN && s.tide.ref && s.tide.pps then 2 else if s.tide.ring then 1 else 0

/-- Tideline enters HOLDOVER. The servo term is frozen at a mean the spec does not give a number for, or at zero when, in ACQUIRE, a
source has been followed for less than a second (R409). -/
def State.holdover (s : State) : State :=
  let (f, s0) := s.free
  let zero := s.tlState == 1 && decide (s.now < s.tide.followed + 1000000 * usU)
  (({ s0 with tide := { s0.tide with holdFrom := s0.now, within := none } }).setTl 3 0).wr Reg.TL_FREQ (if zero then 0 else BitVec.ofNat 32 f)

/-- Take the source that R408 chooses (R407, R409). -/
def State.chooseSource (s : State) : State :=
  let b := s.bestSource
  if b = s.tlSource then s
  else if b = 0 then
    if s.tlState = 2 ∨ (s.tlState = 1 ∧ s.tide.timeSet) then s.holdover
    else ({ s with tide := { s.tide with within := none } }).setTl 0 0
  else
    let set := if s.tlState = 0 then false else if s.tlState = 1 then s.tide.timeSet else true
    ({ s with tide := { s.tide with timeSet := set, firstDone := false, followed := s.now, within := none } }).setTl 1 b

/-- A schedule is held (R410). -/
def State.scheduleHeld (s : State) : Bool :=
  s.flag Reg.DEV_UPD_CTRL Fld.DEV_UPD_CTRL_ARM || s.strands.any (fun e => e.2.launch.isSome) ||
  allStrands.any (fun k => s.flag (strandA k Reg.SQ_STATE) Fld.SQ_STATE_SLACK_VALID) || s.activeTest

/-! ### Events (spec/14_host_transport.md R375) and ALERT_N (spec/18_faults_and_thermal.md R452) -/

/-- The event ring loses its QP or its enable: every event held is dropped and counted (R375). -/
def State.dropEvents (s : State) : State :=
  let n := s.evt.held.length
  if n = 0 then s
  else
    ({ s with evt := { s.evt with held := [], dropped := s.evt.dropped + n } }.wr Reg.HT_EVT_LOST
      (BitVec.ofNat 32 (min 4294967295 ((s.rd Reg.HT_EVT_LOST).toNat + n)))).raise Reg.HT_STAT Fld.HT_STAT_EVT_LOST

/-- ALERT_N follows the classes of the open records. -/
def State.showAlert (s : State) : State :=
  let low := s.faults.recs.any (fun e => decide (s.fld Reg.FC_ALERT_CFG Fld.FC_ALERT_CFG_LEVEL ≤ e.2.cls))
  if low == s.faults.alert then s else ({ s with faults := { s.faults with alert := low } }).send (.alert low)

/-- What the application at a device-level address brings about; `old` is the state before. -/
def State.deviceApplied (s old : State) (a : Nat) : State :=
  if a = Reg.TL_CTRL then
    let s1 := s.chooseSource
    if s1.flag Reg.TL_CTRL Fld.TL_CTRL_MASTER then
      (if old.flag Reg.TL_CTRL Fld.TL_CTRL_MASTER then s1
       else ({ s1 with tide := { s1.tide with owesSettle := true } }).settleOwed)
    else { s1 with tide := { s1.tide with owesSettle := false, settling := none } }
  else if a = Reg.HT_EVT_CFG then (if s.evtOpen then s else s.dropEvents)
  else if a = Reg.FC_ALERT_CFG then s.showAlert
  else s

end Sys2Proof.Machine
end

