-- ==== Sys2Proof/Machine/Source.lean ====
section
/-! DEFINITION. Source-measure units, converters and the sine stimulus (spec/11_source_measure.md R286 to R312): codes and
their clipping, the PMU's sequences, conversions with notch and correction, the sine generator and its table, with the
meanings of the PMU_, CONVERSION_END and SINE_SAMPLE rows. -/

namespace Sys2Proof.Machine

/-! ### State of a PMU and a converter -/

/-- What the PMU of pin `n` holds. -/
def State.pmu (s : State) (n : Nat) : Pmu := Store.getD s.pmus n {}

/-- Replace it. -/
def State.setPmu (s : State) (n : Nat) (v : Pmu) : State := { s with pmus := Store.putD s.pmus n v {} }

/-- Change it. -/
def State.modPmu (s : State) (n : Nat) (f : Pmu → Pmu) : State := s.setPmu n (f (s.pmu n))

/-- What the converter of pin `n` holds. -/
def State.conv (s : State) (n : Nat) : Conv := Store.getD s.convs n {}

/-- Replace it. -/
def State.setConv (s : State) (n : Nat) (v : Conv) : State := { s with convs := Store.putD s.convs n v {} }

/-- Change it. -/
def State.modConv (s : State) (n : Nat) (f : Conv → Conv) : State := s.setConv n (f (s.conv n))

/-- The PMU state code of PM_STATE (R286): the forced states first (R100). -/
def State.pmuState (s : State) (n : Nat) : Nat :=
  match s.ball n with
  | .highZ => 7
  | .safe => 6
  | _ => (s.pmu n).state

/-- Something disturbs the conversion in progress at pin `n` (R302). -/
def State.disturb (s : State) (n : Nat) : State :=
  if (s.conv n).running then s.modConv n (fun c => { c with disturbed := true }) else s

/-! ### Codes and clipping (R288, R289) -/

/-- PM_CTRL.MODE as applied: the reserved code is OFF. -/
def State.pmMode (s : State) (n : Nat) : Nat :=
  let m := s.fld (pinA n Reg.PM_CTRL) Fld.PM_CTRL_MODE
  if m = 3 then 0 else m

/-- PM_CTRL.CONN. -/
def State.pmConn (s : State) (n : Nat) : Bool := s.flag (pinA n Reg.PM_CTRL) Fld.PM_CTRL_CONN

/-- PM_CTRL.RANGE as applied: reserved codes as 0, then at most MAXRANGE. -/
def State.pmRange (s : State) (n : Nat) : Nat :=
  let r := s.fld (pinA n Reg.PM_CTRL) Fld.PM_CTRL_RANGE
  min (if 4 < r then 0 else r) (s.fld (pinA n Reg.PM_LIM_I) Fld.PM_LIM_I_MAXRANGE)

/-- A clamp or FV force code as applied. -/
def State.clipVoltage (s : State) (n code : Nat) : Nat :=
  clipTo 0x1120 0xFB80 (clipTo (s.fld (pinA n Reg.PM_LIM_V) Fld.PM_LIM_V_LO) (s.fld (pinA n Reg.PM_LIM_V) Fld.PM_LIM_V_HI) code)

/-- A force code as applied in the mode in force. -/
def State.clipForce (s : State) (n code : Nat) : Nat :=
  if s.pmMode n = 2 then
    let imax := min 16384 (s.fld (pinA n Reg.PM_LIM_I) Fld.PM_LIM_I_IMAX)
    clipTo 0x0000 0x8000 (clipTo (0x4000 - imax) (0x4000 + imax) code)
  else s.clipVoltage n code

/-- The force code in force, before clipping. -/
def State.forceCode (s : State) (n : Nat) : Nat := s.fld (pinA n Reg.PM_FORCE) Fld.PM_FORCE_CODE

/-- The clamp codes as applied, high and low: swapped when the high lies below the low (R289). -/
def State.clamps (s : State) (n : Nat) : Nat × Nat :=
  let h := s.clipVoltage n (s.fld (pinA n Reg.PM_CLAMP_HI) Fld.PM_CLAMP_HI_CODE)
  let l := s.clipVoltage n (s.fld (pinA n Reg.PM_CLAMP_LO) Fld.PM_CLAMP_LO_CODE)
  if h < l then (l, h) else (h, l)

/-- Note a clipped force code (R288). -/
def State.noteForceClip (s : State) (n : Nat) : State :=
  s.raiseIf (s.clipForce n (s.forceCode n) != s.forceCode n) (pinA n Reg.PM_STAT) Fld.PM_STAT_LIM_CLIP

/-- Note a clipped range and reserved codes (R288, PM_CTRL.MODE). -/
def State.noteRange (s : State) (n : Nat) : State :=
  let r := s.fld (pinA n Reg.PM_CTRL) Fld.PM_CTRL_RANGE
  let r0 := if 4 < r then 0 else r
  let s1 := s.raiseIf (decide (s.fld (pinA n Reg.PM_LIM_I) Fld.PM_LIM_I_MAXRANGE < r0)) (pinA n Reg.PM_STAT) Fld.PM_STAT_LIM_CLIP
  s1.raiseIf (decide (4 < r) || s.fld (pinA n Reg.PM_CTRL) Fld.PM_CTRL_MODE == 3) (pinA n Reg.PM_STAT) Fld.PM_STAT_RSV

/-- Note clipped and swapped clamps (R288, R289). -/
def State.noteClamps (s : State) (n : Nat) : State :=
  let h := s.fld (pinA n Reg.PM_CLAMP_HI) Fld.PM_CLAMP_HI_CODE
  let l := s.fld (pinA n Reg.PM_CLAMP_LO) Fld.PM_CLAMP_LO_CODE
  let s1 := s.raiseIf (s.clipVoltage n h != h || s.clipVoltage n l != l) (pinA n Reg.PM_STAT) Fld.PM_STAT_LIM_CLIP
  s1.raiseIf (decide (s.clipVoltage n h < s.clipVoltage n l)) (pinA n Reg.PM_STAT) Fld.PM_STAT_CLAMP_INV

/-! ### Sequences (R291 to R296) -/

/-- The pin's PMU is connected: amplifier on and switch closed. -/
def Pmu.connected (p : Pmu) : Bool := p.amp && p.closed

/-- Take PM_CTRL in force at pin `n` now, starting the sequence it needs (R291 to R294). In a forced state and in a sleeping
cove only registers and codes change (R295, R296). (DEDUCED, log 23) -/
def State.pmuTake (s : State) (n : Nat) : State :=
  let p := s.pmu n
  let mode := s.pmMode n
  let conn := s.pmConn n
  let range := s.pmRange n
  if s.ball n == .highZ || s.ball n == .safe || !s.coveAwake (coveOf (n / 8)) then s
  else if p.seq != .none then s.setPmu n { p with again := true }
  else if mode = 0 then
    if p.amp then s.setPmu n { p with closed := false, seq := .off s.now }
    else s.setPmu n { p with closed := conn, state := if conn then 1 else 0, range := range }
  else if conn then
    if p.connected then
      if p.range != range then s.setPmu n { p with state := 5, seq := .rangeLimit s.now range }
      else s.setPmu n { p with state := mode + 1 }
    else s.setPmu n { p with amp := true, closed := false, state := 4, range := range, seq := .connect s.now }
  else s.setPmu n { p with amp := true, closed := false, state := mode + 1, range := range }

/-- A sequence of pin `n` has ended: an application that waited starts its own (R291). -/
def State.pmuEnd (s : State) (n : Nat) : State :=
  let p := s.pmu n
  let s1 := s.setPmu n { p with seq := .none, again := false }
  if p.again then s1.pmuTake n else s1

/-- The PMU of pin `n` goes OFF with no sequence: cove sleep, reset (R286, R296). -/
def State.pmuOff (s : State) (n : Nat) : State := s.modPmu n (fun p => { sg := p.sg })

/-- The pins whose PM_CTRL is not at its reset value. -/
def State.pmPins (s : State) : List Nat :=
  s.regs.filterMap (fun e => match blockOf e.1 with
    | .pin n => if e.1 = pinA n Reg.PM_CTRL then some n else none
    | _ => none)

/-- The pins whose PMU, converter, events or windows are not at rest. -/
def State.activePins (s : State) : List Nat :=
  (s.pins.map (·.1) ++ s.pmus.map (·.1) ++ s.convs.map (·.1) ++ s.pmPins).eraseDups

/-- Pins `ps` enter a forced state (R99): their PMU sequences end, their conversions are disturbed (R302) and their open
windows are masked (R95). -/
def State.enterForced (s : State) (ps : List Nat) : State :=
  s.each ps (fun s n =>
    let s1 := if Store.get? s.pmus n == none then s else s.pmuOff n
    (s1.disturb n).noteWindows n)

/-- A cause that takes every pin begins (R99); its engagement check is due after `delay` (R96). (DEDUCED, log 37) -/
def State.forcePins (s : State) (f : Forced → Forced) (delay : Nat) : State :=
  let s1 := { s with forced := { f s.forced with checkAt := some (s.now + delay) } }
  s1.enterForced s1.activePins

/-- Pins `ps` may have left a forced state: those that have take their PM_ values by a connect (R295). -/
def State.leaveForced (s : State) (ps : List Nat) : State :=
  s.each ps (fun s n =>
    if s.ball n == .highZ || s.ball n == .safe then s
    else
      let s1 := if s.pmConn n || s.pmMode n != 0 then s.pmuTake n else s
      (s1.disturb n).noteWindows n)

/-- A cause that took every pin ends (R99). -/
def State.freePins (s : State) (f : Forced → Forced) : State :=
  let s1 := { s with forced := f s.forced }
  s1.leaveForced s1.activePins

/-- PMU_CONNECT_CLOSE: five microseconds into a connect the switch closes and the state becomes FV or FI (R292). -/
def execPmuConnectClose (n : Fin 1536) (s : State) : Host.Outcome State Fault Refusal :=
  match (s.pmu n).seq with
  | .connect since =>
    let s1 := s.advanceTo (since + 5 * usU)
    .next ((s1.modPmu n (fun p => { p with closed := true, state := s.pmMode n + 1 })).pmuEnd n)
  | _ => .next s

/-- PMU_DISCONNECT_OFF: one microsecond into a disconnect with MODE = OFF the amplifier is disabled (R292); with CONN = 1
the switch then closes and the state is MEASURE (R286). -/
def execPmuDisconnectOff (n : Fin 1536) (s : State) : Host.Outcome State Fault Refusal :=
  match (s.pmu n).seq with
  | .off since =>
    let s1 := s.advanceTo (since + usU)
    let conn := s.pmConn n && s.pmMode n == 0
    .next ((s1.modPmu n (fun p => { p with
      amp := false, closed := conn, state := if conn then 1 else 0, range := s.pmRange n })).pmuEnd n)
  | _ => .next s

/-- PMU_RANGE_LIMIT_MOVE: one microsecond into a range change the current limit moves to the new range; `over` says that the
load current exceeds 1.1 of its full scale: the output goes into current limit, and RANGE_OVR and ILIM set (R289, R293). -/
def execPmuRangeLimitMove (n : Fin 1536) (outside : Bool) (s : State) : Host.Outcome State Fault Refusal :=
  match (s.pmu n).seq with
  | .rangeLimit since r =>
    let s1 := (s.advanceTo (since + usU)).raiseIf outside (pinA n Reg.PM_STAT) Fld.PM_STAT_RANGE_OVR
    let s2 := s1.raiseIf outside (pinA n Reg.PM_STAT) Fld.PM_STAT_ILIM
    .next (s2.modPmu n (fun p => { p with seq := .rangeOpen since r }))
  | _ => .next s

/-- PMU_RANGE_OLD_OPEN: two microseconds into a range change the old sense path opens: the new range is in effect (R293). -/
def execPmuRangeOldOpen (n : Fin 1536) (s : State) : Host.Outcome State Fault Refusal :=
  match (s.pmu n).seq with
  | .rangeOpen since r =>
    .next ((s.advanceTo (since + 2 * usU)).modPmu n (fun p => { p with range := r, seq := .rangeEnd since r }))
  | _ => .next s

/-- PMU_RANGE_DONE: a range change completes (R293, R294). -/
def execPmuRangeDone (n : Fin 1536) (s : State) : Host.Outcome State Fault Refusal :=
  match (s.pmu n).seq with
  | .rangeEnd _ _ => .next ((s.modPmu n (fun p => { p with state := s.pmMode n + 1 })).pmuEnd n)
  | _ => .next s

/-! ### Applications (R49, R291, R297, R310) -/

/-- The FV current limit, or a voltage clamp, may act at pin `n` now (R289): the limit in FV, the clamps in FI and in CLAMPED. -/
def State.mayLimit (s : State) (n : Nat) : Bool :=
  let p := s.pmuState n
  p == 2 || ((p == 4 || p == 5) && s.pmMode n == 1)
def State.mayClamp (s : State) (n : Nat) : Bool :=
  let p := s.pmuState n
  p == 3 || p == 6 || ((p == 4 || p == 5) && s.pmMode n == 2)

/-- The value PM_STATE shows, but for ILIM and VCLAMP, which follow the load. -/
def State.pmStateWord (s : State) (n : Nat) : Word :=
  BitVec.ofNat 32 (s.pmuState n + (s.pmu n).range * 16 + bitN (s.pmu n).sg * 1024)

/-- PM_CTRL has been applied at pin `n`; `old` is its value before. -/
def State.appliedPmCtrl (s : State) (n : Nat) (old : Word) : State :=
  let s1 := (s.noteRange n).noteForceClip n
  let s2 := if s.rd (pinA n Reg.PM_CTRL) != old then s1.disturb n else s1
  s2.pmuTake n

/-- The force code in force at pin `n` was put anew; `old` is its value before. -/
def State.appliedForce (s : State) (n : Nat) (old : Word) : State :=
  let s1 := s.noteForceClip n
  let s2 := s1.raiseIf (s.pmu n).sg (pinA n Reg.PM_STAT) Fld.PM_STAT_SG_OVR
  if s.rd (pinA n Reg.PM_FORCE) != old then s2.disturb n else s2

/-- A write to PM_FORCE_DIRECT (R297): the force code in force and the shadow of PM_FORCE at once. -/
def State.forceDirect (s : State) (n : Nat) (d : Word) : State :=
  let a := pinA n Reg.PM_FORCE
  let v : Word := BitVec.ofNat 32 (d.toNat % 65536)
  let old := s.rd a
  let s1 := s.wr a v
  let s2 := if Store.get? s1.shadows a == none then s1 else { s1 with shadows := Store.put s1.shadows a v }
  s2.appliedForce n old

/-! ### The converter -/

/-- Units of the device clock in one modulator cycle of 1/10.24 MHz. -/
def modU : Nat := 60000

/-- The decimation as applied (R298). -/
def State.adDec (s : State) (n : Nat) : Nat := clipTo 16 65536 (s.fld (pinA n Reg.AD_CFG) Fld.AD_CFG_DEC)

/-- The modulator cycles of a conversion, K times D (R298). -/
def State.adCycles (s : State) (n : Nat) : Nat := (s.fld (pinA n Reg.AD_CFG) Fld.AD_CFG_ORDER + 1) * s.adDec n

/-- The notch span P in modulator cycles, when the notch is on (R303). -/
def State.adNotch (s : State) (n : Nat) : Option Nat :=
  match s.fld (pinA n Reg.AD_CFG) Fld.AD_CFG_NOTCH with
  | 1 => some 204800
  | 2 => some 170667
  | 3 => some (max 1024 (s.fld (pinA n Reg.AD_NOTCH) Fld.AD_NOTCH_PERIOD))
  | _ => none

/-- Restart the converter of pin `n` (R299): the conversion in progress is abandoned, the notch window empties and SEQ
restarts; the next conversion starts at the next modulator clock edge. A converter not enabled or in a sleeping cove stops. -/
def State.restartConv (s : State) (n : Nat) : State :=
  if s.flag (pinA n Reg.AD_CFG) Fld.AD_CFG_EN && s.coveAwake (coveOf (n / 8)) then
    let s1 := s.setConv n { running := true, start := ceilDiv s.now modU * modU, cycles := s.adCycles n }
    match s.adNotch n with
    | some p => s1.raiseIf (decide (p ≤ s.adCycles n)) (pinA n Reg.AD_STAT) Fld.AD_STAT_NOTCH_SHORT
    | none => s1
  else s.setConv n {}

/-- AD_CFG or AD_NOTCH has been applied at pin `n` (R298, R299). -/
def State.appliedAd (s : State) (n : Nat) : State :=
  let d := s.fld (pinA n Reg.AD_CFG) Fld.AD_CFG_DEC
  (s.raiseIf (s.adDec n != d) (pinA n Reg.AD_STAT) Fld.AD_STAT_CFG_CLIP).restartConv n

/-- The converter of pin `n` stops at cove sleep (R299). -/
def State.stopConv (s : State) (n : Nat) : State :=
  if (s.conv n).running then (s.setConv n {}).raise (pinA n Reg.AD_STAT) Fld.AD_STAT_STOPPED else s

/-- The input of the converter: AD_CFG.SRC as applied (R300, R306): reserved codes, and TDAC without an enabled test DAC,
read as ZERO. -/
def State.adSrc (s : State) (n : Nat) : Nat :=
  let c := s.fld (pinA n Reg.AD_CFG) Fld.AD_CFG_SRC
  if 5 ≤ c then 5
  else if c = 2 && !s.flag (strandA (n / 8) Reg.SG_TDAC) Fld.SG_TDAC_EN then 5
  else c

/-- The calibration pair of a source: OFS, signed, and GAIN (R300, R301). -/
def State.adPair (s : State) (n : Nat) : Option (Int × Nat) :=
  match s.adSrc n with
  | 5 => none
  | 1 =>
    let r := (s.pmu n).range
    some (signed 24 (s.rd (pinA n (Reg.AD_OFS_I + 8 * r))).toNat, (s.rd (pinA n (Reg.AD_GAIN_I + 8 * r))).toNat % 2 ^ 24)
  | _ => some (signed 24 (s.rd (pinA n Reg.AD_OFS_V)).toNat, (s.rd (pinA n Reg.AD_GAIN_V)).toNat % 2 ^ 24)

/-- The weighted sum and the weight of the conversions that cover the last `p` cycles, newest first, and whether one of them
was disturbed. -/
def notchSum : Nat → List (Nat × Int × Bool) → Int × Nat × Bool
  | _, [] => (0, 0, false)
  | p, (c, raw, d) :: t =>
    if p = 0 then (0, 0, false)
    else
      let w := min c p
      let (sum, wt, dd) := notchSum (p - w) t
      (sum + raw * (w : Int), wt + w, d || dd)

/-- The conversions of a window that reach into its last `p` cycles. -/
def notchKeep : Nat → List (Nat × Int × Bool) → List (Nat × Int × Bool)
  | _, [] => []
  | p, (c, raw, d) :: t => if p = 0 then [] else (c, raw, d) :: notchKeep (p - c) t

/-- The corrected result of a mean `sum / weight` (R301 steps 3 and 4), and whether it saturated. -/
def adCorrect (pair : Option (Int × Nat)) (sum : Int) (weight : Nat) : Int × Bool :=
  let r := match pair with
    | some (ofs, gain) => roundDiv ((sum - ofs * (weight : Int)) * (gain : Int)) (weight * 2 ^ 22)
    | none => roundDiv sum weight
  (clipSigned 24 r, clipSigned 24 r != r)

/-- The result of the conversion of pin `n` that ends now with raw value `raw` (R301 to R303): result, disturbed, saturated,
and the notch window after it. -/
def State.adResult (s : State) (n : Nat) (raw : Int) : Int × Bool × Bool × List (Nat × Int × Bool) :=
  let c := s.conv n
  match s.adNotch n with
  | some p =>
    if p ≤ c.cycles then
      let (r, sat) := adCorrect (s.adPair n) raw 1
      (r, c.disturbed, sat, [])
    else
      let win := notchKeep p ((c.cycles, raw, c.disturbed) :: c.window)
      let (sum, wt, d) := notchSum p win
      let (r, sat) := adCorrect (s.adPair n) sum wt
      (r, d || decide (wt < p), sat, win)
  | none =>
    let (r, sat) := adCorrect (s.adPair n) raw 1
    (r, c.disturbed, sat, [])

/-- The end of the conversion in progress at pin `n`, when it converts: its result reaches AD_DATA and the next conversion
starts (R298, R301). (DEDUCED, log 23) -/
def State.endConversion (s : State) (n : Nat) (raw : Int) : State :=
  let c := s.conv n
  if !c.running then s
  else
    let (r, dist, sat, win) := s.adResult n raw
    let fin := c.start + c.cycles * modU
    let s1 := (s.advanceTo fin).raiseIf sat (pinA n Reg.AD_STAT) Fld.AD_STAT_SAT
    let s2 := s1.wr (pinA n Reg.AD_DATA) (BitVec.ofNat 32 (unsigned 24 r + (c.seq % 128) * 2 ^ 24 + bitN dist * 2 ^ 31))
    s2.setConv n { c with start := fin, cycles := s.adCycles n, seq := (c.seq + 1) % 128, disturbed := false, window := win }

/-! ### The sine generator -/

/-- Pi times 10^40. -/
def piScaled : Nat := 31415926535897932384626433832795028841971

/-- The sine series at x / 10^40 in units of 10^-40: `term` is the term of odd order `k`, `m` terms to go. -/
def sinSeries (x2 : Nat) : Nat → Nat → Int → Int
  | 0, _, _ => 0
  | m + 1, k, term =>
    term + sinSeries x2 m (k + 2) (-(term * (x2 : Int) / (((10 ^ 40) * (k + 1) * (k + 2) : Nat) : Int)))

/-- round(131,071 × sin(2πi / 4,096)) for i up to 1,024. -/
def sineQuarter (i : Nat) : Int :=
  let x := piScaled * i / 2048
  roundDiv (131071 * sinSeries (x * x / 10 ^ 40) 20 1 x) (10 ^ 40)

/-- Entry `i` of the sine table at reset (R309). -/
def sineReset (i : Nat) : Int :=
  let j := i % 4096
  if j ≤ 1024 then sineQuarter j
  else if j ≤ 2048 then sineQuarter (2048 - j)
  else if j ≤ 3072 then -sineQuarter (j - 2048)
  else -sineQuarter (4096 - j)

/-- Entry `i` of the sine table of strand `k`. -/
def State.sineEntry (s : State) (k i : Nat) : Int := Store.getD (s.strand k).tables.sine i (sineReset i)

/-- The frequency word in the registers (R308). -/
def State.sgFtw (s : State) (k : Nat) : Nat :=
  (s.sq k Reg.SG_FTW_LO).toNat + ((s.sq k Reg.SG_FTW_HI).toNat % 65536) * 2 ^ 32

/-- The highest frequency word (R308). -/
def ftwMax : Nat := 0x0C8000000000

/-- SG_FTW_LO or SG_FTW_HI has been applied (R308, R311). -/
def State.appliedFtw (s : State) (k : Nat) : State :=
  (s.raiseIf (decide (ftwMax < s.sgFtw k)) (strandA k Reg.SG_STAT) Fld.SG_STAT_FTW_CLIP).modStrand k
    (fun st => { st with sineLoad := true })

/-- SG_CTRL has been applied; `old` is its value before (R311). -/
def State.appliedSgCtrl (s : State) (k : Nat) (old : Word) : State :=
  if s.flag (strandA k Reg.SG_CTRL) Fld.SG_CTRL_EN && Fld.SG_CTRL_EN.get old == 0 then
    s.modStrand k (fun st => { st with sineLoad := true })
  else s

/-- The output code of table entry `e` before any clipping (R309). -/
def State.sineRaw (s : State) (k : Nat) (e : Int) : Int :=
  ((s.sq k Reg.SG_OFFSET).toNat % 65536 : Nat) + roundDiv (((s.sq k Reg.SG_AMPL).toNat % 65536 : Nat) * e) 131072

/-- SINE_SAMPLE: the generator of strand `k` advances and drives the force DACs of its pins (R308 to R311). A generator not
enabled hands its pins back their force codes at the first sample after EN became 0. -/
def execSineSample (k : Fin 192) (s : State) : Host.Outcome State Fault Refusal :=
  let a := strandA k Reg.SG_CTRL
  let st := s.strand k
  let en := s.flag a Fld.SG_CTRL_EN
  let mask := if en then s.fld a Fld.SG_CTRL_PINS else 0
  let started := en != st.sineRun
  let phase := if st.sineLoad then ((s.sq k Reg.SG_PHASE0).toNat % 65536) * 2 ^ 32
    else (st.sinePhase + min ftwMax (s.sgFtw k)) % 2 ^ 48
  let raw := s.sineRaw k (s.sineEntry k (phase / 2 ^ 36))
  let code := (max 0 (min 65535 raw)).toNat
  let driven := (List.range 8).filter (fun p => bitOf mask p)
  let clipped := raw < 0 || 65535 < raw || driven.any (fun p => s.clipForce (pinOf k p) code != code)
  let s1 := if en then
      (s.modStrand k (fun st => { st with sinePhase := phase, sineLoad := false, sineRun := true, sineCode := code })).raiseIf
        clipped (strandA k Reg.SG_STAT) Fld.SG_STAT_CLIP
    else s.modStrand k (fun st => { st with sineRun := false })
  let s2 := s1.each (List.range 8) (fun s p =>
    let n := pinOf k p
    let was := (s.pmu n).sg
    let now := bitOf mask p
    let s' := if was == now then s else s.modPmu n (fun q => { q with sg := now })
    if (now || was) && (started || st.sineLoad || was != now) then s'.disturb n else s')
  .next s2

/-- The value SG_TAB_DATA shows. -/
def State.sgData (s : State) (k : Nat) : Word :=
  BitVec.ofNat 32 (unsigned 18 (s.sineEntry k (s.fld (strandA k Reg.SG_TAB_ADDR) Fld.SG_TAB_ADDR_INDEX)))

/-- The address step after an SG_TAB_DATA access. -/
def State.sgAdvance (s : State) (k : Nat) : State :=
  let a := strandA k Reg.SG_TAB_ADDR
  if s.flag a Fld.SG_TAB_ADDR_AINC then s.setFld a Fld.SG_TAB_ADDR_INDEX (s.fld a Fld.SG_TAB_ADDR_INDEX + 1) else s

/-- A write through SG_TAB_DATA (R312). -/
def State.sgWrite (s : State) (k : Nat) (al : Alias) (d : Word) : State :=
  let i := s.fld (strandA k Reg.SG_TAB_ADDR) Fld.SG_TAB_ADDR_INDEX
  let s1 :=
    if s.flag (strandA k Reg.SG_CTRL) Fld.SG_CTRL_EN then s.raise (strandA k Reg.SG_STAT) Fld.SG_STAT_TAB_REJ
    else s.modStrand k (fun st => { st with tables := { st.tables with
      sine := Store.putD st.tables.sine i (signed 18 (aliasValue al (s.sgData k) d).toNat) (sineReset i) } })
  s1.sgAdvance k

end Sys2Proof.Machine
end

