-- ==== Sys2Proof/Machine/TimeAcq.lean ====
section
/-! DEFINITION. The capture TDC and the acquisition engine (spec/12_time_and_acquisition.md R313 to R332): stamps, shots and
statistics; rows, triggers, records and their store; with the meanings of COMPARATOR_DECISION, STROBE_EVENT, the TD_, TDC_ and AQ_ rows
and of CONVERSION_END. -/

namespace Sys2Proof.Machine

/-! ### The capture TDC -/

/-- What the TDC of pin `n` holds. -/
def State.tdc (s : State) (n : Nat) : Tdc := Store.getD s.tdcs n {}

/-- Replace it. -/
def State.setTdc (s : State) (n : Nat) (v : Tdc) : State := { s with tdcs := Store.putD s.tdcs n v {} }

/-- Change it. -/
def State.modTdc (s : State) (n : Nat) (f : Tdc → Tdc) : State := s.setTdc n (f (s.tdc n))

/-- TD_STAT.STATE: 0 idle, 1 calibrating, 2 measuring. -/
def State.tdState (s : State) (n : Nat) : Nat := s.fld (pinA n Reg.TD_STAT) Fld.TD_STAT_STATE

/-- The fields of the configuration a measurement runs with (R314, R315). -/
def Tdc.mode (t : Tdc) : Nat := Fld.TD_CFG_MODE.get t.cfg
def Tdc.armSrc (t : Tdc) : Nat := Fld.TD_CFG_ARM.get t.cfg

/-- Whether a transition, falling or rising, is one an edge selection names. -/
def edgeMatches (sel : Nat) (falling : Bool) : Bool :=
  match sel with
  | 0 => !falling
  | 1 => falling
  | 2 => true
  | _ => false

/-- The standard deviation in 1/256 stamp units, to the nearest (R318), saturating at 32 bits. -/
def tdStd (count : Nat) (sum : Int) (sumSq : Nat) : Nat :=
  let r : Nat := ((count * sumSq : Nat) - sum * sum : Int).toNat
  min 4294967295 ((isqrt 64 0 (262144 * r / (count * count)) + 1) / 2)

/-- A measurement of pin `n` completes with a status: the result registers change together (R318, R319). -/
def State.tdComplete (s : State) (n status : Nat) : State :=
  let t := s.tdc n
  let c := s.fld (pinA n Reg.TD_COUNT) Fld.TD_COUNT_COUNT
  let a := pinA n Reg.TD_STAT
  let mean := if c = 0 then 0 else roundDiv (256 * t.sum) c
  let s1 := s.wr64 (pinA n Reg.TD_MEAN_LO) (unsigned 64 mean)
  let s2 := s1.wr (pinA n Reg.TD_STD) (BitVec.ofNat 32 (if c = 0 then 0 else tdStd c t.sum t.sumSq))
  let s3 := (s2.wr (pinA n Reg.TD_MIN) (BitVec.ofNat 32 (if c = 0 then 0 else unsigned 32 t.mn))).wr
    (pinA n Reg.TD_MAX) (BitVec.ofNat 32 (if c = 0 then 0 else unsigned 32 t.mx))
  let s4 := ((s3.setFld a Fld.TD_STAT_STATE 0).setFld a Fld.TD_STAT_STATUS status).raise a Fld.TD_STAT_DONE
  let s5 := s4.modTdc n (fun t => { t with armed := false, first := none })
  if Fld.TD_CFG_RING.get t.cfg = 1 then s5.pushEvent 2 (leBytes 2 n ++ leBytes 1 status ++ leBytes 1 0 ++ leBytes 4 c) else s5

/-- A shot of pin `n` gave the raw value `v`: it is scaled (R317), limited (R316), counted and accumulated (R318). -/
def State.tdShot (s : State) (n : Nat) (v : Int) : State :=
  let t := s.tdc n
  let scaled := openDiv (v * t.scale) 0x4000
  let x := clipSigned 32 scaled
  let c := s.fld (pinA n Reg.TD_COUNT) Fld.TD_COUNT_COUNT
  let s1 := s.raiseIf (x != scaled) (pinA n Reg.TD_STAT) Fld.TD_STAT_OVR
  let s2 := (s1.setFld (pinA n Reg.TD_COUNT) Fld.TD_COUNT_COUNT (c + 1)).wr (pinA n Reg.TD_LAST) (BitVec.ofNat 32 (unsigned 32 x))
  let s3 := s2.modTdc n (fun t => { t with
    sum := t.sum + x, sumSq := t.sumSq + (x * x).toNat,
    mn := if c = 0 then x else min t.mn x, mx := if c = 0 then x else max t.mx x })
  if t.n ≤ c + 1 then s3.tdComplete n 8 else s3

/-- A shot of pin `n` ends as a miss (R315). -/
def State.tdMiss (s : State) (n : Nat) : State :=
  let a := pinA n Reg.TD_MISS
  (s.wr a (BitVec.ofNat 32 (min 4294967295 ((s.rd a).toNat + 1)))).modTdc n (fun t => { t with armed := false, first := none })

/-- A shot begins at pin `n` with arm instant `a`; one in progress is missed (R315). -/
def State.tdArm (s : State) (n : Nat) (a : Int) : State :=
  let s1 := if (s.tdc n).armed then s.tdMiss n else s
  s1.modTdc n (fun t => { t with armed := true, arm := a, first := none })

/-- A shot of pin `n` has ended: under FREE the next begins as soon (R315). -/
def State.tdNext (s : State) (n : Nat) (keep : Option Int) : State :=
  if s.tdState n != 2 then s
  else s.modTdc n (fun t => { t with armed := t.armSrc == 0, first := if t.armSrc == 0 then keep else none })

/-- A stamp `v`, at the probe tip, takes part in the shot in progress at pin `n` (R314). -/
def State.tdTake (s : State) (n : Nat) (v : Int) (falling : Bool) : State :=
  let t := s.tdc n
  let start := edgeMatches (Fld.TD_CFG_START_EDGE.get t.cfg) falling
  if !t.armed || (t.armSrc != 0 && v ≤ t.arm) then s
  else match t.mode with
    | 0 => if start then (s.tdShot n (v - t.arm)).tdNext n none else s
    | 1 => match t.first with
      | none => if start then s.modTdc n (fun t => { t with first := some v }) else s
      | some f =>
        if edgeMatches (Fld.TD_CFG_STOP_EDGE.get t.cfg) falling then (s.tdShot n (v - f)).tdNext n none else s
    | _ => if !start then s
      else match t.first with
        | none => s.modTdc n (fun t => { t with first := some v })
        | some f => (s.tdShot n (v - f)).tdNext n (some v)

/-! ### Acquisition engines -/

/-- What the acquisition engine of strand `k` holds. -/
def State.acq (s : State) (k : Nat) : Acq := Store.getD s.acqs k {}

/-- Replace it. -/
def State.setAcq (s : State) (k : Nat) (v : Acq) : State := { s with acqs := Store.putD s.acqs k v {} }

/-- Change it. -/
def State.modAcq (s : State) (k : Nat) (f : Acq → Acq) : State := s.setAcq k (f (s.acq k))

/-- AQ_STAT.STATE: 0 IDLE, 1 PRE, 2 POST, 3 REARM. -/
def State.aqState (s : State) (k : Nat) : Nat := s.fld (strandA k Reg.AQ_STAT) Fld.AQ_STAT_STATE

/-- Put the engine into a state. -/
def State.setAqState (s : State) (k st : Nat) : State := s.setFld (strandA k Reg.AQ_STAT) Fld.AQ_STAT_STATE st

def Acq.src (a : Acq) : Nat := Fld.AQ_CFG_SRC.get a.cfg
def Acq.tsrc (a : Acq) : Nat := Fld.AQ_CFG_TSRC.get a.cfg
def Acq.measEn (a : Acq) : Bool := Fld.AQ_CFG_MEAS_EN.get a.cfg == 1
def Acq.measPin (a : Acq) : Nat := Fld.AQ_CFG_MEAS_PIN.get a.cfg
def Acq.pins (a : Acq) : Nat := Fld.AQ_CFG_PINS.get a.cfg

/-- The pins of a strand a mask selects, rising. -/
def maskPins (m : Nat) : List Nat := (List.range 8).filter (fun p => bitOf m p)

/-- Bytes of a row (R321). -/
def Acq.rowBytes (a : Acq) : Nat :=
  match a.src with
  | 0 => 4 + 4 * (maskPins a.pins).length
  | 1 => 8
  | _ => 2

/-- A row as bytes, in a record with trigger instant `trig` (R322). -/
def Acq.rowOut (a : Acq) (trig : Int) (r : AqRow) : List Byte :=
  match a.src with
  | 0 => leBytes 4 r.flags ++ (r.vals.map (fun v => leBytes 4 (unsigned 32 v))).flatten
  | 1 => leBytes 8 (unsigned 40 (r.t - trig) + r.code * 2 ^ 40)
  | _ => leBytes 2 r.code

/-- The rows of a record in time order. -/
def AqRecord.rows (r : AqRecord) : List AqRow := r.pre ++ r.post

/-- Bytes a record of `rows` rows takes in the store: header and rows, padded to a multiple of 8 (R331). -/
def Acq.recBytes (a : Acq) (rows : Nat) : Nat := 64 + ceilDiv (rows * a.rowBytes) 8 * 8

/-- Bytes of the store in use by whole records. -/
def Acq.used (a : Acq) : Nat := (a.store.map List.length).foldl (· + ·) 0

/-- Bytes of the store in use, the record in progress included. -/
def Acq.inUse (a : Acq) : Nat :=
  a.used + (match a.record with | some r => a.recBytes r.rows.length | none => 0)

/-- Whether the store can hold a record in progress of `rows` rows and still keep 64 bytes for a mark (R328, R329): what is
not in the spill area lies in the SRAM. -/
def Acq.fits (a : Acq) (rows : Nat) : Bool :=
  decide (a.used + a.recBytes rows + 64 ≤ 262144 + a.spilled)

/-- The values of the measured pin over the rows of an ADC record (R332). -/
def Acq.measured (a : Acq) (rows : List AqRow) : List Int :=
  let i := ((maskPins a.pins).filter (fun p => decide (p < a.measPin))).length
  rows.map (fun r => r.vals.getD i 0)

/-- The exact position of a crossing as numerator and denominator. -/
def crossingAt (mean : Int) (i : Nat) (x y : Int) : Int × Nat := ((i : Int) * (y - x) + (mean - x), (y - x).toNat)

/-- The rising crossings of `mean` in order (R332), exactly. -/
def crossingsOf (mean : Int) : Nat → List Int → List (Int × Nat)
  | i, x :: y :: t =>
    let rest := crossingsOf mean (i + 1) (y :: t)
    if x < mean ∧ mean ≤ y then crossingAt mean i x y :: rest else rest
  | _, _ => []

/-- The mean spacing of crossings, in rows times 256 (R332); zero with fewer than two. -/
def crossingPeriod (cs : List (Int × Nat)) : Int :=
  match cs.head?, cs.getLast? with
  | some (a, b), some (c, d) =>
    if cs.length < 2 then 0
    else openDiv (256 * (c * (b : Int) - a * (d : Int))) (b * d * (cs.length - 1))
  | _, _ => 0

/-- MEAN, RMS, AMPL and PERIOD of a list of values that is not empty (R332). -/
def measureOf (xs : List Int) : List Nat :=
  let n := xs.length
  let mean := roundDiv (xs.foldl (· + ·) 0) n
  let sq : Nat := (xs.foldl (fun a x => a + x * x) 0).toNat
  let rms := (isqrt 40 0 (4 * sq / n) + 1) / 2
  let hi := xs.foldl max (xs.headD 0)
  let lo := xs.foldl min (xs.headD 0)
  [unsigned 32 mean, rms, unsigned 32 (hi - lo), unsigned 32 (crossingPeriod (crossingsOf mean 0 xs))]

/-- The last four header fields of a record, and whether they are valid (R332). A record of no rows has no mean: free values. (DEDUCED, log 24) -/
def State.aqMeasure (s : State) (a : Acq) (rows : List AqRow) : State × List Nat × Bool :=
  if a.measEn && a.src == 0 && bitOf a.pins a.measPin then
    if rows.isEmpty then
      let (f0, s0) := s.free
      let (f1, s1) := s0.free
      let (f2, s2) := s1.free
      let (f3, s3) := s2.free
      (s3, [f0, f1, f2, f3].map (· % 4294967296), true)
    else (s, measureOf (a.measured rows), true)
  else (s, [0, 0, 0, 0], false)

/-- The magic number of a record. -/
def aqMagic : Nat := 0x41515201

/-- AQ_FILL follows the store (R328). -/
def State.aqFill (s : State) (k : Nat) : State :=
  s.setFld (strandA k Reg.AQ_FILL) Fld.AQ_FILL_KIB (openDiv (s.acq k).inUse 1024).toNat

/-- Ask for blocks of the SRAM to move to the spill area, 8 KiB each, at class 5 (R19, R328). The channel of the spill area's
addresses is left open. (DEDUCED, log 24) -/
def State.aqSpill (s : State) (k : Nat) : State :=
  let a := s.acq k
  let asked := (s.mem.reqs.filter (fun r => r.use == .acq k)).length * 8192
  if a.spilled + asked + 8192 ≤ a.inUse ∧ a.spilled + asked + 8192 ≤ 5242880 then
    let (f, s1) := s.free
    { s1 with mem := { s1.mem with reqs := s1.mem.reqs ++ [⟨.acq k, 5, f % 8, s.now, false, 0⟩] } }
  else s

/-- Write the record in progress of strand `k` into the store with FLAGS bits 1 and 2 as given (R327, R329 to R331). -/
def State.aqWriteRecord (s : State) (k : Nat) (trunc stopped : Bool) : State :=
  let a := s.acq k
  match a.record with
  | none => s
  | some r =>
    let rows := r.rows
    let num := (s.sq k Reg.AQ_RECNUM).toNat
    let (s1, meas, valid) := s.aqMeasure a rows
    let short := decide (r.pre.length < a.pre)
    let dist := rows.any (fun x => x.flags != 0)
    let flags := bitN short + 2 * bitN trunc + 4 * bitN stopped + 8 * bitN dist + 16 * bitN valid
    let header :=
      leBytes 4 aqMagic ++ leBytes 2 k ++ leBytes 1 0 ++ leBytes 1 flags ++ leBytes 4 num ++ leBytes 1 a.src ++
      leBytes 1 a.pins ++ leBytes 2 a.rowBytes ++ leBytes 4 r.pre.length ++ leBytes 4 rows.length ++ leBytes 8 r.tide ++
      leBytes 4 (if num = 0 then 0 else a.dead) ++ leBytes 4 a.missed ++ leBytes 8 a.missT ++ (meas.map (leBytes 4)).flatten
    let body := (rows.map (a.rowOut r.trig)).flatten
    let bytes := header ++ padTo (ceilDiv body.length 8 * 8) 0 body
    let s2 := s1.setAcq k { a with store := a.store ++ [bytes], record := none, missed := 0, missT := 0 }
    let s3 := s2.wr (strandA k Reg.AQ_REC) (BitVec.ofNat 32 ((flags % 8) * 2 ^ 29 + r.pre.length % 2 ^ 24))
    (s3.wr (strandA k Reg.AQ_RECNUM) (BitVec.ofNat 32 (num + 1))).aqFill k

/-- Capture stops on a full store (R329): the record in progress, if its header fits, is closed with TRUNC, the overflow mark
follows, and the engine is IDLE. -/
def State.aqOverflow (s : State) (k : Nat) (at_ : Nat) : State :=
  let a := s.acq k
  let rows := match a.record with | some r => r.rows.length | none => 0
  let num := (s.sq k Reg.AQ_RECNUM).toNat
  let mark := padTo 64 0 (leBytes 4 aqMagic ++ leBytes 2 k ++ leBytes 1 1 ++ leBytes 1 0 ++ leBytes 4 num ++ leBytes 12 0 ++ leBytes 8 at_)
  let s1 := s.aqWriteRecord k true false
  let s2 := s1.modAcq k (fun a => { a with store := a.store ++ [mark], record := none, rows := [] })
  let s3 := s2.wr (strandA k Reg.AQ_OVF) (BitVec.ofNat 32 (2 ^ 31 + rows % 2 ^ 24))
  ((s3.raise (strandA k Reg.AQ_STAT) Fld.AQ_STAT_OVF).setAqState k 0).aqFill k

/-- The last post-trigger row has been taken: REARM begins (R327). -/
def State.aqCheckFull (s : State) (k : Nat) : State :=
  let a := s.acq k
  match a.record with
  | some r =>
    if s.aqState k == 2 && decide (a.len - a.pre ≤ r.post.length) then
      (s.setAqState k 3).modAcq k (fun a => { a with rearmAt := s.now })
    else s
  | none => s

/-- Store one row into the record in progress of strand `k` (R323, R329): rows before the trigger instant go before it. -/
def State.aqStoreRow (s : State) (k : Nat) (r : AqRow) : State :=
  let a := s.acq k
  match a.record with
  | none => s
  | some rec_ =>
    if s.aqState k != 2 then s
    else if !a.fits (rec_.rows.length + 1) then s.aqOverflow k s.stamp
    else
      let rec2 := if rec_.post.isEmpty && decide (r.t < rec_.trig) then
          { rec_ with pre := (rec_.pre ++ [r]).drop (rec_.pre.length + 1 - a.pre) }
        else { rec_ with post := rec_.post ++ [r] }
      (((s.setAcq k { a with record := some rec2 }).aqFill k).aqSpill k).aqCheckFull k

/-- A row of strand `k` has been taken (R320, R325, R327): into the pretrigger in PRE, into the record in POST, discarded in
REARM and IDLE. -/
def State.aqRow (s : State) (k : Nat) (r : AqRow) : State :=
  let a := s.acq k
  match s.aqState k with
  | 1 => s.setAcq k { a with rows := (a.rows ++ [r]).drop (a.rows.length + 1 - a.pre) }
  | 2 => s.aqStoreRow k r
  | _ => s

/-- A trigger at strand `k` at the device instant `t`, in units (R323, R325, R326). -/
def State.aqTrigger (s : State) (k t : Nat) : State :=
  let a := s.acq k
  let tide := if s.tideValid then s.tideOf t else 0
  match s.aqState k with
  | 1 =>
    if !a.fits 0 then s.aqOverflow k tide
    else
      let trig : Int := 2 * (t : Int)
      let before := a.rows.filter (fun r => decide (r.t < trig))
      let after := a.rows.filter (fun r => !decide (r.t < trig))
      let s1 := (s.setAcq k { a with rows := [], record := some ⟨trig, tide, [], []⟩ }).setAqState k 2
      (s1.each (before ++ after) (fun s r => s.aqStoreRow k r)).aqCheckFull k
  | 2 | 3 =>
    let m := strandA k Reg.AQ_MISSED
    let s1 := s.wr m (BitVec.ofNat 32 (min 4294967295 ((s.rd m).toNat + 1)))
    (s1.wr64 (strandA k Reg.AQ_MISS_T_LO) tide).setAcq k { a with
      missed := min 4294967295 (a.missed + 1), missT := if a.missed = 0 then tide else a.missT }
  | _ => s

/-- A trigger pulse with step start `t` reaches strand `k` (R148, R149): the acquisition engine when TSRC is SEQ (R323), and
the TDCs armed by TRIG (R315). -/
def State.triggerPulse (s : State) (k t : Nat) : State :=
  let s1 := s.each (pinsOf k) (fun s n =>
    if s.tdState n == 2 && (s.tdc n).armSrc == 1 then s.tdArm n (2 * (t : Int)) else s)
  if (s1.acq k).tsrc = 0 then s1.aqTrigger k t else s1

/-- The strobe-open instant `t`, in units, of a window strobe of pin `n`: a shot armed by STROBE begins (R315). The instant is
referred to the probe tip, as stamps are. -/
def State.tdOpen (s : State) (n t : Nat) : State :=
  if s.tdState n == 2 && (s.tdc n).armSrc == 2 then s.tdArm n (2 * (t : Int) - 2 * (s.deskewC n : Int)) else s

/-- The strobe-close of a window strobe of pin `n` passes: a shot armed by STROBE and still in progress is missed (R315). -/
def State.tdClose (s : State) (n : Nat) : State :=
  if s.tdState n == 2 && (s.tdc n).armSrc == 2 && (s.tdc n).armed then s.tdMiss n else s

/-- TDC_INL entry `i` of pin `n` in force (spec/13_calibration.md R333); entry 64 is 0 (R336). -/
def State.tdcInlAt (s : State) (n i : Nat) : Int :=
  if 64 ≤ i then 0 else signed 16 ((s.rd (calA n (0x0B + i / 2))).toNat / (if i % 2 = 0 then 1 else 65536))

/-- The bin correction of a raw stamp `t` of pin `n`, in stamp units, its fine part being t mod 1024 (R336). -/
def State.tdcInl (s : State) (n : Nat) (t : Int) : Int :=
  let f := (t % 1024).toNat
  let a := s.tdcInlAt n (f / 16)
  let b := s.tdcInlAt n (f / 16 + 1)
  openDiv (16 * a + (b - a) * ((f % 16 : Nat) : Int)) 256

/-- A transition of pin `n` at the device instant `t`, in stamp units (R313, R316): stamped in Fast mode, unless it comes
within 4 engine cycles of the previous stamp. -/
def State.tdStamp (s : State) (n : Nat) (t : Int) (falling : Bool) : State :=
  if s.fld (pinA n Reg.PS_CMP_STATE) Fld.PS_CMP_STATE_MODE_EFF != 0 then s
  else if (match (s.tdc n).lastStamp with | some l => decide (t - l < 4096) | none => false) then
    s.raise (pinA n Reg.TD_STAT) Fld.TD_STAT_CLOSE
  else
    let k := n / 8
    let v := t + s.tdcInl n t - 2 * (s.deskewC n : Int)
    let s1 := s.modTdc n (fun d => { d with lastStamp := some t })
    let a := s1.acq k
    let s2 := if a.src == 1 && bitOf a.pins (n % 8) && s1.tdState n != 0 then
        s1.aqRow k ⟨v, 0, [], bitN falling * 8 + n % 8⟩ else s1
    if s2.tdState n == 2 then s2.tdTake n v falling else s2

/-! ### Pattern triggers -/

/-- Whether the pattern condition of strand `k` holds (R324). -/
def State.patternTrue (s : State) (k : Nat) : Bool :=
  let a := s.acq k
  let bits := (List.range 64).filter (fun i => bitOf a.care i)
  !bits.isEmpty && bits.all (fun i =>
    match a.sel.getD (i / 8) none with
    | some t =>
      let n := pinOf t (i % 8)
      if bitOf a.value i then s.hiDec n == .yes else s.loDec n == .yes
    | none => true)

/-- The engines that a decision of strand `k`'s pins may trigger: those waiting or recording under PATTERN that name it. -/
def State.patternWatchers (s : State) (k : Nat) : List Nat :=
  (s.acqs.map (·.1)).filter (fun j => s.aqState j != 0 && (s.acq j).tsrc == 1 && (s.acq j).sel.contains (some k))

/-- The pattern condition of strand `j` has become true now: it is seen at an engine clock edge, on decisions at most 12
engine cycles old (R324). (DEDUCED, log 24) -/
def State.patternFire (s : State) (j : Nat) : State :=
  let (f, s1) := s.free
  s1.aqTrigger j ((ceilDiv s.now cycU + f % 13) * cycU)

/-- New decisions at pin `n` at the device instant `t`, in stamp units: STATE and its event (R82 to R89), the TDC's stamps
(R313) and the pattern conditions that become true (R324). -/
def State.newDecisions (s : State) (n : Nat) (hi lo : Dec) (t : Int) : State :=
  let watch := (s.patternWatchers (n / 8)).filter (fun j => !s.patternTrue j)
  let rose := hi == .yes && s.hiDec n != .yes
  let fell := lo == .yes && s.loDec n != .yes
  let s1 := s.setDecisions n hi lo
  let s2 := if rose then s1.tdStamp n t false else s1
  let s3 := if fell then s2.tdStamp n t true else s2
  s3.each watch (fun s j => if s.patternTrue j then s.patternFire j else s)

/-- A decision that the operand of a command gives: below the threshold, beyond it, or none. -/
def decCode : Fin 3 → Dec
  | 0 => .no
  | 1 => .yes
  | 2 => .undet

/-! ### Meanings: TDC -/

/-- COMPARATOR_DECISION: the decisions of pin `n` are `hi` and `lo` from the instant `at_` on, in stamp units of the device
clock, or from now if that has passed (R82 to R84, R88, R89, R313, R324). A comparator that is off or settling decides
nothing (R81). -/
def execComparatorDecision (n : Fin 1536) (hi lo : Fin 3) (at_ : Nat) (s : State) : Host.Outcome State Fault Refusal :=
  if 4 ≤ s.fld (pinA n Reg.PS_CMP_STATE) Fld.PS_CMP_STATE_MODE_EFF then .next s
  else
    let t := max (2 * s.now) at_
    .next ((s.advanceTo (t / 2)).newDecisions n (decCode hi) (decCode lo) t)

/-- STROBE_EVENT: the earliest strobe event of pin `n` fires (R112, R113, R116 to R118) and arms or disarms a TDC armed by
STROBE (R315); without one nothing happens. -/
def execStrobeEvent (n : Fin 1536) (s : State) : Host.Outcome State Fault Refusal :=
  match (s.pin n).strobes with
  | [] => .next s
  | e :: rest =>
    let (act, delayed) := fireAt (s.pin n).lastStrobe e.t
    let s1 := (s.advanceTo act).raiseIf delayed (strandA (n / 8) Reg.WV_STAT) Fld.WV_STAT_SEP
    let s2 := s1.modPin n (fun p => { p with strobes := rest, lastStrobe := some (e.t, act) })
    let s3 := s2.fireStrobe n e act delayed
    let s4 := match e.kind with
      | .wopen => s3.tdOpen n act
      | .wclose => s3.tdClose n
      | .edge => s3
    .next (s4.modPin n Pin.settlePark)

/-- A START of the TDC of pin `n` (R319). -/
def State.tdStart (s : State) (n : Nat) : State :=
  let a := pinA n Reg.TD_STAT
  if s.tdState n != 0 then s.raise a Fld.TD_STAT_CMD_REJ
  else
    let cfg := s.rd (pinA n Reg.TD_CFG)
    let cnt := min 16777216 (s.fld (pinA n Reg.TD_N) Fld.TD_N_N)
    let t0 := s.tdc n
    let s1 := (((s.setTdc n { cfg := cfg, n := cnt, startAt := s.now, scale := t0.scale, lastStamp := t0.lastStamp }).wr
      (pinA n Reg.TD_COUNT) 0).wr (pinA n Reg.TD_MISS) 0)
    let mode := Fld.TD_CFG_MODE.get cfg
    let arm := Fld.TD_CFG_ARM.get cfg
    let badEdge := Fld.TD_CFG_START_EDGE.get cfg == 3 || Fld.TD_CFG_STOP_EDGE.get cfg == 3
    if cnt = 0 then s1.tdComplete n 1
    else if mode = 3 || arm = 3 || (mode = 0 && arm = 0) || badEdge then s1.tdComplete n 2
    else if s.fld (pinA n Reg.PS_CMP_STATE) Fld.PS_CMP_STATE_MODE_EFF != 0 then s1.tdComplete n 3
    else s1.setFld a Fld.TD_STAT_STATE 1

/-- TD_CTRL.STOP: a measurement ends with STOPPED (R319). -/
def State.tdStop (s : State) (n : Nat) : State := if s.tdState n != 0 then s.tdComplete n 6 else s

/-- The measurement of pin `n` ends with SLEEP (R319): the cove sleeps, or MODE_EFF left Fast. -/
def State.tdSleep (s : State) (n : Nat) : State := if s.tdState n != 0 then s.tdComplete n 5 else s

/-- TDC_CAL_DONE: the interpolator calibration of pin `n` completes, `m1` and `m2` being the sums of its 256 raw readings of
one and of two engine periods (R317). A difference that is not positive gives no scale: TD_SCALE is a free value. (DEDUCED, log 24) -/
def execTdcCalDone (n : Fin 1536) (m1 m2 : Nat) (s : State) : Host.Outcome State Fault Refusal :=
  if s.tdState n != 1 then .next s
  else
    let d := m2 - m1
    let (f, s0) := if d = 0 then s.free else (0, s)
    let scale := if d = 0 then f else (openDiv ((0x4000 * 262144 : Nat) : Int) d).toNat
    let bad := d = 0 || 262144 * 100 < 95 * d || 105 * d < 262144 * 100
    let s1 := s0.setFld (pinA n Reg.TD_SCALE) Fld.TD_SCALE_SCALE (if d = 0 then scale else min 65535 scale)
    if bad then .next (s1.tdComplete n 4)
    else .next ((s1.setFld (pinA n Reg.TD_STAT) Fld.TD_STAT_STATE 2).modTdc n (fun t => { t with
      scale := scale, armed := t.armSrc == 0, first := none }))

/-- TDC_TIMEOUT: TD_CFG.TIMEOUT milliseconds have passed since the START of pin `n` (R319). -/
def execTdcTimeout (n : Fin 1536) (s : State) : Host.Outcome State Fault Refusal :=
  let t := s.tdc n
  let ms := Fld.TD_CFG_TIMEOUT.get t.cfg
  if s.tdState n == 0 || ms == 0 then .next s
  else .next ((s.advanceTo (t.startAt + ms * 1000 * usU)).tdComplete n 7)

/-! ### Meanings: acquisition -/

/-- The CMP row of strand `k` at the instant `t`, in units (R321, R322). -/
def State.cmpRow (s : State) (k t : Nat) : AqRow :=
  ⟨2 * (t : Int), 0, [], (List.range 8).foldl (fun a p => a + s.cmpState (pinOf k p) * 4 ^ p) 0⟩

/-- A step of strand `k` starts at `t`: a CMP row when AQ_DIV is 0 (R321). -/
def State.aqStep (s : State) (k t : Nat) : State :=
  let a := s.acq k
  if s.aqState k != 0 && a.src == 2 && a.div == 0 then s.aqRow k (s.cmpRow k t) else s

/-- AQ_CMP_SAMPLE: the next CMP sample of strand `k` (R321). -/
def execAqCmpSample (k : Fin 192) (s : State) : Host.Outcome State Fault Refusal :=
  let a := s.acq k
  if s.aqState k != 0 && a.src == 2 && a.div != 0 then
    let s1 := (s.advanceTo a.nextSample).modAcq k (fun a => { a with nextSample := max s.now a.nextSample + a.div * cycU })
    .next (s1.aqRow k (s1.cmpRow k s1.now))
  else .next s

/-- The row of results averaged by pin, when every selected pin has enough (R321, R322). -/
def Acq.adcRow (a : Acq) (t : Int) : Option AqRow :=
  let ps := maskPins a.pins
  let of (p : Nat) := (Store.getD a.results p []).take a.avg
  if ps.all (fun p => decide (a.avg ≤ (Store.getD a.results p []).length)) && !ps.isEmpty then
    some ⟨t, ps.foldl (fun f p => f + bitN ((of p).any (·.2)) * 2 ^ p) 0,
      ps.map (fun p => roundDiv (256 * ((of p).foldl (fun x r => x + r.1) 0)) a.avg), 0⟩
  else none

/-- A corrected result of pin `n` reaches the acquisition engine of its strand (R321, R322). -/
def State.aqResult (s : State) (n : Nat) (r : Int) (disturbed : Bool) : State :=
  let k := n / 8
  let a := s.acq k
  if s.aqState k == 0 || a.src != 0 || !bitOf a.pins (n % 8) then s
  else
    let a1 := { a with results := Store.put a.results (n % 8) (Store.getD a.results (n % 8) [] ++ [(r, disturbed)]) }
    match a1.adcRow (2 * (s.now : Int)) with
    | none => s.setAcq k a1
    | some row =>
      (s.setAcq k { a1 with results := a1.results.map (fun e => (e.1, e.2.drop a1.avg)) }).aqRow k row

/-- CONVERSION_END: the conversion in progress at pin `n` ends with the raw value `raw` (R298 to R303); its result reaches
AD_DATA and the acquisition engine (R322). (DESIGN CHOICE, log 8) -/
def execConversionEnd (n : Fin 1536) (raw : Int) (s : State) : Host.Outcome State Fault Refusal :=
  if !(s.conv n).running then .next s
  else
    let (r, dist, _, _) := s.adResult n raw
    .next ((s.endConversion n raw).aqResult n r dist)

/-- End capture at strand `k` (R330): a record in progress is closed, with STOPPED in POST. -/
def State.aqStop (s : State) (k : Nat) : State :=
  match s.aqState k with
  | 0 => s
  | 2 => ((s.aqWriteRecord k false true).setAqState k 0).modAcq k (fun a => { a with rows := [] })
  | _ => ((s.aqWriteRecord k false false).setAqState k 0).modAcq k (fun a => { a with rows := [] })

/-- The converter of pin `n` has been restarted, or stopped by EN = 0: capture that takes the results of a converter that no
longer runs ends (R330). (DEDUCED, log 24) -/
def State.aqConvStopped (s : State) (n : Nat) : State :=
  let a := s.acq (n / 8)
  if !(s.conv n).running && s.aqState (n / 8) != 0 && a.src == 0 && bitOf a.pins (n % 8) then s.aqStop (n / 8) else s

/-- A START of the acquisition engine of strand `k` (R320 to R325). A pattern condition that is true already does not become
true, and triggers nothing. -/
def State.aqStart (s : State) (k : Nat) : State :=
  let a := strandA k Reg.AQ_STAT
  let cfg := s.sq k Reg.AQ_CFG
  let src := Fld.AQ_CFG_SRC.get cfg
  let tsrc := Fld.AQ_CFG_TSRC.get cfg
  let ps := maskPins (Fld.AQ_CFG_PINS.get cfg)
  let same := match ps with
    | [] => true
    | p :: rest => ps.all (fun q => s.flag (pinA (pinOf k q) Reg.AD_CFG) Fld.AD_CFG_EN) &&
        rest.all (fun q =>
          let x := pinA (pinOf k p) Reg.AD_CFG
          let y := pinA (pinOf k q) Reg.AD_CFG
          s.fld x Fld.AD_CFG_ORDER == s.fld y Fld.AD_CFG_ORDER && s.fld x Fld.AD_CFG_DEC == s.fld y Fld.AD_CFG_DEC &&
          s.fld x Fld.AD_CFG_NOTCH == s.fld y Fld.AD_CFG_NOTCH)
  if s.aqState k != 0 || src = 3 || tsrc = 3 || (src = 0 && !same) then s.raise a Fld.AQ_STAT_CFG_REJ
  else
    let avg0 := Fld.AQ_CFG_AVG.get cfg
    let avg := if src = 0 then clipTo 1 4096 avg0 else 1
    let len := max 2 (s.fld (strandA k Reg.AQ_LEN) Fld.AQ_LEN_ROWS)
    let pre0 := s.fld (strandA k Reg.AQ_PRE) Fld.AQ_PRE_ROWS
    let pre := min pre0 (len - 1)
    let group := s.groupOf k
    let names := (List.range 8).map (fun j => s.fld (strandA k (if j < 4 then Reg.AQ_PT_SEL0 else Reg.AQ_PT_SEL1)) ⟨8 * (j % 4), 8⟩)
    let sel := names.map (fun t => if group.contains t then some t else none)
    let foreign := names.any (fun t => t != 255 && !group.contains t)
    let mask := (List.range 64).foldl (fun m i =>
      if (sel.getD (i / 8) none).isSome && !bitOf (s.rd64 (strandA k Reg.AQ_PT_DC_LO)) i then m + 2 ^ i else m) 0
    let old := s.acq k
    let s1 := s.setAcq k { cfg := cfg, avg := avg, len := len, pre := pre,
                           nrec := s.fld (strandA k Reg.AQ_NREC) Fld.AQ_NREC_COUNT,
                           div := s.fld (strandA k Reg.AQ_DIV) Fld.AQ_DIV_CYCLES, sel := sel,
                           value := s.rd64 (strandA k Reg.AQ_PT_VAL_LO), care := mask,
                           nextSample := s.now + s.fld (strandA k Reg.AQ_DIV) Fld.AQ_DIV_CYCLES * cycU,
                           store := old.store, spilled := old.spilled }
    let s2 := (s1.wr (strandA k Reg.AQ_MISSED) 0).wr (strandA k Reg.AQ_RECNUM) 0
    let s3 := ((s2.wr (strandA k Reg.AQ_OVF) 0).setFld (strandA k Reg.AQ_DEAD) Fld.AQ_DEAD_MAX 0).setAqState k 1
    let s4 := s3.raiseIf (avg != avg0 || pre != pre0) a Fld.AQ_STAT_CFG_CLIP
    s4.raiseIf foreign a Fld.AQ_STAT_PT_FOREIGN

/-- AQ_REARM_DONE: the header of the record of strand `k` is written, `ns` nanoseconds after REARM began, within the bound of
R327; the engine re-enters PRE, or IDLE after AQ_NREC records (R320). -/
def execAqRearmDone (k : Fin 192) (ns : Nat) (s : State) : Host.Outcome State Fault Refusal :=
  if s.aqState k != 3 then .next s
  else
    let a := s.acq k
    let rows := match a.record with | some r => r.rows.length | none => 0
    let dead := min ns (1000 + (if a.measEn then rows else 0))
    let s1 := (s.advanceTo (a.rearmAt + ceilDiv (dead * 6144) 10)).aqWriteRecord k false false
    let d := strandA k Reg.AQ_DEAD
    let s2 := (s1.setFld d Fld.AQ_DEAD_LAST (min 65535 dead)).setFld d Fld.AQ_DEAD_MAX
      (max (s1.fld d Fld.AQ_DEAD_MAX) (min 65535 dead))
    let s3 := s2.modAcq k (fun a => { a with dead := dead, rows := [] })
    if a.nrec != 0 && (s3.sq k Reg.AQ_RECNUM).toNat == a.nrec then
      .next ((s3.setAqState k 0).raise (strandA k Reg.AQ_STAT) Fld.AQ_STAT_DONE)
    else .next (s3.setAqState k 1)

/-- AQ_SPILL_WRITTEN: the oldest block asked for by strand `k` has reached its spill area (R328). -/
def execAqSpillWritten (k : Fin 192) (s : State) : Host.Outcome State Fault Refusal :=
  match s.mem.reqs.findIdx? (fun r => r.use == .acq k) with
  | none => .next s
  | some i =>
    let s1 := { s with mem := { s.mem with reqs := s.mem.reqs.eraseIdx i } }
    .next ((s1.modAcq k (fun a => { a with spilled := min (a.spilled + 8192) a.inUse })).aqSpill k)

end Sys2Proof.Machine
end

