-- ==== Sys2Proof/Machine/Apply.lean ====
section
/-! DEFINITION. Update groups: what applying a shadow does in each block, strobes, captured values and the moment a strand
takes them (spec/02_register_conventions.md R46 to R53, R61 to R65), and the MARK balls. -/

namespace Sys2Proof.Machine

/-! ### Addresses -/

/-- The update group of a calibration item (spec/13_calibration.md R333). -/
def itemGroup (i : Nat) : Option Nat :=
  if i < 0x08 then some 21 else if i < 0x2B then some 22 else if i < 0x2D then some 23 else none

/-- The pin and the item of a calibration item's address. (DESIGN CHOICE, log 25) -/
def calPin (a : Nat) : Nat := (a - 0x400000) / 4 / 0x80
def calItem (a : Nat) : Nat := (a - 0x400000) / 4 % 0x80

/-- The update group of an address: a register's (R46), or a calibration item's. -/
def groupAt (a : Nat) : Option Nat :=
  if 0x400000 ≤ a then itemGroup (calItem a)
  else match regAt a with
    | some h => h.row.group
    | none => none

/-- The strand whose block an address lies in, if any. -/
def strandAt (a : Nat) : Option Nat :=
  if 0x400000 ≤ a then some (calPin a / 8)
  else match blockOf a with
    | .strand k => some k
    | .pin n => some (n / 8)
    | _ => none

/-! ### MARK balls (spec/05_sequencer.md R150) -/

/-- The level of the MARK balls: the OR of the markers of the strands enabled for each. -/
def State.markLevels (s : State) : Nat :=
  (s.strands.map (fun e => Nat.land e.2.markers (s.fld (strandA e.1 Reg.SQ_TRIG_CFG) Fld.SQ_TRIG_CFG_MARK_EN))).foldl Nat.lor 0

/-- Show the MARK balls' levels when they differ from what they were in `old`. -/
def State.showMarks (s old : State) : State :=
  if s.markLevels = old.markLevels then s else s.send (.markBalls s.markLevels s.now)

/-! ### Pins under a calibration run -/

/-- The pins of strand `k` that a calibration run uses (spec/13_calibration.md R339). -/
def State.calMask (s : State) (k : Nat) : Nat :=
  match Store.get? s.calRuns (coveOf k) with
  | some r => if r.strand = k then r.pins else 0
  | none => 0

/-- Whether pin `n` is used by a run. -/
def State.underCal (s : State) (n : Nat) : Bool := bitOf (s.calMask (n / 8)) (n % 8)

/-! ### What an application does -/

/-- Thresholds, comparator mode and hysteresis of pin `n` differ between two states. -/
def State.thresholdsDiffer (s old : State) (n : Nat) : Bool :=
  s.rd (pinA n Reg.PS_VOH) != old.rd (pinA n Reg.PS_VOH) || s.rd (pinA n Reg.PS_VOL) != old.rd (pinA n Reg.PS_VOL) ||
  s.fld (pinA n Reg.PS_CMP_CFG) Fld.PS_CMP_CFG_HYST != old.fld (pinA n Reg.PS_CMP_CFG) Fld.PS_CMP_CFG_HYST

/-- An application to PS_VOH, PS_VOL or PS_CMP_CFG of pin `n` (spec/03_pin_slice.md R81, R83, R84, R87): `old` is the state
before. -/
def State.appliedCmp (s old : State) (n : Nat) : State :=
  let s1 := s.raiseIf (s.windowInverted n && !old.windowInverted n) (pinA n Reg.PS_STAT) Fld.PS_STAT_WIN_INV
  let s2 := if s1.coveAwake (coveOf (n / 8)) then s1.holdThresholds n else s1
  if s2.fld (pinA n Reg.PS_CMP_CFG) Fld.PS_CMP_CFG_MODE != old.fld (pinA n Reg.PS_CMP_CFG) Fld.PS_CMP_CFG_MODE then
    if s2.underCal n then s2 else (s2.startComparator n).tdSleep n
  else if s2.thresholdsDiffer old n then s2.undetermine n
  else s2

/-- An application to the register at offset `off` of pin `n`. -/
def State.pinApplied (s old : State) (n off : Nat) : State :=
  let prev := old.rd (pinA n off)
  if off = Reg.PS_VIH ∨ off = Reg.PS_VIL ∨ off = Reg.PS_VTT then s.noteClip n off
  else if off = Reg.PS_VOH ∨ off = Reg.PS_VOL ∨ off = Reg.PS_CMP_CFG then s.appliedCmp old n
  else if off = Reg.PM_CTRL then if s.underCal n then s.noteRange n else s.appliedPmCtrl n prev
  else if off = Reg.PM_FORCE then s.appliedForce n prev
  else if off = Reg.PM_CLAMP_HI ∨ off = Reg.PM_CLAMP_LO then s.noteClamps n
  else if off = Reg.AD_CFG ∨ off = Reg.AD_NOTCH then if s.underCal n then s else (s.appliedAd n).aqConvStopped n
  else if Reg.AD_OFS_V ≤ off ∧ off < Reg.TD_CFG then s.disturb n
  else s

/-- An application to the register at offset `off` of strand `k`: periods (spec/04_edges_and_waves.md R106), the WAIT_SLACK
instant (spec/05_sequencer.md R145, R147), markers (R150) and the sine generator. -/
def State.strandApplied (s old : State) (k off : Nat) : State :=
  if Reg.WV_PER ≤ off ∧ off < Reg.WV_PER + 256 then
    let i := (off - Reg.WV_PER) / 4
    (s.raiseIf (decide ((s.sq k off).toNat < 512)) (strandA k Reg.WV_STAT) Fld.WV_STAT_PER_CLIP).modStrand k
      (fun t => { t with
        perOld := (t.perOld ++ [(i, (old.sq k off).toNat, s.now)]).filter (fun e => decide (t.nextAt ≤ e.2.2 + 32 * cycU)) })
  else if off = Reg.SQ_SLACK_AT_LO ∨ off = Reg.SQ_SLACK_AT_HI then
    let valid := old.flag (strandA k Reg.SQ_STATE) Fld.SQ_STATE_SLACK_VALID
    (s.raise (strandA k Reg.SQ_STATE) Fld.SQ_STATE_SLACK_VALID).modStrand k
      (fun t => { t with slackOld := some (valid, old.rd64 (strandA k Reg.SQ_SLACK_AT_LO), s.now) })
  else if off = Reg.SQ_TRIG_CFG then s.showMarks old
  else if off = Reg.SG_CTRL then s.appliedSgCtrl k (old.sq k off)
  else if off = Reg.SG_FTW_LO ∨ off = Reg.SG_FTW_HI then s.appliedFtw k
  else s

/-- What the application at address `a` brings about, beyond the new value. -/
def State.applied (s old : State) (a : Nat) : State :=
  if 0x400000 ≤ a then s
  else match blockOf a with
    | .pin n => s.pinApplied old n (a - (Block.pin n).base)
    | .strand k => s.strandApplied old k (a - (Block.strand k).base)
    | _ => s.deviceApplied old a

/-- Put values into force together (R49). -/
def State.applyAll (s : State) (l : List (Nat × Word)) : State :=
  (s.each l (fun s e => s.wr e.1 e.2)).each l (fun t e => t.applied s e.1)

/-! ### Strobes -/

/-- A strand takes strobed values at the strobe instant: IDLE, HALTED, PARKED, or in a sleeping cove (R49). -/
def State.takesNow (s : State) (k : Nat) : Bool := s.tablesOpen k || !s.coveAwake (coveOf k)

/-- A strand takes what was captured for it (R49). (DEDUCED, log 14) -/
def State.takeCaptured (s : State) (k : Nat) : State :=
  let mine := s.captured.filter (fun e => strandAt e.1 == some k)
  { s with captured := s.captured.filter (fun e => strandAt e.1 != some k) }.applyAll mine

/-- Whether an address belongs to a group of a mask. -/
def inMask (mask a : Nat) : Bool :=
  match groupAt a with
  | some g => bitOf mask g
  | none => false

/-- A strobe enters the hold queue of a strand under self-test (R63). -/
def Strand.holdStrobe (t : Strand) (mask : Word) : Strand :=
  if t.holdQ.length < 256 then { t with holdQ := t.holdQ ++ [.strobe mask] }
  else match t.holdQ.getLast? with
    | some (.strobe m) => { t with holdQ := t.holdQ.dropLast ++ [.strobe (m ||| mask)] }
    | _ => t

/-- A strobe of the groups of a mask, device-wide (R48, R49, R63). (DEDUCED, log 14) -/
def State.strobe (s : State) (mask : Word) : State :=
  let m := mask.toNat
  let testing := allStrands.filter (fun k => s.sqState k == 6)
  let s1 := s.each testing (fun s k => s.modStrand k (fun t => t.holdStrobe mask))
  let hit := s1.shadows.filter (fun e => inMask m e.1 &&
    (match strandAt e.1 with | some k => !testing.contains k | none => true))
  let atOnce := hit.filter (fun e => match strandAt e.1 with | some k => s1.takesNow k | none => true)
  let later := hit.filter (fun e => match strandAt e.1 with | some k => !s1.takesNow k | none => false)
  let keys := hit.map (·.1)
  let s2 := { s1 with
    shadows := s1.shadows.filter (fun e => !keys.contains e.1),
    captured := later.foldl (fun (c : Store Word) (e : Nat × Word) => Store.put c e.1 e.2) s1.captured }
  s2.applyAll atOnce

/-- The armed scheduled strobe fires (R51, R53). -/
def State.fireArmed (s : State) : State :=
  ((({ s with bound := none }).setFld Reg.DEV_UPD_CTRL Fld.DEV_UPD_CTRL_ARM 0).raise Reg.DEV_UPD_STAT Fld.DEV_UPD_STAT_FIRED).strobe
    (s.rd Reg.DEV_UPD_SCHED)

/-- A strobe bound to the instant of a run fires before its first step (R50). (DEDUCED, log 14) -/
def State.fireBound (s : State) (b : Nat) : State :=
  match s.bound with
  | some (_, _, t) => if s.unitsOf t ≤ b then s.fireArmed else s
  | none => s

/-- An application of groups confined to strand `k` (R64, spec/13_calibration.md R347). -/
def State.strobeStrand (s : State) (k mask : Nat) : State :=
  let hit := s.shadows.filter (fun e => inMask mask e.1 && strandAt e.1 == some k)
  let keys := hit.map (·.1)
  { s with shadows := s.shadows.filter (fun e => !keys.contains e.1) }.applyAll hit

/-- DEV_UPD_PEND: the groups with a shadow not yet applied, captured values included (R49). -/
def State.updPend (s : State) : Word :=
  ((s.shadows ++ s.captured).map (fun e => match groupAt e.1 with
    | some g => (2 : Nat) ^ g
    | none => 0)).foldl (fun (m : Word) b => m ||| BitVec.ofNat 32 b) 0

/-- Write the shadow of an update-buffered register or item (R47). -/
def State.writeShadow (s : State) (a : Nat) (v : Word) : State := { s with shadows := Store.put s.shadows a v }

/-- What an aliased write to the shadow at `a` operates on (R34): the shadow, else what was captured, else the value in force. (DEDUCED, log 14) -/
def State.shadowOf (s : State) (a : Nat) : Word :=
  match Store.get? s.shadows a with
  | some v => v
  | none => (Store.get? s.captured a).getD (s.rd a)

end Sys2Proof.Machine
end

