-- ==== Sys2Proof/Machine/Flow.lean ====
section
/-! DEFINITION. Step words, segments and the step cache: word fields (spec/05_sequencer.md R125), succession (R138), presence
of words, refill requests and the lookahead (R139 to R142; spec/07_pattern_memory.md R181, R184, R187, R200, R201). -/

namespace Sys2Proof.Machine

/-! ### Step words (R125) -/

def wordOp (w : Word64) : Nat := bitsOf w.toNat 63 58
def wordPsel (w : Word64) : Nat := bitsOf w.toNat 57 52
def wordWave (w : Word64) : Nat := bitsOf w.toNat 51 40
def wordOpnd (w : Word64) : Nat := bitsOf w.toNat 39 24
def wordUop (w : Word64) : Nat := bitsOf w.toNat 23 16
def wordData (w : Word64) : Nat := bitsOf w.toNat 15 0

/-- The flow opcodes (table *Flow opcodes*), the lash-mode bit of JIF and MATCH left out. -/
inductive FlowOp where
  | next
  | rpt
  | loopBegin
  | loopEnd
  | call
  | ret
  | jmp
  | jif
  | match_
  | trig
  | mark
  | waitSlack
  | park
  | halt
  | reserved
  deriving DecidableEq, Repr

/-- The opcode of a code (R128). -/
def flowOp : Nat → FlowOp
  | 0x00 => .next
  | 0x02 => .rpt
  | 0x04 => .loopBegin
  | 0x06 => .loopEnd
  | 0x08 => .call
  | 0x0A => .ret
  | 0x0C => .jmp
  | 0x0E => .jif
  | 0x0F => .jif
  | 0x10 => .match_
  | 0x11 => .match_
  | 0x12 => .trig
  | 0x14 => .mark
  | 0x16 => .waitSlack
  | 0x18 => .park
  | 0x1A => .halt
  | _ => .reserved

/-- JIF's condition code and whether it is reserved (R133). -/
def jifCond (w : Word64) : Nat := bitsOf (wordOpnd w) 13 10
def jifReserved (w : Word64) : Bool := flowOp (wordOp w) == .jif && decide (9 ≤ jifCond w)

/-- The lash-mode bit (R129). -/
def lashMode (w : Word64) : Bool := bitOf w.toNat 58

/-! ### Segments -/

/-- A loaded segment. -/
def State.segment? (s : State) (g : Nat) : Option Segment := Store.get? s.mem.segs g

/-- The step word at a position, in DRAM. -/
def State.wordAt (s : State) (p : Pos) : Option Word64 :=
  match s.segment? p.seg with
  | some g =>
    match Store.get? g.grans (p.off / 64) with
    | some ws => ws[p.off % 64]?
    | none => none
  | none => none

/-- What follows a word (R137, R138). -/
inductive Follow where
  | at_ (p : Pos) (crossed : Bool)    -- the next word; crossed: step 0 of the successor
  | end_                              -- no successor
  | bad                               -- the successor is not loaded
  deriving DecidableEq, Repr

/-- The word that follows position `p` without a transfer. -/
def State.follow (s : State) (p : Pos) : Follow :=
  match s.segment? p.seg with
  | none => .bad
  | some g =>
    if p.off + 1 < 64 * g.len then .at_ ⟨p.seg, p.off + 1⟩ false
    else match g.succ with
      | none => .end_
      | some n => if (s.segment? n).isSome then .at_ ⟨n, 0⟩ true else .bad

/-- The closing word that the segment image pairs with the LOOP_BEGIN at `p`, and whether the block is a MATCH block. -/
def State.closing (s : State) (p : Pos) : Option (Nat × Bool) :=
  match s.segment? p.seg with
  | none => none
  | some g => (g.pairs.find? (fun x => x.first == p.off)).map (fun x => (x.close, x.isMatch))

/-- The channel of a granule (spec/07_pattern_memory.md R181). -/
def State.granChan (s : State) (seg gran : Nat) : Nat :=
  match s.segment? seg with
  | some g => (g.chan0 + gran) % 8
  | none => 0

/-! ### The step cache (R139) -/

/-- The cached copy of a granule, if there is one. -/
def Strand.line? (t : Strand) (seg gran : Nat) : Option CacheLine :=
  t.cache.find? (fun l => l.seg == seg && l.gran == gran)

/-- The granule of a position. -/
def Pos.gran (p : Pos) : Nat := p.off / 64

/-- The word at `p` is present in strand `k`'s step cache at instant `t`, with a good copy: anchored, or cached by then. -/
def State.present (s : State) (k : Nat) (p : Pos) (t : Nat) : Bool :=
  (s.strand k).anchored.contains p.seg ||
  (match (s.strand k).line? p.seg p.gran with
   | some l => l.good && decide (l.at_ ≤ t)
   | none => false)

/-- The granule of `p` is held marked as without a good copy at instant `t` (spec/07_pattern_memory.md R197). -/
def State.marredAt (s : State) (k : Nat) (p : Pos) (t : Nat) : Bool :=
  match (s.strand k).line? p.seg p.gran with
  | some l => !l.good && decide (l.at_ ≤ t)
  | none => false

/-- Steps anchored for strand `k` (SQ_ANCH). -/
def State.anchoredSteps (s : State) (k : Nat) : Nat := s.fld (strandA k Reg.SQ_ANCH) Fld.SQ_ANCH_STEPS

/-- Granules of strand `k`'s step cache that are not anchored (R139): 8,192 steps less the anchored ones. -/
def State.cacheRoom (s : State) (k : Nat) : Nat := (8192 - s.anchoredSteps k) / 64

/-! ### Requests -/

/-- Class 1 requests outstanding on a channel. -/
def State.panicOn (s : State) (ch : Nat) : Nat := (s.mem.reqs.filter (fun r => r.cls == 1 && r.chan == ch)).length

/-- The stream of a segment, if it is streamed. -/
def State.streamOf (s : State) (seg : Nat) : Option Nat :=
  match s.segment? seg with
  | some g => g.stream
  | none => none

/-- An MC_STRMn register; the streams are 0 to 15. -/
def strmA (off n : Nat) : Nat := off + 16 * (n % 16)

/-- The strand bound to stream `n`, 255 when none (R201). -/
def State.streamStrand (s : State) (n : Nat) : Nat := s.fld (strmA Reg.MC_STRM_STAT n) Fld.MC_STRM_STAT_STRAND

/-- A streamed segment bound to another strand than `k` (R201). -/
def State.streamForeign (s : State) (k seg : Nat) : Bool :=
  match s.streamOf seg with
  | some n => s.streamStrand n != 255 && s.streamStrand n != k
  | none => false

/-- The granule can be fetched from DRAM: of a stored segment, or pulled (R202). -/
def State.fetchable (s : State) (seg gran : Nat) : Bool :=
  match s.segment? seg with
  | some g => decide (gran < g.len) && (g.stream.isNone || (Store.get? g.grans gran).isSome)
  | none => false

/-- Request a granule for strand `k`, unless it is cached, anchored, requested or cannot be fetched (R140). The first strand
that fetches from a stream binds it (R201). `target` marks a target the lookahead did not determine (R184). -/
def State.request (s : State) (k seg gran : Nat) (target : Bool) : State :=
  let t := s.strand k
  if t.anchored.contains seg || (t.line? seg gran).isSome || !s.fetchable seg gran || s.streamForeign k seg ||
      s.mem.repairs.contains (k, seg, gran) then s
  else if s.mem.reqs.any (fun r => r.use == .refill k seg gran) then
    if target then { s with mem := { s.mem with reqs := s.mem.reqs.map (fun r =>
      if r.use = .refill k seg gran ∧ r.cls ≠ 1 then { r with cls := 1, promoted := true, at_ := s.now, older := s.panicOn r.chan } else r) } }
    else s
  else
    let s1 := match s.streamOf seg with
      | some n => if s.streamStrand n = 255 then s.setFld (strmA Reg.MC_STRM_STAT n) Fld.MC_STRM_STAT_STRAND k else s
      | none => s
    let ch := s1.granChan seg gran
    { s1 with mem := { s1.mem with reqs := s1.mem.reqs ++
      [⟨.refill k seg gran, if target then 1 else 3, ch, s1.now, target, s1.panicOn ch⟩] } }

/-! ### The lookahead (R140) -/

/-- A walk ahead: the granules reached, in order, and the step words present along the path. -/
structure Walk where
  grans : List (Nat × Nat) := []
  present : Nat := 0
  deriving DecidableEq, Repr

/-- Note a granule as reached. -/
def Walk.reach (w : Walk) (seg gran : Nat) : Walk :=
  if w.grans.contains (seg, gran) then w else { w with grans := w.grans ++ [(seg, gran)] }

/-- Walk on from a position: `dist` step starts are left, `first` replaces the repetitions of an RPT in progress. -/
def State.walk (s : State) (k : Nat) : Nat → Nat → Option Pos → List LoopFrame → List CallFrame → Option Nat → Walk → Walk
  | 0, _, _, _, _, _, w => w
  | _, 0, _, _, _, _, w => w
  | _, _, none, _, _, _, w => w
  | fuel + 1, dist, some p, loops, calls, first, w =>
    let w1 := w.reach p.seg p.gran
    let after (q : Pos) : Option Pos := match s.follow q with | .at_ r _ => some r | _ => none
    if !s.present k p s.now then
      -- sequential flow over the whole granule (R140)
      let n := 64 - p.off % 64
      s.walk k fuel (dist - n) (after ⟨p.seg, p.off + n - 1⟩) loops calls none w1
    else match s.wordAt p with
      | none => w1
      | some x =>
        let w2 := { w1 with present := w1.present + 1 }
        let start0 (g : Nat) : Option Pos := if (s.segment? g).isSome then some ⟨g, 0⟩ else none
        match flowOp (wordOp x) with
        | .rpt => s.walk k fuel (dist - (match first with | some n => n | none => wordOpnd x + 1)) (after p) loops calls none w2
        | .loopBegin =>
          if wordOpnd x = 0 then
            match s.closing p with
            | some (c, _) => s.walk k fuel (dist - 1) (after ⟨p.seg, c⟩) loops calls none w2
            | none => w2
          else s.walk k fuel (dist - 1) (after p)
            (⟨(after p).getD p, wordOpnd x, 0, none⟩ :: loops) calls none w2
        | .loopEnd =>
          match loops with
          | [] => w2
          | f :: t =>
            if 1 < f.left then s.walk k fuel (dist - 1) (some f.body) ({ f with left := f.left - 1 } :: t) calls none w2
            else s.walk k fuel (dist - 1) (after p) t calls none w2
        | .match_ =>
          let w3 := match after p with | some q => w2.reach q.seg q.gran | none => w2
          match loops with
          | [] => w3
          | f :: t =>
            if 1 < f.left then s.walk k fuel (dist - 1) (some f.body) ({ f with left := f.left - 1 } :: t) calls none w3
            else s.walk k fuel (dist - 1) (after p) t calls none w3
        | .call => s.walk k fuel (dist - 1) (start0 (wordOpnd x)) loops (⟨p, loops.length⟩ :: calls) none w2
        | .ret =>
          match calls with
          | [] => w2
          | c :: t => s.walk k fuel (dist - 1) (after c.ret) loops t none w2
        | .jmp => s.walk k fuel (dist - 1) (start0 (wordOpnd x)) loops calls none w2
        | .halt => w2
        | .reserved => w2
        | _ => s.walk k fuel (dist - 1) (after p) loops calls none w2

/-- The walk of strand `k` from its next word over `reach` step starts. -/
def State.walkFrom (s : State) (k reach : Nat) : Walk :=
  let t := s.strand k
  let first := if t.after then (match s.follow t.pos with | .at_ q _ => some q | _ => none) else some t.pos
  s.walk k (reach + 1) reach first t.loops t.calls t.rptLeft {}

/-- The class of strand `k`'s refill requests follows its refill buffer (spec/07_pattern_memory.md R184). -/
def State.reclass (s : State) (k present : Nat) : State :=
  let level := clipTo 1 16 (s.fld Reg.MC_REFILL_CFG Fld.MC_REFILL_CFG_PANIC) * 64
  let panic := decide (present < level)
  { s with mem := { s.mem with reqs := s.mem.reqs.map (fun r =>
    match r.use with
    | .refill j _ _ =>
      if j = k then
        if panic && r.cls != 1 then { r with cls := 1, at_ := s.now, older := s.panicOn r.chan }
        else if !panic && r.cls == 1 && !r.promoted then { r with cls := 3, at_ := s.now }
        else r
      else r
    | _ => r) } }

/-- The lookahead of strand `k` (R140): request each granule on its path that is not in the cache. -/
def State.lookahead (s : State) (k : Nat) : State :=
  let w := s.walkFrom k 1024
  (s.each w.grans (fun s g => s.request k g.1 g.2 false)).reclass k w.present

/-- The granules that may not be displaced: on the path, at the position, or of a loop body that R141 keeps. -/
def State.protected (s : State) (k : Nat) : List (Nat × Nat) :=
  let t := s.strand k
  let path := (s.walkFrom k 1024).grans
  let bodies := t.loops.flatMap (fun f =>
    match s.segment? f.body.seg with
    | none => []
    | some g =>
      match g.pairs.find? (fun x => x.first + 1 == f.body.off) with
      | none => []
      | some x =>
        if x.close - x.first ≤ 8192 - s.anchoredSteps k - 1024 then
          (List.range (x.close / 64 - f.body.off / 64 + 1)).map (fun i => (f.body.seg, f.body.off / 64 + i))
        else [])
  bodies ++ path

/-- Put a granule into strand `k`'s step cache at instant `t`, displacing another when it is full; which one, of those that
may be displaced, the spec leaves open. (DESIGN CHOICE, log 16) -/
def State.cacheGranule (s : State) (k seg gran : Nat) (good : Bool) (t : Nat) : State :=
  let st := s.strand k
  let others := st.cache.filter (fun l => !(l.seg == seg && l.gran == gran))
  let line : CacheLine := ⟨seg, gran, good, t⟩
  if others.length < s.cacheRoom k then s.setStrand k { st with cache := others ++ [line] }
  else
    let keep := s.protected k
    let cand := others.filter (fun l => !keep.contains (l.seg, l.gran))
    let pool := if cand.isEmpty then others else cand
    let (f, s1) := s.free
    match pool[f % pool.length]? with
    | some v => s1.setStrand k { st with cache := others.filter (fun l => !(l == v)) ++ [line] }
    | none => s1

end Sys2Proof.Machine
end

