-- ==== Sys2Proof/Machine/FailCore.lean ====
section
/-! DEFINITION. The fail path's shared operations (spec/08_fail_capture.md): imbalance reports, ledger checks, the fail flag, the
journal writer, and the die of a strand in the placement in force. -/

namespace Sys2Proof.Machine

/-! ### The placement in force -/

/-- The strand entry of the placement in force (spec/10_placement_and_lashing.md R274). -/
def State.entryOf (s : State) (k : Nat) : StrandEntry :=
  match s.place.table with
  | some t => Store.getD t.strands k {}
  | none => {}

/-- The strands of a die placed in the placement in force, rising. -/
def State.dieStrands (s : State) (d : Nat) : List Nat :=
  allStrands.filter (fun k => (s.entryOf k).placed && (s.entryOf k).die == some d)

/-- Whether a die is placed in the placement in force. -/
def State.diePlaced (s : State) (d : Nat) : Bool := !(s.dieStrands d).isEmpty

/-- The dies placed, rising. -/
def State.placedDies (s : State) : List Nat :=
  match s.place.table with
  | some t => (t.types.map (·.1)).filter (fun d => s.diePlaced d)
  | none => []

/-! ### Counters -/

/-- The value of a 64-bit ledger counter of strand `k` by the offset of its low word. -/
def State.led (s : State) (k off : Nat) : Nat := s.rd64 (strandA k off)

/-- Add to it. -/
def State.addLed (s : State) (k off n : Nat) : State := s.add64 (strandA k off) n

/-- Events of strand `k` formed and queued that no lane and no journal-only decision has taken (R220): those in its fail queue
and in the input queues of the lanes (spec/09_splice_engine.md R241). -/
def State.inflight (s : State) (k : Nat) : Nat :=
  (s.strand k).failQ.length + ((s.splice.lanes.flatMap (fun e => e.2.input)).filter (fun e => e.strand == k)).length

/-! ### Reports (R228) -/

/-- What the splice engine keeps of a die. -/
def State.dieRec (s : State) (d : Nat) : DieRec := Store.getD s.splice.dies d {}

/-- Change it. -/
def State.modDie (s : State) (d : Nat) (f : DieRec → DieRec) : State :=
  { s with splice := { s.splice with dies := Store.putD s.splice.dies d (f (s.dieRec d)) {} } }

/-- Records that have entered the journal writer since the journal reset: the position of the next one (R212, R213). -/
def State.jrnPos (s : State) : Nat := 4 * s.failPath.nextGroup + s.failPath.buffer.length

/-- A signed difference as FL_IMB1 shows it: two's complement of 24 bits, saturating at 8,388,607 either way. -/
def imbDiff (d : Int) : Nat := unsigned 24 (max (-8388607) (min 8388607 d))

/-- Report an imbalance of a kind at a location (R228); `strand` for FL_IMB1. -/
def State.imbalance (s : State) (kind loc strand : Nat) (d : Int) (source bit : Nat) : State :=
  let s1 := s.satAdd Reg.FL_IMB_CNT Fld.FL_IMB_CNT_COUNT 1
  let s2 := s1.wr Reg.FL_IMB0 (BitVec.ofNat 32 (kind * 2 ^ 28 + loc))
  let s3 := s2.wr Reg.FL_IMB1 (BitVec.ofNat 32 (strand * 2 ^ 24 + imbDiff d))
  (s3.raise Reg.FL_DEV_STAT Fld.FL_DEV_STAT_IMBALANCE).fault source bit loc

/-- A fail or journal imbalance of strand `k` marks its die for reanalysis. -/
def State.markStrandDie (s : State) (k : Nat) : State :=
  match (s.entryOf k).die with
  | some d => s.modDie d (fun r => { r with imbalances := r.imbalances ++ [s.jrnPos] })
  | none => s

/-- A step ledger imbalance of strand `k` (R157). -/
def State.stepImb (s : State) (k : Nat) (d : Int) : State :=
  (s.raise (strandA k Reg.SQ_STAT) Fld.SQ_STAT_LEDGER_ERR).imbalance 2 k 0 d (srcStrand k) 1

/-- A fail ledger imbalance of strand `k`. -/
def State.failImb (s : State) (k : Nat) (d : Int) : State :=
  ((s.raise (strandA k Reg.FL_STAT) Fld.FL_STAT_LEDGER_ERR).imbalance 1 k 0 d (srcStrand k) 1).markStrandDie k

/-- A journal imbalance of strand `k` found by the check at a halt or a LEDGER_READ. -/
def State.jrnImb (s : State) (k loc strand : Nat) (d : Int) : State :=
  ((s.raise (strandA k Reg.FL_STAT) Fld.FL_STAT_LEDGER_ERR).imbalance 3 loc strand d srcJournal 2).markStrandDie k

/-! ### Checks (R157, R226) -/

/-- The difference of the step ledger of strand `k`. -/
def State.stepDiff (s : State) (k : Nat) : Int :=
  (s.led k Reg.SQ_ISSUED_LO : Int) - ((s.led k Reg.SQ_EXEC_LO : Int) + (s.led k Reg.SQ_HELD_LO : Int))

/-- The check of the step ledger. -/
def State.checkStep (s : State) (k : Nat) : State := if s.stepDiff k = 0 then s else s.stepImb k (s.stepDiff k)

/-- The difference of the fail ledger of strand `k`. -/
def State.failDiff (s : State) (k : Nat) : Int :=
  (s.led k Reg.FL_SEEN_LO : Int) - ((s.led k Reg.FL_FOLDED_LO : Int) + (s.led k Reg.FL_SPILLED_LO : Int) +
    (s.led k Reg.FL_COUNTED_ONLY_LO : Int) + (s.inflight k : Int))

/-- The difference of the journal identity of strand `k`. -/
def State.jrnDiff (s : State) (k : Nat) : Int :=
  ((s.led k Reg.FL_JRN_EV_LO : Int) - ((s.strand k).baseJ : Int)) -
    ((s.led k Reg.FL_FOLDED_LO : Int) + (s.led k Reg.FL_SPILLED_LO : Int) - ((s.strand k).baseF : Int))

/-- No record of strand `k` waits in the writer, its group buffer or on its way to DRAM. -/
def State.writerEmpty (s : State) (k : Nat) : Bool :=
  (s.failPath.buffer.all (fun r => r.strand != k)) &&
  (s.failPath.writing.all (fun g => g.2.all (fun r => r.strand != k))) && (s.strand k).mark.isNone

/-- Whether the journal check of strand `k` can be made. -/
def State.jrnCheckable (s : State) (k : Nat) : Bool := s.inflight k == 0 && s.writerEmpty k

/-- The check of the fail ledger and of the journal identity: `check_strand`. -/
def State.checkStrand (s : State) (k : Nat) : State :=
  let s1 := if s.failDiff k = 0 then s else s.failImb k (s.failDiff k)
  if s1.jrnCheckable k && s1.jrnDiff k != 0 then s1.jrnImb k k 0 (s1.jrnDiff k) else s1

/-! ### The FAIL flag (spec/05_sequencer.md R134) -/

/-- The FAIL flag of strand `k` as the host reads it. -/
def State.failFlag (s : State) (k : Nat) : Bool := !(s.strand k).failTimes.isEmpty

/-- The FAIL flag of strand `k` as a test sees it that covers strobes fired at or before `w`. -/
def State.failSeen (s : State) (k w : Nat) : Bool := (s.strand k).failTimes.any (fun t => decide (t ≤ w))

/-- Set the FAIL flag for strobes fired at the instants of a list. -/
def Strand.setFail (t : Strand) (l : List Nat) : Strand :=
  { t with failTimes := t.failTimes ++ l.filter (fun x => !t.failTimes.contains x) }

/-- A test with CLR clears what it saw (R133). -/
def State.clearFail (s : State) (k w : Nat) : State :=
  s.modStrand k (fun t => { t with failTimes := t.failTimes.filter (fun x => decide (w < x)) })

/-! ### Traffic (spec/07_pattern_memory.md R199) -/

/-- Bytes moved at a port: above MC_BUDGET_TOTAL over 100 µs, MC_STAT.BUDGET_OVER sets. -/
def State.traffic (s : State) (bytes : Nat) : State :=
  let l := (s.mem.traffic.filter (fun e => decide (s.now ≤ e.1 + 100 * usU))) ++ [(s.now, bytes)]
  let s1 := { s with mem := { s.mem with traffic := l } }
  s1.raiseIf (decide (s1.fld Reg.MC_BUDGET_TOTAL Fld.MC_BUDGET_TOTAL_MBPS * 100 < (l.map (·.2)).foldl (· + ·) 0))
    Reg.MC_STAT Fld.MC_STAT_BUDGET_OVER

/-! ### The journal writer (R212 to R217) -/

/-- A pad record. -/
def padRec : JrnRec := ⟨255, 4, 0, 0, 0, 0, 0, 0, 0, 0, 0⟩

/-- Close the group being filled: pad it and send it to DRAM at class 2 (R212). -/
def State.closeGroup (s : State) : State :=
  let f := s.failPath
  if f.buffer.isEmpty then s
  else
    { s with failPath := { f with
        buffer := [], writing := f.writing ++ [(f.nextGroup, padTo 4 padRec f.buffer)], nextGroup := f.nextGroup + 1 } }

/-- A record enters the journal writer's group buffer. -/
def State.enterRecord (s : State) (r : JrnRec) : State :=
  let f := s.failPath
  let s1 := { s with failPath := { f with
    buffer := f.buffer ++ [r], since := if f.buffer.isEmpty then s.now else f.since } }
  if 4 ≤ s1.failPath.buffer.length then s1.closeGroup else s1

/-- A time-base record, when one is due before the next record (R216): the first record after a journal reset. -/
def State.needBase (s : State) : State :=
  match s.failPath.base with
  | some _ => s
  | none =>
    let b := s.now / cycU
    ({ s with failPath := { s.failPath with base := some b } }).enterRecord
      ⟨255, 3, (s.tideNow : Int), 0, 0, 0, 0, 0, 0, 0, 0⟩

/-- Journal a record of strand `k` with step start `start` (R213 to R216): SEQ and TIME are taken here. -/
def State.journalRec (s : State) (k start type x y z die pins flags ev32 : Nat) : State :=
  let s1 := s.needBase
  let base := (s1.failPath.base).getD 0
  let q := (s1.strand k).seq
  (s1.modStrand k (fun t => { t with seq := t.seq + 1 })).enterRecord
    ⟨k, type, ((start / cycU : Nat) : Int) - (base : Int), x, y, z, die, pins, q % 16, flags, ev32⟩

/-- Free groups of the journal (R211): those that FL_JRN_WP has not counted as written. -/
def State.jrnFree (s : State) : Nat := 8388608 - s.fld Reg.FL_JRN_WP Fld.FL_JRN_WP_GROUPS

end Sys2Proof.Machine
end

