-- ==== Sys2Proof/Machine/HostCore.lean ====
section
/-! DEFINITION. The host transport's shared operations (spec/14_host_transport.md): RDMA requests on a QP, completions, QP
states, buffer references, and the indices the host moves. -/

namespace Sys2Proof.Machine

/-! ### Queue pairs -/

/-- What QP `q` holds. -/
def State.qp (s : State) (q : Nat) : Qp := Store.getD s.qps q {}

/-- Replace it. -/
def State.setQp (s : State) (q : Nat) (v : Qp) : State := { s with qps := Store.putD s.qps q v {} }

/-- Change it. -/
def State.modQp (s : State) (q : Nat) (f : Qp → Qp) : State := s.setQp q (f (s.qp q))

/-- The path MTU of QP `q` (HT_QPn_CTRL.MTU). -/
def State.mtu (s : State) (q : Nat) : Nat :=
  match s.fld (qpA q Reg.HT_QP_CTRL) Fld.HT_QP_CTRL_MTU with
  | 1 => 2048
  | 2 => 4096
  | _ => 1024

/-- The tag priority of QP `q`'s frames, when they carry a tag. -/
def State.qpTag (s : State) (q : Nat) : Option Nat :=
  if s.flag (qpA q Reg.HT_QP_VLAN) Fld.HT_QP_VLAN_TAG_EN then some (s.fld (qpA q Reg.HT_QP_VLAN) Fld.HT_QP_VLAN_PCP) else none

/-- Bytes of a RoCEv2 frame with a payload (R350): Ethernet, tag, IPv4, UDP, base transport header, the extended header of
`ext` bytes, payload padded to 4, ICRC and FCS, at least 64. -/
def roceLen (tagged : Bool) (ext payload : Nat) : Nat :=
  max 64 (14 + (if tagged then 4 else 0) + 20 + 8 + 12 + ext + ceilDiv payload 4 * 4 + 4 + 4)

/-- Send one RoCEv2 packet of QP `q` (R351). -/
def State.sendRoce (s : State) (q psn ext payload : Nat) (pkt : RocePkt) : State :=
  let tag := s.qpTag q
  let len := roceLen tag.isSome ext payload
  s.sendOwn (s.hostPort (s.fld (qpA q Reg.HT_QP_CTRL) Fld.HT_QP_CTRL_PORT)) (s.classOf tag) len (.roce q psn tag len pkt)

/-- Cut data into packets of at most `mtu` bytes; no data still make one packet. -/
def chunks (mtu : Nat) : Nat → List Byte → List (List Byte)
  | 0, d => [d]
  | n + 1, d => if d.length ≤ mtu then [d] else d.take mtu :: chunks mtu n (d.drop mtu)

/-- Packets of a message of `n` bytes. -/
def packets (mtu n : Nat) : Nat := max 1 (ceilDiv n mtu)

/-- The PSN `n` packets on from `psn`, and how far `psn` lies past `e`: packet sequence numbers have 24 bits (R350, RoCEv2). -/
def psnAdd (psn n : Nat) : Nat := (BitVec.ofNat 24 (psn + n)).toNat
def psnGap (psn e : Nat) : Nat := (BitVec.ofNat 24 psn - BitVec.ofNat 24 e).toNat

/-- The packets of a request of QP `q` from a send PSN on, and the PSN after it. -/
def State.sendRequest (s : State) (q psn : Nat) (r : Rdma) : State × Nat :=
  let m := s.mtu q
  match r.use with
  | some _ => (s.sendRoce q psn 16 0 (.readReq r.va r.rkey r.len), psnAdd psn (packets m r.len))
  | none =>
    (chunks m (r.data.length / m + 1) r.data).foldl (fun (x : State × Nat) d =>
      (x.1.sendRoce q x.2 (if x.2 = psn then 16 else 0) d.length (.write r.va r.rkey r.data.length d), psnAdd x.2 1)) (s, psn)

/-- Send requests of QP `q` that wait, in order, while it may: 16 RDMA READs may be outstanding (R350). -/
def State.pumpQp : Nat → State → Nat → State
  | 0, s, _ => s
  | n + 1, s, q =>
    let p := s.qp q
    match p.queue with
    | [] => s
    | r :: rest =>
      if r.use.isSome && decide (16 ≤ (p.out.filter (fun x => x.use.isSome)).length) then s
      else
        let (s1, psn) := s.sendRequest q p.sPsn r
        State.pumpQp n (s1.setQp q { p with
          queue := rest, out := p.out ++ [r], sPsn := psn, progress := if p.out.isEmpty then s.now else p.progress }) q

/-- Post an RDMA request on QP `q`; only a QP in RTS takes one. -/
def State.post (s : State) (q : Nat) (r : Rdma) : State :=
  if s.qpRts q then State.pumpQp ((s.qp q).queue.length + 1) (s.modQp q (fun p => { p with queue := p.queue ++ [r] })) q else s

/-- Write bytes to host memory on QP `q`. -/
def State.rdmaWrite (s : State) (q va rkey : Nat) (data : List Byte) : State := s.post q ⟨none, va, rkey, data.length, data⟩

/-- Read host memory on QP `q`. -/
def State.rdmaRead (s : State) (q va rkey len : Nat) (use : ReadUse) : State := s.post q ⟨some use, va, rkey, len, []⟩

/-! ### Rings -/

/-- The entries of QP `q`'s command and completion rings, the exponents within 4 to 16 (R359). -/
def State.cmdSize (s : State) (q : Nat) : Nat := 2 ^ s.fld (qpA q Reg.HT_QP_RING) Fld.HT_QP_RING_CMD_LOG2
def State.cplSize (s : State) (q : Nat) : Nat := 2 ^ s.fld (qpA q Reg.HT_QP_RING) Fld.HT_QP_RING_CPL_LOG2

/-- The PHASE bit of index `i` in a ring of `n` entries (R360). -/
def phaseBit (i n : Nat) : Nat := if (i / n) % 2 = 0 then 1 else 0

/-- The value of an index register. -/
def State.qidx (s : State) (q off : Nat) : Nat := (s.rd (qpA q off)).toNat

/-! ### Events and QP states -/

/-- QP `q` leaves RTS for state `st` (R354, R356): nothing more is fetched or sent, its started commands lose their
completions, PRIV clears. Commands still waiting for data from the host end. -/
def State.leaveRts (s : State) (q st : Nat) : State :=
  let s1 := (s.setFld (qpA q Reg.HT_QP_CTRL) Fld.HT_QP_CTRL_STATE st).setFld (qpA q Reg.HT_QP_PRIV) Fld.HT_QP_PRIV_PRIV 0
  let s2 := s1.modQp q (fun p => { p with out := [], queue := [], fetched := [], retries := 0 })
  let ended := s2.host.cmds.any (fun (c : HostCmd) => c.qp == q && c.stage == CmdStage.reading)
  let s3 := { s2 with host := { s2.host with
    cmds := (s2.host.cmds.filter (fun (c : HostCmd) => !(c.qp == q && c.stage == CmdStage.reading))).map
      (fun (c : HostCmd) => if c.qp = q then { c with lost := true } else c) } }
  let s4 := s3.raiseIf ended (qpA q Reg.HT_QP_STAT) Fld.HT_QP_STAT_CPL_LOST
  let s5 := { s4 with mem := { s4.mem with repairs := s4.mem.repairs.filter (fun r =>
      !(s4.mem.streams.any (fun e => e.2.seg == r.2.1 && e.2.qp == q))) } }
  if s5.fld Reg.HT_EVT_CFG Fld.HT_EVT_CFG_QP = q then s5.dropEvents else s5

/-- QP `q` enters ERROR (R354). -/
def State.qpError (s : State) (q : Nat) : State := if s.qpRts q then s.leaveRts q 2 else s

/-! ### Completions -/

/-- Write a completion on QP `q` (R360, R373). -/
def State.writeCompletion (s : State) (q idx tag op status detail r0 r1 : Nat) : State :=
  let i := s.qidx q Reg.HT_QP_CPL_PI
  let n := s.cplSize q
  let entry := leBytes 4 tag ++ leBytes 4 idx ++ leBytes 1 op ++ leBytes 1 status ++ leBytes 1 (phaseBit i n) ++ leBytes 1 0 ++
    leBytes 4 detail ++ leBytes 8 r0 ++ leBytes 8 r1
  (s.rdmaWrite q (s.rd64 (qpA q Reg.HT_QP_CPL_BASE_LO) + (i % n) * 32) (s.rd (qpA q Reg.HT_QP_CPL_RKEY)).toNat entry).wr
    (qpA q Reg.HT_QP_CPL_PI) (BitVec.ofNat 32 (i + 1))

/-- A command, by QP and index, completes (R367, R373); a completion of a QP that left RTS is not written (R354). -/
def State.complete (s : State) (q idx status detail r0 r1 : Nat) : State :=
  match s.host.cmds.find? (fun c => c.qp == q && c.idx == idx) with
  | none => s
  | some c =>
    let s1 := { s with host := { s.host with cmds := s.host.cmds.filter (fun d => !(d.qp == q && d.idx == idx && d.lost == c.lost)) } }
    if c.lost then s1.raise (qpA q Reg.HT_QP_STAT) Fld.HT_QP_STAT_CPL_LOST
    else s1.writeCompletion q idx (leAt c.desc 4 4) (leAt c.desc 0 1) status detail r0 r1

/-- Complete a command with no results. -/
def State.completeWith (s : State) (c : HostCmd) (status detail : Nat) : State := s.complete c.qp c.idx status detail 0 0

/-- Change a started command. -/
def State.modCmd (s : State) (q idx : Nat) (f : HostCmd → HostCmd) : State :=
  { s with host := { s.host with cmds := s.host.cmds.map (fun c => if c.qp = q ∧ c.idx = idx then f c else c) } }

/-- Fields of a descriptor: opcode, and a little-endian field at an offset (R366). -/
def HostCmd.op (c : HostCmd) : Nat := leAt c.desc 0 1
def HostCmd.arg (c : HostCmd) (off n : Nat) : Nat := leAt c.desc off n

/-- A buffer reference at an offset of a descriptor: ADDR, LEN and RKEY (R366). -/
def HostCmd.bufAddr (c : HostCmd) (off : Nat) : Nat := c.arg off 8
def HostCmd.bufLen (c : HostCmd) (off : Nat) : Nat := c.arg (off + 8) 4
def HostCmd.bufKey (c : HostCmd) (off : Nat) : Nat := c.arg (off + 12) 4

/-- Write bytes into the OUT buffer at an offset of a descriptor. -/
def State.writeOut (s : State) (c : HostCmd) (off : Nat) (data : List Byte) : State :=
  if c.lost then s else s.rdmaWrite c.qp (c.bufAddr off) (c.bufKey off) data

/-- The strands of a 24-byte strand mask at an offset (R366), rising. -/
def HostCmd.mask (c : HostCmd) (off : Nat) : List Nat :=
  let m := c.arg off 24
  allStrands.filter (fun k => bitOf m k)

/-- The oldest command whose own row has not acted, when it has opcode `op`: commands act in the order in which they start
(R369). -/
def State.nextCmd (s : State) (op : Nat) : Option HostCmd :=
  match s.host.cmds.find? (fun c => c.stage == .started) with
  | some c => if c.op = op then some c else none
  | none => none

/-- The oldest command of opcode `op` at a stage, whatever stands before it. -/
def State.cmdAt (s : State) (op : Nat) (stage : CmdStage) : Option HostCmd :=
  s.host.cmds.find? (fun c => c.op == op && c.stage == stage)

end Sys2Proof.Machine
end

