-- ==== Sys2Proof/Machine/Stops.lean ====
section
/-! DEFINITION. Stops of strands (spec/05_sequencer.md R152, R153; spec/10_placement_and_lashing.md R285): causes and their
ranking, parks and halts and what they bring about, lash syncs as stops change them, and commands that wait for strands. -/

namespace Sys2Proof.Machine

/-! ### Causes -/

/-- The code of a cause (table *Stop causes*). -/
def Cause.code : Cause → Nat
  | .none => 0x00
  | .haltOp => 0x01
  | .parkOp => 0x02
  | .hostHalt => 0x03
  | .underrun => 0x04
  | .breakwater => 0x05
  | .illegalOp => 0x06
  | .nestOvf => 0x07
  | .nestUnf => 0x08
  | .loopOpen => 0x09
  | .badSeg => 0x0A
  | .integrity => 0x0B
  | .slackMissed => 0x0C
  | .syncTo => 0x0D
  | .matchTo => 0x0E
  | .endOfSeg => 0x0F
  | .thermal => 0x10
  | .slack => 0x11
  | .deviceFault => 0x12
  | .clockLoss => 0x13

/-- The rank of a cause (R153): the lower prevails. -/
def Cause.rank : Cause → Nat
  | .clockLoss => 1
  | .deviceFault => 2
  | .slack => 3
  | .breakwater => 4
  | .thermal => 5
  | .hostHalt => 6
  | .haltOp => 8
  | .parkOp => 9
  | .underrun => 10
  | .none => 99
  | _ => 7

/-- The rank of a cause code. -/
def rankOfCode (c : Nat) : Nat :=
  match c with
  | 0x13 => 1
  | 0x12 => 2
  | 0x11 => 3
  | 0x05 => 4
  | 0x10 => 5
  | 0x03 => 6
  | 0x01 => 8
  | 0x02 => 9
  | 0x04 => 10
  | 0x00 => 99
  | _ => 7

/-- Parks; every other cause halts (R152). -/
def Cause.isPark : Cause → Bool
  | .parkOp => true
  | .underrun => true
  | _ => false

/-- The cause of a list that prevails; the earlier of equal rank. -/
def worst : List Cause → Cause
  | [] => .none
  | c :: t => if (worst t).rank < c.rank then worst t else c

/-! ### Registers of the flow -/

/-- Set SQ_STATE.STATE. -/
def State.setSqState (s : State) (k st : Nat) : State := s.setFld (strandA k Reg.SQ_STATE) Fld.SQ_STATE_STATE st

/-- Set the position registers (SQ_SEG, SQ_OFFS). -/
def State.setSqPos (s : State) (k seg off : Nat) : State :=
  (s.setFld (strandA k Reg.SQ_SEG) Fld.SQ_SEG_SEG seg).setFld (strandA k Reg.SQ_OFFS) Fld.SQ_OFFS_OFFS off

/-- Do `f` as at instant `t`, earlier or later than the device clock. -/
def State.atInstant (s : State) (t : Nat) (f : State → State) : State :=
  let s1 := f { s with now := t }
  { s1 with now := max s.now s1.now }

/-- A held step of strand `k` begins at `t` (R156): a step start at which captured values are taken (R49). -/
def State.heldStart (s : State) (k t : Nat) : State :=
  let s1 := s.atInstant t (fun s => s.takeCaptured k)
  let s2 := (s1.addLed k Reg.SQ_ISSUED_LO 1).addLed k Reg.SQ_HELD_LO 1
  s2.setFld (strandA k Reg.WV_ACC) Fld.WV_ACC_RESIDUE (t % cycU)

/-- Its duration is added (R156). -/
def State.heldFor (s : State) (k d : Nat) : State := s.addLed k Reg.SQ_HOLD_TIME_LO d

/-! ### Streams -/

/-- A segment ceases to be loaded: its groups are freed, and cached copies of its granules and requests for them go. -/
def State.dropSegment (s : State) (g : Nat) : State :=
  match s.segment? g with
  | none => s
  | some x =>
    let s1 := { s with mem := { s.mem with
      segs := Store.del s.mem.segs g,
      reqs := s.mem.reqs.filter (fun r => match r.use with | .refill _ sg _ => sg != g | _ => true) } }
    let s2 := s1.each (s1.strands.map (·.1)) (fun s k => s.modStrand k (fun t =>
      { t with cache := t.cache.filter (fun l => l.seg != g) }))
    s2.setFld Reg.MC_FREE Fld.MC_FREE_GROUPS (s2.fld Reg.MC_FREE Fld.MC_FREE_GROUPS + x.groups.length)

/-- Stream `n` closes (spec/07_pattern_memory.md R201, R202): its charge is removed and its segment, which came with it,
ceases to be loaded. (DEDUCED, log 49) -/
def State.closeStream (s : State) (n : Nat) : State :=
  match Store.get? s.mem.streams n with
  | none => s
  | some x =>
    let s1 := { s with mem := { s.mem with streams := Store.del s.mem.streams n } }
    let s2 := s1.setFld Reg.MC_BUDGET_USED Fld.MC_BUDGET_USED_MBPS (s1.fld Reg.MC_BUDGET_USED Fld.MC_BUDGET_USED_MBPS - x.charge)
    let s3 := s2.wr (strmA Reg.MC_STRM_STAT n) (BitVec.ofNat 32 (0xFF0000 + x.seg))
    s3.dropSegment x.seg

/-- The streams bound to strand `k` close (R202). -/
def State.closeStreamsOf (s : State) (k : Nat) : State :=
  s.each ((s.mem.streams.map (·.1)).filter (fun n => s.streamStrand n == k)) State.closeStream

/-! ### Commands that wait for strands (spec/14_host_transport.md R369, R371) -/

/-- Strand `k` has issued its first step: a RUN_AT that waits for it. -/
def State.firstStep (s : State) (k : Nat) : State :=
  match s.host.cmds.find? (fun c => c.op == 5 && (match c.stage with | .strands l _ => l.contains k | _ => false)) with
  | none => s
  | some c =>
    match c.stage with
    | .strands l n =>
      let rest := l.filter (fun j => j != k)
      if rest.isEmpty then s.complete c.qp c.idx 0 0 (c.arg 0x20 8) 0
      else s.modCmd c.qp c.idx (fun (c : HostCmd) => { c with stage := CmdStage.strands rest n })
    | _ => s

/-- A scheduled strobe bound to a RUN_AT that is aborted before its instant is refused as late (spec/16_tideline.md R419). -/
def State.unbind (s : State) (q idx : Nat) : State :=
  match s.bound with
  | some (a, b, t) =>
    if a = q ∧ b = idx ∧ s.now < s.unitsOf t then
      ({ s with bound := none }.setFld Reg.DEV_UPD_CTRL Fld.DEV_UPD_CTRL_ARM 0).raise Reg.DEV_UPD_STAT Fld.DEV_UPD_STAT_LATE
    else s
  | none => s

/-- A RUN_AT that waits for strand `k` completes with ABORTED (R369): the strand does not start by it. (DEDUCED, log 27) -/
def State.abortRun (s : State) (k : Nat) : State :=
  let s1 := s.modStrand k (fun t => { t with launch := none })
  match s1.host.cmds.find? (fun c => c.op == 5 && (match c.stage with | .strands l _ => l.contains k | _ => false)) with
  | none => s1
  | some c => (s1.unbind c.qp c.idx).complete c.qp c.idx 0x0D k (c.arg 0x20 8) 0

/-- Strand `k` has halted, by cause code `c`: HALT commands that wait for it, at most `n` of them. -/
def State.haltDone (k c : Nat) : Nat → State → State
  | 0, s => s
  | n + 1, s =>
    match s.host.cmds.find? (fun c => c.op == 6 && (match c.stage with | .strands l _ => l.contains k | _ => false)) with
    | none => s
    | some h =>
      match h.stage with
      | .strands l m =>
        let rest := l.filter (fun j => j != k)
        let m2 := if c = 3 then m + 1 else m
        State.haltDone k c n
          (if rest.isEmpty then s.complete h.qp h.idx 0 0 m2 0
           else s.modCmd h.qp h.idx (fun (h : HostCmd) => { h with stage := CmdStage.strands rest m2 }))
      | _ => s

/-- Strand `k` has halted: commands that wait for it. -/
def State.strandHalted (s : State) (k c : Nat) : State :=
  let s1 := State.haltDone k c s.host.cmds.length s
  if (s1.host.cmds.any (fun c => c.op == 5 && (match c.stage with | .strands l _ => l.contains k | _ => false))) then s1.abortRun k else s1

/-! ### One strand stops -/

/-- The condition pin `p` of strand `k` goes to at a stop (spec/04_edges_and_waves.md R120). -/
def State.parkCond (s : State) (k p : Nat) (halt : Bool) : Drv :=
  if halt && !s.flag (strandA k Reg.WV_CTRL) Fld.WV_CTRL_HALT_PARK then .hiz
  else parkDrv (fieldPark ((s.strand k).tables.waveField (s.strand k).lastWave p))

/-- The pins of a strand that stops: each goes to its condition after its own last event (R120). -/
def State.parkPins (s : State) (k : Nat) (halt : Bool) : State :=
  s.each (List.range 8) (fun s p =>
    let c := s.parkCond k p halt
    s.modPin (pinOf k p) (fun q => ({ q with parkTo := some ((s.strand k).stepNo, c) } : Pin).settlePark))

/-- The blocks of a strand that discards its stacks end: strobes left are ordinary strobes of their steps (R136). -/
def Strand.endBlocks (t : Strand) : Strand :=
  let inner := t.recs.filter (fun r => r.block.isSome)
  let t1 := { t with recs := t.recs.map (fun (r : StepRec) => if r.block.isSome then { r with block := none, late := true } else r) }
  t1.setFail (inner.flatMap (fun r => r.fails.map (fun f => f.t)))

/-- The STOP event of strand `k` (spec/14_host_transport.md R374). -/
def State.stopEvent (s : State) (k : Nat) : State :=
  if s.flag Reg.HT_EVT_CFG Fld.HT_EVT_CFG_STOP_EN then
    s.pushEvent 3 (leBytes 1 k ++ leBytes 1 (s.sqState k) ++ leBytes 1 (s.fld (strandA k Reg.SQ_STATE) Fld.SQ_STATE_CAUSE) ++
      leBytes 1 0 ++ leBytes 2 (s.fld (strandA k Reg.SQ_SEG) Fld.SQ_SEG_SEG) ++ leBytes 2 0 ++
      leBytes 4 (s.fld (strandA k Reg.SQ_OFFS) Fld.SQ_OFFS_OFFS))
  else s

/-- Strand `k` stops at boundary `b` with a cause: a park when the cause parks, else a halt (R152). -/
def State.stopOne (s : State) (k : Nat) (c : Cause) (b : Nat) : State :=
  let halt := !c.isPark
  let was := s.sqState k
  let t := s.strand k
  let a := strandA k Reg.SQ_STATE
  -- what a wait or a park held is closed
  let s1 := if was = 3 then s.heldFor k (b - t.nextAt) else if was = 4 then s.addLed k Reg.SQ_PARK_TIME_LO (b - t.stopAt) else s
  let s2 := (s1.setSqState k (if halt then 5 else 4)).setFld a Fld.SQ_STATE_CAUSE c.code
  let s3 := (s2.raise (strandA k Reg.SQ_STAT) Fld.SQ_STAT_STOPPED).raiseIf (c == .underrun) (strandA k Reg.SQ_STAT) Fld.SQ_STAT_UNDERRUN
  let s4 := s3.wr64 (strandA k Reg.AG_BUS_LO) t.bus
  let s5 := s4.modStrand k (fun t => { t with stopAt := b, stops := [], wait := .none, holdFrom := none, launched := false })
  let s6 :=
    if halt then
      (s5.setSqPos k t.lastPos.seg t.lastPos.off).modStrand k (fun t =>
        { t with loops := [], calls := [], rptLeft := none, after := false, target := false, segStart := false, endDue := true }.endBlocks)
    else
      let f := s.strand (if s.role k = 2 then s.leaderOf k else k)
      s5.setSqPos k f.pos.seg (if f.after then f.pos.off + 1 else f.pos.off)
  let s7 := (s6.parkPins k halt).checkStep k
  let s8 := s7.takeCaptured k
  let s9 := s8.stopEvent k
  if halt then (s9.closeStreamsOf k).strandHalted k c.code else s9

/-! ### Lash syncs (spec/10_placement_and_lashing.md R284, R285) -/

/-- The first engine clock edge at least 64 engine cycles after `t`. -/
def syncEdge (t : Nat) : Nat := ceilDiv (t + 64 * cycU) cycU * cycU

/-- The split group of leader `l`: the leader and its split followers that are not HALTED. -/
def State.splitGroup (s : State) (l : Nat) : List Nat :=
  (s.groupOf l).filter (fun j => (j == l || s.role j == 3) && s.sqState j != 5)

/-- The nominal start of the lash sync strand `j` waits for, when it waits for one that is not yet met. -/
def State.syncFrom (s : State) (j : Nat) : Option Nat :=
  if s.sqState j = 3 then
    match (s.strand j).wait with
    | .sync since _ none => some since
    | _ => none
  else none

/-- Strand `j` waits for a lash sync. -/
def State.inSync (s : State) (j : Nat) : Bool :=
  s.sqState j == 3 && (match (s.strand j).wait with | .sync _ _ _ => true | _ => false)

/-- Give the waiting members of a list their start. -/
def State.setSyncStart (s : State) (l : List Nat) (t : Nat) : State :=
  s.each l (fun s j => s.modStrand j (fun x => match x.wait with
    | .sync since lim none => { x with wait := .sync since lim (some t) }
    | _ => x))

/-- Evaluate the lash sync of leader `l`'s group, `met` being the moment (R284, R285): met when no member is still to arrive;
when the leader is halted, met for each follower that waits. -/
def State.evalSync (s : State) (l met : Nat) : State :=
  let members := if s.sqState l = 5 then (s.splitGroup l).filter (fun j => s.inSync j) else s.splitGroup l
  if members.isEmpty || !members.all (fun j => s.inSync j) then s
  else
    let from_ := members.filterMap (fun j => s.syncFrom j)
    if from_.isEmpty then s
    else s.setSyncStart members (syncEdge (max met (from_.foldl max 0)))

/-! ### Flows stop -/

/-- The flow of strand `k` stops at boundary `b`: its lashed followers stop with it (R285); the sync of its group is evaluated
again. A strand of it with a cause of its own that ranks first takes that one (R153). -/
def State.stopFlow (s : State) (k : Nat) (c : Cause) (b : Nat) : State :=
  let own (s : State) (j : Nat) : Cause :=
    worst (c :: ((s.strand j).stops.filter (fun e => decide (e.2 ≤ b) && e.1 != .thermal)).map (·.1))
  let s1 := s.each (s.crew k) (fun s j => s.stopOne j (own s j) b)
  if s1.leaderOf k = 255 then s1 else s1.evalSync (s1.leaderOf k) b

/-- A lashed follower stops alone (R285). -/
def State.stopAlone (s : State) (k : Nat) (c : Cause) (b : Nat) : State := s.stopOne k c b

/-- The strand whose flow strand `k` takes. -/
def State.flowOf (s : State) (k : Nat) : Nat := if s.role k = 2 then s.leaderOf k else k

/-- Strand `k` stops, alone when it is a lashed follower. -/
def State.stopHere (s : State) (k : Nat) (c : Cause) (b : Nat) : State :=
  if s.role k = 2 then s.stopAlone k c b else s.stopFlow k c b

/-- The causes that turn a park into a halt (R153). -/
def Cause.turnsPark : Cause → Bool
  | .clockLoss => true
  | .deviceFault => true
  | .slack => true
  | .breakwater => true
  | .thermal => true
  | .hostHalt => true
  | _ => false

/-- Another cause for a stop whose boundary lies ahead (R153): the one that ranks first is recorded, in SQ_STATE and in the STOP
event still held. -/
def State.rerank (s : State) (k : Nat) (c : Cause) : State :=
  let a := strandA k Reg.SQ_STATE
  if c.rank < rankOfCode (s.fld a Fld.SQ_STATE_CAUSE) then
    let s1 := s.setFld a Fld.SQ_STATE_CAUSE c.code
    { s1 with evt := { s1.evt with held := s1.evt.held.map (fun (e : EventRec) =>
      if e.kind = 3 ∧ e.body.take 1 = leBytes 1 k then { e with body := e.body.take 2 ++ leBytes 1 c.code ++ e.body.drop 3 } else e) } }
  else s

/-- A stop cause is raised for strand `k` now (R152, R153). In a run it takes effect at the first step start from now on: the
next one when that is not past, else when the flow reaches it; THERMAL waits for a segment boundary. A wait ends at once. A
park turns into a halt at once for the causes that turn it. On a halted strand nothing changes, but a stop whose boundary is
still to come takes the cause that ranks first. Under self-test the cause waits for the end of the test (spec/17 R441). (DEDUCED, log 15) -/
def State.raiseStop (s : State) (k : Nat) (c : Cause) : State :=
  let t := s.strand k
  match s.sqState k with
  | 1 | 2 =>
    let next := (s.strand (s.flowOf k)).nextAt
    if c == .thermal && !(s.strand (s.flowOf k)).segStart && !s.thermal.overdue then
      s.modStrand k (fun t => { t with stops := t.stops ++ [(c, s.now)] })
    else if s.now ≤ next then s.stopHere k c next
    else s.modStrand k (fun t => { t with stops := t.stops ++ [(c, s.now)] })
  | 3 => s.stopHere k c (max s.now t.nextAt)
  | 4 => if c.turnsPark then s.stopHere k c (max s.now t.stopAt) else s
  | 5 => if s.now < t.stopAt then s.rerank k c else s
  | 6 => s.modStrand k (fun t => { t with stops := t.stops ++ [(c, s.now)] })
  | _ => s

/-- A stop of strand `k` at once, without a step boundary (CLOCK_LOSS, and DEVICE_FAULT under a Grave record). -/
def State.haltNow (s : State) (k : Nat) (c : Cause) : State :=
  match s.sqState k with
  | 1 | 2 | 3 | 4 => s.stopHere k c s.now
  | 5 => if s.now < (s.strand k).stopAt then s.rerank k c else s
  | 6 => s.modStrand k (fun t => { t with stops := t.stops ++ [(c, s.now)] })
  | _ => s

/-- A cause acts on every strand of the device that runs. -/
def State.raiseAll (s : State) (c : Cause) : State := s.each allStrands (fun s k => s.raiseStop k c)

/-! ### Causes that take effect at a step start -/

/-- The causes of strand `k` that take effect at a step start at `b` (R152); THERMAL only at a segment boundary
until its deadline is past (spec/18_faults_and_thermal.md R462). (DEDUCED, log 15) -/
def State.dueStops (s : State) (k b : Nat) (boundary : Bool) : List Cause :=
  ((s.strand k).stops.filter (fun e => decide (e.2 ≤ b) && (e.1 != .thermal || boundary || s.thermal.overdue))).map (·.1)

/-- At a step start at `b` of the flow of strand `k`: whether it stops there, its lashed followers stopping alone for causes of
their own otherwise. -/
def State.takeStops (s : State) (k b : Nat) : State × Bool :=
  let boundary := (s.strand k).segStart
  match s.dueStops k b boundary with
  | [] =>
    (s.each ((s.crew k).filter (fun j => j != k)) (fun s j =>
      match s.dueStops j b boundary with
      | [] => s
      | l => s.stopAlone j (worst l) b), false)
  | l => (s.stopFlow k (worst l) b, true)

end Sys2Proof.Machine
end

