-- ==== Sys2Proof/Machine/Steps.lean ====
section
/-! DEFINITION. One step of a flow (spec/05_sequencer.md R128 to R144): its word at the read point, nesting, the period,
issuing at every member of the crew, triggers, and the word that comes next. -/

namespace Sys2Proof.Machine

/-! ### The word at the read point -/

/-- The read point of a step start (R13): 32 engine cycles before it. -/
def readPoint (start : Nat) : Nat := start - 32 * cycU

/-- The strand runs a flow of its own and is not in a wait. -/
def State.flowing (s : State) (k : Nat) : Bool := (s.sqState k == 1 || s.sqState k == 2) && s.role k != 2

/-- Every event of the flow's pins that falls before `t` has fired: a step is issued in the order of time. (DEDUCED, log 15) -/
def State.pinsClear (s : State) (k t : Nat) : Bool :=
  (s.crew k).all (fun j => (pinsOf j).all (fun n =>
    (s.pin n).drives.all (fun e => decide (t ≤ e.t)) && (s.pin n).strobes.all (fun e => decide (t ≤ e.t))))

/-- The hold limit of strand `k` in units (SQ_CTRL.HOLD_LIMIT, 0 applied as 1). -/
def State.holdLimit (s : State) (k : Nat) : Nat := max 1 (s.fld (strandA k Reg.SQ_CTRL) Fld.SQ_CTRL_HOLD_LIMIT) * usU

/-- The hold limit of the seam in progress has passed at step start `b` with the word absent at the limit (R144). -/
def State.pastLimit (s : State) (k b : Nat) : Bool :=
  match (s.strand k).holdFrom with
  | some h => decide (h + s.holdLimit k ≤ b) && !s.present k (s.strand k).pos (h + s.holdLimit k)
  | none => false

/-- The flow of strand `k` parks for want of a word at boundary `b`; a granule of its stream not yet pulled is noted (R144;
spec/07_pattern_memory.md R202). -/
def State.parkUnderrun (s : State) (k b : Nat) : State :=
  let p := (s.strand k).pos
  let s1 := match s.streamOf p.seg with
    | some n => if s.fetchable p.seg p.gran then s
        else (s.setFld (strmA Reg.MC_STRM_STAT n) Fld.MC_STRM_STAT_UNDERRUN 1).raise Reg.MC_STAT Fld.MC_STAT_STREAM_UNDERRUN
    | none => s
  s1.stopFlow k .underrun b

/-- What the flow of a strand finds at the read point of its next step. -/
inductive Found where
  | stopped (s : State)        -- the flow stops at this boundary
  | word (s : State) (w : Word64)
  | hold (s : State)           -- the first word of a transfer target is absent: a hold step
  | limit (s : State)          -- it is still absent at the hold limit

/-- The read point of the next step of strand `k`: causes that take effect there first (R152), then a granule without a good
copy (INTEGRITY, at the read point), then an absent word: of a transfer target, a hold step (R143) or the limit (R144); any
other parks the strand (R144). -/
def State.readWord (s : State) (k : Nat) : Found :=
  let b := (s.strand k).nextAt
  let (s1, stopped) := s.takeStops k b
  if stopped then .stopped s1
  else
    let t := s1.strand k
    if s1.pastLimit k b then .limit s1
    else if s1.marredAt k t.pos (readPoint b) then .stopped (s1.stopFlow k .integrity (readPoint b))
    else if s1.present k t.pos (readPoint b) then
      match s1.wordAt t.pos with
      | some w => .word s1 w
      | none => .stopped (s1.stopFlow k .badSeg b)
    else if t.target then .hold s1
    else .stopped (s1.parkUnderrun k b)

/-! ### Checks before a step (R128, R132, R133) -/

/-- The cause that stops the strand before the step of word `w`, if any. An RPT repetition is not checked again. -/
def Strand.wordError (t : Strand) (w : Word64) : Option Cause :=
  if t.rptLeft.isSome then none
  else match flowOp (wordOp w) with
    | .reserved => some .illegalOp
    | .jif => if jifReserved w then some .illegalOp else none
    | .loopBegin => if 8 ≤ t.loops.length then some .nestOvf else none
    | .call => if 8 ≤ t.calls.length then some .nestOvf else none
    | .loopEnd => if t.loops.isEmpty then some .nestUnf else none
    | .match_ => if t.loops.isEmpty then some .nestUnf else none
    | .ret =>
      match t.calls with
      | [] => some .nestUnf
      | c :: _ => if c.depth < t.loops.length then some .loopOpen else none
    | _ => none

/-! ### Periods (spec/04_edges_and_waves.md R106) -/

/-- The period register `i` of strand `k` as in force at instant `t`, applied as at least 512. -/
def State.periodAt (s : State) (k i t : Nat) : Nat :=
  let v := match (s.strand k).perOld.find? (fun e => e.1 == i && decide (t < e.2.2)) with
    | some e => e.2.1
    | none => (s.sq k (Reg.WV_PER + 4 * i)).toNat
  max 512 v

/-! ### Triggers and markers (R148 to R150) -/

/-- Whether a segment start of segment `g` triggers at strand `k`. -/
def State.segTriggers (s : State) (k g : Nat) : Bool :=
  s.flag (strandA k Reg.SQ_TRIG_CFG) Fld.SQ_TRIG_CFG_SEG_ANY || s.fld (strandA k Reg.SQ_TRIG_SEG) Fld.SQ_TRIG_SEG_SEG == g

/-- The TRIG balls that strand `k` pulses at a step: the TRIG operand's and a segment start's, gated by TRIG_EN. -/
def State.trigBalls (s : State) (k : Nat) (w : Word64) (segStart : Bool) (g : Nat) : Nat :=
  let a := strandA k Reg.SQ_TRIG_CFG
  let op := if flowOp (wordOp w) = .trig then wordOpnd w % 16 else 0
  let sg := if segStart && s.segTriggers k g then s.fld a Fld.SQ_TRIG_CFG_SEG_BALL else 0
  Nat.land (Nat.lor op sg) (s.fld a Fld.SQ_TRIG_CFG_TRIG_EN)

/-- Whether the step triggers the acquisition engine of strand `k`. -/
def State.trigAcq (s : State) (k : Nat) (w : Word64) (segStart : Bool) (g : Nat) : Bool :=
  (flowOp (wordOp w) == .trig && bitOf (wordOpnd w) 4) ||
  (segStart && s.segTriggers k g && s.flag (strandA k Reg.SQ_TRIG_CFG) Fld.SQ_TRIG_CFG_SEG_ACQ)

/-- The triggers of a step at the members of the crew: one pulse per destination (R149). -/
def State.triggers (s : State) (crew : List Nat) (w : Word64) (segStart : Bool) (g start : Nat) : State :=
  let balls := (crew.map (fun j => s.trigBalls j w segStart g)).foldl Nat.lor 0
  let s1 := if balls = 0 then s else s.send (.trigPulse balls start)
  s1.each (crew.filter (fun j => s1.trigAcq j w segStart g)) (fun s j => s.triggerPulse j start)

/-- Set markers of the crew (R150). -/
def State.setMarkers (s : State) (crew : List Nat) (mask levels : Nat) : State :=
  (s.each crew (fun s j => s.modStrand j (fun t => { t with
    markers := Nat.lor (Nat.land t.markers (15 - mask % 16)) (Nat.land levels mask) }))).showMarks s

/-! ### Issuing (R126, R127, R156) -/

/-- The MATCH block a step belongs to: the innermost. -/
def blockIn (l : List LoopFrame) : Option Nat := l.findSome? (fun f => f.block)

/-- The step of word `w` at position `p` is issued at member `j`, with the leader's bus, starting at `b` with period `per`. -/
def State.issueAt (s : State) (j : Nat) (w : Word64) (p : Pos) (b per bus : Nat) (block : Option Nat) : State :=
  let t := s.strand j
  let r0 : StepRec := ⟨t.stepNo, b, p.seg, p.off, busX bus, busY bus, busZ bus, 0, [], block, 0, false, false⟩
  let (s1, r) := s.issuePins j b (wordWave w) (wordData w) bus r0
  let s2 := ((s1.addLed j Reg.SQ_ISSUED_LO 1).addLed j Reg.SQ_EXEC_LO 1).setFld (strandA j Reg.WV_ACC) Fld.WV_ACC_RESIDUE (b % cycU)
  let s3 := (s2.setSqPos j p.seg p.off).setSqState j 1
  let s4 := s3.modStrand j (fun t =>
    let t1 := { t with
      stepNo := t.stepNo + 1, lastStart := b, lastPos := p, period := per, bus := bus, lastWave := wordWave w, ranSince := true,
      recs := if r.pend = 0 ∧ r.fails.isEmpty then t.recs else t.recs ++ [r] }
    if block.isNone then t1.setFail (r.fails.map (fun f => f.t)) else t1)
  (s4.aqStep j b).firstStep j

/-- Issue the step of word `w` of the flow of strand `k` at its next start (R126 to R128): captured values first (R49), then the
ALPG, then every member. Answers the state and the applied period. -/
def State.issue (s : State) (k : Nat) (w : Word64) : State × Nat :=
  let t := s.strand k
  let b := t.nextAt
  let per := s.periodAt k (wordPsel w) (readPoint b)
  let crew := s.crew k
  let s1 := (s.advanceTo b).atInstant b (fun s => s.each crew State.takeCaptured)
  let u := (s1.strand k).tables.microOp (wordUop w)
  let bus := s1.alpgBus k u
  let s2 := s1.microStep k u
  let s3 := s2.each crew (fun s j => s.issueAt j w t.pos b per bus (blockIn t.loops))
  let s4 := s3.triggers crew w t.segStart t.pos.seg b
  (s4.modStrand k (fun t => { t with segStart := false, target := false, holdFrom := none, launched := false }), per)

/-! ### What comes next -/

/-- Where the flow goes after a step: the next word, with its stacks; whether it is the first word of a transfer target (R143)
and step 0 of a segment reached by a transfer (R149); or the cause that stops it after the step. -/
structure Next where
  pos : Pos
  loops : List LoopFrame
  calls : List CallFrame
  rptLeft : Option Nat := none
  after : Bool := false
  target : Bool := false
  segStart : Bool := false
  stop : Option Cause := none
  deriving DecidableEq, Repr

/-- Sequential flow from position `p` (R138), for strand `k`. -/
def State.seqNext (s : State) (k : Nat) (p : Pos) (loops : List LoopFrame) (calls : List CallFrame) : Next :=
  match s.follow p with
  | .at_ q crossed =>
    if crossed && s.streamForeign k q.seg then { pos := p, loops := loops, calls := calls, stop := some .badSeg }
    else { pos := q, loops := loops, calls := calls, target := crossed, segStart := crossed }
  | .end_ => { pos := p, loops := loops, calls := calls, stop := some .endOfSeg }
  | .bad => { pos := p, loops := loops, calls := calls, stop := some .badSeg }

/-- A transfer to step 0 of segment `g` (R138; spec/07_pattern_memory.md R201). -/
def State.jumpNext (s : State) (k : Nat) (p : Pos) (g : Nat) (loops : List LoopFrame) (calls : List CallFrame) : Next :=
  if (s.segment? g).isSome && !s.streamForeign k g then
    { pos := ⟨g, 0⟩, loops := loops, calls := calls, target := true, segStart := true }
  else { pos := p, loops := loops, calls := calls, stop := some .badSeg }

/-- Mark a next word as the first of a transfer target. -/
def Next.asTarget (n : Next) : Next := { n with target := true }

/-- The closing of an iteration of the innermost loop (R131): back to the body, or on past the closing word. -/
def State.loopNext (s : State) (k : Nat) (p : Pos) (loops : List LoopFrame) (calls : List CallFrame) : Next :=
  match loops with
  | [] => s.seqNext k p loops calls
  | f :: rest =>
    if 1 < f.left then
      { pos := f.body, loops := { f with left := f.left - 1, ran := f.ran + 1 } :: rest, calls := calls, target := true }
    else s.seqNext k p rest calls

/-- Put where the flow goes into strand `k`. -/
def State.putNext (s : State) (k : Nat) (n : Next) (start : Nat) : State :=
  s.modStrand k (fun t => { t with
    pos := n.pos, loops := n.loops, calls := n.calls, rptLeft := n.rptLeft, after := n.after, target := n.target,
    segStart := n.segStart, nextAt := start })

/-- The lowest granule of segment `g` that strand `k` holds in its position, loop stack or call stack (spec/07 R200). -/
def Strand.heldGranule (t : Strand) (g : Nat) : Option Nat :=
  let ps := (t.pos :: (t.loops.map (fun f => f.body) ++ t.calls.map (fun c => c.ret))).filter (fun p => p.seg == g)
  match ps.map Pos.gran with
  | [] => none
  | x :: l => some (l.foldl min x)

/-- A stream whose granules have all been pulled closes as its strand leaves its segment (spec/07 R202). -/
def State.leaveStream (s : State) (k : Nat) : State :=
  let t := s.strand k
  match s.streamOf t.lastPos.seg with
  | some n =>
    if s.streamStrand n == k && (t.heldGranule t.lastPos.seg).isNone && s.fld (strmA Reg.MC_STRM_STAT n) Fld.MC_STRM_STAT_STATE == 3
    then s.closeStream n else s
  | none => s

/-- After a step: go on at `start`, looking ahead, or stop there. `own` is a cause of the step's own (HALT, PARK, MATCH_TO). -/
def State.goOn (s : State) (k : Nat) (n : Next) (start : Nat) (own : Option Cause) : State :=
  let s1 := s.putNext k n start
  match own.or n.stop with
  | some c => s1.stopFlow k c start
  | none => (s1.leaveStream k).lookahead k

/-! ### The steps of a row -/

/-- Take the next step of the flow of strand `k` when its word is one that `want` accepts: nothing when the strand runs no flow,
when events before the step start are still to fire, or when the word is another's; a stop that takes effect there; the check
of R132; else `act`. -/
def State.stepWord (s : State) (k : Nat) (want : Word64 → Bool) (act : State → Word64 → State) : State :=
  if s.flowing k && s.pinsClear k (s.strand k).nextAt then
    match s.readWord k with
    | .stopped s1 => s1
    | .word s1 w =>
      if want w then
        match (s1.strand k).wordError w with
        | some c => s1.stopFlow k c (s1.strand k).nextAt
        | none => act s1 w
      else s
    | .hold _ => s
    | .limit _ => s
  else s

/-- The opcode of a word is `op`. -/
def opIs (op : FlowOp) (w : Word64) : Bool := flowOp (wordOp w) == op

/-- A step that goes on at the following word. -/
def State.plainStep (s : State) (k : Nat) (w : Word64) : State :=
  let t := s.strand k
  let (s1, per) := s.issue k w
  s1.goOn k (s1.seqNext k t.pos t.loops t.calls) (t.nextAt + per) none

end Sys2Proof.Machine
end

