-- ==== Sys2Proof/Machine/Sequencer.lean ====
section
/-! DEFINITION. The meanings of the flow opcodes, holds, waits, runs and sequencer commands (spec/05_sequencer.md R125 to R159;
spec/10_placement_and_lashing.md R278 to R285). -/

namespace Sys2Proof.Machine

/-! ### Plain flow -/

/-- NEXT (R128). (DESIGN CHOICE, log 8) -/
def execNext (k : Fin 192) (s : State) : Host.Outcome State Fault Refusal :=
  .next (s.stepWord k (opIs .next) (fun s w => s.plainStep k w))

/-- RPT (R128, R132): the word is executed N more times. -/
def execRpt (k : Fin 192) (s : State) : Host.Outcome State Fault Refusal :=
  .next (s.stepWord k (opIs .rpt) (fun s w =>
    let t := s.strand k
    let (s1, per) := s.issue k w
    let left := match t.rptLeft with
      | some n => n
      | none => wordOpnd w + 1
    if 1 < left then
      s1.goOn k { pos := t.pos, loops := t.loops, calls := t.calls, rptLeft := some (left - 1) } (t.nextAt + per) none
    else s1.goOn k (s1.seqNext k t.pos t.loops t.calls) (t.nextAt + per) none))

/-- Record a MATCH exit of the members of a list in SQ_MATCH (R136). -/
def State.recordExit (s : State) (l : List Nat) (iter : Nat) (timeout skipped : Bool) : State :=
  s.each l (fun s j =>
    (s.wr (strandA j Reg.SQ_MATCH) (BitVec.ofNat 32
      (2 ^ 31 + bitN timeout * 2 ^ 30 + bitN skipped * 2 ^ 29 + min 65535 iter))).raiseIf timeout
      (strandA j Reg.SQ_STAT) Fld.SQ_STAT_MATCH_TO)

/-- LOOP_BEGIN (R131, R132, R135): pushes a frame, or skips the body; a MATCH block skipped is recorded as a timeout with no
iterations. -/
def execLoopBegin (k : Fin 192) (s : State) : Host.Outcome State Fault Refusal :=
  .next (s.stepWord k (opIs .loopBegin) (fun s w =>
    let t := s.strand k
    let isMatch := match s.closing t.pos with
      | some (_, m) => m
      | none => false
    let (s1, per) := s.issue k w
    if wordOpnd w = 0 then
      let close := match s.closing t.pos with
        | some (c, _) => c
        | none => t.pos.off
      let s2 := if isMatch then s1.recordExit (s1.crew k) 0 true true else s1
      s2.goOn k (s2.seqNext k ⟨t.pos.seg, close⟩ t.loops t.calls).asTarget (t.nextAt + per) none
    else
      let n := s1.seqNext k t.pos t.loops t.calls
      let block := if isMatch then some t.blockNo else none
      let s2 := if isMatch then s1.each (s1.crew k) (fun s j => s.modStrand j (fun t => { t with blockNo := t.blockNo + 1 })) else s1
      s2.goOn k { n with loops := ⟨n.pos, wordOpnd w, 0, block⟩ :: t.loops } (t.nextAt + per) none))

/-- LOOP_END (R131). -/
def execLoopEnd (k : Fin 192) (s : State) : Host.Outcome State Fault Refusal :=
  .next (s.stepWord k (opIs .loopEnd) (fun s w =>
    let t := s.strand k
    let (s1, per) := s.issue k w
    s1.goOn k (s1.loopNext k t.pos t.loops t.calls) (t.nextAt + per) none))

/-- CALL (R128, R130, R138). -/
def execCall (k : Fin 192) (s : State) : Host.Outcome State Fault Refusal :=
  .next (s.stepWord k (opIs .call) (fun s w =>
    let t := s.strand k
    let (s1, per) := s.issue k w
    s1.goOn k (s1.jumpNext k t.pos (wordOpnd w) t.loops (⟨t.pos, t.loops.length⟩ :: t.calls)) (t.nextAt + per) none))

/-- RET (R128): to the word after the CALL. -/
def execRet (k : Fin 192) (s : State) : Host.Outcome State Fault Refusal :=
  .next (s.stepWord k (opIs .ret) (fun s w =>
    let t := s.strand k
    let (s1, per) := s.issue k w
    match t.calls with
    | [] => s1.goOn k (s1.seqNext k t.pos t.loops t.calls) (t.nextAt + per) none
    | c :: rest => s1.goOn k (s1.seqNext k c.ret t.loops rest).asTarget (t.nextAt + per) none))

/-- JMP (R128, R138). -/
def execJmp (k : Fin 192) (s : State) : Host.Outcome State Fault Refusal :=
  .next (s.stepWord k (opIs .jmp) (fun s w =>
    let t := s.strand k
    let (s1, per) := s.issue k w
    s1.goOn k (s1.jumpNext k t.pos (wordOpnd w) t.loops t.calls) (t.nextAt + per) none))

/-- TRIG (R149): the pulses are part of issuing the step. -/
def execTrig (k : Fin 192) (s : State) : Host.Outcome State Fault Refusal :=
  .next (s.stepWord k (opIs .trig) (fun s w => s.plainStep k w))

/-- MARK (R150). -/
def execMark (k : Fin 192) (s : State) : Host.Outcome State Fault Refusal :=
  .next (s.stepWord k (opIs .mark) (fun s w =>
    let t := s.strand k
    let (s1, per) := s.issue k w
    let s2 := s1.setMarkers (s1.crew k) (bitsOf (wordOpnd w) 7 4) (bitsOf (wordOpnd w) 3 0)
    s2.goOn k (s2.seqNext k t.pos t.loops t.calls) (t.nextAt + per) none))

/-- PARK (R128, R154): the strand parks after the step, and goes on after the word when it resumes. -/
def execParkOp (k : Fin 192) (s : State) : Host.Outcome State Fault Refusal :=
  .next (s.stepWord k (opIs .park) (fun s w =>
    let t := s.strand k
    let (s1, per) := s.issue k w
    s1.goOn k { pos := t.pos, loops := t.loops, calls := t.calls, after := true } (t.nextAt + per) (some .parkOp)))

/-- HALT (R128). -/
def execHaltOp (k : Fin 192) (s : State) : Host.Outcome State Fault Refusal :=
  .next (s.stepWord k (opIs .halt) (fun s w =>
    let t := s.strand k
    let (s1, per) := s.issue k w
    s1.goOn k { pos := t.pos, loops := t.loops, calls := t.calls } (t.nextAt + per) (some .haltOp)))

/-- ILLEGAL_OP: a reserved opcode or a reserved JIF condition halts the strand before the step (R128, R133). -/
def execIllegalOp (k : Fin 192) (s : State) : Host.Outcome State Fault Refusal :=
  .next (s.stepWord k (fun w => opIs .reserved w || jifReserved w) (fun s _ => s.stopFlow k .illegalOp (s.strand k).nextAt))

/-! ### Splitting (spec/10_placement_and_lashing.md R281 to R283) -/

/-- The window of the results that a JIF or MATCH step starting at `b` covers (R134, R135, R278). -/
def State.resultWindow (s : State) (k b : Nat) : Nat := b - (if 2 ≤ (s.groupOf k).length then 96 else 64) * cycU

/-- The step is handled in group mode: a leader with its lash-mode bit 0 (R129, R279, R280). -/
def State.groupMode (s : State) (k : Nat) (w : Word64) : Bool := s.role k == 1 && !lashMode w

/-- Follower `j` of leader `l` splits after a step (R283): it takes the leader's stacks and residue, goes its own way `n` from
`start`, with its first word a transfer target, and its ALPG copies the leader's. `own` is a cause of its own. -/
def State.splitOff (s : State) (l j : Nat) (n : Next) (start per : Nat) (own : Option Cause) : State :=
  let s1 := (s.setRole j 3).raise (coveA (coveOf j) Reg.LB_STAT) Fld.LB_STAT_SPLIT
  let s2 := (s1.alpgCopy l j).modStrand j (fun t => { t with
    period := per, wait := .none, holdFrom := none, launched := false, blockNo := (s.strand l).blockNo })
  s2.goOn j n.asTarget start own

/-! ### JIF (R133, R279, R281) -/

/-- The condition of a JIF for member `j` over the flags of the members of `grp`, with results up to `w`. -/
def State.jifTest (s : State) (j w cond : Nat) (grp : List Nat) : Bool :=
  match cond with
  | 0x0 => s.failSeen j w
  | 0x1 => grp.any (fun i => s.failSeen i w)
  | 0x2 => grp.all (fun i => s.failSeen i w)
  | 0x3 => s.flag (strandA j Reg.SQ_MATCH) Fld.SQ_MATCH_TIMEOUT
  | 0x8 => true
  | c => bitOf (s.fld (strandA j Reg.SQ_FLAGS) Fld.SQ_FLAGS_F) (c - 4)

/-- CLR clears the flag tested. -/
def State.jifClear (s : State) (j w cond : Nat) (grp : List Nat) : State :=
  match cond with
  | 0x0 => s.clearFail j w
  | 0x1 => s.each grp (fun s i => s.clearFail i w)
  | 0x2 => s.each grp (fun s i => s.clearFail i w)
  | 0x3 => s.setFld (strandA j Reg.SQ_MATCH) Fld.SQ_MATCH_TIMEOUT 0
  | 0x8 => s
  | c => s.setFld (strandA j Reg.SQ_FLAGS) Fld.SQ_FLAGS_F
      (Nat.land (s.fld (strandA j Reg.SQ_FLAGS) Fld.SQ_FLAGS_F) (15 - 2 ^ (c - 4)))

/-- The branch target entry `i` of strand `k` (SQ_BT). -/
def State.branchTarget (s : State) (k i : Nat) : Nat := Store.getD (s.strand k).tables.bt i 0

/-- Where a JIF leads member `j`. -/
def State.jifNext (s : State) (j : Nat) (w : Word64) (taken : Bool) (p : Pos) (loops : List LoopFrame) (calls : List CallFrame) : Next :=
  if taken then s.jumpNext j p (s.branchTarget j (wordOpnd w % 1024)) loops calls else s.seqNext j p loops calls

/-- JIF: in group mode and in a strand outside a lash the flow decides for all; under unlash each member decides on its own
flags, and followers that differ from the leader split. A taken target is requested at once, at panic priority (R142). -/
def execJif (k : Fin 192) (s : State) : Host.Outcome State Fault Refusal :=
  .next (s.stepWord k (fun w => opIs .jif w && !jifReserved w) (fun s w =>
    let t := s.strand k
    let win := s.resultWindow k t.nextAt
    let inv := bitOf (wordOpnd w) 15
    let clr := bitOf (wordOpnd w) 14
    let crew := s.crew k
    let grpOf (j : Nat) : List Nat := if s.groupMode k w then crew else [j]
    let judges := if s.groupMode k w then [k.val] else crew
    let outs := judges.map (fun j => (j, xor inv (s.jifTest j win (jifCond w) (grpOf j))))
    let s1 := if clr then s.each judges (fun s j => s.jifClear j win (jifCond w) (grpOf j)) else s
    let out (j : Nat) : Bool := Store.getD outs j (Store.getD outs k false)
    let (s2, per) := s1.issue k w
    let start := t.nextAt + per
    let s3 := s2.each (crew.filter (fun j => out j != out k)) (fun s j =>
      let n := s.jifNext j w (out j) t.pos t.loops t.calls
      let s4 := s.splitOff k j n start per none
      if n.stop.isNone then s4.request j n.pos.seg n.pos.gran true else s4)
    let n := s3.jifNext k w (out k) t.pos t.loops t.calls
    let s5 := s3.goOn k n start none
    if out k && n.stop.isNone then s5.request k n.pos.seg n.pos.gran true else s5))

/-! ### MATCH (R135, R136, R280, R282) -/

/-- The outcomes of an iteration. -/
inductive Match where
  | pass
  | again
  | timeout
  deriving DecidableEq, Repr

/-- The fails of block `b` of strand `j` that fired at or before `w`. -/
def State.blockFails (s : State) (j b w : Nat) : List StrobeFail :=
  ((s.strand j).recs.filter (fun r => r.block == some b)).flatMap (fun r => r.fails.filter (fun f => decide (f.t ≤ w)))

/-- A strobe of the iteration fired after the window (R136). -/
def State.blockLate (s : State) (j b w : Nat) : Bool :=
  (s.strand j).recs.any (fun r => r.block == some b && decide (w < r.lastFire))

/-- The mask of pins. -/
def failMask (l : List StrobeFail) : Nat := l.foldl (fun m f => Nat.lor m (2 ^ f.pin)) 0

/-- The iteration of block `b` at strand `j` is closed: its fails up to `w` have been taken, later strobes count in the next
iteration, or, once the block has exited to `outer`, in their own steps. -/
def State.closeIteration (s : State) (j b w : Nat) (exited : Bool) (outer : Option Nat) : State :=
  let late := s.blockLate j b w
  let s1 := s.modStrand j (fun t =>
    let take (r : StepRec) : StepRec := { r with fails := r.fails.filter (fun f => decide (w < f.t)), late := true }
    let rest := t.recs.flatMap (fun r => if r.block = some b then (take r).fails.map (fun f => f.t) else [])
    let recs := t.recs.map (fun r => if r.block = some b then
      (if exited then { take r with block := outer } else take r) else r)
    let t1 := { t with recs := recs.filter (fun r => !(r.late && r.pend == 0 && r.fails.isEmpty)) }
    if exited && outer.isNone then t1.setFail rest else t1)
  s1.raiseIf late (strandA j Reg.SQ_STAT) Fld.SQ_STAT_MATCH_LATE

/-- The timeout event of strand `j` at its MATCH step, with the last iteration's fails (R135): it stands before the step's own
record, and sets the FAIL flag as of the step start. -/
def State.timeoutEvent (s : State) (j : Nat) (p : Pos) (b : Nat) (fails : List StrobeFail) : State :=
  s.modStrand j (fun t =>
    let bus := t.bus
    let r : StepRec := ⟨t.stepNo - 1, b, p.seg, p.off, busX bus, busY bus, busZ bus, 0,
      fails.map (fun f => { f with t := b }), none, b, false, true⟩
    let before := t.recs.filter (fun q => q.step != t.stepNo - 1)
    let own := t.recs.filter (fun q => q.step == t.stepNo - 1)
    ({ t with recs := before ++ [r] ++ own } : Strand).setFail [b])

/-- Record LB_MATCH of strand `j` at the exit of a group-mode block (R280). -/
def State.lbMatch (s : State) (j b : Nat) (passed : Bool) : State :=
  let first := Store.getD (s.strand j).matchFirst b 0
  (s.wr (coveA (coveOf j) (Reg.LB_MATCH + 4 * (j % 12))) (BitVec.ofNat 32
    (2 ^ 31 + bitN passed * 2 ^ 30 + min 65535 first))).modStrand j (fun t => { t with matchFirst := Store.del t.matchFirst b })

/-- Where MATCH leads a member with an outcome. -/
def State.matchNext (s : State) (j : Nat) (m : Match) (p : Pos) (loops : List LoopFrame) (calls : List CallFrame) : Next :=
  match m with
  | .again => s.loopNext j p loops calls
  | _ => (s.seqNext j p loops.tail calls).asTarget

/-- The cause of ACT after an outcome (table *MATCH timeout actions*). -/
def matchCause (w : Word64) (m : Match) : Option Cause :=
  if m = .timeout ∧ bitOf (wordOpnd w) 15 then some .matchTo else none

/-- MATCH: every member's mask is taken; in group mode the block passes when all are empty, under unlash and outside a lash each
member goes by its own mask, and followers that differ from the leader split. (DEDUCED, log 15) -/
def execMatch (k : Fin 192) (s : State) : Host.Outcome State Fault Refusal :=
  .next (s.stepWord k (opIs .match_) (fun s w =>
    let t := s.strand k
    let win := s.resultWindow k t.nextAt
    let crew := s.crew k
    match t.loops with
    | [] => s
    | f :: outerFrames =>
      let b := f.block.getD t.blockNo
      let iter := f.ran + 1
      let fails := crew.map (fun j => (j, s.blockFails j b win))
      let failsOf (j : Nat) : List StrobeFail := Store.getD fails j []
      let verdict (empty : Bool) : Match := if empty then .pass else if 1 < f.left then .again else .timeout
      let grouped := s.groupMode k w
      let all := verdict (crew.all (fun j => (failsOf j).isEmpty))
      let out (j : Nat) : Match := if grouped then all else verdict (failsOf j).isEmpty
      let outer := blockIn outerFrames
      -- first empty iterations (R280)
      let s0 := if grouped then s.each (crew.filter (fun j => (failsOf j).isEmpty)) (fun s j => s.modStrand j (fun t =>
          { t with matchFirst := if (Store.get? t.matchFirst b).isSome then t.matchFirst else Store.put t.matchFirst b iter })) else s
      let s1 := s0.each crew (fun s j => s.closeIteration j b win (out j != .again) outer)
      let (s2, per) := s1.issue k w
      -- the step's own strobes belong to the block while it runs on, and to the outer one after an exit
      let s2b := s2.each (crew.filter (fun j => out j != .again)) (fun s j => s.modStrand j (fun t =>
        let lost := (t.recs.filter (fun r => r.block == some b)).flatMap (fun r => r.fails.map (fun f => f.t))
        let t1 := { t with recs := t.recs.map (fun (r : StepRec) => if r.block = some b then { r with block := outer, late := true } else r) }
        if outer.isNone then t1.setFail lost else t1))
      let s3 := s2b.each (crew.filter (fun j => out j == .again)) (fun s j => s.modStrand j (fun t => { t with
        recs := t.recs.map (fun (r : StepRec) => if r.block = some b then { r with late := true } else r) }))
      let s4 := s3.each (crew.filter (fun j => out j == .timeout && !(failsOf j).isEmpty)) (fun s j =>
        let s5 := s.timeoutEvent j t.pos t.nextAt (failsOf j)
        if bitsOf (wordOpnd w) 15 14 = 1 then
          s5.setFld (strandA j Reg.SQ_FLAGS) Fld.SQ_FLAGS_F
            (Nat.lor (s5.fld (strandA j Reg.SQ_FLAGS) Fld.SQ_FLAGS_F) (2 ^ bitsOf (wordOpnd w) 13 12))
        else s5)
      let s6 := s4.each (crew.filter (fun j => out j != .again)) (fun s j => s.recordExit [j] iter (out j == .timeout) false)
      let s7 := if grouped && all != .again then s6.each crew (fun s j => s.lbMatch j b (failsOf j).isEmpty) else s6
      let start := t.nextAt + per
      let s8 := s7.each (crew.filter (fun j => out j != out k)) (fun s j =>
        let s9 := if out j = .again then s.setFld (strandA j Reg.SQ_MATCH) Fld.SQ_MATCH_TIMEOUT
            (s.fld (strandA k Reg.SQ_MATCH) Fld.SQ_MATCH_TIMEOUT) else s
        let n := s9.matchNext j (out j) t.pos t.loops t.calls
        let s10 := s9.splitOff k j n start per (matchCause w (out j))
        if (matchCause w (out j)).isNone && n.stop.isNone then s10.request j n.pos.seg n.pos.gran true else s10)
      s8.goOn k (s8.matchNext k (out k) t.pos t.loops t.calls) start (matchCause w (out k))))

/-! ### Hold steps (R143, R144) -/

/-- HOLD_STEP: the first word of a transfer target is absent at its read point. Its granule is requested at panic priority. -/
def execHoldStep (k : Fin 192) (s : State) : Host.Outcome State Fault Refusal :=
  .next (if s.flowing k then
    match s.readWord k with
    | .stopped s1 => s1
    | .hold s1 =>
      let t := s1.strand k
      let b := t.nextAt
      let per := if t.launched then s1.periodAt k 0 (readPoint b) else t.period
      let crew := s1.crew k
      let s2 := (s1.advanceTo b).each crew (fun s j => (s.heldStart j b).heldFor j per)
      let s3 := if t.holdFrom.isNone then s2.each crew (fun s j =>
          (s.wr (strandA j Reg.SQ_SLIPS) (s.rd (strandA j Reg.SQ_SLIPS) + 1)).raise (strandA j Reg.SQ_STAT) Fld.SQ_STAT_SEAM_SLIP) else s2
      let s4 := s3.each crew (fun s j => (s.setSqState j 2).firstStep j)
      (s4.modStrand k (fun t => { t with holdFrom := some (t.holdFrom.getD b), nextAt := b + per })).request k t.pos.seg t.pos.gran true
    | _ => s
  else s)

/-- HOLD_LIMIT: the word is still absent at the limit, and the strand parks at the next step boundary (R144). -/
def execHoldLimit (k : Fin 192) (s : State) : Host.Outcome State Fault Refusal :=
  .next (if s.flowing k then
    match s.readWord k with
    | .stopped s1 => s1
    | .limit s1 => s1.parkUnderrun k (s1.strand k).nextAt
    | _ => s
  else s)

/-! ### WAIT_SLACK (R145 to R147, R284) -/

/-- The flow of strand `k` begins a wait at its nominal start: a held step of every member (R145). -/
def State.beginWait (s : State) (k : Nat) (w : Wait) : State :=
  let b := (s.strand k).nextAt
  (s.advanceTo b).each (s.crew k) (fun s j =>
    ((s.heldStart j b).setSqState j 3).firstStep j |>.modStrand j (fun t => { t with wait := w, nextAt := b }))

/-- The wait of the flow of strand `k` ends with its step starting at `b`. -/
def State.endWait (s : State) (k b : Nat) : State :=
  s.each (s.crew k) (fun s j =>
    ((s.heldFor j (b - (s.strand j).nextAt)).setSqState j 1).modStrand j (fun t => { t with wait := .none, nextAt := b }))

/-- The WAIT_SLACK step itself, its period from the decode before the wait (R106). -/
def State.waitStep (s : State) (k from_ : Nat) : State :=
  let t := s.strand k
  match s.wordAt t.pos with
  | none => s.stopFlow k .badSeg t.nextAt
  | some w =>
    let per := s.periodAt k (wordPsel w) (readPoint from_)
    let (s1, _) := s.issue k w
    let s2 := s1.each (s1.crew k) (fun s j => s.modStrand j (fun t => { t with period := per }))
    s2.goOn k (s2.seqNext k t.pos t.loops t.calls) (t.nextAt + per) none

/-- The instant a WAIT_SLACK of strand `k` decoded at `d` uses, when one is valid, and the state with it consumed (R145, R147):
an instant applied after the decode waits for the next. -/
def State.takeSlack (s : State) (k d : Nat) : Option Nat × State :=
  let a := strandA k Reg.SQ_STATE
  let now : Option Nat := if s.flag a Fld.SQ_STATE_SLACK_VALID then some (s.rd64 (strandA k Reg.SQ_SLACK_AT_LO)) else none
  let done := (s.setFld a Fld.SQ_STATE_SLACK_VALID 0).modStrand k (fun t => { t with slackOld := none })
  match (s.strand k).slackOld with
  | some (v, old, at_) => if d < at_ then (if v then some old else none, s.modStrand k (fun t => { t with slackOld := none })) else (now, done)
  | none => (now, done)

/-- WAIT_SLACK. -/
def execWaitSlack (k : Fin 192) (s : State) : Host.Outcome State Fault Refusal :=
  .next (s.stepWord k (opIs .waitSlack) (fun s w =>
    let b := (s.strand k).nextAt
    if bitOf (wordOpnd w) 15 then
      let l := s.leaderOf k
      let group := s.splitGroup l
      let alone := l = 255 || (s.role k == 3 && s.sqState l == 5) || group == [k.val]
      if alone then s.plainStep k w
      else
        let us := wordOpnd w % 4096
        let lim := if us = 0 then none else some (b + us * usU)
        (s.beginWait k (.sync b lim none)).evalSync l b
    else
      let (at_, s1) := s.takeSlack k (readPoint b)
      let late (s : State) : State :=
        if bitOf (wordOpnd w) 14 then (s.raise (strandA k Reg.SQ_STAT) Fld.SQ_STAT_SLACK_LATE).plainStep k w
        else s.stopFlow k .slackMissed b
      match at_ with
      | none => late s1
      | some c =>
        let t := s1.unitsOf c
        if t < b then late s1 else if t = b then s1.plainStep k w else s1.beginWait k (.instant t)))

/-- SLACK_WAIT_DONE: the instant is reached (R145). -/
def execSlackWaitDone (k : Fin 192) (s : State) : Host.Outcome State Fault Refusal :=
  .next (match s.sqState k == 3 && s.role k != 2, (s.strand k).wait with
    | true, .instant t =>
      let from_ := (s.strand k).nextAt
      (s.endWait k t).waitStep k from_
    | _, _ => s)

/-- A split follower is lashed again (R284): it discards its own position and stacks; its ALPG stays (R175). -/
def State.rejoin (s : State) (k b : Nat) : State :=
  let s1 := (s.heldFor k (b - (s.strand k).nextAt)).setSqState k 1
  let s2 := (s1.setRole k 2).raise (coveA (coveOf k) Reg.LB_STAT) Fld.LB_STAT_REJOIN
  s2.modStrand k (fun t => { t with wait := .none, loops := [], calls := [], rptLeft := none, nextAt := b }.endBlocks)

/-- LASH_SYNC_MET: the waiting members of strand `k`'s split group start together, and its split followers rejoin their leader
(R284); a follower whose leader has halted starts alone and does not rejoin (R285). -/
def execLashSyncMet (k : Fin 192) (s : State) : Host.Outcome State Fault Refusal :=
  .next (match s.sqState k == 3 && s.role k != 2, (s.strand k).wait with
    | true, .sync _ _ (some b) =>
      let l := s.leaderOf k
      if s.sqState l = 5 then
        let from_ := (s.strand k).nextAt
        (s.endWait k b).waitStep k from_
      else
        let followers := (s.splitGroup l).filter (fun j => j != l)
        let from_ := (s.strand l).nextAt
        let s1 := s.endWait l b
        let s2 := s1.each followers (fun s j => s.rejoin j b)
        s2.waitStep l from_
    | _, _ => s)

/-- SYNC_TO: the timeout of strand `k`'s lash sync passes first (R146, R285). -/
def execSyncTo (k : Fin 192) (s : State) : Host.Outcome State Fault Refusal :=
  .next (match s.sqState k == 3 && s.role k != 2, (s.strand k).wait with
    | true, .sync _ (some lim) start =>
      let first := match start with
        | none => true
        | some b => decide (lim < b)
      if first then
        let crew := s.crew k
        let s1 := (s.advanceTo lim).stopFlow k .syncTo lim
        s1.each crew (fun s j => s.raise (coveA (coveOf j) Reg.LB_STAT) Fld.LB_STAT_SYNC_TO)
      else s
    | _, _ => s)

/-! ### Runs and resumptions (R151, R154) -/

/-- The touchdown count of strand `j`'s cove: the first run start after an apply (spec/21_life_store.md R495). -/
def State.touchdown (s : State) (j : Nat) : State :=
  let c := coveOf j
  if s.place.toTouch.contains c then
    ({ s with place := { s.place with toTouch := s.place.toTouch.filter (fun x => x != c) } }).life (1536 + c)
  else s

/-- A run starts at member `j` (R151, R160, R205, R278): its stacks, flags, markers and MATCH records are cleared, its generator is
loaded, capture runs again. -/
def State.startMember (s : State) (j leader b : Nat) : State :=
  let s1 := (((s.touchdown j).alpgStart j).setSqState j 1).wr (strandA j Reg.SQ_MATCH) 0
  let s2 := s1.wr (coveA (coveOf j) (Reg.LB_MATCH + 4 * (j % 12))) 0
  let s3 := s2.setFld (strandA j Reg.FL_STAT) Fld.FL_STAT_STOPPED 0
  let s4 := if j = leader then s3 else s3.setRole j 2
  s4.modStrand j (fun t => { t with
    loops := [], calls := [], rptLeft := none, failTimes := [], markers := 0, capture := true, ovfCause := 0,
    stops := [], wait := .none, holdFrom := none, nextAt := b, launched := true, matchFirst := [], launch := none,
    perOld := t.perOld.filter (fun e => decide (b < e.2.2)), slackOld := none, after := false, ranSince := true })

/-- The flow of strand `k` resumes with its first step at `b` (R154): every member of the crew that is parked. A PARK on the last
word of a segment has its successor examined now. -/
def State.resumeAt (s : State) (k b : Nat) : State :=
  let s1 := s.each (s.crew k) (fun s j =>
    ((s.addLed j Reg.SQ_PARK_TIME_LO (b - (s.strand j).stopAt)).setSqState j 1).modStrand j (fun t =>
      { t with nextAt := b, launched := true, stops := [] }))
  let t := s1.strand k
  let s2 := s1.each (s1.crew k) (fun s j => s.setSqPos j (s.strand j).lastPos.seg (s.strand j).lastPos.off)
  let s3 := s2.modStrand k (fun t => { t with launch := none })
  if t.after then
    let n := s3.seqNext k t.pos t.loops t.calls
    let s4 := s3.putNext k { n with target := true } b
    match n.stop with
    | some c => s4.stopFlow k c b
    | none => s4.lookahead k
  else (s3.modStrand k (fun t => { t with target := true })).lookahead k

/-- RUN_START: the slack-water instant of an accepted run or resumption of strand `k` (R151, R154; spec/16 R417): the flow runs,
with its first step at that instant. The end mark of the former run comes first (R218). -/
def execRunStart (k : Fin 192) (s : State) : Host.Outcome State Fault Refusal :=
  .next (match (s.strand k).launch with
    | none => s
    | some l =>
      let b := s.unitsOf l.at_
      let s1 := (s.advanceTo b).fireBound b
      match l.seg with
      | none => if s1.sqState k = 4 then s1.resumeAt k b else s1
      | some g =>
        let members := if s1.role k = 1 then k.val :: (s1.groupOf k).filter (fun j => j != k.val) else [k.val]
        if members.any (fun j => s.sqState j == 6) then s1.abortRun k
        else if members.any (fun j => (s.strand j).endDue) then s
        else
          let s2 := (s1.each members (fun s j => s.startMember j k b)).showMarks s1
          (s2.modStrand k (fun t => { t with pos := ⟨g, 0⟩, segStart := true, target := true })).lookahead k)

/-! ### Sequencer commands (R158, R159) -/

/-- Clear the step ledger of strand `k` (R158). -/
def State.clearSteps (s : State) (k : Nat) : State :=
  (s.each [Reg.SQ_ISSUED_LO, Reg.SQ_EXEC_LO, Reg.SQ_HELD_LO, Reg.SQ_HOLD_TIME_LO, Reg.SQ_PARK_TIME_LO]
    (fun s o => s.wr64 (strandA k o) 0)).wr (strandA k Reg.SQ_SLIPS) 0

/-- SQ_STAT.CMD_REJ. -/
def State.sqReject (s : State) (k : Nat) : State := s.raise (strandA k Reg.SQ_STAT) Fld.SQ_STAT_CMD_REJ

/-- An SQ_CMD code reaches strand `k` (R152, R154, R158, R159). A resumption starts within 1 µs of the write, at an engine clock
edge that the spec leaves open. (DESIGN CHOICE, log 16) -/
def State.sqCommand (s : State) (k code : Nat) : State :=
  let st := s.sqState k
  match code with
  | 1 => if st = 1 ∨ st = 2 ∨ st = 3 ∨ st = 4 then s.raiseStop k .hostHalt else s.sqReject k
  | 2 =>
    if st = 4 && s.role k != 2 then
      let (f, s1) := s.free
      s1.resumeAt k ((s1.now / cycU + 1 + f % 1199) * cycU)
    else s.sqReject k
  | 3 => if st = 0 ∨ st = 5 then s.clearSteps k else s.sqReject k
  | _ => s.sqReject k

/-- The value SQ_BT_DATA shows. -/
def State.btData (s : State) (k : Nat) : Word :=
  BitVec.ofNat 32 (s.branchTarget k (s.fld (strandA k Reg.SQ_BT_ADDR) Fld.SQ_BT_ADDR_INDEX))

/-- The address step after an SQ_BT_DATA access. -/
def State.btAdvance (s : State) (k : Nat) : State :=
  let a := strandA k Reg.SQ_BT_ADDR
  if s.flag a Fld.SQ_BT_ADDR_AINC then s.setFld a Fld.SQ_BT_ADDR_INDEX (s.fld a Fld.SQ_BT_ADDR_INDEX + 1) else s

/-- A write through SQ_BT_DATA (R159). -/
def State.btWrite (s : State) (k : Nat) (al : Alias) (d : Word) : State :=
  let i := s.fld (strandA k Reg.SQ_BT_ADDR) Fld.SQ_BT_ADDR_INDEX
  let s1 :=
    if s.tablesOpen k then
      s.modStrand k (fun t => { t with tables := { t.tables with
        bt := Store.putD t.tables.bt i ((aliasValue al (s.btData k) d).toNat % 65536) 0 } })
    else s.raise (strandA k Reg.SQ_STAT) Fld.SQ_STAT_BT_REJ
  s1.btAdvance k

end Sys2Proof.Machine
end

