-- ==== Sys2Proof/Machine/SpliceCore.lean ====
section
/-! DEFINITION. The splice engine's operations (spec/09_splice_engine.md): cells, lanes, contexts, folding, solving a segment,
and the final splice up to the die's result. -/

namespace Sys2Proof.Machine

/-! ### Cells (R232, R233) -/

/-- The geometry of a placed die. -/
def State.geomOf (s : State) (d : Nat) : Option Geometry :=
  match s.place.table with
  | some t => match Store.get? t.types d with
    | some ty => Store.get? t.geoms ty
    | none => none
  | none => none

/-- What an event's pins are: its segment (0 when outside), its row, its cells' columns, and its non-data and outside fails. -/
structure Cells where
  seg : Nat
  row : Nat
  cols : List Nat
  nonData : Nat
  outside : Nat
  deriving DecidableEq, Repr

/-- The pins set in a mask. -/
def pinsSet (m : Nat) : List Nat := (List.range 8).filter (fun p => bitOf m p)

/-- The cells of an event of the strand in slot `k` of a die with geometry `q` (R232). -/
def Geometry.cells (q : Geometry) (k : Nat) (e : LaneEv) : Cells :=
  let row := (e.x >>> q.rowShift) % 2 ^ q.rowBits
  let bank := (e.z >>> q.bankShift) % 2 ^ q.bankBits
  let cf := (e.y >>> q.colShift) % 2 ^ q.colBits
  let sa := row / q.rows
  let inside := decide (bank < q.banks) && decide (sa < q.subs)
  let pin (c : Cells) (p : Nat) : Cells :=
    let m := q.iomap.getD (8 * k + p) 0xFE
    if m = 0xFE then c
    else if m = 0xFF then { c with nonData := c.nonData + 1 }
    else if !inside || decide (q.iow ≤ m) || decide (q.cols ≤ cf * q.iow + m) then { c with outside := c.outside + 1 }
    else { c with cols := c.cols ++ [cf * q.iow + m] }
  (pinsSet e.pins).foldl pin ⟨if inside then bank * q.subs + sa else 0, row % q.rows, [], 0, 0⟩

/-- The cells of an event: one outside fail a pin when its strand holds no slot of its die (R232). -/
def State.cellsOf (s : State) (e : LaneEv) : Cells :=
  let x := s.entryOf e.strand
  match s.geomOf e.die with
  | some q => if x.placed && x.die == some e.die then q.cells x.slot e else ⟨0, 0, [], 0, (pinsSet e.pins).length⟩
  | none => ⟨0, 0, [], 0, (pinsSet e.pins).length⟩

/-- An event without a die of the placement in force (R233). -/
def State.noDie (s : State) (e : LaneEv) : Bool := e.die == 0xFFFF || !s.diePlaced e.die

/-- The lane of an event (R233). -/
def State.laneOf (s : State) (e : LaneEv) : Nat :=
  if s.noDie e then 0 else ((s.cellsOf e).seg + 5 * e.die) % 16

/-! ### Lanes and contexts -/

/-- Lane `l`. -/
def State.lane (s : State) (l : Nat) : Lane := Store.getD s.splice.lanes l {}

/-- Change it. -/
def State.modLane (s : State) (l : Nat) (f : Lane → Lane) : State :=
  { s with splice := { s.splice with lanes := Store.putD s.splice.lanes l (f (s.lane l)) {} } }

/-- The physical lane that serves logical lane `l` (spec/17_clocks_power_startup.md R440). -/
def State.physLane (s : State) (l : Nat) : Nat := Store.getD s.splice.phys l l

/-- The slot of a context. -/
def State.findCtx (s : State) (kind : CtxKind) (l d g line : Nat) : Option Nat :=
  (s.splice.ctxs.find? (fun e => e.2.kind == kind && e.2.lane == l && e.2.die == d && e.2.seg == g && e.2.line == line)).map (·.1)

/-- The context in a slot. -/
def State.ctx (s : State) (i : Nat) : Option Ctx := Store.get? s.splice.ctxs i

/-- Change the context in a slot, noting its use. -/
def State.modCtx (s : State) (i : Nat) (f : Ctx → Ctx) : State :=
  match s.ctx i with
  | some c => { s with splice := { s.splice with
      ctxs := Store.put s.splice.ctxs i { f c with used := s.splice.uses + 1 }, uses := s.splice.uses + 1 } }
  | none => s

/-- Pool entries that hold contexts, of lane `l` (R238). -/
def State.pooled (s : State) (l : Nat) : List (Nat × Ctx) := s.splice.ctxs.filter (fun e => e.2.lane == l && e.2.pooled)

/-- The least recently used entry of a list of contexts. -/
def leastUsed : List (Nat × Ctx) → Option (Nat × Ctx)
  | [] => none
  | e :: t =>
    match leastUsed t with
    | some x => if x.2.used < e.2.used then some x else some e
    | none => some e

/-- Make room in lane `l`'s partition (R238): the least recently used row, column or segment context is written back. -/
def State.makeRoom (s : State) (l : Nat) : State :=
  let p := s.pooled l
  if p.length < 8192 then s
  else match leastUsed (p.filter (fun e => e.2.kind != .die)) with
    | some (i, c) => { s with splice := { s.splice with ctxs := Store.put s.splice.ctxs i { c with pooled := false } } }
    | none => s

/-- The lowest slot not taken. -/
def freeSlot : Store Ctx → Nat → Nat
  | [], i => i
  | (k, _) :: t, i => if k = i then freeSlot t (i + 1) else i

/-- Create a context, if the free list is not empty (R237, R239). -/
def State.newCtx (s : State) (c : Ctx) : Option Nat × State :=
  if 1048576 ≤ s.splice.ctxs.length then (none, s.raise Reg.SP_STAT Fld.SP_STAT_CTX_FULL)
  else
    let s1 := s.makeRoom c.lane
    let i := freeSlot s1.splice.ctxs 0
    (some i, { s1 with splice := { s1.splice with
      ctxs := Store.put s1.splice.ctxs i { c with used := s1.splice.uses + 1 }, uses := s1.splice.uses + 1 } })

/-- A context, created at its first need. -/
def State.needCtx (s : State) (kind : CtxKind) (l d g line : Nat) : Option Nat × State :=
  match s.findCtx kind l d g line with
  | some i => (some i, s)
  | none => s.newCtx { kind := kind, lane := l, die := d, seg := g, line := line }

/-- CTX_LOST for die `d` in lane `l` (R239): in the die context, or in the lane's die table. -/
def State.ctxLost (s : State) (l d : Nat) : State :=
  match s.findCtx .die l d 0 0 with
  | some i => s.modCtx i (fun c => { c with flag := true })
  | none => s.modLane l (fun n => if n.lost.contains d then n else { n with lost := n.lost ++ [d] })

/-- The contexts of a die return to the free list (R240). -/
def State.freeDie (s : State) (d : Nat) : State :=
  let s1 := { s with splice := { s.splice with ctxs := s.splice.ctxs.filter (fun e => e.2.die != d) } }
  { s1 with splice := { s1.splice with lanes := s1.splice.lanes.map (fun (e : Nat × Lane) =>
      (e.1, { e.2 with waiting := e.2.waiting.filter (fun x => x.die != d), lost := e.2.lost.filter (fun x => x != d) })) } }

/-- A saturating 32-bit count. -/
def sat32 (n : Nat) : Nat := min 4294967295 n

/-! ### Folding (R241) -/

/-- Append a cross-line to a row or column context; more than `limit` distinct ones set MUST. Answers whether MUST set. -/
def Ctx.append (c : Ctx) (limit x : Nat) : Ctx × Bool :=
  if c.flag || c.list.contains x then (c, false)
  else
    let c1 := { c with list := c.list ++ [x] }
    if limit < c1.list.length then ({ c1 with flag := true }, true) else (c1, false)

/-- Append a cross-line to the context in slot `i`, with `hits` more cells; a MUST counts in the segment context `g`, in
MR_ROWS or MR_COLS. -/
def State.foldLine (s : State) (i g limit hits x : Nat) (isRow : Bool) : State :=
  match s.ctx i with
  | none => s
  | some c =>
    let (c1, must) := c.append limit x
    let s1 := s.modCtx i (fun _ => { c1 with hits := sat32 (c1.hits + hits) })
    if must then
      s1.modCtx g (fun q => if isRow then { q with mrRows := min 255 (q.mrRows + 1) } else { q with mrCols := min 255 (q.mrCols + 1) })
    else s1

/-- A row or column context of a segment; a new one counts in the segment context. -/
def State.needLine (s : State) (kind : CtxKind) (l d g line seg : Nat) : Option Nat × State :=
  match s.findCtx kind l d seg line with
  | some i => (some i, s)
  | none =>
    match s.newCtx { kind := kind, lane := l, die := d, seg := seg, line := line } with
    | (some i, s1) => (some i, s1.modCtx g (fun c => if kind = .row then { c with a := min 65535 (c.a + 1) } else { c with b := min 65535 (c.b + 1) }))
    | (none, s1) => (none, s1)

/-- Fold the cells of an event into row, column and segment contexts. -/
def State.foldCells (s : State) (l d : Nat) (q : Geometry) (x : Cells) : State :=
  let j := x.cols.length
  if j = 0 then s
  else match s.needCtx .seg l d x.seg 0 with
    | (none, s1) =>
      let a := Reg.SP_LOST
      (s1.ctxLost l d).wr a (BitVec.ofNat 32 (sat32 ((s1.rd a).toNat + j)))
    | (some g, s1) =>
      let s2 := s1.modCtx g (fun c => { c with hits := sat32 (c.hits + j) })
      let (row, s3) := s2.needLine .row l d g x.row x.seg
      let s4 := match row with
        | some i => x.cols.zipIdx.foldl (fun s (e : Nat × Nat) =>
            s.foldLine i g q.spareCols (if e.2 = 0 then j else 0) e.1 true) s3
        | none => s3
      let s5 := x.cols.foldl (fun (a : State × Nat) c =>
        match a.1.needLine .col l d g c x.seg with
        | (some i, s6) => (s6.foldLine i g q.spareRows 1 x.row false, if row.isNone then a.2 + 1 else a.2)
        | (none, s6) => (s6, a.2 + 1)) (s4, 0)
      let s7 := if s5.2 = 0 then s5.1
        else (s5.1.ctxLost l d).wr Reg.SP_LOST (BitVec.ofNat 32 (sat32 ((s5.1.rd Reg.SP_LOST).toNat + s5.2)))
      match s7.ctx g with
      | some c =>
        if !c.flag && (decide (q.spareRows < c.mrRows) || decide (q.spareCols < c.mrCols)) then
          let s8 := s7.modCtx g (fun c => { c with flag := true })
          match s8.findCtx .die l d 0 0 with
          | some i => s8.modCtx i (fun c => { c with early := min 65535 (c.early + 1) })
          | none => s8
        else s7
      | none => s7

/-- Fold an event whose contexts are at hand (R241). -/
def State.foldEvent (s : State) (l : Nat) (e : LaneEv) : State :=
  let x := s.cellsOf e
  let s1 := match s.findCtx .die l e.die 0 0 with
    | some i => s.modCtx i (fun c => { c with
        events := sat32 (c.events + 1), b := sat32 (c.b + x.cols.length),
        nonData := sat32 (c.nonData + x.nonData), outside := sat32 (c.outside + x.outside) })
    | none => s
  match s1.geomOf e.die with
  | some q => s1.foldCells l e.die q x
  | none => s1

/-- The slots of the contexts that folding an event needs and that exist. -/
def State.needed (s : State) (l : Nat) (e : LaneEv) : List Nat :=
  let x := s.cellsOf e
  let lines := if x.cols.isEmpty then [] else
    [s.findCtx .seg l e.die x.seg 0, s.findCtx .row l e.die x.seg x.row] ++ x.cols.map (fun c => s.findCtx .col l e.die x.seg c)
  (s.findCtx .die l e.die 0 0 :: lines).filterMap id

/-- Those of them that are not in the pool. -/
def State.toFetch (s : State) (l : Nat) (e : LaneEv) : List Nat :=
  (s.needed l e).filter (fun i => match s.ctx i with | some c => !c.pooled | none => false)

/-- The die context of an event's die in lane `l` asks for a rebuild (R250). -/
def State.recomp (s : State) (l d : Nat) : Bool :=
  match s.findCtx .die l d 0 0 with
  | some i => match s.ctx i with
    | some c => c.recomp
    | none => false
  | none => false

/-- Fold an event, or let it wait for a context: behind an earlier waiting event of its segment, or for one fetched from DRAM at
class 4 (R238, R242). -/
def State.foldOrWait (s : State) (l : Nat) (e : LaneEv) : State :=
  if s.recomp l e.die then s
  else
    let g := (s.cellsOf e).seg
    let behind := (s.lane l).waiting.any (fun w => w.die == e.die && (s.cellsOf w).seg == g)
    let miss := s.toFetch l e
    if behind || !miss.isEmpty then
      let s1 := s.modLane l (fun n => { n with waiting := n.waiting ++ [e] })
      s1.each miss (fun s i =>
        if s.mem.reqs.any (fun r => r.use == .context i) then s
        else { s with mem := { s.mem with reqs := s.mem.reqs ++ [⟨.context i, 4, i % 8, s.now, false, 0⟩] } })
    else s.foldEvent l e

/-- Lane `l` takes an event (R220, R233, R235, R241): it counts in FL_FOLDED. -/
def State.takeEvent (s : State) (l : Nat) (e : LaneEv) : State :=
  let s1 := s.addLed e.strand Reg.FL_FOLDED_LO 1
  if s1.noDie e then
    (s1.wr Reg.SP_NODIE (BitVec.ofNat 32 (sat32 ((s1.rd Reg.SP_NODIE).toNat + 1)))).raise Reg.SP_STAT Fld.SP_STAT_NODIE
  else
    let s2 := match s1.needCtx .die l e.die 0 0 with
      | (some _, s2) => s2
      | (none, s2) => s2.ctxLost l e.die
    s2.foldOrWait l e

/-- Fold waiting events of lane `l` whose contexts have come, in order (R242). -/
def State.foldWaiting (s : State) (l : Nat) : State :=
  let w := (s.lane l).waiting
  w.foldl (fun s e => s.foldOrWait l e) (s.modLane l (fun n => { n with waiting := [] }))

/-- A context of die `d` and segment `g` failed its CRC in lane `l` (R250). -/
def State.ctxCrc (s : State) (l d g : Nat) : State :=
  let s1 := s.satAdd Reg.SP_CRC_CNT Fld.SP_CRC_CNT_CTX 1
  let s2 := s1.wr Reg.SP_CRC_LOC (BitVec.ofNat 32 (d * 65536 + g % 65536))
  let s3 := (s2.raise Reg.SP_STAT Fld.SP_STAT_CRC_ERR).fault (srcLane (s2.physLane l)) 1 d
  let s4 := match s3.needCtx .die l d 0 0 with
    | (some i, s4) => s4.modCtx i (fun c => { c with recomp := true })
    | (none, s4) => s4.ctxLost l d
  s4.modLane l (fun n => { n with waiting := n.waiting.filter (fun e => e.die != d) })

/-! ### The journal as the splice engine reads it -/

/-- The records of the journal with their positions, those still in the writer included. -/
def State.allRecs (s : State) : List (Nat × JrnRec) :=
  let groups := s.failPath.journal ++ s.failPath.writing ++ [(s.failPath.nextGroup, s.failPath.buffer)]
  groups.flatMap (fun g => g.2.zipIdx.map (fun e => (4 * g.1 + e.2, e.1)))

/-- A record as an event of a lane. -/
def JrnRec.event (r : JrnRec) : LaneEv := ⟨r.strand, r.die, r.x, r.y, r.z, r.pins⟩

/-- The fail event records of die `d` in a window that belong to lane `l` (R246, R250): all of them, or those with SPILL. -/
def State.windowRecs (s : State) (l d start stop : Nat) (all : Bool) : List (Nat × JrnRec) :=
  s.allRecs.filter (fun e => decide (start ≤ e.1) && decide (e.1 < stop) && e.2.type == 0 && e.2.die == d &&
    (all || bitOf e.2.flags 1) && s.laneOf e.2.event == l)

/-! ### Solving a segment (R247) -/

/-- A line of a segment: its number, MUST, and its LIST. -/
structure Line where
  line : Nat
  must : Bool
  list : List Nat
  deriving DecidableEq, Repr

/-- The lines of a kind of segment `g` of die `d` in lane `l`, ascending. -/
def State.linesOf (s : State) (kind : CtxKind) (l d g : Nat) : List Line :=
  ((s.splice.ctxs.filter (fun e => e.2.kind == kind && e.2.lane == l && e.2.die == d && e.2.seg == g)).map
    (fun e => (⟨e.2.line, e.2.flag, e.2.list⟩ : Line))).foldl (fun acc x => insertBy Line.line x acc) []

/-- One pass over lines: those that must be replaced, given the crossing lines fixed and the spares of the crossing kind. -/
def mustPass (lines : List Line) (cross : List Nat) (spares : Nat) (fixed : List Nat) : List Nat :=
  lines.foldl (fun f x =>
    if f.contains x.line then f
    else if x.must || decide ((spares : Int) - (cross.length : Int) < ((x.list.filter (fun y => !cross.contains y)).length : Int)) then f ++ [x.line]
    else f) fixed

/-- The must-repair phase: rows and columns fixed, or none when the spares do not suffice. -/
def mustPhase (rows cols : List Line) (sr sc : Nat) : Nat → List Nat → List Nat → Option (List Nat × List Nat)
  | 0, rf, cf => some (rf, cf)
  | n + 1, rf, cf =>
    let rf1 := mustPass rows cf sc rf
    let cf1 := mustPass cols rf1 sr cf
    if sr < rf1.length ∨ sc < cf1.length then none
    else if rf1.length = rf.length ∧ cf1.length = cf.length then some (rf1, cf1)
    else mustPhase rows cols sr sc n rf1 cf1

/-- Results of the branch search. -/
inductive Found3 where
  | found (rows cols : List Nat)
  | none
  | stop
  deriving DecidableEq, Repr

/-- The least cell, by row, then column. -/
def leastCell : List (Nat × Nat) → Option (Nat × Nat)
  | [] => none
  | e :: t =>
    match leastCell t with
    | some x => if x.1 < e.1 ∨ (x.1 = e.1 ∧ x.2 < e.2) then some x else some e
    | none => some e

/-- The branch search (R247): `n` branches taken so far; answers the result and the branches taken. -/
def search (bound : Nat) : Nat → List (Nat × Nat) → Nat → Nat → Nat → Found3 × Nat
  | fuel, f, sr, sc, n =>
    match leastCell f with
    | none => (.found [] [], n)
    | some (r, c) =>
      let n1 := n + 1
      if bound < n1 then (.stop, n1)
      else match fuel with
        | 0 => (.none, n1)
        | fuel + 1 =>
          let (x, n2) := if 0 < sr then search bound fuel (f.filter (fun e => e.1 != r)) (sr - 1) sc n1 else (.none, n1)
          match x with
          | .found a b => (.found (a ++ [r]) b, n2)
          | .stop => (.stop, n2)
          | .none =>
            if 0 < sc then
              match search bound fuel (f.filter (fun e => e.2 != c)) sr (sc - 1) n2 with
              | (.found a b, n3) => (.found a (b ++ [c]), n3)
              | y => y
            else (.none, n2)

/-- The answer for a segment. -/
inductive SegAnswer where
  | repairable (rows cols : List Nat)
  | unrepairable
  | undetermined
  deriving DecidableEq, Repr

/-- Solve a segment (R247). -/
def solve (rows cols : List Line) (sr sc bound : Nat) : SegAnswer :=
  match mustPhase rows cols sr sc 16 [] [] with
  | none => .unrepairable
  | some (rf, cf) =>
    let cells := rows.flatMap (fun x => if rf.contains x.line then [] else
      (x.list.filter (fun c => !cf.contains c)).map (fun c => (x.line, c)))
    match (search bound (sr + sc + 1) cells (sr - rf.length) (sc - cf.length) 0).1 with
    | .found a b => .repairable (rf ++ a) (cf ++ b)
    | .none => .unrepairable
    | .stop => .undetermined

/-- Numbers in ascending order. -/
def ascending (l : List Nat) : List Nat := l.foldl (fun acc x => insertBy id x acc) []

/-- The records of a segment's answer (R253): segment, kind, spare, line. -/
def SegAnswer.records (a : SegAnswer) (g : Nat) : List (Nat × Nat × Nat × Nat) :=
  match a with
  | .repairable rows cols =>
    (ascending rows).zipIdx.map (fun e => (g, 0, e.2, e.1)) ++ (ascending cols).zipIdx.map (fun e => (g, 1, e.2, e.1))
  | .unrepairable => [(g, 2, 0, 0)]
  | .undetermined => [(g, 3, 0, 0)]

/-! ### The final splice (R244 to R253) -/

/-- BOUND as applied (SP_CTRL). -/
def State.spBound (s : State) : Nat := clipTo 1 1024 (s.fld Reg.SP_CTRL Fld.SP_CTRL_BOUND)

/-- Lane `l` finishes die `d`: it solves its segments in ascending order. -/
def State.laneSolve (s : State) (l d bound : Nat) (recomputed bad : Bool) : LaneSum :=
  match s.geomOf d with
  | none => {}
  | some q =>
    let segs := ascending ((s.splice.ctxs.filter (fun e => e.2.kind == .seg && e.2.lane == l && e.2.die == d)).map (fun e => e.2.seg))
    let answers := segs.map (fun g => (g, solve (s.linesOf .row l d g) (s.linesOf .col l d g) q.spareRows q.spareCols bound))
    let dc : Ctx := match s.findCtx .die l d 0 0 with
      | some i => (s.ctx i).getD { kind := .die, lane := l, die := d, seg := 0, line := 0 }
      | none => { kind := .die, lane := l, die := d, seg := 0, line := 0 }
    { records := answers.flatMap (fun e => e.2.records e.1)
      events := dc.events, cells := dc.b, nonData := dc.nonData, outside := dc.outside
      unrepairable := answers.any (fun e => e.2 == .unrepairable)
      undetermined := answers.any (fun e => e.2 == .undetermined)
      lost := dc.flag || (s.lane l).lost.contains d
      recomputed := recomputed
      early := decide (0 < dc.early)
      bad := bad }

/-- The result of a die: outcome and block (R249, R252, R253). -/
def State.dieResult (s : State) (f : Final) : Nat × List Byte :=
  let sum (g : LaneSum → Nat) : Nat := sat32 ((f.sums.map g).foldl (· + ·) 0)
  let any (g : LaneSum → Bool) : Bool := f.sums.any g
  let q := s.geomOf f.die
  let nonAct := match q with | some q => q.nonAct | none => 0
  let bins := match q with | some q => q.bins | none => []
  let type := match s.place.table with | some t => Store.getD t.types f.die 0 | none => 0
  let nonData := sum LaneSum.nonData
  let outside := sum LaneSum.outside
  let cells := sum LaneSum.cells
  let outcome :=
    if any LaneSum.unrepairable || (decide (0 < nonData) && nonAct == 0) || decide (0 < outside) then 5
    else if any LaneSum.bad || f.imbalance then 4
    else if f.overflow then 3
    else if any LaneSum.undetermined || any LaneSum.lost then 2
    else if 0 < cells ∨ 0 < nonData then 1
    else 0
  let reasons := bitN (decide (0 < nonData)) + 2 * bitN (decide (0 < outside)) + 4 * bitN (any LaneSum.lost) + 8 * bitN f.overflow +
    16 * bitN (any LaneSum.bad) + 32 * bitN f.imbalance + 64 * bitN (any LaneSum.recomputed) + 128 * bitN (any LaneSum.undetermined) +
    256 * bitN (any LaneSum.early)
  let recs := (f.sums.flatMap LaneSum.records).foldl (fun acc x => insertBy (fun y => y.1) x acc) []
  let body := recs.flatMap (fun r => leBytes 2 r.1 ++ leBytes 1 (r.2.1 * 64 + r.2.2.1 * 8) ++ leBytes 1 0 ++ leBytes 4 r.2.2.2)
  let head (crc : Nat) := leBytes 4 0x53504C01 ++ leBytes 2 f.die ++ leBytes 2 type ++ leBytes 1 outcome ++ leBytes 1 (bins.getD outcome 0) ++
    leBytes 2 reasons ++ leBytes 4 recs.length ++ leBytes 4 (sum LaneSum.events) ++ leBytes 4 cells ++ leBytes 4 f.counted ++ leBytes 4 crc
  (outcome, head (crc32 (head 0 ++ body)) ++ body)

/-- Change the final splice of die `d`. -/
def State.modFinal (s : State) (d : Nat) (g : Final → Final) : State :=
  { s with splice := { s.splice with finals := s.splice.finals.map (fun (f : Final) => if f.die = d then g f else f) } }

/-- The final splice of die `d` that is running (R240). -/
def State.finalOf (s : State) (d : Nat) : Option Final := s.splice.finals.find? (fun f => f.die == d)

/-- When every lane has finished, the result is formed and waits for the result ring (R246, R252). -/
def State.formResult (s : State) (d : Nat) : State :=
  match s.finalOf d with
  | some f =>
    if f.left.isEmpty && !f.formed then
      let (_, bytes) := s.dieResult f
      let s1 := s.modFinal d (fun f => { f with formed := true })
      { s1 with host := { s1.host with results := s1.host.results ++ [⟨d, bytes⟩] } }
    else s
  | none => s

/-- The lanes at work in a final splice of die `d` over a window (R246). -/
def State.workLanes (s : State) (d start stop : Nat) : List Nat :=
  (List.range 16).filter (fun l =>
    s.splice.ctxs.any (fun e => e.2.lane == l && e.2.die == d) || (s.lane l).lost.contains d ||
    !(s.windowRecs l d start stop false).isEmpty || (s.lane l).input.any (fun e => e.die == d))

/-- The final splice of die `d` starts (R243 to R246). -/
def State.startFinal (s : State) (d : Nat) : State :=
  let r := s.dieRec d
  let stop := max r.start (r.mark.getD r.start)
  let lanes := s.workLanes d r.start stop
  let f : Final := {
    die := d, start := r.start, stop := stop, bound := s.spBound, left := lanes, sums := [], counted := r.counted,
    imbalance := !r.imbalances.isEmpty, overflow := r.overflows.any (fun p => decide (p < stop)), formed := false, cut := false }
  let s1 := s.each (List.range 16) (fun s l =>
    let mine := (s.lane l).input.filter (fun e => e.die == d)
    let s2 := if mine.isEmpty then s else s.modLane l (fun n => { n with input := n.input.filter (fun e => e.die != d) })
    mine.foldl (fun s e => s.takeEvent l e) s2)
  let s3 := { s1 with splice := { s1.splice with finals := s1.splice.finals ++ [f] } }
  let s4 := s3.modDie d (fun r => { r with
    start := stop, imbalances := [], overflows := r.overflows.filter (fun p => decide (stop ≤ p)), again := false })
  s4.formResult d

/-- A final splice of die `d` may start on command (R244). -/
def State.canFinal (s : State) (d : Nat) : Bool :=
  s.diePlaced d && (s.finalOf d).isNone &&
  (s.dieStrands d).all (fun k => let st := s.fld (strandA k Reg.SQ_STATE) Fld.SQ_STATE_STATE; st == 0 || st == 5)

end Sys2Proof.Machine
end

