-- ==== Sys2Proof/Machine/Fail.lean ====
section
/-! DEFINITION. The meanings of the fail path's commands (spec/08_fail_capture.md): forming events, the fail switch, the journal, end
marks, journal reset and audit, ledgers. -/

namespace Sys2Proof.Machine

/-! ### Forming an event (R205 to R211) -/

/-- The record that forms the next fail event of strand `k`: the oldest outside a MATCH block, once its strobes are evaluated. -/
def State.nextFail (s : State) (k : Nat) : Option StepRec :=
  match (s.strand k).recs.find? (fun r => r.block.isNone) with
  | some r => if r.pend = 0 ∧ !r.fails.isEmpty then some r else none
  | none => none

/-- The event of a record. -/
def State.eventOf (s : State) (k : Nat) (r : StepRec) : FailEvent :=
  ⟨r.start, k, failMask' r.fails, r.xp, r.yp, r.zp, s.fld (strandA k Reg.FL_DIE) Fld.FL_DIE_DIE,
   s.flag (strandA k Reg.FL_DIE) Fld.FL_DIE_VALID, r.fails.any (fun f => f.nodec), r.isMatch⟩
where
  /-- The pin mask of failing strobes. -/
  failMask' (l : List StrobeFail) : Nat := l.foldl (fun m f => Nat.lor m (2 ^ f.pin)) 0

/-- The DIE field of an event's records (R214). -/
def FailEvent.dieField (e : FailEvent) : Nat := if e.dieValid then e.die else 0xFFFF

/-- Journal the overflow mark of strand `k`, once its queue is empty (R209). -/
def State.flushMark (s : State) (k : Nat) : State :=
  let t := s.strand k
  match t.mark with
  | none => s
  | some m =>
    if !t.failQ.isEmpty then s
    else
      let e := m.event
      let pos := s.needBase.jrnPos
      let s1 := (s.modStrand k (fun t => { t with mark := none })).journalRec k e.start 1 e.xp e.yp e.zp e.dieField e.pins
        (bitN e.nodec * 4 + m.cause) 0
      s1.modDie e.dieField (fun r => if s.diePlaced e.dieField then { r with overflows := r.overflows ++ [pos] } else r)

/-- Capture stops at an event (R209): the overflow mark, its registers and the Note message. -/
def State.stopCapture (s : State) (k cause : Nat) (e : FailEvent) (r : StepRec) : State :=
  let s1 := s.wr (strandA k Reg.FL_OVF0) (BitVec.ofNat 32 (2 ^ 31 + cause * 2 ^ 29 + r.seg % 65536))
  let s2 := s1.wr (strandA k Reg.FL_OVF1) (BitVec.ofNat 32 (r.off % 2 ^ 24))
  let s3 := (s2.raise (strandA k Reg.FL_STAT) Fld.FL_STAT_OVF).raise (strandA k Reg.FL_STAT) Fld.FL_STAT_STOPPED
  let s4 := s3.modStrand k (fun t => { t with capture := false, mark := some ⟨e, cause⟩, ovfCause := cause })
  (s4.fault (srcStrand k) 0 k).flushMark k

/-- An event is counted only. -/
def State.countOnly (s : State) (k : Nat) : State := s.addLed k Reg.FL_COUNTED_ONLY_LO 1

/-- FAIL_EVENT: strand `k` forms the next fail event (R205, R206): FL_SEEN, FL_PIN_FAIL, the FAIL flag, and the queue or the
count (R209, R211). -/
def execFailEvent (k : Fin 192) (s : State) : Host.Outcome State Fault Refusal :=
  .next (match s.nextFail k with
    | none => s
    | some r =>
      let e := s.eventOf k r
      let s1 := s.modStrand k (fun t => ({ t with recs := t.recs.erase r } : Strand).setFail (r.fails.map (fun f => f.t)))
      let s2 := s1.addLed k Reg.FL_SEEN_LO 1
      let s3 := s2.each (pinsSet e.pins) (fun s p =>
        let a := strandA k (Reg.FL_PIN_FAIL + 4 * (p % 8))
        s.wr a (BitVec.ofNat 32 (sat32 ((s.rd a).toNat + 1))))
      if !(s3.strand k).capture then s3.countOnly k
      else if s3.jrnFree ≤ 65536 then (s3.countOnly k).stopCapture k 2 e r
      else if 1024 ≤ (s3.strand k).failQ.length then (s3.countOnly k).stopCapture k 1 e r
      else s3.modStrand k (fun t => { t with failQ := t.failQ ++ [e] }))

/-! ### The fail switch (R16 to R18) -/

/-- The next strand with a queued event, round-robin from a turn. -/
def State.nextStrand (s : State) : Option Nat :=
  let qs := (s.strands.filter (fun e => !e.2.failQ.isEmpty)).map (·.1)
  (qs.find? (fun k => decide (s.failPath.turn ≤ k))).or qs.head?

/-- A lane cannot take an event: its input is full (R18, R241), or a final splice of the die is running (R243). -/
def State.laneShut (s : State) (l d : Nat) : Bool := decide (256 ≤ (s.lane l).input.length) || (s.finalOf d).isSome

/-- FAIL_SWITCH_ACCEPT: the fail switch accepts one event, journals it and offers it to its lane; an event the lane cannot take is
counted as spilled, with SPILL in its record. -/
def execFailSwitchAccept (s : State) : Host.Outcome State Fault Refusal :=
  .next (match s.nextStrand with
    | none => s
    | some k =>
      match (s.strand k).failQ with
      | [] => s
      | e :: rest =>
        let ev : LaneEv := ⟨k, e.dieField, e.xp, e.yp, e.zp, e.pins⟩
        let l := s.laneOf ev
        let spill := s.laneShut l e.dieField
        let s1 := (s.modStrand k (fun t => { t with failQ := rest }))
        let s2 := { s1 with failPath := { s1.failPath with turn := (k + 1) % 192 } }
        let s3 := s2.journalRec k e.start 0 e.xp e.yp e.zp e.dieField e.pins
          (bitN e.nodec * 4 + bitN spill * 2 + bitN e.isMatch) 0
        let s4 := if spill then s3.addLed k Reg.FL_SPILLED_LO 1
          else s3.modLane l (fun n => { n with input := n.input ++ [ev] })
        s4.flushMark k)

/-! ### Journal groups (R212, R216, R221) -/

/-- JOURNAL_GROUP_TIMEOUT: one microsecond after the first record of a group, the group is padded and sent to DRAM. -/
def execJournalGroupTimeout (s : State) : Host.Outcome State Fault Refusal :=
  .next (if s.failPath.buffer.isEmpty then s else (s.advanceTo (s.failPath.since + usU)).closeGroup)

/-- A group has been written to DRAM: its fail event records are counted (R221). -/
def State.countGroup (s : State) (g : Nat) (recs : List JrnRec) : State :=
  let evs := recs.filter (fun r => r.type == 0)
  let s1 := evs.foldl (fun s r => s.addLed r.strand Reg.FL_JRN_EV_LO 1) s
  let s2 := s1.add64 Reg.FL_JRN_EVENTS_LO evs.length
  let s3 := s2.setFld Reg.FL_JRN_WP Fld.FL_JRN_WP_GROUPS (g + 1)
  s3.raiseIf (decide (8388608 - (g + 1) ≤ 65536)) Reg.FL_DEV_STAT Fld.FL_DEV_STAT_JRN_LIMIT

/-- The oldest group on its way reaches DRAM (R212, R221); the strands whose end mark it holds are checked (R226). -/
def State.groupWritten (s : State) : State :=
  match s.failPath.writing with
  | [] => s
  | (g, recs) :: rest =>
    let s1 := { s with failPath := { s.failPath with writing := rest, journal := Store.put s.failPath.journal g recs } }
    let s2 := (s1.traffic 64).countGroup g recs
    let s3 := if 8388608 - (g + 1) = 65536 then s2.fault srcJournal 0 0 else s2
    (recs.filter (fun r => r.type == 2)).foldl (fun s r => s.checkStrand r.strand) s3

/-- JOURNAL_GROUP_WRITTEN: not while the memory is in self-refresh (spec/07_pattern_memory.md R189). (DESIGN CHOICE, log 18) -/
def execJournalGroupWritten (s : State) : Host.Outcome State Fault Refusal :=
  .next (if s.mem.selfRefresh then s else s.groupWritten)

/-- TIME_BASE: 2^39 engine cycles after the previous base, another time-base record (R216). -/
def execTimeBase (s : State) : Host.Outcome State Fault Refusal :=
  .next (match s.failPath.base with
    | none => s
    | some b =>
      let b1 := b + 549755813888
      let s1 := s.advanceTo (b1 * cycU)
      ({ s1 with failPath := { s1.failPath with base := some b1 } }).enterRecord
        ⟨255, 3, (s1.tideOf (b1 * cycU) : Int), 0, 0, 0, 0, 0, 0, 0, 0⟩)

/-! ### End marks (R218) -/

/-- FL_JRN_EV of strand `k` at a mark: the records written, and those before the mark still on their way. -/
def State.evAtMark (s : State) (k : Nat) : Nat :=
  let later := s.failPath.writing.flatMap (·.2) ++ s.failPath.buffer
  s.led k Reg.FL_JRN_EV_LO + (later.filter (fun r => r.type == 0 && r.strand == k)).length

/-- Strand `k` owes an end mark and may write it: every strobe of its steps is evaluated and its queue has drained. -/
def State.markReady (s : State) (k : Nat) : Bool :=
  let t := s.strand k
  t.endDue && t.recs.isEmpty && t.failQ.isEmpty && t.mark.isNone

/-- The end-of-test mark of die `d` (R218), when strand `k`'s end mark at `pos` is that of the last strand of the die to halt. -/
def State.endOfTest (s : State) (d pos : Nat) : State :=
  let ks := s.dieStrands d
  let quiet := ks.all (fun j => (s.sqState j == 0 || s.sqState j == 5) && !(s.strand j).endDue)
  if quiet then
    let counted := sat32 ((ks.map (fun j => s.led j Reg.FL_COUNTED_ONLY_LO)).foldl (· + ·) 0)
    let s1 := s.each ks (fun s j => s.modStrand j (fun t => { t with ranSince := false }))
    let s2 := s1.modDie d (fun r => { r with mark := some (pos + 1), counted := counted })
    if s2.flag Reg.SP_CTRL Fld.SP_CTRL_AUTO then
      if (s2.finalOf d).isSome then s2.modDie d (fun r => { r with again := true }) else s2.startFinal d
    else s2
  else s

/-- Write the end mark of strand `k`. Its TIME, for which it has no step start, the spec leaves open. (DESIGN CHOICE, log 20) -/
def State.writeEndMark (s : State) (k : Nat) : State :=
  let a := strandA k Reg.FL_DIE
  let die := if s.flag a Fld.FL_DIE_VALID then s.fld a Fld.FL_DIE_DIE else 0xFFFF
  let (f, s1) := s.needBase.free
  let pos := s1.jrnPos
  let q := (s1.strand k).seq
  let s2 := (s1.modStrand k (fun t => { t with endDue := false, seq := t.seq + 1 })).enterRecord
    ⟨k, 2, signed 40 f, 0, 0, 0, die, 0, q % 16, 0, s1.evAtMark k % 4294967296⟩
  match (s2.entryOf k).die with
  | some d => s2.endOfTest d pos
  | none => s2

/-- END_MARK. -/
def execEndMark (k : Fin 192) (s : State) : Host.Outcome State Fault Refusal :=
  .next (if s.markReady k then s.writeEndMark k else s)

/-! ### Journal reset and audit (R219, R227) -/

/-- Write every group on its way. -/
def State.writeAll : Nat → State → State
  | 0, s => s
  | n + 1, s => State.writeAll n s.groupWritten

/-- Reset the journal (R219, R221). -/
def State.resetJournal (s : State) : State :=
  let s0 := s.closeGroup
  let s1 := State.writeAll s0.failPath.writing.length s0
  let s2 := { s1 with failPath := { s1.failPath with
    buffer := [], writing := [], nextGroup := 0, journal := [], base := none } }
  let s3 := (s2.wr64 Reg.FL_JRN_EVENTS_LO 0).wr Reg.FL_JRN_WP 0
  let s4 := s3.each allStrands (fun s k =>
    (s.wr64 (strandA k Reg.FL_JRN_EV_LO) 0).modStrand k (fun t => { t with
      seq := 0, baseJ := 0, baseF := s.led k Reg.FL_FOLDED_LO + s.led k Reg.FL_SPILLED_LO }))
  { s4 with splice := { s4.splice with
    dies := [], finals := s4.splice.finals.map (fun (f : Final) => { f with cut := true }) } }

/-- FL_DEV_CMD reaches the device (R219, R227): JRN_RESET and AUDIT, refused during an active test. -/
def State.flDevCommand (s : State) (d : Word) : State :=
  let v := d.toNat
  let rej (s : State) : State := s.raise Reg.FL_DEV_STAT Fld.FL_DEV_STAT_CMD_REJ
  let s1 := if bitOf v 0 then (if s.activeTest then rej s else s.resetJournal) else s
  if bitOf v 1 then
    (if s1.activeTest then rej s1 else { s1 with failPath := { s1.failPath with audit := some s1.now } })
  else s1

/-- The scan of one strand by an audit: events counted, the SEQ expected next, and the first group of a difference. -/
structure Scan where
  count : Nat := 0
  seq : Nat := 0
  first : Option Nat := none
  deriving DecidableEq, Repr

/-- What an audit finds: strand, first group of the difference, difference. -/
def auditRec (g : Nat) (x : Store Scan × List (Nat × Nat × Int)) (r : JrnRec) : Store Scan × List (Nat × Nat × Int) :=
  if r.type = 3 ∨ r.type = 4 then x
  else
    let c := Store.getD x.1 r.strand {}
    let c1 : Scan := { c with
      seq := (r.seq + 1) % 16, first := if c.seq = r.seq then c.first else some (c.first.getD g),
      count := if r.type = 0 then c.count + 1 else c.count }
    if r.type = 2 then
      let d : Int := (c1.count : Int) - (r.ev32 : Int)
      let found := if d != 0 || c1.first.isSome then x.2 ++ [(r.strand, c1.first.getD g, d)] else x.2
      (Store.put x.1 r.strand { c1 with count := r.ev32, first := none }, found)
    else (Store.put x.1 r.strand c1, x.2)

/-- A journal group read failed its CRC (R217). -/
def State.groupBad (s : State) (g : Nat) : State :=
  ((s.satAdd Reg.FL_JRN_CRC Fld.FL_JRN_CRC_COUNT 1).setFld Reg.FL_JRN_CRC Fld.FL_JRN_CRC_GROUP g).raise
    Reg.FL_DEV_STAT Fld.FL_DEV_STAT_JRN_CRC |>.fault srcJournal 1 g

/-- JOURNAL_AUDIT_DONE: the scan finishes (R227); `bad` are the groups that failed their CRC as they were read. -/
def execJournalAuditDone (bad : List Nat) (s : State) : Host.Outcome State Fault Refusal :=
  .next (match s.failPath.audit with
    | none => s
    | some _ =>
      let groups := s.failPath.journal
      let lost := groups.filter (fun g => bad.contains g.1)
      let s1 := s.each lost (fun s g => s.groupBad g.1)
      let good := groups.filter (fun g => !bad.contains g.1)
      let found := (good.foldl (fun x g => g.2.foldl (auditRec g.1) x) (([], []) : Store Scan × List (Nat × Nat × Int))).2
      let s2 := s1.each found (fun s e => s.jrnImb e.1 e.2.1 e.1 e.2.2)
      ({ s2 with failPath := { s2.failPath with audit := none } }).raise Reg.FL_DEV_STAT Fld.FL_DEV_STAT_AUDIT_DONE)

/-! ### Ledger commands (R229, R230) -/

/-- Clear the fail ledger of strand `k` (R230, R221). -/
def State.clearFails (s : State) (k : Nat) : State :=
  let s1 := s.each [Reg.FL_SEEN_LO, Reg.FL_FOLDED_LO, Reg.FL_SPILLED_LO, Reg.FL_COUNTED_ONLY_LO] (fun s o => s.wr64 (strandA k o) 0)
  let s2 := s1.each (List.range 8) (fun s p => s.wr (strandA k (Reg.FL_PIN_FAIL + 4 * p)) 0)
  let s3 := s2.each [Reg.FL_MASKED, Reg.FL_OVF0, Reg.FL_OVF1] (fun s o => s.wr (strandA k o) 0)
  s3.modStrand k (fun t => { t with baseJ := s.led k Reg.FL_JRN_EV_LO, baseF := 0 })

/-- FL_DIE and LEDGER_CLR are accepted (R230). -/
def State.flOpen (s : State) (k : Nat) : Bool := (s.sqState k == 0 || s.sqState k == 5) && s.inflight k == 0

/-- FL_STAT.CMD_REJ. -/
def State.flReject (s : State) (k : Nat) : State := s.raise (strandA k Reg.FL_STAT) Fld.FL_STAT_CMD_REJ

/-- A write of FL_CMD. -/
def State.flCommand (s : State) (k : Nat) (d : Word) : State :=
  if bitOf d.toNat 0 then (if s.flOpen k then s.clearFails k else s.flReject k) else s

/-- A write of FL_DIE, `v` being the new value. -/
def State.flDieWrite (s : State) (k : Nat) (v : Word) : State :=
  if s.flOpen k then s.wr (strandA k Reg.FL_DIE) (v &&& 0x8000FFFF) else s.flReject k

/-- The strand ledger block (R229) of strand `k`, with the imbalances of the check. -/
def State.ledgerBlock (s : State) (k : Nat) : List Byte :=
  let unchecked := !s.jrnCheckable k
  let flags := bitN (s.failDiff k != 0) + 2 * bitN (s.stepDiff k != 0) + 4 * bitN (!unchecked && s.jrnDiff k != 0) +
    8 * bitN unchecked + 16 * bitN (!(s.strand k).capture) + 32 * bitN (s.sqState k == 6)
  leBytes 8 (s.led k Reg.FL_SEEN_LO) ++ leBytes 8 (s.led k Reg.FL_FOLDED_LO) ++ leBytes 8 (s.led k Reg.FL_SPILLED_LO) ++
  leBytes 8 (s.led k Reg.FL_COUNTED_ONLY_LO) ++ leBytes 8 (s.led k Reg.SQ_ISSUED_LO) ++ leBytes 8 (s.led k Reg.SQ_EXEC_LO) ++
  leBytes 8 (s.led k Reg.SQ_HELD_LO) ++ leBytes 2 k ++ leBytes 1 flags ++ leBytes 1 (s.strand k).ovfCause ++ leBytes 4 (s.inflight k)

/-- The device ledger block. -/
def State.deviceBlock (s : State) : List Byte :=
  leBytes 8 (s.rd64 Reg.FL_JRN_EVENTS_LO) ++ leBytes 4 (s.fld Reg.FL_JRN_WP Fld.FL_JRN_WP_GROUPS) ++
  leBytes 4 (s.fld Reg.FL_JRN_CRC Fld.FL_JRN_CRC_COUNT) ++ leBytes 4 (s.fld Reg.FL_IMB_CNT Fld.FL_IMB_CNT_COUNT) ++
  leBytes 4 (s.rd Reg.FL_DEV_STAT).toNat ++ leBytes 8 s.tideNow ++ List.replicate 32 0

/-- LEDGER_READ: the counters of the strands named are taken at one instant and written, and the ledgers checked (R226, R229). -/
def execLedgerRead (s : State) : Host.Outcome State Fault Refusal :=
  .next (match s.nextCmd 0x0A with
    | none => s
    | some c =>
      let ks := c.mask 0x08
      let out := ks.flatMap (fun k => s.ledgerBlock k) ++ s.deviceBlock
      let s1 := s.each ks (fun s k => (s.checkStep k).checkStrand k)
      (s1.writeOut c 0x20 out).complete c.qp c.idx 0 0 out.length 0)

end Sys2Proof.Machine
end

