-- ==== Sys2Proof/Machine/Splice.lean ====
section
/-! DEFINITION. The meanings of the splice engine's commands (spec/09_splice_engine.md). -/

namespace Sys2Proof.Machine

/-- Contexts that an event needs and that failed their CRC as they were read (R250). -/
def State.noteBad (s : State) (l : Nat) (e : LaneEv) (bad : List Nat) : State :=
  ((s.needed l e).filter (fun i => bad.contains i)).foldl (fun s _ => s.ctxCrc l e.die (s.cellsOf e).seg) s

/-- LANE_FOLD: lane `l` takes the next event of its input queue and folds it, or lets it wait for a context (R241, R242). `bad`
are the slots of contexts that fail their CRC at this read. -/
def execLaneFold (l : Fin 16) (bad : List Nat) (s : State) : Host.Outcome State Fault Refusal :=
  .next (match (s.lane l).input with
    | [] => s
    | e :: rest =>
      if 64 ≤ (s.lane l).waiting.length then s
      else ((s.modLane l (fun n => { n with input := rest })).noteBad l e bad).takeEvent l e)

/-- CONTEXT_FETCHED: a context arrives from DRAM in the pool (R238), or fails its CRC, and waiting events fold. -/
def execContextFetched (slot : Nat) (good : Bool) (s : State) : Host.Outcome State Fault Refusal :=
  .next (if s.mem.reqs.any (fun r => r.use == .context slot) && !s.mem.selfRefresh then
    let s1 := { s with mem := { s.mem with reqs := s.mem.reqs.filter (fun r => decide (r.use ≠ MemUse.context slot)) } }
    match s1.ctx slot with
    | none => s1
    | some c =>
      if good then
        let s2 := s1.makeRoom c.lane
        ((s2.traffic 32).modCtx slot (fun c => { c with pooled := true })).foldWaiting c.lane
      else (s1.ctxCrc c.lane c.die c.seg).foldWaiting c.lane
  else s)

/-- A final splice of die `d` on command; refused, CMD_REJ sets (R244). -/
def State.spFinal (s : State) (d : Nat) : State :=
  if s.canFinal d then s.startFinal d else s.raise Reg.SP_STAT Fld.SP_STAT_CMD_REJ

/-- FINAL_ALL (R244): every placed die it can start; CMD_REJ if it skips any. -/
def State.spFinalAll (s : State) : State := s.each s.placedDies State.spFinal

/-- RELEASE (R240, R245): the die's contexts are freed, and its window starts at the journal write index. -/
def State.spRelease (s : State) (d : Nat) : State :=
  if (s.finalOf d).isSome then s.raise Reg.SP_STAT Fld.SP_STAT_CMD_REJ
  else (s.freeDie d).modDie d (fun r => { r with
    start := s.jrnPos, overflows := r.overflows.filter (fun p => decide (s.jrnPos ≤ p)), imbalances := [] })

/-- A write of SP_CMD. -/
def State.spCommand (s : State) (w : Word) : State :=
  let d := w.toNat % 65536
  match bitsOf w.toNat 31 30 with
  | 1 => s.spFinal d
  | 2 => s.spRelease d
  | 3 => s.spFinalAll
  | _ => s

/-- SP_PEND: dies whose final splice runs, and dies with contexts or spilled records in their window and none started. -/
def State.spPend (s : State) : Word :=
  let waiting := s.placedDies.filter (fun d => (s.finalOf d).isNone &&
    (s.splice.ctxs.any (fun e => e.2.die == d) ||
     s.allRecs.any (fun e => decide ((s.dieRec d).start ≤ e.1) && e.2.type == 0 && e.2.die == d && bitOf e.2.flags 1)))
  BitVec.ofNat 32 (min 255 s.splice.finals.length * 256 + min 255 waiting.length)

/-- The contexts of lane `l` for die `d` are given up. -/
def State.dropCtxs (s : State) (l d : Nat) : State :=
  { s with splice := { s.splice with ctxs := s.splice.ctxs.filter (fun e => !(e.2.lane == l && e.2.die == d)) } }

/-- LANE_SPLICE_DONE: lane `l` finishes its work for die `d` (R246, R250, R251). `badGroups` are the journal groups, and `badCtx`
says that a context of the die, that failed their CRC as the lane read them. -/
def execLaneSpliceDone (l : Fin 16) (d : Nat) (badGroups : List Nat) (badCtx : Bool) (s : State) : Host.Outcome State Fault Refusal :=
  .next (match s.finalOf d with
    | none => s
    | some f =>
      if !f.left.contains l || (s.lane l).waiting.any (fun e => e.die == d) then s
      else
        let s0 := if badCtx && !s.recomp l d then s.ctxCrc l d 0 else s
        let rebuild := s0.recomp l d
        let recs := s0.windowRecs l d f.start f.stop rebuild
        let lost := recs.filter (fun e => badGroups.contains (e.1 / 4))
        let read := recs.filter (fun e => !badGroups.contains (e.1 / 4))
        let unread := (lost.map (fun e => e.1 / 4)).eraseDups
        let bad := !unread.isEmpty || (f.cut && rebuild)
        let s1 := s0.each unread State.groupBad
        let s2 := if rebuild then
            (s1.dropCtxs l d).satAdd Reg.SP_CRC_CNT Fld.SP_CRC_CNT_RECOMP 1
          else s1
        let s4 := read.foldl (fun s e =>
          let s5 := match s.needCtx .die l d 0 0 with
            | (some _, s5) => s5
            | (none, s5) => s5.ctxLost l d
          s5.foldEvent l e.2.event) s2
        let s6 := if bad then
            let (x, s7) := s4.free
            let s8 := s7.satAdd Reg.SP_CRC_CNT Fld.SP_CRC_CNT_REANALYSE 1
            s8.imbalance 3 (unread.headD (f.start / 4)) 0 (signed 24 x) srcJournal 2
          else s4
        let sum := s6.laneSolve l d f.bound rebuild bad
        let s9 := s6.raiseIf sum.undetermined Reg.SP_STAT Fld.SP_STAT_BOUND_HIT
        (s9.modFinal d (fun f => { f with left := f.left.filter (fun x => x != l.val), sums := f.sums ++ [sum] })).formResult d)

/-- The result of die `d` has been written (R240, R252): its contexts are released, and a further end-of-test mark starts another
final splice (R244). -/
def State.resultWritten (s : State) (d : Nat) (outcome : Nat) : State :=
  let s1 := s.freeDie d
  let s2 := { s1 with splice := { s1.splice with finals := s1.splice.finals.filter (fun f => f.die != d) } }
  let s3 := (s2.raise Reg.SP_STAT Fld.SP_STAT_DONE).wr Reg.SP_LAST (BitVec.ofNat 32 (2 ^ 31 + outcome * 65536 + d))
  if (s3.dieRec d).again then s3.startFinal d else s3

end Sys2Proof.Machine
end

