-- ==== Sys2Proof/Machine/Memory.lean ====
section
/-! DEFINITION. The meanings of the memory controller's commands (spec/07_pattern_memory.md): refill, promotion, retraining,
self-refresh, segment images and streams. -/

namespace Sys2Proof.Machine

/-! ### Refill (R185, R188, R197) -/

/-- The bytes of a granule of step words, least significant first (spec/05_sequencer.md R125). -/
def granBytes (ws : List Word64) : List Byte := ws.flatMap (fun w => leBytes 8 w.toNat)

/-- A granule in DRAM matches its CRC-16. -/
def State.granuleMatches (s : State) (seg gran : Nat) : Bool :=
  match s.segment? seg with
  | some g =>
    match Store.get? g.grans gran with
    | some ws => crc16 (granBytes ws) == g.crcs.getD gran 0
    | none => false
  | none => false

/-- Channel `c`. -/
def State.chan (s : State) (c : Nat) : Channel := Store.getD s.mem.chans c {}

/-- Change it. -/
def State.modChan (s : State) (c : Nat) (f : Channel → Channel) : State :=
  { s with mem := { s.mem with chans := Store.putD s.mem.chans c (f (s.chan c)) {} } }

/-- A channel serves requests: no pause, no training, no self-refresh (R188, R189). -/
def State.serving (s : State) (c : Nat) : Bool := !s.mem.selfRefresh && !(s.chan c).paused && !(s.chan c).training

/-- A class 1 granule delivered at `t` is later than its bound (R12, R185): 180 ns, and 32 ns for each older class 1 request to
the channel beyond two, counted from the end of a pause in between. (DESIGN CHOICE, log 18) -/
def State.panicLate (s : State) (r : MemReq) (t : Nat) : Bool :=
  r.cls == 1 && decide (1105920 + 196608 * (r.older - 2) < 10 * (t - max r.at_ (s.chan r.chan).lastEnd))

/-- Record a mismatch and its outcome: 0 DRAM, 1 host, 2 none (R197). -/
def State.crcOutcome (s : State) (k seg gran outcome : Nat) : State :=
  let s1 := (s.wr Reg.MC_CRC_LOC0 (BitVec.ofNat 32 (k * 2 ^ 24 + seg % 65536))).wr Reg.MC_CRC_LOC1
    (BitVec.ofNat 32 (outcome * 2 ^ 20 + gran % 2 ^ 18))
  match outcome with
  | 0 => (s1.satAdd Reg.MC_CRC_CNT Fld.MC_CRC_CNT_DRAM_FIXED 1).raise Reg.MC_STAT Fld.MC_STAT_CRC_FIXED
  | 1 => (s1.satAdd Reg.MC_CRC_CNT Fld.MC_CRC_CNT_HOST_FIXED 1).raise Reg.MC_STAT Fld.MC_STAT_CRC_FIXED
  | _ => ((s1.satAdd Reg.MC_CRC_CNT Fld.MC_CRC_CNT_FATAL 1).raise Reg.MC_STAT Fld.MC_STAT_CRC_FATAL).fault (srcStrand k) 2 k

/-- A strand that runs its own flow, or is about to, looks ahead. -/
def State.lookOn (s : State) (k : Nat) : State :=
  if s.flowing k || (s.strand k).launch.isSome then s.lookahead k else s

/-- A granule arrives for strand `k` at instant `t`: with a good copy, or marked as without one. -/
def State.deliver (s : State) (k seg gran : Nat) (good : Bool) (t : Nat) : State :=
  (s.cacheGranule k seg gran good t).lookOn k

/-- GRANULE_REFILL: a granule requested for strand `k` arrives at instant `t`. `read1` and `read2` say whether the first read and
a second read of DRAM return what is stored; a copy is good when that matches its CRC-16. -/
def execGranuleRefill (k : Fin 192) (seg gran : Nat) (read1 read2 : Bool) (t : Nat) (s : State) : Host.Outcome State Fault Refusal :=
  .next (match s.mem.reqs.find? (fun r => r.use == .refill k seg gran) with
    | none => s
    | some r =>
      if !s.serving r.chan then s
      else
        let s1 := (s.advanceTo t).traffic 516
        let s2 := { s1 with mem := { s1.mem with reqs := s1.mem.reqs.erase r } }
        let s3 := if s.panicLate r t then (s2.raise Reg.MC_STAT Fld.MC_STAT_PANIC_LATE).fault srcMem 1 r.chan else s2
        let fits := s3.granuleMatches seg gran
        if read1 && fits then s3.deliver k seg gran true t
        else if read2 && fits then (s3.crcOutcome k seg gran 0).deliver k seg gran true t
        else match s3.streamOf seg with
          | some n =>
            match Store.get? s3.mem.streams n with
            | some x =>
              let s4 := { s3 with mem := { s3.mem with repairs := s3.mem.repairs ++ [(k.val, seg, gran)] } }
              s4.rdmaRead x.qp (x.hostVa + (gran % x.slots) * 512) x.rkey 512 (.repair k seg gran)
            | none => (s3.crcOutcome k seg gran 2).deliver k seg gran false t
          | none => (s3.crcOutcome k seg gran 2).deliver k seg gran false t)

/-- The step words of a granule's bytes. -/
def wordsOf : Nat → List Byte → List Word64
  | 0, _ => []
  | n + 1, bs => BitVec.ofNat 64 (leAt bs 0 8) :: wordsOf n (bs.drop 8)

/-- Put a granule of a segment into DRAM. -/
def State.putGranule (s : State) (seg gran : Nat) (bs : List Byte) : State :=
  match s.segment? seg with
  | some g => { s with mem := { s.mem with
      segs := Store.put s.mem.segs seg { g with grans := Store.put g.grans gran (wordsOf 64 bs) } } }
  | none => s

/-- The host copy of a granule has been read for a repair (R197): a good one rewrites the DRAM copy. -/
def State.repaired (s : State) (k seg gran : Nat) (bs : List Byte) : State :=
  if !s.mem.repairs.contains (k, seg, gran) then s
  else
    let s1 := { s with mem := { s.mem with repairs := s.mem.repairs.filter (fun r => r != (k, seg, gran)) } }
    match s1.segment? seg with
    | none => s1
    | some g =>
      if crc16 bs = g.crcs.getD gran 0 then ((s1.putGranule seg gran bs).crcOutcome k seg gran 1).deliver k seg gran true s1.now
      else (s1.crcOutcome k seg gran 2).deliver k seg gran false s1.now

/-! ### Classes (R20) -/

/-- REQUEST_PROMOTION: the oldest class 4, 5 or 6 request moves to class 3 once it has waited 20 µs. -/
def execRequestPromotion (s : State) : Host.Outcome State Fault Refusal :=
  .next (match s.mem.reqs.find? (fun r => decide (4 ≤ r.cls) && !r.promoted) with
    | none => s
    | some r =>
      let t := r.at_ + 20 * usU
      let s1 := s.advanceTo t
      { s1 with mem := { s1.mem with reqs := s1.mem.reqs.map (fun q => if q = r then { q with cls := 3, promoted := true, at_ := t } else q) } })

/-! ### Retraining (R186, R187) -/

/-- When channel `c`'s next pause falls due. -/
def State.pauseDue (s : State) (c : Nat) : Nat :=
  (s.chan c).lastPause + max 20 (s.fld Reg.MC_RETRAIN_CFG Fld.MC_RETRAIN_CFG_INTERVAL) * 100 * usU

/-- The granules a prefetch window adds for strand `k` on channel `c`: at most 8, none without room. -/
def State.windowGranules (s : State) (k c : Nat) : List (Nat × Nat) :=
  let t := s.strand k
  let kept := (t.cache.filter (fun l => (s.protected k).contains (l.seg, l.gran))).length
  if kept < s.cacheRoom k then
    ((s.walkFrom k 4096).grans.filter (fun g => s.granChan g.1 g.2 == c && (t.line? g.1 g.2).isNone && !t.anchored.contains g.1)).take 8
  else []

/-- PREFETCH_WINDOW: the window before channel `c`'s pause opens, 4 µs before the pause falls due (R187). -/
def execPrefetchWindow (c : Fin 8) (s : State) : Host.Outcome State Fault Refusal :=
  .next (if s.mem.selfRefresh || (s.chan c).window.isSome || (s.chan c).paused then s
    else
      let s1 := s.advanceTo (s.pauseDue c - 4 * usU)
      let s2 := s1.modChan c (fun x => { x with window := some s1.now })
      s2.each (allStrands.filter (fun k => s2.coveAwake (coveOf k) && s2.flowing k)) (fun s k =>
        s.each (s.windowGranules k c) (fun s g => s.request k g.1 g.2 false)))

/-- RETRAIN_PAUSE_START: the due pause of channel `c` starts 4 µs after its window opened, no other channel being in a pause; while
a class 1 request to the channel is outstanding only after 100 µs of waiting, forced (R186). -/
def execRetrainPauseStart (c : Fin 8) (s : State) : Host.Outcome State Fault Refusal :=
  .next (match (s.chan c).window with
    | none => s
    | some w =>
      if s.mem.selfRefresh || (List.range 8).any (fun i => (s.chan i).paused) then s
      else
        let due := max (s.pauseDue c) (w + 4 * usU)
        let forced := decide (0 < s.panicOn c)
        let s1 := s.advanceTo (if forced then due + 100 * usU else due)
        let s2 := s1.modChan c (fun x => { x with paused := true, lastPause := s1.now, window := none })
        let s3 := (s2.satAdd Reg.MC_RETRAIN_STAT Fld.MC_RETRAIN_STAT_COUNT 1).setFld Reg.MC_RETRAIN_STAT Fld.MC_RETRAIN_STAT_LAST_CH c
        if forced then (s3.satAdd Reg.MC_RETRAIN_STAT Fld.MC_RETRAIN_STAT_FORCED 1).raise Reg.MC_STAT Fld.MC_STAT_RETRAIN_FORCED else s3)

/-- RETRAIN_PAUSE_END: channel `c`'s pause ends, at most 1.6 µs after it began, or the training it owes after self-refresh, one
channel at a time (R186, R189). `ok` is false when the channel fails retraining (spec/18 R444 TRAIN). (DESIGN CHOICE, log 18) -/
def execRetrainPauseEnd (c : Fin 8) (ok : Bool) (s : State) : Host.Outcome State Fault Refusal :=
  .next (
    let x := s.chan c
    let note (s : State) : State := if ok then s else s.fault srcMem 0 c
    if x.paused then
      let (f, s1) := s.free
      let s2 := s1.advanceTo (x.lastPause + f % 983041)
      note (s2.modChan c (fun x => { x with paused := false, lastEnd := s2.now }))
    else if x.training && (List.range c).all (fun i => !(s.chan i).training) then
      note (s.modChan c (fun x => { x with training := false, lastEnd := s.now }))
    else s)

/-! ### Self-refresh (R189, R190) -/

/-- Every cove sleeps. -/
def State.allAsleep (s : State) : Bool :=
  (List.range 16).all (fun c => s.fld (coveA c Reg.CV_STATE) Fld.CV_STATE_STATE == 0)

/-- A request is outstanding at a port of the memory controller. -/
def State.memBusy (s : State) : Bool := !s.mem.reqs.isEmpty || !s.failPath.writing.isEmpty || !s.failPath.buffer.isEmpty

/-- The slice of a group of the pattern region (R180, R181). -/
def groupSlice (g : Nat) : Nat := 1 + g / 131072

/-- SELF_REFRESH_ENTRY: slices that KEEP does not name lose their contents, and segments with a granule in them cease to be
loaded; slice 7 is kept while it holds acquisition records. (DEDUCED, log 49) -/
def execSelfRefreshEntry (s : State) : Host.Outcome State Fault Refusal :=
  .next (if s.flag Reg.MC_PASR Fld.MC_PASR_EN && s.allAsleep && !s.memBusy && !s.mem.selfRefresh then
    let keep := s.fld Reg.MC_PASR Fld.MC_PASR_KEEP
    let dropped := (List.range 8).filter (fun k => k != 0 && !bitOf keep k)
    let held := s.acqs.any (fun e => decide (0 < e.2.spilled))
    let s1 := s.raiseIf (held && dropped.contains 7) Reg.MC_STAT Fld.MC_STAT_PASR_KEPT
    let gone := (s1.mem.segs.filter (fun e => e.2.groups.any (fun g => dropped.contains (groupSlice g)))).map (·.1)
    let s2 := s1.each gone State.dropSegment
    { s2 with mem := { s2.mem with selfRefresh := true } }
  else s)

/-- SELF_REFRESH_EXIT: on a request, or a cove that wakes; each channel then retrains once. -/
def execSelfRefreshExit (s : State) : Host.Outcome State Fault Refusal :=
  .next (if s.mem.selfRefresh && (s.memBusy || !s.allAsleep) then
    let s1 := { s with mem := { s.mem with selfRefresh := false } }
    s1.each (List.range 8) (fun s c => s.modChan c (fun x => { x with training := true, window := none }))
  else s)

/-! ### Segment images (R191 to R196) -/

/-- A segment image as read. -/
structure Image where
  seg : Nat
  succ : Option Nat
  len : Nat
  fd : Nat
  pairs : List LoopPair
  crcs : List Nat
  words : List Byte
  deriving DecidableEq, Repr

/-- Lists of little-endian numbers of `w` bytes. -/
def leList (w : Nat) : Nat → List Byte → List Nat
  | 0, _ => []
  | n + 1, bs => leAt bs 0 w :: leList w n (bs.drop w)

/-- A pair record (R191): BEGIN, KIND, CLOSE, byte 7. -/
def pairRec (bs : List Byte) : Nat × Nat × Nat × Nat := (leAt bs 0 3, leAt bs 3 1, leAt bs 4 3, leAt bs 7 1)

/-- Pair records. -/
def pairRecs : Nat → List Byte → List (Nat × Nat × Nat × Nat)
  | 0, _ => []
  | n + 1, bs => pairRec bs :: pairRecs n (bs.drop 8)

/-- The bytes of an image before its granules: header, pairs, CRC table with padding. -/
def imageHead (pairs len : Nat) : Nat := 32 + 8 * pairs + ceilDiv (2 * len) 8 * 8

/-- Two pairs overlap without nesting. -/
def pairsCross (a b : Nat × Nat × Nat × Nat) : Bool := decide (a.1 < b.1) && decide (b.1 ≤ a.2.2.1) && decide (a.2.2.1 ≤ b.2.2.1)

/-- The pair records break a rule that needs no step words (R193 BAD_PAIR). -/
def pairsBad (len : Nat) (l : List (Nat × Nat × Nat × Nat)) : Bool :=
  l.any (fun r => decide (1 < r.2.1) || r.2.2.2 != 0 || decide (64 * len ≤ r.1) || decide (64 * len ≤ r.2.2.1) || decide (r.2.2.1 ≤ r.1)) ||
  (l.zip (l.drop 1)).any (fun e => decide (e.2.1 ≤ e.1.1)) ||
  l.any (fun a => l.any (fun b => pairsCross a b))

/-- The step words break a rule of the pair records: a BEGIN or CLOSE word of another kind, or a LOOP_BEGIN, LOOP_END or MATCH word
not in exactly one pair. -/
def wordsBad (l : List (Nat × Nat × Nat × Nat)) (ops : List (Nat × FlowOp)) : Bool :=
  ops.any (fun w =>
    let begins := (l.filter (fun r => r.1 == w.1)).length
    let loops := (l.filter (fun r => r.2.2.1 == w.1 && r.2.1 == 0)).length
    let matches' := (l.filter (fun r => r.2.2.1 == w.1 && r.2.1 == 1)).length
    match w.2 with
    | .loopBegin => begins != 1 || loops + matches' != 0
    | .loopEnd => loops != 1 || begins + matches' != 0
    | .match_ => matches' != 1 || begins + loops != 0
    | _ => begins + loops + matches' != 0)

/-- More than eight BEGIN offsets lie in one group of 1,024 steps (R193 PAIR_DENSITY). -/
def pairsDense (l : List (Nat × Nat × Nat × Nat)) : Bool :=
  l.any (fun r => decide (8 < (l.filter (fun q => q.1 / 1024 == r.1 / 1024)).length))

/-- The checks 0x01 to 0x06 of an image (R193), and the image; `stream` for STREAM_OPEN. -/
def readImage (bs : List Byte) (stream : Bool) : Nat × Image :=
  let f (o n : Nat) := leAt bs o n
  let len := f 0x0C 4
  let m := f 0x10 4
  let head := imageHead m len
  let total := if stream then head else head + 512 * len
  let recs := pairRecs m (bs.drop 32)
  let crcs := leList 2 len (bs.drop (32 + 8 * m))
  let body := bs.drop head
  let img : Image := ⟨f 0x08 2, if bitOf (f 0x06 2) 0 then some (f 0x0A 2) else none, len, f 0x14 2,
    recs.map (fun r => ⟨r.1, r.2.2.1, r.2.1 == 1⟩), crcs, body⟩
  let code :=
    if bs.length < 32 then 0x02
    else if f 0 4 ≠ 0x4B534701 ∨ f 4 2 ≠ 2 ∨ 4 ≤ f 6 2 ∨ bitOf (f 6 2) 1 ≠ stream ∨ f 0x16 2 ≠ 0 ∨ f 0x1C 4 ≠ 0 ∨ 128 < f 0x14 2 then 0x01
    else if len < 4 ∨ 262144 < len ∨ bs.length ≠ total then 0x02
    else if crc32 (bs.take 0x18 ++ (bs.drop 32).take (head - 32)) ≠ f 0x18 4 then 0x03
    else if pairsBad len recs || (!stream && wordsBad recs
        (((wordsOf (64 * len) body).map (fun w => flowOp (wordOp w))).zipIdx.map (fun e => (e.2, e.1)))) then 0x04
    else if pairsDense recs then 0x05
    else if !stream && (List.range len).any (fun g => crc16 ((body.drop (512 * g)).take 512) != crcs.getD g 0) then 0x06
    else 0
  (code, img)

/-- A segment is active (R194). -/
def State.segActive (s : State) (g : Nat) : Bool :=
  s.strands.any (fun e =>
    let t := e.2
    let st := s.sqState e.1
    let idle := st == 0 || st == 5
    let placed := !idle && (st != 6 || (match s.power.test with | some x => x.was == 4 | none => true))
    t.anchored.contains g || (!idle && t.cache.any (fun l => l.seg == g)) ||
    (placed && (t.pos.seg == g || t.calls.any (fun c => c.ret.seg == g))) ||
    (match t.launch with | some l => l.seg == some g | none => false)) ||
  s.mem.streams.any (fun e => e.2.seg == g)

/-- The lowest-numbered free groups (spec/10_placement_and_lashing.md R271): `n` of them, from group `i` on, `used` being taken. -/
def freeGroups (used : List Nat) : Nat → Nat → Nat → List Nat
  | 0, _, _ => []
  | _, 0, _ => []
  | fuel + 1, n + 1, i => if used.contains i then freeGroups used fuel (n + 1) (i + 1) else i :: freeGroups used fuel n (i + 1)

/-- The granules of an image. -/
def imageGrans (len : Nat) (bs : List Byte) : Store (List Word64) :=
  (List.range len).map (fun g => (g, wordsOf 64 ((bs.drop (512 * g)).take 512)))

/-- Load an image (R181, R195, R271): the old segment of its number, if loaded, goes. -/
def State.loadImage (s : State) (x : Image) : State :=
  let used := s.mem.segs.flatMap (fun e => e.2.groups)
  let n := ceilDiv x.len 16
  let groups := freeGroups used (n + used.length) n 0
  let s1 := s.dropSegment x.seg
  let seg : Segment := {
    len := x.len, succ := x.succ, fd := x.fd, pairs := x.pairs, crcs := x.crcs,
    grans := imageGrans x.len x.words, chan0 := 5 * x.seg % 8, groups := groups, stream := none }
  ({ s1 with mem := { s1.mem with segs := Store.put s1.mem.segs x.seg seg } }).setFld Reg.MC_FREE Fld.MC_FREE_GROUPS
    (s1.fld Reg.MC_FREE Fld.MC_FREE_GROUPS - n)

/-- Start reading the IN buffer of a command, at an offset of its descriptor. -/
def State.readIn (s : State) (c : HostCmd) (off : Nat) : State :=
  (s.modCmd c.qp c.idx (fun (c : HostCmd) => { c with stage := CmdStage.reading })).rdmaRead c.qp (c.bufAddr off) (c.bufKey off)
    (c.bufLen off) (.input c.idx)

/-- SEG_WRITE: the transfer of the image starts (R193); one of zero length completes at once (spec/14 R370). (DEDUCED, log 19) -/
def execSegWrite (s : State) : Host.Outcome State Fault Refusal :=
  .next (match s.nextCmd 0x02 with
    | none => s
    | some c => if c.bufLen 0x08 = 0 then s.completeWith c 1 0 else s.readIn c 0x08)

/-- A SEG_WRITE that was in progress when `c` started names segment `g` too (spec/14 R369): one whose image has arrived, or one that has
acted since. (DEDUCED, log 53) -/
def State.segBusy (s : State) (c : HostCmd) (g : Nat) : Bool :=
  c.met.contains g ||
  (s.host.cmds.takeWhile (fun d => !(d.qp == c.qp && d.idx == c.idx))).any (fun d =>
    d.op == 2 && d.stage == .received && leAt d.input 0x08 2 == g)

/-- The segment commands that have started since the SEG_WRITE `c` have met its segment, which its image names (spec/14 R369).
(DEDUCED, log 53) -/
def State.meetSeg (s : State) (c : HostCmd) : State :=
  if c.input.length < 10 then s
  else
    let other (d : HostCmd) : Bool := !(d.qp == c.qp && d.idx == c.idx)
    { s with host := { s.host with
        cmds := s.host.cmds.takeWhile other ++ (s.host.cmds.dropWhile other).map (fun d =>
          if d.op = 2 ∨ d.op = 3 then { d with met := leAt c.input 0x08 2 :: d.met } else d) } }

/-- SEG_IMAGE_RECEIVED: the image is checked and loaded, or refused (R193, R195). -/
def execSegImageReceived (s : State) : Host.Outcome State Fault Refusal :=
  .next (match s.cmdAt 0x02 .received with
    | none => s
    | some c =>
      let (code, x) := readImage c.input false
      let s1 := s.meetSeg c
      if code ≠ 0 then s1.completeWith c 4 code
      else if s.segBusy c x.seg then s1.completeWith c 9 0
      else
        let n := ceilDiv x.len 16
        if s.fld Reg.MC_FREE Fld.MC_FREE_GROUPS < n then s1.completeWith c 4 0x07
        else if s.segActive x.seg then s1.completeWith c 4 0x08
        else (s1.loadImage x).complete c.qp c.idx 0 0 (n + x.seg * 2 ^ 32 + (5 * x.seg % 8) * 2 ^ 48) 0)

/-- SEG_FREE (R196). -/
def execSegFree (s : State) : Host.Outcome State Fault Refusal :=
  .next (match s.nextCmd 0x03 with
    | none => s
    | some c =>
      let g := c.arg 0x08 2
      if s.segBusy c g then s.completeWith c 9 0
      else match s.segment? g with
        | none => s.complete c.qp c.idx 0 0 0 0
        | some x => if s.segActive g then s.completeWith c 4 8 else (s.dropSegment g).complete c.qp c.idx 0 0 x.groups.length 0)

/-! ### Streams (R200 to R202, R204) -/

/-- A bandwidth charge in MB/s, rounded up (R198): `k` times FD x 516 bytes over 8,192 periods. -/
def chargeMbps (k fd pmin : Nat) : Nat := ceilDiv (k * fd * 38700) (max 512 pmin)

/-- MC_STREAM_ALLOW and the rate cap as applied. -/
def State.streamAllow (s : State) : Nat := min 16 (s.fld Reg.MC_STREAM_ALLOW Fld.MC_STREAM_ALLOW_ALLOW)
def State.rateCap (s : State) : Nat := clipTo 1 200 (s.fld Reg.MC_STREAM_CFG Fld.MC_STREAM_CFG_RATE_CAP)

/-- The reserves of MC_BUDGET_RSV in MB/s. -/
def State.reserves (s : State) : Nat :=
  100 * (s.fld Reg.MC_BUDGET_RSV Fld.MC_BUDGET_RSV_HOST + s.fld Reg.MC_BUDGET_RSV Fld.MC_BUDGET_RSV_SPLICE +
    s.fld Reg.MC_BUDGET_RSV Fld.MC_BUDGET_RSV_JOURNAL)

/-- The group of the placement in force that a stream of segment `g` was granted to. -/
def State.grantedGroup (s : State) (g : Nat) : Option GroupEntry :=
  match s.place.table with
  | some t => t.groups.find? (fun e => e.stream && e.program.contains g)
  | none => none

/-- The code of a refusal of STREAM_OPEN for stream `n` with an image that passed its own checks, 0 for none (R193, R201). -/
def State.streamRefusal (s : State) (n : Nat) (x : Image) (charge rate : Nat) : Nat :=
  let used := s.fld Reg.MC_BUDGET_USED Fld.MC_BUDGET_USED_MBPS + (if s.place.table.isNone then s.reserves else 0)
  let rates := (s.mem.streams.map (fun e => e.2.rate)).foldl (· + ·) 0
  if s.segActive x.seg then 0x08
  else if s.streamAllow ≤ s.mem.streams.length then 0x09
  else if s.flag Reg.MC_RING_ACTIVE Fld.MC_RING_ACTIVE_LARGE then 0x0A
  else if s.fld Reg.MC_BUDGET_TOTAL Fld.MC_BUDGET_TOTAL_MBPS < used + charge ∨ 100 * s.rateCap < rates + rate then 0x0B
  else if (Store.get? s.mem.streams n).isSome then 0x0C
  else 0

/-- STREAM_OPEN: the image without granules has been read; the stream opens, or is refused (R193, R201). -/
def execStreamOpen (s : State) : Host.Outcome State Fault Refusal :=
  .next (match s.cmdAt 0x04 .received with
    | none => s
    | some c =>
      let n := c.arg 0x08 1
      let (code, x) := readImage c.input true
      if code ≠ 0 then s.completeWith c 4 code
      else
        let granted := s.grantedGroup x.seg
        let shown := match granted with | some g => g.charge | none => chargeMbps 2 128 512
        let charge := if granted.isSome then 0 else shown
        let rate := ceilDiv shown 2
        let no := s.streamRefusal n x charge rate
        if no ≠ 0 then s.completeWith c 4 no
        else
          let s1 := s.dropSegment x.seg
          let seg : Segment := {
            len := x.len, succ := x.succ, fd := x.fd, pairs := x.pairs, crcs := x.crcs, grans := [],
            chan0 := 5 * x.seg % 8, groups := [], stream := some n }
          let st : Stream := {
            seg := x.seg, slots := c.bufLen 0x20 / 512, hostVa := c.bufAddr 0x20, rkey := c.bufKey 0x20, qp := c.qp,
            bellVa := c.arg 0x30 8, bellKey := c.arg 0x38 4, pulling := [], charge := charge, rate := rate }
          let s2 := { s1 with mem := { s1.mem with segs := Store.put s1.mem.segs x.seg seg, streams := Store.put s1.mem.streams n st } }
          let s3 := s2.setFld Reg.MC_BUDGET_USED Fld.MC_BUDGET_USED_MBPS (s2.fld Reg.MC_BUDGET_USED Fld.MC_BUDGET_USED_MBPS + charge)
          let s4 := s3.wr (strmA Reg.MC_STRM_STAT n) (BitVec.ofNat 32 (2 ^ 30 + 0xFF0000 + x.seg))
          let s5 := ((s4.wr (strmA Reg.MC_STRM_PROD n) 0).wr (strmA Reg.MC_STRM_PULL n) 0).wr (strmA Reg.MC_STRM_CONS n) 0
          s5.complete c.qp c.idx 0 0 shown 0)

/-- The pull index of stream `n`, and its producer index. -/
def State.strmPull (s : State) (n : Nat) : Nat := s.fld (strmA Reg.MC_STRM_PULL n) Fld.MC_STRM_PULL_INDEX
def State.strmProd (s : State) (n : Nat) : Nat := s.fld (strmA Reg.MC_STRM_PROD n) Fld.MC_STRM_PROD_INDEX

/-- The consumer index Q of stream `n` (R200). -/
def State.strmCons (s : State) (n : Nat) : Nat :=
  match Store.get? s.mem.streams n with
  | none => 0
  | some x =>
    match (if s.streamStrand n = 255 then none else (s.strand (s.streamStrand n)).heldGranule x.seg) with
    | some g => min g (s.strmPull n)
    | none => s.strmPull n

/-- STREAM_PULL: the next granule of stream `n` is read from the host, when it is available, there is room for it, and the rate cap
allows (R200). -/
def execStreamPull (n : Fin 16) (s : State) : Host.Outcome State Fault Refusal :=
  .next (match Store.get? s.mem.streams n with
    | none => s
    | some x =>
      let g := s.strmPull n + x.pulling.length
      let len := match s.segment? x.seg with | some q => q.len | none => 0
      if s.fld (strmA Reg.MC_STRM_STAT n) Fld.MC_STRM_STAT_STATE == 1 && decide (g < s.strmProd n) && decide (g < len) &&
          decide (g < s.strmCons n + 32768) then
        let s1 := s.advanceTo s.mem.nextPull
        let s2 := { s1 with mem := { s1.mem with
          nextPull := s1.now + ceilDiv 3145728 s1.rateCap,
          streams := Store.put s1.mem.streams n { x with pulling := x.pulling ++ [g] } } }
        s2.rdmaRead x.qp (x.hostVa + (g % x.slots) * 512) x.rkey 512 (.granule n g)
      else s)

/-- Granule `g` of stream `n` has been read (R200, R202). -/
def State.pulled (s : State) (n g : Nat) (bs : List Byte) : State :=
  match Store.get? s.mem.streams n with
  | none => s
  | some x =>
    if !x.pulling.contains g then s
    else
      let s1 := { s with mem := { s.mem with streams := Store.put s.mem.streams n { x with pulling := x.pulling.filter (fun i => i != g) } } }
      let s2 := ((s1.traffic 512).putGranule x.seg g bs).setFld (strmA Reg.MC_STRM_PULL n) Fld.MC_STRM_PULL_INDEX (g + 1)
      let a := strmA Reg.MC_STRM_STAT n
      let len := match s2.segment? x.seg with | some q => q.len | none => 0
      let k := s2.streamStrand n
      let here := k != 255 && (s2.strand k).pos.seg == x.seg && (s2.strand k).pos.gran == g
      let s3 := if here then s2.setFld a Fld.MC_STRM_STAT_UNDERRUN 0 else s2
      let s4 := if len ≤ g + 1 then s3.setFld a Fld.MC_STRM_STAT_STATE 3 else s3
      if k = 255 then s4 else s4.lookOn k

/-- MC_RING_ACTIVE follows the devices in active test (R204): above 8, every open stream is suspended. -/
def State.setRingActive (s : State) : State :=
  let n := s.ring.active.length
  let s1 := s.wr Reg.MC_RING_ACTIVE (BitVec.ofNat 32 (n % 128 + 128 * bitN (decide (8 < n))))
  s1.each (s1.mem.streams.map (·.1)) (fun s i =>
    let a := strmA Reg.MC_STRM_STAT i
    let st := s.fld a Fld.MC_STRM_STAT_STATE
    if 8 < n then
      (if st = 1 then (s.setFld a Fld.MC_STRM_STAT_STATE 2).raise Reg.MC_STAT Fld.MC_STAT_STREAM_SUSPEND else s)
    else if st = 2 then s.setFld a Fld.MC_STRM_STAT_STATE 1 else s)

end Sys2Proof.Machine
end

