-- ==== Sys2Proof/Machine/WorkOrder.lean ====
section
/-! DEFINITION. Reading and checking a work order (spec/10_placement_and_lashing.md R256 to R261, R273): its tables, the die type
descriptors and their sections, and the refusals of step 1 of R262. -/

namespace Sys2Proof.Machine

/-- A section of a die type descriptor (R258): its kind, the offset of its header and the length of its body. -/
structure Sect where
  kind : Nat
  hdr : Nat
  len : Nat
  deriving DecidableEq, Repr

/-- The offset of a section's body. -/
def Sect.at_ (x : Sect) : Nat := x.hdr + 8

/-- A die type: its descriptor's offset and length, NPIN, SLOTS, NSEC and the sections read. -/
structure DieType where
  off : Nat
  len : Nat
  npin : Nat
  slots : Nat
  nsec : Nat
  sects : List Sect
  deriving DecidableEq, Repr

/-- A needle entry (R257). -/
structure Needle where
  n : Nat
  die : Nat
  dpin : Nat
  flags : Nat
  zero : Nat
  off : Nat
  deriving DecidableEq, Repr

/-- A wafer map entry (R259). -/
structure WaferEntry where
  die : Nat
  type : Nat
  state : Nat
  off : Nat
  deriving DecidableEq, Repr

/-- A host pin entry (R260). -/
structure HostPin where
  kind : Nat
  zero : Nat
  a : Nat
  b : Nat
  off : Nat
  deriving DecidableEq, Repr

/-- A segment of a program (R258 PROGRAM). -/
structure ProgSeg where
  seg : Nat
  flags : Nat
  zero : Nat
  deriving DecidableEq, Repr

def ProgSeg.anchor (p : ProgSeg) : Bool := bitOf p.flags 0
def ProgSeg.stream (p : ProgSeg) : Bool := bitOf p.flags 1

/-- A work order as read. -/
structure Order where
  bytes : List Byte
  types : List DieType
  needles : List Needle
  wafer : List WaferEntry
  pins : List HostPin
  deriving DecidableEq, Repr

/-- A refusal: its reason and DETAIL (R273). -/
abbrev Refused := Nat × Nat

/-- A refusal that names an offset, in units of 8 bytes. -/
def refuseAt (code off : Nat) : Option Refused := some (code, off / 8 % 16777216)

/-! ### Reading -/

/-- Sections of a descriptor from `at_` on, `n` of them, as far as their headers lie below `stop`. -/
def readSects (bs : List Byte) (stop : Nat) : Nat → Nat → List Sect
  | 0, _ => []
  | n + 1, at_ =>
    if stop < at_ + 8 then []
    else
      let x : Sect := ⟨leAt bs at_ 2, at_, leAt bs (at_ + 4) 4⟩
      x :: readSects bs stop n (at_ + 8 + ceilDiv x.len 8 * 8)

/-- The die type whose descriptor lies at `d`. -/
def readType (bs : List Byte) (d : Nat) : DieType :=
  let len := leAt bs (d + 4) 4
  let nsec := leAt bs (d + 11) 1
  ⟨d, len, leAt bs (d + 8) 2, leAt bs (d + 10) 1, nsec, readSects bs (d + len) nsec (d + 32)⟩

/-- The work order of an image. -/
def readOrder (bs : List Byte) : Order :=
  let f (o n : Nat) := leAt bs o n
  { bytes := bs
    types := (List.range (f 0x0E 1)).map (fun i => readType bs (f (f 0x18 4 + 4 * i) 4))
    needles := (List.range (f 0x0C 2)).map (fun i =>
      let o := f 0x14 4 + 8 * i
      ⟨f o 2, f (o + 2) 2, f (o + 4) 2, f (o + 6) 1, f (o + 7) 1, o⟩)
    wafer := (List.range (f 0x10 2)).map (fun i =>
      let o := f 0x1C 4 + 8 * i
      ⟨f o 2, f (o + 2) 1, f (o + 3) 1, o⟩)
    pins := (List.range (f 0x0F 1)).map (fun i =>
      let o := f 0x20 4 + 8 * i
      ⟨f o 1, f (o + 1) 1, f (o + 2) 2, f (o + 4) 4, o⟩) }

def Order.field (q : Order) (o n : Nat) : Nat := leAt q.bytes o n
def Order.dropOk (q : Order) : Bool := bitOf (q.field 0x06 2) 0

/-- A die type by index. -/
def Order.type? (q : Order) (i : Nat) : Option DieType := q.types[i]?

/-- A section of a die type by kind. -/
def DieType.sect? (t : DieType) (kind : Nat) : Option Sect := t.sects.find? (fun x => x.kind == kind)

/-- A little-endian field at an offset of the body of a section; zero without the section. -/
def Order.body (q : Order) (t : DieType) (kind o n : Nat) : Nat :=
  match t.sect? kind with
  | some x => q.field (x.at_ + o) n
  | none => 0

/-- SLOT and PIN of entry `i` of a pin table. -/
def Order.pinEntry (q : Order) (t : DieType) (i : Nat) : Nat × Nat := (q.body t 1 (16 * i + 12) 1, q.body t 1 (16 * i + 13) 1)

/-- The program of a die type. -/
def Order.program (q : Order) (t : DieType) : List ProgSeg :=
  match t.sect? 0x0A with
  | some x => (List.range (x.len / 4)).map (fun j => ⟨q.field (x.at_ + 4 * j) 2, q.field (x.at_ + 4 * j + 2) 1, q.field (x.at_ + 4 * j + 3) 1⟩)
  | none => []

/-- The repair geometry of a die type (spec/09_splice_engine.md R231). -/
def Order.geometry (q : Order) (t : DieType) : Geometry :=
  let f (o n : Nat) := q.body t 2 o n
  { banks := f 0 2, subs := f 2 2, rows := f 4 4, cols := f 8 4, spareRows := f 0x0C 1, spareCols := f 0x0D 1, iow := f 0x0E 1,
    slots := f 0x0F 1, rowShift := f 0x10 1, rowBits := f 0x11 1, colShift := f 0x12 1, colBits := f 0x13 1,
    bankShift := f 0x14 1, bankBits := f 0x15 1, nonAct := f 0x16 1, bins := (List.range 6).map (fun i => f (0x18 + i) 1),
    iomap := (List.range (8 * t.slots)).map (fun i => f (0x20 + i) 1) }

/-! ### The needle map (R261) -/

def Needle.isRef (x : Needle) : Bool := bitOf x.flags 0
def Needle.strand (x : Needle) : Nat := x.n / 8

/-- The wafer entry of a die. -/
def Order.waferOf (q : Order) (d : Nat) : Option WaferEntry := q.wafer.find? (fun w => w.die == d)

/-- A die is in the wafer map and present. -/
def Order.present (q : Order) (d : Nat) : Bool :=
  match q.waferOf d with
  | some w => w.state == 0
  | none => false

/-- The type of a die. -/
def Order.typeOf (q : Order) (d : Nat) : Option DieType :=
  match q.waferOf d with
  | some w => q.type? w.type
  | none => none

/-- The slot of a needle of a die. -/
def Order.slotOf (q : Order) (x : Needle) : Nat :=
  match q.typeOf x.die with
  | some t => (q.pinEntry t x.dpin).1
  | none => 0

/-- What strand `k` carries: nothing, reference contacts only (`some none`), or a slot of a present die. -/
def Order.carries (q : Order) (k : Nat) : Option (Option (Nat × Nat)) :=
  match q.needles.find? (fun x => x.strand == k) with
  | none => none
  | some x => if x.isRef then some none else if q.present x.die then some (some (x.die, q.slotOf x)) else none

/-- The strand of slot `j` of die `d`. -/
def Order.strandOf (q : Order) (d j : Nat) : Option Nat :=
  match q.needles.find? (fun x => !x.isRef && x.die == d && q.slotOf x == j) with
  | some x => some x.strand
  | none => none

/-- The present dies that have a needle, rising. -/
def Order.dies (q : Order) : List Nat :=
  ascending ((q.wafer.filter (fun w => w.state == 0 && q.needles.any (fun x => !x.isRef && x.die == w.die))).map (·.die))

/-- The strands of a die, rising. -/
def Order.dieStrands (q : Order) (d : Nat) : List Nat :=
  allStrands.filter (fun k => match q.carries k with | some (some (e, _)) => e == d | _ => false)

/-! ### Checks of step 1 (R262, R273) -/

/-- BAD_HEADER: the header fields in order; `room` is the length of the IN buffer. -/
def headerRefusal (bs : List Byte) (room : Nat) : Option Refused :=
  let f (o n : Nat) := leAt bs o n
  if room < 64 then refuseAt 1 0
  else
    let tests : List (Nat × Bool) := [
      (0x00, f 0 4 == 0x574B4F01), (0x04, f 4 2 == 1), (0x06, decide (f 6 2 < 2)),
      (0x08, decide (64 ≤ f 8 4) && decide (f 8 4 ≤ room) && decide (f 8 4 ≤ 67108864)),
      (0x0C, decide (1 ≤ f 0x0C 2) && decide (f 0x0C 2 ≤ 1536)), (0x0E, decide (1 ≤ f 0x0E 1) && decide (f 0x0E 1 ≤ 16)),
      (0x0F, decide (f 0x0F 1 ≤ 64)), (0x10, decide (1 ≤ f 0x10 2) && decide (f 0x10 2 ≤ 4096)), (0x12, f 0x12 2 == 0),
      (0x14, f 0x14 4 % 8 == 0), (0x18, f 0x18 4 % 8 == 0), (0x1C, f 0x1C 4 % 8 == 0),
      (0x20, f 0x20 4 % 8 == 0 && (f 0x0F 1 != 0 || f 0x20 4 == 0)), (0x2C, f 0x2C 16 == 0)]
    match tests.find? (fun e => !e.2) with
    | some (o, _) => refuseAt 1 o
    | none => none

/-- BAD_CRC. -/
def crcRefusal (bs : List Byte) : Option Refused :=
  if crc32 (bs.take 0x3C ++ List.replicate 4 0 ++ bs.drop 0x40) = leAt bs 0x3C 4 then none else some (2, 0)

/-- The top-level tables and descriptors: offset, length, and the offset that DETAIL names. -/
def Order.regions (q : Order) : List (Nat × Nat) :=
  [(0, 64), (q.field 0x14 4, 8 * q.needles.length), (q.field 0x18 4, 4 * q.types.length), (q.field 0x1C 4, 8 * q.wafer.length)] ++
  (if q.pins.isEmpty then [] else [(q.field 0x20 4, 8 * q.pins.length)]) ++ q.types.map (fun t => (t.off, max 32 t.len))

/-- Two regions overlap. -/
def overlaps (a b : Nat × Nat) : Bool := decide (a.1 < b.1 + b.2) && decide (b.1 < a.1 + a.2)

/-- A region outside the image, or that overlaps one before it in the list. -/
def regionRefusal (stop : Nat) (before : List (Nat × Nat)) : List (Nat × Nat) → Option Refused
  | [] => none
  | r :: t =>
    if stop < r.1 + r.2 || before.any (fun b => overlaps b r) then refuseAt 3 r.1
    else regionRefusal stop (before ++ [r]) t

/-- The kinds of section, and those required (R258). -/
def sectKnown (k : Nat) : Bool := decide (1 ≤ k) && decide (k ≤ 10)
def sectsRequired : List Nat := [1, 2, 3, 4, 5, 7, 9, 10]

/-- The body of a section has the length of R258, and its count and zero bytes are right. -/
def Order.bodyOk (q : Order) (t : DieType) (x : Sect) : Bool :=
  let n := q.field x.at_ 2
  let counted (most per : Nat) := decide (8 ≤ x.len) && q.field (x.at_ + 2) 6 == 0 && decide (1 ≤ n) && decide (n ≤ most) &&
    x.len == 8 + per * n
  match x.kind with
  | 1 => x.len == 16 * t.npin
  | 2 => x.len == 32 + 8 * t.slots
  | 3 => x.len == 256
  | 4 => counted 4096 (64 * t.slots)
  | 5 => counted 256 (192 * t.slots)
  | 6 => counted 256 (192 * t.slots)
  | 7 => x.len == 3072
  | 8 => x.len == 1648
  | 9 => x.len == 2048
  | _ => x.len % 4 == 0

/-- An edge value of EDGES0 or EDGES1 has a bit of [31:20]. -/
def Order.edgeHigh (q : Order) (x : Sect) : Bool :=
  (x.kind == 5 || x.kind == 6) && (List.range ((x.len - 8) / 4)).any (fun i => decide (1048576 ≤ q.field (x.at_ + 8 + 4 * i) 4))

/-- The pin table has an entry out of range, or a pair twice. -/
def Order.pinsWrong (q : Order) (t : DieType) : Bool :=
  (List.range t.npin).any (fun i =>
    let e := q.pinEntry t i
    decide (t.slots ≤ e.1) || decide (8 ≤ e.2) || q.body t 1 (16 * i + 14) 2 != 0 ||
    (List.range i).any (fun j => q.pinEntry t j == e))

/-- BAD_SECTION within one descriptor. -/
def Order.typeRefusal (q : Order) (t : DieType) : Option Refused :=
  let stop := t.off + t.len
  if q.field t.off 4 ≠ 0x44545901 ∨ t.len < 32 ∨ t.slots = 0 ∨ 32 < t.slots ∨ t.npin = 0 ∨ 8 * t.slots < t.npin ∨
      q.field (t.off + 12) 20 ≠ 0 ∨ t.sects.length ≠ t.nsec then refuseAt 3 t.off
  else match t.sects.find? (fun x => !sectKnown x.kind || q.field (x.hdr + 2) 2 != 0 || decide (stop < x.at_ + ceilDiv x.len 8 * 8) ||
      t.sects.any (fun y => y.kind == x.kind && decide (y.hdr < x.hdr))) with
    | some x => refuseAt 3 x.hdr
    | none =>
      if sectsRequired.any (fun k => (t.sect? k).isNone) then refuseAt 3 t.off
      else match t.sects.find? (fun x => !q.bodyOk t x || q.edgeHigh x || (x.kind == 1 && q.pinsWrong t)) with
        | some x => refuseAt 3 x.hdr
        | none => none

/-- BAD_SECTION: descriptor offsets, regions, then the descriptors in order. -/
def Order.sectionRefusal (q : Order) : Option Refused :=
  let base := q.field 0x18 4
  match (List.range q.types.length).find? (fun i => q.field (base + 4 * i) 4 % 8 != 0) with
  | some i => refuseAt 3 (base + 4 * i)
  | none => (regionRefusal q.bytes.length [] q.regions).or (q.types.findSome? q.typeRefusal)

/-- A repair geometry descriptor lies within R231. -/
def geometryOk (g : Geometry) (slots z1 z2 : Nat) : Bool :=
  decide (1 ≤ g.banks ∧ g.banks ≤ 64 ∧ 1 ≤ g.subs ∧ g.subs ≤ 4096 ∧ g.banks * g.subs ≤ 65536 ∧ 1 ≤ g.rows ∧ g.rows ≤ 65536 ∧
    1 ≤ g.cols ∧ g.cols ≤ 65536 ∧ g.spareRows ≤ 7 ∧ g.spareCols ≤ 7 ∧ 1 ≤ g.iow ∧ g.iow ≤ 128 ∧ g.slots = slots ∧
    1 ≤ g.rowBits ∧ g.rowShift + g.rowBits ≤ 18 ∧ g.colShift + g.colBits ≤ 14 ∧ g.bankBits ≤ 6 ∧ g.bankShift + g.bankBits ≤ 6 ∧
    g.nonAct ≤ 1 ∧ z1 = 0 ∧ z2 = 0) && g.iomap.all (fun m => decide (m ≤ 0x7F ∨ 0xFE ≤ m))

/-- BAD_GEOMETRY, naming the geometry descriptor. -/
def Order.geometryRefusal (q : Order) : Option Refused :=
  q.types.findSome? (fun t =>
    match t.sect? 2 with
    | some x => if geometryOk (q.geometry t) t.slots (q.field (x.at_ + 0x17) 1) (q.field (x.at_ + 0x1E) 2) then none else refuseAt 4 x.at_
    | none => none)

/-- BAD_NEEDLE, needle by needle; `before` are the needles before. -/
def Order.needleRefusal (q : Order) (before : List Needle) : List Needle → Option Refused
  | [] => none
  | x :: t =>
    let wrongPin : Bool := match q.typeOf x.die with
      | some ty => !x.isRef && (decide (ty.npin ≤ x.dpin) || x.n % 8 != (q.pinEntry ty x.dpin).2)
      | none => false
    if 1536 ≤ x.n ∨ before.any (fun y => y.n == x.n) ∨ 65534 < x.die ∨ 2 ≤ x.flags ∨ x.zero ≠ 0 ∨
        (x.isRef && (x.die != 0 || x.dpin != 0)) ∨ wrongPin then refuseAt 5 x.off
    else q.needleRefusal (before ++ [x]) t

/-- DIE_UNMAPPED: needles without a wafer entry, then the wafer entries. -/
def Order.dieRefusal (q : Order) : Option Refused :=
  match q.needles.find? (fun x => !x.isRef && (q.waferOf x.die).isNone) with
  | some x => refuseAt 6 x.off
  | none =>
    match q.wafer.find? (fun w => decide (q.types.length ≤ w.type) || decide (2 < w.state) ||
        q.wafer.any (fun v => v.die == w.die && decide (v.off < w.off))) with
    | some w => refuseAt 6 w.off
    | none => none

/-- Two needles contradict the strand map. -/
def Order.clash (q : Order) (x y : Needle) : Bool :=
  (x.strand == y.strand && (x.isRef != y.isRef || x.die != y.die || (!x.isRef && q.slotOf x != q.slotOf y))) ||
  (!x.isRef && !y.isRef && x.die == y.die && q.slotOf x == q.slotOf y && x.strand != y.strand)

/-- STRAND_MAP: needles that contradict an earlier one, then slots of present dies without a needle. -/
def Order.mapRefusal (q : Order) : Option Refused :=
  match q.needles.find? (fun x => q.needles.any (fun y => decide (y.off < x.off) && q.clash x y)) with
  | some x => refuseAt 7 x.off
  | none =>
    match q.needles.find? (fun x => !x.isRef && q.present x.die && (match q.typeOf x.die with
        | some t => (List.range t.slots).any (fun j => (q.strandOf x.die j).isNone)
        | none => false)) with
    | some x => refuseAt 7 x.off
    | none => none

/-- BAD_PROGRAM. -/
def Order.programRefusal (q : Order) : Option Refused :=
  q.types.findSome? (fun t =>
    let p := q.program t
    let bad := p.isEmpty || p.any (fun e => decide (4 ≤ e.flags) || e.zero != 0 || (e.anchor && e.stream) ||
        decide (1 < (p.filter (fun d => d.seg == e.seg)).length)) || decide (1 < (p.filter ProgSeg.stream).length)
    match t.sect? 0x0A with
    | some x => if bad then refuseAt 0x0B x.hdr else none
    | none => none)

/-- A host pin breaks its table's limits, or names an engine out of service (R260, R262). -/
def pinOutside (health : Nat → Bool) (p : HostPin) : Bool :=
  p.zero != 0 || (match p.kind with
    | 1 => decide (65534 < p.a) || decide (192 ≤ p.b)
    | 2 => decide (192 ≤ p.a) || decide (p.b < 13 * coveOf p.a) || decide (13 * coveOf p.a + 12 < p.b) || health p.b
    | 3 => decide (208 ≤ p.a) || p.b != 0
    | 4 => p.b != 0
    | 5 => decide (65534 < p.a) || p.b != 0
    | 6 => p.a != 0 || p.b != 0
    | _ => true)

/-- Two host pins contradict each other (R260, R263). -/
def pinsClash (p r : HostPin) : Bool :=
  (p.kind == 1 && r.kind == 1 && p.a == r.a && p.b != r.b) ||
  (p.kind == 2 && r.kind == 2 && (p.a == r.a || p.b == r.b)) ||
  (p.kind == 2 && r.kind == 3 && p.b == r.a) || (p.kind == 3 && r.kind == 2 && p.a == r.b)

/-- PIN_CONFLICT of step 1. -/
def Order.pinRefusal (q : Order) (health : Nat → Bool) : Option Refused :=
  match q.pins.find? (fun p => pinOutside health p || q.pins.any (fun r => decide (r.off < p.off) && pinsClash p r)) with
  | some p => refuseAt 0x0A p.off
  | none => none

/-- Step 1 of R262: the first refusal, and the order as read. `buf` is the IN buffer. -/
def checkOrder (buf : List Byte) (health : Nat → Bool) : Option Refused × Order :=
  match headerRefusal buf buf.length with
  | some r => (some r, readOrder [])
  | none =>
    let bs := buf.take (leAt buf 8 4)
    match crcRefusal bs with
    | some r => (some r, readOrder [])
    | none =>
      let q := readOrder bs
      (q.sectionRefusal.or (q.geometryRefusal.or ((q.needleRefusal [] q.needles).or (q.dieRefusal.or
        (q.mapRefusal.or (q.programRefusal.or (q.pinRefusal health)))))), q)

end Sys2Proof.Machine
end

