-- ==== Sys2Proof/Machine/Place.lean ====
section
/-! DEFINITION. The placement engine (spec/10_placement_and_lashing.md R262 to R277): deciding, the placement table, applying,
release, and the loss of an engine. -/

namespace Sys2Proof.Machine

/-! ### Engines -/

/-- The address of the PL_HEALTH word of engine `e`, of seven words. -/
def healthA (e : Nat) : Nat := Reg.PL_HEALTH + 4 * (e / 32 % 7)

/-- Engine `e` is out of service. -/
def State.engineOut (s : State) (e : Nat) : Bool := bitOf (s.rd (healthA e)).toNat (e % 32)

/-- Strand `k` can take no engine: under self-test or taken out of service (spec/17_clocks_power_startup.md R441). -/
def State.strandShut (s : State) (k : Nat) : Bool := (s.strand k).out || s.sqState k == 6

/-- The engine that serves strand `k`, by LB_POS. -/
def State.engineOf (s : State) (k : Nat) : Option Nat :=
  let e := s.fld (lbPos k) Fld.LB_POS_ENGINE
  if e = 15 then none else some (13 * coveOf k + e)

/-- RE_STATE of cove `c` after a change of its engine switch or of its reserve engine's health (spec/19 R479). -/
def State.showReserve (s : State) (c : Nat) : State :=
  let r := 13 * c + 12
  let user := (List.range 12).find? (fun i => s.engineOf (12 * c + i) == some r)
  let v := if s.engineOut r then 2 ^ 31 + 255 else match user with
    | some i => 2 ^ 30 + (12 * c + i)
    | none => 255
  s.wr (reserveA c Reg.RE_STATE) (BitVec.ofNat 32 v)

/-! ### Deciding (R262) -/

/-- A placement being decided: what each placed strand carries, the dies dropped with their reason, whether a strand with reference
contacts alone was dropped, and the engines. -/
structure Plan where
  strands : List (Nat × Option (Nat × Nat))
  dropped : List (Nat × Nat) := []
  refDrop : Bool := false
  engines : List (Nat × Nat) := []
  deriving DecidableEq, Repr

/-- Drop die `d` for a reason (R273). -/
def Plan.drop (p : Plan) (d reason : Nat) : Plan :=
  { p with
    strands := p.strands.filter (fun e => match e.2 with | some (x, _) => x != d | none => true)
    dropped := p.dropped ++ [(d, reason)] }

/-- Coves from the first to the last of a rising list of strands. -/
def covesSpanned (l : List Nat) : Nat :=
  match l.head?, l.getLast? with
  | some a, some b => coveOf b - coveOf a + 1
  | _, _ => 0

/-- Step 2: needles are mapped to strands; a die that spans more than 4 coves is refused or dropped. -/
def Order.mapped (q : Order) : Option Refused × Plan :=
  let all : List (Nat × Option (Nat × Nat)) := allStrands.filterMap (fun k => (q.carries k).map (fun x => (k, x)))
  let wide := q.dies.filter (fun d => decide (4 < covesSpanned (q.dieStrands d)))
  match wide with
  | [] => (none, { strands := all })
  | d :: _ =>
    if q.dropOk then (none, wide.foldl (fun (p : Plan) d => p.drop d 8) { strands := all })
    else (refuseAt 8 (match q.waferOf d with | some w => w.off | none => 0), { strands := all })

/-- The ENGINE pins, as strand and engine. -/
def Order.enginePins (q : Order) : List (Nat × Nat) := (q.pins.filter (fun p => p.kind == 2)).map (fun p => (p.a, p.b))

/-- The engine of a strand in a list of assignments. -/
def engineIn (l : List (Nat × Nat)) (k : Nat) : Option Nat := (l.find? (fun e => e.1 == k)).map (·.2)

/-- Step 3 in cove `c` (R263): `may` says that an engine is in service and not avoided. The assignments, and the positions left. -/
def assignCove (c : Nat) (may : Nat → Bool) (shut : Nat → Bool) (pins : List (Nat × Nat)) (placed : List Nat) :
    List (Nat × Nat) × List Nat :=
  let here := placed.filter (fun k => coveOf k == c)
  let pos := here.filter (fun k => !shut k)
  let first := pins.filter (fun e => pos.contains e.1)
  let free1 (e : Nat) : Bool := may e && !first.any (fun x => x.2 == e)
  let rest := pos.filter (fun k => (engineIn first k).isNone)
  let second := (rest.filter (fun k => free1 (13 * c + k % 12))).map (fun k => (k, 13 * c + k % 12))
  let left := rest.filter (fun k => (engineIn second k).isNone)
  let pool := (((13 * c + 12) :: (List.range 12).map (fun i => 13 * c + i))).filter (fun e => free1 e && !second.any (fun x => x.2 == e))
  let third := left.zip pool
  (first ++ second ++ third, here.filter (fun k => shut k) ++ left.drop third.length)

/-- Step 3 over the device, dropping dies for ENGINE_SHORT when DROP_OK allows it, the lowest strand first. -/
def Order.staffed (q : Order) (may shut : Nat → Bool) : Nat → Plan → Option Refused × Plan
  | 0, p => (none, p)
  | n + 1, p =>
    let placed := p.strands.map (·.1)
    let l := (List.range 16).map (fun c => assignCove c may shut q.enginePins placed)
    match ascending (l.flatMap (·.2)) with
    | [] => (none, { p with engines := l.flatMap (·.1) })
    | k :: _ =>
      if !q.dropOk then (some (9, k), p)
      else match p.strands.find? (fun e => e.1 == k) with
        | some (_, some (d, _)) => q.staffed may shut n (p.drop d 9)
        | _ => q.staffed may shut n { p with strands := p.strands.filter (fun e => e.1 != k), refDrop := true }

/-- The strands of die `d` in a plan, rising. -/
def Plan.dieStrands (p : Plan) (d : Nat) : List Nat :=
  (p.strands.filter (fun e => match e.2 with | some (x, _) => x == d | none => false)).map (·.1)

/-- A lash group being formed: its type, dies and strands, rising. -/
structure Draft where
  type : Nat
  dies : List Nat
  strands : List Nat
  leader : Nat
  deriving DecidableEq, Repr

/-- A die joins the current group of its type, or opens a new one (R264). The current group stands last. -/
def joinDie (breaks : List Nat) (ty : Nat) (p : Plan) (l : List Draft) (d : Nat) : List Draft :=
  let mine := p.dieStrands d
  let fresh : Draft := ⟨ty, [d], mine, mine.headD 0⟩
  match l.getLast? with
  | some g =>
    let both := ascending (g.strands ++ mine)
    if breaks.contains d ∨ 48 < both.length ∨ 4 < covesSpanned both then l ++ [fresh]
    else l.dropLast ++ [⟨ty, g.dies ++ [d], both, both.headD 0⟩]
  | none => [fresh]

/-- The groups of R264, type by type. -/
def Order.groups (q : Order) (p : Plan) : List Draft :=
  let breaks := (q.pins.filter (fun x => x.kind == 5)).map (·.a)
  (List.range q.types.length).flatMap (fun ty =>
    let dies := q.dies.filter (fun d => (match q.waferOf d with | some w => w.type == ty | none => false) && !(p.dieStrands d).isEmpty)
    let sorted := dies.foldl (fun acc d => insertBy (fun x => (p.dieStrands x).headD 0) d acc) []
    sorted.foldl (joinDie breaks ty p) [])

/-- LEADER pins: one that names a strand outside its die's group, or another leader than an earlier pin of the group, conflicts. -/
def Order.leaders (q : Order) (gs : List Draft) : Option Refused × List Draft :=
  let pins := q.pins.filter (fun x => x.kind == 1)
  let bad (x : HostPin) : Bool :=
    match gs.find? (fun g => g.dies.contains x.a) with
    | some g => !g.strands.contains x.b || pins.any (fun y => decide (y.off < x.off) && g.dies.contains y.a && y.b != x.b)
    | none => true
  match pins.find? bad with
  | some x => (refuseAt 0x0A x.off, gs)
  | none =>
    let led (g : Draft) : Draft := match pins.find? (fun x => g.dies.contains x.a) with
      | some x => { g with leader := x.b }
      | none => g
    (none, (gs.map led).foldl (fun acc g => insertBy (fun (x : Draft) => x.leader) g acc) [])

/-- A segment is loaded for a program: stored, not streamed. -/
def State.loadedSeg (s : State) (g : Nat) : Option Segment :=
  match s.segment? g with
  | some x => if x.stream.isNone then some x else none
  | none => none

/-- The program of a group. -/
def Order.programOf (q : Order) (g : Draft) : List ProgSeg :=
  match q.type? g.type with
  | some t => q.program t
  | none => []

/-- Segments anchored for a group, and their steps (R265). -/
def Order.anchors (q : Order) (s : State) (g : Draft) : List Nat × Nat :=
  let a := ((q.programOf g).filter ProgSeg.anchor).map (·.seg)
  (a, (a.map (fun n => match s.segment? n with | some x => 64 * x.len | none => 0)).foldl (· + ·) 0)

/-- Step 5: SEG_MISSING, then ANCHOR_FIT. -/
def Order.anchorRefusal (q : Order) (s : State) (gs : List Draft) : Option Refused :=
  match gs.findSome? (fun g => (q.programOf g).find? (fun e => !e.stream && (s.loadedSeg e.seg).isNone)) with
  | some e => some (0x0C, e.seg)
  | none =>
    match gs.find? (fun g => decide (16 < (q.anchors s g).1.length) || decide (4096 < (q.anchors s g).2)) with
    | some g => some (0x0D, g.leader)
    | none => none

/-- The smallest period of a type, each taken as at least 512. -/
def Order.pmin (q : Order) (t : DieType) : Nat :=
  ((List.range 64).map (fun i => max 512 (q.body t 3 (4 * i) 4))).foldl min 4294967295

/-- A group streams: its program has a STREAM segment. -/
def Order.wantsStream (q : Order) (g : Draft) : Bool := (q.programOf g).any ProgSeg.stream

/-- Grants, group by group in ascending leader order: which streaming groups are granted (R266). -/
def State.grants (s : State) (q : Order) : List Draft → Nat → Nat → List Nat
  | [], _, _ => []
  | g :: t, n, strands =>
    if q.wantsStream g && !q.pins.any (fun p => p.kind == 6) && !s.flag Reg.MC_RING_ACTIVE Fld.MC_RING_ACTIVE_LARGE &&
        decide (n < s.streamAllow) && decide (strands + g.strands.length ≤ 16) then
      g.leader :: s.grants q t (n + 1) (strands + g.strands.length)
    else s.grants q t n strands

/-- The charge of a group in MB/s (R198, R266). -/
def State.groupCharge (s : State) (q : Order) (g : Draft) (granted : Bool) : Nat :=
  match q.type? g.type with
  | none => 0
  | some t =>
    let fd := ((q.programOf g).map (fun e => match s.loadedSeg e.seg with | some x => x.fd | none => 0)).foldl max 0
    if granted then chargeMbps 2 128 (q.pmin t) else chargeMbps 1 fd (q.pmin t)

/-- The group entry of a draft. -/
def State.groupEntry (s : State) (q : Order) (granted : List Nat) (g : Draft) : GroupEntry :=
  let st := granted.contains g.leader
  { leader := g.leader, strands := g.strands, firstCove := coveOf (g.strands.headD 0), coves := covesSpanned g.strands, type := g.type,
    stream := st, dies := g.dies.length, charge := s.groupCharge q g st, anchors := (q.anchors s g).1, anchSteps := (q.anchors s g).2,
    program := (q.programOf g).map (·.seg) }

/-- The wake set (R268). -/
def Order.wakeSet (q : Order) (p : Plan) : Nat :=
  let pins := ((q.pins.filter (fun x => x.kind == 4)).map (·.a)).foldl Nat.lor 0
  (p.strands.map (fun e => 2 ^ coveOf e.1)).foldl Nat.lor pins

/-- The strand entry of a placed strand. -/
def Plan.entry (p : Plan) (gs : List GroupEntry) (k : Nat) (x : Option (Nat × Nat)) : StrandEntry :=
  let e := (engineIn p.engines k).getD 0xFF
  let i := gs.findIdx? (fun g => g.strands.contains k)
  let role := match i.bind (fun i => gs[i]?) with
    | some g => if g.strands.length = 1 then 0 else if g.leader = k then 1 else 2
    | none => 0
  { engine := e, role := role, placed := true, subst := e == 13 * coveOf k + 12, slot := match x with | some (_, j) => j | none => 0,
    die := x.map (·.1), group := i }

/-- Steps 5 to 9: budget, streams, wake set and the table. -/
def State.drawn (s : State) (q : Order) (p : Plan) (gs : List Draft) : Option Refused × Option Placement :=
  match q.anchorRefusal s gs with
  | some r => (some r, none)
  | none =>
    let granted := s.grants q gs 0 0
    let entries := gs.map (s.groupEntry q granted)
    let acq := q.field 0x28 4
    let total := (entries.map (·.charge)).foldl (· + ·) 0 + acq + s.reserves
    if s.fld Reg.MC_BUDGET_TOTAL Fld.MC_BUDGET_TOTAL_MBPS < total then (some (0x0E, min total 16777215), none)
    else match gs.find? (fun g => q.wantsStream g && !granted.contains g.leader) with
      | some g => (some (0x0F, g.leader), none)
      | none =>
        let dies := gs.flatMap (·.dies)
        let ty (d : Nat) : Nat := match q.waferOf d with | some w => w.type | none => 0
        (none, some {
          orderId := q.field 0x24 4, id := 0, dropped := p.dropped.foldl (fun acc e => insertBy (fun (x : Nat × Nat) => x.1) e acc) []
          wake := q.wakeSet p, ndies := dies.length, charge := total, streams := granted.length, acq := acq
          strands := p.strands.map (fun e => (e.1, p.entry entries e.1 e.2)), groups := entries, refDrop := p.refDrop
          types := (ascending dies).map (fun d => (d, ty d))
          geoms := (List.range q.types.length).filterMap (fun i => (q.type? i).map (fun t => (i, q.geometry t))) })

/-- The decision of R262 on the bytes of an IN buffer. -/
def State.decision (s : State) (buf : List Byte) : Option Refused × Option Placement :=
  match checkOrder buf s.engineOut with
  | (some r, _) => (some r, none)
  | (none, q) =>
    match q.mapped with
    | (some r, _) => (some r, none)
    | (none, p) =>
      match q.pins.find? (fun x => x.kind == 2 && (q.carries x.a).isNone) with
      | some x => (refuseAt 0x0A x.off, none)
      | none =>
        let avoided := (q.pins.filter (fun x => x.kind == 3)).map (·.a)
        match q.staffed (fun e => !s.engineOut e && !avoided.contains e) s.strandShut (p.strands.length + 1) p with
        | (some r, _) => (some r, none)
        | (none, p) =>
          match q.leaders (q.groups p) with
          | (some r, _) => (some r, none)
          | (none, gs) => s.drawn q p gs

/-! ### The table (R274) -/

def StrandEntry.bytes (e : StrandEntry) : List Byte :=
  leBytes 1 e.engine ++ leBytes 1 (e.role + 4 * bitN e.placed + 8 * bitN e.subst) ++ leBytes 1 e.slot ++ leBytes 1 0 ++
  leBytes 2 (e.die.getD 0xFFFF) ++ leBytes 2 (e.group.getD 0xFFFF)

def GroupEntry.bytes (g : GroupEntry) : List Byte :=
  leBytes 1 g.leader ++ leBytes 1 g.strands.length ++ leBytes 1 g.firstCove ++ leBytes 1 g.coves ++ leBytes 1 g.type ++
  leBytes 1 (bitN g.stream) ++ leBytes 2 g.dies ++ leBytes 4 g.charge ++ leBytes 2 g.anchSteps ++ leBytes 1 g.anchors.length ++ leBytes 1 0

/-- The table's bytes with a given PL_ID. -/
def Placement.bytesWith (p : Placement) (id : Nat) : List Byte :=
  let body := leBytes 4 0x504C5401 ++ leBytes 4 p.orderId ++ leBytes 4 id ++ leBytes 2 p.groups.length ++ leBytes 2 p.dropped.length ++
    leBytes 2 p.wake ++ leBytes 2 p.ndies ++ leBytes 4 p.charge ++ leBytes 1 p.streams ++ List.replicate 7 0 ++
    allStrands.flatMap (fun k => (Store.getD p.strands k {}).bytes) ++ p.groups.flatMap GroupEntry.bytes ++
    p.dropped.flatMap (fun e => leBytes 2 e.1 ++ leBytes 1 e.2 ++ leBytes 1 0)
  padTo (ceilDiv body.length 8 * 8) 0 body

/-- PL_ID: the CRC-32 of the table with its own field zero. -/
def Placement.idOf (p : Placement) : Nat := crc32 (p.bytesWith 0)

/-- The table. -/
def Placement.bytes (p : Placement) : List Byte := p.bytesWith p.id

/-- The table in force changes to `p`; PL_ID follows. -/
def State.setTable (s : State) (p : Placement) : State :=
  let p1 := { p with id := p.idOf }
  { s with place := { s.place with table := some p1 } }.wr Reg.PL_ID (BitVec.ofNat 32 p1.id)

/-- PL_STATE as it reads. -/
def State.plState (s : State) : Word :=
  let waiting := s.place.making.isSome || s.host.cmds.any (fun (c : HostCmd) => c.op == 1 && c.stage == CmdStage.received)
  let st := if waiting && !s.flag Reg.FC_HELM_STATE Fld.FC_HELM_STATE_BEACON_RUN then 4
    else match s.place.making with
      | some m => if m.applying.isSome then 2 else 1
      | none => if s.place.table.isSome then 3 else 0
  let (d, g) := match s.place.table with
    | some t => (t.ndies, t.groups.length)
    | none => (0, 0)
  BitVec.ofNat 32 (st * 2 ^ 28 + d % 256 * 256 + g % 256)

/-- PL_TAB_DATA: a word of the table in force. -/
def State.plTabData (s : State) : Word :=
  match s.place.table with
  | some t => BitVec.ofNat 32 (leAt t.bytes (4 * ((s.rd Reg.PL_TAB_ADDR).toNat % 2048)) 4)
  | none => 0

/-- The address step after a read of PL_TAB_DATA. -/
def State.plTabAdvance (s : State) : State :=
  let a := (s.rd Reg.PL_TAB_ADDR).toNat
  if bitOf a 31 then s.wr Reg.PL_TAB_ADDR (BitVec.ofNat 32 (a / 2048 * 2048 + (a % 2048 + 1) % 2048)) else s

/-! ### Refusal (R273) -/

/-- The work order of a command is refused. (DEDUCED, log 22) -/
def State.refuseOrder (s : State) (c : HostCmd) (r : Refused) : State :=
  let s1 := { s with place := { s.place with making := none } }
  let s2 := (s1.raise Reg.PL_STAT Fld.PL_STAT_REFUSED).wr Reg.PL_REFUSE (BitVec.ofNat 32 (r.1 * 2 ^ 24 + r.2 % 2 ^ 24))
  s2.completeWith c 4 (r.1 * 2 ^ 24 + r.2 % 2 ^ 24)

/-- BUSY, with its DETAIL. -/
def busyRefusal : Refused := (0x10, 0xFFFFFF)

/-- A work order is refused with BUSY while another is being made, which goes on (R369). -/
def State.refuseOther (s : State) (c : HostCmd) : State :=
  let m := s.place.making
  let s1 := s.refuseOrder c busyRefusal
  { s1 with place := { s1.place with making := m } }

/-- Work orders are refused with BUSY: a strand in active test, or an open Device record (spec/18_faults_and_thermal.md R450). -/
def State.orderBusy (s : State) : Bool := s.activeTest || s.forced.device

/-- The command of the order being made. -/
def State.makingCmd (s : State) : Option (Placing × HostCmd) :=
  match s.place.making with
  | some m => (s.host.cmds.find? (fun (c : HostCmd) => c.qp == m.qp && c.idx == m.idx && c.op == 1)).map (fun c => (m, c))
  | none => none

/-! ### Commands -/

/-- WORK_ORDER: the transfer of the work order starts (spec/14_host_transport.md R371); a placement being made refuses it (R369), and
one of zero length completes at once (R370). (DEDUCED, log 19) -/
def execWorkOrder (s : State) : Host.Outcome State Fault Refusal :=
  .next (match s.nextCmd 0x01 with
    | none => s
    | some c =>
      if c.bufLen 0x08 = 0 then s.completeWith c 1 0
      else if s.place.making.isSome then s.refuseOther c
      else s.readIn c 0x08)

/-- LOAD, APPLY_PATCH or CLEAR_PATCH runs (spec/19_engine_control_store.md R476). -/
def State.ucodeBusy (s : State) : Bool :=
  match s.ctl.run with
  | some r => r.cmd != 4
  | none => false

/-- Beacon runs, and no microcode command of spec/19 R476 does. -/
def State.plannerFree (s : State) : Bool :=
  s.flag Reg.FC_HELM_STATE Fld.FC_HELM_STATE_BEACON_RUN && !s.ucodeBusy

/-- WORK_ORDER_RECEIVED: the work order is in the device, and the placement engine decides on the inputs as they stand (R262 to
R269). -/
def execWorkOrderReceived (s : State) : Host.Outcome State Fault Refusal :=
  .next (match s.cmdAt 0x01 .received with
    | none => s
    | some c =>
      if !s.plannerFree then s
      else if s.orderBusy then s.refuseOrder c busyRefusal
      else if s.place.making.isSome then s.refuseOther c
      else
        let (r, t) := s.decision c.input
        let s1 := s.modCmd c.qp c.idx (fun (c : HostCmd) => { c with stage := CmdStage.deciding })
        { s1 with place := { s1.place with making := some ⟨c.qp, c.idx, s.now, 0, r, t, none⟩ } })

/-- Put a value into force and into the shadow (R275): what was pending for the address is gone. -/
def State.loadReg (s : State) (a : Nat) (v : Word) : State :=
  { s with shadows := Store.del s.shadows a, captured := Store.del s.captured a }.wr a v

/-- A table of the loader: entry keys and values that are not the reset content. -/
def loadTable (n : Nat) (key val : Nat → Nat) (dflt : Nat → Nat) : Store Nat :=
  (List.range n).foldl (fun (t : Store Nat) i => Store.putD t (key i) (val i) (dflt i)) []

/-- The tables of slot `j` of a die type (R258, R275). -/
def Order.tables (q : Order) (t : DieType) (j : Nat) (old : Tables) : Tables :=
  let zero (_ : Nat) : Nat := 0
  let nw := q.body t 4 0 2
  let edges (bank kind : Nat) (m : Store Nat) : Store Nat :=
    let ne := q.body t kind 0 2
    (List.range (8 * ne * 6)).foldl (fun (m : Store Nat) i =>
      let p := i / (6 * ne)
      let set := i / 6 % ne
      Store.putD m (edgeKey bank p set (i % 6)) (q.body t kind (8 + 24 * ((8 * j + p) * ne + set) + 4 * (i % 6)) 4) 0) m
  let scr := (t.sect? 8).isSome
  let table (n : Nat) (val dflt : Nat → Nat) : Store Nat := if scr then loadTable n id val dflt else []
  { old with
    wave := loadTable (8 * nw) id (fun i => q.body t 4 (8 + 64 * (nw * j + i / 8) + 8 * (i % 8) + 4) 4) zero
    edge := (if (t.sect? 6).isSome then edges 1 6 else id) (edges 0 5 [])
    uop := loadTable 768 (fun i => 4 * (i / 3) + i % 3) (fun i => q.body t 7 (4 * i) 4) zero
    xperm := table 18 (fun i => q.body t 8 i 1 % 32) id
    xlut := table 256 (fun i => q.body t 8 (0x020 + 4 * i) 4 % 2 ^ 18) zero
    yperm := table 14 (fun i => q.body t 8 (0x420 + i) 1 % 16) id
    ylut := table 256 (fun i => q.body t 8 (0x430 + 2 * i) 2 % 2 ^ 14) zero
    ztab := table 64 (fun i => q.body t 8 (0x630 + i) 1 % 64) id
    bt := loadTable 1024 id (fun i => q.body t 9 (2 * i) 2) zero }

/-- The loader's work on placed strand `k` (R275 step 4). -/
def State.loadStrand (s : State) (q : Order) (p : Placement) (k : Nat) (e : StrandEntry) : State :=
  match e.die.bind q.typeOf with
  | none => s
  | some t =>
    let s1 := s.modStrand k (fun st => { st with tables := q.tables t e.slot st.tables })
    let s2 := s1.each (List.range 64) (fun s i => s.loadReg (strandA k (Reg.WV_PER + 4 * i)) (BitVec.ofNat 32 (q.body t 3 (4 * i) 4)))
    let s3 := s2.loadReg (strandA k Reg.ED_CTRL) 0
    match e.group.bind (fun i => p.groups[i]?) with
    | some g => (s3.modStrand k (fun st => { st with anchored := g.anchors })).wr (strandA k Reg.SQ_ANCH)
        (BitVec.ofNat 32 (g.anchors.length * 65536 + g.anchSteps))
    | none => s3

/-- A strand outside a placement: no die, nothing anchored. -/
def State.clearStrand (s : State) (k : Nat) : State :=
  let s1 := (s.wr (strandA k Reg.FL_DIE) 0).wr (strandA k Reg.SQ_ANCH) 0
  s1.modStrand k (fun st => { st with anchored := [], ranSince := false })

/-- Contexts of every die are released (R240). -/
def State.releaseContexts (s : State) : State :=
  { s with splice := { s.splice with
    ctxs := [], lanes := s.splice.lanes.map (fun e => (e.1, { e.2 with lost := [] })) } }

/-- The coves of a mask. -/
def covesOf (mask : Nat) : List Nat := (List.range 16).filter (fun c => bitOf mask c)

/-- The apply begins (R275): the journal and the ledgers are reset, contexts released, FL_DIE written, the loader runs, and the coves
of the wake set are asked to wake. The engine switch and the table follow when it completes. -/
def State.beginApply (s : State) (m : Placing) (p : Placement) (q : Order) : State :=
  let placed := p.strands.map (·.1)
  let s1 := (s.resetJournal.each placed (fun s k => (s.clearFails k).clearSteps k)).releaseContexts
  let s2 := s1.each allStrands State.clearStrand
  let s3 := s2.each p.strands (fun s e => match e.2.die with
    | some d => s.wr (strandA e.1 Reg.FL_DIE) (BitVec.ofNat 32 (2 ^ 31 + d))
    | none => s)
  let s4 := s3.each p.strands (fun s e => s.loadStrand q p e.1 e.2)
  let s5 := (covesOf p.wake).foldl (fun s c => s.requestWake c 1) { s4 with place := { s4.place with stay := [] } }
  { s5 with place := { s5.place with making := some { m with applying := some s5.now } } }

/-- PLACEMENT_DECIDED: the decision completes within 150 ms (R272): the order is refused, or its apply begins, once every running
final splice has written its result and every calibration run has ended. (DEDUCED, log 22) -/
def execPlacementDecided (s : State) : Host.Outcome State Fault Refusal :=
  .next (match s.makingCmd with
    | none => s
    | some (m, c) =>
      if m.applying.isSome || !s.plannerFree then s
      else
        let (f, s0) := s.free
        let s1 := s0.advanceTo (m.since + f % (150000 * usU))
        let s2 := s1.setFld Reg.PL_TIME Fld.PL_TIME_PLACE (min 65535 ((s1.now - m.since) / (10 * usU)))
        match m.refusal, m.table with
        | none, some p =>
          if !s.splice.finals.isEmpty || !s.calRuns.isEmpty then s
          else if s2.orderBusy then s2.refuseOrder c busyRefusal
          else (s2.modCmd c.qp c.idx (fun (c : HostCmd) => { c with stage := CmdStage.applying })).beginApply m p
            (readOrder (c.input.take (leAt c.input 8 4)))
        | r, _ => s2.refuseOrder c (r.getD busyRefusal))

/-- The engine switch, roles and leaders of a cove's positions as a placement gives them (R275 step 2, R9). An unplaced position
whose engine has gone to a placed one keeps none. -/
def State.switchEngines (s : State) (p : Placement) : State :=
  let used := p.strands.map (fun e => e.2.engine)
  let s1 := s.each allStrands (fun s k =>
    let e := Store.getD p.strands k {}
    let pos := if e.placed then e.engine - 13 * coveOf k
      else match s.engineOf k with
        | some x => if used.contains x then 15 else x - 13 * coveOf k
        | none => 15
    let leader := if e.role = 0 then 255 else match e.group.bind (fun i => p.groups[i]?) with
      | some g => g.leader
      | none => 255
    let s1 := (s.setFld (lbPos k) Fld.LB_POS_ENGINE pos).setFld (lbPos k) Fld.LB_POS_LEADER leader
    s1.setRole k e.role)
  s1.each (List.range 16) State.showReserve

/-- What the placement in force and the open streams charge (R198, R201). -/
def State.showBudget (s : State) : State :=
  let t := match s.place.table with
    | some p => p.charge
    | none => 0
  s.setFld Reg.MC_BUDGET_USED Fld.MC_BUDGET_USED_MBPS (t + (s.mem.streams.map (fun e => e.2.charge)).foldl (· + ·) 0)

/-- A cove of the wake set has settled, or gone back to sleep without a lock. -/
def State.wakeOver (s : State) (c : Nat) : Bool :=
  let st := s.fld (coveA c Reg.CV_STATE) Fld.CV_STATE_STATE
  st == 0 || st == 3

/-- PLACEMENT_APPLIED: within 40 ms and the wake of its coves, the placement is in force and WORK_ORDER completes (R272, R274). (DEDUCED, log 22) -/
def execPlacementApplied (s : State) : Host.Outcome State Fault Refusal :=
  .next (match s.makingCmd with
    | none => s
    | some (m, c) =>
      match m.applying, m.table with
      | some t0, some p =>
        if !s.plannerFree || (covesOf p.wake).any (fun k => !s.wakeOver k) then s
        else
          let (f, s0) := s.free
          let s1 := s0.advanceTo (t0 + f % (40000 * usU))
          let s2 := ((({ s1 with place := { s1.place with making := none, toTouch := List.range 16 } }).setTable p).switchEngines p).showBudget
          let s3 := s2.setFld Reg.PL_TIME Fld.PL_TIME_APPLY (min 65535 ((s2.now - t0) / (10 * usU)))
          let s4 := (s3.raise Reg.PL_STAT Fld.PL_STAT_APPLIED).raiseIf (p.refDrop || !p.dropped.isEmpty) Reg.PL_STAT Fld.PL_STAT_DROPPED
          let out := match s4.place.table with
            | some t => t.bytes
            | none => []
          (s4.writeOut c 0x18 out).complete c.qp c.idx 0 0
            ((s4.rd Reg.PL_ID).toNat + p.groups.length * 2 ^ 32 + p.dropped.length * 2 ^ 48) out.length
      | _, _ => s)

/-- PL_CMD.RELEASE (R276): with no strand in active test and no placement being made, the placement is removed. -/
def State.release (s : State) : State :=
  if s.activeTest || s.place.making.isSome then s.raise Reg.PL_STAT Fld.PL_STAT_REFUSED
  else
    let s1 := { s with place := { s.place with table := none, stay := [] } }
    let s2 := s1.each allStrands (fun s k => ((s.clearStrand k).setRole k 0).setFld (lbPos k) Fld.LB_POS_LEADER 255)
    (s2.wr Reg.PL_ID 0).showBudget

/-! ### Loss of an engine (R270, R277) -/

/-- PL_HEALTH changes while a placement is made (R270): the decision starts again, and a fifth change refuses the order. -/
def State.healthChanged (s : State) : State :=
  match s.makingCmd with
  | none => s
  | some (m, c) =>
    if 4 ≤ m.restarts then s.refuseOrder c busyRefusal
    else
      let (r, t) := s.decision c.input
      let s1 := s.modCmd c.qp c.idx (fun (c : HostCmd) => { c with stage := CmdStage.deciding })
      { s1 with place := { s1.place with making := some { m with restarts := m.restarts + 1, refusal := r, table := t, applying := none } } }

/-- Put engine `e` out of service or back into service in PL_HEALTH. -/
def State.setHealth (s : State) (e : Nat) (out : Bool) : State :=
  let v := (s.rd (healthA e)).toNat
  let b := 2 ^ (e % 32)
  (s.wr (healthA e) (BitVec.ofNat 32 (if out then Nat.lor v b else if bitOf v (e % 32) then v - b else v))).showReserve (e / 13)

/-- The reserve engine of cove `c` is in service, free and holds the version in force (R277, spec/19 R479). -/
def State.reserveFree (s : State) (c : Nat) : Bool :=
  !s.engineOut (13 * c + 12) && (List.range 12).all (fun i => s.engineOf (12 * c + i) != some (13 * c + 12)) &&
  (s.rd (reserveA c Reg.RE_UCODE_VER)).toNat / 256 == (s.rd Reg.CS_UCODE_VER).toNat / 256

/-- Change strand `k`'s entry of the table in force. -/
def State.modEntry (s : State) (k : Nat) (f : StrandEntry → StrandEntry) : State :=
  match s.place.table with
  | some p => s.setTable { p with strands := Store.put p.strands k (f (Store.getD p.strands k {})) }
  | none => s

/-- Strand `k` takes the reserve engine of its cove. -/
def State.giveReserve (s : State) (k : Nat) : State :=
  let r := 13 * coveOf k + 12
  let s1 := (s.setFld (lbPos k) Fld.LB_POS_ENGINE 12).showReserve (coveOf k)
  (s1.modEntry k (fun e => { e with engine := r, subst := true })).raise Reg.PL_STAT Fld.PL_STAT_SUBST

/-- Strand `k` keeps no engine: it halts. -/
def State.noEngine (s : State) (k : Nat) : State :=
  let s1 := ((s.raiseStop k .deviceFault).setFld (lbPos k) Fld.LB_POS_ENGINE 15).showReserve (coveOf k)
  (s1.modEntry k (fun e => { e with engine := 0xFF })).raise Reg.PL_STAT Fld.PL_STAT_ENGINE_SHORT

/-- Engine `e` has gone out of service: what R277 does for the placed strand it serves. -/
def State.replaceEngine (s : State) (e : Nat) : State :=
  match allStrands.find? (fun k => s.engineOf k == some e && (s.entryOf k).placed) with
  | none => s
  | some k => if s.tablesOpen k && s.reserveFree (coveOf k) then s.giveReserve k else s.noEngine k

/-- The device takes engine `e` out of service (R277, R270). -/
def State.engineFails (s : State) (e : Nat) : State :=
  if s.engineOut e then s else ((s.setHealth e true).replaceEngine e).healthChanged

/-- Beacon runs again (spec/18 R460): a decision or an apply that was interrupted restarts. -/
def State.resumePlacing (s : State) : State :=
  match s.makingCmd with
  | none => s
  | some (m, c) =>
    match m.applying, m.table with
    | some _, some p => s.beginApply m p (readOrder (c.input.take (leAt c.input 8 4)))
    | _, _ => s

end Sys2Proof.Machine
end

