-- ==== Sys2Proof/Machine/Cal.lean ====
section
/-! DEFINITION. Calibration (spec/13_calibration.md R333 to R349): items and their window, runs, what a run computes from its
measurements, acceptance, and the writes of CB_CMD and CB_COMMIT. -/

namespace Sys2Proof.Machine

/-! ### The calibration window (R333) -/

/-- The bits an item holds, zero for items not listed. -/
def itemMask (i : Nat) : Word :=
  if i < 0x08 then 0xFFFFFFFF
  else if i < 0x0B then 0xFFFF
  else if i < 0x2B then 0xFFFFFFFF
  else if i < 0x2D then 0xFFFFFF
  else 0

/-- Pin and item addressed. -/
def State.cbPin (s : State) : Nat := s.fld Reg.CB_ADDR Fld.CB_ADDR_PIN
def State.cbItem (s : State) : Nat := s.fld Reg.CB_ADDR Fld.CB_ADDR_ITEM

/-- A listed item, the read-only ones included. -/
def itemListed (i : Nat) : Bool := decide (i < 0x2D) || (decide (0x40 ≤ i) && decide (i < 0x4D))

/-- CB_DATA as it reads: the item's value in force; zero where there is none. -/
def State.cbData (s : State) : Word :=
  if s.cbPin < 1536 && itemListed s.cbItem then s.rd (calA s.cbPin s.cbItem) else 0

/-- The address step after an access to CB_DATA (CB_ADDR.AINC). -/
def State.cbAdvance (s : State) : State :=
  if s.flag Reg.CB_ADDR Fld.CB_ADDR_AINC then
    let i := s.cbItem
    let s1 := s.setFld Reg.CB_ADDR Fld.CB_ADDR_ITEM ((i + 1) % 128)
    if i = 127 then s1.setFld Reg.CB_ADDR Fld.CB_ADDR_PIN (if 1535 ≤ s.cbPin then 0 else s.cbPin + 1) else s1
  else s

/-- A write through CB_DATA (R333, R339). -/
def State.cbWrite (s : State) (al : Alias) (d : Word) : State :=
  let a := calA s.cbPin s.cbItem
  let s1 :=
    if 1536 ≤ s.cbPin || 0x2D ≤ s.cbItem then s.raise Reg.CB_STAT Fld.CB_STAT_ITEM_REJ
    else if s.underCal s.cbPin then s.raise Reg.CB_STAT Fld.CB_STAT_BUSY_REJ
    else s.writeShadow a (aliasValue al (s.shadowOf a) d &&& itemMask s.cbItem)
  s1.cbAdvance

/-! ### Starting a run (R338, R339) -/

/-- CB_RES at the end or the refusal of a run. -/
def State.calResult (s : State) (k kind outcome accept reject : Nat) : State :=
  s.wr Reg.CB_RES (BitVec.ofNat 32 (k % 256 * 2 ^ 24 + kind % 16 * 2 ^ 20 + outcome * 2 ^ 16 + accept % 256 * 256 + reject % 256))

/-- Complete the command that asked for a run. -/
def State.calReply (s : State) (cmd : Option (Nat × Nat)) (status : Nat) : State :=
  match cmd with
  | some (q, i) => s.complete q i status (s.rd Reg.CB_RES).toNat 0 0
  | none => s

/-- The reason for which a run is refused, 0 for none (R338; spec/18_faults_and_thermal.md R450). -/
def State.calRefusal (s : State) (k kind src pins : Nat) : Nat :=
  if 192 ≤ k ∨ ¬(s.sqState k = 0 ∨ s.sqState k = 5) ∨ (s.strand k).out then 0x01
  else if !s.coveAwake (coveOf k) then 0x02
  else if (Store.get? s.calRuns (coveOf k)).isSome ∨ s.forced.device then 0x03
  else if s.place.making.isSome then 0x04
  else if s.flag Reg.CB_BUSY Fld.CB_BUSY_COMMIT then 0x05
  else if kind = 1 && (pinsSet pins).any (fun p => s.tdState (pinOf k p) != 0) then 0x06
  else if kind = 0 ∨ 6 ≤ kind ∨ ((kind = 4 ∨ kind = 5) ∧ 6 ≤ src) then 0x07
  else 0

/-- The coves with an active run, as CB_BUSY shows them. -/
def State.showCalCoves (s : State) : State :=
  s.setFld Reg.CB_BUSY Fld.CB_BUSY_COVES ((s.calRuns.map (fun e => 2 ^ e.1)).foldl Nat.lor 0)

/-- A run takes the PMU of a selected pin: MEASURE for LEVELS and a voltage source, FV for a current range, else off (R341). -/
def State.calPmu (s : State) (n kind src : Nat) : State :=
  if kind = 2 ∨ ((kind = 4 ∨ kind = 5) ∧ src = 0) then s.modPmu n (fun p => { sg := p.sg, state := 1, closed := true })
  else if kind = 4 ∨ kind = 5 then s.modPmu n (fun p => { sg := p.sg, state := 2, closed := true, amp := true, range := src - 1 })
  else s.pmuOff n

/-- Zeros held on strand `k` that a new run drops (R344): all but those of the source that SYS_FS uses. -/
def State.dropZeros (s : State) (k kind src : Nat) : State :=
  { s with calZero := s.calZero.filter (fun e => e.1 / 8 / 8 != k || (kind == 5 && e.1 % 8 == src)) }

/-- A run starts (R339). -/
def State.startCal (s : State) (k kind src ctx pins : Nat) (cmd : Option (Nat × Nat)) : State :=
  let s1 := (s.dropZeros k kind src).each (pinsSet pins) (fun s p => s.calPmu (pinOf k p) kind src)
  let uses := kind != 1
  let s2 := if uses then s1.each (pinsSet pins) (fun s p => s.setConv (pinOf k p) {}) else s1
  let captured := uses && (s2.acq k).src == 0 && Nat.land (s2.acq k).pins pins != 0
  let s3 := if captured then s2.aqStop k else s2
  let r : CalRun := ⟨k, kind, src, ctx, pins, 0, cmd⟩
  ({ s3 with calRuns := Store.put s3.calRuns (coveOf k) r }).showCalCoves

/-! ### Ending a run (R340, R342, R346, R347) -/

/-- The place of a kind's nibble in STATUS, and of its byte in TEMP. -/
def kindPlace : Nat → Nat
  | 1 => 0
  | 2 => 1
  | 3 => 2
  | _ => 3

/-- Record a pin's outcome in STATUS. -/
def State.calStatus (s : State) (n kind code : Nat) : State := s.setFld (calA n 0x4B) ⟨4 * kindPlace kind, 4⟩ code

/-- Record a run's temperature in TEMP. -/
def State.calTemp (s : State) (n kind temp : Nat) : State := s.setFld (calA n 0x4C) ⟨8 * kindPlace kind, 8⟩ temp

/-- A run is over: the pins return to the state their registers give (R340). -/
def State.leaveCal (s : State) (r : CalRun) : State :=
  let s1 := ({ s with calRuns := Store.del s.calRuns (coveOf r.strand) }).showCalCoves
  let s2 := s1.raise Reg.CB_STAT Fld.CB_STAT_DONE
  s2.each (pinsSet r.pins) (fun s p =>
    let n := pinOf r.strand p
    let s3 := (s.pmuOff n).pmuTake n
    let s4 := if r.kind = 1 then s3 else s3.restartConv n
    if r.kind = 1 ∨ r.kind = 2 then s4.startComparator n else s4)

/-- A run is aborted (R342). Which of its pins count as measured the spec leaves open. (DESIGN CHOICE, log 25) -/
def State.abortCal (s : State) (c : Nat) : State :=
  match Store.get? s.calRuns c with
  | none => s
  | some r =>
    let (f, s0) := s.free
    let left := (pinsSet r.pins).filter (fun p => !bitOf r.tripped p)
    let s1 := s0.each left (fun s p => s.calStatus (pinOf r.strand p) r.kind 6)
    ((s1.leaveCal r).calResult r.strand r.kind 2 0 (Nat.land f r.pins)).calReply r.cmd 0

/-- Every run is aborted: slack, a Device-class fault, a thermal halt. -/
def State.abortCals (s : State) : State := s.each (s.calRuns.map (·.1)) State.abortCal

/-- Pins placed in SAFE by a trip leave their run (R342). -/
def State.tripCal (s : State) (pins : List Nat) : State :=
  s.each (pins.filter s.underCal) (fun s n =>
    let c := coveOf (n / 8)
    match Store.get? s.calRuns c with
    | some r => ({ s with calRuns := Store.put s.calRuns c { r with tripped := Nat.lor r.tripped (2 ^ (n % 8)) } }).calStatus n r.kind 5
    | none => s)

/-- A write of CB_CMD, or CAL_RUN (R338, R342). -/
def State.calCommand (s : State) (w : Word) (cmd : Option (Nat × Nat)) : State :=
  let kind := Fld.CB_CMD_KIND.get w
  let k := Fld.CB_CMD_STRAND.get w
  let src := Fld.CB_CMD_SRC.get w
  let pins := Fld.CB_CMD_PINS.get w
  if kind = 0xF then
    let s1 := match Store.get? s.calRuns (coveOf k) with
      | some r => if r.strand = k then s.abortCal (coveOf k) else s
      | none => s
    s1.calReply cmd 0
  else
    let no := s.calRefusal k kind src pins
    if no ≠ 0 then (((s.raise Reg.CB_STAT Fld.CB_STAT_REFUSED).calResult k kind 3 0 no).calReply cmd 4)
    else s.startCal k kind src (Fld.CB_CMD_CONTEXT.get w) pins cmd

/-! ### Values from measurements -/

/-- The quotient a / b rounded, when b is not zero. -/
def roundQ (a b : Int) : Option Int :=
  if b = 0 then none else if 0 < b then some (roundDiv a b.toNat) else some (roundDiv (-a) (-b).toNat)

/-- What a run found for a pin: the status code, and the shadows to write. -/
structure CalFound where
  status : Nat
  writes : List (Nat × Word)
  deriving DecidableEq, Repr

/-- A 16-bit field at a place. -/
def half (hi : Bool) (v : Int) : Nat := unsigned 16 v * (if hi then 65536 else 1)

/-- The INL values of 64 hit counts (R343). -/
def calInl (hits : List Nat) : List Int :=
  let h := (hits.foldl (· + ·) 0 : Nat)
  (List.range 64).map (fun i => match roundQ ((16384 * (hits.take i).foldl (· + ·) 0 : Nat) - (256 * i * h : Nat)) (h : Nat) with
    | some v => v
    | none => 0)

/-- Dd and Dc of a pin from its summed stamps (R335, R343). -/
def State.calDeskew (s : State) (n : Nat) (m : CalMeas) : Int × Int :=
  let t : Int := (s.fld Reg.CB_REF_DELAY Fld.CB_REF_DELAY_TREF : Int) - signed 16 (s.rd (calA n 0x0A)).toNat
  (roundDiv (1024 * t - (m.ret : Int)) 1024, roundDiv (1024 * t + (m.ret : Int)) 1024)

/-- Accepted, DRIFT or IMPLAUSIBLE (R346). -/
def verdict (plausible agrees service : Bool) : Nat :=
  if !plausible then 3 else if service && !agrees then 2 else 1

/-- A TIMING run at pin `n` (R343, R346). -/
def State.calTiming (s : State) (n ctx : Nat) (m : CalMeas) : CalFound :=
  let (dd, dc) := s.calDeskew n m
  let inl := calInl m.hits
  let tol : Int := s.fld Reg.CB_TOL Fld.CB_TOL_TIME
  let old (i : Nat) : Int := ((s.rd (calA n i)).toNat % 65536 : Nat)
  let plausible := decide ((m.ret : Int) - m.launch ≤ 1024 * 12288 ∧ 1572864 ≤ 5 * m.launch ∧ 5 * m.launch ≤ 9437184 ∧
    0 ≤ dd ∧ dd ≤ dc ∧ dc ≤ 65535 ∧ 300 ≤ m.eye) && inl.all (fun v => decide (-128 ≤ v ∧ v ≤ 128)) && m.hits.any (fun h => h != 0)
  let agrees := decide (-tol ≤ dd - old 0x08 ∧ dd - old 0x08 ≤ tol ∧ -tol ≤ dc - old 0x09 ∧ dc - old 0x09 ≤ tol)
  if !m.found then ⟨4, []⟩
  else ⟨verdict plausible agrees (ctx == 0),
    [(0x08, BitVec.ofNat 32 (unsigned 16 dd)), (0x09, BitVec.ofNat 32 (unsigned 16 dc))] ++
    (List.range 32).map (fun w => (0x0B + w, BitVec.ofNat 32 (half false (inl.getD (2 * w) 0) + half true (inl.getD (2 * w + 1) 0))))⟩

/-- OFS and GAIN of a level DAC from its errors, in 1/1000 of 7.8125 µV, at C1 and C2 (R343). -/
def levelPair (e1 e2 : Int) : Int × Int :=
  let ofs := roundDiv (-e1) 1000
  (ofs, roundDiv ((-e2 - 1000 * ofs) * 8) 3000)

/-- The correction of a level pair at C2, in sixteenths (R334). -/
def levelAtC2 (p : Int × Int) : Int := p.1 + roundDiv (16 * 24576 * p.2) 1048576

/-- The level pair an item holds. -/
def itemPair (w : Word) : Int × Int := (signed 16 (w.toNat / 65536), signed 16 w.toNat)

/-- A LEVELS run at pin `n` (R343, R346). -/
def State.calLevels (s : State) (n ctx : Nat) (m : CalMeas) : CalFound :=
  let pairs := (List.range 8).map (fun i => levelPair (m.e1.getD i 0) (m.e2.getD i 0))
  let tol : Int := 16 * (s.fld Reg.CB_TOL Fld.CB_TOL_LEVEL : Int)
  let near (a b : Int) : Bool := decide (-tol ≤ a - b ∧ a - b ≤ tol)
  let plausible := pairs.all (fun p => decide (-3200 ≤ p.1 ∧ p.1 ≤ 3200 ∧ -5243 ≤ p.2 ∧ p.2 ≤ 5243))
  let agrees := (List.range 8).all (fun i =>
    let p := pairs.getD i (0, 0)
    let o := itemPair (s.rd (calA n i))
    near p.1 o.1 && near (levelAtC2 p) (levelAtC2 o))
  ⟨verdict plausible agrees (ctx == 0), (List.range 8).map (fun i =>
    let p := pairs.getD i (0, 0)
    (i, BitVec.ofNat 32 (half true p.1 + half false p.2)))⟩

/-- A converter pair is plausible (R346). -/
def pairPlausible (ofs : Int) (gain : Option Int) : Bool :=
  decide (-167772 ≤ ofs ∧ ofs ≤ 167772) && (match gain with
    | some g => decide (0x3CCCCD ≤ g ∧ g ≤ 0x433333)
    | none => false)

/-- Offsets of the AD_ pair of a source from its pin's block: 0 voltage, 1 to 5 a current range. -/
def pairOff (src : Nat) : Nat × Nat :=
  if src = 0 then (Reg.AD_OFS_V, Reg.AD_GAIN_V) else (Reg.AD_OFS_I + 8 * (src - 1), Reg.AD_GAIN_I + 8 * (src - 1))

/-- The words of a pair. -/
def pairWords (ofs : Int) (gain : Option Int) : Word × Word :=
  (BitVec.ofNat 32 (unsigned 24 ofs), BitVec.ofNat 32 (unsigned 24 (gain.getD 0)))

/-- The pair a CONV run computes (R345). -/
def State.convPair (s : State) (n : Nat) (m : CalMeas) : Int × Option Int :=
  let x (i : Nat) : Int := signed 24 (s.rd (calA n i)).toNat
  (roundDiv m.z 7, roundQ ((x 0x2C - x 0x2B) * 4194304 * 7) (m.h - m.l))

/-- The residual of a CONV run (R345). -/
def State.convResidual (s : State) (n : Nat) (m : CalMeas) : Nat :=
  match s.convPair n m with
  | (ofs, some g) =>
    let corr (sum : Int) : Int := (adCorrect (some (ofs, g.toNat)) sum 7).1
    min 16777215 (max (corr m.l - signed 24 (s.rd (calA n 0x2B)).toNat).natAbs (corr m.z2).natAbs)
  | _ => 16777215

/-- A CONV run at pin `n`. -/
def State.calConv (s : State) (n ctx : Nat) (m : CalMeas) : CalFound :=
  let (ofs, gain) := s.convPair n m
  let oldO := signed 24 (s.rd (pinA n Reg.AD_OFS_V)).toNat
  let oldG : Int := ((s.rd (pinA n Reg.AD_GAIN_V)).toNat % 16777216 : Nat)
  let tg : Int := s.fld Reg.CB_TOL Fld.CB_TOL_CONV_GAIN
  let tol : Int := 16 * (s.fld Reg.CB_TOL Fld.CB_TOL_CONV_OFS : Int)
  let d := gain.getD 0 - oldG
  let agrees := decide (-(tg * oldG) ≤ d * 100000 ∧ d * 100000 ≤ tg * oldG ∧ -tol ≤ ofs - oldO ∧ ofs - oldO ≤ tol)
  let w := pairWords ofs gain
  ⟨verdict (pairPlausible ofs gain) agrees (ctx == 0), [(pinA n Reg.AD_OFS_V, w.1), (pinA n Reg.AD_GAIN_V, w.2)]⟩

/-- A SYS_FS run of source `src` at pin `n` (R344, R305); the context's agreement rule has no row for it (R346). -/
def State.calSys (s : State) (n src : Nat) (m : CalMeas) : CalFound :=
  match Store.get? s.calZero (8 * n + src) with
  | none => ⟨7, []⟩
  | some z =>
    let ofs := roundDiv z 7
    let gain := roundQ (signed 24 (s.fld Reg.CB_REF_Q Fld.CB_REF_Q_Q) * 4194304 * 7) (m.z - z)
    let w := pairWords ofs gain
    let xfer (sum : Int) : Word := BitVec.ofNat 32 (unsigned 24 (adCorrect (some (ofs, (gain.getD 0).toNat)) sum 7).1)
    let o := pairOff src
    ⟨verdict (pairPlausible ofs gain) true false,
      [(pinA n o.1, w.1), (pinA n o.2, w.2)] ++ (if src = 0 then [(calA n 0x2B, xfer m.l), (calA n 0x2C, xfer m.h)] else [])⟩

/-- What a run finds at pin `n`; a code clipped by a limit register writes nothing (R342). The items of TIMING and LEVELS are given
by number. -/
def State.calFound (s : State) (n kind src ctx : Nat) (m : CalMeas) : CalFound :=
  let items (f : CalFound) : CalFound := { f with writes := f.writes.map (fun e => (calA n e.1, e.2)) }
  if m.clipped then ⟨8, []⟩
  else match kind with
    | 1 => items (s.calTiming n ctx m)
    | 2 => items (s.calLevels n ctx m)
    | 3 => s.calConv n ctx m
    | _ => s.calSys n src m

/-- Quality figures of a pin measured (R333, R346). -/
def State.calQuality (s : State) (n kind : Nat) (m : CalMeas) : State :=
  match kind with
  | 1 => (s.wr (calA n 0x48) (BitVec.ofNat 32 (m.eye % 65536 * 65536 + m.residual % 65536))).wr (calA n 0x49)
      (BitVec.ofNat 32 (m.inlErr % 65536))
  | 2 => s.each (List.range 8) (fun s i => s.wr (calA n (0x40 + i)) (BitVec.ofNat 32 (min 65535 (m.verify.getD i 0))))
  | 3 => s.wr (calA n 0x4A) (BitVec.ofNat 32 (s.convResidual n m))
  | _ => s

/-- A measurement of nothing: no launch or return, no hits, no counts. -/
def CalMeas.nothing : CalMeas := ⟨0, false, false, 0, 0, [], 0, 0, 0, [], [], [], 0, 0, 0, 0⟩

/-- The measurement of a pin. -/
def measOf (l : List CalMeas) (p : Nat) : CalMeas := (l.find? (fun m => m.pin.val == p)).getD CalMeas.nothing

/-- One pin of a run that ends: its quality figures, STATUS, TEMP and, when accepted, its shadows. -/
def State.endCalPin (r : CalRun) (l : List CalMeas) (temp : Nat) (s : State) (p : Nat) : State × Bool :=
  let n := pinOf r.strand p
  let m := measOf l p
  let f := s.calFound n r.kind r.src r.context m
  let s1 := ((s.calQuality n r.kind m).calTemp n r.kind temp).calStatus n r.kind f.status
  if f.status = 1 then (s1.each f.writes (fun s e => s.writeShadow e.1 e.2), true) else (s1, false)

/-- The update groups of a kind (R347). -/
def kindGroups : Nat → Nat
  | 1 => 2 ^ 22
  | 2 => 2 ^ 21
  | _ => 2 ^ 23

/-- Apply the shadows of a run's groups for its pins (R347). -/
def State.strobePins (s : State) (k pins mask : Nat) : State :=
  let mine (a : Nat) : Bool := if 0x400000 ≤ a then calPin a / 8 == k && bitOf pins (calPin a % 8)
    else match blockOf a with
      | .pin n => n / 8 == k && bitOf pins (n % 8)
      | _ => false
  let hit := s.shadows.filter (fun e => inMask mask e.1 && mine e.1)
  let keys := hit.map (·.1)
  { s with shadows := s.shadows.filter (fun e => !keys.contains e.1) }.applyAll hit

/-- CAL_RUN_END: the run of cove `c` ends with its measurements, `temp` being the highest reading of the cove's sensor in °C (R340,
R343 to R347). (DESIGN CHOICE, log 25) -/
def execCalRunEnd (c : Fin 16) (meas : List CalMeas) (temp : BitVec 8) (s : State) : Host.Outcome State Fault Refusal :=
  .next (match Store.get? s.calRuns c with
    | none => s
    | some r =>
      let left := (pinsSet r.pins).filter (fun p => !bitOf r.tripped p)
      if r.kind = 4 then
        let (f, s0) := s.free
        let s1 := s0.each left (fun s p =>
          let n := pinOf r.strand p
          ({ s with calZero := Store.put s.calZero (8 * n + r.src) (measOf meas p).z }).calTemp n 4 temp.toNat)
        let m := left.foldl (fun m p => m + 2 ^ p) 0
        ((s1.leaveCal r).calResult r.strand 4 1 (Nat.land f m) (m - Nat.land f m)).calReply r.cmd 0
      else
        let (s1, acc) := left.foldl (fun (x : State × Nat) p =>
          let (s2, ok) := State.endCalPin r meas temp.toNat x.1 p
          (s2, if ok then x.2 + 2 ^ p else x.2)) (s, 0)
        let m := left.foldl (fun m p => m + 2 ^ p) 0
        let s2 := if r.kind = 5 then { s1 with calZero := s1.calZero.filter (fun e => e.1 / 8 / 8 != r.strand) } else s1
        let s3 := if s2.flag Reg.CB_CTRL Fld.CB_CTRL_AUTO_STROBE then s2.strobePins r.strand acc (kindGroups r.kind) else s2
        ((s3.leaveCal r).calResult r.strand r.kind 1 acc (m - acc)).calReply r.cmd 0)

/-! ### The stored set (R349) -/

/-- A write of CB_COMMIT. -/
def State.commitWrite (s : State) (d : Word) : State :=
  if Fld.CB_COMMIT_CONFIRM.get d = 0xCB01 ∧ bitOf d.toNat 0 then
    if !s.flag Reg.FC_HELM_STATE Fld.FC_HELM_STATE_BEACON_RUN || !s.calRuns.isEmpty || s.flag Reg.CB_BUSY Fld.CB_BUSY_COMMIT then
      s.raise Reg.CB_STAT Fld.CB_STAT_COMMIT_FAIL
    else s.raise Reg.CB_BUSY Fld.CB_BUSY_COMMIT
  else s

/-- CAL_RUN: the run that the command's CB_CMD word asks for (spec/14_host_transport.md R371). -/
def execCalRun (s : State) : Host.Outcome State Fault Refusal :=
  .next (match s.nextCmd 0x08 with
    | none => s
    | some c =>
      let s1 := s.modCmd c.qp c.idx (fun (c : HostCmd) => { c with stage := CmdStage.calRun })
      s1.calCommand (BitVec.ofNat 32 (c.arg 0x08 4)) (some (c.qp, c.idx)))

end Sys2Proof.Machine
end

