-- ==== Sys2Proof/Machine/Ring.lean ====
section
/-! DEFINITION. The ring logic (spec/15_ring_and_system.md R381 to R402): frames received, Adeo frames, credits and the audit,
heartbeats, slack, broken links, the active-test map and the bypass. -/

namespace Sys2Proof.Machine

/-! ### Receiving an Adeo frame (R380, R386, R387) -/

/-- Port `p` receives: the device is on the ring and the link carries frames. -/
def State.hears (s : State) (p : Nat) : Bool := s.onRing && !s.forced.grave && decide (2 ≤ s.linkState p)

/-- Send an Adeo frame on by the port opposite to `p`; a link that is down drops and counts it (R398). -/
def State.passOn (s : State) (p type : Nat) (f : Adeo) : State :=
  if s.linkState (otherPort p) = 0 then s.satAdd (linkErrA (otherPort p)) Fld.RG_LINK_ERR_DOWN_DROP 1
  else s.sendTc0 (otherPort p) (.adeo type f)

/-- Forward an Adeo frame received on port `p` under R387, HOPS decreased by one. -/
def State.relay (s : State) (p type : Nat) (f : Adeo) : State :=
  if f.flags % 2 = 1 ∨ f.dst = s.devAddr ∨ f.hops ≤ 1 then s else s.passOn p type { f with hops := f.hops - 1 }

/-- The device originated this frame. -/
def State.isOwn (s : State) (type : Nat) (f : Adeo) : Bool := f.src == s.devAddr && s.ring.sent.contains (type, f.seq)

/-- Remember the key of a frame, the last 16 of its TYPE. (DEDUCED, log 33) -/
def remember (type src seq : Nat) (l : List (Nat × Nat × Nat)) : List (Nat × Nat × Nat) :=
  let same := l.filter (fun e => e.1 == type)
  (type, src, seq) :: (same.take 15 ++ l.filter (fun e => e.1 != type))

/-- An Adeo frame arrives on port `p` (R385 to R387): another version is forwarded unprocessed, a foreign ring's dropped and
counted; then it is processed by `act`, once for a SRC, TYPE and SEQ of several hops, and forwarded by `send`. Tide marks of kind
MARK come eastbound and westbound with one SEQ, and both copies are processed (spec/16_tideline.md R412 to R414). (DEDUCED, log 33) -/
def State.adeoWith (s : State) (p type : Nat) (f : Adeo) (twice : Bool) (act : State → State) (send : State → State) : State :=
  if !s.hears p then s
  else if f.ver ≠ 1 then s.passOn p type f
  else if f.ring ≠ s.fld Reg.RG_ADDR Fld.RG_ADDR_RING then s.satAdd (linkErrA p) Fld.RG_LINK_ERR_RING 1
  else if s.isOwn type f then s
  else
    let s1 := if f.src = s.devAddr then (s.raise Reg.RG_STAT Fld.RG_STAT_ADDR_DUP).fault (srcRing p) 2 0 else s
    let hop := f.flags % 2 = 1
    let known := !hop && !twice && s1.ring.seen.contains (type, f.src, f.seq)
    let mine := f.dst = 0xFFFF ∨ f.dst = s1.devAddr
    let s2 := if hop ∨ known then s1
      else { s1 with ring := { s1.ring with seen := remember type f.src f.seq s1.ring.seen } }
    send (if mine ∧ !known then act s2 else s2)

/-- An Adeo frame that is forwarded as it is. -/
def State.adeo (s : State) (p type : Nat) (f : Adeo) (act : State → State) : State :=
  s.adeoWith p type f false act (fun s => s.relay p type f)

/-- A field of an Adeo body, by its offset from the start of the payload. -/
def Adeo.at_ (f : Adeo) (off n : Nat) : Nat := leAt f.body (off - 0x10) n

/-! ### Forwarding (R381 to R384; spec/14_host_transport.md R352) -/

/-- HT_MAC. -/
def State.htMac (s : State) : Nat := (s.rd Reg.HT_MAC_LO).toNat + (s.rd Reg.HT_MAC_HI).toNat % 65536 * 2 ^ 32

/-- A credited frame has been received on port `p`: RX counts its cells, which leave the buffer at once (R390). -/
def State.consumed (s : State) (p t n : Nat) : State := (s.addCr p t 4 n).returnCells p

/-- Bytes of host-transport frames in the receive buffer. -/
def State.rxBytes (s : State) : Nat := (s.host.rx.map (·.2)).foldl (· + ·) 0

/-- Send a PFC frame for HT_PFC.PRIO on both ports (R352). (PRESUMED, log 30) -/
def State.sendPfc (s : State) (quanta : Nat) : State :=
  let f := TxFrame.pfc (s.fld Reg.HT_PFC Fld.HT_PFC_PRIO) quanta
  (s.sendTc0 0 f).sendTc0 1 f

/-- A frame enters the host-transport receive buffer: at XOFF KiB a PFC pause is sent. Its quanta are the device's own. (PRESUMED, log 30) -/
def State.rxIn (s : State) (p len : Nat) : State :=
  let s1 := { s with host := { s.host with rx := s.host.rx ++ [(p, len)] } }
  if s1.flag Reg.HT_PFC Fld.HT_PFC_EN && !s1.host.xoff && decide (1024 * s1.fld Reg.HT_PFC Fld.HT_PFC_XOFF ≤ s1.rxBytes) then
    let (q, s2) := s1.free
    ({ s2 with host := { s2.host with xoff := true } }).sendPfc (q % 65535 + 1)
  else s1

/-- The host transport takes the oldest frame of its receive buffer: below XON KiB a zero-quanta frame is sent. -/
def State.rxOut (s : State) : State :=
  let s1 := { s with host := { s.host with rx := s.host.rx.drop 1 } }
  if s1.host.xoff && decide (s1.rxBytes < 1024 * s1.fld Reg.HT_PFC Fld.HT_PFC_XON) then
    ({ s1 with host := { s1.host with xoff := false } }).sendPfc 0
  else s1

/-- A frame in transit from port `p`: it waits in the receive buffer of `p` for the opposite port. -/
def State.transit (s : State) (p : Nat) (f : EthFrame) : State :=
  let t := s.classOf (f.tag.map (fun k => k.val))
  let n := frameCells f.len
  let o := otherPort p
  let s1 := s.addCr p t 4 n
  let s2 := if f.good then s1 else s1.satAdd (linkErrA p) Fld.RG_LINK_ERR_FCS 1
  if s2.linkState o = 0 then (s2.satAdd (linkErrA o) Fld.RG_LINK_ERR_DOWN_DROP 1).returnCells p
  else ((s2.addCr p t 6 n).modPort o (fun r => { r with transit := r.transit ++ [⟨t, n, .forward f⟩] })).drain o

/-- FRAME_FORWARD: a frame other than the Adeo frames, which have rows of their own, arrives on port `p`; it is consumed, removed
or forwarded (R381, R382). The host transport's rows carry what a consumed frame holds. -/
def execFrameForward (p : Fin 2) (f : EthFrame) (at_ : Nat) (s : State) : Host.Outcome State Fault Refusal :=
  .next (
    let s0 := s.advanceTo at_
    if !(s0.onRing && !s0.forced.grave && s0.linkState p == 3) then s0
    else
      let t := s0.classOf (f.tag.map (fun k => k.val))
      let n := frameCells f.len
      let bad (s : State) : State := if f.good then s else s.satAdd (linkErrA p) Fld.RG_LINK_ERR_FCS 1
      if 4178 < f.len then (s0.satAdd (linkErrA p) Fld.RG_LINK_ERR_GIANT 1).consumed p t n
      else if f.dst = s0.htMac ∧ f.etype = 0x0800 then
        let s1 := (bad s0).consumed p t n
        if f.good then s1.rxIn p f.len else s1
      else if f.etype = 0x88B5 ∨ f.etype = 0x8808 then bad s0
      else if f.src = s0.htMac then ((bad s0).satAdd (linkErrA p) Fld.RG_LINK_ERR_LOOP 1).consumed p t n
      else s0.transit p f)

/-! ### Slack (R394 to R397) -/

/-- The device enters the slack state (R395). -/
def State.enterSlack (s : State) (reason src : Nat) : State :=
  if s.flag Reg.RG_STATE Fld.RG_STATE_SLACK then s
  else
    let s1 := (s.raise Reg.RG_STATE Fld.RG_STATE_SLACK).raise Reg.RG_STAT Fld.RG_STAT_SLACK_RX
    let s2 := (s1.wr Reg.RG_SLACK (BitVec.ofNat 32 (reason % 256 * 2 ^ 24 + src % 65536))).wr64 Reg.RG_SLACK_T_LO s1.stamp
    let s3 := s2.forcePins (fun f => { f with slack := true }) (2 * usU)
    let launched := (s3.strands.filter (fun e => e.2.launch.isSome)).map (·.1)
    ((s3.each launched (fun s k => s.abortRun k)).raiseAll .slack).abortCals

/-- The device originates slack (R394). -/
def State.originateSlack (s : State) (reason : Nat) : State :=
  (s.originateBoth 3 (leBytes 8 s.stamp ++ leBytes 1 reason)).enterSlack reason s.devAddr

/-- Clear PS_DRV_CTRL.CONN and PM_CTRL.CONN of pins, in force and in shadow (R98, R397). -/
def State.clearConn (s : State) (mine : Nat → Bool) : State :=
  let clear (a : Nat) (v : Word) : Word :=
    match blockOf a with
    | .pin n =>
      if !mine n then v
      else if a = pinA n Reg.PS_DRV_CTRL then Fld.PS_DRV_CTRL_CONN.put v 0
      else if a = pinA n Reg.PM_CTRL then Fld.PM_CTRL_CONN.put v 0
      else v
    | _ => v
  let each (l : Store Word) : Store Word := l.map (fun e => (e.1, clear e.1 e.2))
  let s1 := { s with shadows := each s.shadows, captured := each s.captured }
  s1.each (s.regs.filter (fun e => clear e.1 e.2 != e.2)) (fun s e => s.wr e.1 (clear e.1 e.2))

/-- RG_CMD.SLACK_CLR (R397). -/
def State.clearSlack (s : State) : State :=
  if !allStrands.all (fun k => s.sqState k == 0 || s.sqState k == 5) then s.raise Reg.RG_STAT Fld.RG_STAT_CMD_REJ
  else if !s.flag Reg.RG_STATE Fld.RG_STATE_SLACK then s
  else ((s.setFld Reg.RG_STATE Fld.RG_STATE_SLACK 0).clearConn (fun _ => true)).freePins (fun f => { f with slack := false })

/-- A write of RG_CMD: SLACK, then SLACK_CLR. -/
def State.rgCommand (s : State) (d : Word) : State :=
  let s1 := if Fld.RG_CMD_SLACK.get d = 1 then s.originateSlack 3 else s
  if Fld.RG_CMD_SLACK_CLR.get d = 1 then s1.clearSlack else s1

/-- SLACK: a slack frame arrives (R394, R395). -/
def execSlack (p : Fin 2) (f : Adeo) (at_ : Nat) (s : State) : Host.Outcome State Fault Refusal :=
  .next ((s.advanceTo at_).adeo p 3 f (fun s => s.enterSlack (f.at_ 0x18 1) f.src))

/-! ### The bypass (R402) -/

/-- RELAY_HOLD falls: from then on the ring ports transmit nothing. -/
def State.dropHold (s : State) : State :=
  if s.onRing then (s.setFld Reg.RG_STATE Fld.RG_STATE_HOLD 0).send (.relayHold false) else s

/-- RELAY_HOLD rises. -/
def State.raiseHold (s : State) : State :=
  if s.onRing then s else (s.setFld Reg.RG_STATE Fld.RG_STATE_HOLD 1).send (.relayHold true)

/-- A write of RG_BYPASS. -/
def State.rgBypass (s : State) (d : Word) : State :=
  if Fld.RG_BYPASS_GO.get d = 1 ∧ Fld.RG_BYPASS_CONFIRM.get d = 0xB7A5 then
    ({ s with ring := { s.ring with bypassed := true } }).dropHold
  else s

/-! ### Links (R389, R398, R399) -/

/-- RG_STATE.BREAK follows the breaks known: toward the port on which the first announcement arrived; two announcements that are
not the two ends of one link are a split. (DEDUCED, log 34) -/
def State.showBreak (s : State) : State :=
  match s.ring.breaks with
  | [] => s.setFld Reg.RG_STATE Fld.RG_STATE_BREAK 0
  | (p, src, port) :: t =>
    if t.any (fun e => e.2.2 == port && e.2.1 != src) || 1 < t.length then
      (s.setFld Reg.RG_STATE Fld.RG_STATE_BREAK 3).raise Reg.RG_STAT Fld.RG_STAT_SPLIT
    else s.setFld Reg.RG_STATE Fld.RG_STATE_BREAK (if p = 0 then 1 else 2)

/-- A break becomes known. -/
def State.addBreak (s : State) (p src port : Nat) : State :=
  if s.ring.breaks.any (fun e => e.2.1 == src && e.2.2 == port) then s
  else (({ s with ring := { s.ring with breaks := s.ring.breaks ++ [(p, src, port)] } }).showBreak).failSettle

/-- A break is over. -/
def State.delBreak (s : State) (src port : Nat) : State :=
  if s.ring.breaks.any (fun e => e.2.1 == src && e.2.2 == port) then
    (({ s with ring := { s.ring with breaks := s.ring.breaks.filter (fun e => !(e.2.1 == src && e.2.2 == port)) } }).showBreak).settleIfWhole
  else s

/-- Announce LINK on the port opposite to `p` (R398). -/
def State.announce (s : State) (p up cause : Nat) : State :=
  let (q, s1) := s.nextSeq 8
  s1.originate (otherPort p) 8 q 0 0xFFFF (leBytes 1 p ++ leBytes 1 up ++ leBytes 1 cause)

/-- Frames waiting for port `p` are dropped and counted; those in transit leave the receive buffer of the other port. -/
def State.flushPort (s : State) (p : Nat) : State :=
  let l := (s.port p).transit
  let n := l.length + (s.port p).own.length
  let s1 := (s.modPort p (fun r => { r with transit := [], own := [] })).satAdd (linkErrA p) Fld.RG_LINK_ERR_DOWN_DROP n
  (s1.each l (fun s q => s.addCr (otherPort p) q.cls 6 (-(q.cells : Int)))).returnCells (otherPort p)

/-- Port `p` declares its link down (R398): 1 PCS lock, 2 FEC, 3 heartbeats, 4 bypass. -/
def State.linkDown (s : State) (p cause : Nat) : State :=
  if s.linkState p = 0 then s
  else
    let s1 := (s.setFld (linkA p) Fld.RG_LINK_STATE 0).setFld (linkA p) Fld.RG_LINK_CAUSE cause
    let s2 := (s1.flushPort p).modPort p (fun r => { r with misses := 0, pendSince := none, pdelay := none })
    (((s2.announce p 0 cause).addBreak p s2.devAddr p).fault (srcRing p) 0 cause)

/-- PCS_LOCK_LOSS: PCS lock has been lost for 10 µs, by a bypass of the neighbour or otherwise (R398). -/
def execPcsLockLoss (p : Fin 2) (bypass : Bool) (at_ : Nat) (s : State) : Host.Outcome State Fault Refusal :=
  .next ((s.advanceTo at_).linkDown p (if bypass then 4 else 1))

/-- FEC_UNCORRECTABLE: an uncorrectable codeword takes the link down; LINK_TRAINED initialises it again (R389). -/
def execFecUncorrectable (p : Fin 2) (at_ : Nat) (s : State) : Host.Outcome State Fault Refusal :=
  .next ((s.advanceTo at_).linkDown p 2)

/-- The C_LINK values of a port, as a LINK_INIT body. -/
def initBody : List Byte := leBytes 4 (classCells 1) ++ leBytes 4 (classCells 2) ++ leBytes 4 (classCells 3)

/-- LINK_TRAINED: the link of port `p` has come up after training; once its receive buffer is drained, LINK_INIT is sent (R389
steps 1 to 3). (DEDUCED, log 35) -/
def execLinkTrained (p : Fin 2) (at_ : Nat) (s : State) : Host.Outcome State Fault Refusal :=
  .next (
    if 2 ≤ s.linkState p ∨ !s.onRing ∨ s.forced.grave ∨ s.cr p 1 6 + s.cr p 2 6 + s.cr p 3 6 ≠ 0 then s
    else ((s.advanceTo at_).setFld (linkA p) Fld.RG_LINK_STATE 2).originateLocal p 9 initBody)

/-- The counters of port `p` at an initialisation (R389 step 4). -/
def State.initCredits (s : State) (p : Nat) (f : Adeo) : State :=
  let s1 := s.each [1, 2, 3] (fun s t =>
    let c := BitVec.ofNat 32 (f.at_ (0x10 + 4 * (t - 1)) 4)
    (((((s.wr (crA p t 0) c).wr (crA p t 1) c).wr (crA p t 2) 0).wr (crA p t 3) 0).wr (crA p t 4) 0).wr (crA p t 5) 0)
  (s1.modPort p (fun r => { r with pendSince := none, audit := [] })).satAdd (linkErrA p) Fld.RG_LINK_ERR_REBASE 1

/-- LINK_INIT (R389 steps 4 and 5). (DEDUCED, log 35) -/
def execLinkInit (p : Fin 2) (f : Adeo) (at_ : Nat) (s : State) : Host.Outcome State Fault Refusal :=
  .next ((s.advanceTo at_).adeo p 9 f (fun s =>
    if s.linkState p = 2 then
      let s1 := (s.initCredits p f).setFld (linkA p) Fld.RG_LINK_STATE 3
      ((s1.announce p 1 (s1.fld (linkA p) Fld.RG_LINK_CAUSE)).delBreak s1.devAddr p).settleOwed.drain p
    else if s.cr p 1 6 + s.cr p 2 6 + s.cr p 3 6 = 0 then ((s.initCredits p f).originateLocal p 9 initBody).drain p
    else s))

/-- LINK: an announcement from afar (R399). (DEDUCED, log 34) -/
def execLink (p : Fin 2) (f : Adeo) (at_ : Nat) (s : State) : Host.Outcome State Fault Refusal :=
  .next ((s.advanceTo at_).adeo p 8 f (fun s =>
    if f.at_ 0x11 1 = 0 then s.addBreak p f.src (f.at_ 0x10 1) else s.delBreak f.src (f.at_ 0x10 1)))

/-! ### Credits and the audit (R390, R391) -/

/-- CREDIT. -/
def execCredit (p : Fin 2) (f : Adeo) (at_ : Nat) (s : State) : Host.Outcome State Fault Refusal :=
  .next ((s.advanceTo at_).adeo p 6 f (fun s =>
    if s.linkState p ≠ 3 then s
    else
      let s1 := s.each [1, 2, 3] (fun s t =>
        let v := f.at_ (0x10 + 4 * (t - 1)) 4
        let d := unsigned 32 ((v : Int) - s.cr p t 3)
        (s.addCr p t 1 d).wr (crA p t 3) (BitVec.ofNat 32 v))
      s1.drain p))

/-- CREDIT_TIMEOUT: two microseconds after the first cell became pending (R390). -/
def execCreditTimeout (p : Fin 2) (s : State) : Host.Outcome State Fault Refusal :=
  .next (match (s.port p).pendSince with
    | none => s
    | some t =>
      if s.ring.guard.isSome ∨ s.linkState p ≠ 3 then s
      else (s.advanceTo (t + 2 * usU)).sendCredit p)

/-- The tideline interval of audit instants, 10 ms. -/
def auditStep : Nat := 12000000

/-- AUDIT_GUARD: one microsecond before the next audit instant (R391). -/
def execAuditGuard (s : State) : Host.Outcome State Fault Refusal :=
  .next (
    if s.ring.guard.isSome ∨ !s.tideValid then s
    else
      let t := (s.tideNow / auditStep + 1) * auditStep
      let s1 := s.advanceTo (s.unitsOf t - usU)
      { s1 with ring := { s1.ring with guard := some t } })

/-- Snapshot the sender side of port `p` and send the receiver side's AUDIT frames, when the link is up. -/
def State.auditPort (s : State) (p t : Nat) : State :=
  if s.linkState p ≠ 3 then s
  else
    let snap := [1, 2, 3].map (fun c => (c, (s.cr p c 2, s.cr p c 1, s.cr p c 3)))
    (s.modPort p (fun r => { r with audit := snap })).each [1, 2, 3] (fun s c =>
      s.originateLocal p 2 (leBytes 8 t ++ leBytes 1 c ++ leBytes 3 0 ++ leBytes 4 (s.cr p c 4) ++ leBytes 4 (s.cr p c 5) ++ leBytes 4 (s.cr p c 6)))

/-- An audit instant is complete when no reply is awaited. -/
def State.auditOver (s : State) : State :=
  if s.ring.audited.isSome && s.ring.east.audit.isEmpty && s.ring.west.audit.isEmpty then
    let s1 := { s with ring := { s.ring with audited := none } }
    s1.setFld Reg.RG_AUDIT Fld.RG_AUDIT_DONE (s1.fld Reg.RG_AUDIT Fld.RG_AUDIT_DONE + 1)
  else s

/-- AUDIT_INSTANT: the counters are snapshot, the AUDIT frames leave and the guard ends (R391). -/
def execAuditInstant (s : State) : Host.Outcome State Fault Refusal :=
  .next (match s.ring.guard with
    | none => s
    | some t =>
      let s1 := s.advanceTo (s.unitsOf t)
      let s2 := { s1 with ring := { s1.ring with audited := some s1.now } }
      let s3 := (s2.auditPort 0 t).auditPort 1 t
      let s4 := { s3 with ring := { s3.ring with guard := none } }
      ((((s4.returnCells 0).returnCells 1).drain 0).drain 1).auditOver)

/-- AUDIT: the sender checks the identity of R223. -/
def execAudit (p : Fin 2) (f : Adeo) (at_ : Nat) (s : State) : Host.Outcome State Fault Refusal :=
  .next ((s.advanceTo at_).adeo p 2 f (fun s =>
    let c := f.at_ 0x18 1
    match Store.get? (s.port p).audit c with
    | none => s
    | some (sent, avail, ret) =>
      if s.ring.audited.map s.tideOf ≠ some (f.at_ 0x10 8) then s
      else
        let flight := ((sent : Int) - (f.at_ 0x1C 4 : Nat)) + ((f.at_ 0x20 4 : Nat) - (ret : Int))
        let d := signed 32 (unsigned 32 ((s.cr p c 0 : Int) - (avail + flight + (f.at_ 0x24 4 : Nat))))
        let s1 := s.modPort p (fun r => { r with audit := Store.del r.audit c })
        let s2 := if d = 0 then s1
          else (s1.satAdd Reg.RG_AUDIT Fld.RG_AUDIT_FAIL 1).imbalance 4 (256 * p + c) 0 d (srcRing p) 1
        s2.auditOver))

/-- AUDIT_TIMEOUT: 100 µs after the instant, checks without a reply are left out (R391). -/
def execAuditTimeout (s : State) : Host.Outcome State Fault Refusal :=
  .next (match s.ring.audited with
    | none => s
    | some t =>
      let n := s.ring.east.audit.length + s.ring.west.audit.length
      let s1 := (s.advanceTo (t + 100 * usU)).satAdd Reg.RG_AUDIT Fld.RG_AUDIT_SKIPPED n
      ((s1.modPort 0 (fun r => { r with audit := [] })).modPort 1 (fun r => { r with audit := [] })).auditOver)

/-! ### Heartbeats (R392, R393) -/

/-- The neighbour heartbeat period and the misses before a link is down, as applied. -/
def State.hbPeriod (s : State) : Nat := max 10 (s.fld Reg.RG_HB Fld.RG_HB_PERIOD) * usU
def State.hbMiss (s : State) : Nat := max 1 (s.fld Reg.RG_HB Fld.RG_HB_MISS)

/-- The highest class of an open fault record, 0xFF when there is none. -/
def State.maxClass (s : State) : Nat :=
  match s.faults.recs with
  | [] => 0xFF
  | l => (l.map (fun e => e.2.cls)).foldl max 0

/-- The body of an HB_REPLY (R385): T_SEND echoed, T_RX, a byte of DEV_STATE the spec does not single out, the flags, MAX_CLASS. (DEDUCED, log 33) -/
def State.hbBody (s : State) (tSend dev : Nat) : List Byte :=
  let helm := s.flag Reg.FC_HELM_STATE Fld.FC_HELM_STATE_HOLDER
  let ok := s.flag Reg.FC_HELM_STATE Fld.FC_HELM_STATE_BEACON_RUN && !helm
  leBytes 8 tSend ++ leBytes 8 s.stamp ++ leBytes 1 (dev % 256) ++
    leBytes 1 (bitN ok + 2 * bitN helm + 4 * bitN s.activeTest + 8 * bitN (s.flag Reg.RG_STATE Fld.RG_STATE_SLACK)) ++ leBytes 1 s.maxClass

/-- HEARTBEAT: answered with an HB_REPLY to its SRC, by the port it came in on. -/
def execHeartbeat (p : Fin 2) (f : Adeo) (at_ : Nat) (s : State) : Host.Outcome State Fault Refusal :=
  .next ((s.advanceTo at_).adeo p 4 f (fun s =>
    let (dev, s1) := s.free
    let (q, s2) := s1.nextSeq 5
    s2.originate p 5 q (f.flags % 2) f.src (s2.hbBody (f.at_ 0x10 8) dev)))

/-- HB_REPLY: the neighbour on port `p` is there. -/
def execHbReply (p : Fin 2) (f : Adeo) (at_ : Nat) (s : State) : Host.Outcome State Fault Refusal :=
  .next ((s.advanceTo at_).adeo p 5 f (fun s => s.modPort p (fun r => { r with misses := 0 })))

/-- HEARTBEAT_SEND: every period, on each port whose link is up. -/
def execHeartbeatSend (s : State) : Host.Outcome State Fault Refusal :=
  .next (
    let s0 := s.advanceTo (max s.ring.east.hbAt s.ring.west.hbAt + s.hbPeriod)
    s0.each [0, 1] (fun s p =>
      if s.linkState p == 3 && s.onRing then
        (s.originateLocal p 4 (leBytes 8 s.stamp)).modPort p (fun r => { r with misses := r.misses + 1, hbAt := s.now })
      else s.modPort p (fun r => { r with hbAt := s.now })))

/-- HB_MISS: MISS heartbeats in a row have gone unanswered when the next is due (R393). (DEDUCED, log 35) -/
def execHbMiss (p : Fin 2) (s : State) : Host.Outcome State Fault Refusal :=
  .next (
    if s.hbMiss ≤ (s.port p).misses ∧ s.linkState p = 3 then (s.advanceTo ((s.port p).hbAt + s.hbPeriod)).linkDown p 3 else s)

/-! ### The active-test map (R400; spec/07_pattern_memory.md R204) -/

/-- RG_ACTIVE and MC_RING_ACTIVE follow the map. -/
def State.showActive (s : State) : State :=
  let m := (s.ring.active.map (fun e => 2 ^ e.1)).foldl (· + ·) 0
  (s.wr64 Reg.RG_ACTIVE_LO m).setRingActive

/-- Enter or remove a position. -/
def State.setActive (s : State) (pos : Nat) (on : Bool) : State :=
  ({ s with ring := { s.ring with active := if on then Store.put s.ring.active pos s.now else Store.del s.ring.active pos } }).showActive

/-- Send ACTIVE on both ports, and enter the device itself. -/
def State.sendActive (s : State) : State :=
  let on := s.activeTest
  let s1 := { s with ring := { s.ring with activeOut := on, activeAt := s.now } }
  (s1.originateBoth 7 (leBytes 1 (bitN on))).setActive (s1.fld Reg.RG_ADDR Fld.RG_ADDR_POS) on

/-- ACTIVE_TEST_CHANGE: the device's active-test state has changed. -/
def execActiveTestChange (s : State) : Host.Outcome State Fault Refusal :=
  .next (if s.activeTest == s.ring.activeOut then s else s.sendActive)

/-- ACTIVE_REPEAT: every millisecond. -/
def execActiveRepeat (s : State) : Host.Outcome State Fault Refusal :=
  .next ((s.advanceTo (s.ring.activeAt + 1000 * usU)).sendActive)

/-- ACTIVE. (DEDUCED, log 33) -/
def execActive (p : Fin 2) (f : Adeo) (at_ : Nat) (s : State) : Host.Outcome State Fault Refusal :=
  .next ((s.advanceTo at_).adeo p 7 f (fun s => s.setActive (f.src % 64) (f.at_ 0x10 1 == 1)))

/-- ACTIVE_EXPIRY: the entry refreshed longest ago expires after 3 ms. -/
def execActiveExpiry (s : State) : Host.Outcome State Fault Refusal :=
  .next (match s.ring.active with
    | [] => s
    | e :: t =>
      let old := t.foldl (fun (a : Nat × Nat) b => if b.2 < a.2 then b else a) e
      (s.advanceTo (old.2 + 3000 * usU)).setActive old.1 false)

/-- A write of RG_ADDR: accepted only while no strand is in active test. -/
def State.rgAddr (s : State) (v : Word) : State :=
  if s.activeTest then s.raise Reg.RG_STAT Fld.RG_STAT_CMD_REJ else s.wr Reg.RG_ADDR v

end Sys2Proof.Machine
end

