-- ==== Sys2Proof/Machine/Tide.lean ====
section
/-! DEFINITION. Tideline (spec/16_tideline.md R403 to R419): tide marks, link delays, the external source, offsets, ageing, the
commands of TL_CMD, settlement; and the scheduled strobe (spec/02_register_conventions.md R51 to R53). -/

namespace Sys2Proof.Machine

/-! ### Fine stamps (R404) -/

/-- The stamp of an instant at `t` units (1/512 engine period), with the half unit that the 1/1,024 period of a stamp adds. -/
def State.fine (s : State) (t : Nat) (half : Bool) : Int := 1024 * s.tideOff + 2 * t + bitN half

/-- A stamp as a fine stamp of 64 bits. -/
def fineBytes (x : Int) : List Byte := leBytes 8 (unsigned 64 x)

/-- The difference of two fine stamps: the nearest value (R404). -/
def fineDiff (a b : Int) : Int := signed 64 (unsigned 64 (a - b))

/-! ### Following an offset (R410) -/

/-- 100 ns in stamp units. -/
def ns100 : Int := 122880

/-- The step threshold as applied. -/
def State.stepThr (s : State) : Int := ns100 * (max 1 (s.fld Reg.TL_CTRL Fld.TL_CTRL_STEP_THR) : Nat)

/-- The servo slews the frequency: its term is the servo's own. (DESIGN CHOICE, log 36) -/
def State.slew (s : State) : State :=
  let (f, s1) := s.free
  s1.wr Reg.TL_FREQ (BitVec.ofNat 32 f)

/-- Tideline steps by an offset, in whole engine periods. (DESIGN CHOICE, log 36) -/
def State.stepTide (s : State) (theta : Int) : State :=
  let s1 := { s with tideOff := s.tideOff - roundDiv theta 1024, tide := { s.tide with
    firstDone := true, timeSet := true, everValid := true, within := some s.now } }
  (s1.raise Reg.TL_STAT Fld.TL_STAT_STEPPED).fault srcTide 1 0

/-- Follow an offset θ after TL_ASYM (R410). -/
def State.followOffset (s : State) (theta : Int) : State :=
  let s1 := s.wr Reg.TL_OFFSET (BitVec.ofNat 32 (unsigned 32 (clipSigned 32 theta)))
  let large := decide (s1.stepThr < theta) || decide (theta < -s1.stepThr)
  let back := s1.tide.everValid && decide (theta > 1200000000 * 1024)
  if s1.tlState = 1 && large && !s1.tide.firstDone && !s1.scheduleHeld && !back then s1.stepTide theta
  else
    let near := decide (theta ≤ ns100) && decide (-ns100 ≤ theta)
    let s2 := { s1 with tide := { s1.tide with
      firstDone := s1.tide.firstDone || large,
      within := if near then (if s1.tide.within.isNone then some s1.now else s1.tide.within) else none } }
    s2.slew

/-- TL_ASYM and TL_PDp. -/
def State.tlAsym (s : State) : Int := signed 32 (s.rd Reg.TL_ASYM).toNat
def State.tlPd (s : State) (p : Nat) : Int := ((s.rd (Reg.TL_PD0 + 4 * p)).toNat : Nat)

/-! ### Tide marks (R411 to R414) -/

/-- Whether a mark of `src` is followed, and the masters seen (R411). A device that is master itself counts as one. -/
def State.takeMaster (s : State) (src : Nat) : Bool × State :=
  let dup (s : State) : State := (s.raise Reg.TL_STAT Fld.TL_STAT_MASTER_DUP).fault srcTide 2 0
  let own := s.flag Reg.TL_CTRL Fld.TL_CTRL_MASTER
  let s1 := if own then dup s else s
  if own ∧ s.devAddr < src then (false, s1)
  else match s1.tide.master with
    | none => (true, { s1 with tide := { s1.tide with master := some src } })
    | some m =>
      if m = src then (true, s1)
      else if src < m then (true, { (dup s1) with tide := { (dup s1).tide with master := some src } })
      else (false, dup s1)

/-- Which mark gives the offset followed: the eastbound ones, or the westbound ones when those are lost (R414). -/
def State.markOffset (s : State) (p : Nat) (theta : Int) : Option Int :=
  if p = 1 then some (theta - s.tlAsym)
  else if s.tide.thetaE.isNone || decide (s.tide.lastE + 250000 * usU ≤ s.now) then some (theta + s.tlAsym)
  else none

/-- A MARK is processed on port `p`: eastbound marks arrive at the West port. -/
def State.mark (s : State) (p : Nat) (f : Adeo) (rx : Int) : State :=
  let (mine, s1) := s.takeMaster f.src
  if !mine then s1
  else
    let theta := fineDiff rx ((f.at_ 0x18 8 : Nat) + signed 64 (f.at_ 0x28 8) + s1.tlPd p)
    let settle := bitOf (f.at_ 0x11 1) 0
    let t0 := s1.tide
    let t1 := if p = 1 then { t0 with thetaE := some theta, lastE := s1.now, settleE := if settle then t0.settleE ++ [theta] else t0.settleE }
      else { t0 with thetaW := some theta, settleW := if settle then t0.settleW ++ [theta] else t0.settleW }
    let offset := s1.markOffset p theta
    let s2 := ({ s1 with tide := { t1 with ring := true, lastMark := s1.now } }).chooseSource
    if s2.tlSource = 1 then
      match offset with
      | some x => s2.followOffset x
      | none => s2
    else s2

/-- TIDE_MARK: a MARK arrives at `at_`, stamped with `half`, and leaves again `stay` units of 1/1,024 period later; CORR grows by the
receiving port's TL_PD and by the residence time (R413). -/
def execTideMark (p : Fin 2) (f : Adeo) (at_ : Nat) (half : Bool) (stay : Nat) (s : State) : Host.Outcome State Fault Refusal :=
  .next (
    let s0 := s.advanceTo at_
    let corr := signed 64 (f.at_ 0x28 8) + s0.tlPd p + stay
    let out : Adeo := { f with body := f.body.take 0x18 ++ fineBytes corr }
    s0.adeoWith p 1 f true
      (fun s => if f.at_ 0x10 1 = 0 then s.mark p f (s.fine at_ half) else s)
      (fun s => s.relay p 1 (if f.at_ 0x10 1 = 0 then out else f)))

/-- The body of a tide frame. -/
def tideBody (kind flags reqSeq : Nat) (a b : List Byte) : List Byte :=
  leBytes 1 kind ++ leBytes 1 flags ++ leBytes 2 0 ++ leBytes 4 reqSeq ++ a ++ b ++ leBytes 8 0

/-- TIDE_MARK_SEND: a master with valid time originates MARK on both ports every 15.625 ms; `e` and `w` are the delays of the egress
instants in stamp units (R412, R414). The TRACE flag is the master's own. (DESIGN CHOICE, log 36) -/
def execTideMarkSend (e w : Nat) (s : State) : Host.Outcome State Fault Refusal :=
  .next (
    if !s.flag Reg.TL_CTRL Fld.TL_CTRL_MASTER ∨ !s.tideValid then s
    else
      let s0 := s.advanceTo (s.tide.sentAt + 15625 * usU)
      let on := match s0.tide.settling with | some t => decide (s0.now < t) | none => false
      let (tr, s1) := ({ s0 with tide := { s0.tide with sentAt := s0.now, settling := if on then s0.tide.settling else none } }).free
      let (q, s2) := s1.nextSeq 1
      let flags := bitN on + 2 * (tr % 2) + 4 * bitN (s2.tlSource == 2)
      let body (d : Nat) := tideBody 0 flags 0 (fineBytes (s2.fine s2.now false + d)) (leBytes 8 0)
      (s2.originate 0 1 q 0 0xFFFF (body e)).originate 1 1 q 0 0xFFFF (body w))

/-! ### Link delays (R413) -/

/-- PDELAY_REQ_SEND: every millisecond on a port whose link is up; `out` is the delay of the egress instant in stamp units. -/
def execPdelayReqSend (p : Fin 2) (out : Nat) (s : State) : Host.Outcome State Fault Refusal :=
  .next (
    let s0 := s.advanceTo ((s.port p).pdAt + 1000 * usU)
    let s1 := s0.modPort p (fun r => { r with pdAt := s0.now })
    if s1.linkState p ≠ 3 ∨ !s1.onRing then s1
    else
      let q := Store.getD s1.ring.seqs 1 0
      let s2 := s1.modPort p (fun r => { r with pdelay := some (q, s1.fine s1.now false + out) })
      s2.originateLocal p 1 (tideBody 1 0 0 (leBytes 8 0) (leBytes 8 0)))

/-- PDELAY_REQ: answered with its receipt and the egress instant of the answer, `stay` later. -/
def execPdelayReq (p : Fin 2) (f : Adeo) (at_ : Nat) (half : Bool) (stay : Nat) (s : State) : Host.Outcome State Fault Refusal :=
  .next ((s.advanceTo at_).adeo p 1 f (fun s =>
    if f.at_ 0x10 1 = 1 then
      s.originateLocal p 1 (tideBody 2 0 f.seq (fineBytes (s.fine at_ half)) (fineBytes (s.fine at_ half + stay)))
    else s))

/-- PDELAY_RESP: the mean link delay, averaged over the last 16 exchanges. (DESIGN CHOICE, log 36) -/
def execPdelayResp (p : Fin 2) (f : Adeo) (at_ : Nat) (half : Bool) (s : State) : Host.Outcome State Fault Refusal :=
  .next ((s.advanceTo at_).adeo p 1 f (fun s =>
    match (s.port p).pdelay with
    | some (q, t1) =>
      if f.at_ 0x10 1 ≠ 2 ∨ f.at_ 0x14 4 ≠ q then s
      else
        let d := fineDiff (s.fine at_ half) t1 - fineDiff (f.at_ 0x20 8 : Nat) (f.at_ 0x18 8 : Nat)
        let l := (d :: (s.port p).delays).take 16
        let mean := openDiv (l.foldl (· + ·) 0) (2 * l.length)
        (s.modPort p (fun r => { r with pdelay := none, delays := l })).wr (Reg.TL_PD0 + 4 * p) (BitVec.ofNat 32 (unsigned 32 mean))
    | none => s))

/-! ### The external source (R408) -/

/-- A whole second in stamp units. -/
def secStamp : Nat := 1200000000 * 1024

/-- PPS_EDGE: delayed by TL_PPS_DLY it marks a whole second; the ring supplies the number of that second. -/
def execPpsEdge (at_ : Nat) (half : Bool) (s : State) : Host.Outcome State Fault Refusal :=
  .next (
    let s0 := s.advanceTo at_
    let s1 := ({ s0 with tide := { s0.tide with pps := true, lastPps := s0.now } }).chooseSource
    if s1.tlSource ≠ 2 then s1
    else
      let rx := s1.fine at_ half + signed 32 (s1.rd Reg.TL_PPS_DLY).toNat
      let ring : Int := if !s1.tide.ring then 0 else match s1.tide.thetaE with
        | some e => e - s1.tlAsym
        | none => match s1.tide.thetaW with
          | some w => w + s1.tlAsym
          | none => 0
      let second := (2 * (rx - ring) + secStamp) / (2 * secStamp) * secStamp
      s1.followOffset (rx - second))

/-- SOURCE_APPEAR: REF_IN (0), PPS_IN (1) or tide marks (2) appear. -/
def execSourceAppear (w : Fin 3) (at_ : Nat) (s : State) : Host.Outcome State Fault Refusal :=
  .next (
    let s0 := s.advanceTo at_
    let t := s0.tide
    ({ s0 with tide := match w.val with
      | 0 => { t with ref := true }
      | 1 => { t with pps := true, lastPps := s0.now }
      | _ => { t with ring := true, lastMark := s0.now } }).chooseSource)

/-- SOURCE_LOSS: REF_IN shows no edge for 1 µs, PPS_IN none for 1.000 01 s, or no tide mark arrives for 250 ms. -/
def execSourceLoss (w : Fin 3) (at_ : Nat) (s : State) : Host.Outcome State Fault Refusal :=
  .next (
    let t := s.tide
    let lost (s : State) (f : Field) (t : Tide) : State :=
      (({ s with tide := t }.raise Reg.TL_STAT f).fault srcTide 0 0).chooseSource
    match w.val with
    | 0 => if t.ref then lost (s.advanceTo at_) Fld.TL_STAT_REF_LOSS { t with ref := false } else s
    | 1 => if t.pps then lost (s.advanceTo (max at_ (t.lastPps + 1000010 * usU))) Fld.TL_STAT_PPS_MISS { t with pps := false } else s
    | _ => if t.ring then lost (s.advanceTo (max at_ (t.lastMark + 250000 * usU))) Fld.TL_STAT_MARK_LOSS
        { t with ring := false, master := none, thetaE := none, thetaW := none } else s)

/-- LOCK_ACHIEVED: the offset has stayed within 100 ns for a second. -/
def execLockAchieved (s : State) : Host.Outcome State Fault Refusal :=
  .next (match s.tide.within with
    | some t =>
      if s.tlState ≠ 1 then s
      else
        let s1 := (s.advanceTo (t + 1000000 * usU)).setFld Reg.TL_STATE Fld.TL_STATE_STATE 2
        ({ s1 with tide := { s1.tide with timeSet := true, everValid := true } }).raise Reg.TL_STAT Fld.TL_STAT_LOCKED
    | none => s)

/-! ### Ageing (R406; spec/21_life_store.md R499) -/

/-- Restart the ageing accumulation from a value. -/
def State.ageFrom (s : State) (base : Int) : State :=
  ({ s with tide := { s.tide with ageBase := base, ageDay := (s.rd Reg.LS_CAL_DAY).toNat } }).wr Reg.TL_AGE_ACC
    (BitVec.ofNat 32 (unsigned 32 base))

/-- A write of TL_AGE_TRIM or TL_AGE_RATE has put a value in the register at `a`. -/
def State.ageWrite (s : State) (a : Nat) (v : Word) : State :=
  let s1 := s.wr a v
  s1.ageFrom (signed 32 (s1.rd Reg.TL_AGE_TRIM).toNat)

/-- AGEING_UPDATE: every second; the total correction, with the servo term and the factory's temperature compensation, is clipped
to 50 ppm. (DESIGN CHOICE, log 36) -/
def execAgeingUpdate (s : State) : Host.Outcome State Fault Refusal :=
  .next (
    let s0 := s.advanceTo (s.tide.ageAt + 1000000 * usU)
    let days : Int := ((s0.rd Reg.LS_CAL_DAY).toNat : Nat) - (s0.tide.ageDay : Int)
    let a := s0.tide.ageBase + openDiv (signed 32 (s0.rd Reg.TL_AGE_RATE).toNat * days) 100
    let (c, s1) := ({ s0 with tide := { s0.tide with ageAt := s0.now } }).free
    let total := a + signed 32 (s1.rd Reg.TL_FREQ).toNat + signed 32 c
    (s1.wr Reg.TL_AGE_ACC (BitVec.ofNat 32 (unsigned 32 (clipSigned 32 a)))).raiseIf
      (decide (total < -5000000) || decide (5000000 < total)) Reg.TL_STAT Fld.TL_STAT_CLIP)

/-! ### TL_CMD (R410, R414) -/

/-- TL_CMD.SET. -/
def State.tlSet (s : State) : State :=
  if s.tlSource ≠ 0 ∨ s.scheduleHeld then s.raise Reg.TL_STAT Fld.TL_STAT_SET_REJ
  else
    let t : Int := ((s.rd64 Reg.TL_SET_LO : Nat) : Int) - ((s.now / cycU : Nat) : Int)
    ({ s with tideOff := t, tide := { s.tide with everValid := true } }).setTl 4 0

/-- TL_CMD.SETTLE. -/
def State.tlSettle (s : State) : State :=
  if !s.flag Reg.TL_CTRL Fld.TL_CTRL_MASTER then s
  else if s.ringWhole then s.startSettle else s.startSettle.failSettle

/-- A write of TL_CMD. -/
def State.tlCommand (s : State) (d : Word) : State :=
  let s1 := if Fld.TL_CMD_SET.get d = 1 then s.tlSet else s
  if Fld.TL_CMD_SETTLE.get d = 1 then s1.tlSettle else s1

/-- SETTLE_DONE: sixty-four SETTLE marks of each direction have arrived (R414). -/
def execSettleDone (s : State) : Host.Outcome State Fault Refusal :=
  .next (
    if s.tide.settleE.length < 64 ∨ s.tide.settleW.length < 64 then s
    else
      let sum (l : List Int) : Int := (l.take 64).foldl (· + ·) 0
      let v := openDiv (sum s.tide.settleE - sum s.tide.settleW) 128
      (({ s with tide := { s.tide with settleE := [], settleW := [] } }).wr Reg.TL_ASYM (BitVec.ofNat 32 (unsigned 32 v))).raise
        Reg.TL_STATE Fld.TL_STATE_SETTLED)

/-! ### The scheduled strobe (spec/02 R51 to R53; R418, R419) -/

/-- A write of DEV_UPD_CTRL with the value `v`: while armed only ARM = 0 acts. -/
def State.updCtrl (s : State) (v : Word) : State :=
  let armed := s.flag Reg.DEV_UPD_CTRL Fld.DEV_UPD_CTRL_ARM
  let arm := Fld.DEV_UPD_CTRL_ARM.get v = 1
  if armed then
    if arm then s else { s with bound := none }.setFld Reg.DEV_UPD_CTRL Fld.DEV_UPD_CTRL_ARM 0
  else
    let s1 := s.setFld Reg.DEV_UPD_CTRL Fld.DEV_UPD_CTRL_SRC (Fld.DEV_UPD_CTRL_SRC.get v)
    if !arm then s1
    else if Fld.DEV_UPD_CTRL_SRC.get v = 0 ∧ (!s1.tideValid ∨ s1.rd64 Reg.TL_UPD_AT_LO < s1.tideNow + 2400) then
      s1.raise Reg.DEV_UPD_STAT Fld.DEV_UPD_STAT_LATE
    else s1.setFld Reg.DEV_UPD_CTRL Fld.DEV_UPD_CTRL_ARM 1

/-- SCHEDULED_STROBE: the armed strobe fires at the edge at count TL_UPD_AT, or at the instant of the run it is bound to. -/
def execScheduledStrobe (s : State) : Host.Outcome State Fault Refusal :=
  .next (
    if !s.flag Reg.DEV_UPD_CTRL Fld.DEV_UPD_CTRL_ARM then s
    else if s.flag Reg.DEV_UPD_CTRL Fld.DEV_UPD_CTRL_SRC then
      match s.bound with
      | some (_, _, t) => (s.advanceTo (s.unitsOf t)).fireArmed
      | none => s
    else (s.advanceTo (s.unitsOf (s.rd64 Reg.TL_UPD_AT_LO))).fireArmed)

end Sys2Proof.Machine
end

