-- ==== Sys2Proof/Machine/Coves.lean ====
section
/-! DEFINITION. Coves waking and sleeping (spec/17_clocks_power_startup.md R421 to R426; spec/01_architecture.md R24). -/

namespace Sys2Proof.Machine

/-- CV_STATE.STATE of cove `c`: 0 asleep, 1 locking, 2 settling, 3 awake, 4 waiting for admission. -/
def State.cvState (s : State) (c : Nat) : Nat := s.fld (coveA c Reg.CV_STATE) Fld.CV_STATE_STATE

/-- The pins and the strands of a cove. -/
def pinsOfCove (c : Nat) : List Nat := (List.range 96).map (fun i => 96 * c + i)
def strandsOfCove (c : Nat) : List Nat := (List.range 12).map (fun i => 12 * c + i)

/-- DEV_STATE.AWAKE and POWER follow the coves, outside deep standby and once the device is ready (R426). -/
def State.showPower (s : State) : State :=
  let awake := (List.range 16).filter (fun c => s.cvState c == 3)
  let s1 := s.setFld Reg.DEV_STATE Fld.DEV_STATE_AWAKE ((awake.map (fun c => 2 ^ c)).foldl (· + ·) 0)
  if s1.fld Reg.DEV_STATE Fld.DEV_STATE_POWER = 2 ∨ s1.fld Reg.DEV_STATE Fld.DEV_STATE_STATE ≠ 1 then s1
  else s1.setFld Reg.DEV_STATE Fld.DEV_STATE_POWER (if awake.isEmpty then 1 else 0)

/-- Pin `n` of a cove that has gone to sleep (R425): Fast and Balanced comparators off, Watch thresholds into their hold stages, the
PMU off unless the pin is SAFE or HIGH-Z, the converter and the TDC stopped. -/
def State.sleepPin (s : State) (n : Nat) : State :=
  let s1 := if s.fld (pinA n Reg.PS_CMP_CFG) Fld.PS_CMP_CFG_MODE < 2 then s.startComparator n
    else (s.holdThresholds n).undetermine n
  let s2 := if Store.get? s1.pmus n == none || s1.ball n == .safe || s1.ball n == .highZ then s1 else s1.pmuOff n
  (s2.stopConv n).tdSleep n

/-- Cove `c` sleeps, its strands being stopped (R425). -/
def State.coveDown (s : State) (c : Nat) : State :=
  let s1 := s.setFld (coveA c Reg.CV_STATE) Fld.CV_STATE_STATE 0
  let s2 := { s1 with power := { s1.power with plls := Store.del s1.power.plls c } }
  ((s2.each (pinsOfCove c) State.sleepPin).each (strandsOfCove c) State.aqStop).showPower

/-- Strobes of issued steps that were not evaluated are lost at strand `k` (R424): counted, no fails; its pins have no events left. -/
def State.loseStrobes (s : State) (k : Nat) : State :=
  let lost := ((s.strand k).recs.map (fun r => r.pend)).foldl (· + ·) 0
  let s1 := (s.noteLoss k 0 lost).modStrand k (fun t => { t with recs := t.recs.map (fun (r : StepRec) => { r with pend := 0 }) })
  let s2 := s1.pruneRecs k
  s2.each (pinsOf k) (fun s n =>
    if (s.pin n).load = 0 ∧ (s.pin n).windows.isEmpty then s
    else s.modPin n (fun p => { p with drives := [], strobes := [], windows := [], cond := (p.parkTo.map Prod.snd).getD p.cond, parkTo := none }))

/-- Strand `k` halts at once, its clock stopping. -/
def State.clockStops (s : State) (k : Nat) (c : Cause) : State := (s.haltNow k c).loseStrobes k

/-- The cove is free to sleep (R425): outside the wake set of the placement in force and of one being applied, not kept awake by
R276, its strands IDLE or HALTED, no calibration run, and no test of one of its engines. -/
def State.maySleep (s : State) (c : Nat) : Bool :=
  let inWake (p : Option Placement) : Bool := match p with | some p => bitOf p.wake c | none => false
  let applying := match s.place.making with
    | some m => m.applying.isSome && inWake m.table
    | none => false
  let tested := match s.power.test with | some t => t.kind == 2 && t.num / 13 == c | none => false
  s.cvState c == 3 && !tested && !inWake s.place.table && !applying && !s.place.stay.contains c &&
    (strandsOfCove c).all (fun k => s.sqState k == 0 || s.sqState k == 5) && (Store.get? s.calRuns c).isNone

/-- COVE_SLEEP. -/
def execCoveSleep (c : Fin 16) (s : State) : Host.Outcome State Fault Refusal :=
  .next (if s.maySleep c then s.coveDown c else s)

/-- COVE_WAKE_ADMIT: the pending wake of the lowest cove is admitted, 50 µs after the previous PLL start at the earliest (R24). (DEDUCED, log 37) -/
def execCoveWakeAdmit (s : State) : Host.Outcome State Fault Refusal :=
  .next (match (List.range 16).find? (fun c => s.cvState c == 4) with
    | none => s
    | some c =>
      let s1 := match s.power.lastPll with
        | some t => s.advanceTo (t + 50 * usU)
        | none => s
      let s2 := { s1 with power := { s1.power with lastPll := some s1.now, plls := Store.put s1.power.plls c s1.now } }
      s2.setFld (coveA c Reg.CV_STATE) Fld.CV_STATE_STATE 1)

/-- The start of the PLL of cove `c`. -/
def State.pllAt (s : State) (c : Nat) : Nat := Store.getD s.power.plls c s.now

/-- COVE_PLL_LOCKED: within 40 µs of the PLL start the engine clock reaches the strands (R423). -/
def execCovePllLocked (c : Fin 16) (at_ : Nat) (s : State) : Host.Outcome State Fault Refusal :=
  .next (if s.cvState c = 1 then (s.advanceTo at_).setFld (coveA c Reg.CV_STATE) Fld.CV_STATE_STATE 2 else s)

/-- LOCK_FAIL: not locked 100 µs after its start (R424). -/
def execLockFail (c : Fin 16) (s : State) : Host.Outcome State Fault Refusal :=
  .next (if s.cvState c = 1 then
    let s1 := (s.advanceTo (s.pllAt c + 100 * usU)).setFld (coveA c Reg.CV_STATE) Fld.CV_STATE_STATE 0
    let s2 := { s1 with power := { s1.power with plls := Store.del s1.power.plls c } }
    ((s2.raise (coveA c Reg.CV_STAT) Fld.CV_STAT_LOCK_FAIL).fault (srcCove c) 0 c).showPower
  else s)

/-- Pin `n` of a cove that has woken (R80, R83, R296, R299): its comparator starts or decides afresh, its converter restarts, its
PMU runs the connect it needs. -/
def State.wakePin (s : State) (n : Nat) : State :=
  let s1 := if s.fld (pinA n Reg.PS_CMP_CFG) Fld.PS_CMP_CFG_MODE < 2 then s.startComparator n else s.undetermine n
  let s2 := if s1.flag (pinA n Reg.AD_CFG) Fld.AD_CFG_EN then s1.restartConv n else s1
  if s2.pmConn n then s2.pmuTake n else s2

/-- COVE_SETTLED: 200 µs after the PLL start the cove is AWAKE (R423). -/
def execCoveSettled (c : Fin 16) (s : State) : Host.Outcome State Fault Refusal :=
  .next (if s.cvState c = 2 then
    let s1 := (s.advanceTo (s.pllAt c + 200 * usU)).setFld (coveA c Reg.CV_STATE) Fld.CV_STATE_STATE 3
    (s1.showPower).each (pinsOfCove c) State.wakePin
  else s)

/-- LOCK_LOST: an awake cove's PLL loses lock (R424). -/
def execLockLost (c : Fin 16) (at_ : Nat) (s : State) : Host.Outcome State Fault Refusal :=
  .next (if s.cvState c = 3 then
    let s1 := (s.advanceTo at_).each (strandsOfCove c) (fun s k => s.clockStops k .clockLoss)
    let s2 := (s1.abortCal c).coveDown c
    (s2.raise (coveA c Reg.CV_STAT) Fld.CV_STAT_LOCK_LOST).fault (srcCove c) 1 c
  else s)

/-- A write of CV_CMD (R423). -/
def State.cvCommand (s : State) (c : Nat) (d : Word) : State := if Fld.CV_CMD_WAKE.get d = 1 then s.requestWake c 3 else s

/-- EBB_TRIM: every second, while tideline is valid, the ebb clock is measured and trimmed (R421). -/
def execEbbTrim (s : State) : Host.Outcome State Fault Refusal :=
  .next (if s.tideValid then
    let s1 := s.advanceTo (s.power.trimAt + 1000000 * usU)
    { s1 with power := { s1.power with trimAt := s1.now } }
  else s)

end Sys2Proof.Machine
end

