-- ==== Sys2Proof/Machine/Pins.lean ====
section
/-! DEFINITION. Pin events, limits and the breakwater (spec/03_pin_slice.md R73, R81, R87 to R98; spec/11_source_measure.md R290). -/

namespace Sys2Proof.Machine

/-! ### Limits -/

/-- PS_LIM of pin `n` has been written: the driver levels in force are re-clipped at once (R73). -/
def State.psLimWrite (s : State) (n : Nat) (v : Word) : State := (s.wr (pinA n Reg.PS_LIM) v).reclip n

/-- PM_LIM_V or PM_LIM_I (offset `off`) of pin `n` has been written: the force code, the clamps and the range in force are re-clipped
at once (R290). -/
def State.pmLimWrite (s : State) (n off : Nat) (v : Word) : State :=
  let s1 := s.wr (pinA n off) v
  let s2 := ((s1.noteRange n).noteForceClip n).noteClamps n
  let s3 := if s2.clipForce n (s2.forceCode n) != s.clipForce n (s.forceCode n) then s2.disturb n else s2
  if s3.pmRange n != s.pmRange n && !s3.underCal n then s3.pmuTake n else s3

/-! ### Comparator events (R88) -/

/-- A write of PS_EVT of pin `n`: it arms, or disarms. -/
def State.evtWrite (s : State) (n : Nat) (v : Word) : State :=
  let a := pinA n Reg.PS_EVT
  let s1 := ((s.setFld a Fld.PS_EVT_RING_EN (Fld.PS_EVT_RING_EN.get v)).setFld a Fld.PS_EVT_WAKE_EN (Fld.PS_EVT_WAKE_EN.get v)).setFld a
    Fld.PS_EVT_TARGET (Fld.PS_EVT_TARGET.get v)
  if Fld.PS_EVT_ARM.get v = 1 then
    ((s1.setFld a Fld.PS_EVT_ARM 1).setFld a Fld.PS_EVT_AT_ARM (s.cmpState n)).setFld a Fld.PS_EVT_FIRED 0
  else s1.setFld a Fld.PS_EVT_ARM 0

/-- CMP_SETTLED: the settling time of pin `n`'s comparator mode is over, and its decisions are made from the input (R81, R83). At the
start of the always-on domain the comparators settle in Deep watch. -/
def execCmpSettled (n : Fin 1536) (hi lo : Fin 3) (s : State) : Host.Outcome State Fault Refusal :=
  .next (
    if s.fld (pinA n Reg.PS_CMP_STATE) Fld.PS_CMP_STATE_MODE_EFF ≠ 5 then s
    else
      let s1 := match (s.pin n).settleAt with
        | some t => s.advanceTo t
        | none => s
      let s2 := (s1.modPin n (fun p => { p with settleAt := none })).setFld (pinA n Reg.PS_CMP_STATE) Fld.PS_CMP_STATE_MODE_EFF
        (s.fld (pinA n Reg.PS_CMP_CFG) Fld.PS_CMP_CFG_MODE)
      s2.newDecisions n (decCode hi) (decCode lo) (2 * s2.now))

/-- The pins with a threshold of their own. -/
def State.thresholdPins (s : State) : List Nat :=
  ((s.regs.filterMap (fun e => match blockOf e.1 with
    | .pin n => some n
    | _ => none)) ++ s.pins.map (·.1)).eraseDups

/-- HOLD_REFRESH: every millisecond the ebb clock refreshes the hold stages of sleeping coves (R87). -/
def execHoldRefresh (s : State) : Host.Outcome State Fault Refusal :=
  .next (
    let s1 := s.advanceTo (s.power.holdAt + 1000 * usU)
    let s2 := { s1 with power := { s1.power with holdAt := s1.now } }
    s2.each (s2.thresholdPins.filter (fun n => !s2.coveAwake (coveOf (n / 8)) &&
      decide (2 ≤ s2.fld (pinA n Reg.PS_CMP_CFG) Fld.PS_CMP_CFG_MODE))) State.holdThresholds)

/-! ### The breakwater (R91 to R98) -/

/-- The scope of a trip of pin `n` (R94): 0 PIN, 1 STRAND, 2 GROUP. -/
def State.tripScope (s : State) (n : Nat) : Nat :=
  match s.fld (pinA n Reg.PS_BW_CTRL) Fld.PS_BW_CTRL_ACTION with
  | 0 => 0
  | 2 => if s.leaderOf (n / 8) = 255 then 1 else 2
  | _ => 1

/-- The strands of a scope, the leader first. -/
def State.scopeStrands (s : State) (n scope : Nat) : List Nat :=
  match scope with
  | 0 => []
  | 2 => s.leaderOf (n / 8) :: (s.groupOf (n / 8)).filter (fun j => j != s.leaderOf (n / 8))
  | _ => [n / 8]

/-- The breakwater of pin `n` trips, with cause bits OVH 1, OVL 2, OC 4 (R93 to R97). On a pin that has tripped already the condition
is ORed in. -/
def State.trip (s : State) (n kind : Nat) : State :=
  let a := pinA n Reg.PS_BW_STAT
  let bits := bitN (bitOf kind 2) + 2 * bitN (bitOf kind 1) + 4 * bitN (bitOf kind 0)
  let s0 := s.setFld a Fld.PS_BW_STAT_CAUSE (Nat.lor (s.fld a Fld.PS_BW_STAT_CAUSE) bits)
  let s1 := { s0 with faultQ := s0.faultQ ++ [(⟨srcPin n, kind, n, false⟩ : FaultMsg)] }
  if s.flag a Fld.PS_BW_STAT_TRIPPED then s1
  else
    let scope := s.tripScope n
    let strands := s.scopeStrands n scope
    let pins := if scope = 0 then [n] else strands.flatMap pinsOf
    let s2 := ((s1.raise a Fld.PS_BW_STAT_TRIPPED).setFld a Fld.PS_BW_STAT_SCOPE scope).life 1552
    let fresh := pins.filter (fun p => !s2.inTrip p && !s2.safeOther)
    let s3 := { s2 with trips := s2.trips ++ [(⟨n, kind, scope, pins, some (s2.now + usU)⟩ : Trip)] }
    let s4 := ((s3.enterForced fresh).tripCal pins).each pins State.noteWindows
    s4.each strands (fun s k => s.raiseStop k .breakwater)

/-- BW_TRIP: a condition has persisted for the qualification time (R91, R93). -/
def execBwTrip (n : Fin 1536) (ovh ovl oc : Bool) (at_ : Nat) (s : State) : Host.Outcome State Fault Refusal :=
  .next (
    let kind := bitN ovh + 2 * bitN ovl + 4 * bitN oc
    if kind = 0 then s else (s.advanceTo at_).trip n kind)

/-- Pins of a scope that failed the engagement check: a Grave message each. -/
def State.engageFail (s : State) (pins : List Nat) : State := s.each pins (fun s n => s.fault (srcPin n) 3 n)

/-- BW_ENGAGE_CHECK: the check that is due first (R96), of a trip or of a cause that took every pin; `bad` are the pins whose driver
switch is not open or whose PMU is not clamped. -/
def execBwEngageCheck (bad : List (Fin 1536)) (s : State) : Host.Outcome State Fault Refusal :=
  .next (
    let l := bad.map (fun n => n.val)
    match s.forced.checkAt, s.trips.find? (fun t => t.checkAt.isSome) with
    | some t, _ =>
      let s1 := s.advanceTo t
      ({ s1 with forced := { s1.forced with checkAt := none } }).engageFail l
    | none, some t =>
      let s1 := s.advanceTo (t.checkAt.getD 0)
      ({ s1 with trips := s1.trips.map (fun (x : Trip) => if x == t then { x with checkAt := none } else x) }).engageFail
        (l.filter (fun n => t.pins.contains n))
    | none, none => s)

/-- Clear the driver connection of pins in force and in shadow (R98). -/
def State.clearDrive (s : State) (pins : List Nat) : State :=
  let clear (a : Nat) (v : Word) : Word :=
    if pins.any (fun n => a == pinA n Reg.PS_DRV_CTRL) then Fld.PS_DRV_CTRL_CONN.put v 0 else v
  let each (l : Store Word) : Store Word := l.map (fun e => (e.1, clear e.1 e.2))
  let s1 := { s with shadows := each s.shadows, captured := each s.captured }
  s1.each pins (fun s n => s.setFld (pinA n Reg.PS_DRV_CTRL) Fld.PS_DRV_CTRL_CONN 0)

/-- REARM at pin `n`, a condition being `present` or not (R98). -/
def State.rearm (s : State) (n : Nat) (present : Bool) : State :=
  match s.trips.find? (fun t => t.pin == n) with
  | none => s
  | some t =>
    if present then s.raise (pinA n Reg.PS_STAT) Fld.PS_STAT_REARM_REF
    else
      let s1 := ({ s with trips := s.trips.filter (fun x => x.pin != n) }).wr (pinA n Reg.PS_BW_STAT) 0
      let others := t.pins.filter (fun p => p != n && !s1.flag (pinA p Reg.PS_BW_STAT) Fld.PS_BW_STAT_TRIPPED && !s1.inTrip p)
      let s2 := s1.each others (fun s p => s.setFld (pinA p Reg.PS_BW_STAT) Fld.PS_BW_STAT_MASKED 0)
      let freed := t.pins.filter (fun p => s2.ball p != .safe)
      (s2.clearDrive freed).leaveForced freed

/-- A write of PS_BW_CTRL of pin `n`: ACTION acts at the write, then REARM. -/
def State.bwCtrlWrite (s : State) (n : Nat) (v : Word) (present : Bool) : State :=
  let s1 := s.setFld (pinA n Reg.PS_BW_CTRL) Fld.PS_BW_CTRL_ACTION (Fld.PS_BW_CTRL_ACTION.get v)
  if Fld.PS_BW_CTRL_REARM.get v = 1 then s1.rearm n present else s1

end Sys2Proof.Machine
end

