-- ==== Sys2Proof/Machine/Faults.lean ====
section
/-! DEFINITION. The fault collector, classes and their actions, the watchdog and helm (spec/18_faults_and_thermal.md R442 to R459),
and the supply monitor (spec/17_clocks_power_startup.md R430; spec/22_package_and_supplies.md R507). -/

namespace Sys2Proof.Machine

/-! ### Sources, kinds and records -/

/-- The class of a kind bit of a source (R444): 0 Note, 1 Contained, 2 Device, 3 Grave; none where the source has no such kind. -/
def kindClass (source bit : Nat) : Option Nat :=
  if source < 0x600 then (if bit < 3 then some 1 else if bit = 3 then some 3 else none)
  else if source < 0x6C0 then (if bit < 2 then some 0 else if bit < 4 then some 1 else none)
  else if source < 0x790 then (if bit = 0 then some 1 else none)
  else if source < 0x7A0 then (if bit < 2 then some 1 else none)
  else if source < 0x7B1 then (match bit with | 0 => some 1 | 1 => some 0 | 2 => some 2 | _ => none)
  else match source with
    | 0x7C0 => (match bit with | 0 => some 2 | 1 => some 0 | _ => none)
    | 0x7C1 => if bit < 3 then some 0 else none
    | 0x7C2 => if bit = 0 then some 0 else none
    | 0x7C3 => if bit < 3 then some 0 else none
    | 0x7C4 => if bit < 3 then some 0 else none
    | 0x7C5 => if bit < 3 then some 0 else none
    | 0x7C6 => if bit = 0 then some 0 else none
    | 0x7C7 => if bit < 2 then some 1 else if bit = 2 then some 2 else none
    | 0x7C8 => if bit = 1 then some 1 else if bit < 4 then some 0 else none
    | 0x7C9 => if bit < 8 then some 0 else none
    | 0x7CA => if bit = 0 then some 3 else none
    | _ => none

/-- The class of a message: the highest among its kind bits. -/
def msgClass (source kind : Nat) : Nat :=
  (((List.range 8).filter (fun b => bitOf kind b)).filterMap (fun b => kindClass source b)).foldl max 0

/-- A kind whose bits the source defines, not zero. -/
def kindValid (source kind : Nat) : Bool :=
  kind != 0 && ((List.range 8).filter (fun b => bitOf kind b)).all (fun b => (kindClass source b).isSome)

/-- A fault message as a 128-bit value (R442). -/
def FaultRec.value (r : FaultRec) : Nat :=
  r.stamp * 2 ^ 64 + r.source * 2 ^ 52 + r.kind * 2 ^ 44 + r.cls * 2 ^ 42 + r.merge * 2 ^ 34 + bitN r.forced * 2 ^ 33 + r.addr % 2 ^ 32

/-- FC_SUMMARY as it reads. -/
def State.fcSummary (s : State) : Word :=
  let l := s.faults.recs
  let top := (l.map (fun e => e.2.cls)).foldl max 0
  BitVec.ofNat 32 (top * 2 ^ 30 + bitN (!l.isEmpty) * 2 ^ 29 + bitN (top == 3) * 2 ^ 28 + s.faults.history.length * 2 ^ 16 + l.length)

/-- The open record that R26 puts first: the highest class, then the earliest. -/
def State.nextRec (s : State) : Option FaultRec :=
  (s.faults.recs.map (·.2)).foldl (fun (a : Option FaultRec) r => match a with
    | none => some r
    | some b => if b.cls < r.cls ∨ (b.cls = r.cls ∧ r.order < b.order) then some r else some b) none

/-- FC_NEXT as it reads. -/
def State.fcNext (s : State) : Word :=
  match s.nextRec with
  | none => 0xFFF
  | some r => BitVec.ofNat 32 (2 ^ 31 + r.cls * 2 ^ 12 + r.source)

/-- Put a captured record into four words. -/
def State.capture (s : State) (a v : Nat) : State :=
  s.each (List.range 4) (fun s i => s.wr (a + 4 * i) (BitVec.ofNat 32 (v >>> (32 * i))))

/-- A write of FC_REC_SEL (R447). -/
def State.recSel (s : State) (v : Word) : State :=
  let s1 := s.wr Reg.FC_REC_SEL v
  s1.capture Reg.FC_REC (match Store.get? s1.faults.recs (Fld.FC_REC_SEL_INDEX.get v) with | some r => r.value | none => 0)

/-- A write of FC_LOG_SEL (R448). -/
def State.logSel (s : State) (v : Word) : State :=
  let s1 := s.wr Reg.FC_LOG_SEL v
  s1.capture Reg.FC_LOG (match s1.faults.history[Fld.FC_LOG_SEL_INDEX.get v]? with | some r => r.value | none => 0)

/-! ### Helm (R455 to R457) -/

/-- Beacon runs verified firmware. -/
def State.beaconRuns (s : State) : Bool := s.flag Reg.FC_HELM_STATE Fld.FC_HELM_STATE_BEACON_RUN

/-- A helm transfer (R456) with a cause, pending or not. -/
def State.helmTransfer (s : State) (cause : Nat) (pending : Bool) : State :=
  let a := Reg.FC_HELM_STATE
  let s1 := (s.setFld a Fld.FC_HELM_STATE_HOLDER (if cause = 3 then 0 else 1)).setFld a Fld.FC_HELM_STATE_CAUSE cause
  let s2 := (s1.setFld a Fld.FC_HELM_STATE_PENDING (bitN pending)).wr Reg.FC_HELM_EPOCH (s1.rd Reg.FC_HELM_EPOCH + 1)
  let s3 := { s2 with faults := { s2.faults with helmDue := if pending then some (s2.now + 1000000 * usU) else none } }
  s3.pushEvent 5 (leBytes 4 (s3.rd Reg.FC_HELM_EPOCH).toNat ++ leBytes 1 cause ++ leBytes 1 (bitN pending) ++ leBytes 2 0 ++
    leBytes 4 (s3.fld a Fld.FC_HELM_STATE_WDT_COUNT))

/-- FC_HELM_STATE.LEFT_MS. -/
def State.helmLeft (s : State) : Nat :=
  match s.faults.helmDue with
  | some t => (openDiv ((t - s.now : Nat) : Int) (1000 * usU)).toNat % 1024
  | none => 0

/-- The watchdog interval as applied. -/
def State.wdtPeriod (s : State) : Nat := clipTo 10 10000 (s.fld Reg.FC_WDT Fld.FC_WDT_PERIOD) * 1000 * usU

/-- Beacon is held stopped by a watchdog expiry (R455). -/
def State.beaconExpires (s : State) : State :=
  let a := Reg.FC_HELM_STATE
  let s1 := (s.setFld a Fld.FC_HELM_STATE_BEACON_RUN 0).satAdd a Fld.FC_HELM_STATE_WDT_COUNT 1
  (s1.abortCals).helmTransfer 1 true

/-- WATCHDOG_EXPIRY: an interval without a kick. -/
def execWatchdogExpiry (s : State) : Host.Outcome State Fault Refusal :=
  .next (if s.beaconRuns then
    let s1 := (s.advanceTo (s.faults.kickAt + s.wdtPeriod)).beaconExpires
    s1.fault srcBeacon 0 (s1.fld Reg.FC_HELM_STATE Fld.FC_HELM_STATE_WDT_COUNT)
  else s)

/-- A write of FC_WDT_KICK: from Beacon it restarts the interval. -/
def State.wdtKick (s : State) (m : Master) : State :=
  if m = Master.beacon ∧ s.beaconRuns then { s with faults := { s.faults with kickAt := s.now } } else s

/-- The pending transfer is acknowledged (R457). -/
def State.helmAck (s : State) : State :=
  ({ s with faults := { s.faults with helmDue := none } }).setFld Reg.FC_HELM_STATE Fld.FC_HELM_STATE_PENDING 0

/-- An acknowledgement is due. -/
def State.helmPending (s : State) : Bool := s.flag Reg.FC_HELM_STATE Fld.FC_HELM_STATE_PENDING

/-- HELM_TIMEOUT: a transfer has gone a second unacknowledged; RELAY_HOLD stays low until reset. (DESIGN CHOICE, log 39) -/
def execHelmTimeout (s : State) : Host.Outcome State Fault Refusal :=
  .next (match s.faults.helmDue with
    | none => s
    | some t =>
      let (a, s0) := s.free
      let s1 := ((s0.advanceTo t).helmAck).fault srcBeacon 2 (a % 4294967296)
      ({ s1 with ring := { s1.ring with bypassed := true } }).dropHold)

/-- Helm rests with the host. -/
def State.helmHost (s : State) : Bool := s.flag Reg.FC_HELM_STATE Fld.FC_HELM_STATE_HOLDER

/-- A write of FC_HELM_CMD (R457 to R459): ACK, RESET, RETURN. (DESIGN CHOICE, log 39) -/
def State.helmCommand (s : State) (d : Word) : State :=
  let reset := Fld.FC_HELM_CMD_RESET.get d = 1
  if reset ∧ Fld.FC_HELM_CMD_CONFIRM.get d ≠ 0x4E1A then s
  else
    let s1 := if Fld.FC_HELM_CMD_ACK.get d = 1 ∧ s.helmPending then s.helmAck else s
    let s2 := if reset ∧ s1.helmHost ∧ !s1.helmPending then
        ({ s1 with faults := { s1.faults with booting := some s1.now } }).setFld Reg.FC_HELM_STATE Fld.FC_HELM_STATE_BEACON_RUN 0
      else s1
    if Fld.FC_HELM_CMD_RETURN.get d = 1 ∧ s2.helmHost ∧ s2.beaconRuns then s2.helmTransfer 3 false else s2

/-! ### Isolation and class actions (R449 to R451) -/

/-- The logical lane that physical lane `k` serves passes to physical lane `r` (spec/17 R440); nothing where `k` serves none. -/
def State.laneTakes (s : State) (k r : Nat) : State :=
  match (List.range 16).find? (fun l => s.physLane l == k) with
  | some l => { s with splice := { s.splice with phys := if r = l then Store.del s.splice.phys l else Store.put s.splice.phys l r } }
  | none => s

/-- Physical splice lane `k` goes out of service (spec/17 R435, R441): the reserve lane takes over its logical lane; without a reserve
lane the failure is of class Device. -/
def State.laneFails (s : State) (k : Nat) : State :=
  let a := Reg.BI_LANE
  if bitOf (s.fld a Fld.BI_LANE_FAIL) k then s
  else
    let s1 := s.setFld a Fld.BI_LANE_FAIL (s.fld a Fld.BI_LANE_FAIL + 2 ^ k)
    let r := s.fld a Fld.BI_LANE_RESERVE
    if r = k then s1.setFld a Fld.BI_LANE_RESERVE 0x1F
    else if r = 0x1F then s1.fault (srcLane k) 2 k
    else (s1.laneTakes k r).setFld a Fld.BI_LANE_RESERVE 0x1F

/-- The isolation of a unit by a Contained record that the unit did not bring about itself: a forced message (R449, R453). -/
def State.isolate (s : State) (source kind : Nat) : State :=
  if source < 0x600 then (if kind % 8 = 0 then s else s.trip source (kind % 8))
  else if source < 0x6C0 then
    let k := source - 0x600
    let s1 := if bitOf kind 2 then s.raiseStop k .integrity else s
    if bitOf kind 3 then (s1.raiseStop k .deviceFault).modStrand k (fun t => { t with out := true }) else s1
  else if source < 0x790 then s.engineFails (source - 0x6C0)
  else if source < 0x7A0 then
    let c := source - 0x790
    if s.cvState c = 3 then ((s.each (strandsOfCove c) (fun s k => s.clockStops k .clockLoss)).abortCal c).coveDown c
    else (s.setFld (coveA c Reg.CV_STATE) Fld.CV_STATE_STATE 0).showPower
  else if source < 0x7B1 then (if bitOf kind 0 then s.laneFails (source - 0x7A0) else s)
  else if source = 0x7C7 then
    (if !s.beaconRuns then s
    else if bitOf kind 0 then s.beaconExpires
    else (s.setFld Reg.FC_HELM_STATE Fld.FC_HELM_STATE_BEACON_RUN 0).helmTransfer 2 false)
  else s

/-- The actions of a Device-class record (R450). -/
def State.deviceActions (s : State) : State :=
  let s1 := s.forcePins (fun f => { f with device := true }) usU
  let s2 := (s1.raiseAll .deviceFault).abortCals
  if s2.flag Reg.RG_CTRL Fld.RG_CTRL_SLACK_ON_FAULT then s2.originateSlack 2 else s2

/-- Every awake cove's clock stops, its strands halting at once for a cause. -/
def State.stopCoves (s : State) (c : Cause) : State :=
  let s1 := s.each allStrands (fun s k => s.clockStops k c)
  s1.each ((List.range 16).filter (fun i => s1.cvState i != 0)) (fun s i => s.coveDown i)

/-- The actions of a Grave record (R451). -/
def State.graveActions (s : State) : State :=
  let s1 := (s.forcePins (fun f => { f with grave := true, checkAt := none }) 0).dropHold
  let s2 := { s1 with forced := { s1.forced with checkAt := none } }
  ((s2.abortCals).stopCoves .deviceFault).setFld Reg.DEV_STATE Fld.DEV_STATE_STATE 2

/-- The actions of a class; `own` says that the unit has isolated itself. -/
def State.classActions (s : State) (cls source kind : Nat) (own : Bool) : State :=
  match cls with
  | 1 => if own then s else s.isolate source kind
  | 2 => s.deviceActions
  | 3 => s.graveActions
  | _ => s

/-- Queue the FAULT event of a record (R447). -/
def State.faultEvent (s : State) (r : FaultRec) : State :=
  if s.flag Reg.HT_EVT_CFG Fld.HT_EVT_CFG_FAULT_EN then s.pushEvent 4 (leBytes 16 r.value) else s

/-- The collector takes a message of class `cls` (R445 to R447). (DEDUCED, log 38) -/
def State.takeMessage (s : State) (m : FaultMsg) (cls : Nat) (own : Bool) : State :=
  match Store.get? s.faults.recs m.source with
  | none =>
    let r : FaultRec := ⟨s.stamp, m.source, m.kind, cls, 0, m.forced, m.addr, s.faults.opened⟩
    let s1 := { s with faults := { s.faults with recs := Store.put s.faults.recs m.source r, opened := s.faults.opened + 1 } }
    (((s1.raise Reg.FC_STAT Fld.FC_STAT_OPENED).faultEvent r).showAlert).classActions cls m.source m.kind own
  | some r =>
    let r1 : FaultRec := { r with kind := Nat.lor r.kind m.kind, merge := min 255 (r.merge + 1), cls := max r.cls cls }
    let s1 := ({ s with faults := { s.faults with recs := Store.put s.faults.recs m.source r1 } }).raise Reg.FC_STAT Fld.FC_STAT_MERGED
    if r.cls < r1.cls then
      (((s1.raise Reg.FC_STAT Fld.FC_STAT_CLASS_RAISED).faultEvent r1).showAlert).classActions r1.cls m.source m.kind own
    else s1

/-- FAULT_MESSAGE: the collector takes the oldest message on its way, or one that a unit raises for a cause of its own. (DEDUCED, log 38) -/
def execFaultMessage (raised : Option FaultMsg) (s : State) : Host.Outcome State Fault Refusal :=
  .next (match raised with
    | some m => if kindValid m.source m.kind then s.takeMessage m (msgClass m.source m.kind) false else s
    | none =>
      match s.faultQ with
      | [] => s
      | m :: rest => ({ s with faultQ := rest }).takeMessage m (msgClass m.source m.kind) (!m.forced))

/-! ### Closing and forcing (R445, R448, R453) -/

/-- A record closes and enters the history. -/
def State.closeRec (s : State) (source : Nat) : State :=
  match Store.get? s.faults.recs source with
  | none => s
  | some r =>
    let full := decide (64 ≤ s.faults.history.length)
    (({ s with faults := { s.faults with
        recs := Store.del s.faults.recs source, history := (r :: s.faults.history).take 64 } }).raiseIf full
      Reg.FC_STAT Fld.FC_STAT_LOG_WRAP).showAlert

/-- A write of FC_ACK by master `m` (R445). -/
def State.fcAck (s : State) (m : Master) (d : Word) : State :=
  let src := Fld.FC_ACK_SOURCE.get d
  match Store.get? s.faults.recs src with
  | some r =>
    if r.cls < 2 ∧ (m = Master.beacon ∨ s.helmHost) then s.closeRec src else s.raise Reg.FC_STAT Fld.FC_STAT_ACK_REJ
  | none => s.raise Reg.FC_STAT Fld.FC_STAT_ACK_REJ

/-- A write of FC_FORCE (R453). -/
def State.fcForce (s : State) (d : Word) : State :=
  if Fld.FC_FORCE_GO.get d = 0 then s
  else
    let src := Fld.FC_FORCE_SOURCE.get d
    let kind := Fld.FC_FORCE_KIND.get d
    if kindValid src kind then { s with faultQ := s.faultQ ++ [(⟨src, kind, 0, true⟩ : FaultMsg)] }
    else s.raise Reg.FC_STAT Fld.FC_STAT_FORCE_REJ

/-! ### The self-check (R454) -/

/-- SELFCHECK: the checker opens the record and carries out R451 itself. -/
def State.selfCheckFails (s : State) : State := s.takeMessage ⟨srcCollector, 1, 0, false⟩ 3 true

/-- COLLECTOR_SELFCHECK: every 100 ms; `result` is whether the record formed agrees, none while the check is not completed. -/
def execCollectorSelfcheck (result : Option Bool) (s : State) : Host.Outcome State Fault Refusal :=
  .next (
    let s1 := s.advanceTo (s.faults.checkAt + 100000 * usU)
    let s2 := { s1 with faults := { s1.faults with checkAt := s1.now, checking := if result.isSome then none else some s1.now } }
    if result = some false then s2.selfCheckFails else s2)

/-- SELFCHECK_TIMEOUT: a check not completed within 1 ms. -/
def execSelfcheckTimeout (s : State) : Host.Outcome State Fault Refusal :=
  .next (match s.faults.checking with
    | none => s
    | some t =>
      let s1 := s.advanceTo (t + 1000 * usU)
      ({ s1 with faults := { s1.faults with checking := none } }).selfCheckFails)

/-! ### Supplies (R430, R507) -/

/-- SUPPLY_EXCURSION: rail `k` leaves its monitor limits. -/
def execSupplyExcursion (k : Fin 8) (at_ : Nat) (s : State) : Host.Outcome State Fault Refusal :=
  .next (
    let s1 := s.advanceTo at_
    ({ s1 with power := { s1.power with rails := Store.put s1.power.rails k s1.now } }).fault srcSupply k 0)

/-- SUPPLY_GRAVE: rail `k` has been out of limits for 50 µs. -/
def execSupplyGrave (k : Fin 8) (s : State) : Host.Outcome State Fault Refusal :=
  .next (match Store.get? s.power.rails k with
    | none => s
    | some t =>
      let s1 := s.advanceTo (t + 50 * usU)
      ({ s1 with power := { s1.power with rails := Store.del s1.power.rails k } }).takeMessage ⟨srcSupply, 2 ^ k.val, 0, false⟩ 3 true)

end Sys2Proof.Machine
end

