-- ==== Sys2Proof/Machine/Thermal.lean ====
section
/-! DEFINITION. The thermal monitor (spec/18_faults_and_thermal.md R461 to R465), and the core domain going off (R463;
spec/17_clocks_power_startup.md R427). -/

namespace Sys2Proof.Machine

/-! ### The core domain goes off -/

/-- The core domain has power: not in deep standby or a thermal shutdown (R426, R463). -/
def State.coreLive (s : State) : Bool := s.fld Reg.DEV_STATE Fld.DEV_STATE_POWER != 2

/-- The memory goes into self-refresh of the slices of MC_PASR.KEEP (spec/07 R189, R190). -/
def State.selfRefreshKept (s : State) : State :=
  let keep := s.fld Reg.MC_PASR Fld.MC_PASR_KEEP
  let dropped := (List.range 8).filter (fun k => k != 0 && !bitOf keep k)
  let gone := (s.mem.segs.filter (fun e => e.2.groups.any (fun g => dropped.contains (groupSlice g)))).map (·.1)
  let s1 := s.each gone State.dropSegment
  { s1 with mem := { s1.mem with selfRefresh := true } }

/-- RELAY_HOLD falls; Beacon, the host transport, the ring ports and tideline stop; the core domain is powered off (R427). What it
held takes its reset values when the device starts again (R428). -/
def State.coreOff (s : State) : State :=
  let s1 := s.dropHold.setFld Reg.FC_HELM_STATE Fld.FC_HELM_STATE_BEACON_RUN 0
  let s2 := s1.each ((List.range 64).filter s1.qpRts) (fun s q => s.leaveRts q 0)
  let s3 := ({ s2 with host := {}, tide := {} }).setTl 0 0
  (s3.selfRefreshKept).setFld Reg.DEV_STATE Fld.DEV_STATE_POWER 2

/-! ### Readings (R461) -/

/-- Degrees in quarter steps. -/
def deg (t : Nat) : Int := 4 * t

/-- The latest reading of sensor `n`. -/
def State.sensorTemp (s : State) (n : Nat) : Int := signed 16 (s.fld (Reg.TH_SENS + 4 * n) Fld.TH_SENS_TEMP)

/-- Sensor `n` is excluded. -/
def State.excluded (s : State) (n : Nat) : Bool := bitOf (s.rd Reg.TH_EXCLUDE).toNat n

/-- The maximum over the sensors not excluded, with the lowest sensor that gives it. -/
def State.hottest (s : State) : Option (Nat × Int) :=
  ((List.range 24).filter (fun n => !s.excluded n)).foldl (fun (a : Option (Nat × Int)) n => match a with
    | none => some (n, s.sensorTemp n)
    | some (m, t) => if t < s.sensorTemp n then some (n, s.sensorTemp n) else some (m, t)) none

/-- TH_MAX follows the readings. -/
def State.showMax (s : State) : State :=
  match s.hottest with
  | some (n, t) => s.wr Reg.TH_MAX (BitVec.ofNat 32 (n * 2 ^ 24 + unsigned 16 t))
  | none => s

/-- A maximum in quarter degrees, and the sensor that gives it. -/
def State.thMax (s : State) : Int := signed 16 (s.fld Reg.TH_MAX Fld.TH_MAX_TEMP)
def State.thSensor (s : State) : Nat := s.fld Reg.TH_MAX Fld.TH_MAX_SENSOR

/-- TH_STATE.LEVEL. (DEDUCED, log 40) -/
def State.thLevel (s : State) : Nat := s.fld Reg.TH_STATE Fld.TH_STATE_LEVEL

/-! ### Levels (R462, R463) -/

/-- The level after a reading: NORMAL 0, WARN 1, HALT 2, SHUTDOWN 3. -/
def nextLevel (lvl : Nat) (t : Int) : Nat :=
  if lvl = 3 ∨ deg 125 ≤ t then 3
  else if deg 110 ≤ t ∨ (lvl = 2 ∧ deg 100 ≤ t) then 2
  else if deg 100 ≤ t ∨ (1 ≤ lvl ∧ deg 95 ≤ t) then 1
  else 0

/-- WARN is entered. -/
def State.enterWarn (s : State) : State := (s.raise Reg.TH_STAT Fld.TH_STAT_WARN).fault srcThermal 0 s.thSensor

/-- HALT is entered. -/
def State.enterHalt (s : State) : State :=
  let s1 := ((s.raise Reg.TH_STAT Fld.TH_STAT_HALT).fault srcThermal 1 s.thSensor).life 1553
  let s2 := { s1 with thermal := { s1.thermal with haltAt := some s1.now, overdue := false } }
  (s2.raiseAll .thermal).abortCals

/-- SHUTDOWN is entered (R463): pins SAFE, RELAY_HOLD low, the clocks stopped and the core domain off. -/
def State.enterShutdown (s : State) : State :=
  let s1 := ((s.raise Reg.TH_STAT Fld.TH_STAT_SHUTDOWN).fault srcThermal 2 s.thSensor).life 1553
  let s2 := { s1 with thermal := { s1.thermal with haltAt := none, overdue := false, coolSince := none } }
  let s3 := s2.forcePins (fun f => { f with thermal := true }) usU
  ((s3.abortCals).stopCoves .thermal).coreOff

/-- The level changes from `old` to `new`: each level includes the effects of those below it, so one that is jumped over counts as
entered. (DEDUCED, log 40) -/
def State.takeLevel (s : State) (old new : Nat) : State :=
  let s1 := s.setFld Reg.TH_STATE Fld.TH_STATE_LEVEL new
  let s2 := if decide (1 ≤ old) == decide (1 ≤ new) then s1 else s1.send (.therm (decide (1 ≤ new)))
  let s3 := if old < 1 ∧ 1 ≤ new then s2.enterWarn else s2
  let s4 := if old < 2 ∧ 2 ≤ new then s3.enterHalt else s3
  if old < 3 ∧ new = 3 then s4.enterShutdown else s4

/-- The time below 95 degrees in SHUTDOWN (R464). -/
def State.noteCool (s : State) : State :=
  if s.thLevel ≠ 3 then s
  else if deg 95 ≤ s.thMax then
    ({ s with thermal := { s.thermal with coolSince := none } }).setFld Reg.TH_STATE Fld.TH_STATE_COOL 0
  else
    let t := s.thermal.coolSince.getD s.now
    ({ s with thermal := { s.thermal with coolSince := some t } }).setFld Reg.TH_STATE Fld.TH_STATE_COOL (min 1000 ((s.now - t) / (10000 * usU)))

/-- The maximum is updated, and the level follows. -/
def State.thermalUpdate (s : State) : State :=
  let s1 := s.showMax
  (s1.takeLevel s1.thLevel (nextLevel s1.thLevel s1.thMax)).noteCool

/-- SENSOR_READ: every 10 µs the next sensor is read (R27, R461); `ok` says that its conversion succeeded, with `raw` in quarter
degrees. (DEDUCED, log 40) -/
def execSensorRead (ok : Bool) (raw : BitVec 16) (s : State) : Host.Outcome State Fault Refusal :=
  .next (
    let n := s.thermal.next
    let a := Reg.TH_SENS + 4 * n
    let s0 := s.advanceTo (s.thermal.readAt + 10 * usU)
    let s1 := { s0 with thermal := { s0.thermal with next := (n + 1) % 24, readAt := s0.now } }
    let t := signed 16 raw.toNat
    let broken := !ok || decide (t < -deg 45) || decide (deg 155 < t)
    let fresh := broken && !s1.flag a Fld.TH_SENS_BROKEN
    let v := if broken then deg 150 else max (-deg 40) (min (deg 150) t)
    let s2 := (s1.setFld a Fld.TH_SENS_TEMP (unsigned 16 v)).setFld a Fld.TH_SENS_BROKEN (bitN broken)
    let s3 := if fresh then (s2.raise Reg.TH_STAT Fld.TH_STAT_BROKEN).fault srcThermal 3 n else s2
    s3.thermalUpdate)

/-- THERMAL_HALT_DEADLINE: 10 ms after the entry to HALT, a strand that has reached no segment start halts at its next step start. -/
def execThermalHaltDeadline (s : State) : Host.Outcome State Fault Refusal :=
  .next (match s.thermal.haltAt with
    | none => s
    | some t =>
      let s1 := s.advanceTo (t + 10000 * usU)
      { s1 with thermal := { s1.thermal with haltAt := none, overdue := true } })

/-- A write of TH_EXCLUDE (R465). -/
def State.thExclude (s : State) (v : Word) : State :=
  let old := s.fld Reg.TH_EXCLUDE Fld.TH_EXCLUDE_SENSORS
  let new := (List.range 24).filter (fun n => bitOf (Fld.TH_EXCLUDE_SENSORS.get v) n && !bitOf old n)
  if new.any (fun n => n < 16 && s.coveAwake n) then s.raise Reg.TH_STAT Fld.TH_STAT_EXCL_REJ
  else
    let s1 := new.foldl (fun (s : State) n =>
      (s.setFld Reg.TH_EXCLUDE Fld.TH_EXCLUDE_SENSORS (s.fld Reg.TH_EXCLUDE Fld.TH_EXCLUDE_SENSORS + 2 ^ n)).raise
        (Reg.TH_SENS + 4 * n) Fld.TH_SENS_EXCLUDED) s
    let s2 := s1.each (new.filter (fun n => n < 16)) (fun s c => s.each ((List.range 13).map (fun i => 13 * c + i)) State.engineFails)
    s2.thermalUpdate

end Sys2Proof.Machine
end

