-- ==== Sys2Proof/Machine/SelfTest.lean ====
section
/-! DEFINITION. Runtime self-test (spec/17_clocks_power_startup.md R439 to R441): the request and what its end does. -/

namespace Sys2Proof.Machine

/-- The strand condition of R439. -/
def State.strandReady (s : State) (k : Nat) : Bool := s.tablesOpen k && s.coveAwake (coveOf k)

/-- The strand that engine `e` serves. -/
def State.servedBy (s : State) (e : Nat) : Option Nat := allStrands.find? (fun k => s.engineOf k == some e)

/-- The refusal of a request, in the order of the codes the spec's table does not fix (assumption log 41): 0 when it is accepted. -/
def State.testRefusal (s : State) (kind num : Nat) : Nat :=
  if (kind = 1 ∧ 192 ≤ num) ∨ (kind = 2 ∧ 208 ≤ num) ∨ (kind = 3 ∧ 17 ≤ num) then 0xC
  else if s.power.test.isSome then 8
  else if s.place.making.isSome then 0xA
  else if kind = 1 then (if s.strandReady num then 0 else 9)
  else if kind = 2 then (match s.servedBy num with
    | none => 0
    | some k => if s.strandReady k then 0 else 9)
  else if s.fld Reg.BI_LANE Fld.BI_LANE_RESERVE = 0x1F then 0xB
  else 0

/-- The reserve lane takes over the tested lane's logical lane (R440); meanwhile no lane is the reserve. -/
def State.lendLane (s : State) (k : Nat) : State :=
  (s.laneTakes k (s.fld Reg.BI_LANE Fld.BI_LANE_RESERVE)).setFld Reg.BI_LANE Fld.BI_LANE_RESERVE 0x1F

/-- A request is checked (R439): a refusal shows in RESULT and DONE; else the test runs. -/
def State.rtStart (s : State) (d : Word) : State :=
  let kind := Fld.BI_RT_CMD_KIND.get d
  let num := Fld.BI_RT_CMD_NUM.get d
  let a := Reg.BI_RT_STAT
  let r := s.testRefusal kind num
  if kind = 0 then s
  else if r ≠ 0 then (s.setFld a Fld.BI_RT_STAT_RESULT r).raise a Fld.BI_RT_STAT_DONE
  else
    let k := if kind = 1 then some num else if kind = 2 then s.servedBy num else none
    let was := match k with | some k => s.sqState k | none => 0
    let t : RtTest := ⟨kind, num, Fld.BI_RT_CMD_SUBST.get d = 1, s.now, k, was⟩
    let s1 := { s with power := { s.power with test := some t } }
    let s2 := s1.wr a (BitVec.ofNat 32 (2 ^ 30 + kind * 2 ^ 28 + num * 2 ^ 12 + bitN (s.flag a Fld.BI_RT_STAT_DONE) * 2 ^ 22))
    let s3 := if kind = 3 ∧ s2.fld Reg.BI_LANE Fld.BI_LANE_RESERVE ≠ num then s2.lendLane num else s2
    match k with
    | some k => s3.setSqState k 6
    | none => s3

/-- A write of BI_RT_CMD: a request waits while LOAD, APPLY_PATCH or CLEAR_PATCH runs (spec/19 R476). -/
def State.rtCommand (s : State) (d : Word) : State :=
  if Fld.BI_RT_CMD_KIND.get d = 0 then s
  else if s.ucodeBusy then { s with power := { s.power with testWaits := s.power.testWaits ++ [d] } }
  else s.rtStart d

/-- What the stop causes that met a test do once its strand has returned to the state `was` (R441, table *Requests meeting a strand
under self-test*). -/
def State.testedCauses (s : State) (k was : Nat) (causes : List Cause) : State :=
  let c := worst causes
  let turning := causes.filter Cause.turnsPark
  let s1 :=
    if causes.isEmpty then s
    else if was = 4 then (if turning.isEmpty then s else s.raiseStop k (worst turning))
    else if was = 0 ∧ (causes.contains .slack || causes.contains .deviceFault) then
      (s.setSqState k 5).setFld (strandA k Reg.SQ_STATE) Fld.SQ_STATE_CAUSE c.code
    else s
  if was = 4 then s1 else State.haltDone k 0 s1.host.cmds.length s1

/-- An engine under test failed (R441): with SUBST and a free reserve engine its strand takes that one, else it keeps none. -/
def State.testedEngine (s : State) (e : Nat) (subst : Bool) : State :=
  let s1 := s.setHealth e true
  match s1.servedBy e with
  | none => s1
  | some k =>
    if subst && s1.reserveFree (coveOf k) then
      (s1.giveReserve k).setFld Reg.BI_RT_STAT Fld.BI_RT_STAT_SUBST 1
    else s1

/-- A strand whose tested engine is out keeps no engine. -/
def State.strandless (s : State) (k : Nat) : State :=
  match s.engineOf k with
  | some e => if s.engineOut e then s.noEngine k else s
  | none => s

/-- A splice lane under test passes and is the reserve lane now (R440), or stays out of service. -/
def State.testedLane (s : State) (k : Nat) (ok : Bool) : State :=
  let a := Reg.BI_LANE
  let fail := s.fld a Fld.BI_LANE_FAIL
  if ok then (s.setFld a Fld.BI_LANE_FAIL (if bitOf fail k then fail - 2 ^ k else fail)).setFld a Fld.BI_LANE_RESERVE k
  else
    let s1 := s.setFld a Fld.BI_LANE_FAIL (Nat.lor fail (2 ^ k))
    if s1.fld a Fld.BI_LANE_RESERVE = k then s1.setFld a Fld.BI_LANE_RESERVE 0x1F else s1

/-- The outcome code of a test. -/
def RtTest.result (t : RtTest) (v : RtVerdict) : Nat :=
  match v, t.kind with
  | .pass, _ => 1
  | _, 3 => 4
  | .strand, 1 => 3
  | _, _ => 2

/-- The engine a test covers. -/
def State.testEngine (s : State) (t : RtTest) : Option Nat :=
  if t.kind = 2 then some t.num else match t.strand with
    | some k => s.engineOf k
    | none => none

/-- What a test's outcome does to its target (R441), before its strand returns. -/
def State.testOutcome (s : State) (t : RtTest) (r : Nat) : State :=
  let s1 := (s.setFld Reg.BI_RT_STAT Fld.BI_RT_STAT_RESULT r).raise Reg.BI_RT_STAT Fld.BI_RT_STAT_DONE
  let s2 := s1.setFld Reg.BI_RT_STAT Fld.BI_RT_STAT_STATE 0
  match r with
  | 1 =>
    if t.kind = 3 then s2.testedLane t.num true
    else
      let s3 := match t.strand with
        | some k => if t.kind = 1 then s2.modStrand k (fun x => { x with out := false }) else s2
        | none => s2
      match s3.testEngine t with
      | some e => if s3.engineOut e then (s3.setHealth e false).healthChanged else s3
      | none => s3
  | 2 => (match s2.testEngine t with
    | some e => s2.testedEngine e t.subst
    | none => s2).fault (if t.kind = 1 then srcStrand t.num else srcEngine t.num) (if t.kind = 1 then 3 else 0) t.num
  | 3 =>
    (s2.setFld Reg.BI_RT_STAT Fld.BI_RT_STAT_DISCARDED (s2.strand t.num).holdQ.length).modStrand t.num
      (fun x => { x with out := true, holdQ := [] }) |>.fault (srcStrand t.num) 3 t.num
  | _ => (s2.testedLane t.num false).fault (srcLane t.num) 0 t.num

end Sys2Proof.Machine
end

