-- ==== Sys2Proof/Machine/CtlStore.lean ====
section
/-! DEFINITION. The engine control store (spec/19_engine_control_store.md R466 to R479): images and their checks, the staging buffer, the
microcode commands; and the order of Beacon's flash operations (spec/21_life_store.md R497). -/

namespace Sys2Proof.Machine

/-! ### Images (R470) -/

/-- Fields of an image header. -/
def imgType (b : List Byte) : Nat := leAt b 0x04 1
def imgVer (b : List Byte) : Nat := leAt b 0x0C 4
def imgBase (b : List Byte) : Nat := leAt b 0x10 4
def imgFw (b : List Byte) : Nat := leAt b 0x14 1 * 256 + leAt b 0x15 1
def imgPatches (b : List Byte) : Nat := leAt b 0x16 1
def imgNanos (b : List Byte) : Nat := leAt b 0x17 1

/-- Where the patch entries begin. -/
def imgPatchAt (b : List Byte) : Nat := if imgType b = 1 then 64 + 8192 * 4 + 1024 * 20 else 64

/-- The patch entries: address and slot. -/
def imgPatchList (b : List Byte) : List (Nat × Nat) :=
  (List.range (imgPatches b)).map (fun i => (leAt b (imgPatchAt b + 8 * i) 2, leAt b (imgPatchAt b + 8 * i + 2) 1))

/-- Where the nano overlay entries begin, and their addresses. -/
def imgNanoAt (b : List Byte) : Nat := imgPatchAt b + 8 * imgPatches b
def imgNanoList (b : List Byte) : List Nat := (List.range (imgNanos b)).map (fun i => leAt b (imgNanoAt b + 24 * i) 2)

/-- The length the header implies. -/
def imgLen (b : List Byte) : Nat := imgNanoAt b + 24 * imgNanos b + 96

/-- BAD_HEADER (R471): MAGIC, TYPE, HDR_LEN, a zero field, a count above its limit, or LEN. -/
def imgBadHeader (b : List Byte) : Bool :=
  leAt b 0 4 != 0x55434D02 || (imgType b != 1 && imgType b != 2) || leAt b 6 2 != 0x40 ||
  leAt b 5 1 != 0 || imgVer b % 256 != 0 || (if imgType b = 1 then imgBase b != 0 else imgBase b % 65536 != 0) ||
  leAt b 0x1C 36 != 0 || decide (16 < imgPatches b) || decide (32 < imgNanos b) || leAt b 0x18 4 != imgLen b ||
  (List.range (imgPatches b)).any (fun i => leAt b (imgPatchAt b + 8 * i + 3) 1 != 0) ||
  (List.range (imgNanos b)).any (fun i => leAt b (imgNanoAt b + 24 * i + 2) 2 != 0)

/-- No entry of a list occurs twice. -/
def noRepeat : List Nat → Bool
  | [] => true
  | x :: t => !t.contains x && noRepeat t

/-- BAD_PATCH (R471). -/
def imgBadPatch (b : List Byte) : Bool :=
  (imgPatchList b).any (fun e => decide (15 < e.2) || decide (8191 < e.1)) || !noRepeat ((imgPatchList b).map (·.2)) ||
  !noRepeat ((imgPatchList b).map (·.1)) || (imgNanoList b).any (fun a => decide (a < 992) || decide (1023 < a)) || !noRepeat (imgNanoList b)

/-- The checks of R471 in their order: `type` is the type the command takes, `base` the version a PATCH image must name; `sign` says
that the signature and, with `fw`, the firmware release are checked. -/
def State.imageCode (s : State) (b : List Byte) (type : Nat) (sign fw : Bool) : Nat :=
  if imgBadHeader b then 2
  else if leAt b 8 4 ≠ 0x7D1536B2 then 3
  else if fw && decide ((s.rd Reg.DEV_FW_VER).toNat / 65536 < imgFw b) then 4
  else if imgType b ≠ type ∨ (type = 2 ∧ imgBase b / 65536 ≠ (s.rd Reg.CS_UCODE_VER).toNat / 65536) then 5
  else if imgBadPatch b then 6
  else if sign && !Config.sigValid b then 7
  else 1

/-- The result code of a slot's image, BAD_HEADER when its check word fails. -/
def State.slotCode (s : State) (slot : Nat) (fw : Bool) : Nat :=
  match (if slot = 0 then s.store.flash.slotA else s.store.flash.slotB) with
  | some b => s.imageCode b 1 true fw
  | none => 2

/-- The image of a slot. -/
def State.slotImage (s : State) (slot : Nat) : List Byte :=
  (if slot = 0 then s.store.flash.slotA else s.store.flash.slotB).getD []

/-! ### The staging buffer -/

/-- The word that CS_STAGE_DATA shows. -/
def State.stageData (s : State) : Word :=
  Store.getD s.ctl.staging (s.fld Reg.CS_STAGE_ADDR Fld.CS_STAGE_ADDR_OFFSET / 4) 0

/-- The address step after a CS_STAGE_DATA access. -/
def State.stageAdvance (s : State) : State :=
  if s.flag Reg.CS_STAGE_ADDR Fld.CS_STAGE_ADDR_AINC then
    s.setFld Reg.CS_STAGE_ADDR Fld.CS_STAGE_ADDR_OFFSET ((s.fld Reg.CS_STAGE_ADDR Fld.CS_STAGE_ADDR_OFFSET + 4) % 65536)
  else s

/-- A write of CS_STAGE_DATA: ignored while a command runs. -/
def State.stageWrite (s : State) (v : Word) : State :=
  (if s.ctl.run.isSome then s
   else { s with ctl := { s.ctl with
     staging := Store.putD s.ctl.staging (s.fld Reg.CS_STAGE_ADDR Fld.CS_STAGE_ADDR_OFFSET / 4) v 0 } }).stageAdvance

/-- The staged image: the bytes of the staging buffer, as many as its LEN gives. -/
def State.stagedImage (s : State) : List Byte :=
  let len := min 65536 (Store.getD s.ctl.staging 6 0).toNat
  ((List.range (ceilDiv (max 64 len) 4)).flatMap (fun i => leBytes 4 (Store.getD s.ctl.staging i 0).toNat)).take (max 64 len)

/-! ### Flash operations, one at a time in the order requested (spec/21 R497) -/

/-- The starts of requested flushes in the 24 hours before now. -/
def State.dayStarts (s : State) : List Nat := s.store.starts.filter (fun t => decide (s.now < t + 86400000000 * usU))

/-- The first operation begins when it can: Beacon performs it, and no other runs. -/
def State.startOp (s : State) : State :=
  if s.store.opSince.isSome || !s.beaconRuns then s
  else match s.store.ops with
    | [] => s
    | .flush req :: _ => { s with store := { s.store with
        opSince := some s.now, flushAt := some s.now, starts := if req then s.dayStarts ++ [s.now] else s.dayStarts } }
    | _ :: _ => { s with store := { s.store with opSince := some s.now } }

/-- Ask for an operation. -/
def State.pushOp (s : State) (o : FlashOp) : State := { s with store := { s.store with ops := s.store.ops ++ [o] } }.startOp

/-- The first operation ends. -/
def State.popOp (s : State) : State := { s with store := { s.store with ops := s.store.ops.drop 1, opSince := none } }.startOp

/-- The first operation runs: it has begun and Beacon has not stopped. -/
def State.opRuns (s : State) : Bool := s.store.opSince.isSome && s.beaconRuns

/-! ### Commands (R475 to R478) -/

/-- A microcode command ends with a code; `bad` is the first engine that failed read-back. -/
def State.csEnds (s : State) (cmd code bad : Nat) : State :=
  ((s.wr Reg.CS_RES (BitVec.ofNat 32 (cmd * 2 ^ 28 + code * 2 ^ 16 + bad))).raise Reg.CS_STAT Fld.CS_STAT_DONE).raiseIf (code != 1)
    Reg.CS_STAT Fld.CS_STAT_FAIL

/-- What a command meets at once (R475): BUSY, NO_BEACON, or nothing. -/
def State.csRefusal (s : State) (cmd : Nat) : Nat :=
  if s.ctl.run.isSome then 8
  else if cmd = 4 then (if s.beaconRuns then 0 else 9)
  else if s.activeTest || s.strands.any (fun e => e.2.launch.isSome) || s.place.making.isSome then 8
  else if s.beaconRuns then 0 else 9

/-- A write of CS_CMD. (DEDUCED, log 42) -/
def State.csCommand (s : State) (d : Word) : State :=
  let cmd := Fld.CS_CMD_CMD.get d
  let slot := Fld.CS_CMD_SLOT.get d
  if cmd = 0 ∨ 4 < cmd then s
  else
    let r := s.csRefusal cmd
    if r ≠ 0 then s.csEnds cmd r 0xFF
    else
      let code := match cmd with
        | 1 => s.slotCode slot true
        | 2 => s.imageCode s.stagedImage 2 true true
        | 4 => s.imageCode s.stagedImage 1 false false
        | _ => 1
      let s1 := ({ s with ctl := { s.ctl with run := some ⟨cmd, slot, s.now, code⟩ } }).raise Reg.CS_STAT Fld.CS_STAT_BUSY
      if cmd = 4 ∧ code = 1 then s1.pushOp (.program slot s1.stagedImage) else s1

/-- Show the patch slots and overlays in force (R477). -/
def State.showPatch (s : State) (b : List Byte) : State :=
  let l := imgPatchList b
  let s1 := s.wr Reg.CS_PATCH (BitVec.ofNat 32 (imgNanos b * 2 ^ 16 + (l.map (fun e => 2 ^ e.2)).foldl (fun m x => m + x) 0))
  s1.each (List.range 16) (fun s i => s.wr (Reg.CS_PATCH_ADDR + 4 * i) (match l.find? (fun e => e.2 == i) with
    | some e => BitVec.ofNat 32 e.1
    | none => 0))

/-- The version in force (R478), and what the reserve engines hold (R479); an engine that failed read-back holds what the spec does
not state. (DEDUCED, log 42) -/
def State.showVersion (s : State) (ver : Nat) (rt : Bool) (slot : Nat) (bad : List Nat) : State :=
  let s1 := s.wr Reg.CS_UCODE_VER (BitVec.ofNat 32 (ver / 256 * 256 + bitN rt * 2 + slot))
  s1.each (List.range 16) (fun s c =>
    if bad.contains (13 * c + 12) then
      let (v, s2) := s.free
      s2.setFld (reserveA c Reg.RE_UCODE_VER) Fld.RE_UCODE_VER_VER v
    else s.setFld (reserveA c Reg.RE_UCODE_VER) Fld.RE_UCODE_VER_VER (ver / 256))

/-- The engines whose read-back differs go out of service (R472). -/
def State.readBack (s : State) (bad : List Nat) : State :=
  (s.satAdd Reg.CS_STAT Fld.CS_STAT_ENG_BAD bad.length).each bad State.engineFails

/-- The BASE image of a slot comes into force with its patch section. -/
def State.baseLoaded (s : State) (slot : Nat) (b : List Byte) (bad : List Nat) : State :=
  (({ s with ctl := { s.ctl with base := b, patch := none } }).showPatch b).showVersion (imgVer b) false slot bad |>.readBack bad

/-- What a command that has passed its checks does to the engines, or to the flash. -/
def State.csAct (s : State) (r : CsRun) (bad : List Nat) : State :=
  let slot := s.fld Reg.CS_UCODE_VER Fld.CS_UCODE_VER_SLOT
  match r.cmd with
  | 1 => s.baseLoaded r.slot (s.slotImage r.slot) bad
  | 2 =>
    let b := s.stagedImage
    let ver := imgVer s.ctl.base / 65536 * 65536 + imgVer b / 256 % 256 * 256
    ((({ s with ctl := { s.ctl with patch := some b } }).showPatch b).showVersion ver true slot bad).readBack bad
  | 3 => s.baseLoaded slot s.ctl.base bad
  | _ => { s with store := { s.store with flash :=
      if r.slot = 0 then { s.store.flash with slotA := some s.stagedImage } else { s.store.flash with slotB := some s.stagedImage } } }.popOp

/-- The time since an instant, in units of 10 us. -/
def State.loadTime (s : State) (since : Nat) : Nat := (openDiv ((s.now - since : Nat) : Int) (10 * usU)).toNat

/-- CS_LOADED after a slot load (R473) that took a time, in units of 10 us. -/
def State.showLoaded (s : State) (fallback : Bool) (codeA codeB time : Nat) : State :=
  s.wr Reg.CS_LOADED (BitVec.ofNat 32 (bitN fallback * 2 ^ 31 + codeA % 16 * 2 ^ 20 + codeB % 16 * 2 ^ 16 + time % 65536))

/-- The self-test requests that waited are checked (R476). -/
def State.runWaitingTests (s : State) : State :=
  ({ s with power := { s.power with testWaits := [] } }).each s.power.testWaits State.rtStart

/-- Whether the write of a PROGRAM can end: its flash operation runs. -/
def State.csReady (s : State) (r : CsRun) : Bool :=
  r.cmd != 4 || r.code != 1 || (s.opRuns && (match s.store.ops with | .program _ _ :: _ => true | _ => false))

/-- CS_COMMAND_DONE: the command running ends; `bad` are the engines whose read-back differs. (DEDUCED, log 42) -/
def execCsCommandDone (bad : List (Fin 208)) (at_ : Nat) (s : State) : Host.Outcome State Fault Refusal :=
  .next (match s.ctl.run with
    | none => s
    | some r =>
      if !s.csReady r then s
      else
        let s1 := (({ s with ctl := { s.ctl with run := none } }).advanceTo at_).setFld Reg.CS_STAT Fld.CS_STAT_BUSY 0
        let l := if r.cmd = 4 ∨ r.code ≠ 1 then [] else (List.range 208).filter (fun e => bad.any (fun (b : Fin 208) => b.val == e))
        let s2 := if r.code = 1 then s1.csAct r l else s1
        let s3 := if r.cmd = 1 then
            s2.showLoaded false (if r.slot = 0 then r.code else 0) (if r.slot = 1 then r.code else 0) (s2.loadTime r.at_)
          else s2
        (s3.csEnds r.cmd r.code (l.headD 0xFF)).runWaitingTests)

end Sys2Proof.Machine
end

