-- ==== Sys2Proof/Machine/Life.lean ====
section
/-! DEFINITION. The life store (spec/21_life_store.md R490 to R501): lifetime counters, flushes, the setup image, the calendar, history; and the
calibration commit (spec/13_calibration.md R349). -/

namespace Sys2Proof.Machine

/-! ### Lifetime counters -/

/-- The stored value of counter `i` with its pending count (R496). -/
def State.lifeCount (s : State) (i : Nat) : Nat :=
  if 1556 < i then 0 else min 4294967295 (Store.getD s.store.flash.life i 0 + Store.getD s.counts i 0)

/-- LS_CNT as it reads, and the step after a read. -/
def State.lsCnt (s : State) : Word := BitVec.ofNat 32 (s.lifeCount (s.fld Reg.LS_CNT_SEL Fld.LS_CNT_SEL_INDEX))
def State.cntAdvance (s : State) : State :=
  let i := s.fld Reg.LS_CNT_SEL Fld.LS_CNT_SEL_INDEX
  if s.flag Reg.LS_CNT_SEL Fld.LS_CNT_SEL_AINC then s.setFld Reg.LS_CNT_SEL Fld.LS_CNT_SEL_INDEX (if i = 1556 then 0 else i + 1) else s

/-! ### History -/

/-- LS_HIST_DATA as it reads, and the step after a read. -/
def State.lsHist (s : State) : Word :=
  let e := s.fld Reg.LS_HIST_SEL Fld.LS_HIST_SEL_ENTRY
  match s.store.flash.hist.reverse[e]? with
  | some ws => ws.getD (s.fld Reg.LS_HIST_SEL Fld.LS_HIST_SEL_WORD) 0
  | none => 0
def State.histAdvance (s : State) : State :=
  let a := Reg.LS_HIST_SEL
  let w := s.fld a Fld.LS_HIST_SEL_WORD
  if !s.flag a Fld.LS_HIST_SEL_AINC then s
  else if w = 22 then (s.setFld a Fld.LS_HIST_SEL_WORD 0).setFld a Fld.LS_HIST_SEL_ENTRY (s.fld a Fld.LS_HIST_SEL_ENTRY + 1)
  else s.setFld a Fld.LS_HIST_SEL_WORD (w + 1)

/-- LS_WEAR as it reads. -/
def State.lsWear (s : State) : Word :=
  BitVec.ofNat 32 (s.store.flash.hist.length * 2 ^ 24 + (s.store.flash.erases.map (·.2)).foldl max 0 % 2 ^ 24)

/-- LS_CAL_DAY. -/
def State.calDay (s : State) : Nat := (s.rd Reg.LS_CAL_DAY).toNat

/-- The history entry of this moment (R500), of the counters as stored. -/
def State.histEntry (s : State) (f : Flash) : List Word :=
  let c (i : Nat) : Word := BitVec.ofNat 32 (Store.getD f.life i 0)
  [BitVec.ofNat 32 s.calDay, s.rd Reg.LS_CAL_S] ++ (List.range 16).map (fun i => c (1536 + i)) ++ [c 1552, c 1553, c 1554, c 1555, c 1556]

/-- A snapshot is due: the first flush at or after a day 30k, k from 1 to 243. -/
def State.histDue (s : State) (f : Flash) : Bool :=
  let k := min 243 (s.calDay / 30)
  let done := match f.hist.getLast? with
    | some ws => min 243 ((ws.getD 0 0).toNat / 30)
    | none => 0
  decide (done < k) && decide (f.hist.length < 243)

/-! ### Flushes (R497, R498) -/

/-- The counters of the flash with the first `n` pending counts added. -/
def State.addCounts (s : State) (n : Nat) : Store Nat :=
  (s.counts.take n).foldl (fun (m : Store Nat) (e : Nat × Nat) => Store.putD m e.1 (min 4294967295 (Store.getD m e.1 0 + e.2)) 0) s.store.flash.life

/-- Delta records for the pending counts go to the current sector of LIFE, or a checkpoint to the next one where they do not fit; the
sector left is erased then. -/
def State.lifeRecords (s : State) : Flash :=
  let f := s.store.flash
  let n := s.counts.length
  if f.records + n ≤ 4096 then { f with life := s.addCounts n, records := f.records + n }
  else { f with
    life := s.addCounts n, sector := (f.sector + 1) % 32, records := 1559,
    erases := Store.put f.erases f.sector (Store.getD f.erases f.sector 0 + 1) }

/-- The clock record of this moment. -/
def State.clockNow (s : State) : ClockRec :=
  ⟨(s.rd Reg.LS_CAL_S).toNat, s.rd Reg.TL_AGE_TRIM, s.rd Reg.TL_AGE_RATE, signed 32 (s.rd Reg.TL_AGE_ACC).toNat⟩

/-- A flush that verifies: the pending counts go to LIFE, the calendar and the ageing state to CLOCK, and a snapshot that is due to
HIST. -/
def State.flushed (s : State) : State :=
  let f1 := { s.lifeRecords with clock := some s.clockNow }
  let f2 := if s.histDue f1 then { f1 with hist := f1.hist ++ [s.histEntry f1] } else f1
  { s with counts := [], store := { s.store with flash := f2 } }

/-- A flush cut short (R491, R498). Of its delta records some are written, how many the spec leaves open; of a checkpoint of the next
sector, all or nothing counts; whether the clock record is written is open, and a snapshot that was due is not yet begun, or cut short,
so that HIST fails its check, or written. (DESIGN CHOICE, log 43) -/
def State.cutFlush (s : State) : State :=
  let (v, s1) := s.free
  let (b, s2) := s1.free
  let f := s.store.flash
  let fits := decide (f.records + s.counts.length ≤ 4096)
  let n := if fits then v % (s.counts.length + 1) else if bitOf v 0 then s.counts.length else 0
  let f1 := if fits then { f with life := s.addCounts n, records := f.records + n } else if bitOf v 0 then s.lifeRecords else f
  let hist := if s.histDue f1 && bitOf b 2 then (if bitOf b 3 then f.hist ++ [s.histEntry f1] else []) else f.hist
  { s2 with
    counts := s.counts.drop n
    store := { s2.store with flash := { f1 with
      truncated := bitOf b 0, clock := if bitOf b 1 then some s.clockNow else f.clock, hist := hist } } }

/-- An LS_CMD ends with a code. -/
def State.lsEnds (s : State) (cmd code : Nat) : State :=
  (s.wr Reg.LS_RES (BitVec.ofNat 32 (cmd * 2 ^ 24 + code * 2 ^ 16))).raise Reg.LS_STAT Fld.LS_STAT_DONE

/-- A flush may start only 60 s after the previous one: whether it has to wait. -/
def State.flushEarly (s : State) : Bool :=
  s.store.ops.any (fun o => match o with | .flush _ => true | _ => false) ||
  (match s.store.flushAt with | some t => decide (s.now < t + 60000000 * usU) | none => false)

/-- Ask for a flush. -/
def State.askFlush (s : State) (requested : Bool) : State :=
  if s.flushEarly || !s.store.waiting.isEmpty then { s with store := { s.store with waiting := s.store.waiting ++ [requested] } }
  else s.pushOp (.flush requested)

/-- A write of LS_CMD (R494, R497). -/
def State.lsCommand (s : State) (d : Word) : State :=
  let cmd := Fld.LS_CMD_CMD.get d
  if cmd = 0 ∨ 2 < cmd then s
  else if s.flag Reg.LS_RES Fld.LS_RES_BUSY || (cmd == 2 && decide (Fld.LS_CMD_CONFIRM.get d ≠ 0x15C0)) then
    s.raise Reg.LS_STAT Fld.LS_STAT_CMD_REJ
  else if !s.beaconRuns then s.lsEnds cmd 2
  else if cmd = 1 ∧ 64 ≤ s.dayStarts.length then s.lsEnds 1 4
  else
    let s1 := s.raise Reg.LS_RES Fld.LS_RES_BUSY
    if cmd = 1 then s1.askFlush true else s1.pushOp .setup

/-- SCHEDULED_FLUSH: every 10 minutes. -/
def execScheduledFlush (s : State) : Host.Outcome State Fault Refusal :=
  .next (
    let s1 := s.advanceTo (s.store.schedAt + 600000000 * usU)
    let s2 := { s1 with store := { s1.store with schedAt := s1.now } }
    if s2.store.waiting.contains false || s2.store.ops.contains (.flush false) then s2 else s2.askFlush false)

/-- FLUSH_WAIT_END: 60 s after the start of the previous flush, the one that waited starts. (DEDUCED, log 43) -/
def execFlushWaitEnd (s : State) : Host.Outcome State Fault Refusal :=
  .next (match s.store.waiting with
    | [] => s
    | r :: rest =>
      if s.store.ops.any (fun o => match o with | .flush _ => true | _ => false) then s
      else
        let s1 := match s.store.flushAt with | some t => s.advanceTo (t + 60000000 * usU) | none => s
        ({ s1 with store := { s1.store with waiting := rest } }).pushOp (.flush r))

/-- LS_CMD_DONE: the flush or the write of the setup image under way ends; `ok` says that it verified. (DEDUCED, log 43) -/
def execLsCmdDone (ok : Bool) (at_ : Nat) (s : State) : Host.Outcome State Fault Refusal :=
  .next (
    if !s.opRuns then s
    else match s.store.ops with
      | .flush requested :: _ =>
        let s1 := s.advanceTo at_
        let s2 := (if ok then s1.flushed else s1).popOp
        if requested then s2.lsEnds 1 (if ok then 1 else 3) else s2
      | .setup :: _ =>
        let s1 := s.advanceTo at_
        let f := { s1.store.flash with setup := if ok then some s1.store.shadow else none }
        (({ s1 with store := { s1.store with flash := f } }).popOp).lsEnds 2 (if ok then 1 else 3)
      | _ => s)

/-! ### The setup window (R494) -/

/-- LS_SETUP_DATA as it reads, and the step after an access. -/
def State.setupData (s : State) : Word :=
  let w := s.fld Reg.LS_SETUP_ADDR Fld.LS_SETUP_ADDR_WORD
  if 11 < w ∨ (4 ≤ w ∧ w ≤ 7) then 0 else BitVec.ofNat 32 (leAt s.store.shadow (4 * w) 4)
def State.setupAdvance (s : State) : State :=
  let w := s.fld Reg.LS_SETUP_ADDR Fld.LS_SETUP_ADDR_WORD
  if s.flag Reg.LS_SETUP_ADDR Fld.LS_SETUP_ADDR_AINC then s.setFld Reg.LS_SETUP_ADDR Fld.LS_SETUP_ADDR_WORD (if w = 11 then 0 else w + 1) else s

/-- Put a word into the setup shadow. -/
def putWord (bs : List Byte) (w : Nat) (v : Word) : List Byte :=
  let l := padTo 48 0 bs
  l.take (4 * w) ++ leBytes 4 v.toNat ++ l.drop (4 * w + 4)

/-- A write of LS_SETUP_DATA. -/
def State.setupWrite (s : State) (al : Alias) (d : Word) : State :=
  let w := s.fld Reg.LS_SETUP_ADDR Fld.LS_SETUP_ADDR_WORD
  (if 11 < w then s
   else { s with store := { s.store with
     shadow := putWord s.store.shadow w (aliasValue al (BitVec.ofNat 32 (leAt s.store.shadow (4 * w) 4)) d) } }).setupAdvance

/-! ### The calendar (R499) -/

/-- The day number of a calendar, saturated; what it is before the factory date is open. (DEDUCED, log 43) -/
def State.dayOf (s : State) (cal : Nat) : Nat × State :=
  let f := (s.rd Reg.LS_FACTORY_S).toNat
  if f ≤ cal then (min 7304 ((cal - f) / 86400), s)
  else
    let (v, s1) := s.free
    (v % 7305, s1)

/-- Put the calendar, and the day number with it. -/
def State.setCalendar (s : State) (cal : Nat) : State :=
  let c := cal % 4294967296
  let (d, s1) := s.dayOf c
  ((s1.wr Reg.LS_CAL_S (BitVec.ofNat 32 c)).wr Reg.LS_CAL_DAY (BitVec.ofNat 32 d)).raiseIf (d == 7304 && s.calDay != 7304)
    Reg.LS_STAT Fld.LS_STAT_CAL_END

/-- CALENDAR_TICK: each second; the calendar stops counting without VDD_AON. (DEDUCED, log 43) -/
def execCalendarTick (s : State) : Host.Outcome State Fault Refusal :=
  .next (
    if s.power.aonLost then s else
    let s0 := s.advanceTo (s.store.secAt + 1000000 * usU)
    let s1 := { s0 with store := { s0.store with secAt := s0.now } }
    let s2 := s1.life (1554 + min 2 (s1.fld Reg.DEV_STATE Fld.DEV_STATE_POWER))
    let cal := (s2.rd Reg.LS_CAL_S).toNat
    let t := s2.tideNow / 1200000000
    if s2.tideValid then
      if t + 1 < cal then (s2.raise Reg.LS_STAT Fld.LS_STAT_CAL_SKEW).setCalendar (cal + 1) else s2.setCalendar t
    else s2.setCalendar (cal + 1))

/-! ### The calibration set (R349) -/

/-- A value in force that the calibration store covers: an item other than the RO items, an AD_ pair, CB_REF_DELAY. -/
def inCalSet (a : Nat) : Bool :=
  if 0x400000 ≤ a then decide (calItem a < 0x2D)
  else a == Reg.CB_REF_DELAY || (match blockOf a with
    | .pin n => decide (Reg.AD_OFS_V ≤ a - (Block.pin n).base) && decide (a - (Block.pin n).base < Reg.TD_CFG)
    | _ => false)

/-- A write of CB_COMMIT: an accepted commit is a flash operation. -/
def State.cbCommit (s : State) (d : Word) : State :=
  let s1 := s.commitWrite d
  if s1.flag Reg.CB_BUSY Fld.CB_BUSY_COMMIT && !s.flag Reg.CB_BUSY Fld.CB_BUSY_COMMIT then s1.pushOp .cal else s1

/-- CB_COMMIT_DONE: the commit ends; `ok` says that it verified. -/
def execCbCommitDone (ok : Bool) (at_ : Nat) (s : State) : Host.Outcome State Fault Refusal :=
  .next (match s.store.ops with
    | .cal :: _ =>
      if !s.opRuns then s
      else
        let s1 := s.advanceTo at_
        let f := { s1.store.flash with cal := if ok then some (s1.regs.filter (fun e => inCalSet e.1)) else none }
        ((({ s1 with store := { s1.store with flash := f } }).popOp).setFld Reg.CB_BUSY Fld.CB_BUSY_COMMIT 0).raise Reg.CB_STAT
          (if ok then Fld.CB_STAT_COMMIT_DONE else Fld.CB_STAT_COMMIT_FAIL)
    | _ => s)

end Sys2Proof.Machine
end

