-- ==== Sys2Proof/Machine/Power.lean ====
section
/-! DEFINITION. Resets, deep standby and the start-up sequence (spec/17_clocks_power_startup.md R426 to R438; spec/18_faults_and_thermal.md
R458, R460, R464; spec/22_package_and_supplies.md R510). -/

namespace Sys2Proof.Machine

/-! ### Resets -/

/-- A flash operation under way is cut short (spec/21 R491): the check word of its section fails. (DEDUCED, log 43) -/
def State.cutOp (s : State) : State :=
  if s.store.opSince.isNone then s
  else
    let f := s.store.flash
    match s.store.ops with
    | [] => s
    | .flush _ :: _ => s.cutFlush
    | .setup :: _ => { s with store := { s.store with flash := { f with setup := none } } }
    | .cal :: _ => { s with store := { s.store with flash := { f with cal := none } } }
    | .program slot _ :: _ =>
      { s with store := { s.store with flash := if slot = 0 then { f with slotA := none } else { f with slotB := none } } }

/-- The open records below Grave close into the history, in the order of their sources. -/
def State.closeAll (s : State) : State :=
  s.each ((s.faults.recs.filter (fun e => decide (e.2.cls < 3))).map (·.1)) State.closeRec

/-- The thermal level is what it is at reset. -/
def State.resetLevel (s : State) : State :=
  let s1 := { s with thermal := { s.thermal with overdue := false, haltAt := none, coolSince := none } }
  let s2 := if s1.thLevel = 0 then s1 else s1.send (.therm false)
  s2.wr Reg.TH_STATE 0

/-- RST_N_FALL: everything outside the always-on domain is reset, and of it the records below Grave, the thermal latches, SPI_ and DEV_
(R431). (DEDUCED, log 45) -/
def execRstNFall (s : State) : Host.Outcome State Fault Refusal :=
  .next (
    let s1 := ((s.dropHold.cutOp).closeAll).resetLevel
    let cause := if s1.power.cause = 1 ∧ !s1.power.begun then 1 else 2
    let s2 := if s1.coreOut then (s1.coreReset (fun a => (decide (0x1000 ≤ a) && decide (a < 0x3000)) || isCalendar a)).keepSegments s1
      else s1.coreReset (fun a => (decide (0x1000 ≤ a) && decide (a < 0x3000)) || isCalendar a)
    let h := Reg.FC_HELM_STATE
    let s3 := ((s2.setFld h Fld.FC_HELM_STATE_PENDING 0).setFld h Fld.FC_HELM_STATE_BEACON_RUN 0).setFld h Fld.FC_HELM_STATE_WDT_COUNT 0
    { s3 with forced := { grave := s3.forced.grave }, faultQ := [], power := { s3.power with cause := cause } })

/-- The whole device resets but for the calendar, the flash and, with `grave`, the record of a Grave fault. -/
def State.fullReset (s : State) (grave : Bool) : State :=
  let recs := if grave then s.faults.recs.filter (fun e => e.2.cls == 3) else []
  let s1 := s.dropHold.cutOp
  let s2 := if s1.thLevel = 0 then s1 else s1.send (.therm false)
  let s3 := s2.coreReset (fun a => grave && isCalendar a)
  { s3 with
    forced := { grave := grave && s3.forced.grave }, faultQ := [], thermal := {}, counts := [],
    power := { begun := false, cause := 1 },
    faults := { recs := recs, opened := recs.length, alert := s3.faults.alert } }.showAlert

/-- PWR_OK_FALL: PWR_OK has been low for 1 µs (R430). (DEDUCED, log 45) -/
def execPwrOkFall (s : State) : Host.Outcome State Fault Refusal := .next (s.fullReset true)

/-- VDD_AON_LOSS: every always-on function stops (R510); the calendar stops counting, and goes on from the last clock record. (DEDUCED, log 45) -/
def execVddAonLoss (s : State) : Host.Outcome State Fault Refusal :=
  .next (let s1 := s.fullReset false
    { s1 with power := { s1.power with aonLost := true } })

/-! ### Deep standby (R427, R428) -/

/-- A write of DEV_PWR_CMD that executes. (DEDUCED, log 46) -/
def State.pwrCommand (s : State) (m : Master) (d : Word) : State :=
  let cmd := Fld.DEV_PWR_CMD_CMD.get d
  let rejected := s.raise Reg.DEV_PWR_STAT Fld.DEV_PWR_STAT_CMD_REJ
  if Fld.DEV_PWR_CMD_CONFIRM.get d ≠ 0xD5E1 then rejected
  else if cmd = 1 then
    if s.fld Reg.DEV_STATE Fld.DEV_STATE_STATE = 1 ∧ s.fld Reg.DEV_STATE Fld.DEV_STATE_POWER = 1 ∧ s.place.table.isNone ∧ s.host.cmds.isEmpty then
      s.coreOff
    else rejected
  else if cmd = 2 ∧ m = Master.spi ∧ s.mayWake then s.deepWake 3
  else rejected

/-! ### The start-up sequence (R432) -/

/-- The sequence stands at a step; FAILED stops it there. -/
def State.atStep (s : State) (n : Nat) : State := s.setFld Reg.DEV_STATE Fld.DEV_STATE_STEP n
def State.failed (s : State) : State := s.setFld Reg.DEV_STATE Fld.DEV_STATE_STATE 2

/-- A Grave record is open. -/
def State.graveOpen (s : State) : Bool := s.faults.recs.any (fun e => e.2.cls == 3)

/-- Step 3: the straps are sampled, and the collector checks itself (R431, R480, R454). -/
def State.step3 (s : State) (f : StartFacts) : State :=
  let s1 := (s.setFld Reg.SPI_STAT Fld.SPI_STAT_PRIV (bitN f.priv)).setFld Reg.SPI_STAT Fld.SPI_STAT_MODE f.mode
  if f.selfCheck then s1 else s1.selfCheckFails

/-- The setup body in use: the section's, or the factory defaults when DIR or SETUP fails its check (R492, R493). -/
def State.setupBody (s : State) : List Byte :=
  match s.store.flash.dir, s.store.flash.setup with
  | some _, some b => padTo 48 0 b
  | _, _ => padTo 48 0 (leBytes 4 0 ++ leBytes 6 (0x024B52000000 + Config.serial.toNat))

/-- Step 4: the setup image (R433, R493, R494). -/
def State.step4 (s : State) : State :=
  let b := s.setupBody
  let ok := s.store.flash.dir.isSome && s.store.flash.setup.isSome
  let s1 := (s.wr Reg.HT_IP (BitVec.ofNat 32 (leAt b 0 4))).wr Reg.HT_MAC_LO (BitVec.ofNat 32 (leAt b 4 4))
  let s2 := ((s1.wr Reg.HT_MAC_HI (BitVec.ofNat 32 (leAt b 8 2))).setFld Reg.RG_ADDR Fld.RG_ADDR_RING (leAt b 0x0A 1)).setFld Reg.RG_ADDR
    Fld.RG_ADDR_POS (leAt b 0x0B 1)
  let s3 := (s2.setFld Reg.CS_SLOT Fld.CS_SLOT_PREF (leAt b 0x0C 1 % 2)).wr Reg.LS_FACTORY_S (BitVec.ofNat 32 (s.store.flash.dir.getD 0))
  let s4 := s3.raiseIf (!ok) Reg.DEV_STAT Fld.DEV_STAT_SETUP_DEFAULTED
  { s4 with store := { s4.store with
    shadow := b, helmKey := if ok && bitOf (leAt b 0x0C 1) 1 then some ((b.drop 0x10).take 16) else none } }

/-- Bits of numbers, in words of 32. -/
def State.showBits (s : State) (a n : Nat) (l : List Nat) : State :=
  s.each (List.range n) (fun s i => s.wr (a + 4 * i) (BitVec.ofNat 32 (((l.filter (fun x => x / 32 == i)).map (fun x => 2 ^ (x % 32))).foldl Nat.lor 0)))

/-- The numbers below `n` that a list names, rising. -/
def named {m : Nat} (n : Nat) (l : List (Fin m)) : List Nat := (List.range n).filter (fun i => l.any (fun (x : Fin m) => x.val == i))

/-- Step 5: the logic BIST (R434, R435); the engines of a cove whose sensor is excluded stay out of service (spec/18 R465). -/
def State.step5 (s : State) (f : StartFacts) : State :=
  let engines := named 208 f.engines
  let strands := named 192 f.strands
  let coves := named 16 f.coves
  let lanes := named 17 f.lanes
  let pass := engines.isEmpty && strands.isEmpty && coves.isEmpty && lanes.isEmpty && f.crit == 0
  let s1 := s.wr Reg.BI_RESULT (BitVec.ofNat 32 (2 ^ 31 + bitN pass * 2 ^ 30 + f.crit.toNat * 2 ^ 24 + lanes.length * 2 ^ 16 +
    engines.length * 2 ^ 8 + strands.length))
  let s2 := ((s1.showBits Reg.BI_ENG 7 engines).showBits Reg.BI_STRAND 6 strands).showBits Reg.BI_COVE 1 coves
  let s3 := (s2.each (List.range 16) (fun s c => s.setFld (coveA c Reg.CV_STATE) Fld.CV_STATE_CAUSE 4)).each engines
    (fun s e => (s.engineFails e).fault (srcEngine e) 0 e)
  let excluded := (List.range 16).filter s3.excluded
  let s4 := s3.each (coves ++ excluded) (fun s c => s.each ((List.range 13).map (fun i => 13 * c + i)) State.engineFails)
  let s5 := s4.each (strands ++ coves.flatMap strandsOfCove) (fun s k => s.modStrand k (fun t => { t with out := true }))
  let s6 := s5.each lanes (fun s l =>
    ((if s.fld Reg.BI_LANE Fld.BI_LANE_RESERVE = 0x1F then s.setFld Reg.BI_LANE Fld.BI_LANE_FAIL (s.fld Reg.BI_LANE Fld.BI_LANE_FAIL + 2 ^ l)
      else s.laneFails l)).fault (srcLane l) 0 l)
  if decide (1 < lanes.length) || f.crit != 0 then s6.failed else s6

/-- Step 6: the firmware (R436). -/
def State.step6 (s : State) (f : StartFacts) : State :=
  match f.fw with
  | some v => s.wr Reg.DEV_FW_VER v
  | none => s.raise Reg.DEV_STAT Fld.DEV_STAT_FW_FAIL

/-- No microcode: every engine goes out of service (R437). -/
def State.noUcode (s : State) : State := (s.raise Reg.DEV_STAT Fld.DEV_STAT_UCODE_FAIL).each (List.range 208) State.engineFails

/-- Step 7, microcode (R473): the preferred slot, then the other; how long the load takes, at most 120 ms, is open. (DESIGN CHOICE,
log 42) -/
def State.loadUcode (s : State) (f : StartFacts) : State :=
  let fw := f.fw.isSome
  let pref := s.fld Reg.CS_SLOT Fld.CS_SLOT_PREF
  let c1 := s.slotCode pref fw
  let other := 1 - pref
  let c2 := if c1 = 1 then 0 else s.slotCode other fw
  let bad := named 208 f.engBad
  let (time, s) := s.free
  let codes (s : State) := s.showLoaded (c1 != 1) (if pref = 0 then c1 else c2) (if pref = 1 then c1 else c2) (time % 12001)
  let res (s : State) (code bad : Nat) := s.wr Reg.CS_RES (BitVec.ofNat 32 (code * 2 ^ 16 + bad))
  if c1 = 1 then res (codes (s.baseLoaded pref (s.slotImage pref) bad)) 1 (bad.headD 0xFF)
  else if c2 = 1 then res (codes (s.baseLoaded other (s.slotImage other) bad)) 1 (bad.headD 0xFF)
  else res (codes s.noUcode) c2 0xFF

/-- Step 7, the calibration set (R337, R433). -/
def State.loadCal (s : State) : State :=
  match s.store.flash.cal with
  | some l => s.each l (fun s e => s.wr e.1 e.2)
  | none => s.raise Reg.DEV_STAT Fld.DEV_STAT_CAL_DEFAULTED

/-- Step 7, the journals (R498, R499; spec/16 R406): the calendar goes on from the last clock record when VDD_AON was lost. -/
def State.loadJournals (s : State) : State :=
  let f := s.store.flash
  let s1 := ({ s with store := { s.store with flash := { f with truncated := false } } }).raiseIf f.truncated Reg.LS_STAT Fld.LS_STAT_JRN_TRUNC
  let cal := if s1.power.aonLost then (match f.clock with | some c => c.calendar | none => 0) else (s1.rd Reg.LS_CAL_S).toNat
  let s2 := ({ s1 with power := { s1.power with aonLost := false } }).setCalendar cal
  match f.clock with
  | some c => ((s2.wr Reg.TL_AGE_TRIM c.trim).wr Reg.TL_AGE_RATE c.rate).ageFrom c.acc
  | none => s2

/-- Step 11: the device is READY, in STANDBY; Beacon runs its firmware, or helm goes to the host (R432, R436, R456). -/
def State.step11 (s : State) (f : StartFacts) : State :=
  let s1 := ((s.atStep 11).setFld Reg.DEV_STATE Fld.DEV_STATE_STATE 1).setFld Reg.DEV_STATE Fld.DEV_STATE_POWER 1
  let s2 := s1.setFld Reg.DEV_PWR_STAT Fld.DEV_PWR_STAT_START_MS f.ms.toNat
  if f.fw.isSome then
    { s2 with faults := { s2.faults with kickAt := s2.now } }.setFld Reg.FC_HELM_STATE Fld.FC_HELM_STATE_BEACON_RUN 1
  else (s2.fault srcBeacon 1 0).helmTransfer 2 false

/-- Steps 8 to 11. -/
def State.stepsFrom8 (s : State) (f : StartFacts) (stop : Nat) : State :=
  let s8 := s.atStep 8
  if stop ≤ 8 then s8
  else if !f.dram then s8.failed
  else
    let s9 := s8.atStep 9
    if stop ≤ 9 then s9
    else if !f.loop then (s9.raise Reg.RG_STAT Fld.RG_STAT_SELF_LOOP_FAIL).failed
    else if stop ≤ 10 then s9.atStep 10
    else if stop ≤ 11 then (s9.raiseHold).atStep 11
    else (s9.raiseHold).step11 f

/-- Steps 5 to 11. (DESIGN CHOICE, log 44) -/
def State.stepsFrom5 (s : State) (f : StartFacts) (stop : Nat) : State :=
  let s5 := s.atStep 5
  if stop ≤ 5 then s5
  else
    let t := s5.step5 f
    if t.fld Reg.DEV_STATE Fld.DEV_STATE_STATE = 2 then t
    else if stop ≤ 6 then t.atStep 6
    else
      let u := ((t.atStep 6).step6 f).atStep 7
      if stop ≤ 7 then u else (((u.loadUcode f).loadCal).loadJournals).stepsFrom8 f stop

/-- STARTUP: the sequence runs, from step 3 after a reset and from step 4 after a wake; a rail out of its limits stops it at its step,
and a Grave record after step 3 (R431, R432, R510). (DESIGN CHOICE, log 44) -/
def execStartup (f : StartFacts) (s : State) : Host.Outcome State Fault Refusal :=
  .next (
    if s.power.begun ∨ s.fld Reg.DEV_STATE Fld.DEV_STATE_STATE ≠ 0 then s
    else
      let stop := f.rail.getD 99
      let from3 := s.fld Reg.DEV_STATE Fld.DEV_STATE_STEP = 3
      let s0 := s.advanceTo f.at_
      let s1 := ({ s0 with power := { s0.power with begun := true } }).setFld Reg.DEV_PWR_STAT Fld.DEV_PWR_STAT_LAST_START s0.power.cause
      let s2 := if from3 then s1.step3 f else s1
      if from3 ∧ stop ≤ 3 then s2
      else if s2.graveOpen then s2.failed
      else
        let s3 := s2.atStep 4
        if stop ≤ 4 then s3 else (s3.step4).stepsFrom5 f stop)

/-- THERMAL_RESTART: 10 s below 95 degrees in SHUTDOWN (spec/18 R464); TH_STAT.RESTARTED sets. -/
def execThermalRestart (s : State) : Host.Outcome State Fault Refusal :=
  .next (match s.thermal.coolSince with
    | none => s
    | some t =>
      if s.thLevel ≠ 3 ∨ s.graveOpen then s
      else
        let s1 := ((s.advanceTo (t + 10000000 * usU)).closeAll).resetLevel
        ({ s1 with forced := { grave := s1.forced.grave } }.deepWake 5).raise Reg.TH_STAT Fld.TH_STAT_RESTARTED)

/-- BEACON_BOOT_DONE: the boot code has verified the firmware after a reset of Beacon (spec/18 R458, R460; spec/19 R471). -/
def execBeaconBootDone (fw : Option Word) (at_ : Nat) (s : State) : Host.Outcome State Fault Refusal :=
  .next (match s.faults.booting with
    | none => s
    | some _ =>
      let s0 := s.advanceTo at_
      let s1 := { s0 with faults := { s0.faults with booting := none } }
      match fw with
      | none => (s1.raise Reg.DEV_STAT Fld.DEV_STAT_FW_FAIL).fault srcBeacon 1 0
      | some v =>
        let s2 := ({ s1 with faults := { s1.faults with kickAt := s1.now } }.wr Reg.DEV_FW_VER v).setFld Reg.FC_HELM_STATE
          Fld.FC_HELM_STATE_BEACON_RUN 1
        let s3 := if !s2.ctl.base.isEmpty && decide (v.toNat / 65536 < imgFw s2.ctl.base) then s2.noUcode else s2
        ({ s3 with store := { s3.store with opSince := none } }.startOp).resumePlacing)

end Sys2Proof.Machine
end

