-- ==== Sys2Proof/Machine/RegAccess.lean ====
section
/-! DEFINITION. Register access (spec/02_register_conventions.md R31 to R45, R54 to R66): what a read returns, what a write does, bursts,
privilege, locks, deferral under self-test, and the _SNAP registers. -/

namespace Sys2Proof.Machine

/-! ### Addresses and masters -/

/-- The address space (normal, set, clear or toggle) of a 24-bit byte address (R31, R32). -/
def aliasOf (a : Nat) : Alias :=
  match a / 0x400000 with
  | 0 => .normal
  | 1 => .set
  | 2 => .clear
  | _ => .toggle

/-- Its normal-space address. -/
def normalOf (a : Nat) : Nat := a % 0x400000

/-- A privileged master (R58). -/
def State.privileged (s : State) (m : Master) : Bool :=
  match m with
  | .beacon => true
  | .spi => s.flag Reg.SPI_STAT Fld.SPI_STAT_PRIV
  | .qp n => s.flag (qpA n Reg.HT_QP_PRIV) Fld.HT_QP_PRIV_PRIV

/-- Whether a master can make an access at all: a QP in RTS of a device on the ring, the SPI port once the sequence has reached step 3,
Beacon while it runs. (DEDUCED, log 11) -/
def State.masterLive (s : State) (m : Master) : Bool :=
  match m with
  | .beacon => s.beaconRuns
  | .spi => s.power.begun && !s.power.aonLost
  | .qp n => s.qpRts n && s.coreLive && s.onRing

/-- A register that answers in the present device state (R427, R438). (DEDUCED, log 11) -/
def State.inReach (s : State) (a : Nat) : Bool :=
  if s.coreOut then inAon a
  else if s.fld Reg.DEV_STATE Fld.DEV_STATE_STATE != 1 && decide (s.fld Reg.DEV_STATE Fld.DEV_STATE_STEP < 9) then
    inAon a || (decide (0x3000 ≤ a) && decide (a < 0x4000))
  else true

/-- The register at a 24-bit address, where the map defines one there (R33, R35). -/
def regAlias (a : Nat) : Option RegHit :=
  match regAt (normalOf a) with
  | some h => if h.row.aliased || aliasOf a == .normal then some h else none
  | none => none

/-! ### _SNAP (R66) -/

/-- The block base and the offset width of a _SNAP register. -/
def snapSpec (a : Nat) : Option (Nat × Nat) :=
  if a = Reg.DEV_SNAP then some (0, 16)
  else if a % 0x10000 = 0xFC ∧ 0x10000 ≤ a ∧ a < 0x80000 then some (a - 0xFC, 16)
  else match blockOf a with
    | .cove c => if a = coveA c Reg.CV_SNAP then some (coveA c 0, 15) else none
    | .strand k => if a = strandA k Reg.SQ_SNAP then some (strandA k 0, 13) else none
    | .reserve c => if a = reserveA c Reg.RE_SNAP then some (reserveA c 0, 10) else none
    | _ => none

/-- A register with read-clearing fields. -/
def isRc (a : Nat) : Bool :=
  match regAt a with
  | some h => h.row.rc != 0
  | none => false

/-- A write of `d` to a _SNAP register names an RC register of its block. -/
def snapValid (spec : Nat × Nat) (d : Nat) : Bool := decide (d < 2 ^ spec.2) && isRc (spec.1 + d)

/-! ### What a read returns -/

/-- HOLD_S: whole seconds in the current HOLDOVER. -/
def State.holdSeconds (s : State) : Nat := if s.tlState = 3 then min 65535 ((s.now - s.tide.holdFrom) / (1000000 * usU)) else 0

/-- SQ_STATE with the depths of the flow the strand takes. -/
def State.sqStateView (s : State) (k : Nat) : Word :=
  let t := s.strand (s.flowOf k)
  Fld.SQ_STATE_CALL_DEPTH.put (Fld.SQ_STATE_LOOP_DEPTH.put (s.sq k Reg.SQ_STATE) t.loops.length) t.calls.length

/-- The value of a device-level register that is computed when it is read. (DESIGN CHOICE, log 13) -/
def State.deviceView (s : State) (a : Nat) : Word :=
  if a = Reg.DEV_UPD_PEND then s.updPend
  else if a = Reg.TL_NOW_LO then lo32 s.tideNow
  else if a = Reg.TL_NOW_HI then hi32 s.tideNow
  else if a = Reg.TL_STATE then
    Fld.TL_STATE_MASTER.put (Fld.TL_STATE_HOLD_S.put (s.rd a) s.holdSeconds) (s.fld Reg.TL_CTRL Fld.TL_CTRL_MASTER)
  else if a = Reg.FC_SUMMARY then s.fcSummary
  else if a = Reg.FC_NEXT then s.fcNext
  else if a = Reg.FC_HELM_STATE then Fld.FC_HELM_STATE_LEFT_MS.put (s.rd a) s.helmLeft
  else if a = Reg.LS_CNT then s.lsCnt
  else if a = Reg.LS_HIST_DATA then s.lsHist
  else if a = Reg.LS_WEAR then s.lsWear
  else if a = Reg.LS_SETUP_DATA then s.setupData
  else if a = Reg.CS_STAGE_DATA then s.stageData
  else if a = Reg.SP_PEND then s.spPend
  else if a = Reg.SP_CTX_USED then BitVec.ofNat 32 s.splice.ctxs.length
  else if a = Reg.SP_POOL_USED then BitVec.ofNat 32 (s.splice.ctxs.filter (fun e => e.2.pooled)).length
  else if a = Reg.PL_STATE then s.plState
  else if a = Reg.PL_TAB_DATA then s.plTabData
  else if a = Reg.CB_DATA then s.cbData
  else if Reg.MC_STRM_CONS ≤ a ∧ a < Reg.MC_STRM_CONS + 256 ∧ (a - Reg.MC_STRM_CONS) % 16 = 0 then
    Fld.MC_STRM_CONS_INDEX.put (s.rd a) (s.strmCons ((a - Reg.MC_STRM_CONS) / 16))
  else s.rd a

/-- The same for offset `off` of strand `k`. (DESIGN CHOICE, log 13) -/
def State.strandView (s : State) (k off : Nat) : Word :=
  if off = Reg.SQ_STATE then s.sqStateView k
  else if off = Reg.SQ_FLAGS then Fld.SQ_FLAGS_FAIL.put (s.sq k off) (bitN (s.failFlag k))
  else if off = Reg.SQ_BT_DATA then s.btData k
  else if off = Reg.AG_X_VAL then s.agXVal k
  else if off = Reg.AG_YZ_VAL then s.agYzVal k
  else if off = Reg.AG_TAB_DATA then s.agTabData k
  else if off = Reg.WV_DATA then s.wvData k
  else if Reg.ED_E0 ≤ off ∧ off < Reg.ED_E0 + 24 then s.edData k ((off - Reg.ED_E0) / 4)
  else if off = Reg.SG_TAB_DATA then s.sgData k
  else if off = Reg.FL_INFLIGHT then BitVec.ofNat 32 (min 2047 (s.inflight k))
  else s.sq k off

/-- PM_STAT latches that a limit or a clamp of pin `n` acted, as the bits of a free value say (spec/11_source_measure.md R289): whether
one did follows the load, which is not part of the device. (DESIGN CHOICE, log 13) -/
def State.latchLimits (s : State) (n : Nat) (limit clamp : Bool) : State :=
  (s.raiseIf limit (pinA n Reg.PM_STAT) Fld.PM_STAT_ILIM).raiseIf clamp (pinA n Reg.PM_STAT) Fld.PM_STAT_VCLAMP

/-- The value a register holds as it reads, before read-clearing; ILIM and VCLAMP of PM_STATE and PM_STAT follow the load (R286, R289),
which is not part of the device. (DESIGN CHOICE, log 13) -/
def State.regValue (s : State) (a : Nat) : Word × State :=
  match blockOf a with
  | .strand k => (s.strandView k (a - (Block.strand k).base), s)
  | .pin n =>
    if a = pinA n Reg.PM_STATE then
      let (f, s1) := s.free
      let limit := s.mayLimit n && bitOf f 0
      let clamp := s.mayClamp n && bitOf f 1
      (Fld.PM_STATE_VCLAMP.put (Fld.PM_STATE_ILIM.put (s.pmStateWord n) (bitN limit)) (bitN clamp), s1.latchLimits n limit clamp)
    else if a = pinA n Reg.PM_STAT then
      let (f, s1) := s.free
      let s2 := s1.latchLimits n (bitOf f 0) (bitOf f 1)
      (s2.rd a, s2)
    else (s.rd a, s)
  | .dev => (s.deviceView a, s)
  | _ => (s.rd a, s)

/-- What an access to a data window does to its address register, in the device block or in a strand. -/
def State.advance (s : State) (a : Nat) : State :=
  match blockOf a with
  | .strand k =>
    let off := a - (Block.strand k).base
    if off = Reg.SQ_BT_DATA then s.btAdvance k
    else if off = Reg.AG_TAB_DATA then s.agAdvance k
    else if off = Reg.WV_DATA then s.wvAdvance k
    else if Reg.ED_E0 ≤ off ∧ off < Reg.ED_E0 + 24 then s.edAdvance k ((off - Reg.ED_E0) / 4)
    else if off = Reg.SG_TAB_DATA then s.sgAdvance k
    else s
  | _ =>
    if a = Reg.LS_CNT then s.cntAdvance
    else if a = Reg.LS_HIST_DATA then s.histAdvance
    else if a = Reg.LS_SETUP_DATA then s.setupAdvance
    else if a = Reg.CS_STAGE_DATA then s.stageAdvance
    else if a = Reg.PL_TAB_DATA then s.plTabAdvance
    else if a = Reg.CB_DATA then s.cbAdvance
    else s

/-- Read the word at a 24-bit address as master `m` (R40, R42, R59). -/
def State.regRead (s : State) (m : Master) (a : Nat) : Word × State :=
  match regAlias a with
  | none => (0, s)
  | some h =>
    if h.row.priv && !s.privileged m then (0, s)
    else
      let n := normalOf a
      let (v, s1) := s.regValue n
      let s2 := if h.row.rc = 0 then s1 else s1.wr n (s1.rd n &&& ~~~ BitVec.ofNat 32 h.row.rc)
      (v, s2.advance n)

/-! ### Ignored writes (R54 to R59) -/

/-- A write to a locked or write-once register, or to DEV_LOCK through the clear or toggle space. -/
def State.lockViolation (s : State) (a : Nat) : State :=
  ((s.satAdd Reg.DEV_LOCK_VIOL Fld.DEV_LOCK_VIOL_COUNT 1).setFld Reg.DEV_LOCK_VIOL Fld.DEV_LOCK_VIOL_ADDR a).fault srcFabric 0 a

/-- A write to a privileged register without privilege. -/
def State.privViolation (s : State) (a : Nat) : State :=
  (s.satAdd Reg.DEV_PRIV_VIOL Fld.DEV_PRIV_VIOL_COUNT 1).setFld Reg.DEV_PRIV_VIOL Fld.DEV_PRIV_VIOL_ADDR a

/-! ### Queue pairs and rings (spec/14_host_transport.md R353, R354) -/

/-- The checks of an enable. -/
def State.qpSetup (s : State) (q : Nat) : Bool :=
  let r (o : Nat) := (s.rd (qpA q o)).toNat
  let ok (n : Nat) := decide (4 ≤ n) && decide (n ≤ 16)
  r Reg.HT_QP_PEER != 0 && r Reg.HT_QP_IP != 0 && ok (s.fld (qpA q Reg.HT_QP_RING) Fld.HT_QP_RING_CMD_LOG2) &&
  ok (s.fld (qpA q Reg.HT_QP_RING) Fld.HT_QP_RING_CPL_LOG2) && r Reg.HT_QP_CMD_BASE_LO % 64 == 0 && r Reg.HT_QP_CPL_BASE_LO % 32 == 0 &&
  r Reg.HT_QP_DB_BASE_LO % 64 == 0

/-- QP `q` is enabled: with a good set-up it enters RTS. -/
def State.qpEnable (s : State) (q : Nat) : State :=
  if !s.qpSetup q then s.raise (qpA q Reg.HT_QP_STAT) Fld.HT_QP_STAT_CFG_REJ
  else
    let s1 := (s.setFld (qpA q Reg.HT_QP_CTRL) Fld.HT_QP_CTRL_STATE 1).setFld (qpA q Reg.HT_QP_CTRL) Fld.HT_QP_CTRL_EN 1
    let s2 := s1.setQp q { sPsn := (s.rd (qpA q Reg.HT_QP_SPSN)).toNat, ePsn := (s.rd (qpA q Reg.HT_QP_EPSN)).toNat, progress := s.now }
    s2.each [Reg.HT_QP_CMD_PI, Reg.HT_QP_CMD_CI, Reg.HT_QP_CPL_PI, Reg.HT_QP_CPL_CI] (fun s o => s.wr (qpA q o) 0)

/-- EN is written 0. -/
def State.qpDisable (s : State) (q : Nat) : State :=
  (match s.fld (qpA q Reg.HT_QP_CTRL) Fld.HT_QP_CTRL_STATE with
   | 1 => s.leaveRts q 0
   | _ => (s.setFld (qpA q Reg.HT_QP_CTRL) Fld.HT_QP_CTRL_STATE 0).setFld (qpA q Reg.HT_QP_PRIV) Fld.HT_QP_PRIV_PRIV 0).setFld
    (qpA q Reg.HT_QP_CTRL) Fld.HT_QP_CTRL_EN 0

/-- The set-up fields of HT_QPn_CTRL. -/
def qpCtrlMask : Word := 0x000037F9

/-- A write of HT_QPn_CTRL: fields other than EN only while the QP is DISABLED. -/
def State.qpCtrlWrite (s : State) (q : Nat) (d : Word) : State :=
  let a := qpA q Reg.HT_QP_CTRL
  let st := s.fld a Fld.HT_QP_CTRL_STATE
  let s1 := if st = 0 then s.wr a ((s.rd a &&& ~~~ qpCtrlMask) ||| (d &&& qpCtrlMask))
    else s.raiseIf (d &&& qpCtrlMask != s.rd a &&& qpCtrlMask) (qpA q Reg.HT_QP_STAT) Fld.HT_QP_STAT_CFG_REJ
  if Fld.HT_QP_CTRL_EN.get d = 0 then s1.qpDisable q
  else if st = 0 then s1.qpEnable q else s1

/-- A write to a register of QP `q`. -/
def State.qpWrite (s : State) (q a : Nat) (d v : Word) : State :=
  if a = qpA q Reg.HT_QP_CTRL then s.qpCtrlWrite q d
  else if a = qpA q Reg.HT_QP_PRIV then s.wr a v
  else if s.fld (qpA q Reg.HT_QP_CTRL) Fld.HT_QP_CTRL_STATE = 0 then s.wr a v
  else s.raise (qpA q Reg.HT_QP_STAT) Fld.HT_QP_STAT_CFG_REJ

/-- A write of HT_EVT_CFG or HT_RES_CFG: while EN is 1 only EN can change. -/
def State.ringCfgWrite (s : State) (a : Nat) (v : Word) : State :=
  let s1 :=
    if s.flag a Fld.HT_EVT_CFG_EN then
      (s.raiseIf (Fld.HT_EVT_CFG_EN.put v 0 != Fld.HT_EVT_CFG_EN.put (s.rd a) 0) Reg.HT_STAT Fld.HT_STAT_CFG_REJ).setFld a Fld.HT_EVT_CFG_EN
        (Fld.HT_EVT_CFG_EN.get v)
    else s.wr a v
  s1.deviceApplied s a

/-! ### What a write does -/

/-- A write to a device-level register of the device control block: data `d`, new value `v`. -/
def State.controlWrite (s : State) (m : Master) (al : Alias) (a : Nat) (d v : Word) : State :=
  let armed := s.flag Reg.DEV_UPD_CTRL Fld.DEV_UPD_CTRL_ARM
  if a = Reg.DEV_UPD_STROBE then s.strobe d
  else if a = Reg.DEV_UPD_SCHED then (if armed then s else s.wr a v)
  else if a = Reg.DEV_UPD_CTRL then s.updCtrl v
  else if a = Reg.DEV_LOCK then s.wr a (s.rd a ||| v)
  else if a = Reg.DEV_PWR_CMD then s.pwrCommand m d
  else if a = Reg.BI_RT_CMD then s.rtCommand d
  else if a = Reg.CS_CMD then (s.wr a (v &&& 0x10)).csCommand v
  else if a = Reg.CS_STAGE_DATA then s.stageWrite (aliasValue al s.stageData d)
  else if a = Reg.FC_REC_SEL then s.recSel v
  else if a = Reg.FC_LOG_SEL then s.logSel v
  else if a = Reg.FC_ACK then s.fcAck m d
  else if a = Reg.FC_FORCE then (s.wr a (Fld.FC_FORCE_GO.put v 0)).fcForce v
  else if a = Reg.FC_WDT_KICK then s.wdtKick m
  else if a = Reg.FC_HELM_CMD then s.helmCommand v
  else if a = Reg.TH_EXCLUDE then s.thExclude v
  else if a = Reg.LS_CMD then (s.wr a (v &&& 0xFFFF0000)).lsCommand v
  else if a = Reg.LS_SETUP_DATA then s.setupWrite al d
  else if a = Reg.FL_DEV_CMD then s.flDevCommand d
  else s.wr a v

/-- A write to any other device-level register. -/
def State.deviceWrite (s : State) (al : Alias) (a : Nat) (d v : Word) : State :=
  if a = Reg.HT_EVT_CFG ∨ a = Reg.HT_RES_CFG then s.ringCfgWrite a v
  else if a = Reg.HT_EVT_BASE_LO ∨ a = Reg.HT_EVT_BASE_HI ∨ a = Reg.HT_EVT_RKEY then
    (if s.flag Reg.HT_EVT_CFG Fld.HT_EVT_CFG_EN then s else s.wr a v)
  else if a = Reg.HT_RES_BASE_LO ∨ a = Reg.HT_RES_BASE_HI ∨ a = Reg.HT_RES_RKEY then
    (if s.flag Reg.HT_RES_CFG Fld.HT_EVT_CFG_EN then s else s.wr a v)
  else if a = Reg.RG_CMD then s.rgCommand d
  else if a = Reg.RG_BYPASS then (s.wr a (Fld.RG_BYPASS_GO.put v 0)).rgBypass v
  else if a = Reg.RG_ADDR then s.rgAddr v
  else if a = Reg.TL_CMD then s.tlCommand d
  else if a = Reg.TL_AGE_TRIM ∨ a = Reg.TL_AGE_RATE then s.ageWrite a v
  else if a = Reg.SP_CMD then s.spCommand d
  else if a = Reg.PL_CMD then (if Fld.PL_CMD_RELEASE.get d = 1 then s.release else s)
  else if a = Reg.CB_CMD then s.calCommand d none
  else if a = Reg.CB_DATA then s.cbWrite al d
  else if a = Reg.CB_COMMIT then (s.wr a (Fld.CB_COMMIT_GO.put v 0)).cbCommit v
  else s.wr a v

/-- A write of AQ_CTRL (spec/12 R320, R323, R330): STOP, START, FORCE. -/
def State.aqCtrl (s : State) (k : Nat) (d : Word) : State :=
  let s1 := if Fld.AQ_CTRL_STOP.get d = 1 then s.aqStop k else s
  let s2 := if Fld.AQ_CTRL_START.get d = 1 then s1.aqStart k else s1
  if Fld.AQ_CTRL_FORCE.get d = 1 then s2.aqTrigger k s2.now else s2

/-- A write of SQ_FLAGS: the FAIL flag set or cleared by the host (spec/05 R134). -/
def State.flagsWrite (s : State) (k : Nat) (v : Word) : State :=
  let s1 := s.setFld (strandA k Reg.SQ_FLAGS) Fld.SQ_FLAGS_F (Fld.SQ_FLAGS_F.get v)
  s1.modStrand k (fun t =>
    if Fld.SQ_FLAGS_FAIL.get v = 0 then { t with failTimes := [] } else if t.failTimes.isEmpty then { t with failTimes := [0] } else t)

/-- A write to offset `off` of strand `k`. -/
def State.strandWrite (s : State) (al : Alias) (k off : Nat) (d v : Word) : State :=
  if off = Reg.SQ_CMD then s.sqCommand k (d.toNat % 16)
  else if off = Reg.SQ_FLAGS then s.flagsWrite k v
  else if off = Reg.SQ_BT_DATA then s.btWrite k al d
  else if off = Reg.AG_TAB_DATA then s.agTabWrite k al d
  else if off = Reg.WV_DATA then s.wvWrite k al d
  else if Reg.ED_E0 ≤ off ∧ off < Reg.ED_E0 + 24 then s.edWrite k ((off - Reg.ED_E0) / 4) al d
  else if off = Reg.SG_TAB_DATA then s.sgWrite k al d
  else if off = Reg.AQ_CTRL then s.aqCtrl k d
  else if off = Reg.FL_CMD then s.flCommand k d
  else if off = Reg.FL_DIE then s.flDieWrite k v
  else s.wr (strandA k off) v

/-- A write of TD_CTRL (spec/12 R316): STOP, then START. -/
def State.tdCtrl (s : State) (n : Nat) (d : Word) : State :=
  let s1 := if Fld.TD_CTRL_STOP.get d = 1 then s.tdStop n else s
  if Fld.TD_CTRL_START.get d = 1 then s1.tdStart n else s1

/-- A write to offset `off` of pin `n`; `present` says whether a trip condition of the pin is present, where the write asks for REARM:
the device sees it at the ball, so the model leaves it open unless the command tells. (DEDUCED, log 23) -/
def State.pinWrite (s : State) (n off : Nat) (d v : Word) (present : Option Bool) : State :=
  if off = Reg.PS_LIM then s.psLimWrite n v
  else if off = Reg.PM_LIM_V ∨ off = Reg.PM_LIM_I then s.pmLimWrite n off v
  else if off = Reg.PS_EVT then s.evtWrite n d
  else if off = Reg.PS_BW_CTRL then
    match present with
    | some b => s.bwCtrlWrite n d b
    | none =>
      let (f, s1) := s.free
      s1.bwCtrlWrite n d (bitOf f 0)
  else if off = Reg.PM_FORCE_DIRECT then (s.wr (pinA n off) v).forceDirect n v
  else if off = Reg.TD_CTRL then s.tdCtrl n d
  else s.wr (pinA n off) v

/-- A write that executes at the normal-space address `a`. -/
def State.writeReg (s : State) (m : Master) (al : Alias) (a : Nat) (d v : Word) (present : Option Bool) : State :=
  match snapSpec a with
  | some spec =>
    let (x, s1) := s.regValue (spec.1 + d.toNat)
    s1.wr a x
  | none => match blockOf a with
    | .qp q => s.qpWrite q a d v
    | .cove c => if a = coveA c Reg.CV_CMD then s.cvCommand c d else s.wr a v
    | .strand k => s.strandWrite al k (a - (Block.strand k).base) d v
    | .pin n => s.pinWrite n (a - (Block.pin n).base) d v present
    | .reserve _ => s
    | .dev => if a < 0x10000 then s.controlWrite m al a d v else s.deviceWrite al a d v

/-- The new value of the writable bits of a register (R32, R40). -/
def newValue (row : RegRow) (al : Alias) (old d : Word) : Word :=
  let w := BitVec.ofNat 32 row.w
  (old &&& ~~~ w) ||| (aliasValue al old d &&& w)

/-- Write data `d` to the word at a 24-bit address as master `m`: privilege (R59), locks (R55), the shadow of an update-buffered register
(R47), or the register. (DESIGN CHOICE, log 12) -/
def State.writeWord (s : State) (m : Master) (a : Nat) (d : Word) (present : Option Bool) : State :=
  match regAlias a with
  | none => s
  | some h =>
    let n := normalOf a
    let al := aliasOf a
    if h.row.priv && !s.privileged m then s.privViolation a
    else if (match h.row.lock with | some b => bitOf (s.rd Reg.DEV_LOCK).toNat b | none => false) then s.lockViolation a
    else if n = Reg.DEV_LOCK ∧ (al = .clear ∨ al = .toggle) then s.lockViolation a
    else match h.row.group with
      | some _ => s.writeShadow n (newValue h.row al (s.shadowOf n) d)
      | none => s.writeReg m al n d (newValue h.row al (s.regValue n).1 d) present

/-! ### Bursts (R37 to R43, R60 to R62) -/

/-- How a burst ends: executed with the words read, deferred, or a bus error. -/
inductive Access where
  | done (data : List Word)
  | deferred
  | error
  deriving DecidableEq, Repr

/-- The longest burst of a master (R39); none is stated for Beacon. (DEDUCED, log 11) -/
def burstLimit : Master → Nat
  | .qp _ => 256
  | .spi => 64
  | .beacon => 65536

/-- A word that R40 rejects, at a 24-bit address: `d` is the data of a write. -/
def State.badWord (s : State) (a : Nat) (d : Option Word) : Bool :=
  a % 4 != 0 || !s.inReach (normalOf a) || (match regAlias a with
    | none => true
    | some h => match d with
      | none => false
      | some d => (h.row.w == 0 && h.row.wo == 0) || (match snapSpec (normalOf a) with
        | some spec => !snapValid spec d.toNat
        | none => false))

/-- The strand under self-test whose block an address lies in (R60). -/
def State.testedAt (s : State) (a : Nat) : Option Nat :=
  match strandAt (normalOf a) with
  | some k => if s.sqState k == 6 then some k else none
  | none => none

/-- The first of a list of addresses, with their data, that a write burst cannot put into a hold queue: at most 255 words are held
(R62). (DEDUCED, log 47) -/
def State.holdFull (s : State) : List (Nat × Word) → Store Nat → Option Nat
  | [], _ => none
  | (a, _) :: t, used =>
    match s.testedAt a with
    | none => State.holdFull s t used
    | some k =>
      let n := Store.getD used k (s.strand k).holdQ.length
      if 255 ≤ n then some a else State.holdFull s t (Store.put used k (n + 1))

/-- The first offending address of a burst in burst order (R41), `tail` being bytes beyond the last whole word. -/
def State.burstBad (s : State) (m : Master) (addrs : List Nat) (data : Option (List Word)) (addr tail : Nat) : Option Nat :=
  let bad (i a : Nat) : Bool :=
    decide (burstLimit m ≤ i) || a / 0x400000 != addr / 0x400000 || s.badWord a (data.map (fun l => l.getD i 0))
  let full := match data with
    | some l => s.holdFull (addrs.zip l) []
    | none => none
  match addrs.zipIdx.find? (fun e => bad e.2 e.1 || full == some e.1) with
  | some e => some e.1
  | none => if tail ≠ 0 then some (addr + 4 * addrs.length) else none

/-- A bus error (R41). (DEDUCED, log 47) -/
def State.noteBusError (s : State) (m : Master) (a : Nat) : State :=
  s.wr Reg.DEV_BUS_ERR (BitVec.ofNat 32 (2 ^ 31 + m.code * 2 ^ 24 + a % 16777216))

/-- A read burst. -/
def State.readBurst (s : State) (m : Master) (addrs : List Nat) (addr tail : Nat) : Access × State :=
  match s.burstBad m addrs none addr tail with
  | some a => (.error, s.noteBusError m a)
  | none =>
    if addrs.any (fun a => (s.testedAt a).isSome) then (.deferred, s)
    else
      let (l, s1) := addrs.foldl (fun (x : List Word × State) a =>
        let (v, s2) := x.2.regRead m a
        (x.1 ++ [v], s2)) ([], s)
      (.done l, s1)

/-- A write burst. -/
def State.writeBurst (s : State) (m : Master) (addrs : List Nat) (data : List Word) (addr tail : Nat) (present : Option Bool) :
    Access × State :=
  match s.burstBad m addrs (some data) addr tail with
  | some a => (.error, s.noteBusError m a)
  | none =>
    let held := addrs.any (fun a => (s.testedAt a).isSome)
    let s1 := (addrs.zip data).foldl (fun (x : State) e =>
      match s.testedAt e.1 with
      | some k => x.modStrand k (fun t => { t with holdQ := t.holdQ ++ [.write m e.1 e.2] })
      | none => x.writeWord m e.1 e.2 present) s
    (if held then .deferred else .done [], s1)

/-- The addresses of `n` consecutive words. -/
def wordsFrom (addr n : Nat) : List Nat := (List.range n).map (fun i => addr + 4 * i)

/-- Report an access in the master's own path. -/
def State.report (s : State) (m : Master) (r : Access) (read : Bool) : State :=
  s.send (match r with
    | .done l => if read then .readData m l else .accepted m
    | .deferred => .deferred m
    | .error => .busError m)

/-- A write burst of master `m` at `addr`. (DESIGN CHOICE, log 12) -/
def State.busWrite (s : State) (m : Master) (addr : Nat) (data : List Word) (tail : Nat) (present : Option Bool) : State :=
  if s.masterLive m then
    let (r, s1) := s.writeBurst m (wordsFrom addr data.length) data addr tail present
    s1.report m r false
  else s

/-- A read burst of master `m` at `addr`. -/
def State.busRead (s : State) (m : Master) (addr n tail : Nat) : State :=
  if s.masterLive m then
    let (r, s1) := s.readBurst m (wordsFrom addr n) addr tail
    s1.report m r true
  else s

/-- A write of one word to the register at the normal-space address `a`, through one of the four address spaces. (DESIGN CHOICE, log 12) -/
def State.busWord (s : State) (m : Master) (al : Alias) (a : Nat) (d : Word) : State :=
  s.busWrite m ((match al with | .normal => 0 | .set => 0x400000 | .clear => 0x800000 | .toggle => 0xC00000) + a) [d] 0 none

end Sys2Proof.Machine
end

