-- ==== Sys2Proof/Machine/RegRows.lean ====
section
/-! DEFINITION. The meanings of the register commands: accesses of any kind, and the writes that the spec's command table lists one by one;
each runs through the register fabric (spec/02_register_conventions.md R37 to R66). And the end of a runtime self-test, which replays
the writes held (spec/17_clocks_power_startup.md R441). -/

namespace Sys2Proof.Machine

/-- A word with one field set. -/
def word1 (f : Field) (v : Nat) : Word := f.put 0 v

/-! ### Accesses of any kind -/

/-- REG_WRITE (R40): a write burst of master `m`; `tail` bytes follow the last whole word. -/
def execRegWrite (m : Master) (addr : BitVec 24) (data : List Word) (tail : Fin 4) (s : State) : Host.Outcome State Fault Refusal :=
  .next (s.busWrite m addr.toNat data tail none)

/-- RC_READ (R42): a read burst of master `m`, which clears the RC fields it returns. -/
def execRcRead (m : Master) (addr : BitVec 24) (count : Nat) (tail : Fin 4) (s : State) : Host.Outcome State Fault Refusal :=
  .next (s.busRead m addr.toNat count tail)

/-- SNAP_WRITE: a write of a byte offset to the _SNAP register at `addr` (R66). -/
def execSnapWrite (m : Master) (addr : BitVec 22) (offset : Word) (s : State) : Host.Outcome State Fault Refusal :=
  .next (if (snapSpec addr.toNat).isSome then s.busWord m .normal addr.toNat offset else s)

/-! ### Device control -/

/-- DEV_LOCK_WRITE (R54). -/
def execDevLockWrite (m : Master) (al : Alias) (d : Word) (s : State) : Host.Outcome State Fault Refusal :=
  .next (s.busWord m al Reg.DEV_LOCK d)

/-- UPD_STROBE: an immediate strobe (R51). -/
def execUpdStrobe (m : Master) (mask : Word) (s : State) : Host.Outcome State Fault Refusal :=
  .next (s.busWord m .normal Reg.DEV_UPD_STROBE mask)

/-- UPD_ARM: the scheduled strobe is armed, for TL_UPD_AT or for the slack-water instant (R51, R53). -/
def execUpdArm (m : Master) (slack : Bool) (s : State) : Host.Outcome State Fault Refusal :=
  .next (s.busWord m .normal Reg.DEV_UPD_CTRL (word1 Fld.DEV_UPD_CTRL_SRC (bitN slack) ||| word1 Fld.DEV_UPD_CTRL_ARM 1))

/-- UPD_DISARM: ARM is written 0 (R53). -/
def execUpdDisarm (m : Master) (s : State) : Host.Outcome State Fault Refusal :=
  .next (s.busWord m .normal Reg.DEV_UPD_CTRL 0)

/-- DEV_PWR_DEEP (spec/17 R427). (DEDUCED, log 46) -/
def execDevPwrDeep (m : Master) (confirm : BitVec 16) (s : State) : Host.Outcome State Fault Refusal :=
  .next (s.busWord m .normal Reg.DEV_PWR_CMD (word1 Fld.DEV_PWR_CMD_CONFIRM confirm.toNat ||| word1 Fld.DEV_PWR_CMD_CMD 1))

/-- DEV_PWR_WAKE: a WAKE over SPI, or an armed comparator event of a pin with WAKE_EN (spec/17 R428). (DEDUCED, log 46) -/
def execDevPwrWake (event : Option (Fin 1536)) (s : State) : Host.Outcome State Fault Refusal :=
  .next (match event with
    | none => s.busWord .spi .normal Reg.DEV_PWR_CMD (word1 Fld.DEV_PWR_CMD_CONFIRM 0xD5E1 ||| word1 Fld.DEV_PWR_CMD_CMD 2)
    | some n =>
      if s.coreOut && s.flag (pinA n Reg.PS_EVT) Fld.PS_EVT_ARM && s.flag (pinA n Reg.PS_EVT) Fld.PS_EVT_WAKE_EN then
        s.firePinEvent n (s.cmpState n)
      else s)

/-- RT_SELFTEST_STRAND (spec/17 R439). (DEDUCED, log 41) -/
def execRtSelftestStrand (m : Master) (num : Fin 256) (subst : Bool) (s : State) : Host.Outcome State Fault Refusal :=
  .next (s.busWord m .normal Reg.BI_RT_CMD (word1 Fld.BI_RT_CMD_KIND 1 ||| word1 Fld.BI_RT_CMD_SUBST (bitN subst) ||| word1 Fld.BI_RT_CMD_NUM num))

/-- RT_SELFTEST_ENGINE (spec/17 R439). -/
def execRtSelftestEngine (m : Master) (num : Fin 256) (subst : Bool) (s : State) : Host.Outcome State Fault Refusal :=
  .next (s.busWord m .normal Reg.BI_RT_CMD (word1 Fld.BI_RT_CMD_KIND 2 ||| word1 Fld.BI_RT_CMD_SUBST (bitN subst) ||| word1 Fld.BI_RT_CMD_NUM num))

/-- RT_SELFTEST_LANE (spec/17 R439). -/
def execRtSelftestLane (m : Master) (num : Fin 256) (s : State) : Host.Outcome State Fault Refusal :=
  .next (s.busWord m .normal Reg.BI_RT_CMD (word1 Fld.BI_RT_CMD_KIND 3 ||| word1 Fld.BI_RT_CMD_NUM num))

/-- CV_WAKE (spec/17 R423). -/
def execCvWake (m : Master) (c : Fin 16) (s : State) : Host.Outcome State Fault Refusal :=
  .next (s.busWord m .normal (coveA c Reg.CV_CMD) (word1 Fld.CV_CMD_WAKE 1))

/-- CS_LOAD (spec/19 R475). -/
def execCsLoad (m : Master) (slot : Fin 2) (s : State) : Host.Outcome State Fault Refusal :=
  .next (s.busWord m .normal Reg.CS_CMD (word1 Fld.CS_CMD_SLOT slot ||| word1 Fld.CS_CMD_CMD 1))

/-- CS_APPLY_PATCH (spec/19 R475). -/
def execCsApplyPatch (m : Master) (s : State) : Host.Outcome State Fault Refusal :=
  .next (s.busWord m .normal Reg.CS_CMD (word1 Fld.CS_CMD_CMD 2))

/-- CS_CLEAR_PATCH (spec/19 R475). -/
def execCsClearPatch (m : Master) (s : State) : Host.Outcome State Fault Refusal :=
  .next (s.busWord m .normal Reg.CS_CMD (word1 Fld.CS_CMD_CMD 3))

/-- CS_PROGRAM (spec/19 R475). -/
def execCsProgram (m : Master) (slot : Fin 2) (s : State) : Host.Outcome State Fault Refusal :=
  .next (s.busWord m .normal Reg.CS_CMD (word1 Fld.CS_CMD_SLOT slot ||| word1 Fld.CS_CMD_CMD 4))

/-- LS_FLUSH (spec/21 R497). -/
def execLsFlush (m : Master) (s : State) : Host.Outcome State Fault Refusal :=
  .next (s.busWord m .normal Reg.LS_CMD (word1 Fld.LS_CMD_CMD 1))

/-- LS_SETUP_COMMIT (spec/21 R494). -/
def execLsSetupCommit (m : Master) (confirm : BitVec 16) (s : State) : Host.Outcome State Fault Refusal :=
  .next (s.busWord m .normal Reg.LS_CMD (word1 Fld.LS_CMD_CONFIRM confirm.toNat ||| word1 Fld.LS_CMD_CMD 2))

/-- LS_SETUP_WRITE (spec/21 R494). -/
def execLsSetupWrite (m : Master) (al : Alias) (d : Word) (s : State) : Host.Outcome State Fault Refusal :=
  .next (s.busWord m al Reg.LS_SETUP_DATA d)

/-! ### Faults, helm and thermal -/

/-- FC_ACK (spec/18 R445). -/
def execFcAck (m : Master) (source : Fin 4096) (s : State) : Host.Outcome State Fault Refusal :=
  .next (s.busWord m .normal Reg.FC_ACK (word1 Fld.FC_ACK_SOURCE source))

/-- FC_FORCE (spec/18 R453). -/
def execFcForce (m : Master) (d : Word) (s : State) : Host.Outcome State Fault Refusal :=
  .next (s.busWord m .normal Reg.FC_FORCE d)

/-- FC_REC_SEL (spec/18 R447). -/
def execFcRecSel (m : Master) (al : Alias) (d : Word) (s : State) : Host.Outcome State Fault Refusal :=
  .next (s.busWord m al Reg.FC_REC_SEL d)

/-- FC_LOG_SEL (spec/18 R448). -/
def execFcLogSel (m : Master) (al : Alias) (d : Word) (s : State) : Host.Outcome State Fault Refusal :=
  .next (s.busWord m al Reg.FC_LOG_SEL d)

/-- FC_WDT_KICK (spec/18 R455). -/
def execFcWdtKick (m : Master) (d : Word) (s : State) : Host.Outcome State Fault Refusal :=
  .next (s.busWord m .normal Reg.FC_WDT_KICK d)

/-- FC_HELM_ACK (spec/18 R457). -/
def execFcHelmAck (m : Master) (s : State) : Host.Outcome State Fault Refusal :=
  .next (s.busWord m .normal Reg.FC_HELM_CMD (word1 Fld.FC_HELM_CMD_ACK 1))

/-- FC_HELM_RESET (spec/18 R458). -/
def execFcHelmReset (m : Master) (confirm : BitVec 16) (s : State) : Host.Outcome State Fault Refusal :=
  .next (s.busWord m .normal Reg.FC_HELM_CMD (word1 Fld.FC_HELM_CMD_CONFIRM confirm.toNat ||| word1 Fld.FC_HELM_CMD_RESET 1))

/-- FC_HELM_RETURN (spec/18 R459). -/
def execFcHelmReturn (m : Master) (s : State) : Host.Outcome State Fault Refusal :=
  .next (s.busWord m .normal Reg.FC_HELM_CMD (word1 Fld.FC_HELM_CMD_RETURN 1))

/-- TH_EXCLUDE_WRITE (spec/18 R465). -/
def execThExcludeWrite (m : Master) (al : Alias) (d : Word) (s : State) : Host.Outcome State Fault Refusal :=
  .next (s.busWord m al Reg.TH_EXCLUDE d)

/-! ### Pins -/

/-- PS_LIM_WRITE (spec/03 R73). -/
def execPsLimWrite (m : Master) (al : Alias) (n : Fin 1536) (d : Word) (s : State) : Host.Outcome State Fault Refusal :=
  .next (s.busWord m al (pinA n Reg.PS_LIM) d)

/-- PM_LIM_WRITE: PM_LIM_V or PM_LIM_I (spec/11 R290). -/
def execPmLimWrite (m : Master) (al : Alias) (n : Fin 1536) (current : Bool) (d : Word) (s : State) : Host.Outcome State Fault Refusal :=
  .next (s.busWord m al (pinA n (if current then Reg.PM_LIM_I else Reg.PM_LIM_V)) d)

/-- PS_EVT_ARM (spec/03 R88). -/
def execPsEvtArm (m : Master) (n : Fin 1536) (target : Fin 8) (ring wake : Bool) (s : State) : Host.Outcome State Fault Refusal :=
  .next (s.busWord m .normal (pinA n Reg.PS_EVT) (word1 Fld.PS_EVT_ARM 1 ||| word1 Fld.PS_EVT_TARGET target ||| word1 Fld.PS_EVT_RING_EN (bitN ring) |||
    word1 Fld.PS_EVT_WAKE_EN (bitN wake)))

/-- PS_EVT_DISARM (spec/03 R88). -/
def execPsEvtDisarm (m : Master) (n : Fin 1536) (target : Fin 8) (ring wake : Bool) (s : State) : Host.Outcome State Fault Refusal :=
  .next (s.busWord m .normal (pinA n Reg.PS_EVT) (word1 Fld.PS_EVT_TARGET target ||| word1 Fld.PS_EVT_RING_EN (bitN ring) ||| word1 Fld.PS_EVT_WAKE_EN (bitN wake)))

/-- BW_REARM, with a trip condition of the pin `present` or not (spec/03 R98). -/
def execBwRearm (m : Master) (n : Fin 1536) (action : Fin 4) (present : Bool) (s : State) : Host.Outcome State Fault Refusal :=
  .next (s.busWrite m (pinA n Reg.PS_BW_CTRL) [word1 Fld.PS_BW_CTRL_ACTION action ||| word1 Fld.PS_BW_CTRL_REARM 1] 0 (some present))

/-- PM_FORCE_DIRECT_WRITE (spec/11 R297). -/
def execPmForceDirectWrite (m : Master) (al : Alias) (n : Fin 1536) (d : Word) (s : State) : Host.Outcome State Fault Refusal :=
  .next (s.busWord m al (pinA n Reg.PM_FORCE_DIRECT) d)

/-- TD_START (spec/12 R319). -/
def execTdStart (m : Master) (n : Fin 1536) (s : State) : Host.Outcome State Fault Refusal :=
  .next (s.busWord m .normal (pinA n Reg.TD_CTRL) (word1 Fld.TD_CTRL_START 1))

/-- TD_STOP (spec/12 R319). -/
def execTdStop (m : Master) (n : Fin 1536) (s : State) : Host.Outcome State Fault Refusal :=
  .next (s.busWord m .normal (pinA n Reg.TD_CTRL) (word1 Fld.TD_CTRL_STOP 1))

/-! ### Strands -/

/-- WV_DATA_WRITE (spec/04 R123). -/
def execWvDataWrite (m : Master) (al : Alias) (k : Fin 192) (d : Word) (s : State) : Host.Outcome State Fault Refusal :=
  .next (s.busWord m al (strandA k Reg.WV_DATA) d)

/-- ED_EDGE_WRITE (spec/04 R123). -/
def execEdEdgeWrite (m : Master) (al : Alias) (k : Fin 192) (e : Fin 6) (d : Word) (s : State) : Host.Outcome State Fault Refusal :=
  .next (s.busWord m al (strandA k (Reg.ED_E0 + 4 * e)) d)

/-- SQ_HALT (spec/05 R152, R154, R158). -/
def execSqHalt (m : Master) (k : Fin 192) (s : State) : Host.Outcome State Fault Refusal :=
  .next (s.busWord m .normal (strandA k Reg.SQ_CMD) 1)

/-- SQ_RESUME (spec/05 R152, R154, R158). -/
def execSqResume (m : Master) (k : Fin 192) (s : State) : Host.Outcome State Fault Refusal :=
  .next (s.busWord m .normal (strandA k Reg.SQ_CMD) 2)

/-- SQ_LEDGER_CLR (spec/05 R152, R154, R158). -/
def execSqLedgerClr (m : Master) (k : Fin 192) (s : State) : Host.Outcome State Fault Refusal :=
  .next (s.busWord m .normal (strandA k Reg.SQ_CMD) 3)

/-- SQ_BT_WRITE (spec/05 R159). -/
def execSqBtWrite (m : Master) (al : Alias) (k : Fin 192) (d : Word) (s : State) : Host.Outcome State Fault Refusal :=
  .next (s.busWord m al (strandA k Reg.SQ_BT_DATA) d)

/-- AG_TAB_WRITE (spec/06 R177). -/
def execAgTabWrite (m : Master) (al : Alias) (k : Fin 192) (d : Word) (s : State) : Host.Outcome State Fault Refusal :=
  .next (s.busWord m al (strandA k Reg.AG_TAB_DATA) d)

/-- SG_TAB_WRITE (spec/11 R312). -/
def execSgTabWrite (m : Master) (al : Alias) (k : Fin 192) (d : Word) (s : State) : Host.Outcome State Fault Refusal :=
  .next (s.busWord m al (strandA k Reg.SG_TAB_DATA) d)

/-- AQ_START (spec/12 R320). -/
def execAqStart (m : Master) (k : Fin 192) (s : State) : Host.Outcome State Fault Refusal :=
  .next (s.busWord m .normal (strandA k Reg.AQ_CTRL) (word1 Fld.AQ_CTRL_START 1))

/-- AQ_STOP (spec/12 R330). -/
def execAqStop (m : Master) (k : Fin 192) (s : State) : Host.Outcome State Fault Refusal :=
  .next (s.busWord m .normal (strandA k Reg.AQ_CTRL) (word1 Fld.AQ_CTRL_STOP 1))

/-- AQ_FORCE (spec/12 R323). -/
def execAqForce (m : Master) (k : Fin 192) (s : State) : Host.Outcome State Fault Refusal :=
  .next (s.busWord m .normal (strandA k Reg.AQ_CTRL) (word1 Fld.AQ_CTRL_FORCE 1))

/-- FL_LEDGER_CLR (spec/08 R230). -/
def execFlLedgerClr (m : Master) (k : Fin 192) (s : State) : Host.Outcome State Fault Refusal :=
  .next (s.busWord m .normal (strandA k Reg.FL_CMD) (word1 Fld.FL_CMD_LEDGER_CLR 1))

/-- FL_DIE_WRITE (spec/08 R230). -/
def execFlDieWrite (m : Master) (al : Alias) (k : Fin 192) (d : Word) (s : State) : Host.Outcome State Fault Refusal :=
  .next (s.busWord m al (strandA k Reg.FL_DIE) d)

/-! ### Journal, splice, placement -/

/-- JRN_RESET (spec/08 R219). -/
def execJrnReset (m : Master) (s : State) : Host.Outcome State Fault Refusal :=
  .next (s.busWord m .normal Reg.FL_DEV_CMD 1)

/-- JOURNAL_AUDIT (spec/08 R227). -/
def execJournalAudit (m : Master) (s : State) : Host.Outcome State Fault Refusal :=
  .next (s.busWord m .normal Reg.FL_DEV_CMD 2)

/-- SP_FINAL (spec/09 R244). -/
def execSpFinal (m : Master) (die : BitVec 16) (s : State) : Host.Outcome State Fault Refusal :=
  .next (s.busWord m .normal Reg.SP_CMD (word1 Fld.SP_CMD_CODE 1 ||| word1 Fld.SP_CMD_DIE die.toNat))

/-- SP_FINAL_ALL (spec/09 R244). -/
def execSpFinalAll (m : Master) (s : State) : Host.Outcome State Fault Refusal :=
  .next (s.busWord m .normal Reg.SP_CMD (word1 Fld.SP_CMD_CODE 3))

/-- SP_RELEASE (spec/09 R240). -/
def execSpRelease (m : Master) (die : BitVec 16) (s : State) : Host.Outcome State Fault Refusal :=
  .next (s.busWord m .normal Reg.SP_CMD (word1 Fld.SP_CMD_CODE 2 ||| word1 Fld.SP_CMD_DIE die.toNat))

/-- PL_RELEASE (spec/10 R276). -/
def execPlRelease (m : Master) (s : State) : Host.Outcome State Fault Refusal :=
  .next (s.busWord m .normal Reg.PL_CMD (word1 Fld.PL_CMD_RELEASE 1))

/-! ### Calibration -/

/-- A CB_CMD word. -/
def calWord (kind strand pins ctx src : Nat) : Word :=
  word1 Fld.CB_CMD_KIND kind ||| word1 Fld.CB_CMD_STRAND strand ||| word1 Fld.CB_CMD_PINS pins ||| word1 Fld.CB_CMD_CONTEXT ctx |||
  word1 Fld.CB_CMD_SRC src

/-- CAL_TIMING (spec/13 R338, R343). -/
def execCalTiming (m : Master) (strand : Fin 256) (pins : BitVec 8) (ctx : Fin 4) (s : State) : Host.Outcome State Fault Refusal :=
  .next (s.busWord m .normal Reg.CB_CMD (calWord 1 strand pins.toNat ctx 0))

/-- CAL_LEVELS (spec/13 R338, R343). -/
def execCalLevels (m : Master) (strand : Fin 256) (pins : BitVec 8) (ctx : Fin 4) (s : State) : Host.Outcome State Fault Refusal :=
  .next (s.busWord m .normal Reg.CB_CMD (calWord 2 strand pins.toNat ctx 0))

/-- CAL_CONV (spec/13 R338, R345). -/
def execCalConv (m : Master) (strand : Fin 256) (pins : BitVec 8) (ctx : Fin 4) (s : State) : Host.Outcome State Fault Refusal :=
  .next (s.busWord m .normal Reg.CB_CMD (calWord 3 strand pins.toNat ctx 0))

/-- CAL_SYS_ZERO (spec/13 R338, R344). -/
def execCalSysZero (m : Master) (strand : Fin 256) (pins : BitVec 8) (ctx : Fin 4) (src : Fin 8) (s : State) : Host.Outcome State Fault Refusal :=
  .next (s.busWord m .normal Reg.CB_CMD (calWord 4 strand pins.toNat ctx src))

/-- CAL_SYS_FS (spec/13 R338, R344). -/
def execCalSysFs (m : Master) (strand : Fin 256) (pins : BitVec 8) (ctx : Fin 4) (src : Fin 8) (s : State) : Host.Outcome State Fault Refusal :=
  .next (s.busWord m .normal Reg.CB_CMD (calWord 5 strand pins.toNat ctx src))

/-- CAL_ABORT (spec/13 R342). -/
def execCalAbort (m : Master) (strand : Fin 256) (s : State) : Host.Outcome State Fault Refusal :=
  .next (s.busWord m .normal Reg.CB_CMD (calWord 15 strand 0 0 0))

/-- CB_DATA_WRITE (spec/13 R333). -/
def execCbDataWrite (m : Master) (al : Alias) (d : Word) (s : State) : Host.Outcome State Fault Refusal :=
  .next (s.busWord m al Reg.CB_DATA d)

/-- CB_COMMIT (spec/13 R349). -/
def execCbCommit (m : Master) (confirm : BitVec 16) (s : State) : Host.Outcome State Fault Refusal :=
  .next (s.busWord m .normal Reg.CB_COMMIT (word1 Fld.CB_COMMIT_CONFIRM confirm.toNat ||| word1 Fld.CB_COMMIT_GO 1))

/-! ### Queue pairs, ring and tideline -/

/-- QP_ENABLE: HT_QPn_CTRL is written with EN = 1 (spec/14 R353). -/
def execQpEnable (m : Master) (q : Fin 64) (cfg : Word) (s : State) : Host.Outcome State Fault Refusal :=
  .next (s.busWord m .normal (qpA q Reg.HT_QP_CTRL) (Fld.HT_QP_CTRL_EN.put cfg 1))

/-- QP_DISABLE: HT_QPn_CTRL is written with EN = 0 (spec/14 R354). -/
def execQpDisable (m : Master) (q : Fin 64) (cfg : Word) (s : State) : Host.Outcome State Fault Refusal :=
  .next (s.busWord m .normal (qpA q Reg.HT_QP_CTRL) (Fld.HT_QP_CTRL_EN.put cfg 0))

/-- RG_CMD_SLACK (spec/15 R394). (DEDUCED, log 35) -/
def execRgCmdSlack (m : Master) (s : State) : Host.Outcome State Fault Refusal :=
  .next (s.busWord m .normal Reg.RG_CMD (word1 Fld.RG_CMD_SLACK 1))

/-- RG_CMD_SLACK_CLR (spec/15 R397). -/
def execRgCmdSlackClr (m : Master) (s : State) : Host.Outcome State Fault Refusal :=
  .next (s.busWord m .normal Reg.RG_CMD (word1 Fld.RG_CMD_SLACK_CLR 1))

/-- RG_BYPASS_GO (spec/15 R402). -/
def execRgBypassGo (m : Master) (confirm : BitVec 16) (s : State) : Host.Outcome State Fault Refusal :=
  .next (s.busWord m .normal Reg.RG_BYPASS (word1 Fld.RG_BYPASS_CONFIRM confirm.toNat ||| word1 Fld.RG_BYPASS_GO 1))

/-- TL_AGE_WRITE: TL_AGE_TRIM or TL_AGE_RATE (spec/16 R406). -/
def execTlAgeWrite (m : Master) (al : Alias) (rate : Bool) (d : Word) (s : State) : Host.Outcome State Fault Refusal :=
  .next (s.busWord m al (if rate then Reg.TL_AGE_RATE else Reg.TL_AGE_TRIM) d)

/-- TL_SET (spec/16 R410). -/
def execTlSet (m : Master) (s : State) : Host.Outcome State Fault Refusal :=
  .next (s.busWord m .normal Reg.TL_CMD (word1 Fld.TL_CMD_SET 1))

/-- TL_SETTLE (spec/16 R414). -/
def execTlSettle (m : Master) (s : State) : Host.Outcome State Fault Refusal :=
  .next (s.busWord m .normal Reg.TL_CMD (word1 Fld.TL_CMD_SETTLE 1))

/-! ### The end of a runtime self-test -/

/-- Replay one held entry (R64). -/
def State.replay (s : State) (k : Nat) (h : Held) : State :=
  match h with
  | .write m a d => s.writeWord m a d none
  | .strobe mask => s.strobeStrand k mask.toNat

/-- A strand of a test returns to the state it was in, replays its hold queue, and then takes the stop causes that met the test (R441). -/
def State.testReturn (s : State) (k was : Nat) : State :=
  let q := (s.strand k).holdQ
  let causes := (s.strand k).stops.map (·.1)
  let s1 := (s.setSqState k was).modStrand k (fun t => { t with stops := [], holdQ := [] })
  (s1.each q (fun s h => s.replay k h)).testedCauses k was causes

/-- RT_SELFTEST_END: 14 ms after acceptance. (DEDUCED, log 41) -/
def execRtSelftestEnd (v : RtVerdict) (s : State) : Host.Outcome State Fault Refusal :=
  .next (match s.power.test with
    | none => s
    | some t =>
      let s0 := s.advanceTo (t.at_ + 14000 * usU)
      let r := t.result v
      let s1 := ({ s0 with power := { s0.power with test := none } }).testOutcome t r
      let s2 := match t.strand with
        | none => s1
        | some k =>
          let x := (s1.testReturn k t.was).strandless k
          if r = 3 then x.raiseStop k .deviceFault else x
      if r = 2 then s2.healthChanged else s2)

end Sys2Proof.Machine
end

