-- ==== Sys2Proof/Machine/HostRows.lean ====
section
/-! DEFINITION. The meanings of the host transport's commands (spec/14_host_transport.md): packets of a QP, indices, commands of the
command rings, events and results. -/

namespace Sys2Proof.Machine

/-! ### Packets that arrive (R350, R351) -/

/-- The host transport takes `n` frames of its receive buffer. -/
def State.rxDrain (s : State) (n : Nat) : State := iter State.rxOut n s

/-- What becomes of a packet that has arrived for the host transport: the QP it names, when it may act. A bad ICRC or an unknown QP drops
it and is noted; a QP that is not in RTS takes nothing. -/
def State.arrive (s : State) (h : RoceHead) (frames : Nat) : Option Nat × State :=
  if !(s.coreLive && s.onRing) then (none, s)
  else
    let s1 := s.rxDrain frames
    if !h.icrcOk then (none, s1.raise Reg.HT_STAT Fld.HT_STAT_ICRC)
    else if h.qpn.toNat < 0x100 ∨ 0x140 ≤ h.qpn.toNat then (none, s1.raise Reg.HT_STAT Fld.HT_STAT_UNK_QP)
    else
      let q := h.qpn.toNat - 0x100
      if s1.qpRts q then (some q, s1) else (none, s1)

/-- Where a request's PSN stands against the expected one (R350, go-back-N). -/
inductive Turn where
  | now
  | again
  | early
  deriving DecidableEq, Repr

/-- Of a request with PSN `psn` on QP `q`. (PRESUMED, log 29) -/
def State.turnOf (s : State) (q psn : Nat) : Turn :=
  let d := psnGap psn (s.qp q).ePsn
  if d = 0 then .now else if 8388608 ≤ d then .again else .early

/-- The expected PSN moves past a request of `n` packets. -/
def State.expect (s : State) (q n : Nat) : State := s.modQp q (fun p => { p with ePsn := psnAdd p.ePsn n })

/-- Answer with an ACK, a NAK of a code, or read data. -/
def State.ack (s : State) (q psn : Nat) : State := s.sendRoce q psn 4 0 .ack
def State.nak (s : State) (q psn code : Nat) : State := s.sendRoce q psn 4 0 (.nak code)
def State.respond (s : State) (q psn : Nat) (data : List Byte) : State := s.sendRoce q psn 4 data.length (.readResp data)

/-- The NAK codes of RoCEv2: PSN sequence error, Remote Access Error, Remote Operational Error. (PRESUMED, log 29) -/
def nakSequence : Nat := 0
def nakAccess : Nat := 2
def nakOperational : Nat := 3

/-- A request that is not in its turn: one seen before is acknowledged, one ahead of its turn is NAKed. (PRESUMED, log 29) -/
def State.outOfTurn (s : State) (q psn : Nat) (t : Turn) : State :=
  match t with
  | .early => s.nak q (s.qp q).ePsn nakSequence
  | _ => s.ack q psn

/-! ### Indices (R361 to R364) -/

/-- The descriptors that CMD_PI of QP `q` covers and that have not been asked for are read in index order (R367). -/
def State.fetchMore (s : State) (q : Nat) : State :=
  let from_ := (s.qp q).fetchNext
  let pi := s.qidx q Reg.HT_QP_CMD_PI
  let n := (pi + 4294967296 - from_) % 4294967296
  let s1 := s.modQp q (fun p => { p with fetchNext := pi })
  s1.each (List.range n) (fun s k =>
    let i := (from_ + k) % 4294967296
    s.rdmaRead q (s.rd64 (qpA q Reg.HT_QP_CMD_BASE_LO) + (i % s.cmdSize q) * 64) (s.rd (qpA q Reg.HT_QP_CMD_RKEY)).toNat 64 (.descriptor i))

/-- Bytes of the result ring. -/
def State.resSize (s : State) : Nat := 2 ^ clipTo 16 30 (s.fld Reg.HT_RES_CFG Fld.HT_RES_CFG_LOG2)

/-- QP `q` owns the event ring, or the result ring. (DEDUCED, log 31) -/
def State.ownsEvt (s : State) (q : Nat) : Bool := s.fld Reg.HT_EVT_CFG Fld.HT_EVT_CFG_QP == q
def State.ownsRes (s : State) (q : Nat) : Bool := s.fld Reg.HT_RES_CFG Fld.HT_RES_CFG_QP == q

/-- The indices the host moves. -/
inductive HostIdx where
  | cmdPi
  | cplCi
  | evtCi
  | resCi
  | stream (n : Nat)
  deriving DecidableEq, Repr

/-- The value held of an index, and the highest step that may be taken from it (R364). -/
def State.idxHeld (s : State) (q : Nat) : HostIdx → Nat × Nat
  | .cmdPi => (s.qidx q Reg.HT_QP_CMD_PI, s.cmdSize q)
  | .cplCi =>
    let ci := s.qidx q Reg.HT_QP_CPL_CI
    (ci, min (s.cplSize q) ((s.qidx q Reg.HT_QP_CPL_PI + 4294967296 - ci) % 4294967296))
  | .evtCi => (s.evt.ci, min s.evtSize (s.evt.pi - s.evt.ci))
  | .resCi => (s.host.resCi, min s.resSize (s.host.resPi - s.host.resCi))
  | .stream n => (s.strmProd n, 2147483647)

/-- Take a step of `d` in an index. -/
def State.idxStep (s : State) (q d w : Nat) : HostIdx → State
  | .cmdPi => (s.wr (qpA q Reg.HT_QP_CMD_PI) (BitVec.ofNat 32 w)).fetchMore q
  | .cplCi => s.wr (qpA q Reg.HT_QP_CPL_CI) (BitVec.ofNat 32 w)
  | .evtCi => { s with evt := { s.evt with ci := s.evt.ci + d } }
  | .resCi => { s with host := { s.host with resCi := s.host.resCi + d } }
  | .stream n => s.setFld (strmA Reg.MC_STRM_PROD n) Fld.MC_STRM_PROD_INDEX w

/-- A value `w` of an index arrives on QP `q` (R364). -/
def State.takeIndex (s : State) (q w : Nat) (i : HostIdx) : State :=
  let (v, top) := s.idxHeld q i
  let d := (w + 4294967296 - v % 4294967296) % 4294967296
  if d = 0 then s
  else if d ≤ top then s.idxStep q d w i
  else s.raise (qpA q Reg.HT_QP_STAT) Fld.HT_QP_STAT_IDX_ERR

/-- The index that a knock's KIND names on QP `q` (R362), none where the QP has no such index. -/
def State.knockIdx (s : State) (q kind : Nat) : Option HostIdx :=
  if kind = 1 then some .cmdPi
  else if kind = 2 then some .cplCi
  else if kind = 3 then (if s.ownsEvt q then some .evtCi else none)
  else if kind = 4 then (if s.ownsRes q then some .resCi else none)
  else if 0x10 ≤ kind ∧ kind < 0x20 then
    match Store.get? s.mem.streams (kind - 0x10) with
    | some x => if x.qp = q then some (.stream (kind - 0x10)) else none
    | none => none
  else none

/-- KNOCK (R362): a SEND Only arrives with a payload; the device takes the value in at `at_`, within 2 µs of receipt. (DEDUCED, log 31) -/
def execKnock (h : RoceHead) (payload : List Byte) (at_ : Nat) (s : State) : Host.Outcome State Fault Refusal :=
  .next (
    let (q?, s1) := (s.advanceTo at_).arrive h 1
    match q? with
    | none => s1
    | some q =>
      match s1.turnOf q h.psn.toNat with
      | .now =>
        let s2 := (s1.expect q 1).ack q h.psn.toNat
        if payload.length ≠ 16 then s2.raise (qpA q Reg.HT_QP_STAT) Fld.HT_QP_STAT_KNOCK_BAD
        else match s2.knockIdx q (leAt payload 0 1) with
          | none => s2.raise (qpA q Reg.HT_QP_STAT) Fld.HT_QP_STAT_KNOCK_BAD
          | some i => s2.takeIndex q (leAt payload 4 4) i
      | t => s1.outOfTurn q h.psn.toNat t)

/-- DOORBELL_POLL (R363): the doorbell record of every QP in RTS, and of every open stream, is read. (DEDUCED, log 31) -/
def execDoorbellPoll (at_ : Nat) (s : State) : Host.Outcome State Fault Refusal :=
  .next (if !s.coreLive then s
    else
      let s1 := s.advanceTo at_
      let s2 := s1.each (List.range 64) (fun s q =>
        s.rdmaRead q (s.rd64 (qpA q Reg.HT_QP_DB_BASE_LO)) (s.rd (qpA q Reg.HT_QP_DB_RKEY)).toNat 64 .doorbell)
      s2.each s2.mem.streams (fun s e => s.rdmaRead e.2.qp e.2.bellVa e.2.bellKey 8 (.streamBell e.1)))

/-! ### The register window (R357, R358) -/

/-- QP `q` as a master. -/
def qpMaster (q : Nat) : Master := .qp (Fin.ofNat 64 q)

/-- A window access that R358 rejects: NAK, status, ERROR. -/
def State.windowNak (s : State) (q psn code : Nat) (f : Field) : State :=
  ((s.raise (qpA q Reg.HT_QP_STAT) f).nak q psn code).qpError q

/-- The R_Key or the addresses of a window access are wrong. -/
def State.windowBad (s : State) (q va rkey len : Nat) : Bool :=
  decide ((s.rd (qpA q Reg.HT_QP_WKEY)).toNat ≠ rkey) || decide (0x1000000 < va + len)

/-- The words of data, little-endian; bytes beyond the last whole word are left out. -/
def wordsLe : Nat → List Byte → List Word
  | 0, _ => []
  | n + 1, bs => BitVec.ofNat 32 (leAt bs 0 4) :: wordsLe n (bs.drop 4)

/-- WINDOW_WRITE: an RDMA WRITE to the window has arrived whole; it executes as one burst of master QP n (R357). -/
def execWindowWrite (h : RoceHead) (va : BitVec 64) (rkey : Word) (data : List Byte) (at_ : Nat) (s : State) :
    Host.Outcome State Fault Refusal :=
  .next (
    let (q?, s1) := (s.advanceTo at_).arrive h (packets 1024 data.length)
    match q? with
    | none => s1
    | some q =>
      let psn := h.psn.toNat
      match s1.turnOf q psn with
      | .now =>
        let n := packets (s1.mtu q) data.length
        let last := psnAdd psn (n - 1)
        let s2 := s1.expect q n
        if data.isEmpty then s2.ack q last
        else if s2.windowBad q va.toNat rkey.toNat data.length then s2.windowNak q psn nakAccess Fld.HT_QP_STAT_WIN_ERR
        else
          let words := wordsLe (data.length / 4) data
          let (r, s3) := s2.writeBurst (qpMaster q) (wordsFrom va.toNat words.length) words va.toNat (data.length % 4) none
          match r with
          | .done _ => s3.ack q last
          | .deferred => s3.windowNak q psn nakOperational Fld.HT_QP_STAT_WIN_DEFER
          | .error => s3.windowNak q psn nakAccess Fld.HT_QP_STAT_WIN_ERR
      | t => s1.outOfTurn q psn t)

/-- WINDOW_READ: an RDMA READ of the window executes as one burst and returns the data (R357). A request seen before executes again, as
RoCEv2 has it. -/
def execWindowRead (h : RoceHead) (va : BitVec 64) (rkey len : Word) (at_ : Nat) (s : State) : Host.Outcome State Fault Refusal :=
  .next (
    let (q?, s1) := (s.advanceTo at_).arrive h 1
    match q? with
    | none => s1
    | some q =>
      let psn := h.psn.toNat
      let n := len.toNat
      match s1.turnOf q psn with
      | .early => s1.outOfTurn q psn .early
      | t =>
        let s2 := if t = .now then s1.expect q (packets (s1.mtu q) n) else s1
        if n = 0 then s2.respond q psn []
        else if s2.windowBad q va.toNat rkey.toNat n then s2.windowNak q psn nakAccess Fld.HT_QP_STAT_WIN_ERR
        else
          let (r, s3) := s2.readBurst (qpMaster q) (wordsFrom va.toNat (min 257 (n / 4))) va.toNat (n % 4)
          match r with
          | .done l => s3.respond q psn (l.flatMap (fun w => leBytes 4 w.toNat))
          | .deferred => s3.windowNak q psn nakOperational Fld.HT_QP_STAT_WIN_DEFER
          | .error => s3.windowNak q psn nakAccess Fld.HT_QP_STAT_WIN_ERR)

/-! ### Answers to the device's own requests (R350) -/

/-- Packets, and PSNs, that a request takes. -/
def State.rdmaPackets (s : State) (q : Nat) (r : Rdma) : Nat := packets (s.mtu q) r.len

/-- The PSN of the oldest request of QP `q` that is outstanding. -/
def State.outPsn (s : State) (q : Nat) : Nat :=
  let n := ((s.qp q).out.map (fun r => s.rdmaPackets q r)).foldl (· + ·) 0
  psnGap (s.qp q).sPsn n

/-- Progress on QP `q`: the retries start over, and requests that wait may be sent. -/
def State.progressed (s : State) (q : Nat) (out : List Rdma) : State :=
  let s1 := s.modQp q (fun p => { p with out := out, retries := 0, progress := s.now })
  State.pumpQp ((s1.qp q).queue.length + 1) s1 q

/-- A doorbell record of QP `q` has been read (R361). -/
def State.rangBell (s : State) (q : Nat) (bs : List Byte) : State :=
  let s1 := (s.takeIndex q (leAt bs 0 4) .cmdPi).takeIndex q (leAt bs 4 4) .cplCi
  let s2 := if s1.ownsEvt q then s1.takeIndex q (leAt bs 8 4) .evtCi else s1
  if s2.ownsRes q then s2.takeIndex q (leAt bs 12 4) .resCi else s2

/-- Data that the device asked for have arrived on QP `q`. -/
def State.readDone (s : State) (q : Nat) (bs : List Byte) : ReadUse → State
  | .doorbell => s.rangBell q bs
  | .streamBell n => if (Store.get? s.mem.streams n).isSome then s.takeIndex q (leAt bs 0 4) (.stream n) else s
  | .descriptor i => s.modQp q (fun p => { p with fetched := p.fetched ++ [(i, bs)] })
  | .input i => s.modCmd q i (fun (c : HostCmd) =>
      if c.stage = CmdStage.reading then { c with stage := CmdStage.received, input := bs } else c)
  | .granule n g => s.pulled n g bs
  | .repair k seg g => s.repaired k seg g bs

/-- RDMA_READ_RESPONSE: the data of the oldest RDMA READ outstanding on a QP have arrived whole; the writes sent before it are
acknowledged by them. (PRESUMED, log 29) -/
def execRdmaReadResponse (h : RoceHead) (data : List Byte) (at_ : Nat) (s : State) : Host.Outcome State Fault Refusal :=
  .next (
    let (q?, s1) := (s.advanceTo at_).arrive h (packets 1024 data.length)
    match q? with
    | none => s1
    | some q =>
      let out := (s1.qp q).out
      let before := out.takeWhile (fun r => r.use.isNone)
      let first := psnAdd (s1.outPsn q) ((before.map (fun r => s1.rdmaPackets q r)).foldl (· + ·) 0)
      match out.drop before.length with
      | [] => s1
      | r :: rest =>
        if h.psn.toNat ≠ first ∨ data.length ≠ r.len then s1
        else match r.use with
          | some u => (s1.progressed q rest).readDone q data u
          | none => s1)

/-- Requests that an ACK of PSN `psn` covers: the writes at the front whose last packet it reaches; `first` is the PSN of the front. -/
def acked (size : Rdma → Nat) (psn : Nat) : Nat → List Rdma → List Rdma
  | _, [] => []
  | first, r :: rest =>
    if r.use.isNone && decide (psnGap psn (psnAdd first (size r - 1)) < 8388608) then
      acked size psn (psnAdd first (size r)) rest
    else r :: rest

/-- RDMA_ACK: the host acknowledges requests of the device up to a PSN. -/
def execRdmaAck (h : RoceHead) (at_ : Nat) (s : State) : Host.Outcome State Fault Refusal :=
  .next (
    let (q?, s1) := (s.advanceTo at_).arrive h 1
    match q? with
    | none => s1
    | some q =>
      let out := (s1.qp q).out
      let left := acked (s1.rdmaPackets q) h.psn.toNat (s1.outPsn q) out
      if left.length < out.length then s1.progressed q left else s1)

/-- NAK_RCVD: the host NAKs a request of the device (R354). (PRESUMED, log 29) -/
def execNakRcvd (h : RoceHead) (at_ : Nat) (s : State) : Host.Outcome State Fault Refusal :=
  .next (
    let (q?, s1) := (s.advanceTo at_).arrive h 1
    match q? with
    | none => s1
    | some q =>
      if (s1.qp q).out.isEmpty then s1
      else (s1.raise (qpA q Reg.HT_QP_STAT) Fld.HT_QP_STAT_NAK_RCVD).qpError q)

/-- The local ACK timeout of QP `q` in units: 4.096 µs x 2^TIMEOUT. (PRESUMED, log 29) -/
def State.ackTimeout (s : State) (q : Nat) : Nat :=
  ceilDiv (usU * 4096 * 2 ^ s.fld (qpA q Reg.HT_QP_CTRL) Fld.HT_QP_CTRL_TIMEOUT) 1000

/-- ACK_TIMEOUT: the oldest request of QP `q` has waited its time; all are sent again, or the retries are exhausted (R350, R354). (DESIGN CHOICE, log 8) -/
def execAckTimeout (q : Fin 64) (s : State) : Host.Outcome State Fault Refusal :=
  .next (
    let p := s.qp q
    if !s.qpRts q || p.out.isEmpty then s
    else
      let s1 := s.advanceTo (p.progress + s.ackTimeout q)
      if s1.fld (qpA q Reg.HT_QP_CTRL) Fld.HT_QP_CTRL_RETRY ≤ p.retries then
        (s1.raise (qpA q Reg.HT_QP_STAT) Fld.HT_QP_STAT_RETRY_EXC).qpError q
      else
        let s2 := s1.modQp q (fun p => { p with retries := p.retries + 1, progress := s1.now })
        (p.out.foldl (fun (x : State × Nat) r => x.1.sendRequest q x.2 r) (s2, s1.outPsn q)).1)

/-! ### PFC (R352) -/

/-- The length of `quanta` pause quanta in units: 512 bit times each at 100 Gb/s. (PRESUMED, log 30) -/
def pauseUnits (quanta : Nat) : Nat := ceilDiv (quanta * 512 * usU) 100000

/-- PFC_FRAME: a PFC frame arrives on port `p` with the pause of each priority that `enable` names, in quanta. -/
def execPfcFrame (p : Fin 2) (enable : BitVec 8) (quanta : List (BitVec 16)) (at_ : Nat) (s : State) : Host.Outcome State Fault Refusal :=
  .next (
    let s1 := s.advanceTo at_
    if !(s1.onRing && s1.coreLive && s1.linkState p == 3) then s1
    else
      let set (l : List (Nat × Nat)) (k : Nat) : List (Nat × Nat) :=
        let n := (quanta.getD k 0).toNat
        let rest := l.filter (fun e => e.1 != 8 * p.val + k)
        if n = 0 then rest else rest ++ [(8 * p.val + k, s1.now + pauseUnits n)]
      ({ s1 with host := { s1.host with
        pauses := ((List.range 8).filter (fun k => bitOf enable.toNat k)).foldl set s1.host.pauses } }).drain p)

/-- PFC_PAUSE_EXPIRY: the pause of the host-transport priority on port `p` runs out. -/
def execPfcPauseExpiry (p : Fin 2) (s : State) : Host.Outcome State Fault Refusal :=
  .next (match s.host.pauses.find? (fun e => e.1 == 8 * p.val + s.fld Reg.HT_PFC Fld.HT_PFC_PRIO) with
    | none => s
    | some e =>
      let s1 := s.advanceTo e.2
      ({ s1 with host := { s1.host with pauses := s1.host.pauses.filter (fun x => !(x.1 == e.1) && decide (s1.now < x.2)) } }).drain p)

/-! ### The start of a command (R366 to R368) -/

/-- The bytes of ARGS that an opcode uses, as offset and length (R371). -/
def argsUsed : Nat → List (Nat × Nat)
  | 0x01 => [(0x08, 16), (0x18, 16)]
  | 0x02 => [(0x08, 16)]
  | 0x03 => [(0x08, 2)]
  | 0x04 => [(0x08, 1), (0x10, 16), (0x20, 16), (0x30, 12)]
  | 0x05 => [(0x08, 24), (0x20, 8), (0x28, 2)]
  | 0x06 => [(0x08, 24)]
  | 0x07 => [(0x08, 1), (0x09, 1), (0x0C, 4), (0x10, 4), (0x18, 16)]
  | 0x08 => [(0x08, 4)]
  | 0x09 => [(0x08, 16), (0x18, 16), (0x28, 2)]
  | 0x0A => [(0x08, 24), (0x20, 16)]
  | 0x0B => [(0x08, 16)]
  | 0x0C => [(0x08, 4)]
  | _ => []

/-- Every byte that the opcode does not use is zero (R366). (DEDUCED, log 26) -/
def HostCmd.zerosOk (c : HostCmd) : Bool :=
  let used := (0, 2) :: (4, 4) :: argsUsed c.op
  (List.range 64).all (fun i => used.any (fun u => decide (u.1 ≤ i) && decide (i < u.1 + u.2)) || c.arg i 1 == 0) &&
    decide (c.arg 1 1 ≤ 1)

/-- The fields of a descriptor lie within their limits (R371). (DEDUCED, log 26) -/
def HostCmd.limitsOk (c : HostCmd) : Bool :=
  match c.op with
  | 0x01 => decide (c.bufLen 0x08 ≤ 67108864)
  | 0x04 => decide (c.arg 0x08 1 ≤ 15) && decide (64 ≤ c.bufLen 0x20 / 512)
  | 0x07 => c.arg 0x08 1 == 1 || (c.arg 0x08 1 == 2 && decide (c.arg 0x09 1 < 192))
  | 0x09 => decide (c.arg 0x28 2 ≤ 1024)
  | _ => true

/-- The stated minimum of a command's output buffer, when the buffer is shorter (R371). -/
def HostCmd.shortOf (c : HostCmd) : Option Nat :=
  match c.op with
  | 0x01 => if c.bufLen 0x18 < 5408 then some 5408 else none
  | 0x0A =>
    let n := 64 * ((c.mask 0x08).length + 1)
    if c.bufLen 0x20 < n then some n else none
  | _ => none

/-- The checks at the start of a command, and for the commands without a row of their own for it, the start of their transfer (R368,
R370). (DEDUCED, log 19) -/
def State.admitCmd (s : State) (c : HostCmd) : State :=
  if c.op = 0 ∨ 0x0D < c.op then s.completeWith c 5 0
  else if !(c.zerosOk && c.limitsOk) then s.completeWith c 6 0
  else match c.shortOf with
    | some n => s.completeWith c 7 n
    | none =>
      if c.op = 0x04 then (if c.bufLen 0x10 = 0 then s.completeWith c 1 0 else s.readIn c 0x10)
      else if c.op = 0x09 then (if c.arg 0x28 2 = 0 then s.completeWith c 1 0 else s.readIn c 0x08)
      else s

/-- The descriptor that QP `q` may start now (R367): the next in its ring, fetched, with a completion slot, fewer than 16 commands
running, and none running for a fence. (DEDUCED, log 26) -/
def State.ready (s : State) (q : Nat) : Option (Nat × List Byte) :=
  let i := s.qidx q Reg.HT_QP_CMD_CI
  let open_ := (s.host.cmds.filter (fun c => c.qp == q && !c.lost)).length
  let taken := (s.qidx q Reg.HT_QP_CPL_PI + 4294967296 - s.qidx q Reg.HT_QP_CPL_CI) % 4294967296
  if !s.qpRts q then none
  else match (s.qp q).fetched.find? (fun e => e.1 == i) with
    | none => none
    | some e => if taken + open_ < s.cplSize q ∧ open_ < 16 ∧ (bitOf (leAt e.2 1 1) 0 = false ∨ open_ = 0) then some e else none

/-- COMMAND_START: the next QP in turn with a command ready starts it (R22, R367). (DEDUCED, log 26) -/
def execCommandStart (s : State) : Host.Outcome State Fault Refusal :=
  .next (
    let order := (List.range 64).map (fun i => (s.host.turn + i) % 64)
    match order.find? (fun q => (s.ready q).isSome) with
    | none => s
    | some q =>
      match s.ready q with
      | none => s
      | some (i, d) =>
        let c : HostCmd := { qp := q, idx := i, desc := d, at_ := s.now, stage := .started, input := [], lost := false }
        let s1 := (s.wr (qpA q Reg.HT_QP_CMD_CI) (BitVec.ofNat 32 (i + 1))).modQp q (fun p =>
          { p with fetched := p.fetched.filter (fun e => e.1 != i) })
        ({ s1 with host := { s1.host with turn := (q + 1) % 64, cmds := s1.host.cmds ++ [c] } }).admitCmd c)

/-! ### RUN_AT and HALT (R369, R371) -/

/-- Strand `k` is named by an accepted RUN_AT whose instant for it is not past. -/
def State.runNamed (s : State) (k : Nat) : Bool :=
  (s.strand k).launch.isSome ||
    s.host.cmds.any (fun c => c.op == 5 && (match c.stage with | .strands l _ => l.contains k | _ => false))

/-- Strand `k` would start a run. -/
def State.wouldStart (s : State) (k : Nat) : Bool := s.sqState k == 0 || s.sqState k == 5

/-- A calibration run is on strand `k`. -/
def State.strandCal (s : State) (k : Nat) : Bool := s.calRuns.any (fun e => e.2.strand == k)

/-- Why strand `k` cannot be acted on, with the strand that DETAIL names (R371); none when it can. (DEDUCED, log 27) -/
def State.runReason (s : State) (k : Nat) : Option (Nat × Nat) :=
  let start := s.wouldStart k
  if !(s.entryOf k).placed then some (1, k)
  else if s.role k = 2 then some (2, k)
  else if s.flag Reg.RG_STATE Fld.RG_STATE_SLACK || s.forced.device || (s.strand k).out || (s.engineOf k).isNone ||
      !(s.sqState k == 4 || (start && s.role k != 3)) then some (3, k)
  else if s.strandCal k then some (4, k)
  else if s.runNamed k then some (5, k)
  else if start then
    match (s.groupOf k).find? (fun j => !(s.wouldStart j)) with
    | some j => some (6, j)
    | none => none
  else none

/-- RUN_AT. (DEDUCED, log 27) -/
def execRunAt (s : State) : Host.Outcome State Fault Refusal :=
  .next (match s.nextCmd 0x05 with
    | none => s
    | some c =>
      let ks := c.mask 0x08
      let t := c.arg 0x20 8
      let g := c.arg 0x28 2
      if s.ucodeBusy then s.completeWith c 9 0
      else if !s.tideValid then s.completeWith c 4 1
      else if 2 ≤ s.thLevel then s.completeWith c 4 2
      else if t < s.tideOf c.at_ + 60000 then s.completeWith c 8 0
      else match ks.findSome? (fun k => s.runReason k) with
        | some (r, k) => s.completeWith c 0x0A (r * 16777216 + k)
        | none =>
          if ks.any (fun k => s.wouldStart k) && (s.segment? g).isNone then s.completeWith c 4 (0x00030000 + g)
          else
            let s1 := s.each ks (fun s k => s.modStrand k (fun x =>
              { x with launch := some ⟨t, if s.wouldStart k then some g else none, c.qp⟩ }))
            let s2 := if s1.flag Reg.DEV_UPD_CTRL Fld.DEV_UPD_CTRL_ARM && s1.flag Reg.DEV_UPD_CTRL Fld.DEV_UPD_CTRL_SRC && s1.bound.isNone
              then { s1 with bound := some (c.qp, c.idx, t) } else s1
            if ks.isEmpty then s2.complete c.qp c.idx 0 0 t 0
            else s2.modCmd c.qp c.idx (fun (c : HostCmd) => { c with stage := CmdStage.strands ks 0 }))

/-- HALT: the strands named stop with cause HOST_HALT; one that a RUN_AT has named is not started (R369). (DEDUCED, log 27) -/
def execHalt (s : State) : Host.Outcome State Fault Refusal :=
  .next (match s.nextCmd 0x06 with
    | none => s
    | some c =>
      let ks := c.mask 0x08
      let s1 := s.each (ks.filter (fun k => (s.strand k).launch.isSome)) (fun s k => s.abortRun k)
      let left := ks.filter (fun k => !s1.wouldStart k)
      if left.isEmpty then s1.complete c.qp c.idx 0 0 0 0
      else (s1.modCmd c.qp c.idx (fun (c : HostCmd) => { c with stage := CmdStage.strands left 0 })).each left
        (fun s k => if s.wouldStart k then s else s.raiseStop k .hostHalt))

/-! ### RESULT_FETCH (R370, R371) -/

/-- A journal record without its CRC byte (R214). -/
def JrnRec.value (r : JrnRec) : Nat :=
  match r.type with
  | 2 => 2 + r.seq % 16 * 2 ^ 6 + r.strand * 2 ^ 10 + r.die * 2 ^ 26 + r.ev32 % 2 ^ 32 * 2 ^ 48 + unsigned 40 r.time * 2 ^ 80
  | 3 => 3 + 255 * 2 ^ 10 + unsigned 64 r.time * 2 ^ 56
  | 4 => 4
  | t => t + r.flags * 2 ^ 3 + r.seq % 16 * 2 ^ 6 + r.strand * 2 ^ 10 + r.pins % 256 * 2 ^ 18 + r.die * 2 ^ 26 + r.z % 64 * 2 ^ 42 +
      r.y % 16384 * 2 ^ 48 + r.x % 262144 * 2 ^ 62 + unsigned 40 r.time * 2 ^ 80

/-- A journal group in DRAM: its records with the bytes of the group CRC (R217). -/
def groupBytes (recs : List JrnRec) : List Byte :=
  let crc := crc32 (recs.flatMap (fun r => leBytes 16 r.value))
  recs.zipIdx.flatMap (fun e => leBytes 16 (e.1.value + crc / 256 ^ e.2 % 256 * 2 ^ 120))

/-- The journal group `g` as it is read: `bad` says that it fails its CRC, and then what is read is open. (DESIGN CHOICE, log 20) -/
def State.readGroup (s : State) (g : Nat) (bad : Bool) : List Byte × State :=
  if bad then
    let (f, s1) := s.free
    (leBytes 64 f, s1.groupBad g)
  else (groupBytes (Store.getD s.failPath.journal g (List.replicate 4 padRec)), s)

/-- The records at the front of a list that fit in `room` bytes, at most `n`. -/
def fitting : Nat → Nat → List (List Byte) → List (List Byte)
  | 0, _, _ => []
  | _, _, [] => []
  | n + 1, room, r :: rest => if r.length ≤ room then r :: fitting n (room - r.length) rest else []

/-- Records of the acquisition store of strand `k` have been fetched: their space is free (spec/12 R328). (DEDUCED, log 24) -/
def State.freeRecords (s : State) (k n bytes : Nat) : State :=
  (s.modAcq k (fun a => { a with store := a.store.drop n, spilled := a.spilled - bytes })).aqFill k

/-- RESULT_FETCH: `bad` are the journal groups that fail their CRC as the device reads them. (DEDUCED, log 28) -/
def execResultFetch (bad : List Nat) (s : State) : Host.Outcome State Fault Refusal :=
  .next (match s.nextCmd 0x07 with
    | none => s
    | some c =>
      let count := c.arg 0x0C 4
      let room := c.bufLen 0x18
      let done (s : State) (data : List Byte) (n : Nat) : State :=
        (s.writeOut c 0x18 data).complete c.qp c.idx 0 0 data.length n
      if c.arg 0x08 1 = 1 then
        let first := c.arg 0x10 4
        let n := min (min count (room / 64)) (s.fld Reg.FL_JRN_WP Fld.FL_JRN_WP_GROUPS - first)
        if n = 0 then s.completeWith c 1 0
        else
          let (data, s1) := (List.range n).foldl (fun (x : List Byte × State) i =>
            let (b, s2) := x.2.readGroup (first + i) (bad.contains (first + i))
            (x.1 ++ b, s2)) ([], s)
          done (s1.traffic data.length) data n
      else
        let k := c.arg 0x09 1
        match (s.acq k).store with
        | [] => s.completeWith c 1 0
        | r :: rest =>
          if count = 0 then s.completeWith c 1 0
          else if room < r.length then s.completeWith c 7 r.length
          else
            let l := fitting count room (r :: rest)
            let data := l.flatten
            done (s.freeRecords k l.length data.length) data l.length)

/-! ### REG_BATCH (R372) -/

/-- An entry of a REG_BATCH: address, words, and the data of a write. -/
structure BatchEntry where
  addr : Nat
  count : Nat
  data : Option (List Word)
  deriving DecidableEq, Repr

/-- The entries of a batch, none where one lies outside its limits or beyond the input. (DEDUCED, log 28) -/
def batchEntries : Nat → List Byte → Option (List BatchEntry)
  | 0, _ => some []
  | n + 1, bs =>
    let addr := leAt bs 0 4
    let count := leAt bs 4 2
    let op := leAt bs 6 1
    let size := 8 + (if op = 1 then 4 * count else 0)
    if bs.length < size ∨ 16777216 ≤ addr ∨ count = 0 ∨ 256 < count ∨ 1 < op ∨ leAt bs 7 1 ≠ 0 then none
    else
      let e : BatchEntry := ⟨addr, count, if op = 1 then some (wordsLe count (bs.drop 8)) else none⟩
      (batchEntries n (bs.drop size)).map (fun l => e :: l)

/-- How far a batch has come: read data, entries executed, words read, the first deferred entry, and the entry rejected. -/
structure BatchRun where
  out : List Byte := []
  done : Nat := 0
  words : Nat := 0
  deferred : Option Nat := none
  failed : Option Nat := none

/-- Execute one entry, number `i`, as master `m`. (DEDUCED, log 28) -/
def batchStep (m : Master) (x : BatchRun × State) (e : BatchEntry × Nat) : BatchRun × State :=
  let (b, s) := x
  if b.failed.isSome then x
  else
    let addrs := wordsFrom e.1.addr e.1.count
    let (r, s1) := match e.1.data with
      | some d => s.writeBurst m addrs d e.1.addr 0 none
      | none => s.readBurst m addrs e.1.addr 0
    match r with
    | .done l => ({ b with out := b.out ++ l.flatMap (fun w => leBytes 4 w.toNat), done := b.done + 1, words := b.words + l.length }, s1)
    | .deferred => ({ b with
        out := b.out ++ (if e.1.data.isNone then List.replicate (4 * e.1.count) 0 else []),
        deferred := b.deferred.or (some e.2) }, s1)
    | .error => ({ b with failed := some e.2 }, s1)

/-- REG_BATCH: the entries are in the device and are executed in order. (DEDUCED, log 28) -/
def execRegBatch (s : State) : Host.Outcome State Fault Refusal :=
  .next (match s.cmdAt 0x09 .received with
    | none => s
    | some c =>
      match batchEntries (c.arg 0x28 2) c.input with
      | none => s.completeWith c 6 0
      | some l =>
        let need := 4 * ((l.filter (fun e => e.data.isNone)).map (fun e => e.count)).foldl (· + ·) 0
        if c.bufLen 0x18 < need then s.completeWith c 7 need
        else
          let (b, s1) := l.zipIdx.foldl (batchStep (qpMaster c.qp)) ({}, s)
          let s2 := if b.out.isEmpty then s1 else s1.writeOut c 0x18 b.out
          match b.failed, b.deferred with
          | some i, _ => s2.complete c.qp c.idx 3 i b.done b.words
          | none, some i => s2.complete c.qp c.idx 2 i b.done b.words
          | none, none => s2.complete c.qp c.idx 0 0 b.done b.words)

/-! ### Helm (R355; spec/18_faults_and_thermal.md R457) -/

/-- The helm key in force; there is none while the setup image is defaulted. (DEDUCED, log 32) -/
def State.helmKeyNow (s : State) : Option (List Byte) :=
  if s.flag Reg.DEV_STAT Fld.DEV_STAT_SETUP_DEFAULTED then none else s.store.helmKey

/-- Count a HELM_CLAIM of QP `q` that did not match. (DEDUCED, log 32) -/
def State.keyFail (s : State) (q : Nat) : State :=
  (s.satAdd Reg.HT_KEY_FAIL Fld.HT_KEY_FAIL_COUNT 1).setFld Reg.HT_KEY_FAIL Fld.HT_KEY_FAIL_QP q

/-- HELM_CLAIM. (DEDUCED, log 32) -/
def execHelmClaim (s : State) : Host.Outcome State Fault Refusal :=
  .next (match s.nextCmd 0x0B with
    | none => s
    | some c =>
      if s.host.lockout.isSome then s.completeWith c 0x0B 0
      else match s.helmKeyNow with
        | none => (s.keyFail c.qp).completeWith c 0x0B 0
        | some key =>
          if (c.desc.drop 8).take 16 = key then
            (if c.lost then s else s.setFld (qpA c.qp Reg.HT_QP_PRIV) Fld.HT_QP_PRIV_PRIV 1).completeWith c 0 0
          else
            let s1 := (s.keyFail c.qp).raise Reg.HT_STAT Fld.HT_STAT_KEY_FAIL
            let misses := s1.host.misses.filter (fun t => decide (s1.now < t + 1000000 * usU)) ++ [s1.now]
            let s2 := if 4 ≤ misses.length then
                (({ s1 with host := { s1.host with misses := [], lockout := some (s1.now + 10000000 * usU) } }).raise
                  Reg.HT_STAT Fld.HT_STAT_LOCKOUT).fault srcHost 0 c.qp
              else { s1 with host := { s1.host with misses := misses } }
            s2.completeWith c 0x0B 0)

/-- LOCKOUT_END: the 10 s are over. -/
def execLockoutEnd (s : State) : Host.Outcome State Fault Refusal :=
  .next (match s.host.lockout with
    | none => s
    | some t =>
      let s1 := s.advanceTo t
      { s1 with host := { s1.host with lockout := none } })

/-- HELM_ACK (spec/18 R457). -/
def execHelmAck (s : State) : Host.Outcome State Fault Refusal :=
  .next (match s.nextCmd 0x0C with
    | none => s
    | some c =>
      if !s.privileged (qpMaster c.qp) then s.completeWith c 0x0C 0
      else if s.helmPending && s.rd Reg.FC_HELM_EPOCH == BitVec.ofNat 32 (c.arg 0x08 4) then s.helmAck.completeWith c 0 0
      else s.completeWith c 4 1)

/-- NOP (R371). -/
def execNop (s : State) : Host.Outcome State Fault Refusal :=
  .next (match s.nextCmd 0x0D with
    | none => s
    | some c => s.completeWith c 0 0)

/-! ### Events and results (R374 to R377) -/

/-- An event record as it is written. -/
def EventRec.bytes (e : EventRec) (phase : Nat) : List Byte :=
  leBytes 1 e.kind ++ leBytes 1 phase ++ leBytes 2 0 ++ leBytes 4 e.seq ++ leBytes 8 e.time ++ e.body

/-- Write an event record in the next slot of the event ring. -/
def State.writeEvent (s : State) (e : EventRec) : State :=
  let i := s.evt.pi
  let n := s.evtSize
  let q := s.fld Reg.HT_EVT_CFG Fld.HT_EVT_CFG_QP
  ({ s with evt := { s.evt with pi := i + 1 } }).rdmaWrite q (s.rd64 Reg.HT_EVT_BASE_LO + i % n * 32) (s.rd Reg.HT_EVT_RKEY).toNat
    (e.bytes (phaseBit i n))

/-- EVENT_WRITE: the next record is written to the event ring: a LOST record first, when events have been dropped, and else the oldest
event held (R375). (DEDUCED, log 31) -/
def execEventWrite (s : State) : Host.Outcome State Fault Refusal :=
  .next (
    if !s.evtOpen || s.evtSize ≤ s.evt.pi - s.evt.ci then s
    else if s.evt.dropped ≠ 0 then
      let e : EventRec := ⟨6, s.evt.seq % 4294967296, s.stamp, padTo 16 0 (leBytes 4 s.evt.dropped)⟩
      ({ s with evt := { s.evt with dropped := 0, seq := s.evt.seq + 1 } }).writeEvent e
    else match s.evt.held with
      | [] => s
      | e :: rest => ({ s with evt := { s.evt with held := rest } }).writeEvent e)

/-- The header of a result ring entry (R376). -/
def resHeader (len kind phase : Nat) (trunc : Bool) (seq : Nat) : List Byte :=
  leBytes 4 len ++ leBytes 1 kind ++ leBytes 1 (phase + 2 * bitN trunc) ++ leBytes 2 0 ++ leBytes 4 seq ++ leBytes 4 0

/-- Write bytes at an offset of the result ring. -/
def State.resPut (s : State) (i : Nat) (data : List Byte) : State :=
  s.rdmaWrite (s.fld Reg.HT_RES_CFG Fld.HT_RES_CFG_QP) (s.rd64 Reg.HT_RES_BASE_LO + i % s.resSize) (s.rd Reg.HT_RES_RKEY).toNat data

/-- A pad entry fills the ring to its end, when `size` bytes do not fit before it and there is room (R376). (DEDUCED, log 31) -/
def State.resPad (s : State) (size : Nat) : State :=
  let i := s.host.resPi
  let n := s.resSize
  let pad := n - i % n
  if pad < size ∧ i + pad ≤ s.host.resCi + n then
    ({ s with host := { s.host with resPi := i + pad } }).resPut i (resHeader 0 0 (phaseBit i n) false 0)
  else s

/-- RESULT_WRITE: the oldest result waiting is written to the result ring, its payload first (R376, R377), or waits. (DEDUCED, log 31) -/
def execResultWrite (s : State) : Host.Outcome State Fault Refusal :=
  .next (match s.host.results with
    | [] => s
    | r :: rest =>
      let wait (s : State) : State := s.raise Reg.HT_STAT Fld.HT_STAT_RES_WAIT
      if !(s.flag Reg.HT_RES_CFG Fld.HT_RES_CFG_EN && s.qpRts (s.fld Reg.HT_RES_CFG Fld.HT_RES_CFG_QP)) then wait s
      else
        let n := s.resSize
        let trunc := decide (n < 16 + ceilDiv r.payload.length 16 * 16)
        let body := if trunc then r.payload.take (32 + (n - 48) / 8 * 8) else r.payload
        let size := 16 + ceilDiv body.length 16 * 16
        let s1 := s.resPad size
        let i := s1.host.resPi
        if n - i % n < size ∨ s1.host.resCi + n < i + size then wait s1
        else
          let s2 := { s1 with host := { s1.host with results := rest, resPi := i + size, resSeq := s1.host.resSeq + 1 } }
          let s3 := s2.resPut (i + 16) (padTo (size - 16) 0 body)
          let s4 := s3.resPut i (resHeader body.length 1 (phaseBit i n) trunc (s1.host.resSeq % 4294967296))
          s4.resultWritten r.die (leAt r.payload 8 1))

end Sys2Proof.Machine
end

