-- ==== Sys2Proof/Machine/Spi.lean ====
section
/-! DEFINITION. The SPI management port (spec/20_spi_port.md): frames as the host sends them. -/

namespace Sys2Proof.Machine

/-- The byte address of the word after the one at `a`, within its 64 KiB block (R486). -/
def spiNext (a : Nat) : Nat := if a % 0x10000 = 0xFFFC then a - 0xFFFC else a + 4

/-- The byte addresses of `n` words of a frame from `a` on. -/
def spiAddrs : Nat → Nat → List Nat
  | 0, _ => []
  | n + 1, a => a :: spiAddrs n (spiNext a)

/-- The byte address of a header's word address. -/
def spiAddr (waddr : BitVec 22) : Nat := 4 * waddr.toNat

/-- Set an SPI_STAT bit when `c` holds. -/
def State.spiNote (s : State) (c : Bool) (f : Field) : State := s.raiseIf c Reg.SPI_STAT f

/-- Record a frame other than a READ in SPI_LAST. -/
def State.spiLast (s : State) (outcome words : Nat) (waddr : BitVec 22) : State :=
  s.wr Reg.SPI_LAST (BitVec.ofNat 32 (outcome * 2 ^ 29 + min 127 words * 2 ^ 22 + waddr.toNat))

/-! ### READ (R484, R485) -/

/-- What the device sends for a word fetched: the start byte, the data bytes, and whether the frame goes on. -/
structure SpiWord where
  start : Byte
  data : List Byte
  more : Bool
  deriving DecidableEq, Repr

/-- A word of data, most significant byte first. -/
def spiData (w : Word) : SpiWord := ⟨0xA6, (leBytes 4 w.toNat).reverse, true⟩

/-- Fetch the word at `a` of a READ frame; `first` says that it is the frame's first. -/
def State.spiFetch (s : State) (a : Nat) (first : Bool) : SpiWord × State :=
  if !first && s.badWord a none then (spiData 0, s.raise Reg.SPI_STAT Fld.SPI_STAT_RSV_HIT)
  else
    let (r, s1) := s.readBurst .spi [a] a 0
    match r with
    | .done l => (spiData (l.headD 0), s1)
    | .deferred => (⟨0x9C, [], false⟩, s1.raise Reg.SPI_STAT Fld.SPI_STAT_DEFER)
    | .error => (⟨0x96, [], false⟩, s1.raise Reg.SPI_STAT Fld.SPI_STAT_BUS_ERR)

/-- Fetch words of a READ frame until one ends it, with what is sent: of each word busy bytes, at most 20, the start byte and the data
bytes; the last word fetched is not sent when `cut` says that the frame ends in it. (DEDUCED, log 48) -/
def State.spiReadWords (cut : Bool) : List Nat → Bool → State → List Byte → List Byte × State
  | [], _, s, out => (out, s)
  | a :: rest, first, s, out =>
    let (w, s1) := s.spiFetch a first
    let (f, s2) := s1.free
    let s3 := s2.spiNote (a % 0x10000 == 0xFFFC) Fld.SPI_STAT_WRAP
    if cut && rest.isEmpty then (out, s3)
    else
      let sent := out ++ List.replicate (f % 21) 0x5A ++ [w.start] ++ w.data
      if w.more then State.spiReadWords cut rest false s3 sent else (sent, s3)

/-- SPI_READ: a READ frame at a word address from which the host clocks `words` whole words; `cut` says that it clocks on past the last of
them, or that there is none, and ends the frame within a word (R487). (DEDUCED, log 48) -/
def execSpiRead (waddr : BitVec 22) (words : Nat) (cut : Bool) (s : State) : Host.Outcome State Fault Refusal :=
  .next (if !s.masterLive .spi then s
    else
      let cut := cut || words == 0
      let (out, s1) := State.spiReadWords cut (spiAddrs (words + bitN cut) (spiAddr waddr)) true s []
      (s1.spiNote cut Fld.SPI_STAT_PARTIAL).send (.spiData out))

/-! ### WRITE (R483) -/

/-- SPI_WRITE: a WRITE frame of whole words and `bits` further bits ends. (DEDUCED, log 48) -/
def execSpiWrite (waddr : BitVec 22) (data : List Word) (bits : Fin 32) (s : State) : Host.Outcome State Fault Refusal :=
  .next (if !s.masterLive .spi then s
    else
      let n := data.length
      if bits.val ≠ 0 then (s.raise Reg.SPI_STAT Fld.SPI_STAT_MALFORMED).spiLast 4 n waddr
      else if 64 < n then (s.raise Reg.SPI_STAT Fld.SPI_STAT_LONG).spiLast 5 n waddr
      else if n = 0 then s.spiLast 1 0 waddr
      else
        let addrs := spiAddrs n (spiAddr waddr)
        let s0 := s.spiNote (addrs.any (fun a => a % 0x10000 == 0xFFFC)) Fld.SPI_STAT_WRAP
        let (r, s1) := s0.writeBurst .spi addrs data (spiAddr waddr) 0 none
        match r with
        | .done _ => s1.spiLast 1 n waddr
        | .deferred => (s1.raise Reg.SPI_STAT Fld.SPI_STAT_DEFER).spiLast 2 n waddr
        | .error => (s1.raise Reg.SPI_STAT Fld.SPI_STAT_BUS_ERR).spiLast 3 n waddr)

/-! ### Frames that do nothing (R482) -/

/-- SPI_BAD_CMD: a frame with a reserved command, whose header names a word address and after which `words` whole words follow; a frame of
any command that ends within its header, where `whole` is false. (DEDUCED, log 48) -/
def execSpiBadCmd (waddr : BitVec 22) (words : Nat) (whole : Bool) (s : State) : Host.Outcome State Fault Refusal :=
  .next (if !s.masterLive .spi then s
    else if whole then ((s.raise Reg.SPI_STAT Fld.SPI_STAT_BAD_CMD).spiLast 6 words waddr).send (.spiData (List.replicate (4 * words) 0))
    else s.raise Reg.SPI_STAT Fld.SPI_STAT_PARTIAL)

end Sys2Proof.Machine
end

