-- ==== Sys2Proof/Machine/Dispatch.lean ====
section
/-! DEFINITION. The meaning of every command: one arm per constructor, each one call. -/

namespace Sys2Proof.Machine

def exec (i : Instr) (s : State) : Host.Outcome State Fault Refusal :=
  match i with
  | .regWrite m addr data tail => Sys2Proof.Machine.execRegWrite m addr data tail s
  | .rcRead m addr count tail => Sys2Proof.Machine.execRcRead m addr count tail s
  | .snapWrite m addr offset => Sys2Proof.Machine.execSnapWrite m addr offset s
  | .devLockWrite m al d => Sys2Proof.Machine.execDevLockWrite m al d s
  | .updStrobe m mask => Sys2Proof.Machine.execUpdStrobe m mask s
  | .updArm m slack => Sys2Proof.Machine.execUpdArm m slack s
  | .updDisarm m => Sys2Proof.Machine.execUpdDisarm m s
  | .scheduledStrobe => Sys2Proof.Machine.execScheduledStrobe s
  | .psLimWrite m al n d => Sys2Proof.Machine.execPsLimWrite m al n d s
  | .pmLimWrite m al n current d => Sys2Proof.Machine.execPmLimWrite m al n current d s
  | .psEvtArm m n target ring wake => Sys2Proof.Machine.execPsEvtArm m n target ring wake s
  | .psEvtDisarm m n target ring wake => Sys2Proof.Machine.execPsEvtDisarm m n target ring wake s
  | .comparatorDecision n hi lo at_ => Sys2Proof.Machine.execComparatorDecision n hi lo at_ s
  | .cmpSettled n hi lo => Sys2Proof.Machine.execCmpSettled n hi lo s
  | .holdRefresh => Sys2Proof.Machine.execHoldRefresh s
  | .bwTrip n ovh ovl oc at_ => Sys2Proof.Machine.execBwTrip n ovh ovl oc at_ s
  | .bwEngageCheck bad => Sys2Proof.Machine.execBwEngageCheck bad s
  | .bwRearm m n action present => Sys2Proof.Machine.execBwRearm m n action present s
  | .driveEvent n => Sys2Proof.Machine.execDriveEvent n s
  | .strobeEvent n => Sys2Proof.Machine.execStrobeEvent n s
  | .wvDataWrite m al k d => Sys2Proof.Machine.execWvDataWrite m al k d s
  | .edEdgeWrite m al k e d => Sys2Proof.Machine.execEdEdgeWrite m al k e d s
  | .next k => Sys2Proof.Machine.execNext k s
  | .rpt k => Sys2Proof.Machine.execRpt k s
  | .loopBegin k => Sys2Proof.Machine.execLoopBegin k s
  | .loopEnd k => Sys2Proof.Machine.execLoopEnd k s
  | .call k => Sys2Proof.Machine.execCall k s
  | .ret k => Sys2Proof.Machine.execRet k s
  | .jmp k => Sys2Proof.Machine.execJmp k s
  | .jif k => Sys2Proof.Machine.execJif k s
  | .matchOp k => Sys2Proof.Machine.execMatch k s
  | .trig k => Sys2Proof.Machine.execTrig k s
  | .mark k => Sys2Proof.Machine.execMark k s
  | .waitSlack k => Sys2Proof.Machine.execWaitSlack k s
  | .slackWaitDone k => Sys2Proof.Machine.execSlackWaitDone k s
  | .lashSyncMet k => Sys2Proof.Machine.execLashSyncMet k s
  | .syncTo k => Sys2Proof.Machine.execSyncTo k s
  | .parkOp k => Sys2Proof.Machine.execParkOp k s
  | .haltOp k => Sys2Proof.Machine.execHaltOp k s
  | .illegalOp k => Sys2Proof.Machine.execIllegalOp k s
  | .holdStep k => Sys2Proof.Machine.execHoldStep k s
  | .holdLimit k => Sys2Proof.Machine.execHoldLimit k s
  | .runStart k => Sys2Proof.Machine.execRunStart k s
  | .sqHalt m k => Sys2Proof.Machine.execSqHalt m k s
  | .sqResume m k => Sys2Proof.Machine.execSqResume m k s
  | .sqLedgerClr m k => Sys2Proof.Machine.execSqLedgerClr m k s
  | .sqBtWrite m al k d => Sys2Proof.Machine.execSqBtWrite m al k d s
  | .agTabWrite m al k d => Sys2Proof.Machine.execAgTabWrite m al k d s
  | .granuleRefill k seg gran read1 read2 t => Sys2Proof.Machine.execGranuleRefill k seg gran read1 read2 t s
  | .requestPromotion => Sys2Proof.Machine.execRequestPromotion s
  | .prefetchWindow c => Sys2Proof.Machine.execPrefetchWindow c s
  | .retrainPauseStart c => Sys2Proof.Machine.execRetrainPauseStart c s
  | .retrainPauseEnd c ok => Sys2Proof.Machine.execRetrainPauseEnd c ok s
  | .selfRefreshEntry => Sys2Proof.Machine.execSelfRefreshEntry s
  | .selfRefreshExit => Sys2Proof.Machine.execSelfRefreshExit s
  | .segWrite => Sys2Proof.Machine.execSegWrite s
  | .segImageReceived => Sys2Proof.Machine.execSegImageReceived s
  | .segFree => Sys2Proof.Machine.execSegFree s
  | .streamOpen => Sys2Proof.Machine.execStreamOpen s
  | .streamPull n => Sys2Proof.Machine.execStreamPull n s
  | .activeTestChange => Sys2Proof.Machine.execActiveTestChange s
  | .failEvent k => Sys2Proof.Machine.execFailEvent k s
  | .failSwitchAccept => Sys2Proof.Machine.execFailSwitchAccept s
  | .journalGroupTimeout => Sys2Proof.Machine.execJournalGroupTimeout s
  | .journalGroupWritten => Sys2Proof.Machine.execJournalGroupWritten s
  | .timeBase => Sys2Proof.Machine.execTimeBase s
  | .endMark k => Sys2Proof.Machine.execEndMark k s
  | .jrnReset m => Sys2Proof.Machine.execJrnReset m s
  | .journalAudit m => Sys2Proof.Machine.execJournalAudit m s
  | .journalAuditDone bad => Sys2Proof.Machine.execJournalAuditDone bad s
  | .flLedgerClr m k => Sys2Proof.Machine.execFlLedgerClr m k s
  | .flDieWrite m al k d => Sys2Proof.Machine.execFlDieWrite m al k d s
  | .ledgerRead => Sys2Proof.Machine.execLedgerRead s
  | .laneFold l bad => Sys2Proof.Machine.execLaneFold l bad s
  | .contextFetched slot good => Sys2Proof.Machine.execContextFetched slot good s
  | .spFinal m die => Sys2Proof.Machine.execSpFinal m die s
  | .spFinalAll m => Sys2Proof.Machine.execSpFinalAll m s
  | .spRelease m die => Sys2Proof.Machine.execSpRelease m die s
  | .laneSpliceDone l d badGroups badCtx => Sys2Proof.Machine.execLaneSpliceDone l d badGroups badCtx s
  | .resultWrite => Sys2Proof.Machine.execResultWrite s
  | .workOrder => Sys2Proof.Machine.execWorkOrder s
  | .workOrderReceived => Sys2Proof.Machine.execWorkOrderReceived s
  | .placementDecided => Sys2Proof.Machine.execPlacementDecided s
  | .placementApplied => Sys2Proof.Machine.execPlacementApplied s
  | .plRelease m => Sys2Proof.Machine.execPlRelease m s
  | .pmForceDirectWrite m al n d => Sys2Proof.Machine.execPmForceDirectWrite m al n d s
  | .pmuConnectClose n => Sys2Proof.Machine.execPmuConnectClose n s
  | .pmuDisconnectOff n => Sys2Proof.Machine.execPmuDisconnectOff n s
  | .pmuRangeLimitMove n outside => Sys2Proof.Machine.execPmuRangeLimitMove n outside s
  | .pmuRangeOldOpen n => Sys2Proof.Machine.execPmuRangeOldOpen n s
  | .pmuRangeDone n => Sys2Proof.Machine.execPmuRangeDone n s
  | .conversionEnd n raw => Sys2Proof.Machine.execConversionEnd n raw s
  | .sineSample k => Sys2Proof.Machine.execSineSample k s
  | .sgTabWrite m al k d => Sys2Proof.Machine.execSgTabWrite m al k d s
  | .tdStart m n => Sys2Proof.Machine.execTdStart m n s
  | .tdStop m n => Sys2Proof.Machine.execTdStop m n s
  | .tdcCalDone n m1 m2 => Sys2Proof.Machine.execTdcCalDone n m1 m2 s
  | .tdcTimeout n => Sys2Proof.Machine.execTdcTimeout n s
  | .aqStart m k => Sys2Proof.Machine.execAqStart m k s
  | .aqStop m k => Sys2Proof.Machine.execAqStop m k s
  | .aqForce m k => Sys2Proof.Machine.execAqForce m k s
  | .aqCmpSample k => Sys2Proof.Machine.execAqCmpSample k s
  | .aqRearmDone k ns => Sys2Proof.Machine.execAqRearmDone k ns s
  | .aqSpillWritten k => Sys2Proof.Machine.execAqSpillWritten k s
  | .calTiming m strand pins ctx => Sys2Proof.Machine.execCalTiming m strand pins ctx s
  | .calLevels m strand pins ctx => Sys2Proof.Machine.execCalLevels m strand pins ctx s
  | .calConv m strand pins ctx => Sys2Proof.Machine.execCalConv m strand pins ctx s
  | .calSysZero m strand pins ctx src => Sys2Proof.Machine.execCalSysZero m strand pins ctx src s
  | .calSysFs m strand pins ctx src => Sys2Proof.Machine.execCalSysFs m strand pins ctx src s
  | .calAbort m strand => Sys2Proof.Machine.execCalAbort m strand s
  | .calRunEnd c meas temp => Sys2Proof.Machine.execCalRunEnd c meas temp s
  | .cbDataWrite m al d => Sys2Proof.Machine.execCbDataWrite m al d s
  | .cbCommit m confirm => Sys2Proof.Machine.execCbCommit m confirm s
  | .cbCommitDone ok at_ => Sys2Proof.Machine.execCbCommitDone ok at_ s
  | .calRun => Sys2Proof.Machine.execCalRun s
  | .knock h payload at_ => Sys2Proof.Machine.execKnock h payload at_ s
  | .doorbellPoll at_ => Sys2Proof.Machine.execDoorbellPoll at_ s
  | .windowWrite h va rkey data at_ => Sys2Proof.Machine.execWindowWrite h va rkey data at_ s
  | .windowRead h va rkey len at_ => Sys2Proof.Machine.execWindowRead h va rkey len at_ s
  | .rdmaReadResponse h data at_ => Sys2Proof.Machine.execRdmaReadResponse h data at_ s
  | .rdmaAck h at_ => Sys2Proof.Machine.execRdmaAck h at_ s
  | .nakRcvd h at_ => Sys2Proof.Machine.execNakRcvd h at_ s
  | .ackTimeout q => Sys2Proof.Machine.execAckTimeout q s
  | .pfcFrame p enable quanta at_ => Sys2Proof.Machine.execPfcFrame p enable quanta at_ s
  | .qpEnable m q cfg => Sys2Proof.Machine.execQpEnable m q cfg s
  | .qpDisable m q cfg => Sys2Proof.Machine.execQpDisable m q cfg s
  | .commandStart => Sys2Proof.Machine.execCommandStart s
  | .runAt => Sys2Proof.Machine.execRunAt s
  | .halt => Sys2Proof.Machine.execHalt s
  | .resultFetch bad => Sys2Proof.Machine.execResultFetch bad s
  | .regBatch => Sys2Proof.Machine.execRegBatch s
  | .helmClaim => Sys2Proof.Machine.execHelmClaim s
  | .lockoutEnd => Sys2Proof.Machine.execLockoutEnd s
  | .helmAck => Sys2Proof.Machine.execHelmAck s
  | .nop => Sys2Proof.Machine.execNop s
  | .eventWrite => Sys2Proof.Machine.execEventWrite s
  | .frameForward p f at_ => Sys2Proof.Machine.execFrameForward p f at_ s
  | .tideMark p f at_ half stay => Sys2Proof.Machine.execTideMark p f at_ half stay s
  | .pdelayReq p f at_ half stay => Sys2Proof.Machine.execPdelayReq p f at_ half stay s
  | .pdelayResp p f at_ half => Sys2Proof.Machine.execPdelayResp p f at_ half s
  | .audit p f at_ => Sys2Proof.Machine.execAudit p f at_ s
  | .slack p f at_ => Sys2Proof.Machine.execSlack p f at_ s
  | .heartbeat p f at_ => Sys2Proof.Machine.execHeartbeat p f at_ s
  | .hbReply p f at_ => Sys2Proof.Machine.execHbReply p f at_ s
  | .credit p f at_ => Sys2Proof.Machine.execCredit p f at_ s
  | .active p f at_ => Sys2Proof.Machine.execActive p f at_ s
  | .link p f at_ => Sys2Proof.Machine.execLink p f at_ s
  | .linkInit p f at_ => Sys2Proof.Machine.execLinkInit p f at_ s
  | .creditTimeout p => Sys2Proof.Machine.execCreditTimeout p s
  | .auditGuard => Sys2Proof.Machine.execAuditGuard s
  | .auditInstant => Sys2Proof.Machine.execAuditInstant s
  | .auditTimeout => Sys2Proof.Machine.execAuditTimeout s
  | .heartbeatSend => Sys2Proof.Machine.execHeartbeatSend s
  | .hbMiss p => Sys2Proof.Machine.execHbMiss p s
  | .pcsLockLoss p bypass at_ => Sys2Proof.Machine.execPcsLockLoss p bypass at_ s
  | .fecUncorrectable p at_ => Sys2Proof.Machine.execFecUncorrectable p at_ s
  | .linkTrained p at_ => Sys2Proof.Machine.execLinkTrained p at_ s
  | .rgCmdSlack m => Sys2Proof.Machine.execRgCmdSlack m s
  | .rgCmdSlackClr m => Sys2Proof.Machine.execRgCmdSlackClr m s
  | .rgBypassGo m confirm => Sys2Proof.Machine.execRgBypassGo m confirm s
  | .activeRepeat => Sys2Proof.Machine.execActiveRepeat s
  | .activeExpiry => Sys2Proof.Machine.execActiveExpiry s
  | .tideMarkSend e w => Sys2Proof.Machine.execTideMarkSend e w s
  | .pdelayReqSend p out => Sys2Proof.Machine.execPdelayReqSend p out s
  | .ppsEdge at_ half => Sys2Proof.Machine.execPpsEdge at_ half s
  | .sourceAppear w at_ => Sys2Proof.Machine.execSourceAppear w at_ s
  | .sourceLoss w at_ => Sys2Proof.Machine.execSourceLoss w at_ s
  | .lockAchieved => Sys2Proof.Machine.execLockAchieved s
  | .ageingUpdate => Sys2Proof.Machine.execAgeingUpdate s
  | .tlAgeWrite m al rate d => Sys2Proof.Machine.execTlAgeWrite m al rate d s
  | .tlSet m => Sys2Proof.Machine.execTlSet m s
  | .tlSettle m => Sys2Proof.Machine.execTlSettle m s
  | .settleDone => Sys2Proof.Machine.execSettleDone s
  | .ebbTrim => Sys2Proof.Machine.execEbbTrim s
  | .cvWake m c => Sys2Proof.Machine.execCvWake m c s
  | .coveWakeAdmit => Sys2Proof.Machine.execCoveWakeAdmit s
  | .covePllLocked c at_ => Sys2Proof.Machine.execCovePllLocked c at_ s
  | .lockFail c => Sys2Proof.Machine.execLockFail c s
  | .coveSettled c => Sys2Proof.Machine.execCoveSettled c s
  | .lockLost c at_ => Sys2Proof.Machine.execLockLost c at_ s
  | .coveSleep c => Sys2Proof.Machine.execCoveSleep c s
  | .devPwrDeep m confirm => Sys2Proof.Machine.execDevPwrDeep m confirm s
  | .devPwrWake event => Sys2Proof.Machine.execDevPwrWake event s
  | .startup f => Sys2Proof.Machine.execStartup f s
  | .pwrOkFall => Sys2Proof.Machine.execPwrOkFall s
  | .rstNFall => Sys2Proof.Machine.execRstNFall s
  | .supplyExcursion k at_ => Sys2Proof.Machine.execSupplyExcursion k at_ s
  | .supplyGrave k => Sys2Proof.Machine.execSupplyGrave k s
  | .rtSelftestStrand m num subst => Sys2Proof.Machine.execRtSelftestStrand m num subst s
  | .rtSelftestEngine m num subst => Sys2Proof.Machine.execRtSelftestEngine m num subst s
  | .rtSelftestLane m num => Sys2Proof.Machine.execRtSelftestLane m num s
  | .rtSelftestEnd v => Sys2Proof.Machine.execRtSelftestEnd v s
  | .faultMessage raised => Sys2Proof.Machine.execFaultMessage raised s
  | .fcAck m source => Sys2Proof.Machine.execFcAck m source s
  | .fcForce m d => Sys2Proof.Machine.execFcForce m d s
  | .fcRecSel m al d => Sys2Proof.Machine.execFcRecSel m al d s
  | .fcLogSel m al d => Sys2Proof.Machine.execFcLogSel m al d s
  | .collectorSelfcheck result => Sys2Proof.Machine.execCollectorSelfcheck result s
  | .selfcheckTimeout => Sys2Proof.Machine.execSelfcheckTimeout s
  | .fcWdtKick m d => Sys2Proof.Machine.execFcWdtKick m d s
  | .watchdogExpiry => Sys2Proof.Machine.execWatchdogExpiry s
  | .helmTimeout => Sys2Proof.Machine.execHelmTimeout s
  | .fcHelmAck m => Sys2Proof.Machine.execFcHelmAck m s
  | .fcHelmReset m confirm => Sys2Proof.Machine.execFcHelmReset m confirm s
  | .fcHelmReturn m => Sys2Proof.Machine.execFcHelmReturn m s
  | .beaconBootDone fw at_ => Sys2Proof.Machine.execBeaconBootDone fw at_ s
  | .sensorRead ok raw => Sys2Proof.Machine.execSensorRead ok raw s
  | .thermalHaltDeadline => Sys2Proof.Machine.execThermalHaltDeadline s
  | .thermalRestart => Sys2Proof.Machine.execThermalRestart s
  | .thExcludeWrite m al d => Sys2Proof.Machine.execThExcludeWrite m al d s
  | .csLoad m slot => Sys2Proof.Machine.execCsLoad m slot s
  | .csApplyPatch m => Sys2Proof.Machine.execCsApplyPatch m s
  | .csClearPatch m => Sys2Proof.Machine.execCsClearPatch m s
  | .csProgram m slot => Sys2Proof.Machine.execCsProgram m slot s
  | .csCommandDone bad at_ => Sys2Proof.Machine.execCsCommandDone bad at_ s
  | .spiRead waddr words cut => Sys2Proof.Machine.execSpiRead waddr words cut s
  | .spiWrite waddr data bits => Sys2Proof.Machine.execSpiWrite waddr data bits s
  | .spiBadCmd waddr words whole => Sys2Proof.Machine.execSpiBadCmd waddr words whole s
  | .lsFlush m => Sys2Proof.Machine.execLsFlush m s
  | .scheduledFlush => Sys2Proof.Machine.execScheduledFlush s
  | .lsSetupCommit m confirm => Sys2Proof.Machine.execLsSetupCommit m confirm s
  | .lsSetupWrite m al d => Sys2Proof.Machine.execLsSetupWrite m al d s
  | .lsCmdDone ok at_ => Sys2Proof.Machine.execLsCmdDone ok at_ s
  | .calendarTick => Sys2Proof.Machine.execCalendarTick s
  | .vddAonLoss => Sys2Proof.Machine.execVddAonLoss s
  | .flushWaitEnd => Sys2Proof.Machine.execFlushWaitEnd s
  | .pfcPauseExpiry p => Sys2Proof.Machine.execPfcPauseExpiry p s

end Sys2Proof.Machine
end

