-- ==== Sys2Proof/Machine/Step.lean ====
section
/-! DEFINITION. One step: the command at the front of the queue acts; with none waiting, one engine cycle passes. -/

namespace Sys2Proof.Machine

/-- The state with the rest of a queue. -/
def State.withQueue (s : State) (rest : List Instr) : State := { s with pending := rest }

/-- An engine cycle of the device clock passes (assumption log 2). -/
def State.idle (s : State) : State := { s with now := s.now + cycU }

/-- One step. -/
def step (s : State) : Host.Outcome State Fault Refusal :=
  match s.pending with
  | [] => .next s.idle
  | c :: rest => exec c (s.withQueue rest)

/-- The state with the command that a word spells at the front of the queue; unchanged where it spells none. -/
def State.withFetchWord (s : State) (nbits w : Nat) : State :=
  match decodeTableWord nbits w with
  | some c => { s with pending := c :: s.pending }
  | none => s

end Sys2Proof.Machine
end

