-- ==== Sys2Proof/Safety.lean ====
section
/-! DEFINITION. What counts as a sound state, and what it means that one state comes after another: the terms of the claims about every
command. -/

namespace Sys2Proof.Machine

/-- The register store is canonical: addresses rise, and no register is listed with the value it has at reset. -/
def State.regsCanonical (s : State) : Bool := Store.wf resetOf s.regs

/-- Every pending lifetime count fits its 24 bits (spec/21_life_store.md R496). -/
def State.countsFit (s : State) : Bool := s.counts.all (fun e => decide (e.2 ≤ 0xFFFFFF))

/-- A sound state. -/
def State.sound (s : State) : Bool := s.regsCanonical && s.countsFit

/-- State `s` comes after `b` within one command: the clock has not gone back, the queue is as it was, what has left the device stands and
only grows, no free value is used twice, and `s` is sound. -/
def After (b s : State) : Prop :=
  b.now ≤ s.now ∧ s.pending = b.pending ∧ b.sent <+: s.sent ∧ b.fresh ≤ s.fresh ∧ s.sound = true

/-- A command answers a next state that comes after `b`. -/
def Answers (b : State) (o : Host.Outcome State Fault Refusal) : Prop := ∃ t, o = .next t ∧ After b t

/-- Command `c` in state `s` answers a next state, and that state has the property `P`. -/
def Does (c : Instr) (s : State) (P : State → Prop) : Prop := ∃ t, exec c s = .next t ∧ P t

/-- Where the normal, set, clear and toggle spaces begin (spec/02_register_conventions.md R32). -/
def aliasBase : Alias → Nat
  | .normal => 0
  | .set => 0x400000
  | .clear => 0x800000
  | .toggle => 0xC00000

/-- Master `m` may write the register at the normal-space address `a` at once: it can make accesses, the register answers in the present
device state (R427, R438), no strand under self-test is addressed (R60), and neither privilege (R59) nor a lock (R55) bars the write. -/
def State.mayWrite (s : State) (m : Master) (a : Nat) : Bool :=
  s.masterLive m && s.inReach a && (s.testedAt a).isNone &&
  (match regAt a with
   | some h => (!h.row.priv || s.privileged m) && (match h.row.lock with | some b => !bitOf (s.rd Reg.DEV_LOCK).toNat b | none => true)
   | none => false)

/-- What the register at the normal-space address `a` is to hold after a write of `d` through address space `al`: the space works on the value the
register reads as, and only writable bits change (spec/02_register_conventions.md R32, R40). -/
def State.newWord (s : State) (al : Alias) (a : Nat) (d : Word) : Word :=
  match regAt a with
  | some h => newValue h.row al (s.regValue a).1 d
  | none => 0

/-- The flow of strand `k` is about to issue the step of word `w`: it runs, every event before the step start has fired, no cause stops it or
a member of its crew there (spec/05_sequencer.md R152), and the word is present and good at its read point (R143, R144). -/
def State.atWord (s : State) (k : Nat) (w : Word64) : Prop :=
  let t := s.strand k
  s.flowing k = true ∧ s.pinsClear k t.nextAt = true ∧ (∀ j ∈ s.crew k, s.dueStops j t.nextAt t.segStart = []) ∧
    s.pastLimit k t.nextAt = false ∧ s.marredAt k t.pos (readPoint t.nextAt) = false ∧ s.present k t.pos (readPoint t.nextAt) = true ∧
    s.wordAt t.pos = some w

/-- Port `p` takes the Adeo frame `f` for itself, for the first time (spec/15_ring_and_system.md R380, R385, R386): it is of version 1 and of
this ring, comes from another device, is for this one or for all, and a frame of several hops is none of those seen already. -/
def State.takes (s : State) (p type : Nat) (f : Adeo) : Prop :=
  s.hears p = true ∧ f.ver = 1 ∧ f.ring = s.fld Reg.RG_ADDR Fld.RG_ADDR_RING ∧ f.src ≠ s.devAddr ∧ (f.dst = 0xFFFF ∨ f.dst = s.devAddr) ∧
    (f.flags % 2 = 1 ∨ s.ring.seen.contains (type, f.src, f.seq) = false)

/-- State `s` with the frame `f` among those seen, unless it is for a neighbour (R386). -/
def State.noted (s : State) (type : Nat) (f : Adeo) : State :=
  if f.flags % 2 = 1 then s else { s with ring := { s.ring with seen := remember type f.src f.seq s.ring.seen } }

end Sys2Proof.Machine
end

