-- ==== Sys2Proof/Frame.lean ====
section
/-! DEFINITION. The terms of the frames: what a command leaves as it was. A frame names the parts of the state and the registers that may
change; everything else is unchanged. -/

namespace Sys2Proof.Machine

/-- The parts of the state (Machine/State.lean) beside the queue; `regs` stands for every register at once. -/
inductive Part where
  | now | tideOff | fresh | shadows | captured | bound | strands | pins | pmus | convs | tdcs
  | acqs | calRuns | calZero | qps | host | ring | tide | trips | mem | failPath | splice
  | place | forced | faultQ | evt | power | faults | thermal | ctl | store | counts | sent
  | regs
  deriving DecidableEq, Repr

/-- The number of a part. -/
def Part.bit : Part → Nat
  | .now => 0 | .tideOff => 1 | .fresh => 2 | .shadows => 3 | .captured => 4 | .bound => 5 | .strands => 6 | .pins => 7
  | .pmus => 8 | .convs => 9 | .tdcs => 10 | .acqs => 11 | .calRuns => 12 | .calZero => 13 | .qps => 14 | .host => 15
  | .ring => 16 | .tide => 17 | .trips => 18 | .mem => 19 | .failPath => 20 | .splice => 21 | .place => 22 | .forced => 23
  | .faultQ => 24 | .evt => 25 | .power => 26 | .faults => 27 | .thermal => 28 | .ctl => 29 | .store => 30 | .counts => 31
  | .sent => 32 | .regs => 33

/-- A part is the same in two states; what registers hold is said address by address. -/
def Part.same (s t : State) : Part → Prop
  | .now => t.now = s.now
  | .tideOff => t.tideOff = s.tideOff
  | .fresh => t.fresh = s.fresh
  | .shadows => t.shadows = s.shadows
  | .captured => t.captured = s.captured
  | .bound => t.bound = s.bound
  | .strands => t.strands = s.strands
  | .pins => t.pins = s.pins
  | .pmus => t.pmus = s.pmus
  | .convs => t.convs = s.convs
  | .tdcs => t.tdcs = s.tdcs
  | .acqs => t.acqs = s.acqs
  | .calRuns => t.calRuns = s.calRuns
  | .calZero => t.calZero = s.calZero
  | .qps => t.qps = s.qps
  | .host => t.host = s.host
  | .ring => t.ring = s.ring
  | .tide => t.tide = s.tide
  | .trips => t.trips = s.trips
  | .mem => t.mem = s.mem
  | .failPath => t.failPath = s.failPath
  | .splice => t.splice = s.splice
  | .place => t.place = s.place
  | .forced => t.forced = s.forced
  | .faultQ => t.faultQ = s.faultQ
  | .evt => t.evt = s.evt
  | .power => t.power = s.power
  | .faults => t.faults = s.faults
  | .thermal => t.thermal = s.thermal
  | .ctl => t.ctl = s.ctl
  | .store => t.store = s.store
  | .counts => t.counts = s.counts
  | .sent => t.sent = s.sent
  | .regs => True

/-- The banks that the address map repeats (spec/02_register_conventions.md R35). -/
inductive Bank where
  | dev | cove | strand | pin | qp | reserve
  deriving DecidableEq, Repr

/-- The address of offset `off` in unit `k` of a bank. -/
def Bank.addr : Bank → Nat → Nat → Nat
  | .dev, _, off => off
  | .cove, k, off => coveA k off
  | .strand, k, off => strandA k off
  | .pin, k, off => pinA k off
  | .qp, k, off => qpA k off
  | .reserve, k, off => reserveA k off

/-- The lists of the register map, each with its bank. -/
def Row.lists : List (Bank × List RegRow) := [
  (.dev, deviceRows0), (.dev, deviceRows1), (.dev, deviceRows2), (.dev, deviceRows3),
  (.dev, deviceRows4), (.cove, coveRows), (.strand, strandRows0), (.strand, strandRows1),
  (.strand, strandRows2), (.pin, pinRows0), (.pin, pinRows1), (.qp, qpRows),
  (.reserve, reserveRows) ]

/-- Row number `i`: 40 numbers to a list. -/
def Row.find (i : Nat) : Option (Bank × RegRow) :=
  match Row.lists[i / 40]? with
  | some (b, l) => l[i % 40]?.map (fun r => (b, r))
  | none => none

/-- The register at `a` is one of row number `i`, in some unit of its bank; row 520 is the calibration items (spec/13). -/
def Row.has (i a : Nat) : Prop :=
  if i = 520 then 0x400000 ≤ a
  else match Row.find i with
    | some (b, r) => ∃ k j, j < r.count ∧ a = b.addr k (r.off + r.stride * j)
    | none => False

/-- What the bits of a mask allow to change: bits 0 to 33 name parts, bit 40 + i names row i. Every other part is the same in `t` as in `s`,
and every register of no row named reads as before. -/
def Keeps (m : Nat) (s t : State) : Prop :=
  (∀ p : Part, m.testBit p.bit = true ∨ p.same s t) ∧
    (∀ a, m.testBit Part.regs.bit = true ∨ (∃ i, m.testBit (40 + i) = true ∧ Row.has i a) ∨ t.rd a = s.rd a)

/-- The mask of some parts and rows. -/
def maskOf (ps : List Part) (rs : List Nat) : Nat :=
  (ps.map Part.bit ++ rs.map (fun i => 40 + i)).foldl (fun m i => m ||| 2 ^ i) 0

/-- The frame of a command: nothing changes but the parts `ps` and the registers of the rows `rs`. -/
def Frame (ps : List Part) (rs : List Nat) (s t : State) : Prop := Keeps (maskOf ps rs) s t

/-! The numbers of the rows, in the order of the register map. -/

namespace Row

abbrev DEV_BUS_ERR : Nat := 0
abbrev DEV_UPD_STROBE : Nat := 1
abbrev DEV_UPD_PEND : Nat := 2
abbrev DEV_UPD_SCHED : Nat := 3
abbrev DEV_UPD_CTRL : Nat := 4
abbrev DEV_UPD_STAT : Nat := 5
abbrev DEV_LOCK : Nat := 6
abbrev DEV_LOCK_VIOL : Nat := 7
abbrev DEV_PRIV_VIOL : Nat := 8
abbrev DEV_SNAP : Nat := 9
abbrev MC_STAT : Nat := 10
abbrev MC_BUDGET_TOTAL : Nat := 11
abbrev MC_BUDGET_RSV : Nat := 12
abbrev MC_BUDGET_USED : Nat := 13
abbrev MC_REFILL_CFG : Nat := 14
abbrev MC_RETRAIN_CFG : Nat := 15
abbrev MC_RETRAIN_STAT : Nat := 16
abbrev MC_PASR : Nat := 17
abbrev MC_FREE : Nat := 18
abbrev MC_CRC_CNT : Nat := 19
abbrev MC_CRC_LOC0 : Nat := 20
abbrev MC_CRC_LOC1 : Nat := 21
abbrev MC_STREAM_ALLOW : Nat := 22
abbrev MC_STREAM_CFG : Nat := 23
abbrev MC_RING_ACTIVE : Nat := 24
abbrev MC_STRM_STAT : Nat := 25
abbrev MC_STRM_PROD : Nat := 26
abbrev MC_STRM_PULL : Nat := 27
abbrev MC_STRM_CONS : Nat := 28
abbrev FL_DEV_STAT : Nat := 29
abbrev FL_DEV_CMD : Nat := 30
abbrev FL_JRN_WP : Nat := 31
abbrev FL_JRN_CRC : Nat := 32
abbrev FL_JRN_EVENTS_LO : Nat := 33
abbrev FL_JRN_EVENTS_HI : Nat := 34
abbrev FL_IMB0 : Nat := 35
abbrev FL_IMB1 : Nat := 36
abbrev FL_IMB_CNT : Nat := 37
abbrev SP_CTRL : Nat := 38
abbrev SP_STAT : Nat := 39
abbrev SP_CMD : Nat := 40
abbrev SP_CTX_USED : Nat := 41
abbrev SP_POOL_USED : Nat := 42
abbrev SP_PEND : Nat := 43
abbrev SP_LAST : Nat := 44
abbrev SP_CRC_CNT : Nat := 45
abbrev SP_CRC_LOC : Nat := 46
abbrev SP_LOST : Nat := 47
abbrev SP_NODIE : Nat := 48
abbrev PL_STATE : Nat := 49
abbrev PL_STAT : Nat := 50
abbrev PL_REFUSE : Nat := 51
abbrev PL_ID : Nat := 52
abbrev PL_TIME : Nat := 53
abbrev PL_HEALTH : Nat := 54
abbrev PL_CMD : Nat := 55
abbrev PL_TAB_ADDR : Nat := 56
abbrev PL_TAB_DATA : Nat := 57
abbrev CB_CMD : Nat := 58
abbrev CB_STAT : Nat := 59
abbrev CB_BUSY : Nat := 60
abbrev CB_RES : Nat := 61
abbrev CB_REF_Q : Nat := 62
abbrev CB_REF_DELAY : Nat := 63
abbrev CB_TOL : Nat := 64
abbrev CB_CTRL : Nat := 65
abbrev CB_ADDR : Nat := 66
abbrev CB_DATA : Nat := 67
abbrev CB_COMMIT : Nat := 68
abbrev HT_STAT : Nat := 69
abbrev HT_IP : Nat := 70
abbrev HT_MAC_LO : Nat := 71
abbrev HT_MAC_HI : Nat := 72
abbrev HT_PFC : Nat := 73
abbrev HT_EVT_CFG : Nat := 74
abbrev HT_RES_CFG : Nat := 75
abbrev HT_EVT_BASE_LO : Nat := 76
abbrev HT_EVT_BASE_HI : Nat := 77
abbrev HT_RES_BASE_LO : Nat := 78
abbrev HT_RES_BASE_HI : Nat := 79
abbrev HT_EVT_RKEY : Nat := 80
abbrev HT_RES_RKEY : Nat := 81
abbrev HT_EVT_LOST : Nat := 82
abbrev HT_KEY_FAIL : Nat := 83
abbrev RG_STATE : Nat := 84
abbrev RG_STAT : Nat := 85
abbrev RG_ADDR : Nat := 86
abbrev RG_CTRL : Nat := 87
abbrev RG_TC_MAP : Nat := 88
abbrev RG_HB : Nat := 89
abbrev RG_CMD : Nat := 90
abbrev RG_BYPASS : Nat := 91
abbrev RG_SLACK : Nat := 92
abbrev RG_SLACK_T_LO : Nat := 93
abbrev RG_SLACK_T_HI : Nat := 94
abbrev RG_ACTIVE_LO : Nat := 95
abbrev RG_ACTIVE_HI : Nat := 96
abbrev RG_LINK : Nat := 97
abbrev RG_LINK_ERR : Nat := 98
abbrev RG_CR_CLINK : Nat := 99
abbrev RG_CR_AVAIL : Nat := 100
abbrev RG_CR_SENT : Nat := 101
abbrev RG_CR_RET_RX : Nat := 102
abbrev RG_CR_RX : Nat := 103
abbrev RG_CR_RET_TX : Nat := 104
abbrev RG_CR_HELD : Nat := 105
abbrev RG_AUDIT : Nat := 106
abbrev TL_STATE : Nat := 107
abbrev TL_STAT : Nat := 108
abbrev TL_NOW_LO : Nat := 109
abbrev TL_NOW_HI : Nat := 110
abbrev TL_CTRL : Nat := 111
abbrev TL_CMD : Nat := 112
abbrev TL_SET_LO : Nat := 113
abbrev TL_SET_HI : Nat := 114
abbrev TL_UPD_AT_LO : Nat := 115
abbrev TL_UPD_AT_HI : Nat := 116
abbrev TL_OFFSET : Nat := 117
abbrev TL_AGE_TRIM : Nat := 118
abbrev TL_AGE_RATE : Nat := 119
abbrev TL_AGE_ACC : Nat := 120
abbrev TL_FREQ : Nat := 121
abbrev TL_POLL : Nat := 122
abbrev TL_PD0 : Nat := 123
abbrev TL_PD1 : Nat := 124
abbrev TL_ASYM : Nat := 125
abbrev TL_PPS_DLY : Nat := 126
abbrev DEV_ID : Nat := 127
abbrev DEV_FW_VER : Nat := 128
abbrev DEV_STATE : Nat := 129
abbrev DEV_STAT : Nat := 130
abbrev DEV_PWR_CMD : Nat := 131
abbrev DEV_PWR_CFG : Nat := 132
abbrev DEV_PWR_STAT : Nat := 133
abbrev BI_RESULT : Nat := 134
abbrev BI_ENG : Nat := 135
abbrev BI_STRAND : Nat := 136
abbrev BI_LANE : Nat := 137
abbrev BI_COVE : Nat := 138
abbrev BI_RT_CMD : Nat := 139
abbrev BI_RT_STAT : Nat := 140
abbrev FC_SUMMARY : Nat := 141
abbrev FC_STAT : Nat := 142
abbrev FC_NEXT : Nat := 143
abbrev FC_REC_SEL : Nat := 144
abbrev FC_LOG_SEL : Nat := 145
abbrev FC_REC : Nat := 146
abbrev FC_LOG : Nat := 147
abbrev FC_ACK : Nat := 148
abbrev FC_FORCE : Nat := 149
abbrev FC_ALERT_CFG : Nat := 150
abbrev FC_WDT : Nat := 151
abbrev FC_WDT_KICK : Nat := 152
abbrev FC_HELM_STATE : Nat := 153
abbrev FC_HELM_EPOCH : Nat := 154
abbrev FC_HELM_CMD : Nat := 155
abbrev TH_MAX : Nat := 156
abbrev TH_STATE : Nat := 157
abbrev TH_STAT : Nat := 158
abbrev TH_EXCLUDE : Nat := 159
abbrev TH_SENS : Nat := 160
abbrev CS_UCODE_VER : Nat := 161
abbrev CS_STAT : Nat := 162
abbrev CS_RES : Nat := 163
abbrev CS_LOADED : Nat := 164
abbrev CS_SLOT : Nat := 165
abbrev CS_CMD : Nat := 166
abbrev CS_STAGE_ADDR : Nat := 167
abbrev CS_STAGE_DATA : Nat := 168
abbrev CS_PATCH : Nat := 169
abbrev CS_PATCH_ADDR : Nat := 170
abbrev SPI_STAT : Nat := 171
abbrev SPI_LAST : Nat := 172
abbrev LS_STAT : Nat := 173
abbrev LS_RES : Nat := 174
abbrev LS_CMD : Nat := 175
abbrev LS_CNT_SEL : Nat := 176
abbrev LS_CNT : Nat := 177
abbrev LS_CAL_S : Nat := 178
abbrev LS_FACTORY_S : Nat := 179
abbrev LS_CAL_DAY : Nat := 180
abbrev LS_HIST_SEL : Nat := 181
abbrev LS_HIST_DATA : Nat := 182
abbrev LS_WEAR : Nat := 183
abbrev LS_SETUP_ADDR : Nat := 184
abbrev LS_SETUP_DATA : Nat := 185
abbrev HT_SNAP : Nat := 186
abbrev RG_SNAP : Nat := 187
abbrev TL_SNAP : Nat := 188
abbrev MC_SNAP : Nat := 189
abbrev SP_SNAP : Nat := 190
abbrev PL_SNAP : Nat := 191
abbrev CB_SNAP : Nat := 192
abbrev LB_POS : Nat := 200
abbrev LB_MATCH : Nat := 201
abbrev LB_STAT : Nat := 202
abbrev CV_CMD : Nat := 203
abbrev CV_STATE : Nat := 204
abbrev CV_STAT : Nat := 205
abbrev CV_SNAP : Nat := 206
abbrev WV_CTRL : Nat := 240
abbrev WV_STAT : Nat := 241
abbrev WV_LOSS : Nat := 242
abbrev WV_ACC : Nat := 243
abbrev WV_ADDR : Nat := 244
abbrev WV_DATA : Nat := 245
abbrev ED_CTRL : Nat := 246
abbrev ED_ADDR : Nat := 247
abbrev ED_E0 : Nat := 248
abbrev ED_E1 : Nat := 249
abbrev ED_E2 : Nat := 250
abbrev ED_E3 : Nat := 251
abbrev ED_E4 : Nat := 252
abbrev ED_E5 : Nat := 253
abbrev WV_PER : Nat := 254
abbrev SQ_STATE : Nat := 255
abbrev SQ_STAT : Nat := 256
abbrev SQ_SEG : Nat := 257
abbrev SQ_OFFS : Nat := 258
abbrev SQ_CMD : Nat := 259
abbrev SQ_FLAGS : Nat := 260
abbrev SQ_MATCH : Nat := 261
abbrev SQ_ANCH : Nat := 262
abbrev SQ_SLIPS : Nat := 263
abbrev SQ_BT_ADDR : Nat := 264
abbrev SQ_BT_DATA : Nat := 265
abbrev SQ_CTRL : Nat := 266
abbrev SQ_TRIG_CFG : Nat := 267
abbrev SQ_TRIG_SEG : Nat := 268
abbrev SQ_SLACK_AT_LO : Nat := 269
abbrev SQ_SLACK_AT_HI : Nat := 270
abbrev SQ_ISSUED_LO : Nat := 271
abbrev SQ_ISSUED_HI : Nat := 272
abbrev SQ_EXEC_LO : Nat := 273
abbrev SQ_EXEC_HI : Nat := 274
abbrev SQ_HELD_LO : Nat := 275
abbrev SQ_HELD_HI : Nat := 276
abbrev SQ_HOLD_TIME_LO : Nat := 277
abbrev SQ_HOLD_TIME_HI : Nat := 278
abbrev SQ_PARK_TIME_LO : Nat := 279
abbrev SQ_PARK_TIME_HI : Nat := 280
abbrev AG_CTRL : Nat := 281
abbrev AG_STAT : Nat := 282
abbrev AG_X_INIT : Nat := 283
abbrev AG_YZ_INIT : Nat := 284
abbrev AG_X_VAL : Nat := 285
abbrev AG_YZ_VAL : Nat := 286
abbrev AG_BUS_LO : Nat := 287
abbrev AG_BUS_HI : Nat := 288
abbrev AG_X_MIN : Nat := 289
abbrev AG_X_MAX : Nat := 290
abbrev AG_Y_RANGE : Nat := 291
abbrev AG_Z_RANGE : Nat := 292
abbrev AG_XA : Nat := 293
abbrev AG_YA : Nat := 294
abbrev AG_ZA : Nat := 295
abbrev AG_BG : Nat := 296
abbrev AG_CHK_XM : Nat := 297
abbrev AG_CHK_YM : Nat := 298
abbrev AG_CHK_WORD : Nat := 299
abbrev AG_AXM : Nat := 300
abbrev AG_AYZM : Nat := 301
abbrev AG_TAB_ADDR : Nat := 302
abbrev AG_TAB_DATA : Nat := 303
abbrev FL_DIE : Nat := 304
abbrev FL_STAT : Nat := 305
abbrev FL_OVF0 : Nat := 306
abbrev FL_OVF1 : Nat := 307
abbrev FL_INFLIGHT : Nat := 308
abbrev FL_MASKED : Nat := 309
abbrev FL_CMD : Nat := 310
abbrev FL_SEEN_LO : Nat := 311
abbrev FL_SEEN_HI : Nat := 312
abbrev FL_FOLDED_LO : Nat := 313
abbrev FL_FOLDED_HI : Nat := 314
abbrev FL_SPILLED_LO : Nat := 315
abbrev FL_SPILLED_HI : Nat := 316
abbrev FL_COUNTED_ONLY_LO : Nat := 317
abbrev FL_COUNTED_ONLY_HI : Nat := 318
abbrev FL_JRN_EV_LO : Nat := 319
abbrev FL_JRN_EV_HI : Nat := 320
abbrev FL_PIN_FAIL : Nat := 321
abbrev SG_CTRL : Nat := 322
abbrev SG_STAT : Nat := 323
abbrev SG_FTW_LO : Nat := 324
abbrev SG_FTW_HI : Nat := 325
abbrev SG_PHASE0 : Nat := 326
abbrev SG_AMPL : Nat := 327
abbrev SG_OFFSET : Nat := 328
abbrev SG_TAB_ADDR : Nat := 329
abbrev SG_TAB_DATA : Nat := 330
abbrev SG_TDAC : Nat := 331
abbrev AQ_CFG : Nat := 332
abbrev AQ_LEN : Nat := 333
abbrev AQ_PRE : Nat := 334
abbrev AQ_NREC : Nat := 335
abbrev AQ_DIV : Nat := 336
abbrev AQ_PT_SEL0 : Nat := 337
abbrev AQ_PT_SEL1 : Nat := 338
abbrev AQ_PT_VAL_LO : Nat := 339
abbrev AQ_PT_VAL_HI : Nat := 340
abbrev AQ_PT_DC_LO : Nat := 341
abbrev AQ_PT_DC_HI : Nat := 342
abbrev AQ_CTRL : Nat := 343
abbrev AQ_STAT : Nat := 344
abbrev AQ_REC : Nat := 345
abbrev AQ_RECNUM : Nat := 346
abbrev AQ_MISSED : Nat := 347
abbrev AQ_MISS_T_LO : Nat := 348
abbrev AQ_MISS_T_HI : Nat := 349
abbrev AQ_DEAD : Nat := 350
abbrev AQ_FILL : Nat := 351
abbrev AQ_OVF : Nat := 352
abbrev SQ_SNAP : Nat := 353
abbrev PS_VIH : Nat := 360
abbrev PS_VIL : Nat := 361
abbrev PS_VTT : Nat := 362
abbrev PS_VOH : Nat := 363
abbrev PS_VOL : Nat := 364
abbrev PS_DRV_CTRL : Nat := 365
abbrev PS_CMP_CFG : Nat := 366
abbrev PS_LOAD : Nat := 367
abbrev PS_LIM : Nat := 368
abbrev PS_BW_VTHR : Nat := 369
abbrev PS_BW_ITHR : Nat := 370
abbrev PS_BW_CTRL : Nat := 371
abbrev PS_BW_STAT : Nat := 372
abbrev PS_STAT : Nat := 373
abbrev PS_CMP_STATE : Nat := 374
abbrev PS_EVT : Nat := 375
abbrev PM_CTRL : Nat := 376
abbrev PM_FORCE : Nat := 377
abbrev PM_FORCE_DIRECT : Nat := 378
abbrev PM_CLAMP_HI : Nat := 379
abbrev PM_CLAMP_LO : Nat := 380
abbrev PM_LIM_V : Nat := 381
abbrev PM_LIM_I : Nat := 382
abbrev PM_STAT : Nat := 383
abbrev PM_STATE : Nat := 384
abbrev AD_CFG : Nat := 385
abbrev AD_NOTCH : Nat := 386
abbrev AD_DATA : Nat := 387
abbrev AD_STAT : Nat := 388
abbrev AD_OFS_V : Nat := 389
abbrev AD_OFS_I : Nat := 390
abbrev AD_GAIN_V : Nat := 391
abbrev AD_GAIN_I : Nat := 392
abbrev TD_CFG : Nat := 393
abbrev TD_N : Nat := 394
abbrev TD_CTRL : Nat := 395
abbrev TD_STAT : Nat := 396
abbrev TD_COUNT : Nat := 397
abbrev TD_MISS : Nat := 398
abbrev TD_MEAN_LO : Nat := 399
abbrev TD_MEAN_HI : Nat := 400
abbrev TD_STD : Nat := 401
abbrev TD_MIN : Nat := 402
abbrev TD_MAX : Nat := 403
abbrev TD_LAST : Nat := 404
abbrev TD_SCALE : Nat := 405
abbrev HT_QP_CTRL : Nat := 440
abbrev HT_QP_STAT : Nat := 441
abbrev HT_QP_PEER : Nat := 442
abbrev HT_QP_SPSN : Nat := 443
abbrev HT_QP_EPSN : Nat := 444
abbrev HT_QP_IP : Nat := 445
abbrev HT_QP_MAC_LO : Nat := 446
abbrev HT_QP_MAC_HI : Nat := 447
abbrev HT_QP_VLAN : Nat := 448
abbrev HT_QP_SPORT : Nat := 449
abbrev HT_QP_WKEY : Nat := 450
abbrev HT_QP_CMD_RKEY : Nat := 451
abbrev HT_QP_CPL_RKEY : Nat := 452
abbrev HT_QP_DB_RKEY : Nat := 453
abbrev HT_QP_RING : Nat := 454
abbrev HT_QP_CMD_BASE_LO : Nat := 455
abbrev HT_QP_CMD_BASE_HI : Nat := 456
abbrev HT_QP_CPL_BASE_LO : Nat := 457
abbrev HT_QP_CPL_BASE_HI : Nat := 458
abbrev HT_QP_DB_BASE_LO : Nat := 459
abbrev HT_QP_DB_BASE_HI : Nat := 460
abbrev HT_QP_CMD_PI : Nat := 461
abbrev HT_QP_CMD_CI : Nat := 462
abbrev HT_QP_CPL_PI : Nat := 463
abbrev HT_QP_CPL_CI : Nat := 464
abbrev HT_QP_PRIV : Nat := 465
abbrev RE_STATE : Nat := 480
abbrev RE_UCODE_VER : Nat := 481
abbrev RE_SNAP : Nat := 482
abbrev CAL : Nat := 520

end Row

end Sys2Proof.Machine
end

