-- ==== Sys2Proof/Certificates/Slice0/Obligations.lean ====
section
/-! DEFINITION. The statements for the provers: what each family of commands does, what it leaves as it was, and what holds of every step. -/

open Sys2Proof Sys2Proof.Machine

/-- A step takes the command at the front of the queue and answers what it does with the rest of the queue. Choices of the model that it rests on:
assumption log 1. -/
def Obligations.StepRunsFront : Prop :=
  ∀ (c : Instr) (s : State), step { s with pending := c :: s.pending } = exec c s

/-- With no command waiting, a step lets one engine cycle pass and changes nothing else. This is the model's own choice (assumption log 2): the spec
gives its events instants, and every timed event is a command. Choices of the model that it rests on: assumption log 2. -/
def Obligations.IdleStep : Prop :=
  ∀ (s : State), s.pending = [] → step s = .next { s with now := s.now + cycU } ∧ cycU = 512

/-- The state after reset is sound and no command waits in it. -/
def Obligations.ResetIsSound : Prop := State.reset.sound = true ∧ State.reset.pending = []

/-- Every step keeps soundness: the register store stays canonical and every pending lifetime count stays within its 24 bits. -/
def Obligations.StepKeepsSound : Prop :=
  ∀ (s t : State), s.sound = true → step s = .next t → t.sound = true

/-- From every sound state a step answers a next state: no command faults or is refused. The clock does not go back, the rest of the queue stands,
what has left the device stands and only grows, and no free value is used twice. Choices of the model that it rests on: assumption log 3, 8. -/
def Obligations.EveryStepAnswers : Prop :=
  ∀ (s : State), s.sound = true → ∃ t, step s = .next t ∧ s.now ≤ t.now ∧ t.pending = s.pending.tail ∧ s.sent <+: t.sent ∧ s.fresh ≤ t.fresh

/-- A register holds what was written to it last; a write changes no other register and no field beside the one written; the register store stays
canonical. Choices of the model that it rests on: assumption log 7. -/
def Obligations.RegisterStore : Prop :=
  (∀ (s : State) (a : Nat) (v : Word), (s.wr a v).rd a = v ∧ (∀ b, b ≠ a → (s.wr a v).rd b = s.rd b) ∧
    (s.regsCanonical = true → (s.wr a v).regsCanonical = true)) ∧
  (∀ (s : State) (a v : Nat) (f : Field), f.lo + f.width ≤ 32 → (s.setFld a f v).fld a f = v % 2 ^ f.width ∧
    (∀ g : Field, f.lo + f.width ≤ g.lo ∨ g.lo + g.width ≤ f.lo → (s.setFld a f v).fld a g = s.fld a g) ∧
    (∀ (b : Nat) (g : Field), b ≠ a → (s.setFld a f v).fld b g = s.fld b g)) ∧
  (∀ (a : Nat), State.reset.rd a = resetOf a)

/-- R192: the CRC-16 of a granule runs over its bytes in storage order with polynomial 0x1021, initial value 0xFFFF, no reflection and no final XOR;
over the ASCII bytes "123456789" it is 0x29B1; a granule held is good when the CRC over its 512 bytes is the one of its side line. -/
def Obligations.GranuleCrc : Prop :=
  crc16 [] = 0xFFFF ∧
  (∀ (bs : List Byte) (b : Byte), crc16 (bs ++ [b]) = iter (fun c => if c.testBit 15 then Nat.xor (2 * c % 65536) 0x1021 else 2 * c % 65536) 8
    (Nat.xor (crc16 bs) (256 * b.toNat))) ∧
  crc16 [0x31, 0x32, 0x33, 0x34, 0x35, 0x36, 0x37, 0x38, 0x39] = 0x29B1 ∧
  (∀ (ws : List Word64), ws.length = 64 → (granBytes ws).length = 512 ∧
    ∀ (i : Fin 64) (j : Fin 8), (granBytes ws)[8 * i.val + j.val]? = some (BitVec.ofNat 8 ((ws.getD i 0).toNat / 256 ^ j.val))) ∧
  (∀ (seg gran : Nat) (g : Segment) (ws : List Word64) (s : State), s.segment? seg = some g → Store.get? g.grans gran = some ws →
    s.granuleMatches seg gran = (crc16 (granBytes ws) == g.crcs.getD gran 0))

/-- R59: for a master without privilege a read of a privileged register returns zero and changes nothing; a write changes only DEV_PRIV_VIOL, whose
COUNT goes up by one up to 255 and whose ADDR takes the address; neither raises a fault message. -/
def Obligations.PrivilegedRegisters : Prop :=
  ∀ (m : Master) (a : BitVec 24) (d : Word) (present : Option Bool) (h : RegHit) (s : State), regAlias a.toNat = some h → h.row.priv = true →
    s.privileged m = false → s.regRead m a.toNat = (0, s) ∧
    (s.writeWord m a.toNat d present).fld Reg.DEV_PRIV_VIOL Fld.DEV_PRIV_VIOL_COUNT = min 255 (s.fld Reg.DEV_PRIV_VIOL Fld.DEV_PRIV_VIOL_COUNT + 1) ∧
    (s.writeWord m a.toNat d present).fld Reg.DEV_PRIV_VIOL Fld.DEV_PRIV_VIOL_ADDR = a.toNat ∧
    (∀ b, b ≠ Reg.DEV_PRIV_VIOL → (s.writeWord m a.toNat d present).rd b = s.rd b) ∧
    ∃ l, s.writeWord m a.toNat d present = { s with regs := l }

/-- R62: held words occupy at most 255 entries of a hold queue. A write burst that is otherwise good is a bus error exactly when, for some strand
under self-test, the words for its block would take the queue beyond that; then nothing is held and no word is written. A burst wholly for one
strand that fits is deferred, and its words stand in the queue in order. Choices of the model that it rests on: assumption log 47. -/
def Obligations.HoldQueueLimit : Prop :=
  ∀ (m : Master) (addrs : List Nat) (data : List Word) (addr : Nat) (present : Option Bool) (s : State), addrs.length = data.length →
    (∀ a ∈ addrs, a / 0x400000 = addr / 0x400000) → addrs.length ≤ burstLimit m → (∀ e ∈ addrs.zip data, s.badWord e.1 (some e.2) = false) →
    (∀ k : Fin 192, s.sqState k = 6 → (∃ a ∈ addrs, s.testedAt a = some k.val) →
      255 < (s.strand k).holdQ.length + (addrs.filter (fun a => s.testedAt a == some k.val)).length →
      ∃ a ∈ addrs, s.writeBurst m addrs data addr 0 present = (.error, s.noteBusError m a)) ∧
    ((∀ k : Nat, (∃ a ∈ addrs, s.testedAt a = some k) → (s.strand k).holdQ.length + (addrs.filter (fun a => s.testedAt a == some k)).length ≤ 255) →
      (s.writeBurst m addrs data addr 0 present).1 ≠ .error) ∧
    (∀ k : Fin 192, addrs ≠ [] → (∀ a ∈ addrs, s.testedAt a = some k.val) → (s.strand k).holdQ.length + addrs.length ≤ 255 →
      ∃ t, s.writeBurst m addrs data addr 0 present = (.deferred, t) ∧
      (t.strand k).holdQ = (s.strand k).holdQ ++ (addrs.zip data).map (fun e => .write m e.1 e.2) ∧ (∀ a, t.rd a = s.rd a))

/-- R47: after reset every shadow holds its register's reset value and no group is pending; a write to a shadow leaves every register in force as it
is, and changes that shadow only. Choices of the model that it rests on: assumption log 14. -/
def Obligations.Shadows : Prop :=
  (∀ (a : Nat), State.reset.shadowOf a = resetOf a ∧ State.reset.shadows = [] ∧ State.reset.captured = []) ∧
  (∀ (s : State) (a : Nat) (v : Word), (s.writeShadow a v).shadowOf a = v ∧ (∀ b, (s.writeShadow a v).rd b = s.rd b) ∧
    (∀ b, b ≠ a → (s.writeShadow a v).shadowOf b = s.shadowOf b))

/-- Register accesses (spec/02). REG_WRITE: one word to an update-buffered register changes its shadow and no value in force (R47); a burst with an
offending word records the bus error at the first and changes nothing else (R40, R41); a word to one of the registers that have no effect of
their own beside their value takes that value. RC_READ: the word read goes to the master and its read-clearing bits clear (R42); ILIM and VCLAMP
of PM_STAT latch first where a limit or a clamp acted (R289), which the load decides (log 13). SNAP_WRITE: the value of the register named is
captured (R66). DEV_LOCK_WRITE: bits are set, never cleared (R54). Choices of the model that it rests on: assumption log 11, 12. -/
def Obligations.RegisterAccesses : Prop :=
  (∀ (m : Master) (al : Alias) (a : Nat) (d : Word) (h : RegHit) (g : Nat) (s : State), s.mayWrite m a = true → a < 0x400000 → a % 4 = 0 →
    regAt a = some h → (h.row.aliased = true ∨ al = .normal) → h.row.w ≠ 0 → snapSpec a = none → h.row.group = some g →
    exec (.regWrite m (BitVec.ofNat 24 (aliasBase al + a)) [d] 0) s =
      .next ((s.writeShadow a (newValue h.row al (s.shadowOf a) d)).send (.accepted m))) ∧
  (∀ (m : Master) (addr : BitVec 24) (data : List Word) (tail : Fin 4) (bad : Nat) (s : State), s.masterLive m = true →
    s.burstBad m (wordsFrom addr.toNat data.length) (some data) addr.toNat tail = some bad →
    exec (.regWrite m addr data tail) s =
      .next ((s.wr Reg.DEV_BUS_ERR (BitVec.ofNat 32 (2 ^ 31 + m.code * 2 ^ 24 + bad % 16777216))).send (.busError m))) ∧
  (∀ (m : Master) (al : Alias) (d : Word) (s : State), s.mayWrite m Reg.DEV_UPD_SCHED = true → s.flag Reg.DEV_UPD_CTRL Fld.DEV_UPD_CTRL_ARM = false →
    exec (.regWrite m (BitVec.ofNat 24 (aliasBase al + Reg.DEV_UPD_SCHED)) [d] 0) s =
      .next ((s.wr Reg.DEV_UPD_SCHED (aliasValue al (s.rd Reg.DEV_UPD_SCHED) d)).send (.accepted m))) ∧
  (∀ (m : Master) (a : Nat) (h : RegHit) (s : State), s.masterLive m = true → s.inReach a = true → s.testedAt a = none → a < 0x400000 → a % 4 = 0 →
    regAt a = some h → h.row.rc ≠ 0 → (∀ n, a ≠ pinA n Reg.PM_STAT) →
    Does (.rcRead m (BitVec.ofNat 24 a) 1 0) s fun t =>
      t.rd a = s.rd a &&& ~~~ BitVec.ofNat 32 h.row.rc ∧ t.sent = s.sent ++ [.readData m [s.rd a]] ∧ ∀ b, b ≠ a → t.rd b = s.rd b) ∧
  (∀ (m : Master) (n : Fin 1536) (a : Nat) (s : State), a = pinA n Reg.PM_STAT → s.masterLive m = true → s.inReach a = true → s.testedAt a = none →
    Does (.rcRead m (BitVec.ofNat 24 a) 1 0) s fun t => ∃ (limit clamp : Bool) (v : Word), v = (s.latchLimits n limit clamp).rd a ∧
      t.rd a = v &&& ~~~ 0x7F ∧ t.sent = s.sent ++ [.readData m [v]] ∧ ∀ b, b ≠ a → t.rd b = s.rd b) ∧
  (∀ (m : Master) (d : Word) (s : State), s.mayWrite m Reg.DEV_SNAP = true → snapValid (0, 16) d.toNat = true →
    Does (.snapWrite m (BitVec.ofNat 22 Reg.DEV_SNAP) d) s fun t =>
      t.rd Reg.DEV_SNAP = s.rd d.toNat ∧ t.sent = s.sent ++ [.accepted m] ∧ ∀ b, b ≠ Reg.DEV_SNAP → t.rd b = s.rd b) ∧
  (∀ (m : Master) (al : Alias) (d : Word) (s : State), s.mayWrite m Reg.DEV_LOCK = true → (al = .normal ∨ al = .set) →
    exec (.devLockWrite m al d) s = .next ((s.wr Reg.DEV_LOCK (s.rd Reg.DEV_LOCK ||| (d &&& 0x7))).send (.accepted m)))

/-- Update strobes (spec/02). UPD_STROBE: the shadows of the groups named leave the shadow store; those a strand takes at once are put into force
together, the others are captured (R48, R49). UPD_ARM arms the scheduled strobe unless its tideline time is too near (R51, R53); UPD_DISARM
disarms it (R53). Choices of the model that it rests on: assumption log 14. -/
def Obligations.UpdateStrobes : Prop :=
  (∀ (m : Master) (mask : Word) (s : State), s.mayWrite m Reg.DEV_UPD_STROBE = true → allStrands.all (fun k => s.sqState k != 6) = true →
    exec (.updStrobe m mask) s =
      .next ((({ s with
          shadows := s.shadows.filter (fun e => !inMask mask.toNat e.1)
          captured := (s.shadows.filter (fun (e : Nat × Word) => inMask mask.toNat e.1 && (match strandAt e.1 with | some k => !s.takesNow k | none => false))).foldl
            (fun (c : Store Word) (e : Nat × Word) => Store.put c e.1 e.2) s.captured }).applyAll
        (s.shadows.filter (fun (e : Nat × Word) => inMask mask.toNat e.1 && (match strandAt e.1 with | some k => s.takesNow k | none => true)))).send (.accepted m))) ∧
  (∀ (m : Master) (slack : Bool) (s : State), s.mayWrite m Reg.DEV_UPD_CTRL = true → s.flag Reg.DEV_UPD_CTRL Fld.DEV_UPD_CTRL_ARM = false →
    (slack = true ∨ (s.tideValid = true ∧ s.tideNow + 2400 ≤ s.rd64 Reg.TL_UPD_AT_LO)) →
    exec (.updArm m slack) s =
      .next (((s.setFld Reg.DEV_UPD_CTRL Fld.DEV_UPD_CTRL_SRC (bitN slack)).setFld Reg.DEV_UPD_CTRL Fld.DEV_UPD_CTRL_ARM 1).send (.accepted m))) ∧
  (∀ (m : Master) (s : State), s.mayWrite m Reg.DEV_UPD_CTRL = true → s.tideValid = false → s.flag Reg.DEV_UPD_CTRL Fld.DEV_UPD_CTRL_ARM = false →
    exec (.updArm m false) s =
      .next (((s.setFld Reg.DEV_UPD_CTRL Fld.DEV_UPD_CTRL_SRC 0).raise Reg.DEV_UPD_STAT Fld.DEV_UPD_STAT_LATE).send (.accepted m))) ∧
  (∀ (m : Master) (s : State), s.mayWrite m Reg.DEV_UPD_CTRL = true → s.flag Reg.DEV_UPD_CTRL Fld.DEV_UPD_CTRL_ARM = true →
    exec (.updDisarm m) s = .next ((({ s with bound := none }).setFld Reg.DEV_UPD_CTRL Fld.DEV_UPD_CTRL_ARM 0).send (.accepted m)))

/-- Power and self-test commands (spec/17). DEV_PWR_DEEP in STANDBY, with nothing placed and no command in progress, switches the core domain off;
with another confirmation word it is rejected (R427). DEV_PWR_WAKE leaves deep standby (R428); an armed event of a pin with WAKE_EN fires there.
RT_SELFTEST_STRAND, RT_SELFTEST_ENGINE and RT_SELFTEST_LANE start the test of a target that is not refused and take the strand under test to its
own state (R439, R440). CV_WAKE asks a sleeping cove to wake and to stay awake (R423). Choices of the model that it rests on: assumption log 41,
46. -/
def Obligations.PowerAndSelfTestCommands : Prop :=
  (∀ (m : Master) (s : State), s.mayWrite m Reg.DEV_PWR_CMD = true → s.fld Reg.DEV_STATE Fld.DEV_STATE_STATE = 1 →
    s.fld Reg.DEV_STATE Fld.DEV_STATE_POWER = 1 → s.place.table = none → s.host.cmds = [] →
    exec (.devPwrDeep m 0xD5E1) s = .next (s.coreOff.send (.accepted m)) ∧ s.coreOff.coreOut = true) ∧
  (∀ (m : Master) (c : BitVec 16) (s : State), s.mayWrite m Reg.DEV_PWR_CMD = true → c ≠ 0xD5E1 →
    exec (.devPwrDeep m c) s = .next ((s.raise Reg.DEV_PWR_STAT Fld.DEV_PWR_STAT_CMD_REJ).send (.accepted m))) ∧
  (∀ (s : State), s.mayWrite .spi Reg.DEV_PWR_CMD = true → s.mayWake = true →
    Does (.devPwrWake none) s fun t => t = (s.deepWake 3).send (.accepted .spi) ∧ t.rd Reg.DEV_STATE = 0x04000000 ∧ t.rd Reg.DEV_STAT = 0 ∧
      t.power.cause = 3 ∧ t.coreOut = false) ∧
  (∀ (n : Fin 1536) (s : State), s.coreOut = true → s.flag (pinA n Reg.PS_EVT) Fld.PS_EVT_ARM = true →
    s.flag (pinA n Reg.PS_EVT) Fld.PS_EVT_WAKE_EN = true → exec (.devPwrWake (some n)) s = .next (s.firePinEvent n (s.cmpState n))) ∧
  (∀ (m : Master) (num : Fin 256) (subst : Bool) (s : State), s.mayWrite m Reg.BI_RT_CMD = true → s.ucodeBusy = false → s.testRefusal 1 num = 0 →
    exec (.rtSelftestStrand m num subst) s =
      .next (((({ s with power := { s.power with test := some ⟨1, num, subst, s.now, some num.val, s.sqState num⟩ } }).wr Reg.BI_RT_STAT
        (BitVec.ofNat 32 (2 ^ 30 + 1 * 2 ^ 28 + num * 2 ^ 12 + bitN (s.flag Reg.BI_RT_STAT Fld.BI_RT_STAT_DONE) * 2 ^ 22))).setSqState num 6).send (.accepted m))) ∧
  (∀ (m : Master) (num : Fin 256) (subst : Bool) (s : State), s.mayWrite m Reg.BI_RT_CMD = true → s.ucodeBusy = false → s.testRefusal 2 num = 0 →
    exec (.rtSelftestEngine m num subst) s =
      .next (((fun (x : State) => match s.servedBy num with | some k => x.setSqState k 6 | none => x)
        (({ s with power := { s.power with test := some ⟨2, num, subst, s.now, s.servedBy num, match s.servedBy num with | some k => s.sqState k | none => 0⟩ } }).wr Reg.BI_RT_STAT
        (BitVec.ofNat 32 (2 ^ 30 + 2 * 2 ^ 28 + num * 2 ^ 12 + bitN (s.flag Reg.BI_RT_STAT Fld.BI_RT_STAT_DONE) * 2 ^ 22)))).send (.accepted m))) ∧
  (∀ (m : Master) (num : Fin 256) (s : State), s.mayWrite m Reg.BI_RT_CMD = true → s.ucodeBusy = false → s.testRefusal 3 num = 0 →
    s.fld Reg.BI_LANE Fld.BI_LANE_RESERVE = num →
    exec (.rtSelftestLane m num) s =
      .next ((({ s with power := { s.power with test := some ⟨3, num, false, s.now, none, 0⟩ } }).wr Reg.BI_RT_STAT
        (BitVec.ofNat 32 (2 ^ 30 + 3 * 2 ^ 28 + num * 2 ^ 12 + bitN (s.flag Reg.BI_RT_STAT Fld.BI_RT_STAT_DONE) * 2 ^ 22))).send (.accepted m))) ∧
  (∀ (m : Master) (num : Fin 256) (subst : Bool) (s : State), s.mayWrite m Reg.BI_RT_CMD = true → s.ucodeBusy = false → s.testRefusal 1 num ≠ 0 →
    exec (.rtSelftestStrand m num subst) s =
      .next (((s.setFld Reg.BI_RT_STAT Fld.BI_RT_STAT_RESULT (s.testRefusal 1 num)).raise Reg.BI_RT_STAT Fld.BI_RT_STAT_DONE).send (.accepted m))) ∧
  (∀ (m : Master) (c : Fin 16) (s : State), s.mayWrite m (coveA c Reg.CV_CMD) = true → s.coreOut = false →
    s.fld (coveA c Reg.CV_STATE) Fld.CV_STATE_STATE = 0 → bitOf (s.rd Reg.TH_EXCLUDE).toNat c = false →
    exec (.cvWake m c) s = .next ((({ (s.setFld (coveA c Reg.CV_STATE) Fld.CV_STATE_STATE 4).setFld (coveA c Reg.CV_STATE) Fld.CV_STATE_CAUSE 3 with
      place := { s.place with stay := s.place.stay.filter (fun x => x != c.val) ++ [c.val] } }).send (.accepted m))))

/-- The control store and the life store (spec/19, spec/21). CS_LOAD, CS_APPLY_PATCH, CS_CLEAR_PATCH and CS_PROGRAM begin to run, with the result
code that the image's checks give, where nothing refuses them (R475); where something does, they end with that code at once. LS_FLUSH and
LS_SETUP_COMMIT ask for a flash operation (R494, R497); LS_SETUP_COMMIT without its confirmation is rejected. LS_SETUP_WRITE writes a word of the
setup shadow (R494). Choices of the model that it rests on: assumption log 42, 43. -/
def Obligations.StoreCommands : Prop :=
  (∀ (m : Master) (slot : Fin 2) (s : State), s.mayWrite m Reg.CS_CMD = true → s.csRefusal 1 = 0 →
    exec (.csLoad m slot) s = .next ((({ s.wr Reg.CS_CMD (BitVec.ofNat 32 (16 * slot)) with
      ctl := { s.ctl with run := some ⟨1, slot, s.now, s.slotCode slot true⟩ } }).raise Reg.CS_STAT Fld.CS_STAT_BUSY).send (.accepted m))) ∧
  (∀ (m : Master) (s : State), s.mayWrite m Reg.CS_CMD = true → s.csRefusal 2 = 0 →
    exec (.csApplyPatch m) s = .next ((({ s.wr Reg.CS_CMD 0 with
      ctl := { s.ctl with run := some ⟨2, 0, s.now, s.imageCode s.stagedImage 2 true true⟩ } }).raise Reg.CS_STAT Fld.CS_STAT_BUSY).send (.accepted m))) ∧
  (∀ (m : Master) (s : State), s.mayWrite m Reg.CS_CMD = true → s.csRefusal 3 = 0 →
    exec (.csClearPatch m) s = .next ((({ s.wr Reg.CS_CMD 0 with
      ctl := { s.ctl with run := some ⟨3, 0, s.now, 1⟩ } }).raise Reg.CS_STAT Fld.CS_STAT_BUSY).send (.accepted m))) ∧
  (∀ (m : Master) (slot : Fin 2) (s : State), s.mayWrite m Reg.CS_CMD = true → s.csRefusal 4 = 0 → s.imageCode s.stagedImage 1 false false = 1 →
    exec (.csProgram m slot) s = .next (((({ s.wr Reg.CS_CMD (BitVec.ofNat 32 (16 * slot)) with
      ctl := { s.ctl with run := some ⟨4, slot, s.now, 1⟩ } }).raise Reg.CS_STAT Fld.CS_STAT_BUSY).pushOp (.program slot s.stagedImage)).send (.accepted m))) ∧
  (∀ (m : Master) (s : State), s.mayWrite m Reg.CS_CMD = true → s.ctl.run.isSome = true →
    exec (.csClearPatch m) s = .next ((((((s.wr Reg.CS_CMD 0).wr Reg.CS_RES 0x300800FF).raise Reg.CS_STAT Fld.CS_STAT_DONE).raise Reg.CS_STAT Fld.CS_STAT_FAIL)).send
      (.accepted m))) ∧
  (∀ (m : Master) (s : State), s.mayWrite m Reg.LS_CMD = true → s.flag Reg.LS_RES Fld.LS_RES_BUSY = false → s.beaconRuns = true →
    s.dayStarts.length < 64 →
    exec (.lsFlush m) s = .next ((((s.wr Reg.LS_CMD 0).raise Reg.LS_RES Fld.LS_RES_BUSY).askFlush true).send (.accepted m))) ∧
  (∀ (m : Master) (s : State), s.mayWrite m Reg.LS_CMD = true → s.flag Reg.LS_RES Fld.LS_RES_BUSY = false → s.beaconRuns = true →
    exec (.lsSetupCommit m 0x15C0) s = .next ((((s.wr Reg.LS_CMD 0x15C00000).raise Reg.LS_RES Fld.LS_RES_BUSY).pushOp .setup).send (.accepted m))) ∧
  (∀ (m : Master) (s : State), s.mayWrite m Reg.LS_CMD = true →
    exec (.lsSetupCommit m 0) s = .next (((s.wr Reg.LS_CMD 0).raise Reg.LS_STAT Fld.LS_STAT_CMD_REJ).send (.accepted m))) ∧
  (∀ (m : Master) (al : Alias) (d : Word) (s : State), s.mayWrite m Reg.LS_SETUP_DATA = true →
    s.fld Reg.LS_SETUP_ADDR Fld.LS_SETUP_ADDR_WORD ≤ 11 →
    exec (.lsSetupWrite m al d) s = .next (({ s with store := { s.store with shadow := putWord s.store.shadow (s.fld Reg.LS_SETUP_ADDR Fld.LS_SETUP_ADDR_WORD) (aliasValue al (BitVec.ofNat 32 (leAt s.store.shadow (4 * s.fld Reg.LS_SETUP_ADDR Fld.LS_SETUP_ADDR_WORD) 4)) d) } }).setupAdvance.send (.accepted m)))

/-- Fault, helm and thermal registers (spec/18). FC_ACK by Beacon, or by anyone while helm rests with the host, closes an open record below class 2
and puts it at the head of the history (R445); with no such record it is rejected. FC_FORCE queues a forced message of a kind its source defines
(R453). FC_REC_SEL and FC_LOG_SEL capture a record (R447, R448). FC_WDT_KICK restarts the interval only from Beacon (R455). FC_HELM_ACK,
FC_HELM_RESET and FC_HELM_RETURN act as R457 to R459 say. TH_EXCLUDE excludes sensors, but no awake cove's (R465). Choices of the model that it
rests on: assumption log 38, 39. -/
def Obligations.FaultCommands : Prop :=
  (∀ (m : Master) (src : Fin 4096) (r : FaultRec) (s : State), s.mayWrite m Reg.FC_ACK = true → Store.get? s.faults.recs src = some r → r.cls < 2 →
    (m = .beacon ∨ s.helmHost = true) →
    Does (.fcAck m src) s fun t => t = (s.closeRec src).send (.accepted m) ∧ t.faults.recs = Store.del s.faults.recs src ∧
      t.faults.history = (r :: s.faults.history).take 64) ∧
  (∀ (m : Master) (src : Fin 4096) (s : State), s.mayWrite m Reg.FC_ACK = true → Store.get? s.faults.recs src = none →
    exec (.fcAck m src) s = .next ((s.raise Reg.FC_STAT Fld.FC_STAT_ACK_REJ).send (.accepted m))) ∧
  (∀ (m : Master) (d : Word) (s : State), s.mayWrite m Reg.FC_FORCE = true → Fld.FC_FORCE_GO.get d = 1 →
    kindValid (Fld.FC_FORCE_SOURCE.get d) (Fld.FC_FORCE_KIND.get d) = true →
    exec (.fcForce m d) s = .next (({ s.wr Reg.FC_FORCE (Fld.FC_FORCE_GO.put (s.newWord .normal Reg.FC_FORCE d) 0) with
      faultQ := s.faultQ ++ [(⟨Fld.FC_FORCE_SOURCE.get d, Fld.FC_FORCE_KIND.get d, 0, true⟩ : FaultMsg)] }).send (.accepted m))) ∧
  (∀ (m : Master) (al : Alias) (d : Word) (r : FaultRec) (s : State), s.mayWrite m Reg.FC_REC_SEL = true →
    Store.get? s.faults.recs (Fld.FC_REC_SEL_INDEX.get (s.newWord al Reg.FC_REC_SEL d)) = some r →
    exec (.fcRecSel m al d) s = .next (((s.wr Reg.FC_REC_SEL (s.newWord al Reg.FC_REC_SEL d)).capture Reg.FC_REC r.value).send (.accepted m))) ∧
  (∀ (m : Master) (al : Alias) (d : Word) (r : FaultRec) (s : State), s.mayWrite m Reg.FC_LOG_SEL = true →
    s.faults.history[Fld.FC_LOG_SEL_INDEX.get (s.newWord al Reg.FC_LOG_SEL d)]? = some r →
    exec (.fcLogSel m al d) s = .next (((s.wr Reg.FC_LOG_SEL (s.newWord al Reg.FC_LOG_SEL d)).capture Reg.FC_LOG r.value).send (.accepted m))) ∧
  (∀ (d : Word) (s : State), s.mayWrite .beacon Reg.FC_WDT_KICK = true →
    exec (.fcWdtKick .beacon d) s = .next (({ s with faults := { s.faults with kickAt := s.now } }).send (.accepted .beacon))) ∧
  (∀ (m : Master) (d : Word) (s : State), s.mayWrite m Reg.FC_WDT_KICK = true → m ≠ .beacon → exec (.fcWdtKick m d) s = .next (s.send (.accepted m))) ∧
  (∀ (m : Master) (s : State), s.mayWrite m Reg.FC_HELM_CMD = true → s.helmPending = true →
    exec (.fcHelmAck m) s = .next ((({ s with faults := { s.faults with helmDue := none } }).setFld Reg.FC_HELM_STATE Fld.FC_HELM_STATE_PENDING 0).send
      (.accepted m))) ∧
  (∀ (m : Master) (s : State), s.mayWrite m Reg.FC_HELM_CMD = true → s.helmHost = true → s.helmPending = false →
    exec (.fcHelmReset m 0x4E1A) s = .next ((({ s with faults := { s.faults with booting := some s.now } }).setFld Reg.FC_HELM_STATE
      Fld.FC_HELM_STATE_BEACON_RUN 0).send (.accepted m))) ∧
  (∀ (m : Master) (c : BitVec 16) (s : State), s.mayWrite m Reg.FC_HELM_CMD = true → c ≠ 0x4E1A → exec (.fcHelmReset m c) s = .next (s.send (.accepted m))) ∧
  (∀ (m : Master) (s : State), s.mayWrite m Reg.FC_HELM_CMD = true → s.helmHost = true → s.beaconRuns = true →
    exec (.fcHelmReturn m) s = .next ((s.helmTransfer 3 false).send (.accepted m))) ∧
  (∀ (m : Master) (al : Alias) (d : Word) (n : Nat) (s : State), s.mayWrite m Reg.TH_EXCLUDE = true → n < 16 → s.coveAwake n = true →
    bitOf (Fld.TH_EXCLUDE_SENSORS.get (s.newWord al Reg.TH_EXCLUDE d)) n = true → bitOf (s.fld Reg.TH_EXCLUDE Fld.TH_EXCLUDE_SENSORS) n = false →
    exec (.thExcludeWrite m al d) s = .next ((s.raise Reg.TH_STAT Fld.TH_STAT_EXCL_REJ).send (.accepted m))) ∧
  (∀ (m : Master) (n : Nat) (s : State), s.mayWrite m Reg.TH_EXCLUDE = true → 16 ≤ n → n < 24 → s.fld Reg.TH_EXCLUDE Fld.TH_EXCLUDE_SENSORS = 0 →
    exec (.thExcludeWrite m .set (BitVec.ofNat 32 (2 ^ n))) s =
      .next ((((s.setFld Reg.TH_EXCLUDE Fld.TH_EXCLUDE_SENSORS (2 ^ n)).raise (Reg.TH_SENS + 4 * n) Fld.TH_SENS_EXCLUDED).thermalUpdate).send (.accepted m)))

/-- Pin registers (spec/03, spec/11, spec/12). A write of PS_LIM re-clips the driver levels in force at once (R73), one of PM_LIM_V or PM_LIM_I the
force code, clamps and range in force (R290). PS_EVT_ARM arms the contact event with the state of the comparator now, and PS_EVT_DISARM disarms
it (R88). BW_REARM sets the action and re-arms the breakwater (R98). PM_FORCE_DIRECT_WRITE puts the force code into force, and into the waiting
shadow of PM_FORCE (R297). TD_START starts a measurement whose configuration is good, and is rejected while one runs; TD_STOP ends it with
STOPPED (R319). Choices of the model that it rests on: assumption log 23, 24. -/
def Obligations.PinRegisterCommands : Prop :=
  (∀ (m : Master) (al : Alias) (n : Fin 1536) (d : Word) (s : State), s.mayWrite m (pinA n Reg.PS_LIM) = true →
    exec (.psLimWrite m al n d) s = .next (((s.wr (pinA n Reg.PS_LIM) (s.newWord al (pinA n Reg.PS_LIM) d)).reclip n).send (.accepted m))) ∧
  (∀ (m : Master) (al : Alias) (n : Fin 1536) (cur : Bool) (d : Word) (s : State),
    s.mayWrite m (pinA n (if cur then Reg.PM_LIM_I else Reg.PM_LIM_V)) = true →
    exec (.pmLimWrite m al n cur d) s = .next ((s.pmLimWrite n (if cur then Reg.PM_LIM_I else Reg.PM_LIM_V)
      (s.newWord al (pinA n (if cur then Reg.PM_LIM_I else Reg.PM_LIM_V)) d)).send (.accepted m))) ∧
  (∀ (m : Master) (n : Fin 1536) (tg : Fin 8) (ring wake : Bool) (s : State), s.mayWrite m (pinA n Reg.PS_EVT) = true →
    exec (.psEvtArm m n tg ring wake) s =
      .next ((((((((s.setFld (pinA n Reg.PS_EVT) Fld.PS_EVT_RING_EN (bitN ring)).setFld (pinA n Reg.PS_EVT) Fld.PS_EVT_WAKE_EN (bitN wake)).setFld
        (pinA n Reg.PS_EVT) Fld.PS_EVT_TARGET tg).setFld (pinA n Reg.PS_EVT) Fld.PS_EVT_ARM 1).setFld
        (pinA n Reg.PS_EVT) Fld.PS_EVT_AT_ARM (s.cmpState n)).setFld (pinA n Reg.PS_EVT) Fld.PS_EVT_FIRED 0)).send (.accepted m))) ∧
  (∀ (m : Master) (n : Fin 1536) (tg : Fin 8) (ring wake : Bool) (s : State), s.mayWrite m (pinA n Reg.PS_EVT) = true →
    exec (.psEvtDisarm m n tg ring wake) s =
      .next (((((s.setFld (pinA n Reg.PS_EVT) Fld.PS_EVT_RING_EN (bitN ring)).setFld (pinA n Reg.PS_EVT) Fld.PS_EVT_WAKE_EN (bitN wake)).setFld
        (pinA n Reg.PS_EVT) Fld.PS_EVT_TARGET tg).setFld (pinA n Reg.PS_EVT) Fld.PS_EVT_ARM 0).send (.accepted m))) ∧
  (∀ (m : Master) (n : Fin 1536) (act : Fin 4) (present : Bool) (s : State), s.mayWrite m (pinA n Reg.PS_BW_CTRL) = true →
    exec (.bwRearm m n act present) s =
      .next (((s.setFld (pinA n Reg.PS_BW_CTRL) Fld.PS_BW_CTRL_ACTION act).rearm n present).send (.accepted m))) ∧
  (∀ (m : Master) (al : Alias) (n : Fin 1536) (d v : Word) (s : State), s.mayWrite m (pinA n Reg.PM_FORCE_DIRECT) = true →
    v = s.newWord al (pinA n Reg.PM_FORCE_DIRECT) d → Store.get? s.shadows (pinA n Reg.PM_FORCE) = none →
    exec (.pmForceDirectWrite m al n d) s =
      .next ((((s.wr (pinA n Reg.PM_FORCE_DIRECT) v).wr (pinA n Reg.PM_FORCE) (BitVec.ofNat 32 (v.toNat % 65536))).appliedForce n
        (s.rd (pinA n Reg.PM_FORCE))).send (.accepted m))) ∧
  (∀ (m : Master) (n : Fin 1536) (cfg : Word) (s : State), s.mayWrite m (pinA n Reg.TD_CTRL) = true → s.tdState n = 0 →
    cfg = s.rd (pinA n Reg.TD_CFG) → s.fld (pinA n Reg.TD_N) Fld.TD_N_N ≠ 0 → Fld.TD_CFG_MODE.get cfg ≠ 3 → Fld.TD_CFG_ARM.get cfg ≠ 3 →
    ¬ (Fld.TD_CFG_MODE.get cfg = 0 ∧ Fld.TD_CFG_ARM.get cfg = 0) → Fld.TD_CFG_START_EDGE.get cfg ≠ 3 → Fld.TD_CFG_STOP_EDGE.get cfg ≠ 3 →
    s.fld (pinA n Reg.PS_CMP_STATE) Fld.PS_CMP_STATE_MODE_EFF = 0 →
    exec (.tdStart m n) s = .next (((((s.setTdc n
      { cfg := cfg, n := min 16777216 (s.fld (pinA n Reg.TD_N) Fld.TD_N_N), startAt := s.now, scale := (s.tdc n).scale, lastStamp := (s.tdc n).lastStamp }).wr
      (pinA n Reg.TD_COUNT) 0).wr (pinA n Reg.TD_MISS) 0).setFld (pinA n Reg.TD_STAT) Fld.TD_STAT_STATE 1).send (.accepted m))) ∧
  (∀ (m : Master) (n : Fin 1536) (s : State), s.mayWrite m (pinA n Reg.TD_CTRL) = true → s.tdState n ≠ 0 →
    exec (.tdStart m n) s = .next ((s.raise (pinA n Reg.TD_STAT) Fld.TD_STAT_CMD_REJ).send (.accepted m)) ∧
    exec (.tdStop m n) s = .next ((s.tdComplete n 6).send (.accepted m)))

/-- Tables of a strand (spec/04, spec/05, spec/06, spec/11, spec/08). A write through WV_DATA, SQ_BT_DATA or AG_TAB_DATA goes to the entry addressed
while the strand is IDLE, HALTED or PARKED, and is refused otherwise (R123, R124, R159, R177); one through ED_E0 to ED_E5 is refused only for the
bank in force; one through SG_TAB_DATA while the sine generator is on (R312). FL_DIE takes its value and FL_CMD.LEDGER_CLR clears the fail ledger
while the fail path of the strand is open (R230). Choices of the model that it rests on: assumption log 7. -/
def Obligations.StrandTables : Prop :=
  (∀ (m : Master) (al : Alias) (k : Fin 192) (d : Word) (s : State), s.mayWrite m (strandA k Reg.WV_DATA) = true →
    exec (.wvDataWrite m al k d) s =
      .next (((if s.tablesOpen k then s.modStrand k (fun st => { st with tables := { st.tables with wave := Store.putD st.tables.wave (s.fld (strandA k Reg.WV_ADDR) Fld.WV_ADDR_INDEX * 8 + s.fld (strandA k Reg.WV_ADDR) Fld.WV_ADDR_PIN) (aliasValue al (s.wvData k) d).toNat 0 } })
        else s.raise (strandA k Reg.WV_STAT) Fld.WV_STAT_BUSY_REJ).wvAdvance k).send (.accepted m))) ∧
  (∀ (m : Master) (al : Alias) (k : Fin 192) (e : Fin 6) (d : Word) (s : State), s.mayWrite m (strandA k (Reg.ED_E0 + 4 * e)) = true →
    exec (.edEdgeWrite m al k e d) s =
      .next (((if s.tablesOpen k = false ∧ s.fld (strandA k Reg.ED_ADDR) Fld.ED_ADDR_BANK = s.fld (strandA k Reg.ED_CTRL) Fld.ED_CTRL_BANK then
          s.raise (strandA k Reg.WV_STAT) Fld.WV_STAT_BUSY_REJ
        else s.modStrand k (fun st => { st with tables := { st.tables with edge := Store.putD st.tables.edge (s.edKey k e) ((aliasValue al (s.edData k e) d).toNat % 1048576) 0 } })).edAdvance k e).send (.accepted m))) ∧
  (∀ (m : Master) (al : Alias) (k : Fin 192) (d : Word) (s : State), s.mayWrite m (strandA k Reg.SQ_BT_DATA) = true →
    exec (.sqBtWrite m al k d) s =
      .next (((if s.tablesOpen k then s.modStrand k (fun st => { st with tables := { st.tables with bt := Store.putD st.tables.bt (s.fld (strandA k Reg.SQ_BT_ADDR) Fld.SQ_BT_ADDR_INDEX) ((aliasValue al (s.btData k) d).toNat % 65536) 0 } })
        else s.raise (strandA k Reg.SQ_STAT) Fld.SQ_STAT_BT_REJ).btAdvance k).send (.accepted m))) ∧
  (∀ (m : Master) (al : Alias) (k : Fin 192) (d : Word) (tab i size width : Nat) (s : State), s.mayWrite m (strandA k Reg.AG_TAB_DATA) = true →
    tab = s.fld (strandA k Reg.AG_TAB_ADDR) Fld.AG_TAB_ADDR_TABLE → i = s.fld (strandA k Reg.AG_TAB_ADDR) Fld.AG_TAB_ADDR_INDEX →
    agTable tab = some (size, width) →
    exec (.agTabWrite m al k d) s =
      .next (((if s.tablesOpen k = true ∧ i < size then s.modStrand k (fun st => { st with tables := st.tables.agPut tab i ((aliasValue al (s.agTabData k) d).toNat % 2 ^ width) })
        else s.raise (strandA k Reg.AG_STAT) Fld.AG_STAT_TAB_REJ).agAdvance k).send (.accepted m))) ∧
  (∀ (m : Master) (al : Alias) (k : Fin 192) (d : Word) (s : State), s.mayWrite m (strandA k Reg.SG_TAB_DATA) = true →
    exec (.sgTabWrite m al k d) s =
      .next (((if s.flag (strandA k Reg.SG_CTRL) Fld.SG_CTRL_EN then s.raise (strandA k Reg.SG_STAT) Fld.SG_STAT_TAB_REJ
        else s.modStrand k (fun st => { st with tables := { st.tables with sine := Store.putD st.tables.sine (s.fld (strandA k Reg.SG_TAB_ADDR) Fld.SG_TAB_ADDR_INDEX) (signed 18 (aliasValue al (s.sgData k) d).toNat) (sineReset (s.fld (strandA k Reg.SG_TAB_ADDR) Fld.SG_TAB_ADDR_INDEX)) } })).sgAdvance k).send (.accepted m))) ∧
  (∀ (m : Master) (al : Alias) (k : Fin 192) (d : Word) (s : State), s.mayWrite m (strandA k Reg.FL_DIE) = true →
    exec (.flDieWrite m al k d) s =
      .next ((if s.flOpen k then s.wr (strandA k Reg.FL_DIE) (s.newWord al (strandA k Reg.FL_DIE) d &&& 0x8000FFFF)
        else s.raise (strandA k Reg.FL_STAT) Fld.FL_STAT_CMD_REJ).send (.accepted m))) ∧
  (∀ (m : Master) (k : Fin 192) (s : State), s.mayWrite m (strandA k Reg.FL_CMD) = true →
    exec (.flLedgerClr m k) s =
      .next ((if s.flOpen k then s.clearFails k else s.raise (strandA k Reg.FL_STAT) Fld.FL_STAT_CMD_REJ).send (.accepted m)))

/-- Commands of a strand's sequencer and acquisition engine (spec/05, spec/12). SQ_HALT stops a running strand at its next step (R152, R153) and is
rejected on an idle one; SQ_RESUME resumes a parked one within 1 µs (R154); SQ_LEDGER_CLR clears the step ledger of one that is idle or halted
(R158). AQ_START takes an idle engine with a good configuration to PRE with its counts cleared (R320 to R322); AQ_STOP ends capture (R330);
AQ_FORCE is a trigger, and counts as missed in POST or REARM (R323, R326). Choices of the model that it rests on: assumption log 15, 16, 24. -/
def Obligations.StrandRegisterCommands : Prop :=
  (∀ (m : Master) (k : Fin 192) (s : State), s.mayWrite m (strandA k Reg.SQ_CMD) = true → (s.sqState k = 1 ∨ s.sqState k = 2) →
    exec (.sqHalt m k) s = .next ((if s.now ≤ (s.strand (s.flowOf k)).nextAt then s.stopHere k .hostHalt (s.strand (s.flowOf k)).nextAt
      else s.modStrand k (fun t => { t with stops := t.stops ++ [(.hostHalt, s.now)] })).send (.accepted m))) ∧
  (∀ (m : Master) (k : Fin 192) (s : State), s.mayWrite m (strandA k Reg.SQ_CMD) = true → s.sqState k = 3 →
    exec (.sqHalt m k) s = .next ((s.stopHere k .hostHalt (max s.now (s.strand k).nextAt)).send (.accepted m))) ∧
  (∀ (m : Master) (k : Fin 192) (s : State), s.mayWrite m (strandA k Reg.SQ_CMD) = true → s.sqState k = 0 →
    exec (.sqHalt m k) s = .next ((s.sqReject k).send (.accepted m)) ∧ exec (.sqResume m k) s = .next ((s.sqReject k).send (.accepted m))) ∧
  (∀ (m : Master) (k : Fin 192) (s : State), s.mayWrite m (strandA k Reg.SQ_CMD) = true → s.sqState k = 4 → s.role k ≠ 2 →
    exec (.sqResume m k) s =
      .next ((({ s with fresh := s.fresh + 1 }).resumeAt k ((s.now / 512 + 1 + Config.freeNat s.fresh % 1199) * 512)).send (.accepted m))) ∧
  (∀ (m : Master) (k : Fin 192) (s : State), s.mayWrite m (strandA k Reg.SQ_CMD) = true → (s.sqState k = 0 ∨ s.sqState k = 5) →
    Does (.sqLedgerClr m k) s fun t => t = (s.clearSteps k).send (.accepted m) ∧
      (∀ o ∈ [Reg.SQ_ISSUED_LO, Reg.SQ_EXEC_LO, Reg.SQ_HELD_LO, Reg.SQ_HOLD_TIME_LO, Reg.SQ_PARK_TIME_LO], t.rd64 (strandA k o) = 0) ∧
      t.sq k Reg.SQ_SLIPS = 0) ∧
  (∀ (m : Master) (k : Fin 192) (s : State), s.mayWrite m (strandA k Reg.AQ_CTRL) = true → s.aqState k = 0 →
    (Fld.AQ_CFG_SRC.get (s.sq k Reg.AQ_CFG) = 1 ∨ Fld.AQ_CFG_SRC.get (s.sq k Reg.AQ_CFG) = 2) →
    (Fld.AQ_CFG_TSRC.get (s.sq k Reg.AQ_CFG) = 0 ∨ Fld.AQ_CFG_TSRC.get (s.sq k Reg.AQ_CFG) = 2) →
    Does (.aqStart m k) s fun t => t = (s.aqStart k).send (.accepted m) ∧ t.aqState k = 1 ∧ t.sq k Reg.AQ_MISSED = 0 ∧ t.sq k Reg.AQ_RECNUM = 0 ∧
      t.sq k Reg.AQ_OVF = 0) ∧
  (∀ (m : Master) (k : Fin 192) (s : State), s.mayWrite m (strandA k Reg.AQ_CTRL) = true → s.aqState k ≠ 0 →
    exec (.aqStart m k) s = .next ((s.raise (strandA k Reg.AQ_STAT) Fld.AQ_STAT_CFG_REJ).send (.accepted m))) ∧
  (∀ (m : Master) (k : Fin 192) (s : State), s.mayWrite m (strandA k Reg.AQ_CTRL) = true →
    Does (.aqStop m k) s fun t => t.aqState k = 0 ∧
      t = (if s.aqState k = 0 then s else
        ((s.aqWriteRecord k false (s.aqState k == 2)).setAqState k 0).modAcq k (fun a => { a with rows := [] })).send (.accepted m)) ∧
  (∀ (m : Master) (k : Fin 192) (s : State), s.mayWrite m (strandA k Reg.AQ_CTRL) = true →
    exec (.aqForce m k) s = .next ((s.aqTrigger k s.now).send (.accepted m)) ∧
    ((s.aqState k = 2 ∨ s.aqState k = 3) → (s.aqTrigger k s.now).sq k Reg.AQ_MISSED = BitVec.ofNat 32 (min 4294967295 ((s.sq k Reg.AQ_MISSED).toNat + 1))))

/-- Journal, splice and placement commands (spec/08, spec/09, spec/10). JRN_RESET empties the journal and JOURNAL_AUDIT begins an audit unless a
strand is in active test (R219, R227). SP_FINAL starts the final splice of a die that may have one, else it is rejected; SP_FINAL_ALL does so for
every placed die (R244); SP_RELEASE frees a die's contexts and moves its window (R240, R245). PL_RELEASE removes the placement (R276). Choices of
the model that it rests on: assumption log 20, 21, 22. -/
def Obligations.JournalCommands : Prop :=
  (∀ (m : Master) (s : State), s.mayWrite m Reg.FL_DEV_CMD = true → s.activeTest = false →
    Does (.jrnReset m) s fun t => t = s.resetJournal.send (.accepted m) ∧ t.failPath.journal = [] ∧ t.failPath.buffer = [] ∧ t.failPath.nextGroup = 0 ∧
      t.splice.dies = []) ∧
  (∀ (m : Master) (s : State), s.mayWrite m Reg.FL_DEV_CMD = true → s.activeTest = true →
    exec (.jrnReset m) s = .next ((s.raise Reg.FL_DEV_STAT Fld.FL_DEV_STAT_CMD_REJ).send (.accepted m)) ∧
    exec (.journalAudit m) s = .next ((s.raise Reg.FL_DEV_STAT Fld.FL_DEV_STAT_CMD_REJ).send (.accepted m))) ∧
  (∀ (m : Master) (s : State), s.mayWrite m Reg.FL_DEV_CMD = true → s.activeTest = false →
    exec (.journalAudit m) s = .next (({ s with failPath := { s.failPath with audit := some s.now } }).send (.accepted m))) ∧
  (∀ (m : Master) (d : BitVec 16) (s : State), s.mayWrite m Reg.SP_CMD = true →
    exec (.spFinal m d) s =
      .next ((if s.canFinal d.toNat then s.startFinal d.toNat else s.raise Reg.SP_STAT Fld.SP_STAT_CMD_REJ).send (.accepted m))) ∧
  (∀ (m : Master) (s : State), s.mayWrite m Reg.SP_CMD = true →
    exec (.spFinalAll m) s = .next ((s.placedDies.foldl (fun x d => if x.canFinal d then x.startFinal d else x.raise Reg.SP_STAT Fld.SP_STAT_CMD_REJ) s).send
      (.accepted m))) ∧
  (∀ (m : Master) (d : BitVec 16) (s : State), s.mayWrite m Reg.SP_CMD = true →
    exec (.spRelease m d) s =
      .next ((if (s.finalOf d.toNat).isSome then s.raise Reg.SP_STAT Fld.SP_STAT_CMD_REJ else (s.freeDie d.toNat).modDie d.toNat (fun r => { r with
        start := s.jrnPos
        overflows := r.overflows.filter (fun p => decide (s.jrnPos ≤ p))
        imbalances := [] })).send (.accepted m))) ∧
  (∀ (m : Master) (s : State), s.mayWrite m Reg.PL_CMD = true → s.activeTest = false → s.place.making = none →
    exec (.plRelease m) s = .next ((((({ s with place := { s.place with table := none, stay := [] } }).each allStrands
      (fun x k => ((x.clearStrand k).setRole k 0).setFld (lbPos k) Fld.LB_POS_LEADER 255)).wr Reg.PL_ID 0).showBudget).send (.accepted m))) ∧
  (∀ (m : Master) (s : State), s.mayWrite m Reg.PL_CMD = true → s.activeTest = true →
    exec (.plRelease m) s = .next ((s.raise Reg.PL_STAT Fld.PL_STAT_REFUSED).send (.accepted m)))

/-- Calibration commands (spec/13). CAL_TIMING, CAL_LEVELS, CAL_CONV, CAL_SYS_ZERO and CAL_SYS_FS start a run where nothing refuses it (R338, R339);
refused, they set REFUSED and give the reason in CB_RES. CAL_ABORT aborts the run of its strand (R342). CB_DATA_WRITE writes the shadow of the
item addressed, unless a run uses the pin (R333, R339). CB_COMMIT asks for a flash operation with Beacon running, no run under way and no commit
(R349). Choices of the model that it rests on: assumption log 25. -/
def Obligations.CalibrationCommands : Prop :=
  (∀ (m : Master) (k : Fin 256) (pins : BitVec 8) (ctx : Fin 4) (s : State), s.mayWrite m Reg.CB_CMD = true →
    (s.calRefusal k 1 0 pins.toNat = 0 → exec (.calTiming m k pins ctx) s = .next ((s.startCal k 1 0 ctx pins.toNat none).send (.accepted m))) ∧
    (s.calRefusal k 2 0 pins.toNat = 0 → exec (.calLevels m k pins ctx) s = .next ((s.startCal k 2 0 ctx pins.toNat none).send (.accepted m))) ∧
    (s.calRefusal k 3 0 pins.toNat = 0 → exec (.calConv m k pins ctx) s = .next ((s.startCal k 3 0 ctx pins.toNat none).send (.accepted m)))) ∧
  (∀ (m : Master) (k : Fin 256) (pins : BitVec 8) (ctx : Fin 4) (src : Fin 8) (s : State), s.mayWrite m Reg.CB_CMD = true →
    (s.calRefusal k 4 src pins.toNat = 0 → exec (.calSysZero m k pins ctx src) s = .next ((s.startCal k 4 src ctx pins.toNat none).send (.accepted m))) ∧
    (s.calRefusal k 5 src pins.toNat = 0 → exec (.calSysFs m k pins ctx src) s = .next ((s.startCal k 5 src ctx pins.toNat none).send (.accepted m)))) ∧
  (∀ (m : Master) (k : Fin 256) (pins : BitVec 8) (ctx : Fin 4) (s : State), s.mayWrite m Reg.CB_CMD = true → s.calRefusal k 1 0 pins.toNat ≠ 0 →
    exec (.calTiming m k pins ctx) s =
      .next (((s.raise Reg.CB_STAT Fld.CB_STAT_REFUSED).calResult k 1 3 0 (s.calRefusal k 1 0 pins.toNat)).send (.accepted m))) ∧
  (∀ (m : Master) (k : Fin 256) (r : CalRun) (s : State), s.mayWrite m Reg.CB_CMD = true → Store.get? s.calRuns (coveOf k) = some r → r.strand = k →
    exec (.calAbort m k) s = .next ((s.abortCal (coveOf k)).send (.accepted m))) ∧
  (∀ (m : Master) (al : Alias) (d : Word) (s : State), s.mayWrite m Reg.CB_DATA = true → s.cbPin < 1536 → s.cbItem < 0x2D →
    exec (.cbDataWrite m al d) s =
      .next ((if s.underCal s.cbPin then s.raise Reg.CB_STAT Fld.CB_STAT_BUSY_REJ
        else s.writeShadow (calA s.cbPin s.cbItem) (aliasValue al (s.shadowOf (calA s.cbPin s.cbItem)) d &&& itemMask s.cbItem)).cbAdvance.send (.accepted m))) ∧
  (∀ (m : Master) (s : State), s.mayWrite m Reg.CB_COMMIT = true → s.beaconRuns = true → s.calRuns = [] → s.flag Reg.CB_BUSY Fld.CB_BUSY_COMMIT = false →
    exec (.cbCommit m 0xCB01) s = .next ((((s.wr Reg.CB_COMMIT (Fld.CB_COMMIT_GO.put (s.newWord .normal Reg.CB_COMMIT 0xCB010001) 0)).raise Reg.CB_BUSY Fld.CB_BUSY_COMMIT).pushOp .cal).send (.accepted m))) ∧
  (∀ (m : Master) (r : Nat × CalRun) (s : State), s.mayWrite m Reg.CB_COMMIT = true → s.calRuns = [r] →
    exec (.cbCommit m 0xCB01) s = .next ((((s.wr Reg.CB_COMMIT (Fld.CB_COMMIT_GO.put (s.newWord .normal Reg.CB_COMMIT 0xCB010001) 0)).raise Reg.CB_STAT Fld.CB_STAT_COMMIT_FAIL)).send (.accepted m)))

/-- Queue pairs, ring and tideline registers (spec/14, spec/15, spec/16). QP_ENABLE takes a disabled queue pair with a good set-up to RTS with its
PSNs and rings at their start (R353) and rejects a bad set-up; QP_DISABLE takes one in RTS back (R354). RG_CMD_SLACK originates slack (R394);
RG_CMD_SLACK_CLR leaves it when every strand is idle or halted (R397); RG_BYPASS_GO with its confirmation drops the relay hold (R402).
TL_AGE_WRITE restarts the ageing accumulation (R406). TL_SET sets tideline where it is the source and no schedule is held (R410); TL_SETTLE
starts the settling of a whole ring from its master (R414). Choices of the model that it rests on: assumption log 29, 35, 36. -/
def Obligations.LinkRegisterCommands : Prop :=
  (∀ (m : Master) (q : Fin 64) (cfg v : Word) (s : State), s.mayWrite m (qpA q Reg.HT_QP_CTRL) = true →
    s.fld (qpA q Reg.HT_QP_CTRL) Fld.HT_QP_CTRL_STATE = 0 → s.qpSetup q = true →
    v = (s.rd (qpA q Reg.HT_QP_CTRL) &&& ~~~ qpCtrlMask) ||| (Fld.HT_QP_CTRL_EN.put cfg 1 &&& qpCtrlMask) →
    exec (.qpEnable m q cfg) s =
      .next ((((((s.wr (qpA q Reg.HT_QP_CTRL) v).setFld (qpA q Reg.HT_QP_CTRL) Fld.HT_QP_CTRL_STATE 1).setFld (qpA q Reg.HT_QP_CTRL) Fld.HT_QP_CTRL_EN 1).setQp q
        { sPsn := (s.rd (qpA q Reg.HT_QP_SPSN)).toNat, ePsn := (s.rd (qpA q Reg.HT_QP_EPSN)).toNat, progress := s.now }).each
        [Reg.HT_QP_CMD_PI, Reg.HT_QP_CMD_CI, Reg.HT_QP_CPL_PI, Reg.HT_QP_CPL_CI] (fun x o => x.wr (qpA q o) 0)).send (.accepted m))) ∧
  (∀ (m : Master) (q : Fin 64) (cfg : Word) (s : State), s.mayWrite m (qpA q Reg.HT_QP_CTRL) = true →
    s.fld (qpA q Reg.HT_QP_CTRL) Fld.HT_QP_CTRL_STATE = 0 → s.qpSetup q = false →
    exec (.qpEnable m q cfg) s =
      .next ((((s.wr (qpA q Reg.HT_QP_CTRL) ((s.rd (qpA q Reg.HT_QP_CTRL) &&& ~~~ qpCtrlMask) ||| (Fld.HT_QP_CTRL_EN.put cfg 1 &&& qpCtrlMask))).raise
        (qpA q Reg.HT_QP_STAT) Fld.HT_QP_STAT_CFG_REJ)).send (.accepted m))) ∧
  (∀ (m : Master) (q : Fin 64) (cfg : Word) (s : State), s.mayWrite m (qpA q Reg.HT_QP_CTRL) = true →
    s.fld (qpA q Reg.HT_QP_CTRL) Fld.HT_QP_CTRL_STATE = 1 → s.rd (qpA q Reg.HT_QP_CTRL) = cfg →
    Does (.qpDisable m q cfg) s fun t => t = ((s.leaveRts q 0).setFld (qpA q Reg.HT_QP_CTRL) Fld.HT_QP_CTRL_EN 0).send (.accepted m)) ∧
  (∀ (m : Master) (s : State), s.mayWrite m Reg.RG_CMD = true → exec (.rgCmdSlack m) s = .next ((s.originateSlack 3).send (.accepted m))) ∧
  (∀ (m : Master) (s : State), s.mayWrite m Reg.RG_CMD = true → allStrands.all (fun k => s.sqState k == 0 || s.sqState k == 5) = true →
    s.flag Reg.RG_STATE Fld.RG_STATE_SLACK = true →
    exec (.rgCmdSlackClr m) s = .next ((((s.setFld Reg.RG_STATE Fld.RG_STATE_SLACK 0).clearConn (fun _ => true)).freePins (fun f => { f with slack := false })).send
      (.accepted m))) ∧
  (∀ (m : Master) (s : State), s.mayWrite m Reg.RG_CMD = true → allStrands.all (fun k => s.sqState k == 0 || s.sqState k == 5) = false →
    exec (.rgCmdSlackClr m) s = .next ((s.raise Reg.RG_STAT Fld.RG_STAT_CMD_REJ).send (.accepted m))) ∧
  (∀ (m : Master) (v : Word) (s : State), s.mayWrite m Reg.RG_BYPASS = true → v = s.newWord .normal Reg.RG_BYPASS 0xB7A50001 →
    exec (.rgBypassGo m 0xB7A5) s =
      .next (({ s.wr Reg.RG_BYPASS (Fld.RG_BYPASS_GO.put v 0) with ring := { s.ring with bypassed := true } }).dropHold.send (.accepted m))) ∧
  (∀ (m : Master) (al : Alias) (rate : Bool) (d : Word) (s : State), s.mayWrite m (if rate then Reg.TL_AGE_RATE else Reg.TL_AGE_TRIM) = true →
    Does (.tlAgeWrite m al rate d) s fun t =>
      t.rd (if rate then Reg.TL_AGE_RATE else Reg.TL_AGE_TRIM) = s.newWord al (if rate then Reg.TL_AGE_RATE else Reg.TL_AGE_TRIM) d ∧
      t.rd Reg.TL_AGE_ACC = t.rd Reg.TL_AGE_TRIM ∧ t.sent = s.sent ++ [.accepted m]) ∧
  (∀ (m : Master) (s : State), s.mayWrite m Reg.TL_CMD = true → s.tlSource = 0 → s.scheduleHeld = false →
    exec (.tlSet m) s = .next ((({ s with tideOff := ((s.rd64 Reg.TL_SET_LO : Nat) : Int) - ((s.now / cycU : Nat) : Int), tide := { s.tide with everValid := true } }).setTl 4 0).send
      (.accepted m))) ∧
  (∀ (m : Master) (s : State), s.mayWrite m Reg.TL_CMD = true → s.scheduleHeld = true →
    exec (.tlSet m) s = .next ((s.raise Reg.TL_STAT Fld.TL_STAT_SET_REJ).send (.accepted m))) ∧
  (∀ (m : Master) (s : State), s.mayWrite m Reg.TL_CMD = true → s.flag Reg.TL_CTRL Fld.TL_CTRL_MASTER = true → s.ringWhole = true →
    exec (.tlSettle m) s = .next (({ s with tide := { s.tide with settling := some (s.now + 1000000 * usU), owesSettle := false, settleE := [], settleW := [] } }).send
      (.accepted m)))

/-- The plain flow opcodes (spec/05 R128, R130 to R132, R138, R149, R150). A flow that is about to issue the step of a word issues it and goes on one
applied period later: at the following word (NEXT, TRIG, MARK), at the same word while repetitions are left (RPT), into or past a loop body
(LOOP_BEGIN, LOOP_END), at step 0 of the segment named (CALL, JMP), after the CALL (RET). PARK and HALT stop it after the step. Choices of the
model that it rests on: assumption log 8, 15. -/
def Obligations.PlainFlow : Prop :=
  ∀ (k : Fin 192) (w : Word64) (t : Strand) (s s1 : State) (per : Nat), s.atWord k w → t = s.strand k → s.issue k w = (s1, per) →
    (flowOp (wordOp w) = .next →
      exec (.next k) s = .next (s1.goOn k (s1.seqNext k t.pos t.loops t.calls) (t.nextAt + per) none)) ∧
    (flowOp (wordOp w) = .trig →
      exec (.trig k) s = .next (s1.goOn k (s1.seqNext k t.pos t.loops t.calls) (t.nextAt + per) none)) ∧
    (flowOp (wordOp w) = .mark →
      exec (.mark k) s = .next (let s2 := s1.setMarkers (s1.crew k) (bitsOf (wordOpnd w) 7 4) (bitsOf (wordOpnd w) 3 0)
        s2.goOn k (s2.seqNext k t.pos t.loops t.calls) (t.nextAt + per) none)) ∧
    (flowOp (wordOp w) = .rpt → ∀ n, t.rptLeft.getD (wordOpnd w + 1) = n →
      exec (.rpt k) s = .next (if 1 < n then
          s1.goOn k { pos := t.pos, loops := t.loops, calls := t.calls, rptLeft := some (n - 1) } (t.nextAt + per) none
        else s1.goOn k (s1.seqNext k t.pos t.loops t.calls) (t.nextAt + per) none)) ∧
    (flowOp (wordOp w) = .loopBegin → t.rptLeft = none → t.loops.length < 8 → wordOpnd w ≠ 0 → ∀ n, s1.seqNext k t.pos t.loops t.calls = n →
      exec (.loopBegin k) s = .next (if (s.closing t.pos).any (fun e => e.2) then
          (s1.each (s1.crew k) (fun x j => x.modStrand j (fun u => { u with blockNo := u.blockNo + 1 }))).goOn k
            { n with loops := ⟨n.pos, wordOpnd w, 0, some t.blockNo⟩ :: t.loops } (t.nextAt + per) none
        else s1.goOn k { n with loops := ⟨n.pos, wordOpnd w, 0, none⟩ :: t.loops } (t.nextAt + per) none)) ∧
    (flowOp (wordOp w) = .loopBegin → t.rptLeft = none → t.loops.length < 8 → wordOpnd w = 0 → ∀ c m, s.closing t.pos = some (c, m) →
      exec (.loopBegin k) s = .next (let s2 := if m then s1.recordExit (s1.crew k) 0 true true else s1
        s2.goOn k (s2.seqNext k ⟨t.pos.seg, c⟩ t.loops t.calls).asTarget (t.nextAt + per) none)) ∧
    (flowOp (wordOp w) = .loopEnd → t.rptLeft = none → ∀ f rest, t.loops = f :: rest →
      exec (.loopEnd k) s = .next (s1.goOn k
        (if 1 < f.left then { pos := f.body, loops := { f with left := f.left - 1, ran := f.ran + 1 } :: rest, calls := t.calls, target := true }
          else s1.seqNext k t.pos rest t.calls) (t.nextAt + per) none)) ∧
    (flowOp (wordOp w) = .call → t.rptLeft = none → t.calls.length < 8 →
      exec (.call k) s = .next (s1.goOn k (s1.jumpNext k t.pos (wordOpnd w) t.loops (⟨t.pos, t.loops.length⟩ :: t.calls)) (t.nextAt + per) none)) ∧
    (flowOp (wordOp w) = .ret → t.rptLeft = none → ∀ c rest, t.calls = c :: rest → t.loops.length ≤ c.depth →
      exec (.ret k) s = .next (s1.goOn k (s1.seqNext k c.ret t.loops rest).asTarget (t.nextAt + per) none)) ∧
    (flowOp (wordOp w) = .jmp →
      exec (.jmp k) s = .next (s1.goOn k (s1.jumpNext k t.pos (wordOpnd w) t.loops t.calls) (t.nextAt + per) none)) ∧
    (flowOp (wordOp w) = .park →
      exec (.parkOp k) s = .next (s1.goOn k { pos := t.pos, loops := t.loops, calls := t.calls, after := true } (t.nextAt + per) (some .parkOp))) ∧
    (flowOp (wordOp w) = .halt →
      exec (.haltOp k) s = .next (s1.goOn k { pos := t.pos, loops := t.loops, calls := t.calls } (t.nextAt + per) (some .haltOp)))

/-- The checks before a step (spec/05 R128, R132, R133): a reserved opcode or JIF condition halts the flow before the step with ILLEGAL_OP; a ninth
loop or call frame with NEST_OVF; a LOOP_END, MATCH or RET with nothing to close with NEST_UNF; a RET within a loop opened after its CALL with
LOOP_OPEN. The step is not issued. Choices of the model that it rests on: assumption log 15. -/
def Obligations.StepChecks : Prop :=
  ∀ (k : Fin 192) (w : Word64) (t : Strand) (s : State), s.atWord k w → t = s.strand k → t.rptLeft = none →
    (flowOp (wordOp w) = .reserved → exec (.illegalOp k) s = .next (s.stopFlow k .illegalOp t.nextAt)) ∧
    (flowOp (wordOp w) = .jif → 9 ≤ jifCond w → exec (.illegalOp k) s = .next (s.stopFlow k .illegalOp t.nextAt)) ∧
    (flowOp (wordOp w) = .loopBegin → 8 ≤ t.loops.length → exec (.loopBegin k) s = .next (s.stopFlow k .nestOvf t.nextAt)) ∧
    (flowOp (wordOp w) = .call → 8 ≤ t.calls.length → exec (.call k) s = .next (s.stopFlow k .nestOvf t.nextAt)) ∧
    (flowOp (wordOp w) = .loopEnd → t.loops = [] → exec (.loopEnd k) s = .next (s.stopFlow k .nestUnf t.nextAt)) ∧
    (flowOp (wordOp w) = .match_ → t.loops = [] → exec (.matchOp k) s = .next (s.stopFlow k .nestUnf t.nextAt)) ∧
    (flowOp (wordOp w) = .ret → t.calls = [] → exec (.ret k) s = .next (s.stopFlow k .nestUnf t.nextAt)) ∧
    (flowOp (wordOp w) = .ret → ∀ c rest, t.calls = c :: rest → c.depth < t.loops.length →
      exec (.ret k) s = .next (s.stopFlow k .loopOpen t.nextAt))

/-- JIF and MATCH (spec/05 R133, R135, R136; spec/10 R279, R280), for a strand that decides alone or a leader in group mode. JIF tests its condition
over the members' flags, clears what it tested if told so, issues its step and goes to the branch target or to the following word. MATCH takes
the block's fails up to its window: with none the block has passed; with fails and iterations left it runs again; otherwise it has timed out, the
timeout event is formed, the flags are set and ACT acts. Choices of the model that it rests on: assumption log 15. -/
def Obligations.JifAndMatch : Prop :=
  (∀ (k : Fin 192) (w : Word64) (t : Strand) (s s1 s2 : State) (grp : List Nat) (win per : Nat) (taken : Bool) (n : Next), s.atWord k w → t = s.strand k →
    t.rptLeft = none → flowOp (wordOp w) = .jif → jifCond w < 9 → (s.groupMode k w = true ∨ s.crew k = [k.val]) →
    grp = s.crew k → win = s.resultWindow k t.nextAt → taken = xor (bitOf (wordOpnd w) 15) (s.jifTest k win (jifCond w) grp) →
    s1 = (if bitOf (wordOpnd w) 14 then s.jifClear k win (jifCond w) grp else s) → s1.issue k w = (s2, per) →
    n = (if taken then s2.jumpNext k t.pos (s2.branchTarget k (wordOpnd w % 1024)) t.loops t.calls else s2.seqNext k t.pos t.loops t.calls) →
    exec (.jif k) s = .next (let s3 := s2.goOn k n (t.nextAt + per) none
      if taken && n.stop.isNone then s3.request k n.pos.seg n.pos.gran true else s3)) ∧
  (∀ (k : Fin 192) (w : Word64) (t : Strand) (s : State) (crew : List Nat) (f : LoopFrame) (rest : List LoopFrame) (b win : Nat) (g : Bool), s.atWord k w →
    t = s.strand k → t.rptLeft = none → flowOp (wordOp w) = .match_ → crew = s.crew k → g = s.groupMode k w → (g = true ∨ crew = [k.val]) →
    t.loops = f :: rest → f.block = some b → win = s.resultWindow k t.nextAt →
    let first (x : State) (j : Nat) : State := x.modStrand j (fun u =>
      { u with matchFirst := if (Store.get? u.matchFirst b).isSome then u.matchFirst else Store.put u.matchFirst b (f.ran + 1) })
    let leave (x : State) (j : Nat) : State := x.modStrand j (fun u =>
      let lost := (u.recs.filter (fun r => r.block == some b)).flatMap (fun r => r.fails.map (fun e => e.t))
      let u1 := { u with recs := u.recs.map (fun (r : StepRec) => if r.block = some b then { r with block := blockIn rest, late := true } else r) }
      if (blockIn rest).isNone then u1.setFail lost else u1)
    let s1 := if g then (crew.filter (fun j => (s.blockFails j b win).isEmpty)).foldl first s else s
    ((∀ j ∈ crew, s.blockFails j b win = []) → ∀ s2 per, (crew.foldl (fun x j => x.closeIteration j b win true (blockIn rest)) s1).issue k w = (s2, per) →
      exec (.matchOp k) s = .next (
        let s3 := crew.foldl (fun x j => x.recordExit [j] (f.ran + 1) false false) (crew.foldl leave s2)
        let s4 := if g then crew.foldl (fun x j => x.lbMatch j b true) s3 else s3
        s4.goOn k (s4.seqNext k t.pos rest t.calls).asTarget (t.nextAt + per) none)) ∧
    ((∃ j ∈ crew, s.blockFails j b win ≠ []) → 1 < f.left →
      ∀ s2 per, (crew.foldl (fun x j => x.closeIteration j b win false (blockIn rest)) s1).issue k w = (s2, per) →
      exec (.matchOp k) s = .next (
        let s3 := crew.foldl (fun x j => x.modStrand j (fun u => { u with
          recs := u.recs.map (fun (r : StepRec) => if r.block = some b then { r with late := true } else r) })) s2
        s3.goOn k { pos := f.body, loops := { f with left := f.left - 1, ran := f.ran + 1 } :: rest, calls := t.calls, target := true } (t.nextAt + per) none)) ∧
    ((∃ j ∈ crew, s.blockFails j b win ≠ []) → f.left ≤ 1 →
      ∀ s2 per, (crew.foldl (fun x j => x.closeIteration j b win true (blockIn rest)) s1).issue k w = (s2, per) →
      exec (.matchOp k) s = .next (
        let event (x : State) (j : Nat) : State :=
          let y := x.timeoutEvent j t.pos t.nextAt (s.blockFails j b win)
          if bitsOf (wordOpnd w) 15 14 = 1 then y.setFld (strandA j Reg.SQ_FLAGS) Fld.SQ_FLAGS_F
            (Nat.lor (y.fld (strandA j Reg.SQ_FLAGS) Fld.SQ_FLAGS_F) (2 ^ bitsOf (wordOpnd w) 13 12)) else y
        let s3 := (crew.filter (fun j => !(s.blockFails j b win).isEmpty)).foldl event (crew.foldl leave s2)
        let s4 := crew.foldl (fun x j => x.recordExit [j] (f.ran + 1) true false) s3
        let s5 := if g then crew.foldl (fun x j => x.lbMatch j b (s.blockFails j b win).isEmpty) s4 else s4
        s5.goOn k (s5.seqNext k t.pos rest t.calls).asTarget (t.nextAt + per) (if bitOf (wordOpnd w) 15 then some .matchTo else none))))

/-- Steps held, and waits (spec/05 R143 to R146, R151, R156; spec/10 R284, R285; spec/16 R417). The first word of a transfer target that is absent at
its read point holds the step, and at the limit the strand parks. A slack-water wait ends at once, waits, or is late; a lash sync waits for its
group. The wait for an instant ends there, the members of a group start together, and a timeout stops the wait. A run starts at its instant.
Choices of the model that it rests on: assumption log 15, 16. -/
def Obligations.HoldsAndWaits : Prop :=
  (∀ (k : Fin 192) (t : Strand) (s : State), t = s.strand k → s.flowing k = true → (∀ j ∈ s.crew k, s.dueStops j t.nextAt t.segStart = []) →
    s.pastLimit k t.nextAt = false → s.marredAt k t.pos (readPoint t.nextAt) = false → s.present k t.pos (readPoint t.nextAt) = false →
    t.target = true →
    exec (.holdStep k) s = .next (
      let per := if t.launched then s.periodAt k 0 (readPoint t.nextAt) else t.period
      let s2 := (s.crew k).foldl (fun x j => (x.heldStart j t.nextAt).heldFor j per) (s.advanceTo t.nextAt)
      let s3 := if t.holdFrom.isNone then (s.crew k).foldl (fun x j =>
          (x.wr (strandA j Reg.SQ_SLIPS) (x.rd (strandA j Reg.SQ_SLIPS) + 1)).raise (strandA j Reg.SQ_STAT) Fld.SQ_STAT_SEAM_SLIP) s2 else s2
      let s4 := (s.crew k).foldl (fun x j => (x.setSqState j 2).firstStep j) s3
      (s4.modStrand k (fun u => { u with holdFrom := some (u.holdFrom.getD t.nextAt), nextAt := t.nextAt + per })).request k t.pos.seg t.pos.gran true)) ∧
  (∀ (k : Fin 192) (t : Strand) (s : State), t = s.strand k → s.flowing k = true → (∀ j ∈ s.crew k, s.dueStops j t.nextAt t.segStart = []) →
    s.pastLimit k t.nextAt = true → exec (.holdLimit k) s = .next (s.parkUnderrun k t.nextAt)) ∧
  (∀ (k : Fin 192) (w : Word64) (t : Strand) (s s1 : State) (at_ : Option Nat), s.atWord k w → t = s.strand k → t.rptLeft = none →
    flowOp (wordOp w) = .waitSlack → bitOf (wordOpnd w) 15 = false → s.takeSlack k (readPoint t.nextAt) = (at_, s1) →
    exec (.waitSlack k) s = .next (match at_.map s1.unitsOf with
      | some b => if b < t.nextAt then
            (if bitOf (wordOpnd w) 14 then (s1.raise (strandA k Reg.SQ_STAT) Fld.SQ_STAT_SLACK_LATE).plainStep k w else s1.stopFlow k .slackMissed t.nextAt)
          else if b = t.nextAt then s1.plainStep k w else s1.beginWait k (.instant b)
      | none => if bitOf (wordOpnd w) 14 then (s1.raise (strandA k Reg.SQ_STAT) Fld.SQ_STAT_SLACK_LATE).plainStep k w
          else s1.stopFlow k .slackMissed t.nextAt)) ∧
  (∀ (k : Fin 192) (w : Word64) (l us : Nat) (s : State), s.atWord k w → (s.strand k).rptLeft = none → flowOp (wordOp w) = .waitSlack →
    bitOf (wordOpnd w) 15 = true → l = s.leaderOf k → us = wordOpnd w % 4096 →
    exec (.waitSlack k) s = .next (
      if l = 255 ∨ (s.role k = 3 ∧ s.sqState l = 5) ∨ s.splitGroup l = [k.val] then s.plainStep k w
      else (s.beginWait k (.sync (s.strand k).nextAt (if us = 0 then none else some ((s.strand k).nextAt + us * usU)) none)).evalSync l (s.strand k).nextAt)) ∧
  (∀ (k : Fin 192) (t : Nat) (s : State), s.sqState k = 3 → s.role k ≠ 2 → (s.strand k).wait = .instant t →
    exec (.slackWaitDone k) s = .next ((s.endWait k t).waitStep k (s.strand k).nextAt)) ∧
  (∀ (k : Fin 192) (b d l : Nat) (lim : Option Nat) (s : State), s.sqState k = 3 → s.role k ≠ 2 → (s.strand k).wait = .sync d lim (some b) →
    l = s.leaderOf k →
    exec (.lashSyncMet k) s = .next (
      if s.sqState l = 5 then (s.endWait k b).waitStep k (s.strand k).nextAt
      else (((s.splitGroup l).filter (fun j => j != l)).foldl (fun x j => x.rejoin j b) (s.endWait l b)).waitStep l (s.strand l).nextAt)) ∧
  (∀ (k : Fin 192) (lim d : Nat) (start : Option Nat) (s : State), s.sqState k = 3 → s.role k ≠ 2 → (s.strand k).wait = .sync d (some lim) start →
    (∀ b, start = some b → lim < b) →
    exec (.syncTo k) s = .next ((s.crew k).foldl (fun x j => x.raise (coveA (coveOf j) Reg.LB_STAT) Fld.LB_STAT_SYNC_TO)
      ((s.advanceTo lim).stopFlow k .syncTo lim))) ∧
  (∀ (k : Fin 192) (l : Launch) (g b : Nat) (s s1 : State) (members : List Nat), (s.strand k).launch = some l → l.seg = some g → b = s.unitsOf l.at_ →
    s1 = (s.advanceTo b).fireBound b → members = (if s1.role k = 1 then k.val :: (s1.groupOf k).filter (fun j => j != k.val) else [k.val]) →
    (∀ j ∈ members, s.sqState j ≠ 6 ∧ (s.strand j).endDue = false) →
    exec (.runStart k) s = .next (((((members.foldl (fun x j => x.startMember j k b) s1).showMarks s1).modStrand k (fun t =>
      { t with pos := ⟨g, 0⟩, segStart := true, target := true })).lookahead k))) ∧
  (∀ (k : Fin 192) (l : Launch) (b : Nat) (s : State), (s.strand k).launch = some l → l.seg = none → b = s.unitsOf l.at_ →
    ((s.advanceTo b).fireBound b).sqState k = 4 → exec (.runStart k) s = .next (((s.advanceTo b).fireBound b).resumeAt k b))

/-- Adeo frames that arrive (spec/15 R380, R385 to R387, R389 to R395, R399, R400; spec/16 R411 to R414). A frame that the device takes is noted,
does what its TYPE says, and is sent on with HOPS one less unless it was for a neighbour or for this device; one that the port does not hear is
lost, one of another version passes unprocessed, one of another ring is counted and dropped, and one that the device sent is removed. Choices of
the model that it rests on: assumption log 33, 34, 35, 36. -/
def Obligations.AdeoFrames : Prop :=
  (∀ (p : Fin 2) (f : Adeo) (at_ : Nat) (s s1 : State), s1 = s.advanceTo at_ → s1.takes p 3 f →
    exec (.slack p f at_) s = .next (((s1.noted 3 f).enterSlack (f.at_ 0x18 1) f.src).relay p 3 f)) ∧
  (∀ (p : Fin 2) (f : Adeo) (at_ : Nat) (s s1 s2 s3 : State) (dev q : Nat), s1 = s.advanceTo at_ → s1.takes p 4 f → (s1.noted 4 f).free = (dev, s2) →
    s2.nextSeq 5 = (q, s3) →
    exec (.heartbeat p f at_) s = .next ((s3.originate p 5 q (f.flags % 2) f.src (s3.hbBody (f.at_ 0x10 8) dev)).relay p 4 f)) ∧
  (∀ (p : Fin 2) (f : Adeo) (at_ : Nat) (s s1 : State), s1 = s.advanceTo at_ → s1.takes p 5 f →
    exec (.hbReply p f at_) s = .next (((s1.noted 5 f).modPort p (fun r => { r with misses := 0 })).relay p 5 f)) ∧
  (∀ (p : Fin 2) (f : Adeo) (at_ : Nat) (s s1 : State), s1 = s.advanceTo at_ → s1.takes p 6 f → s1.linkState p = 3 →
    exec (.credit p f at_) s = .next (((([1, 2, 3].foldl (fun x t => (x.addCr p t 1 (unsigned 32 ((f.at_ (0x10 + 4 * (t - 1)) 4 : Nat) - (x.cr p t 3 : Nat)))).wr
      (crA p t 3) (BitVec.ofNat 32 (f.at_ (0x10 + 4 * (t - 1)) 4))) (s1.noted 6 f)).drain p).relay p 6 f))) ∧
  (∀ (p : Fin 2) (f : Adeo) (at_ : Nat) (s s1 : State), s1 = s.advanceTo at_ → s1.takes p 7 f →
    exec (.active p f at_) s = .next (((s1.noted 7 f).setActive (f.src % 64) (f.at_ 0x10 1 == 1)).relay p 7 f)) ∧
  (∀ (p : Fin 2) (f : Adeo) (at_ : Nat) (s s1 : State), s1 = s.advanceTo at_ → s1.takes p 8 f →
    exec (.link p f at_) s = .next ((if f.at_ 0x11 1 = 0 then (s1.noted 8 f).addBreak p f.src (f.at_ 0x10 1)
      else (s1.noted 8 f).delBreak f.src (f.at_ 0x10 1)).relay p 8 f)) ∧
  (∀ (p : Fin 2) (f : Adeo) (at_ : Nat) (s s1 : State), s1 = s.advanceTo at_ → s1.takes p 9 f → s1.linkState p = 2 →
    exec (.linkInit p f at_) s = .next ((
      let s2 := ((s1.noted 9 f).initCredits p f).setFld (linkA p) Fld.RG_LINK_STATE 3
      (((s2.announce p 1 (s2.fld (linkA p) Fld.RG_LINK_CAUSE)).delBreak s2.devAddr p).settleOwed).drain p).relay p 9 f)) ∧
  (∀ (p : Fin 2) (f : Adeo) (at_ c sent avail ret : Nat) (s s1 : State), s1 = s.advanceTo at_ → s1.takes p 2 f → f.at_ 0x18 1 = c →
    Store.get? (s1.port p).audit c = some (sent, avail, ret) → s1.ring.audited.map s1.tideOf = some (f.at_ 0x10 8) →
    exec (.audit p f at_) s = .next ((
      let flight := ((sent : Int) - (f.at_ 0x1C 4 : Nat)) + ((f.at_ 0x20 4 : Nat) - (ret : Int))
      let d := signed 32 (unsigned 32 ((s1.cr p c 0 : Int) - (avail + flight + (f.at_ 0x24 4 : Nat))))
      let s2 := (s1.noted 2 f).modPort p (fun r => { r with audit := Store.del r.audit c })
      (if d = 0 then s2 else (s2.satAdd Reg.RG_AUDIT Fld.RG_AUDIT_FAIL 1).imbalance 4 (256 * p + c) 0 d (srcRing p) 1).auditOver).relay p 2 f)) ∧
  (∀ (p : Fin 2) (f : Adeo) (at_ stay : Nat) (half : Bool) (s s1 : State), s1 = s.advanceTo at_ → s1.takes p 1 f → f.at_ 0x10 1 = 0 →
    exec (.tideMark p f at_ half stay) s = .next (((s1.noted 1 f).mark p f ((s1.noted 1 f).fine at_ half)).relay p 1
      { f with body := f.body.take 0x18 ++ fineBytes (signed 64 (f.at_ 0x28 8) + s1.tlPd p + stay) })) ∧
  (∀ (p : Fin 2) (f : Adeo) (at_ stay : Nat) (half : Bool) (s s1 : State), s1 = s.advanceTo at_ → s1.takes p 1 f → f.at_ 0x10 1 = 1 →
    exec (.pdelayReq p f at_ half stay) s = .next (((s1.noted 1 f).originateLocal p 1
      (tideBody 2 0 f.seq (fineBytes ((s1.noted 1 f).fine at_ half)) (fineBytes ((s1.noted 1 f).fine at_ half + stay)))).relay p 1 f)) ∧
  (∀ (p : Fin 2) (f : Adeo) (at_ q : Nat) (half : Bool) (t1 d : Int) (l : List Int) (s s1 : State), s1 = s.advanceTo at_ → s1.takes p 1 f →
    f.at_ 0x10 1 = 2 → (s1.port p).pdelay = some (q, t1) → f.at_ 0x14 4 = q →
    d = fineDiff (s1.fine at_ half) t1 - fineDiff (f.at_ 0x20 8 : Nat) (f.at_ 0x18 8 : Nat) → l = (d :: (s1.port p).delays).take 16 →
    exec (.pdelayResp p f at_ half) s = .next ((((s1.noted 1 f).modPort p (fun r => { r with pdelay := none, delays := l })).wr (Reg.TL_PD0 + 4 * p)
      (BitVec.ofNat 32 (unsigned 32 (openDiv (l.foldl (· + ·) 0) (2 * l.length))))).relay p 1 f)) ∧
  (∀ (c : Instr) (p : Fin 2) (type : Nat) (f : Adeo) (at_ : Nat) (s s1 : State), s1 = s.advanceTo at_ →
    (c, type) ∈ [(Instr.slack p f at_, 3), (Instr.heartbeat p f at_, 4), (Instr.hbReply p f at_, 5), (Instr.credit p f at_, 6), (Instr.active p f at_, 7),
      (Instr.link p f at_, 8), (Instr.linkInit p f at_, 9), (Instr.audit p f at_, 2)] →
    (s1.hears p = false → exec c s = .next s1) ∧
    (s1.hears p = true → f.ver ≠ 1 → exec c s = .next (s1.passOn p type f)) ∧
    (s1.hears p = true → f.ver = 1 → f.ring ≠ s1.fld Reg.RG_ADDR Fld.RG_ADDR_RING →
      exec c s = .next (s1.satAdd (linkErrA p) Fld.RG_LINK_ERR_RING 1)) ∧
    (s1.hears p = true → f.ver = 1 → f.ring = s1.fld Reg.RG_ADDR Fld.RG_ADDR_RING → s1.isOwn type f = true → exec c s = .next s1))

/-- Frames through the ring ports (spec/15 R381 to R384, R388, R390; spec/14 R352). A frame that arrives while the link is up is counted in its
cells: a giant, one for the host transport and one of the device's own leave the buffer at once, frames that the MAC itself takes are not
credited, and any other waits for the opposite port. Choices of the model that it rests on: assumption log 30, 33. -/
def Obligations.FrameForwarding : Prop :=
  ∀ (p : Fin 2) (f : EthFrame) (at_ t n : Nat) (s s1 : State), s1 = s.advanceTo at_ → s1.onRing = true → s1.forced.grave = false → s1.linkState p = 3 →
    t = s1.classOf (f.tag.map (fun k => k.val)) → n = frameCells f.len →
    (4178 < f.len → exec (.frameForward p f at_) s = .next ((s1.satAdd (linkErrA p) Fld.RG_LINK_ERR_GIANT 1).consumed p t n)) ∧
    (f.len ≤ 4178 → f.good = true → f.dst = s1.htMac → f.etype = 0x0800 →
      exec (.frameForward p f at_) s = .next ((s1.consumed p t n).rxIn p f.len)) ∧
    (f.len ≤ 4178 → f.good = false → f.dst = s1.htMac → f.etype = 0x0800 →
      exec (.frameForward p f at_) s = .next ((s1.satAdd (linkErrA p) Fld.RG_LINK_ERR_FCS 1).consumed p t n)) ∧
    (f.len ≤ 4178 → f.etype = 0x88B5 ∨ f.etype = 0x8808 →
      exec (.frameForward p f at_) s = .next (if f.good then s1 else s1.satAdd (linkErrA p) Fld.RG_LINK_ERR_FCS 1)) ∧
    (f.len ≤ 4178 → f.good = true → ¬ (f.dst = s1.htMac ∧ f.etype = 0x0800) → f.etype ≠ 0x88B5 → f.etype ≠ 0x8808 → f.src = s1.htMac →
      exec (.frameForward p f at_) s = .next ((s1.satAdd (linkErrA p) Fld.RG_LINK_ERR_LOOP 1).consumed p t n)) ∧
    (f.len ≤ 4178 → f.good = true → ¬ (f.dst = s1.htMac ∧ f.etype = 0x0800) → f.etype ≠ 0x88B5 → f.etype ≠ 0x8808 → f.src ≠ s1.htMac →
      s1.linkState (otherPort p) ≠ 0 →
      exec (.frameForward p f at_) s = .next ((((s1.addCr p t 4 n).addCr p t 6 n).modPort (otherPort p) (fun r =>
        { r with transit := r.transit ++ [⟨t, n, .forward f⟩] })).drain (otherPort p)))

/-- What the ring ports do at their own times (spec/15 R389 to R393, R398, R400). A link goes down with a cause, and comes up again by training;
credit is returned 2 µs after the first cell, and audited every 10 ms between a guard and a timeout; heartbeats leave every period, and a link
whose neighbour misses them goes down; the active-test state is announced when it changes and every millisecond, and an entry of the map not
refreshed goes. Choices of the model that it rests on: assumption log 33, 35. -/
def Obligations.RingTimers : Prop :=
  (∀ (p : Fin 2) (cause at_ : Nat) (s s1 s2 : State), s1 = s.advanceTo at_ → s1.linkState p ≠ 0 →
    s2 = ((((s1.setFld (linkA p) Fld.RG_LINK_STATE 0).setFld (linkA p) Fld.RG_LINK_CAUSE cause).flushPort p).modPort p (fun r =>
        { r with misses := 0, pendSince := none, pdelay := none })) →
    (cause = 1 → exec (.pcsLockLoss p false at_) s = .next (((s2.announce p 0 cause).addBreak p s2.devAddr p).fault (srcRing p) 0 cause)) ∧
    (cause = 4 → exec (.pcsLockLoss p true at_) s = .next (((s2.announce p 0 cause).addBreak p s2.devAddr p).fault (srcRing p) 0 cause)) ∧
    (cause = 2 → exec (.fecUncorrectable p at_) s = .next (((s2.announce p 0 cause).addBreak p s2.devAddr p).fault (srcRing p) 0 cause))) ∧
  (∀ (p : Fin 2) (at_ : Nat) (s : State), s.linkState p < 2 → s.onRing = true → s.forced.grave = false →
    s.cr p 1 6 + s.cr p 2 6 + s.cr p 3 6 = 0 →
    exec (.linkTrained p at_) s = .next (((s.advanceTo at_).setFld (linkA p) Fld.RG_LINK_STATE 2).originateLocal p 9 initBody)) ∧
  (∀ (p : Fin 2) (t : Nat) (s : State), (s.port p).pendSince = some t → s.ring.guard = none → s.linkState p = 3 →
    exec (.creditTimeout p) s = .next ((s.advanceTo (t + 2 * usU)).sendCredit p)) ∧
  (∀ (t : Nat) (s s1 : State), s.ring.guard = none → s.tideValid = true → t = (s.tideNow / 12000000 + 1) * 12000000 →
    s1 = s.advanceTo (s.unitsOf t - usU) → exec .auditGuard s = .next { s1 with ring := { s1.ring with guard := some t } }) ∧
  (∀ (t : Nat) (s s1 s2 s3 s4 : State), s.ring.guard = some t → s1 = s.advanceTo (s.unitsOf t) →
    s2 = { s1 with ring := { s1.ring with audited := some s1.now } } → s3 = (s2.auditPort 0 t).auditPort 1 t →
    s4 = { s3 with ring := { s3.ring with guard := none } } →
    exec .auditInstant s = .next ((((s4.returnCells 0).returnCells 1).drain 0).drain 1).auditOver) ∧
  (∀ (t n : Nat) (s : State), s.ring.audited = some t → n = s.ring.east.audit.length + s.ring.west.audit.length →
    exec .auditTimeout s = .next (((((s.advanceTo (t + 100 * usU)).satAdd Reg.RG_AUDIT Fld.RG_AUDIT_SKIPPED n).modPort 0 (fun r =>
      { r with audit := [] })).modPort 1 (fun r => { r with audit := [] })).auditOver)) ∧
  (∀ (s s1 : State), s1 = s.advanceTo (max s.ring.east.hbAt s.ring.west.hbAt + max 10 (s.fld Reg.RG_HB Fld.RG_HB_PERIOD) * usU) →
    exec .heartbeatSend s = .next ([0, 1].foldl (fun x p =>
      if x.linkState p == 3 && x.onRing then
        (x.originateLocal p 4 (leBytes 8 x.stamp)).modPort p (fun r => { r with misses := r.misses + 1, hbAt := x.now })
      else x.modPort p (fun r => { r with hbAt := x.now })) s1)) ∧
  (∀ (p : Fin 2) (s : State), max 1 (s.fld Reg.RG_HB Fld.RG_HB_MISS) ≤ (s.port p).misses → s.linkState p = 3 →
    exec (.hbMiss p) s = .next ((s.advanceTo ((s.port p).hbAt + max 10 (s.fld Reg.RG_HB Fld.RG_HB_PERIOD) * usU)).linkDown p 3)) ∧
  (∀ (s s1 s2 : State) (b : Bool), s1.activeTest = b → s2 = { s1 with ring := { s1.ring with activeOut := b, activeAt := s1.now } } →
    ((s1 = s ∧ b ≠ s.ring.activeOut → exec .activeTestChange s = .next ((s2.originateBoth 7 (leBytes 1 (bitN b))).setActive (s.fld Reg.RG_ADDR Fld.RG_ADDR_POS) b)) ∧
    (s1 = s.advanceTo (s.ring.activeAt + 1000 * usU) →
      exec .activeRepeat s = .next ((s2.originateBoth 7 (leBytes 1 (bitN b))).setActive (s.fld Reg.RG_ADDR Fld.RG_ADDR_POS) b)))) ∧
  (∀ (e : Nat × Nat) (s : State), e ∈ s.ring.active → (∀ d ∈ s.ring.active, d = e ∨ e.2 < d.2) →
    exec .activeExpiry s = .next ((s.advanceTo (e.2 + 3000 * usU)).setActive e.1 false))

/-- Tideline (spec/16 R403 to R415; spec/21 R499). A master with valid time sends marks, and every port whose link is up asks for its delay each
millisecond; a PPS edge gives an offset when PPS is the source in use; sources appear and are lost; lock follows a second within 100 ns; ageing
is applied each second and clipped to 50 ppm; and a settlement ends with the mean of 64 pairs. Choices of the model that it rests on: assumption
log 36. -/
def Obligations.TidelineEvents : Prop :=
  (∀ (e w tr q : Nat) (on : Bool) (s s0 s1 s2 : State), s.flag Reg.TL_CTRL Fld.TL_CTRL_MASTER = true → s.tideValid = true →
    s0 = s.advanceTo (s.tide.sentAt + 15625 * usU) →
    on = (match s0.tide.settling with | some t => decide (s0.now < t) | none => false) →
    ({ s0 with tide := { s0.tide with sentAt := s0.now, settling := (if on then s0.tide.settling else none) } }).free = (tr, s1) → s1.nextSeq 1 = (q, s2) →
    exec (.tideMarkSend e w) s = .next (
      let body (d : Nat) := tideBody 0 (bitN on + 2 * (tr % 2) + 4 * bitN (s2.tlSource == 2)) 0 (fineBytes (s2.fine s2.now false + d)) (leBytes 8 0)
      (s2.originate 0 1 q 0 0xFFFF (body e)).originate 1 1 q 0 0xFFFF (body w))) ∧
  (∀ (p : Fin 2) (out : Nat) (s s1 : State), s1 = (s.advanceTo ((s.port p).pdAt + 1000 * usU)).modPort p (fun r =>
        { r with pdAt := (s.advanceTo ((s.port p).pdAt + 1000 * usU)).now }) → s1.linkState p = 3 → s1.onRing = true →
    exec (.pdelayReqSend p out) s = .next ((s1.modPort p (fun r =>
      { r with pdelay := some (Store.getD s1.ring.seqs 1 0, s1.fine s1.now false + out) })).originateLocal p 1 (tideBody 1 0 0 (leBytes 8 0) (leBytes 8 0)))) ∧
  (∀ (at_ : Nat) (half : Bool) (ring rx : Int) (s s1 : State),
    s1 = ({ s.advanceTo at_ with tide := { s.tide with pps := true, lastPps := (s.advanceTo at_).now } }).chooseSource → s1.tlSource = 2 →
    rx = s1.fine at_ half + signed 32 (s1.rd Reg.TL_PPS_DLY).toNat →
    ring = (if s1.tide.ring = false then 0 else match s1.tide.thetaE, s1.tide.thetaW with
        | some e, _ => e - s1.tlAsym
        | none, some w => w + s1.tlAsym
        | none, none => 0) →
    exec (.ppsEdge at_ half) s = .next (s1.followOffset (rx - (2 * (rx - ring) + secStamp) / (2 * secStamp) * secStamp))) ∧
  (∀ (at_ : Nat) (s s1 : State), s1 = s.advanceTo at_ →
    exec (.sourceAppear 0 at_) s = .next ({ s1 with tide := { s1.tide with ref := true } }).chooseSource ∧
    exec (.sourceAppear 1 at_) s = .next ({ s1 with tide := { s1.tide with pps := true, lastPps := s1.now } }).chooseSource ∧
    exec (.sourceAppear 2 at_) s = .next ({ s1 with tide := { s1.tide with ring := true, lastMark := s1.now } }).chooseSource) ∧
  (∀ (at_ : Nat) (s : State),
    (s.tide.ref = true → exec (.sourceLoss 0 at_) s = .next
      (((({ s.advanceTo at_ with tide := { s.tide with ref := false } }).raise Reg.TL_STAT Fld.TL_STAT_REF_LOSS).fault srcTide 0 0).chooseSource)) ∧
    (s.tide.pps = true → exec (.sourceLoss 1 at_) s = .next
      (((({ s.advanceTo (max at_ (s.tide.lastPps + 1000010 * usU)) with tide := { s.tide with pps := false } }).raise Reg.TL_STAT
        Fld.TL_STAT_PPS_MISS).fault srcTide 0 0).chooseSource)) ∧
    (s.tide.ring = true → exec (.sourceLoss 2 at_) s = .next
      (((({ s.advanceTo (max at_ (s.tide.lastMark + 250000 * usU)) with
          tide := { s.tide with ring := false, master := none, thetaE := none, thetaW := none } }).raise Reg.TL_STAT Fld.TL_STAT_MARK_LOSS).fault srcTide 0 0).chooseSource))) ∧
  (∀ (t : Nat) (s : State), s.tide.within = some t → s.tlState = 1 →
    Does .lockAchieved s (fun r => r.tlState = 2 ∧ r.flag Reg.TL_STAT Fld.TL_STAT_LOCKED = true ∧ r.now = max s.now (t + 1000000 * usU) ∧
      r.tide = { s.tide with timeSet := true, everValid := true })) ∧
  (∀ (c : Nat) (a total : Int) (s s0 s1 : State), s0 = s.advanceTo (s.tide.ageAt + 1000000 * usU) →
    a = s.tide.ageBase + openDiv (signed 32 (s.rd Reg.TL_AGE_RATE).toNat * (((s.rd Reg.LS_CAL_DAY).toNat : Nat) - (s.tide.ageDay : Int))) 100 →
    ({ s0 with tide := { s0.tide with ageAt := s0.now } }).free = (c, s1) → total = a + signed 32 (s.rd Reg.TL_FREQ).toNat + signed 32 c →
    Does .ageingUpdate s (fun r => r.rd Reg.TL_AGE_ACC = BitVec.ofNat 32 (unsigned 32 (clipSigned 32 a)) ∧ r.now = s0.now ∧ r.tide.ageAt = r.now ∧
      (r.flag Reg.TL_STAT Fld.TL_STAT_CLIP = true ↔ s.flag Reg.TL_STAT Fld.TL_STAT_CLIP = true ∨ total < -5000000 ∨ 5000000 < total))) ∧
  (∀ (s : State), 64 ≤ s.tide.settleE.length → 64 ≤ s.tide.settleW.length →
    Does .settleDone s (fun r => r.flag Reg.TL_STATE Fld.TL_STATE_SETTLED = true ∧ r.tide = { s.tide with settleE := [], settleW := [] } ∧
      r.rd Reg.TL_ASYM = BitVec.ofNat 32 (unsigned 32 (openDiv ((s.tide.settleE.take 64).foldl (· + ·) 0 -
        (s.tide.settleW.take 64).foldl (· + ·) 0) 128)))) ∧
  (∀ (s : State), s.flag Reg.DEV_UPD_CTRL Fld.DEV_UPD_CTRL_ARM = true →
    (s.flag Reg.DEV_UPD_CTRL Fld.DEV_UPD_CTRL_SRC = false →
      exec .scheduledStrobe s = .next (s.advanceTo (s.unitsOf (s.rd64 Reg.TL_UPD_AT_LO))).fireArmed) ∧
    (s.flag Reg.DEV_UPD_CTRL Fld.DEV_UPD_CTRL_SRC = true → ∀ a b t, s.bound = some (a, b, t) →
      exec .scheduledStrobe s = .next (s.advanceTo (s.unitsOf t)).fireArmed))

/-- What pins do at their own times (spec/03 R81 to R89, R91 to R97; spec/04 R112 to R118; spec/12 R313, R315, R324). Decisions change in a
comparator that is on and settled; the earliest drive and strobe events fire; a settled comparator takes its mode; the hold stages are refreshed;
a condition trips the breakwater; and the engagement check that is due first is made. Choices of the model that it rests on: assumption log 9,
17, 37. -/
def Obligations.PinEvents : Prop :=
  (∀ (n : Fin 1536) (hi lo : Fin 3) (at_ : Nat) (s : State), s.fld (pinA n Reg.PS_CMP_STATE) Fld.PS_CMP_STATE_MODE_EFF < 4 →
    exec (.comparatorDecision n hi lo at_) s = .next ((s.advanceTo (max (2 * s.now) at_ / 2)).newDecisions n (decCode hi) (decCode lo)
      ((max (2 * s.now) at_ : Nat) : Int))) ∧
  (∀ (n : Fin 1536) (e : DriveEv) (rest : List DriveEv) (act : Nat) (delayed : Bool) (s s1 : State), (s.pin n).drives = e :: rest →
    fireAt (s.pin n).lastDrive e.t = (act, delayed) →
    s1 = ((s.advanceTo act).raiseIf delayed (strandA (n / 8) Reg.WV_STAT) Fld.WV_STAT_SEP).modPin n (fun p =>
      ({ p with drives := rest, cond := e.level, lastDrive := some (e.t, act) } : Pin).settlePark) →
    exec (.driveEvent n) s = .next s1) ∧
  (∀ (n : Fin 1536) (e : StrobeEv) (rest : List StrobeEv) (act : Nat) (delayed : Bool) (s s1 s2 : State), (s.pin n).strobes = e :: rest →
    fireAt (s.pin n).lastStrobe e.t = (act, delayed) →
    s1 = ((s.advanceTo act).raiseIf delayed (strandA (n / 8) Reg.WV_STAT) Fld.WV_STAT_SEP).modPin n (fun p =>
      { p with strobes := rest, lastStrobe := some (e.t, act) }) → s2 = s1.fireStrobe n e act delayed →
    exec (.strobeEvent n) s = .next ((match e.kind with
      | .wopen => s2.tdOpen n act
      | .wclose => s2.tdClose n
      | .edge => s2).modPin n Pin.settlePark)) ∧
  (∀ (n : Fin 1536) (hi lo : Fin 3) (t : Nat) (s s1 : State), s.fld (pinA n Reg.PS_CMP_STATE) Fld.PS_CMP_STATE_MODE_EFF = 5 →
    (s.pin n).settleAt = some t →
    s1 = ((s.advanceTo t).modPin n (fun p => { p with settleAt := none })).setFld (pinA n Reg.PS_CMP_STATE) Fld.PS_CMP_STATE_MODE_EFF
        (s.fld (pinA n Reg.PS_CMP_CFG) Fld.PS_CMP_CFG_MODE) →
    exec (.cmpSettled n hi lo) s = .next (s1.newDecisions n (decCode hi) (decCode lo) (2 * (max s.now t : Nat)))) ∧
  (∀ (s s1 : State), s1 = { s.advanceTo (s.power.holdAt + 1000 * usU) with power := { s.power with holdAt := max s.now (s.power.holdAt + 1000 * usU) } } →
    exec .holdRefresh s = .next ((s.thresholdPins.filter (fun n => !s.coveAwake (coveOf (n / 8)) &&
      decide (2 ≤ s.fld (pinA n Reg.PS_CMP_CFG) Fld.PS_CMP_CFG_MODE))).foldl State.holdThresholds s1)) ∧
  (∀ (n : Fin 1536) (ovh ovl oc : Bool) (at_ kind : Nat) (s : State), kind = bitN ovh + 2 * bitN ovl + 4 * bitN oc → kind ≠ 0 →
    exec (.bwTrip n ovh ovl oc at_) s = .next ((s.advanceTo at_).trip n kind)) ∧
  (∀ (bad : List (Fin 1536)) (t : Nat) (s : State), s.forced.checkAt = some t →
    exec (.bwEngageCheck bad) s = .next (({ s.advanceTo t with forced := { s.forced with checkAt := none } }).engageFail (bad.map (fun (n : Fin 1536) => n.val)))) ∧
  (∀ (bad : List (Fin 1536)) (t : Trip) (u : Nat) (s : State), s.forced.checkAt = none → s.trips.find? (fun x => x.checkAt.isSome) = some t →
    t.checkAt = some u →
    exec (.bwEngageCheck bad) s = .next (({ s.advanceTo u with
      trips := s.trips.map (fun (x : Trip) => if x == t then { x with checkAt := none } else x) }).engageFail
        ((bad.map (fun (n : Fin 1536) => n.val)).filter (fun n => t.pins.contains n))))

/-- A trip whose ACTION is PIN (spec/03 R93 to R97). Its cause is recorded and a fault message queued; at the first trip TRIPPED is set with the
scope, and the pin's own trip stands with its engagement check one microsecond later; on a pin that has tripped already nothing more. Choices of
the model that it rests on: assumption log 37. -/
def Obligations.BreakwaterTrip : Prop :=
  ∀ (n : Fin 1536) (ovh ovl oc : Bool) (at_ kind : Nat) (s : State), s.sound = true → kind = bitN ovh + 2 * bitN ovl + 4 * bitN oc → kind ≠ 0 →
    s.fld (pinA n Reg.PS_BW_CTRL) Fld.PS_BW_CTRL_ACTION = 0 →
    Does (.bwTrip n ovh ovl oc at_) s (fun r =>
      r.now = max s.now at_ ∧ r.faultQ = s.faultQ ++ [⟨srcPin n, kind, n, false⟩] ∧
      r.flag (pinA n Reg.PS_BW_STAT) Fld.PS_BW_STAT_TRIPPED = true ∧
      r.fld (pinA n Reg.PS_BW_STAT) Fld.PS_BW_STAT_CAUSE =
        Nat.lor (s.fld (pinA n Reg.PS_BW_STAT) Fld.PS_BW_STAT_CAUSE) (bitN oc + 2 * bitN ovl + 4 * bitN ovh) ∧
      (s.flag (pinA n Reg.PS_BW_STAT) Fld.PS_BW_STAT_TRIPPED = true → r.trips = s.trips) ∧
      (s.flag (pinA n Reg.PS_BW_STAT) Fld.PS_BW_STAT_TRIPPED = false →
        r.trips = s.trips ++ [⟨n, kind, 0, [n.val], some (max s.now at_ + usU)⟩] ∧ r.fld (pinA n Reg.PS_BW_STAT) Fld.PS_BW_STAT_SCOPE = 0))

/-- The capture TDC and the converters (spec/11 R298 to R303; spec/12 R317, R319, R322). The interpolator calibration of a measurement that has
started gives its scale, and measuring begins unless the scale is out of range; TIMEOUT ends a measurement; and a conversion that ends hands its
result to AD_DATA and to the acquisition engine. Choices of the model that it rests on: assumption log 23, 24. -/
def Obligations.TdcAndConverters : Prop :=
  (∀ (n : Fin 1536) (m1 m2 d : Nat) (s : State), s.tdState n = 1 → m1 < m2 → d = m2 - m1 →
    95 * d ≤ 262144 * 100 → 262144 * 100 ≤ 105 * d →
    Does (.tdcCalDone n m1 m2) s (fun r => r.tdState n = 2 ∧
      r.fld (pinA n Reg.TD_SCALE) Fld.TD_SCALE_SCALE = min 65535 (openDiv ((0x4000 * 262144 : Nat) : Int) d).toNat ∧
      r.tdc n = { s.tdc n with scale := (openDiv ((0x4000 * 262144 : Nat) : Int) d).toNat, armed := (s.tdc n).armSrc == 0, first := none })) ∧
  (∀ (n : Fin 1536) (m1 m2 d : Nat) (s : State), s.tdState n = 1 → m1 < m2 → d = m2 - m1 →
    262144 * 100 < 95 * d ∨ 105 * d < 262144 * 100 →
    exec (.tdcCalDone n m1 m2) s = .next ((s.setFld (pinA n Reg.TD_SCALE) Fld.TD_SCALE_SCALE
      (min 65535 (openDiv ((0x4000 * 262144 : Nat) : Int) d).toNat)).tdComplete n 4)) ∧
  (∀ (n : Fin 1536) (m1 m2 f : Nat) (s s1 : State), s.tdState n = 1 → m2 ≤ m1 → s.free = (f, s1) →
    exec (.tdcCalDone n m1 m2) s = .next ((s1.setFld (pinA n Reg.TD_SCALE) Fld.TD_SCALE_SCALE f).tdComplete n 4)) ∧
  (∀ (n : Fin 1536) (ms : Nat) (s : State), s.tdState n ≠ 0 → ms = Fld.TD_CFG_TIMEOUT.get (s.tdc n).cfg → ms ≠ 0 →
    exec (.tdcTimeout n) s = .next ((s.advanceTo ((s.tdc n).startAt + ms * 1000 * usU)).tdComplete n 7)) ∧
  (∀ (n : Fin 1536) (raw r : Int) (dist sat : Bool) (win : List (Nat × Int × Bool)) (s : State), (s.conv n).running = true →
    s.adResult n raw = (r, dist, sat, win) →
    exec (.conversionEnd n raw) s = .next ((((((s.advanceTo ((s.conv n).start + (s.conv n).cycles * modU)).raiseIf sat (pinA n Reg.AD_STAT)
      Fld.AD_STAT_SAT).wr (pinA n Reg.AD_DATA) (BitVec.ofNat 32 (unsigned 24 r + ((s.conv n).seq % 128) * 2 ^ 24 + bitN dist * 2 ^ 31))).setConv n
      { s.conv n with
        start := (s.conv n).start + (s.conv n).cycles * modU, cycles := s.adCycles n, seq := ((s.conv n).seq + 1) % 128, disturbed := false,
        window := win }).aqResult n r dist)))

/-- The acquisition engine at its own times (spec/12 R321, R327, R328). In CMP mode with a divider it samples every AQ_DIV cycles; a record ends
after a dead time of at most 1,000 ns and one ns a row measured, and the engine waits again or is done after AQ_NREC records; and a block written
to the spill area frees as much of the SRAM. Choices of the model that it rests on: assumption log 24. -/
def Obligations.AcquisitionEvents : Prop :=
  (∀ (k : Fin 192) (a : Acq) (s s1 : State), s.aqState k ≠ 0 → a = s.acq k → a.src = 2 → a.div ≠ 0 →
    s1 = (s.advanceTo a.nextSample).setAcq k { a with nextSample := max s.now a.nextSample + a.div * cycU } →
    exec (.aqCmpSample k) s = .next (s1.aqRow k (s1.cmpRow k s1.now))) ∧
  (∀ (k : Fin 192) (ns dead : Nat) (a : Acq) (r : AqRecord) (s s1 s2 : State), s.aqState k = 3 → a = s.acq k → a.record = some r →
    dead = min ns (1000 + (if a.measEn then r.rows.length else 0)) →
    s1 = (s.advanceTo (a.rearmAt + ceilDiv (dead * 6144) 10)).aqWriteRecord k false false →
    s2 = (((s1.setFld (strandA k Reg.AQ_DEAD) Fld.AQ_DEAD_LAST (min 65535 dead)).setFld (strandA k Reg.AQ_DEAD) Fld.AQ_DEAD_MAX
      (max (s1.fld (strandA k Reg.AQ_DEAD) Fld.AQ_DEAD_MAX) (min 65535 dead))).modAcq k (fun x => { x with dead := dead, rows := [] })) →
    exec (.aqRearmDone k ns) s = .next (if a.nrec ≠ 0 ∧ (s2.sq k Reg.AQ_RECNUM).toNat = a.nrec then
      (s2.setAqState k 0).raise (strandA k Reg.AQ_STAT) Fld.AQ_STAT_DONE else s2.setAqState k 1)) ∧
  (∀ (k : Fin 192) (l r : List MemReq) (q : MemReq) (s : State), s.mem.reqs = l ++ q :: r → q.use = .acq k → (∀ x ∈ l, x.use ≠ .acq k) →
    exec (.aqSpillWritten k) s = .next ((({ s with mem := { s.mem with reqs := l ++ r } }).modAcq k (fun a =>
      { a with spilled := min (a.spilled + 8192) a.inUse })).aqSpill k))

/-- The memory controller at its own times (spec/07 R185 to R190, R197, R200). A granule asked for arrives with a good copy, from the first or the
second read; with none it is read from the host copy of its stream or marked; a request waits 20 µs for promotion; prefetch windows open before
retraining pauses, which start and end one channel at a time; self-refresh is entered with every cove asleep and left on a request; and a stream
pulls its next granule when it has room. Choices of the model that it rests on: assumption log 18. -/
def Obligations.MemoryController : Prop :=
  (∀ (k : Fin 192) (seg gran t : Nat) (read1 read2 : Bool) (r : MemReq) (s s1 s2 : State),
    s.mem.reqs.find? (fun r => r.use == .refill k seg gran) = some r → s.serving r.chan = true →
    s1 = { (s.advanceTo t).traffic 516 with mem := { ((s.advanceTo t).traffic 516).mem with reqs := ((s.advanceTo t).traffic 516).mem.reqs.erase r } } →
    s2 = (if s.panicLate r t then (s1.raise Reg.MC_STAT Fld.MC_STAT_PANIC_LATE).fault srcMem 1 r.chan else s1) →
    (read1 = true → s2.granuleMatches seg gran = true → exec (.granuleRefill k seg gran read1 read2 t) s = .next (s2.deliver k seg gran true t)) ∧
    (read1 = false → read2 = true → s2.granuleMatches seg gran = true →
      exec (.granuleRefill k seg gran read1 read2 t) s = .next ((s2.crcOutcome k seg gran 0).deliver k seg gran true t)) ∧
    ((read1 = false ∧ read2 = false) ∨ s2.granuleMatches seg gran = false → s2.streamOf seg = none →
      exec (.granuleRefill k seg gran read1 read2 t) s = .next ((s2.crcOutcome k seg gran 2).deliver k seg gran false t)) ∧
    ((read1 = false ∧ read2 = false) ∨ s2.granuleMatches seg gran = false → ∀ n x, s2.streamOf seg = some n → Store.get? s2.mem.streams n = some x →
      exec (.granuleRefill k seg gran read1 read2 t) s = .next (({ s2 with mem := { s2.mem with
        repairs := s2.mem.repairs ++ [(k.val, seg, gran)] } }).rdmaRead x.qp (x.hostVa + (gran % x.slots) * 512) x.rkey 512 (.repair k seg gran)))) ∧
  (∀ (r : MemReq) (s s1 : State), s.mem.reqs.find? (fun r => decide (4 ≤ r.cls) && !r.promoted) = some r → s1 = s.advanceTo (r.at_ + 20 * usU) →
    exec .requestPromotion s = .next { s1 with mem := { s1.mem with
      reqs := s1.mem.reqs.map (fun q => if q = r then { q with cls := 3, promoted := true, at_ := r.at_ + 20 * usU } else q) } }) ∧
  (∀ (c : Fin 8) (s s1 : State), s.mem.selfRefresh = false → (s.chan c).window = none → (s.chan c).paused = false →
    s1 = (s.advanceTo (s.pauseDue c - 4 * usU)).modChan c (fun x => { x with window := some (max s.now (s.pauseDue c - 4 * usU)) }) →
    exec (.prefetchWindow c) s = .next ((allStrands.filter (fun k => s1.coveAwake (coveOf k) && s1.flowing k)).foldl
      (fun x k => (x.windowGranules k c).foldl (fun y g => y.request k g.1 g.2 false) x) s1)) ∧
  (∀ (c : Fin 8) (w due : Nat) (s s1 s2 : State), (s.chan c).window = some w → s.mem.selfRefresh = false → (∀ i < 8, (s.chan i).paused = false) →
    due = max (s.pauseDue c) (w + 4 * usU) → s1 = s.advanceTo (if 0 < s.panicOn c then due + 100 * usU else due) →
    s2 = ((s1.modChan c (fun x => { x with paused := true, lastPause := s1.now, window := none })).satAdd Reg.MC_RETRAIN_STAT
      Fld.MC_RETRAIN_STAT_COUNT 1).setFld Reg.MC_RETRAIN_STAT Fld.MC_RETRAIN_STAT_LAST_CH c →
    exec (.retrainPauseStart c) s = .next (if 0 < s.panicOn c then
      (s2.satAdd Reg.MC_RETRAIN_STAT Fld.MC_RETRAIN_STAT_FORCED 1).raise Reg.MC_STAT Fld.MC_STAT_RETRAIN_FORCED else s2)) ∧
  (∀ (c : Fin 8) (ok : Bool) (f : Nat) (s s1 s2 : State), (s.chan c).paused = true → s.free = (f, s1) →
    s2 = s1.advanceTo ((s.chan c).lastPause + f % 983041) →
    exec (.retrainPauseEnd c ok) s = .next (let s3 := s2.modChan c (fun x => { x with paused := false, lastEnd := s2.now })
      if ok then s3 else s3.fault srcMem 0 c)) ∧
  (∀ (c : Fin 8) (ok : Bool) (s : State), (s.chan c).paused = false → (s.chan c).training = true → (∀ i < c.val, (s.chan i).training = false) →
    exec (.retrainPauseEnd c ok) s = .next (let s1 := s.modChan c (fun x => { x with training := false, lastEnd := s.now })
      if ok then s1 else s1.fault srcMem 0 c)) ∧
  (∀ (n : Fin 16) (g len : Nat) (x : Stream) (s s1 : State), Store.get? s.mem.streams n = some x → g = s.strmPull n + x.pulling.length →
    len = (match s.segment? x.seg with | some q => q.len | none => 0) → s.fld (strmA Reg.MC_STRM_STAT n) Fld.MC_STRM_STAT_STATE = 1 →
    g < s.strmProd n → g < len → g < s.strmCons n + 32768 → s1 = s.advanceTo s.mem.nextPull →
    exec (.streamPull n) s = .next (({ s1 with mem := { s1.mem with
      nextPull := s1.now + ceilDiv 3145728 s1.rateCap,
      streams := Store.put s1.mem.streams n { x with pulling := x.pulling ++ [g] } } }).rdmaRead x.qp (x.hostVa + (g % x.slots) * 512) x.rkey 512
        (.granule n g)))

/-- Self-refresh (spec/07 R189, R190). It is entered when MC_PASR enables it, every cove sleeps and nothing is outstanding; segments with a granule
in a slice that KEEP does not name are no longer loaded, and slice 7 is kept while it holds acquisition records. It ends when there is something
to do, and every channel then owes a training. Choices of the model that it rests on: assumption log 49. -/
def Obligations.SelfRefresh : Prop :=
  (∀ (dropped : List Nat) (held : Bool) (s s1 : State), s.flag Reg.MC_PASR Fld.MC_PASR_EN = true → s.allAsleep = true → s.memBusy = false →
    s.mem.selfRefresh = false → dropped = (List.range 8).filter (fun k => k != 0 && !bitOf (s.fld Reg.MC_PASR Fld.MC_PASR_KEEP) k) →
    held = s.acqs.any (fun e => decide (0 < e.2.spilled)) → s1 = s.raiseIf (held && dropped.contains 7) Reg.MC_STAT Fld.MC_STAT_PASR_KEPT →
    Does .selfRefreshEntry s (fun r => r.mem.selfRefresh = true ∧
      r = { (((s1.mem.segs.filter (fun e => e.2.groups.any (fun g => dropped.contains (groupSlice g)))).map (·.1)).foldl State.dropSegment s1) with
        mem := r.mem })) ∧
  (∀ (s : State), s.mem.selfRefresh = true → (s.memBusy = true ∨ s.allAsleep = false) →
    Does .selfRefreshExit s (fun r => r.mem.selfRefresh = false ∧ (∀ c < 8, (r.chan c).training = true ∧ (r.chan c).window = none) ∧
      r.mem.segs = s.mem.segs))

/-- Segments and streams (spec/07 R191 to R196, R201; spec/14 R369, R370). SEG_WRITE reads its image; an image that passes its checks is loaded
unless a command before it writes the same segment, too few groups are free, or the segment is active; SEG_FREE unloads a segment that is not
active; and STREAM_OPEN opens a stream unless it is refused. Choices of the model that it rests on: assumption log 18, 19, 49. -/
def Obligations.SegmentsAndStreams : Prop :=
  (∀ (c : HostCmd) (s : State), s.nextCmd 0x02 = some c →
    exec .segWrite s = .next (if c.bufLen 0x08 = 0 then s.completeWith c 1 0 else s.readIn c 0x08)) ∧
  (∀ (c : HostCmd) (code : Nat) (x : Image) (s s1 : State), s.cmdAt 0x02 .received = some c → readImage c.input false = (code, x) →
    s1 = s.meetSeg c →
    (code ≠ 0 → exec .segImageReceived s = .next (s1.completeWith c 4 code)) ∧
    (code = 0 → s.segBusy c x.seg = true → exec .segImageReceived s = .next (s1.completeWith c 9 0)) ∧
    (code = 0 → s.segBusy c x.seg = false → s.fld Reg.MC_FREE Fld.MC_FREE_GROUPS < ceilDiv x.len 16 →
      exec .segImageReceived s = .next (s1.completeWith c 4 0x07)) ∧
    (code = 0 → s.segBusy c x.seg = false → ceilDiv x.len 16 ≤ s.fld Reg.MC_FREE Fld.MC_FREE_GROUPS → s.segActive x.seg = true →
      exec .segImageReceived s = .next (s1.completeWith c 4 0x08)) ∧
    (code = 0 → s.segBusy c x.seg = false → ceilDiv x.len 16 ≤ s.fld Reg.MC_FREE Fld.MC_FREE_GROUPS → s.segActive x.seg = false →
      exec .segImageReceived s = .next ((s1.loadImage x).complete c.qp c.idx 0 0 (ceilDiv x.len 16 + x.seg * 2 ^ 32 + (5 * x.seg % 8) * 2 ^ 48) 0))) ∧
  (∀ (c : HostCmd) (g : Nat) (s : State), s.nextCmd 0x03 = some c → g = c.arg 0x08 2 → s.segBusy c g = false →
    (s.segment? g = none → exec .segFree s = .next (s.complete c.qp c.idx 0 0 0 0)) ∧
    (∀ x, s.segment? g = some x → s.segActive g = true → exec .segFree s = .next (s.completeWith c 4 8)) ∧
    (∀ x, s.segment? g = some x → s.segActive g = false →
      exec .segFree s = .next ((s.dropSegment g).complete c.qp c.idx 0 0 x.groups.length 0))) ∧
  (∀ (c : HostCmd) (n shown charge rate : Nat) (x : Image) (s s1 s2 s3 s4 : State), s.cmdAt 0x04 .received = some c → n = c.arg 0x08 1 →
    readImage c.input true = (0, x) → shown = (match s.grantedGroup x.seg with | some g => g.charge | none => chargeMbps 2 128 512) →
    charge = (if (s.grantedGroup x.seg).isSome then 0 else shown) → rate = ceilDiv shown 2 → s.streamRefusal n x charge rate = 0 →
    s1 = s.dropSegment x.seg → s2 = { s1 with mem := { s1.mem with
      segs := Store.put s1.mem.segs x.seg { len := x.len, succ := x.succ, fd := x.fd, pairs := x.pairs, crcs := x.crcs, grans := [],
                                            chan0 := 5 * x.seg % 8, groups := [], stream := some n },
      streams := Store.put s1.mem.streams n { seg := x.seg, slots := c.bufLen 0x20 / 512, hostVa := c.bufAddr 0x20, rkey := c.bufKey 0x20, qp := c.qp,
                                              bellVa := c.arg 0x30 8, bellKey := c.arg 0x38 4, pulling := [], charge := charge, rate := rate } } } →
    s3 = s2.setFld Reg.MC_BUDGET_USED Fld.MC_BUDGET_USED_MBPS (s2.fld Reg.MC_BUDGET_USED Fld.MC_BUDGET_USED_MBPS + charge) →
    s4 = (((s3.wr (strmA Reg.MC_STRM_STAT n) (BitVec.ofNat 32 (2 ^ 30 + 0xFF0000 + x.seg))).wr (strmA Reg.MC_STRM_PROD n) 0).wr
      (strmA Reg.MC_STRM_PULL n) 0).wr (strmA Reg.MC_STRM_CONS n) 0 →
    exec .streamOpen s = .next (s4.complete c.qp c.idx 0 0 shown 0)) ∧
  (∀ (c : HostCmd) (code n shown charge : Nat) (x : Image) (s : State), s.cmdAt 0x04 .received = some c → n = c.arg 0x08 1 →
    readImage c.input true = (code, x) → shown = (match s.grantedGroup x.seg with | some g => g.charge | none => chargeMbps 2 128 512) →
    charge = (if (s.grantedGroup x.seg).isSome then 0 else shown) →
    (code ≠ 0 → exec .streamOpen s = .next (s.completeWith c 4 code)) ∧
    (code = 0 → s.streamRefusal n x charge (ceilDiv shown 2) ≠ 0 →
      exec .streamOpen s = .next (s.completeWith c 4 (s.streamRefusal n x charge (ceilDiv shown 2)))))

/-- The fail path (spec/08 R207 to R218, R221, R226; spec/14 R374). A fail event is formed from the oldest evaluated record of a strand, counts its
pins, and is queued, counted only, or stops capture; the fail switch takes the next event into the journal and its lane; a group is closed 1 µs
after its first record and reaches DRAM; the time base is journalled again every 2^39 cycles; and a strand whose events are all in gets its end
mark. Choices of the model that it rests on: assumption log 20. -/
def Obligations.FailPath : Prop :=
  (∀ (k : Fin 192) (r : StepRec) (e : FailEvent) (s s1 : State), s.nextFail k = some r → e = s.eventOf k r →
    s1 = (pinsSet e.pins).foldl (fun x p => x.wr (strandA k (Reg.FL_PIN_FAIL + 4 * (p % 8)))
        (BitVec.ofNat 32 (sat32 ((x.rd (strandA k (Reg.FL_PIN_FAIL + 4 * (p % 8)))).toNat + 1))))
      ((s.modStrand k (fun t => ({ t with recs := t.recs.erase r } : Strand).setFail (r.fails.map (fun f => f.t)))).addLed k Reg.FL_SEEN_LO 1) →
    ((s1.strand k).capture = false → exec (.failEvent k) s = .next (s1.countOnly k)) ∧
    ((s1.strand k).capture = true → s1.jrnFree ≤ 65536 → exec (.failEvent k) s = .next ((s1.countOnly k).stopCapture k 2 e r)) ∧
    ((s1.strand k).capture = true → 65536 < s1.jrnFree → 1024 ≤ (s1.strand k).failQ.length →
      exec (.failEvent k) s = .next ((s1.countOnly k).stopCapture k 1 e r)) ∧
    ((s1.strand k).capture = true → 65536 < s1.jrnFree → (s1.strand k).failQ.length < 1024 →
      exec (.failEvent k) s = .next (s1.modStrand k (fun t => { t with failQ := t.failQ ++ [e] })))) ∧
  (∀ (k : Nat) (e : FailEvent) (rest : List FailEvent) (ev : LaneEv) (spill : Bool) (s s1 s2 : State), s.nextStrand = some k →
    (s.strand k).failQ = e :: rest → ev = ⟨k, e.dieField, e.xp, e.yp, e.zp, e.pins⟩ → spill = s.laneShut (s.laneOf ev) e.dieField →
    s1 = s.modStrand k (fun t => { t with failQ := rest }) →
    s2 = ({ s1 with failPath := { s1.failPath with turn := (k + 1) % 192 } }).journalRec k e.start 0 e.xp e.yp e.zp e.dieField e.pins
      (bitN e.nodec * 4 + bitN spill * 2 + bitN e.isMatch) 0 →
    exec .failSwitchAccept s = .next ((if spill then s2.addLed k Reg.FL_SPILLED_LO 1
      else s2.modLane (s.laneOf ev) (fun n => { n with input := n.input ++ [ev] })).flushMark k)) ∧
  (∀ (s : State), s.failPath.buffer ≠ [] → Does .journalGroupTimeout s (fun r => r = { s.advanceTo (s.failPath.since + usU) with failPath :=
    { s.failPath with
      buffer := [],
      writing := s.failPath.writing ++ [(s.failPath.nextGroup, padTo 4 padRec s.failPath.buffer)],
      nextGroup := s.failPath.nextGroup + 1 } })) ∧
  (∀ (g : Nat) (recs : List JrnRec) (rest : List (Nat × List JrnRec)) (s s1 s2 : State), s.mem.selfRefresh = false →
    s.failPath.writing = (g, recs) :: rest →
    s1 = ((({ s with failPath := { s.failPath with writing := rest, journal := Store.put s.failPath.journal g recs } }).traffic 64).countGroup g recs) →
    s2 = (if 8388608 - (g + 1) = 65536 then s1.fault srcJournal 0 0 else s1) →
    exec .journalGroupWritten s = .next ((recs.filter (fun r => r.type == 2)).foldl (fun x r => x.checkStrand r.strand) s2)) ∧
  (∀ (b : Nat) (s s1 : State), s.failPath.base = some b → s1 = s.advanceTo ((b + 549755813888) * cycU) →
    exec .timeBase s = .next (({ s1 with failPath := { s1.failPath with base := some (b + 549755813888) } }).enterRecord
      ⟨255, 3, (s1.tideOf ((b + 549755813888) * cycU) : Int), 0, 0, 0, 0, 0, 0, 0, 0⟩)) ∧
  (∀ (k : Fin 192) (s : State), (s.strand k).endDue = true → (s.strand k).recs = [] → (s.strand k).failQ = [] → (s.strand k).mark = none →
    exec (.endMark k) s = .next (s.writeEndMark k)) ∧
  (∀ (bad : List Nat) (s s1 s2 : State), s.failPath.audit.isSome = true →
    s1 = (s.failPath.journal.filter (fun g => bad.contains g.1)).foldl (fun x g => x.groupBad g.1) s →
    s2 = ((((s.failPath.journal.filter (fun g => !bad.contains g.1)).foldl (fun x g => g.2.foldl (auditRec g.1) x)
      (([], []) : Store Scan × List (Nat × Nat × Int))).2).foldl (fun x e => x.jrnImb e.1 e.2.1 e.1 e.2.2) s1) →
    exec (.journalAuditDone bad) s = .next (({ s2 with failPath := { s2.failPath with audit := none } }).raise Reg.FL_DEV_STAT
      Fld.FL_DEV_STAT_AUDIT_DONE)) ∧
  (∀ (c : HostCmd) (ks : List Nat) (out : List Byte) (s : State), s.nextCmd 0x0A = some c → ks = c.mask 0x08 →
    out = ks.flatMap (fun k => s.ledgerBlock k) ++ s.deviceBlock →
    exec .ledgerRead s = .next (((ks.foldl (fun x k => (x.checkStep k).checkStrand k) s).writeOut c 0x20 out).complete c.qp c.idx 0 0 out.length 0))

/-- The splice (spec/09 R229 to R250). A lane folds its oldest event while fewer than 64 wait; a context asked for arrives, good or not, and the
events that waited for it are folded; and a lane that has done its part of a final pass adds its sums to the result. Choices of the model that it
rests on: assumption log 20, 21. -/
def Obligations.SpliceLanes : Prop :=
  (∀ (l : Fin 16) (bad : List Nat) (e : LaneEv) (rest : List LaneEv) (s : State), (s.lane l).input = e :: rest → (s.lane l).waiting.length < 64 →
    exec (.laneFold l bad) s = .next (((s.modLane l (fun n => { n with input := rest })).noteBad l e bad).takeEvent l e)) ∧
  (∀ (slot : Nat) (good : Bool) (c : Ctx) (s s1 : State), s.mem.reqs.any (fun r => r.use == .context slot) = true → s.mem.selfRefresh = false →
    s1 = { s with mem := { s.mem with reqs := s.mem.reqs.filter (fun r => decide (r.use ≠ MemUse.context slot)) } } → s1.ctx slot = some c →
    exec (.contextFetched slot good) s = .next (if good then
        (((s1.makeRoom c.lane).traffic 32).modCtx slot (fun c => { c with pooled := true })).foldWaiting c.lane
      else (s1.ctxCrc c.lane c.die c.seg).foldWaiting c.lane)) ∧
  (∀ (l : Fin 16) (d : Nat) (f : Final) (sum : LaneSum) (recs : List (Nat × JrnRec)) (s s1 s2 s3 : State) (rebuild : Bool), s.finalOf d = some f →
    f.left.contains l.val = true → (∀ e ∈ (s.lane l).waiting, e.die ≠ d) → rebuild = s.recomp l d →
    s.windowRecs l d f.start f.stop rebuild = recs → (f.cut && rebuild) = false →
    s1 = (if rebuild then (s.dropCtxs l d).satAdd Reg.SP_CRC_CNT Fld.SP_CRC_CNT_RECOMP 1 else s) →
    s2 = recs.foldl (fun x e => (match x.needCtx .die l d 0 0 with
        | (some _, y) => y
        | (none, y) => y.ctxLost l d).foldEvent l e.2.event) s1 →
    sum = s2.laneSolve l d f.bound rebuild false → s3 = s2.raiseIf sum.undetermined Reg.SP_STAT Fld.SP_STAT_BOUND_HIT →
    exec (.laneSpliceDone l d [] false) s = .next ((s3.modFinal d (fun f =>
      { f with left := f.left.filter (fun x => x != l.val), sums := f.sums ++ [sum] })).formResult d))

/-- Placement (spec/10 R262 to R269; spec/14 R369, R370; spec/18 R450). A WORK_ORDER reads its order, or is refused while another is being made; an
order received is decided by Beacon unless strands or the device forbid it; a decision without a fault is applied once no final pass and no
calibration runs, and refused otherwise; and when the engines of its wake set have settled the placement is in force and the reply leaves.
Choices of the model that it rests on: assumption log 22. -/
def Obligations.PlacementCommands : Prop :=
  (∀ (c : HostCmd) (s : State), s.nextCmd 0x01 = some c →
    exec .workOrder s = .next (if c.bufLen 0x08 = 0 then s.completeWith c 1 0
      else if s.place.making.isSome then s.refuseOther c else s.readIn c 0x08)) ∧
  (∀ (c : HostCmd) (r : Option Refused) (t : Option Placement) (s : State), s.cmdAt 0x01 .received = some c → s.plannerFree = true →
    (s.orderBusy = true → exec .workOrderReceived s = .next (s.refuseOrder c busyRefusal)) ∧
    (s.orderBusy = false → s.place.making.isSome = true → exec .workOrderReceived s = .next (s.refuseOther c)) ∧
    (s.orderBusy = false → s.place.making = none → s.decision c.input = (r, t) →
      exec .workOrderReceived s = .next { s.modCmd c.qp c.idx (fun (c : HostCmd) => { c with stage := CmdStage.deciding }) with
        place := { s.place with making := some ⟨c.qp, c.idx, s.now, 0, r, t, none⟩ } })) ∧
  (∀ (m : Placing) (c : HostCmd) (f : Nat) (s s0 s1 s2 : State), s.makingCmd = some (m, c) → m.applying = none → s.plannerFree = true →
    s.free = (f, s0) → s1 = s0.advanceTo (m.since + f % (150000 * usU)) →
    s2 = s1.setFld Reg.PL_TIME Fld.PL_TIME_PLACE (min 65535 ((s1.now - m.since) / (10 * usU))) →
    (∀ r, m.refusal = some r → exec .placementDecided s = .next (s2.refuseOrder c r)) ∧
    (∀ p, m.refusal = none → m.table = some p → s.splice.finals = [] → s.calRuns = [] → s2.orderBusy = true →
      exec .placementDecided s = .next (s2.refuseOrder c busyRefusal)) ∧
    (∀ p, m.refusal = none → m.table = some p → s.splice.finals = [] → s.calRuns = [] → s2.orderBusy = false →
      exec .placementDecided s = .next ((s2.modCmd c.qp c.idx (fun (c : HostCmd) => { c with stage := CmdStage.applying })).beginApply m p
        (readOrder (c.input.take (leAt c.input 8 4)))))) ∧
  (∀ (m : Placing) (c : HostCmd) (t0 f : Nat) (p : Placement) (out : List Byte) (s s0 s1 s2 s3 s4 : State), s.makingCmd = some (m, c) →
    m.applying = some t0 → m.table = some p → s.plannerFree = true → (∀ k ∈ covesOf p.wake, s.wakeOver k = true) → s.free = (f, s0) →
    s1 = s0.advanceTo (t0 + f % (40000 * usU)) →
    s2 = ((({ s1 with place := { s1.place with making := none, toTouch := List.range 16 } }).setTable p).switchEngines p).showBudget →
    s3 = s2.setFld Reg.PL_TIME Fld.PL_TIME_APPLY (min 65535 ((s2.now - t0) / (10 * usU))) →
    s4 = (s3.raise Reg.PL_STAT Fld.PL_STAT_APPLIED).raiseIf (p.refDrop || !p.dropped.isEmpty) Reg.PL_STAT Fld.PL_STAT_DROPPED →
    out = (match s4.place.table with | some t => t.bytes | none => []) →
    exec .placementApplied s = .next ((s4.writeOut c 0x18 out).complete c.qp c.idx 0 0
      ((s4.rd Reg.PL_ID).toNat + p.groups.length * 2 ^ 32 + p.dropped.length * 2 ^ 48) out.length))

/-- The PMU sequences (spec/11 R291 to R294): closing after a connection, off after a disconnection, and the three steps of a range change; each step
acts at its own time, and at the end a change that waited starts. Choices of the model that it rests on: assumption log 23. -/
def Obligations.PmuSequences : Prop :=
  (∀ (n : Fin 1536) (t : Nat) (s : State), (s.pmu n).seq = .connect t →
    exec (.pmuConnectClose n) s = .next (((s.advanceTo (t + 5 * usU)).modPmu n (fun p => { p with closed := true, state := s.pmMode n + 1 })).pmuEnd n)) ∧
  (∀ (n : Fin 1536) (t : Nat) (conn : Bool) (s : State), (s.pmu n).seq = .off t → conn = (s.pmConn n && s.pmMode n == 0) →
    exec (.pmuDisconnectOff n) s = .next (((s.advanceTo (t + usU)).modPmu n (fun p =>
      { p with amp := false, closed := conn, state := if conn then 1 else 0, range := s.pmRange n })).pmuEnd n)) ∧
  (∀ (n : Fin 1536) (outside : Bool) (t r : Nat) (s : State), (s.pmu n).seq = .rangeLimit t r →
    Does (.pmuRangeLimitMove n outside) s (fun x => x.pmu n = { s.pmu n with seq := .rangeOpen t r } ∧ x.now = max s.now (t + usU) ∧
      (x.flag (pinA n Reg.PM_STAT) Fld.PM_STAT_RANGE_OVR = true ↔ s.flag (pinA n Reg.PM_STAT) Fld.PM_STAT_RANGE_OVR = true ∨ outside = true) ∧
      (x.flag (pinA n Reg.PM_STAT) Fld.PM_STAT_ILIM = true ↔ s.flag (pinA n Reg.PM_STAT) Fld.PM_STAT_ILIM = true ∨ outside = true))) ∧
  (∀ (n : Fin 1536) (t r : Nat) (s : State), (s.pmu n).seq = .rangeOpen t r →
    Does (.pmuRangeOldOpen n) s (fun x => x.pmu n = { s.pmu n with range := r, seq := .rangeEnd t r } ∧ x.now = max s.now (t + 2 * usU))) ∧
  (∀ (n : Fin 1536) (t r : Nat) (s : State), (s.pmu n).seq = .rangeEnd t r →
    exec (.pmuRangeDone n) s = .next ((s.modPmu n (fun p => { p with state := s.pmMode n + 1 })).pmuEnd n))

/-- The sine generator (spec/11 R308 to R311). While enabled it takes its starting phase or steps by its tuning word, reads the table at the top 12
bits of the phase, and clips the code to 16 bits; disabled, it stops and drives no pin. Choices of the model that it rests on: assumption log 4. -/
def Obligations.SineGenerator : Prop :=
  (∀ (k : Fin 192) (phase : Nat) (raw : Int) (s : State), s.flag (strandA k Reg.SG_CTRL) Fld.SG_CTRL_EN = true →
    phase = (if (s.strand k).sineLoad then ((s.sq k Reg.SG_PHASE0).toNat % 65536) * 2 ^ 32
      else ((s.strand k).sinePhase + min ftwMax (s.sgFtw k)) % 2 ^ 48) → raw = s.sineRaw k (s.sineEntry k (phase / 2 ^ 36)) →
    Does (.sineSample k) s (fun r => r.strand k = { s.strand k with
      sinePhase := phase, sineLoad := false, sineRun := true, sineCode := (max 0 (min 65535 raw)).toNat } ∧
      (raw < 0 ∨ 65535 < raw → r.flag (strandA k Reg.SG_STAT) Fld.SG_STAT_CLIP = true) ∧
      (∀ p < 8, (r.pmu (pinOf k p)).sg = bitOf (s.fld (strandA k Reg.SG_CTRL) Fld.SG_CTRL_PINS) p) ∧ r.now = s.now)) ∧
  (∀ (k : Fin 192) (s : State), s.flag (strandA k Reg.SG_CTRL) Fld.SG_CTRL_EN = false →
    Does (.sineSample k) s (fun r => r.strand k = { s.strand k with sineRun := false } ∧ (∀ p < 8, (r.pmu (pinOf k p)).sg = false) ∧ r.regs = s.regs ∧
      r.now = s.now))

/-- Calibration runs (spec/13 R338 to R348). CAL_RUN gives the command of CB_CMD to the calibration engine; and a run that ends stores what it
measured, pin by pin, reports the pins that passed and those that did not, and strobes their values when CB_CTRL says so. Choices of the model
that it rests on: assumption log 25. -/
def Obligations.CalibrationRuns : Prop :=
  (∀ (c : HostCmd) (s : State), s.nextCmd 0x08 = some c →
    exec .calRun s = .next ((s.modCmd c.qp c.idx (fun (c : HostCmd) => { c with stage := CmdStage.calRun })).calCommand
      (BitVec.ofNat 32 (c.arg 0x08 4)) (some (c.qp, c.idx)))) ∧
  (∀ (c : Fin 16) (meas : List CalMeas) (temp : BitVec 8) (r : CalRun) (left : List Nat) (m acc : Nat) (s s1 s2 : State),
    Store.get? s.calRuns c = some r → r.kind ≠ 4 → left = (pinsSet r.pins).filter (fun p => !bitOf r.tripped p) →
    left.foldl (fun (x : State × Nat) p => ((State.endCalPin r meas temp.toNat x.1 p).1,
      if (State.endCalPin r meas temp.toNat x.1 p).2 then x.2 + 2 ^ p else x.2)) (s, 0) = (s1, acc) →
    m = left.foldl (fun m p => m + 2 ^ p) 0 →
    s2 = (if r.kind = 5 then { s1 with calZero := s1.calZero.filter (fun e => e.1 / 8 / 8 != r.strand) } else s1) →
    exec (.calRunEnd c meas temp) s = .next ((((if s2.flag Reg.CB_CTRL Fld.CB_CTRL_AUTO_STROBE then
      s2.strobePins r.strand acc (kindGroups r.kind) else s2).leaveCal r).calResult r.strand r.kind 1 acc (m - acc)).calReply r.cmd 0)) ∧
  (∀ (c : Fin 16) (meas : List CalMeas) (temp : BitVec 8) (r : CalRun) (left : List Nat) (m f : Nat) (s s0 : State),
    Store.get? s.calRuns c = some r → r.kind = 4 → left = (pinsSet r.pins).filter (fun p => !bitOf r.tripped p) → s.free = (f, s0) →
    m = left.foldl (fun m p => m + 2 ^ p) 0 →
    exec (.calRunEnd c meas temp) s = .next ((((left.foldl (fun x p =>
      ({ x with calZero := Store.put x.calZero (8 * pinOf r.strand p + r.src) (measOf meas p).z }).calTemp (pinOf r.strand p) 4 temp.toNat) s0).leaveCal
        r).calResult r.strand 4 1 (Nat.land f m) (m - Nat.land f m)).calReply r.cmd 0))

/-- The life store and the calendar (spec/21 R494 to R500; spec/13 R349). A flush is asked for every ten minutes, waits for a minute to pass since
the last, and ends with the pending counts in flash; SETUP and the calibration set are committed the same way; and the calendar follows the
tideline while that is valid, and counts seconds otherwise. Choices of the model that it rests on: assumption log 43. -/
def Obligations.LifeStore : Prop :=
  (∀ (s s1 : State), s1 = { s.advanceTo (s.store.schedAt + 600000000 * usU) with
      store := { s.store with schedAt := max s.now (s.store.schedAt + 600000000 * usU) } } →
    exec .scheduledFlush s = .next (if s.store.waiting.contains false || s.store.ops.contains (.flush false) then s1 else s1.askFlush false)) ∧
  (∀ (r : Bool) (rest : List Bool) (s s1 : State), s.store.waiting = r :: rest → (∀ b, FlashOp.flush b ∉ s.store.ops) →
    s1 = (match s.store.flushAt with | some t => s.advanceTo (t + 60000000 * usU) | none => s) →
    exec .flushWaitEnd s = .next (({ s1 with store := { s1.store with waiting := rest } }).pushOp (.flush r))) ∧
  (∀ (ok req : Bool) (at_ : Nat) (rest : List FlashOp) (s s1 : State), s.opRuns = true → s.store.ops = .flush req :: rest →
    s1 = (if ok then (s.advanceTo at_).flushed else s.advanceTo at_).popOp →
    exec (.lsCmdDone ok at_) s = .next (if req then s1.lsEnds 1 (if ok then 1 else 3) else s1)) ∧
  (∀ (ok : Bool) (at_ : Nat) (rest : List FlashOp) (s s1 : State), s.opRuns = true → s.store.ops = .setup :: rest → s1 = s.advanceTo at_ →
    exec (.lsCmdDone ok at_) s = .next ((({ s1 with store := { s1.store with
      flash := { s1.store.flash with setup := if ok then some s1.store.shadow else none } } }).popOp).lsEnds 2 (if ok then 1 else 3))) ∧
  (∀ (s s1 : State) (cal t : Nat), s.power.aonLost = false →
    s1 = ({ s.advanceTo (s.store.secAt + 1000000 * usU) with store := { s.store with secAt := max s.now (s.store.secAt + 1000000 * usU) } }).life
      (1554 + min 2 (s.fld Reg.DEV_STATE Fld.DEV_STATE_POWER)) → cal = (s1.rd Reg.LS_CAL_S).toNat → t = s1.tideNow / 1200000000 →
    (s1.tideValid = false → exec .calendarTick s = .next (s1.setCalendar (cal + 1))) ∧
    (s1.tideValid = true → cal ≤ t + 1 → exec .calendarTick s = .next (s1.setCalendar t)) ∧
    (s1.tideValid = true → t + 1 < cal → exec .calendarTick s = .next ((s1.raise Reg.LS_STAT Fld.LS_STAT_CAL_SKEW).setCalendar (cal + 1)))) ∧
  (∀ (ok : Bool) (at_ : Nat) (rest : List FlashOp) (s s1 : State), s.opRuns = true → s.store.ops = .cal :: rest → s1 = s.advanceTo at_ →
    exec (.cbCommitDone ok at_) s = .next (((({ s1 with store := { s1.store with
      flash := { s1.store.flash with cal := if ok then some (s1.regs.filter (fun e => inCalSet e.1)) else none } } }).popOp).setFld Reg.CB_BUSY
        Fld.CB_BUSY_COMMIT 0).raise Reg.CB_STAT (if ok then Fld.CB_STAT_COMMIT_DONE else Fld.CB_STAT_COMMIT_FAIL)))

/-- The coves (spec/17 R421 to R425). A cove free to sleep sleeps; one that waits is admitted 50 µs after the last PLL started; it locks, settles 200
µs after its start and wakes its pins, or fails to lock after 100 µs; a lock that is lost stops its strands with CLOCK_LOSS and puts it to sleep;
and the ebb clock is trimmed each second while the tideline is valid. Choices of the model that it rests on: assumption log 37. -/
def Obligations.CoveSequences : Prop :=
  (∀ (c : Fin 16) (s : State), s.maySleep c = true → exec (.coveSleep c) s = .next (s.coveDown c)) ∧
  (∀ (c : Nat) (s : State), (List.range 16).find? (fun c => s.cvState c == 4) = some c →
    Does .coveWakeAdmit s (fun r => r.cvState c = 1 ∧ r.power.lastPll = some r.now ∧ r.pllAt c = r.now ∧
      r.now = (match s.power.lastPll with | some t => max s.now (t + 50 * usU) | none => s.now))) ∧
  (∀ (c : Fin 16) (at_ : Nat) (s : State), s.cvState c = 1 →
    Does (.covePllLocked c at_) s (fun r => r.cvState c = 2 ∧ r.now = max s.now at_ ∧ r.power = s.power)) ∧
  (∀ (c : Fin 16) (s s1 : State), s.cvState c = 1 → s1 = (s.advanceTo (s.pllAt c + 100 * usU)).setFld (coveA c Reg.CV_STATE) Fld.CV_STATE_STATE 0 →
    exec (.lockFail c) s = .next (((({ s1 with power := { s1.power with plls := Store.del s1.power.plls c } }).raise (coveA c Reg.CV_STAT)
      Fld.CV_STAT_LOCK_FAIL).fault (srcCove c) 0 c).showPower)) ∧
  (∀ (c : Fin 16) (s : State), s.cvState c = 2 →
    exec (.coveSettled c) s = .next ((pinsOfCove c).foldl State.wakePin
      ((s.advanceTo (s.pllAt c + 200 * usU)).setFld (coveA c Reg.CV_STATE) Fld.CV_STATE_STATE 3).showPower)) ∧
  (∀ (c : Fin 16) (at_ : Nat) (s : State), s.cvState c = 3 →
    exec (.lockLost c at_) s = .next ((((((strandsOfCove c).foldl (fun x k => x.clockStops k .clockLoss) (s.advanceTo at_)).abortCal c).coveDown c).raise
      (coveA c Reg.CV_STAT) Fld.CV_STAT_LOCK_LOST).fault (srcCove c) 1 c)) ∧
  (∀ (s : State), s.tideValid = true → Does .ebbTrim s (fun r => r = { s.advanceTo (s.power.trimAt + 1000000 * usU) with power := r.power } ∧
    r.power = { s.power with trimAt := r.now }))

/-- Resets (spec/17 R430, R431; spec/22 R510). When PWR_OK falls the whole device takes its reset values but for the calendar and the record of a
Grave fault; when VDD_AON is lost nothing stands but the flash; and RST_N resets all that is outside the always-on domain, while the failure
collector and its helm go on. Choices of the model that it rests on: assumption log 45. -/
def Obligations.Resets : Prop :=
  (∀ (s : State), Does .pwrOkFall s (fun r => (∀ a, isCalendar a = false → r.rd a = resetOf a) ∧ (∀ a, isCalendar a = true → r.rd a = s.rd a) ∧
    r.power = { begun := false, cause := 1 } ∧ r.faults.recs = s.faults.recs.filter (fun e => e.2.cls == 3) ∧
    r.forced = { grave := s.forced.grave } ∧ r.faultQ = [] ∧ r.counts = [] ∧ r.strands = [] ∧ r.pending = s.pending ∧ r.now = s.now)) ∧
  (∀ (s : State), Does .vddAonLoss s (fun r => (∀ a, r.rd a = resetOf a) ∧ r.power = { begun := false, cause := 1, aonLost := true } ∧
    r.faults.recs = [] ∧ r.forced = {} ∧ r.faultQ = [] ∧ r.counts = [] ∧ r.strands = [] ∧ r.pending = s.pending ∧ r.now = s.now)) ∧
  (∀ (s : State), Does .rstNFall s (fun r => (∀ a, (a < 0x1000 ∨ 0x3000 ≤ a) → isCalendar a = false → a ≠ Reg.MC_FREE → r.rd a = resetOf a) ∧
    (∀ a, isCalendar a = true → r.rd a = s.rd a) ∧ r.fld Reg.FC_HELM_STATE Fld.FC_HELM_STATE_PENDING = 0 ∧
    r.fld Reg.FC_HELM_STATE Fld.FC_HELM_STATE_BEACON_RUN = 0 ∧ r.fld Reg.FC_HELM_STATE Fld.FC_HELM_STATE_WDT_COUNT = 0 ∧
    r.forced = { grave := s.forced.grave } ∧ r.faultQ = [] ∧ r.strands = [] ∧ r.pending = s.pending))

/-- Starting and restarting (spec/17 R432; spec/18 R458, R464). A device that stands before its start-up begins it, and fails at step 4 with a Grave
record open; a thermal shutdown ends 10 s after it has cooled; and Beacon, once reset, runs what its boot code verifies. Choices of the model
that it rests on: assumption log 44. -/
def Obligations.Starting : Prop :=
  (∀ (f : StartFacts) (s s1 s2 : State), s.power.begun = false → s.fld Reg.DEV_STATE Fld.DEV_STATE_STATE = 0 →
    s1 = ({ s.advanceTo f.at_ with power := { s.power with begun := true } }).setFld Reg.DEV_PWR_STAT Fld.DEV_PWR_STAT_LAST_START s.power.cause →
    s2 = (if s.fld Reg.DEV_STATE Fld.DEV_STATE_STEP = 3 then s1.step3 f else s1) →
    (s2.graveOpen = true → f.rail = none → exec (.startup f) s = .next s2.failed) ∧
    (s2.graveOpen = false → f.rail = none → exec (.startup f) s = .next (((s2.atStep 4).step4).stepsFrom5 f 99)) ∧
    (s2.graveOpen = false → ∀ n, f.rail = some n → 4 < n → exec (.startup f) s = .next (((s2.atStep 4).step4).stepsFrom5 f n)) ∧
    (s2.graveOpen = false → f.rail = some 4 → exec (.startup f) s = .next (s2.atStep 4)) ∧
    (s.fld Reg.DEV_STATE Fld.DEV_STATE_STEP = 3 → f.rail = some 3 → exec (.startup f) s = .next s2)) ∧
  (∀ (t : Nat) (s s1 : State), s.thermal.coolSince = some t → s.thLevel = 3 → s.graveOpen = false →
    s1 = ((s.advanceTo (t + 10000000 * usU)).closeAll).resetLevel →
    exec .thermalRestart s =
      .next (({ s1 with forced := { grave := s1.forced.grave } }.deepWake 5).raise Reg.TH_STAT Fld.TH_STAT_RESTARTED)) ∧
  (∀ (fw : Option Word) (at_ b : Nat) (s s1 : State), s.faults.booting = some b →
    s1 = { s.advanceTo at_ with faults := { s.faults with booting := none } } →
    (fw = none → exec (.beaconBootDone fw at_) s = .next ((s1.raise Reg.DEV_STAT Fld.DEV_STAT_FW_FAIL).fault srcBeacon 1 0)) ∧
    (∀ v s2, fw = some v → s2 = (({ s1 with faults := { s1.faults with kickAt := s1.now } }.wr Reg.DEV_FW_VER v).setFld Reg.FC_HELM_STATE
        Fld.FC_HELM_STATE_BEACON_RUN 1) →
      exec (.beaconBootDone fw at_) s = .next (let s3 := if !s2.ctl.base.isEmpty && decide (v.toNat / 65536 < imgFw s2.ctl.base) then s2.noUcode else s2
        ({ s3 with store := { s3.store with opSince := none } }.startOp).resumePlacing)))

/-- The fault collector (spec/18 R443 to R451, R454, R455, R457; spec/22 R510). The oldest message opens a record of its source, or merges with it
and raises its class; the self-check that fails or does not answer is a Grave fault; a watchdog that expires and a transfer that is not
acknowledged hand over and report; and a rail that stays out of its limits for 50 µs is Grave. Choices of the model that it rests on: assumption
log 38, 39. -/
def Obligations.FaultEvents : Prop :=
  (∀ (m : FaultMsg) (rest : List FaultMsg) (s : State), s.faultQ = m :: rest →
    exec (.faultMessage none) s = .next (({ s with faultQ := rest }).takeMessage m (msgClass m.source m.kind) (!m.forced))) ∧
  (∀ (m : FaultMsg) (s : State), kindValid m.source m.kind = true →
    exec (.faultMessage (some m)) s = .next (s.takeMessage m (msgClass m.source m.kind) false)) ∧
  (∀ (r : Option Bool) (s s1 : State), s1 = { s.advanceTo (s.faults.checkAt + 100000 * usU) with faults := { s.faults with
      checkAt := max s.now (s.faults.checkAt + 100000 * usU),
      checking := if r.isSome then none else some (max s.now (s.faults.checkAt + 100000 * usU)) } } →
    exec (.collectorSelfcheck r) s = .next (if r = some false then s1.takeMessage ⟨srcCollector, 1, 0, false⟩ 3 true else s1)) ∧
  (∀ (t : Nat) (s : State), s.faults.checking = some t →
    exec .selfcheckTimeout s = .next (({ s.advanceTo (t + 1000 * usU) with faults := { s.faults with checking := none } }).takeMessage
      ⟨srcCollector, 1, 0, false⟩ 3 true)) ∧
  (∀ (s s1 : State), s.beaconRuns = true → s1 = (s.advanceTo (s.faults.kickAt + s.wdtPeriod)).beaconExpires →
    exec .watchdogExpiry s = .next (s1.fault srcBeacon 0 (s1.fld Reg.FC_HELM_STATE Fld.FC_HELM_STATE_WDT_COUNT))) ∧
  (∀ (t a : Nat) (s s0 s1 : State), s.faults.helmDue = some t → s.free = (a, s0) →
    s1 = ((s0.advanceTo t).helmAck).fault srcBeacon 2 (a % 4294967296) →
    exec .helmTimeout s = .next ({ s1 with ring := { s1.ring with bypassed := true } }).dropHold) ∧
  (∀ (k : Fin 8) (at_ : Nat) (s : State),
    exec (.supplyExcursion k at_) s = .next (({ s.advanceTo at_ with power := { s.power with
      rails := Store.put s.power.rails k (max s.now at_) } }).fault srcSupply k 0)) ∧
  (∀ (k : Fin 8) (t : Nat) (s : State), Store.get? s.power.rails k = some t →
    exec (.supplyGrave k) s = .next (({ s.advanceTo (t + 50 * usU) with power := { s.power with rails := Store.del s.power.rails k } }).takeMessage
      ⟨srcSupply, 2 ^ k.val, 0, false⟩ 3 true))

/-- A message that the collector takes (spec/18 R445 to R447): the first of its source opens a record that holds its instant, kind, class and
address, with FC_STAT.OPENED and its actions; a later one merges its kind into the open record, counts it up to 255, and keeps the higher class.
Choices of the model that it rests on: assumption log 38. -/
def Obligations.FaultRecords : Prop :=
  (∀ (m : FaultMsg) (cls : Nat) (own : Bool) (s : State), Store.get? s.faults.recs m.source = none →
    ∃ s1 : State, s1.faults.recs = Store.put s.faults.recs m.source ⟨s.stamp, m.source, m.kind, cls, 0, m.forced, m.addr, s.faults.opened⟩ ∧
      s1.faults.opened = s.faults.opened + 1 ∧ s1.flag Reg.FC_STAT Fld.FC_STAT_OPENED = true ∧
      s.takeMessage m cls own = ((s1.faultEvent ⟨s.stamp, m.source, m.kind, cls, 0, m.forced, m.addr, s.faults.opened⟩).showAlert).classActions
        cls m.source m.kind own) ∧
  (∀ (m : FaultMsg) (cls : Nat) (own : Bool) (r : FaultRec) (s : State), Store.get? s.faults.recs m.source = some r → cls ≤ r.cls →
    (Store.get? (s.takeMessage m cls own).faults.recs m.source = some { r with kind := Nat.lor r.kind m.kind, merge := min 255 (r.merge + 1) } ∧
      (s.takeMessage m cls own).flag Reg.FC_STAT Fld.FC_STAT_MERGED = true ∧
      (s.takeMessage m cls own).forced = s.forced ∧ (s.takeMessage m cls own).sent = s.sent))

/-- Temperature and self-test (spec/18 R461 to R465; spec/17 R440, R441; spec/19 R470 to R477). A sensor is read every 10 µs in turn, and one that
does not answer or answers out of range counts as the highest temperature; a halt not complete in 10 ms is overdue; a microcode command ends with
its code; and a self-test ends with its verdict, and its strand goes on. Choices of the model that it rests on: assumption log 40, 41, 42. -/
def Obligations.ThermalAndTests : Prop :=
  (∀ (ok broken : Bool) (raw : BitVec 16) (n : Nat) (v : Int) (s s1 s2 : State), n = s.thermal.next →
    broken = (!ok || decide (signed 16 raw.toNat < -deg 45) || decide (deg 155 < signed 16 raw.toNat)) →
    v = (if broken then deg 150 else max (-deg 40) (min (deg 150) (signed 16 raw.toNat))) →
    s1 = (({ s.advanceTo (s.thermal.readAt + 10 * usU) with thermal := { s.thermal with
      next := (n + 1) % 24, readAt := max s.now (s.thermal.readAt + 10 * usU) } }).setFld (Reg.TH_SENS + 4 * n) Fld.TH_SENS_TEMP (unsigned 16 v)).setFld
        (Reg.TH_SENS + 4 * n) Fld.TH_SENS_BROKEN (bitN broken) →
    s2 = (if broken && !s.flag (Reg.TH_SENS + 4 * n) Fld.TH_SENS_BROKEN then (s1.raise Reg.TH_STAT Fld.TH_STAT_BROKEN).fault srcThermal 3 n else s1) →
    exec (.sensorRead ok raw) s = .next s2.thermalUpdate) ∧
  (∀ (t : Nat) (s : State), s.thermal.haltAt = some t →
    exec .thermalHaltDeadline s = .next { s.advanceTo (t + 10000 * usU) with thermal := { s.thermal with haltAt := none, overdue := true } }) ∧
  (∀ (bad : List (Fin 208)) (at_ : Nat) (r : CsRun) (l : List Nat) (s s1 s2 s3 : State), s.ctl.run = some r → s.csReady r = true →
    s1 = (({ s with ctl := { s.ctl with run := none } }).advanceTo at_).setFld Reg.CS_STAT Fld.CS_STAT_BUSY 0 →
    l = (if r.cmd = 4 ∨ r.code ≠ 1 then [] else (List.range 208).filter (fun e => bad.any (fun (b : Fin 208) => b.val == e))) →
    s2 = (if r.code = 1 then s1.csAct r l else s1) →
    s3 = (if r.cmd = 1 then s2.showLoaded false (if r.slot = 0 then r.code else 0) (if r.slot = 1 then r.code else 0) (s2.loadTime r.at_) else s2) →
    exec (.csCommandDone bad at_) s = .next (s3.csEnds r.cmd r.code (l.headD 0xFF)).runWaitingTests) ∧
  (∀ (v : RtVerdict) (t : RtTest) (s s1 : State), s.power.test = some t →
    s1 = ({ s.advanceTo (t.at_ + 14000 * usU) with power := { s.power with test := none } }).testOutcome t (t.result v) →
    (t.strand = none → exec (.rtSelftestEnd v) s = .next (if t.result v = 2 then s1.healthChanged else s1)) ∧
    (∀ k s2, t.strand = some k → s2 = (s1.testReturn k t.was).strandless k →
      exec (.rtSelftestEnd v) s = .next (if t.result v = 2 then s2.healthChanged else if t.result v = 3 then s2.raiseStop k .deviceFault else s2)))

/-- The SPI port (spec/20 R481 to R488). While the port answers, a READ fetches words from its address on, within the block of 64 KiB, and sends
them; a WRITE of 1 to 64 whole words is one burst whose outcome SPI_LAST records; a WRITE with bits left over, one too long and one of no words
change nothing else; a frame of a reserved command is answered with zeros. Choices of the model that it rests on: assumption log 11, 48. -/
def Obligations.SpiFrames : Prop :=
  (∀ (waddr : BitVec 22) (words : Nat) (cut : Bool) (out : List Byte) (s s1 : State), s.masterLive .spi = true → words ≠ 0 →
    State.spiReadWords cut (spiAddrs (words + bitN cut) (4 * waddr.toNat)) true s [] = (out, s1) →
    exec (.spiRead waddr words cut) s = .next ((if cut then s1.raise Reg.SPI_STAT Fld.SPI_STAT_PARTIAL else s1).send (.spiData out))) ∧
  (∀ (waddr : BitVec 22) (data : List Word) (n : Nat) (s s0 s1 : State) (r : Access), s.masterLive .spi = true → n = data.length → n ≠ 0 → n ≤ 64 →
    s0 = s.raiseIf ((spiAddrs n (4 * waddr.toNat)).any (fun a => a % 0x10000 == 0xFFFC)) Reg.SPI_STAT Fld.SPI_STAT_WRAP →
    s0.writeBurst .spi (spiAddrs n (4 * waddr.toNat)) data (4 * waddr.toNat) 0 none = (r, s1) →
    exec (.spiWrite waddr data 0) s = .next (match r with
      | .done _ => s1.spiLast 1 n waddr
      | .deferred => (s1.raise Reg.SPI_STAT Fld.SPI_STAT_DEFER).spiLast 2 n waddr
      | .error => (s1.raise Reg.SPI_STAT Fld.SPI_STAT_BUS_ERR).spiLast 3 n waddr)) ∧
  (∀ (waddr : BitVec 22) (data : List Word) (bits : Fin 32) (outcome : Nat) (f : Field) (s : State), s.masterLive .spi = true →
    ((bits ≠ 0 ∧ outcome = 4 ∧ f = Fld.SPI_STAT_MALFORMED) ∨ (bits = 0 ∧ 64 < data.length ∧ outcome = 5 ∧ f = Fld.SPI_STAT_LONG)) →
    Does (.spiWrite waddr data bits) s (fun r =>
      r.rd Reg.SPI_LAST = BitVec.ofNat 32 (outcome * 2 ^ 29 + min 127 data.length * 2 ^ 22 + waddr.toNat) ∧
      r.flag Reg.SPI_STAT f = true ∧ (∀ a, a ≠ Reg.SPI_LAST → a ≠ Reg.SPI_STAT → r.rd a = s.rd a) ∧ r.sent = s.sent)) ∧
  (∀ (waddr : BitVec 22) (s : State), s.masterLive .spi = true →
    exec (.spiWrite waddr [] 0) s = .next (s.wr Reg.SPI_LAST (BitVec.ofNat 32 (1 * 2 ^ 29 + 0 * 2 ^ 22 + waddr.toNat)))) ∧
  (∀ (waddr : BitVec 22) (words : Nat) (s : State), s.masterLive .spi = true →
    Does (.spiBadCmd waddr words true) s (fun r => r.flag Reg.SPI_STAT Fld.SPI_STAT_BAD_CMD = true ∧
      r.rd Reg.SPI_LAST = BitVec.ofNat 32 (6 * 2 ^ 29 + min 127 words * 2 ^ 22 + waddr.toNat) ∧
      (∀ a, a ≠ Reg.SPI_LAST → a ≠ Reg.SPI_STAT → r.rd a = s.rd a) ∧ r.sent = s.sent ++ [.spiData (List.replicate (4 * words) 0)]) ∧
    exec (.spiBadCmd waddr words false) s = .next (s.raise Reg.SPI_STAT Fld.SPI_STAT_PARTIAL)) ∧
  (∀ (a : Nat), spiNext a = (if a % 0x10000 = 0xFFFC then a - 0xFFFC else a + 4) ∧ spiNext a / 0x10000 = a / 0x10000 + (if a % 0x10000 = 0xFFFE ∨
    a % 0x10000 = 0xFFFD ∨ a % 0x10000 = 0xFFFF then 1 else 0))

/-- Packets of the host (spec/14 R350 to R354, R357, R358, R361 to R364). A packet with a bad ICRC, or for no QP, is noted and dropped; a knock and a
doorbell record move an index of the host within its limits; an RDMA WRITE or READ of the window is one burst of the QP, whose failure is NAKed
and ends the QP; responses and acknowledgements end requests of the device, a NAK and exhausted retries end the QP; PFC frames pause the
priorities they name. Choices of the model that it rests on: assumption log 29, 30, 31. -/
def Obligations.HostPackets : Prop :=
  (∀ (h : RoceHead) (n : Nat) (s : State), s.coreLive = true → s.onRing = true →
    (h.icrcOk = false → s.arrive h n = (none, (s.rxDrain n).raise Reg.HT_STAT Fld.HT_STAT_ICRC)) ∧
    (h.icrcOk = true → (h.qpn.toNat < 0x100 ∨ 0x140 ≤ h.qpn.toNat) → s.arrive h n = (none, (s.rxDrain n).raise Reg.HT_STAT Fld.HT_STAT_UNK_QP)) ∧
    (∀ q : Fin 64, h.icrcOk = true → h.qpn.toNat = 0x100 + q →
      s.arrive h n = (if (s.rxDrain n).qpRts q then some q.val else none, s.rxDrain n))) ∧
  (∀ (h : RoceHead) (payload : List Byte) (va : BitVec 64) (rkey len : Word) (t : Nat) (s s1 : State),
    ((s.advanceTo t).arrive h 1 = (none, s1) → exec (.knock h payload t) s = .next s1 ∧ exec (.windowRead h va rkey len t) s = .next s1 ∧
      exec (.rdmaAck h t) s = .next s1 ∧ exec (.nakRcvd h t) s = .next s1) ∧
    ((s.advanceTo t).arrive h (packets 1024 payload.length) = (none, s1) → exec (.windowWrite h va rkey payload t) s = .next s1 ∧
      exec (.rdmaReadResponse h payload t) s = .next s1)) ∧
  (∀ (h : RoceHead) (payload : List Byte) (t q : Nat) (s s1 s2 : State), (s.advanceTo t).arrive h 1 = (some q, s1) → s1.turnOf q h.psn.toNat = .now →
    s2 = (s1.expect q 1).ack q h.psn.toNat →
    (payload.length ≠ 16 ∨ s2.knockIdx q (leAt payload 0 1) = none →
      exec (.knock h payload t) s = .next (s2.raise (qpA q Reg.HT_QP_STAT) Fld.HT_QP_STAT_KNOCK_BAD)) ∧
    (∀ i, payload.length = 16 → s2.knockIdx q (leAt payload 0 1) = some i →
      exec (.knock h payload t) s = .next (s2.takeIndex q (leAt payload 4 4) i))) ∧
  (∀ (q w v top d : Nat) (i : HostIdx) (s : State), s.idxHeld q i = (v, top) → d = (w + 4294967296 - v % 4294967296) % 4294967296 →
    (d = 0 → s.takeIndex q w i = s) ∧ (d ≠ 0 → d ≤ top → s.takeIndex q w i = s.idxStep q d w i) ∧
    (d ≠ 0 → top < d → s.takeIndex q w i = s.raise (qpA q Reg.HT_QP_STAT) Fld.HT_QP_STAT_IDX_ERR)) ∧
  (∀ (h : RoceHead) (va : BitVec 64) (rkey : Word) (data : List Byte) (t q last : Nat) (s s1 s2 : State),
    (s.advanceTo t).arrive h (packets 1024 data.length) = (some q, s1) → s1.turnOf q h.psn.toNat = .now →
    last = psnAdd h.psn.toNat (packets (s1.mtu q) data.length - 1) → s2 = s1.expect q (packets (s1.mtu q) data.length) →
    (data = [] → exec (.windowWrite h va rkey data t) s = .next (s2.ack q last)) ∧
    (data ≠ [] → ((s2.rd (qpA q Reg.HT_QP_WKEY)).toNat ≠ rkey.toNat ∨ 0x1000000 < va.toNat + data.length) →
      exec (.windowWrite h va rkey data t) s = .next (((s2.raise (qpA q Reg.HT_QP_STAT) Fld.HT_QP_STAT_WIN_ERR).nak q h.psn.toNat nakAccess).qpError q)) ∧
    (∀ (words : List Word) (r : Access) (s3 : State), data ≠ [] → (s2.rd (qpA q Reg.HT_QP_WKEY)).toNat = rkey.toNat →
      va.toNat + data.length ≤ 0x1000000 → words = wordsLe (data.length / 4) data →
      s2.writeBurst (qpMaster q) (wordsFrom va.toNat words.length) words va.toNat (data.length % 4) none = (r, s3) →
      exec (.windowWrite h va rkey data t) s = .next (match r with
        | .done _ => s3.ack q last
        | .deferred => ((s3.raise (qpA q Reg.HT_QP_STAT) Fld.HT_QP_STAT_WIN_DEFER).nak q h.psn.toNat nakOperational).qpError q
        | .error => ((s3.raise (qpA q Reg.HT_QP_STAT) Fld.HT_QP_STAT_WIN_ERR).nak q h.psn.toNat nakAccess).qpError q))) ∧
  (∀ (h : RoceHead) (va : BitVec 64) (rkey len : Word) (t q : Nat) (s s1 s2 : State), (s.advanceTo t).arrive h 1 = (some q, s1) →
    ((s1.turnOf q h.psn.toNat = .now ∧ s2 = s1.expect q (packets (s1.mtu q) len.toNat)) ∨ (s1.turnOf q h.psn.toNat = .again ∧ s2 = s1)) →
    (len = 0 → exec (.windowRead h va rkey len t) s = .next (s2.respond q h.psn.toNat [])) ∧
    (len ≠ 0 → ((s2.rd (qpA q Reg.HT_QP_WKEY)).toNat ≠ rkey.toNat ∨ 0x1000000 < va.toNat + len.toNat) →
      exec (.windowRead h va rkey len t) s = .next (((s2.raise (qpA q Reg.HT_QP_STAT) Fld.HT_QP_STAT_WIN_ERR).nak q h.psn.toNat nakAccess).qpError q)) ∧
    (∀ (r : Access) (s3 : State), len ≠ 0 → (s2.rd (qpA q Reg.HT_QP_WKEY)).toNat = rkey.toNat → va.toNat + len.toNat ≤ 0x1000000 →
      s2.readBurst (qpMaster q) (wordsFrom va.toNat (min 257 (len.toNat / 4))) va.toNat (len.toNat % 4) = (r, s3) →
      exec (.windowRead h va rkey len t) s = .next (match r with
        | .done l => s3.respond q h.psn.toNat (l.flatMap (fun w => leBytes 4 w.toNat))
        | .deferred => ((s3.raise (qpA q Reg.HT_QP_STAT) Fld.HT_QP_STAT_WIN_DEFER).nak q h.psn.toNat nakOperational).qpError q
        | .error => ((s3.raise (qpA q Reg.HT_QP_STAT) Fld.HT_QP_STAT_WIN_ERR).nak q h.psn.toNat nakAccess).qpError q))) ∧
  (∀ (h : RoceHead) (data : List Byte) (t q : Nat) (before rest : List Rdma) (x : Rdma) (u : ReadUse) (s s1 : State),
    (s.advanceTo t).arrive h (packets 1024 data.length) = (some q, s1) → (s1.qp q).out = before ++ x :: rest → (∀ b ∈ before, b.use = none) →
    x.use = some u → data.length = x.len →
    h.psn.toNat = psnAdd (s1.outPsn q) ((before.map (fun r => s1.rdmaPackets q r)).foldl (· + ·) 0) →
    exec (.rdmaReadResponse h data t) s = .next ((s1.progressed q rest).readDone q data u)) ∧
  (∀ (h : RoceHead) (t q : Nat) (left : List Rdma) (s s1 : State), (s.advanceTo t).arrive h 1 = (some q, s1) →
    left = acked (s1.rdmaPackets q) h.psn.toNat (s1.outPsn q) (s1.qp q).out →
    exec (.rdmaAck h t) s = .next (if left.length < (s1.qp q).out.length then s1.progressed q left else s1)) ∧
  (∀ (h : RoceHead) (t q : Nat) (s s1 : State), (s.advanceTo t).arrive h 1 = (some q, s1) → (s1.qp q).out ≠ [] →
    exec (.nakRcvd h t) s = .next ((s1.raise (qpA q Reg.HT_QP_STAT) Fld.HT_QP_STAT_NAK_RCVD).qpError q)) ∧
  (∀ (q : Fin 64) (s s1 s2 : State), s.qpRts q = true → (s.qp q).out ≠ [] → s1 = s.advanceTo ((s.qp q).progress + s.ackTimeout q) →
    s2 = s1.modQp q (fun p => { p with retries := p.retries + 1, progress := s1.now }) →
    (s1.fld (qpA q Reg.HT_QP_CTRL) Fld.HT_QP_CTRL_RETRY ≤ (s.qp q).retries →
      exec (.ackTimeout q) s = .next ((s1.raise (qpA q Reg.HT_QP_STAT) Fld.HT_QP_STAT_RETRY_EXC).qpError q)) ∧
    ((s.qp q).retries < s1.fld (qpA q Reg.HT_QP_CTRL) Fld.HT_QP_CTRL_RETRY → exec (.ackTimeout q) s = .next
      ((s.qp q).out.foldl (fun (x : State × Nat) r => x.1.sendRequest q x.2 r) (s2, s1.outPsn q)).1)) ∧
  (∀ (t : Nat) (s s1 s2 : State), s.coreLive = true → s1 = s.advanceTo t →
    s2 = (List.range 64).foldl (fun x q => x.rdmaRead q (x.rd64 (qpA q Reg.HT_QP_DB_BASE_LO)) (x.rd (qpA q Reg.HT_QP_DB_RKEY)).toNat 64 .doorbell) s1 →
    exec (.doorbellPoll t) s = .next (s2.mem.streams.foldl (fun x e => x.rdmaRead e.2.qp e.2.bellVa e.2.bellKey 8 (.streamBell e.1)) s2)) ∧
  (∀ (p : Fin 2) (enable : BitVec 8) (quanta : List (BitVec 16)) (t : Nat) (s s1 : State), s1 = s.advanceTo t → s1.onRing = true →
    s1.coreLive = true → s1.linkState p = 3 → ∃ l, exec (.pfcFrame p enable quanta t) s = .next (({ s1 with host := { s1.host with pauses := l } }).drain p) ∧
      (∀ e ∈ s1.host.pauses, (∀ k : Fin 8, e.1 = 8 * p.val + k.val → enable.toNat.testBit k = false) → e ∈ l) ∧
      (∀ k : Fin 8, enable.toNat.testBit k = true → ∀ e ∈ l, e.1 = 8 * p.val + k.val →
        (quanta.getD k 0).toNat ≠ 0 ∧ e.2 = s1.now + pauseUnits (quanta.getD k 0).toNat) ∧
      (∀ k : Fin 8, enable.toNat.testBit k = true → (quanta.getD k 0).toNat ≠ 0 → (8 * p.val + k.val, s1.now + pauseUnits (quanta.getD k 0).toNat) ∈ l)) ∧
  (∀ (p : Fin 2) (e : Nat × Nat) (s s1 : State), s.host.pauses.find? (fun e => e.1 == 8 * p.val + s.fld Reg.HT_PFC Fld.HT_PFC_PRIO) = some e →
    s1 = s.advanceTo e.2 → exec (.pfcPauseExpiry p) s = .next (({ s1 with host := { s1.host with
      pauses := s1.host.pauses.filter (fun x => !(x.1 == e.1) && decide (s1.now < x.2)) } }).drain p))

/-- Commands of the host (spec/14 R22, R355, R360, R366 to R377; spec/18 R457). The next QP in turn starts its next descriptor, whose opcode, zero
bytes and limits are checked; a command that completes writes its completion entry and moves CPL_PI; RUN_AT is accepted or answered with the
first reason against it; HALT stops the strands named and keeps those that wait for a RUN_AT from starting; RESULT_FETCH, REG_BATCH, HELM_CLAIM,
HELM_ACK and NOP do what R371 says; events and results are written to their rings. Choices of the model that it rests on: assumption log 20, 26,
27, 28, 31, 32. -/
def Obligations.HostCommands : Prop :=
  (∀ (q i : Nat) (d : List Byte) (c : HostCmd) (s s1 s2 : State),
    ((List.range 64).map (fun i => (s.host.turn + i) % 64)).find? (fun q => (s.ready q).isSome) = some q → s.ready q = some (i, d) →
    c = { qp := q, idx := i, desc := d, at_ := s.now, stage := .started, input := [], lost := false } →
    s1 = (s.wr (qpA q Reg.HT_QP_CMD_CI) (BitVec.ofNat 32 (i + 1))).modQp q (fun p => { p with fetched := p.fetched.filter (fun e => e.1 != i) }) →
    s2 = { s1 with host := { s1.host with turn := (q + 1) % 64, cmds := s1.host.cmds ++ [c] } } →
    exec .commandStart s = .next (s2.admitCmd c) ∧
    ((c.op = 0 ∨ 0x0D < c.op) → s2.admitCmd c = s2.completeWith c 5 0) ∧
    (0 < c.op → c.op ≤ 0x0D → (c.zerosOk = false ∨ c.limitsOk = false) → s2.admitCmd c = s2.completeWith c 6 0) ∧
    (∀ n, 0 < c.op → c.op ≤ 0x0D → c.zerosOk = true → c.limitsOk = true → c.shortOf = some n → s2.admitCmd c = s2.completeWith c 7 n) ∧
    (0 < c.op → c.op ≤ 0x0D → c.op ≠ 4 → c.op ≠ 9 → c.zerosOk = true → c.limitsOk = true → c.shortOf = none → s2.admitCmd c = s2)) ∧
  (∀ (c : HostCmd) (q idx status detail r0 r1 : Nat) (s s1 : State), s.host.cmds.find? (fun c => c.qp == q && c.idx == idx) = some c →
    s1 = { s with host := { s.host with cmds := s.host.cmds.filter (fun d => !(d.qp == q && d.idx == idx && d.lost == c.lost)) } } →
    (c.lost = true → s.complete q idx status detail r0 r1 = s1.raise (qpA q Reg.HT_QP_STAT) Fld.HT_QP_STAT_CPL_LOST) ∧
    (∀ (i n : Nat), c.lost = false → i = (s1.rd (qpA q Reg.HT_QP_CPL_PI)).toNat → n = s1.cplSize q →
      s.complete q idx status detail r0 r1 = (s1.rdmaWrite q (s1.rd64 (qpA q Reg.HT_QP_CPL_BASE_LO) + i % n * 32)
        (s1.rd (qpA q Reg.HT_QP_CPL_RKEY)).toNat (leBytes 4 (leAt c.desc 4 4) ++ leBytes 4 idx ++ leBytes 1 (leAt c.desc 0 1) ++ leBytes 1 status ++
          leBytes 1 (if i / n % 2 = 0 then 1 else 0) ++ leBytes 1 0 ++ leBytes 4 detail ++ leBytes 8 r0 ++ leBytes 8 r1)).wr
        (qpA q Reg.HT_QP_CPL_PI) (BitVec.ofNat 32 (i + 1)))) ∧
  (∀ (c : HostCmd) (s : State), s.nextCmd 0x0D = some c → exec .nop s = .next (s.complete c.qp c.idx 0 0 0 0)) ∧
  (∀ (c : HostCmd) (t g : Nat) (ks : List Nat) (s : State), s.nextCmd 0x05 = some c → ks = c.mask 0x08 → t = c.arg 0x20 8 → g = c.arg 0x28 2 →
    (s.ucodeBusy = true → exec .runAt s = .next (s.completeWith c 9 0)) ∧
    (s.ucodeBusy = false → s.tideValid = false → exec .runAt s = .next (s.completeWith c 4 1)) ∧
    (s.ucodeBusy = false → s.tideValid = true → 2 ≤ s.thLevel → exec .runAt s = .next (s.completeWith c 4 2)) ∧
    (s.ucodeBusy = false → s.tideValid = true → s.thLevel < 2 → t < s.tideOf c.at_ + 60000 → exec .runAt s = .next (s.completeWith c 8 0)) ∧
    (s.ucodeBusy = false → s.tideValid = true → s.thLevel < 2 → s.tideOf c.at_ + 60000 ≤ t →
      (∀ r k, ks.findSome? (fun k => s.runReason k) = some (r, k) → exec .runAt s = .next (s.completeWith c 0x0A (r * 16777216 + k))) ∧
      (ks.findSome? (fun k => s.runReason k) = none →
        ((∃ k ∈ ks, s.wouldStart k = true) → s.segment? g = none → exec .runAt s = .next (s.completeWith c 4 (0x00030000 + g))) ∧
        (((∀ k ∈ ks, s.wouldStart k = false) ∨ (s.segment? g).isSome = true) → ∀ s1 s2 : State,
          s1 = ks.foldl (fun x k => x.modStrand k (fun y => { y with launch := some ⟨t, if x.wouldStart k then some g else none, c.qp⟩ })) s →
          s2 = (if s1.flag Reg.DEV_UPD_CTRL Fld.DEV_UPD_CTRL_ARM = true ∧ s1.flag Reg.DEV_UPD_CTRL Fld.DEV_UPD_CTRL_SRC = true ∧ s1.bound = none
            then { s1 with bound := some (c.qp, c.idx, t) } else s1) →
          exec .runAt s = .next (if ks = [] then s2.complete c.qp c.idx 0 0 t 0
            else s2.modCmd c.qp c.idx (fun (c : HostCmd) => { c with stage := CmdStage.strands ks 0 })))))) ∧
  (∀ (k : Nat) (s : State), ((s.entryOf k).placed = false → s.runReason k = some (1, k)) ∧
    ((s.entryOf k).placed = true → s.role k = 2 → s.runReason k = some (2, k))) ∧
  (∀ (bad : List Nat) (c : HostCmd) (s : State), s.nextCmd 0x07 = some c →
    (∀ n, c.arg 0x08 1 = 1 → n = min (min (c.arg 0x0C 4) (c.bufLen 0x18 / 64)) (s.fld Reg.FL_JRN_WP Fld.FL_JRN_WP_GROUPS - c.arg 0x10 4) →
      (n = 0 → exec (.resultFetch bad) s = .next (s.completeWith c 1 0)) ∧
      (∀ (data : List Byte) (s1 : State), n ≠ 0 → (List.range n).foldl (fun (x : List Byte × State) i =>
          (x.1 ++ (x.2.readGroup (c.arg 0x10 4 + i) (bad.contains (c.arg 0x10 4 + i))).1,
            (x.2.readGroup (c.arg 0x10 4 + i) (bad.contains (c.arg 0x10 4 + i))).2)) ([], s) = (data, s1) →
        exec (.resultFetch bad) s = .next (((s1.traffic data.length).writeOut c 0x18 data).complete c.qp c.idx 0 0 data.length n))) ∧
    (∀ k, c.arg 0x08 1 ≠ 1 → k = c.arg 0x09 1 →
      ((s.acq k).store = [] ∨ c.arg 0x0C 4 = 0 → exec (.resultFetch bad) s = .next (s.completeWith c 1 0)) ∧
      (∀ r rest l, (s.acq k).store = r :: rest → c.arg 0x0C 4 ≠ 0 → l = fitting (c.arg 0x0C 4) (c.bufLen 0x18) (r :: rest) →
        exec (.resultFetch bad) s = .next (if c.bufLen 0x18 < r.length then s.completeWith c 7 r.length
          else ((s.freeRecords k l.length l.flatten.length).writeOut c 0x18 l.flatten).complete c.qp c.idx 0 0 l.flatten.length l.length)))) ∧
  (∀ (c : HostCmd) (s : State), s.cmdAt 0x09 .received = some c →
    (batchEntries (c.arg 0x28 2) c.input = none → exec .regBatch s = .next (s.completeWith c 6 0)) ∧
    (∀ l need, batchEntries (c.arg 0x28 2) c.input = some l → need = 4 * ((l.filter (fun e => e.data.isNone)).map (fun e => e.count)).foldl (· + ·) 0 →
      (c.bufLen 0x18 < need → exec .regBatch s = .next (s.completeWith c 7 need)) ∧
      (∀ (b : BatchRun) (s1 s2 : State), need ≤ c.bufLen 0x18 → l.zipIdx.foldl (batchStep (qpMaster c.qp)) ({}, s) = (b, s1) →
        s2 = (if b.out = [] then s1 else s1.writeOut c 0x18 b.out) →
        exec .regBatch s = .next (match b.failed, b.deferred with
          | some i, _ => s2.complete c.qp c.idx 3 i b.done b.words
          | none, some i => s2.complete c.qp c.idx 2 i b.done b.words
          | none, none => s2.complete c.qp c.idx 0 0 b.done b.words)))) ∧
  (∀ (c : HostCmd) (s : State), s.nextCmd 0x0B = some c →
    (s.host.lockout.isSome = true → exec .helmClaim s = .next (s.completeWith c 0x0B 0)) ∧
    (s.host.lockout = none → s.helmKeyNow = none → exec .helmClaim s = .next ((s.keyFail c.qp).completeWith c 0x0B 0)) ∧
    (s.host.lockout = none → s.helmKeyNow = some ((c.desc.drop 8).take 16) →
      exec .helmClaim s = .next ((if c.lost then s else s.setFld (qpA c.qp Reg.HT_QP_PRIV) Fld.HT_QP_PRIV_PRIV 1).completeWith c 0 0)) ∧
    (∀ (key : List Byte) (misses : List Nat) (s1 : State), s.host.lockout = none → s.helmKeyNow = some key → (c.desc.drop 8).take 16 ≠ key →
      s1 = (s.keyFail c.qp).raise Reg.HT_STAT Fld.HT_STAT_KEY_FAIL →
      misses = s1.host.misses.filter (fun t => decide (s1.now < t + 1000000 * usU)) ++ [s1.now] →
      (misses.length < 4 → exec .helmClaim s = .next (({ s1 with host := { s1.host with misses := misses } }).completeWith c 0x0B 0)) ∧
      (4 ≤ misses.length → exec .helmClaim s = .next (((({ s1 with host := { s1.host with misses := [], lockout := some (s1.now + 10000000 * usU) } }).raise
        Reg.HT_STAT Fld.HT_STAT_LOCKOUT).fault srcHost 0 c.qp).completeWith c 0x0B 0)))) ∧
  (∀ (t : Nat) (s s1 : State), s.host.lockout = some t → s1 = s.advanceTo t →
    exec .lockoutEnd s = .next { s1 with host := { s1.host with lockout := none } }) ∧
  (∀ (s : State), (s.evtOpen = false ∨ s.evtSize ≤ s.evt.pi - s.evt.ci → exec .eventWrite s = .next s) ∧
    (s.evtOpen = true → s.evt.pi - s.evt.ci < s.evtSize →
      (s.evt.dropped ≠ 0 → exec .eventWrite s = .next (({ s with evt := { s.evt with dropped := 0, seq := s.evt.seq + 1 } }).writeEvent
        ⟨6, s.evt.seq % 4294967296, s.stamp, padTo 16 0 (leBytes 4 s.evt.dropped)⟩)) ∧
      (∀ e rest, s.evt.dropped = 0 → s.evt.held = e :: rest →
        exec .eventWrite s = .next (({ s with evt := { s.evt with held := rest } }).writeEvent e)))) ∧
  (∀ (r : ResultRec) (rest : List ResultRec) (s : State), s.host.results = r :: rest →
    ((s.flag Reg.HT_RES_CFG Fld.HT_RES_CFG_EN && s.qpRts (s.fld Reg.HT_RES_CFG Fld.HT_RES_CFG_QP)) = false →
      exec .resultWrite s = .next (s.raise Reg.HT_STAT Fld.HT_STAT_RES_WAIT)) ∧
    (∀ (n size i : Nat) (trunc : Bool) (body : List Byte) (s1 s2 : State),
      (s.flag Reg.HT_RES_CFG Fld.HT_RES_CFG_EN && s.qpRts (s.fld Reg.HT_RES_CFG Fld.HT_RES_CFG_QP)) = true → n = s.resSize →
      trunc = decide (n < 16 + ceilDiv r.payload.length 16 * 16) →
      body = (if trunc then r.payload.take (32 + (n - 48) / 8 * 8) else r.payload) → size = 16 + ceilDiv body.length 16 * 16 →
      s1 = s.resPad size → i = s1.host.resPi →
      s2 = { s1 with host := { s1.host with results := rest, resPi := i + size, resSeq := s1.host.resSeq + 1 } } →
      ((n - i % n < size ∨ s1.host.resCi + n < i + size) → exec .resultWrite s = .next (s1.raise Reg.HT_STAT Fld.HT_STAT_RES_WAIT)) ∧
      (size ≤ n - i % n → i + size ≤ s1.host.resCi + n → exec .resultWrite s = .next
        (((s2.resPut (i + 16) (padTo (size - 16) 0 body)).resPut i (resHeader body.length 1 (phaseBit i n) trunc (s1.host.resSeq % 4294967296))).resultWritten
          r.die (leAt r.payload 8 1))))) ∧
  (∀ (c : HostCmd) (ks left : List Nat) (s s1 : State), s.nextCmd 0x06 = some c → ks = c.mask 0x08 →
    s1 = (ks.filter (fun k => (s.strand k).launch.isSome)).foldl State.abortRun s → left = ks.filter (fun k => !s1.wouldStart k) →
    (left = [] → exec .halt s = .next (s1.complete c.qp c.idx 0 0 0 0)) ∧
    (left ≠ [] → exec .halt s = .next (left.foldl (fun x k => if x.wouldStart k then x else x.raiseStop k .hostHalt)
      (s1.modCmd c.qp c.idx (fun (c : HostCmd) => { c with stage := CmdStage.strands left 0 }))))) ∧
  (∀ (c : HostCmd) (s : State), s.nextCmd 0x0C = some c →
    (s.privileged (qpMaster c.qp) = false → exec .helmAck s = .next (s.completeWith c 0x0C 0)) ∧
    (s.privileged (qpMaster c.qp) = true → (s.flag Reg.FC_HELM_STATE Fld.FC_HELM_STATE_PENDING = false ∨
      s.rd Reg.FC_HELM_EPOCH ≠ BitVec.ofNat 32 (c.arg 0x08 4)) → exec .helmAck s = .next (s.completeWith c 4 1)) ∧
    (s.privileged (qpMaster c.qp) = true → s.flag Reg.FC_HELM_STATE Fld.FC_HELM_STATE_PENDING = true →
      s.rd Reg.FC_HELM_EPOCH = BitVec.ofNat 32 (c.arg 0x08 4) → exec .helmAck s = .next
        ((({ s with faults := { s.faults with helmDue := none } }).setFld Reg.FC_HELM_STATE Fld.FC_HELM_STATE_PENDING 0).completeWith c 0 0)))

/-- What the commands of the pattern memory (spec/07) leave as it was: nothing changes but the parts of the state and the registers named; every
other register reads as before. -/
def Obligations.MemoryFrames : Prop :=
  ∀ (s u : State), s.sound = true →
    (∀ (k : Fin 192) (seg : Nat) (gran : Nat) (read1 : Bool) (read2 : Bool) (t : Nat), exec (.granuleRefill k seg gran read1 read2 t) s = .next u →
      Frame [.now, .fresh, .strands, .qps, .ring, .mem, .faultQ, .sent] [Row.MC_STAT, Row.MC_CRC_CNT, Row.MC_CRC_LOC0, Row.MC_CRC_LOC1,
       Row.MC_STRM_STAT, Row.RG_LINK_ERR, Row.RG_CR_AVAIL, Row.RG_CR_SENT, Row.RG_CR_RET_TX, Row.RG_CR_HELD] s u) ∧
    (exec .requestPromotion s = .next u → Frame [.now, .mem] [] s u) ∧
    (∀ (c : Fin 8), exec (.prefetchWindow c) s = .next u → Frame [.now, .mem] [Row.MC_STRM_STAT] s u) ∧
    (∀ (c : Fin 8), exec (.retrainPauseStart c) s = .next u → Frame [.now, .mem] [Row.MC_STAT, Row.MC_RETRAIN_STAT] s u) ∧
    (∀ (c : Fin 8) (ok : Bool), exec (.retrainPauseEnd c ok) s = .next u → Frame [.now, .fresh, .mem, .faultQ] [] s u) ∧
    (exec .selfRefreshEntry s = .next u → Frame [.strands, .mem] [Row.MC_STAT, Row.MC_FREE] s u) ∧
    (exec .selfRefreshExit s = .next u → Frame [.mem] [] s u) ∧
    (exec .segWrite s = .next u →
      Frame [.qps, .host, .ring, .sent] [Row.RG_LINK_ERR, Row.RG_CR_AVAIL, Row.RG_CR_SENT, Row.RG_CR_RET_TX, Row.RG_CR_HELD, Row.HT_QP_STAT,
       Row.HT_QP_CPL_PI] s u) ∧
    (exec .segImageReceived s = .next u →
      Frame [.strands, .qps, .host, .ring, .mem, .sent] [Row.MC_FREE, Row.RG_LINK_ERR, Row.RG_CR_AVAIL, Row.RG_CR_SENT, Row.RG_CR_RET_TX,
       Row.RG_CR_HELD, Row.HT_QP_STAT, Row.HT_QP_CPL_PI] s u) ∧
    (exec .segFree s = .next u →
      Frame [.strands, .qps, .host, .ring, .mem, .sent] [Row.MC_FREE, Row.RG_LINK_ERR, Row.RG_CR_AVAIL, Row.RG_CR_SENT, Row.RG_CR_RET_TX,
       Row.RG_CR_HELD, Row.HT_QP_STAT, Row.HT_QP_CPL_PI] s u) ∧
    (exec .streamOpen s = .next u →
      Frame [.strands, .qps, .host, .ring, .mem, .sent] [Row.MC_BUDGET_USED, Row.MC_FREE, Row.MC_STRM_STAT, Row.MC_STRM_PROD, Row.MC_STRM_PULL,
       Row.MC_STRM_CONS, Row.RG_LINK_ERR, Row.RG_CR_AVAIL, Row.RG_CR_SENT, Row.RG_CR_RET_TX, Row.RG_CR_HELD, Row.HT_QP_STAT, Row.HT_QP_CPL_PI] s u) ∧
    (∀ (n : Fin 16), exec (.streamPull n) s = .next u →
      Frame [.now, .qps, .ring, .mem, .sent] [Row.RG_LINK_ERR, Row.RG_CR_AVAIL, Row.RG_CR_SENT, Row.RG_CR_RET_TX, Row.RG_CR_HELD] s u)

/-- What the commands of fail capture, the journal, the ledgers and the splice lanes (spec/08, spec/09) leave as it was: nothing changes but the
parts of the state and the registers named; every other register reads as before. -/
def Obligations.CaptureFrames : Prop :=
  ∀ (s u : State), s.sound = true →
    (∀ (k : Fin 192), exec (.failEvent k) s = .next u →
      Frame [.strands, .failPath, .splice, .faultQ] [Row.FL_STAT, Row.FL_OVF0, Row.FL_OVF1, Row.FL_SEEN_LO, Row.FL_SEEN_HI, Row.FL_COUNTED_ONLY_LO,
       Row.FL_COUNTED_ONLY_HI, Row.FL_PIN_FAIL] s u) ∧
    (exec .failSwitchAccept s = .next u → Frame [.strands, .failPath, .splice] [Row.FL_SPILLED_LO, Row.FL_SPILLED_HI] s u) ∧
    (exec .journalGroupTimeout s = .next u → Frame [.now, .failPath] [] s u) ∧
    (exec .journalGroupWritten s = .next u →
      Frame [.mem, .failPath, .splice, .faultQ] [Row.MC_STAT, Row.FL_DEV_STAT, Row.FL_JRN_WP, Row.FL_JRN_EVENTS_LO, Row.FL_JRN_EVENTS_HI,
       Row.FL_IMB0, Row.FL_IMB1, Row.FL_IMB_CNT, Row.FL_STAT, Row.FL_JRN_EV_LO, Row.FL_JRN_EV_HI] s u) ∧
    (exec .timeBase s = .next u → Frame [.now, .failPath] [] s u) ∧
    (∀ (k : Fin 192), exec (.endMark k) s = .next u →
      Frame [.fresh, .strands, .host, .mem, .failPath, .splice] [Row.SP_STAT, Row.SP_LOST, Row.SP_NODIE, Row.FL_FOLDED_LO, Row.FL_FOLDED_HI] s u) ∧
    (∀ (bad : List Nat), exec (.journalAuditDone bad) s = .next u →
      Frame [.failPath, .splice, .faultQ] [Row.FL_DEV_STAT, Row.FL_JRN_CRC, Row.FL_IMB0, Row.FL_IMB1, Row.FL_IMB_CNT, Row.FL_STAT] s u) ∧
    (exec .ledgerRead s = .next u →
      Frame [.qps, .host, .ring, .splice, .faultQ, .sent] [Row.FL_DEV_STAT, Row.FL_IMB0, Row.FL_IMB1, Row.FL_IMB_CNT, Row.RG_LINK_ERR,
       Row.RG_CR_AVAIL, Row.RG_CR_SENT, Row.RG_CR_RET_TX, Row.RG_CR_HELD, Row.SQ_STAT, Row.FL_STAT, Row.HT_QP_STAT, Row.HT_QP_CPL_PI] s u) ∧
    (∀ (l : Fin 16) (bad : List Nat), exec (.laneFold l bad) s = .next u →
      Frame [.mem, .splice, .faultQ] [Row.SP_STAT, Row.SP_CRC_CNT, Row.SP_CRC_LOC, Row.SP_LOST, Row.SP_NODIE, Row.FL_FOLDED_LO, Row.FL_FOLDED_HI] s u) ∧
    (∀ (slot : Nat) (good : Bool), exec (.contextFetched slot good) s = .next u →
      Frame [.mem, .splice, .faultQ] [Row.MC_STAT, Row.SP_STAT, Row.SP_CRC_CNT, Row.SP_CRC_LOC, Row.SP_LOST] s u) ∧
    (∀ (l : Fin 16) (d : Nat) (badGroups : List Nat) (badCtx : Bool), exec (.laneSpliceDone l d badGroups badCtx) s = .next u →
      Frame [.fresh, .host, .splice, .faultQ] [Row.FL_DEV_STAT, Row.FL_JRN_CRC, Row.FL_IMB0, Row.FL_IMB1, Row.FL_IMB_CNT, Row.SP_STAT,
       Row.SP_CRC_CNT, Row.SP_CRC_LOC, Row.SP_LOST] s u)

/-- What the commands of the ring (spec/15) leave as it was: nothing changes but the parts of the state and the registers named; every other register
reads as before. -/
def Obligations.RingFrames : Prop :=
  ∀ (s u : State), s.sound = true →
    (exec .activeTestChange s = .next u →
      Frame [.ring, .sent] [Row.MC_STAT, Row.MC_RING_ACTIVE, Row.MC_STRM_STAT, Row.RG_ACTIVE_LO, Row.RG_ACTIVE_HI] s u) ∧
    (∀ (p : Fin 2) (f : EthFrame) (at_ : Nat), exec (.frameForward p f at_) s = .next u →
      Frame [.now, .fresh, .host, .ring, .sent] [Row.RG_LINK_ERR, Row.RG_CR_AVAIL, Row.RG_CR_SENT, Row.RG_CR_RX, Row.RG_CR_RET_TX,
       Row.RG_CR_HELD] s u) ∧
    (∀ (p : Fin 2) (f : Adeo) (at_ : Nat), exec (.audit p f at_) s = .next u →
      Frame [.now, .ring, .faultQ, .sent] [Row.FL_DEV_STAT, Row.FL_IMB0, Row.FL_IMB1, Row.FL_IMB_CNT, Row.RG_STAT, Row.RG_LINK_ERR, Row.RG_AUDIT] s u) ∧
    (∀ (p : Fin 2) (f : Adeo) (at_ : Nat), exec (.heartbeat p f at_) s = .next u →
      Frame [.now, .fresh, .ring, .faultQ, .sent] [Row.RG_STAT, Row.RG_LINK_ERR] s u) ∧
    (∀ (p : Fin 2) (f : Adeo) (at_ : Nat), exec (.hbReply p f at_) s = .next u →
      Frame [.now, .ring, .faultQ, .sent] [Row.RG_STAT, Row.RG_LINK_ERR] s u) ∧
    (∀ (p : Fin 2) (f : Adeo) (at_ : Nat), exec (.credit p f at_) s = .next u →
      Frame [.now, .ring, .faultQ, .sent] [Row.RG_STAT, Row.RG_LINK_ERR, Row.RG_CR_AVAIL, Row.RG_CR_SENT, Row.RG_CR_RET_RX, Row.RG_CR_RET_TX,
       Row.RG_CR_HELD] s u) ∧
    (∀ (p : Fin 2) (f : Adeo) (at_ : Nat), exec (.active p f at_) s = .next u →
      Frame [.now, .ring, .faultQ, .sent] [Row.MC_STAT, Row.MC_RING_ACTIVE, Row.MC_STRM_STAT, Row.RG_STAT, Row.RG_ACTIVE_LO, Row.RG_ACTIVE_HI,
       Row.RG_LINK_ERR] s u) ∧
    (∀ (p : Fin 2) (f : Adeo) (at_ : Nat), exec (.link p f at_) s = .next u →
      Frame [.now, .ring, .tide, .faultQ, .sent] [Row.RG_STATE, Row.RG_STAT, Row.RG_LINK_ERR, Row.TL_STAT] s u) ∧
    (∀ (p : Fin 2) (f : Adeo) (at_ : Nat), exec (.linkInit p f at_) s = .next u →
      Frame [.now, .ring, .tide, .faultQ, .sent] [Row.RG_STATE, Row.RG_STAT, Row.RG_LINK, Row.RG_LINK_ERR, Row.RG_CR_CLINK, Row.RG_CR_AVAIL,
       Row.RG_CR_SENT, Row.RG_CR_RET_RX, Row.RG_CR_RX, Row.RG_CR_RET_TX, Row.RG_CR_HELD] s u) ∧
    (∀ (p : Fin 2), exec (.creditTimeout p) s = .next u → Frame [.now, .ring, .sent] [Row.RG_CR_RET_TX] s u) ∧
    (exec .auditGuard s = .next u → Frame [.now, .ring] [] s u) ∧
    (exec .auditInstant s = .next u →
      Frame [.now, .ring, .sent] [Row.RG_CR_AVAIL, Row.RG_CR_SENT, Row.RG_CR_RET_TX, Row.RG_CR_HELD, Row.RG_AUDIT] s u) ∧
    (exec .auditTimeout s = .next u → Frame [.now, .ring] [Row.RG_AUDIT] s u) ∧
    (exec .heartbeatSend s = .next u → Frame [.now, .ring, .sent] [] s u) ∧
    (∀ (p : Fin 2), exec (.hbMiss p) s = .next u →
      Frame [.now, .ring, .tide, .faultQ, .sent] [Row.RG_STATE, Row.RG_STAT, Row.RG_LINK, Row.RG_LINK_ERR, Row.RG_CR_RET_TX, Row.RG_CR_HELD,
       Row.TL_STAT] s u) ∧
    (∀ (p : Fin 2) (bypass : Bool) (at_ : Nat), exec (.pcsLockLoss p bypass at_) s = .next u →
      Frame [.now, .ring, .tide, .faultQ, .sent] [Row.RG_STATE, Row.RG_STAT, Row.RG_LINK, Row.RG_LINK_ERR, Row.RG_CR_RET_TX, Row.RG_CR_HELD,
       Row.TL_STAT] s u) ∧
    (∀ (p : Fin 2) (at_ : Nat), exec (.fecUncorrectable p at_) s = .next u →
      Frame [.now, .ring, .tide, .faultQ, .sent] [Row.RG_STATE, Row.RG_STAT, Row.RG_LINK, Row.RG_LINK_ERR, Row.RG_CR_RET_TX, Row.RG_CR_HELD,
       Row.TL_STAT] s u) ∧
    (∀ (p : Fin 2) (at_ : Nat), exec (.linkTrained p at_) s = .next u → Frame [.now, .ring, .sent] [Row.RG_LINK] s u) ∧
    (exec .activeRepeat s = .next u →
      Frame [.now, .ring, .sent] [Row.MC_STAT, Row.MC_RING_ACTIVE, Row.MC_STRM_STAT, Row.RG_ACTIVE_LO, Row.RG_ACTIVE_HI] s u) ∧
    (exec .activeExpiry s = .next u → Frame [.now, .ring] [Row.MC_STAT, Row.MC_RING_ACTIVE, Row.MC_STRM_STAT, Row.RG_ACTIVE_LO, Row.RG_ACTIVE_HI] s u)

/-- What the commands of tideline time, coves, supplies, the thermal monitor and the life store (spec/16 to spec/18, spec/21) leave as it was:
nothing changes but the parts of the state and the registers named; every other register reads as before. -/
def Obligations.SystemFrames : Prop :=
  ∀ (s u : State), s.sound = true →
    (∀ (ok : Bool) (at_ : Nat), exec (.cbCommitDone ok at_) s = .next u → Frame [.now, .store] [Row.CB_STAT, Row.CB_BUSY] s u) ∧
    (∀ (p : Fin 2) (f : Adeo) (at_ : Nat) (half : Bool) (stay : Nat), exec (.tideMark p f at_ half stay) s = .next u →
      Frame [.now, .tideOff, .fresh, .ring, .tide, .faultQ, .sent] [Row.RG_STAT, Row.RG_LINK_ERR, Row.TL_STATE, Row.TL_STAT, Row.TL_OFFSET,
       Row.TL_FREQ] s u) ∧
    (∀ (p : Fin 2) (f : Adeo) (at_ : Nat) (half : Bool) (stay : Nat), exec (.pdelayReq p f at_ half stay) s = .next u →
      Frame [.now, .ring, .faultQ, .sent] [Row.RG_STAT, Row.RG_LINK_ERR] s u) ∧
    (∀ (p : Fin 2) (f : Adeo) (at_ : Nat) (half : Bool), exec (.pdelayResp p f at_ half) s = .next u →
      Frame [.now, .ring, .faultQ, .sent] [Row.RG_STAT, Row.RG_LINK_ERR, Row.TL_PD0, Row.TL_PD1] s u) ∧
    (∀ (e : Nat) (w : Nat), exec (.tideMarkSend e w) s = .next u → Frame [.now, .fresh, .ring, .tide, .sent] [] s u) ∧
    (∀ (p : Fin 2) (out : Nat), exec (.pdelayReqSend p out) s = .next u → Frame [.now, .ring, .sent] [] s u) ∧
    (∀ (at_ : Nat) (half : Bool), exec (.ppsEdge at_ half) s = .next u →
      Frame [.now, .tideOff, .fresh, .tide, .faultQ] [Row.TL_STATE, Row.TL_STAT, Row.TL_OFFSET, Row.TL_FREQ] s u) ∧
    (∀ (w : Fin 3) (at_ : Nat), exec (.sourceAppear w at_) s = .next u → Frame [.now, .fresh, .tide] [Row.TL_STATE, Row.TL_FREQ] s u) ∧
    (∀ (w : Fin 3) (at_ : Nat), exec (.sourceLoss w at_) s = .next u →
      Frame [.now, .fresh, .tide, .faultQ] [Row.TL_STATE, Row.TL_STAT, Row.TL_FREQ] s u) ∧
    (exec .lockAchieved s = .next u → Frame [.now, .tide] [Row.TL_STATE, Row.TL_STAT] s u) ∧
    (exec .ageingUpdate s = .next u → Frame [.now, .fresh, .tide] [Row.TL_STAT, Row.TL_AGE_ACC] s u) ∧
    (exec .settleDone s = .next u → Frame [.tide] [Row.TL_STATE, Row.TL_ASYM] s u) ∧
    (exec .ebbTrim s = .next u → Frame [.now, .power] [] s u) ∧
    (exec .coveWakeAdmit s = .next u → Frame [.now, .power] [Row.CV_STATE] s u) ∧
    (∀ (c : Fin 16) (at_ : Nat), exec (.covePllLocked c at_) s = .next u → Frame [.now] [Row.CV_STATE] s u) ∧
    (∀ (c : Fin 16), exec (.lockFail c) s = .next u → Frame [.now, .faultQ, .power] [Row.DEV_STATE, Row.CV_STATE, Row.CV_STAT] s u) ∧
    (∀ (k : Fin 8) (at_ : Nat), exec (.supplyExcursion k at_) s = .next u → Frame [.now, .faultQ, .power] [] s u) ∧
    (exec .helmTimeout s = .next u → Frame [.now, .fresh, .ring, .faultQ, .faults, .sent] [Row.RG_STATE, Row.FC_HELM_STATE] s u) ∧
    (exec .thermalHaltDeadline s = .next u → Frame [.now, .thermal] [] s u) ∧
    (exec .scheduledFlush s = .next u → Frame [.now, .store] [] s u) ∧
    (∀ (ok : Bool) (at_ : Nat), exec (.lsCmdDone ok at_) s = .next u → Frame [.now, .store, .counts] [Row.LS_STAT, Row.LS_RES] s u) ∧
    (exec .calendarTick s = .next u → Frame [.now, .fresh, .store, .counts] [Row.LS_STAT, Row.LS_CAL_S, Row.LS_CAL_DAY] s u) ∧
    (exec .flushWaitEnd s = .next u → Frame [.now, .store] [] s u)

/-- What the commands of the host transport, placement, SPI reads and RC reads (spec/10, spec/14, spec/20) leave as it was: nothing changes but the
parts of the state and the registers named; every other register reads as before. -/
def Obligations.HostFrames : Prop :=
  ∀ (s u : State), s.sound = true →
    (∀ (m : Master) (addr : BitVec 24) (count : Nat) (tail : Fin 4), exec (.rcRead m addr count tail) s = .next u →
      Frame [.fresh, .sent, .regs] [Row.DEV_BUS_ERR, Row.PL_TAB_ADDR, Row.CB_ADDR, Row.CS_STAGE_ADDR, Row.LS_CNT_SEL, Row.LS_HIST_SEL,
       Row.LS_SETUP_ADDR, Row.WV_ADDR, Row.ED_ADDR, Row.SQ_BT_ADDR, Row.AG_TAB_ADDR, Row.SG_TAB_ADDR, Row.PM_STAT] s u) ∧
    (exec .resultWrite s = .next u →
      Frame [.qps, .host, .ring, .mem, .splice, .sent] [Row.SP_STAT, Row.SP_LAST, Row.SP_LOST, Row.SP_NODIE, Row.HT_STAT, Row.RG_LINK_ERR,
       Row.RG_CR_AVAIL, Row.RG_CR_SENT, Row.RG_CR_RET_TX, Row.RG_CR_HELD, Row.FL_FOLDED_LO, Row.FL_FOLDED_HI] s u) ∧
    (exec .workOrder s = .next u →
      Frame [.qps, .host, .ring, .place, .sent] [Row.PL_STAT, Row.PL_REFUSE, Row.RG_LINK_ERR, Row.RG_CR_AVAIL, Row.RG_CR_SENT, Row.RG_CR_RET_TX,
       Row.RG_CR_HELD, Row.HT_QP_STAT, Row.HT_QP_CPL_PI] s u) ∧
    (exec .workOrderReceived s = .next u →
      Frame [.qps, .host, .ring, .place, .sent] [Row.PL_STAT, Row.PL_REFUSE, Row.RG_LINK_ERR, Row.RG_CR_AVAIL, Row.RG_CR_SENT, Row.RG_CR_RET_TX,
       Row.RG_CR_HELD, Row.HT_QP_STAT, Row.HT_QP_CPL_PI] s u) ∧
    (exec .placementApplied s = .next u →
      Frame [.now, .fresh, .qps, .host, .ring, .place, .sent] [Row.MC_BUDGET_USED, Row.PL_STAT, Row.PL_ID, Row.PL_TIME, Row.RG_LINK_ERR,
       Row.RG_CR_AVAIL, Row.RG_CR_SENT, Row.RG_CR_RET_TX, Row.RG_CR_HELD, Row.LB_POS, Row.SQ_STATE, Row.HT_QP_STAT, Row.HT_QP_CPL_PI,
       Row.RE_STATE] s u) ∧
    (∀ (h : RoceHead) (payload : List Byte) (at_ : Nat), exec (.knock h payload at_) s = .next u →
      Frame [.now, .qps, .host, .ring, .evt, .sent] [Row.MC_STRM_PROD, Row.HT_STAT, Row.RG_LINK_ERR, Row.RG_CR_AVAIL, Row.RG_CR_SENT,
       Row.RG_CR_RET_TX, Row.RG_CR_HELD, Row.HT_QP_STAT, Row.HT_QP_CMD_PI, Row.HT_QP_CPL_CI] s u) ∧
    (∀ (at_ : Nat), exec (.doorbellPoll at_) s = .next u →
      Frame [.now, .qps, .ring, .sent] [Row.RG_LINK_ERR, Row.RG_CR_AVAIL, Row.RG_CR_SENT, Row.RG_CR_RET_TX, Row.RG_CR_HELD] s u) ∧
    (∀ (h : RoceHead) (va : BitVec 64) (rkey : Word) (len : Word) (at_ : Nat), exec (.windowRead h va rkey len at_) s = .next u →
      Frame [.now, .fresh, .qps, .host, .ring, .mem, .evt, .sent, .regs] [Row.DEV_BUS_ERR, Row.PL_TAB_ADDR, Row.CB_ADDR, Row.HT_STAT,
       Row.HT_EVT_LOST, Row.RG_LINK_ERR, Row.RG_CR_AVAIL, Row.RG_CR_SENT, Row.RG_CR_RET_TX, Row.RG_CR_HELD, Row.CS_STAGE_ADDR, Row.LS_CNT_SEL,
       Row.LS_HIST_SEL, Row.LS_SETUP_ADDR, Row.WV_ADDR, Row.ED_ADDR, Row.SQ_BT_ADDR, Row.AG_TAB_ADDR, Row.SG_TAB_ADDR, Row.HT_QP_CTRL,
       Row.HT_QP_STAT, Row.HT_QP_PRIV, Row.PM_STAT] s u) ∧
    (∀ (h : RoceHead) (data : List Byte) (at_ : Nat), exec (.rdmaReadResponse h data at_) s = .next u →
      Frame [.now, .fresh, .strands, .qps, .host, .ring, .mem, .faultQ, .evt, .sent] [Row.MC_STAT, Row.MC_CRC_CNT, Row.MC_CRC_LOC0, Row.MC_CRC_LOC1,
       Row.MC_STRM_STAT, Row.MC_STRM_PROD, Row.MC_STRM_PULL, Row.HT_STAT, Row.RG_LINK_ERR, Row.RG_CR_AVAIL, Row.RG_CR_SENT, Row.RG_CR_RET_TX,
       Row.RG_CR_HELD, Row.HT_QP_STAT, Row.HT_QP_CMD_PI, Row.HT_QP_CPL_CI] s u) ∧
    (∀ (h : RoceHead) (at_ : Nat), exec (.rdmaAck h at_) s = .next u →
      Frame [.now, .qps, .host, .ring, .sent] [Row.HT_STAT, Row.RG_LINK_ERR, Row.RG_CR_AVAIL, Row.RG_CR_SENT, Row.RG_CR_RET_TX, Row.RG_CR_HELD] s u) ∧
    (∀ (h : RoceHead) (at_ : Nat), exec (.nakRcvd h at_) s = .next u →
      Frame [.now, .qps, .host, .mem, .evt, .sent] [Row.HT_STAT, Row.HT_EVT_LOST, Row.HT_QP_CTRL, Row.HT_QP_STAT, Row.HT_QP_PRIV] s u) ∧
    (∀ (q : Fin 64), exec (.ackTimeout q) s = .next u →
      Frame [.now, .qps, .host, .ring, .mem, .evt, .sent] [Row.HT_STAT, Row.HT_EVT_LOST, Row.RG_LINK_ERR, Row.RG_CR_AVAIL, Row.RG_CR_SENT,
       Row.RG_CR_RET_TX, Row.RG_CR_HELD, Row.HT_QP_CTRL, Row.HT_QP_STAT, Row.HT_QP_PRIV] s u) ∧
    (∀ (p : Fin 2) (enable : BitVec 8) (quanta : List (BitVec 16)) (at_ : Nat), exec (.pfcFrame p enable quanta at_) s = .next u →
      Frame [.now, .host, .ring, .sent] [Row.RG_CR_AVAIL, Row.RG_CR_SENT, Row.RG_CR_RET_TX, Row.RG_CR_HELD] s u) ∧
    (exec .commandStart s = .next u →
      Frame [.qps, .host, .ring, .sent] [Row.RG_LINK_ERR, Row.RG_CR_AVAIL, Row.RG_CR_SENT, Row.RG_CR_RET_TX, Row.RG_CR_HELD, Row.HT_QP_STAT,
       Row.HT_QP_CMD_CI, Row.HT_QP_CPL_PI] s u) ∧
    (exec .runAt s = .next u →
      Frame [.bound, .strands, .qps, .host, .ring, .sent] [Row.RG_LINK_ERR, Row.RG_CR_AVAIL, Row.RG_CR_SENT, Row.RG_CR_RET_TX, Row.RG_CR_HELD,
       Row.HT_QP_STAT, Row.HT_QP_CPL_PI] s u) ∧
    (∀ (bad : List Nat), exec (.resultFetch bad) s = .next u →
      Frame [.fresh, .acqs, .qps, .host, .ring, .mem, .faultQ, .sent] [Row.MC_STAT, Row.FL_DEV_STAT, Row.FL_JRN_CRC, Row.RG_LINK_ERR,
       Row.RG_CR_AVAIL, Row.RG_CR_SENT, Row.RG_CR_RET_TX, Row.RG_CR_HELD, Row.AQ_FILL, Row.HT_QP_STAT, Row.HT_QP_CPL_PI] s u) ∧
    (exec .helmClaim s = .next u →
      Frame [.qps, .host, .ring, .faultQ, .sent] [Row.HT_STAT, Row.HT_KEY_FAIL, Row.RG_LINK_ERR, Row.RG_CR_AVAIL, Row.RG_CR_SENT, Row.RG_CR_RET_TX,
       Row.RG_CR_HELD, Row.HT_QP_STAT, Row.HT_QP_CPL_PI, Row.HT_QP_PRIV] s u) ∧
    (exec .lockoutEnd s = .next u → Frame [.now, .host] [] s u) ∧
    (exec .helmAck s = .next u →
      Frame [.qps, .host, .ring, .faults, .sent] [Row.RG_LINK_ERR, Row.RG_CR_AVAIL, Row.RG_CR_SENT, Row.RG_CR_RET_TX, Row.RG_CR_HELD,
       Row.FC_HELM_STATE, Row.HT_QP_STAT, Row.HT_QP_CPL_PI] s u) ∧
    (exec .nop s = .next u →
      Frame [.qps, .host, .ring, .sent] [Row.RG_LINK_ERR, Row.RG_CR_AVAIL, Row.RG_CR_SENT, Row.RG_CR_RET_TX, Row.RG_CR_HELD, Row.HT_QP_STAT,
       Row.HT_QP_CPL_PI] s u) ∧
    (exec .eventWrite s = .next u →
      Frame [.qps, .ring, .evt, .sent] [Row.RG_LINK_ERR, Row.RG_CR_AVAIL, Row.RG_CR_SENT, Row.RG_CR_RET_TX, Row.RG_CR_HELD] s u) ∧
    (∀ (waddr : BitVec 22) (words : Nat) (cut : Bool), exec (.spiRead waddr words cut) s = .next u →
      Frame [.fresh, .sent, .regs] [Row.DEV_BUS_ERR, Row.PL_TAB_ADDR, Row.CB_ADDR, Row.CS_STAGE_ADDR, Row.SPI_STAT, Row.LS_CNT_SEL, Row.LS_HIST_SEL,
       Row.LS_SETUP_ADDR, Row.WV_ADDR, Row.ED_ADDR, Row.SQ_BT_ADDR, Row.AG_TAB_ADDR, Row.SG_TAB_ADDR, Row.PM_STAT] s u) ∧
    (∀ (waddr : BitVec 22) (words : Nat) (whole : Bool), exec (.spiBadCmd waddr words whole) s = .next u →
      Frame [.sent] [Row.SPI_STAT, Row.SPI_LAST] s u) ∧
    (∀ (p : Fin 2), exec (.pfcPauseExpiry p) s = .next u →
      Frame [.now, .host, .ring, .sent] [Row.RG_CR_AVAIL, Row.RG_CR_SENT, Row.RG_CR_RET_TX, Row.RG_CR_HELD] s u)

/-- What the commands of pins, converters, acquisition, PMUs and sine generators (spec/03, spec/04, spec/11, spec/12) leave as it was: nothing
changes but the parts of the state and the registers named; every other register reads as before. -/
def Obligations.PinFrames : Prop :=
  ∀ (s u : State), s.sound = true →
    (exec .holdRefresh s = .next u → Frame [.now, .pins, .power] [] s u) ∧
    (∀ (bad : List (Fin 1536)), exec (.bwEngageCheck bad) s = .next u → Frame [.now, .trips, .forced, .faultQ] [] s u) ∧
    (∀ (n : Fin 1536), exec (.driveEvent n) s = .next u → Frame [.now, .pins] [Row.WV_STAT] s u) ∧
    (∀ (n : Fin 1536), exec (.strobeEvent n) s = .next u →
      Frame [.now, .strands, .pins, .tdcs] [Row.WV_STAT, Row.SQ_STAT, Row.FL_MASKED, Row.PS_BW_STAT, Row.PS_STAT, Row.TD_MISS] s u) ∧
    (∀ (n : Fin 1536), exec (.pmuConnectClose n) s = .next u → Frame [.now, .pmus] [] s u) ∧
    (∀ (n : Fin 1536), exec (.pmuDisconnectOff n) s = .next u → Frame [.now, .pmus] [] s u) ∧
    (∀ (n : Fin 1536) (outside : Bool), exec (.pmuRangeLimitMove n outside) s = .next u → Frame [.now, .pmus] [Row.PM_STAT] s u) ∧
    (∀ (n : Fin 1536), exec (.pmuRangeOldOpen n) s = .next u → Frame [.now, .pmus] [] s u) ∧
    (∀ (n : Fin 1536), exec (.pmuRangeDone n) s = .next u → Frame [.pmus] [] s u) ∧
    (∀ (n : Fin 1536) (raw : Int), exec (.conversionEnd n raw) s = .next u →
      Frame [.now, .fresh, .convs, .acqs, .mem] [Row.AQ_STAT, Row.AQ_REC, Row.AQ_RECNUM, Row.AQ_FILL, Row.AQ_OVF, Row.AD_DATA, Row.AD_STAT] s u) ∧
    (∀ (k : Fin 192), exec (.sineSample k) s = .next u → Frame [.strands, .pmus, .convs] [Row.SG_STAT] s u) ∧
    (∀ (n : Fin 1536) (m1 : Nat) (m2 : Nat), exec (.tdcCalDone n m1 m2) s = .next u →
      Frame [.fresh, .tdcs, .evt] [Row.HT_STAT, Row.HT_EVT_LOST, Row.TD_STAT, Row.TD_MEAN_LO, Row.TD_MEAN_HI, Row.TD_STD, Row.TD_MIN, Row.TD_MAX,
       Row.TD_SCALE] s u) ∧
    (∀ (n : Fin 1536), exec (.tdcTimeout n) s = .next u →
      Frame [.now, .tdcs, .evt] [Row.HT_STAT, Row.HT_EVT_LOST, Row.TD_STAT, Row.TD_MEAN_LO, Row.TD_MEAN_HI, Row.TD_STD, Row.TD_MIN, Row.TD_MAX] s u) ∧
    (∀ (k : Fin 192), exec (.aqCmpSample k) s = .next u →
      Frame [.now, .fresh, .acqs, .mem] [Row.AQ_STAT, Row.AQ_REC, Row.AQ_RECNUM, Row.AQ_FILL, Row.AQ_OVF] s u) ∧
    (∀ (k : Fin 192) (ns : Nat), exec (.aqRearmDone k ns) s = .next u →
      Frame [.now, .fresh, .acqs] [Row.AQ_STAT, Row.AQ_REC, Row.AQ_RECNUM, Row.AQ_DEAD, Row.AQ_FILL] s u) ∧
    (∀ (k : Fin 192), exec (.aqSpillWritten k) s = .next u → Frame [.fresh, .acqs, .mem] [] s u)
end

