-- ==== Sys2Proof/Laws/Store.lean ====
section
/-! SUPPORT. Laws of sparse stores: a read after a write, and the canonical form, which every operation keeps. -/

namespace Sys2Proof.Machine

set_option linter.all false

variable {α : Type}

theorem Store.get?_put_same (m : Store α) (a : Nat) (v : α) : Store.get? (Store.put m a v) a = some v := by
  induction m with
  | nil => simp [Store.put, Store.get?]
  | cons e t ih =>
    obtain ⟨k, w⟩ := e
    simp only [Store.put]
    split
    · simp [Store.get?]
    · split
      · simp [Store.get?]
      · simp [Store.get?, *]

theorem Store.get?_put_other (m : Store α) {a b : Nat} (v : α) (h : b ≠ a) : Store.get? (Store.put m a v) b = Store.get? m b := by
  induction m with
  | nil => simp [Store.put, Store.get?, h]
  | cons e t ih =>
    obtain ⟨k, w⟩ := e
    simp only [Store.put]
    split
    · simp [Store.get?, h]
    · split
      · rename_i hk; subst hk; simp [Store.get?, h]
      · simp [Store.get?, ih]

theorem Store.get?_del_same (m : Store α) (a : Nat) : Store.get? (Store.del m a) a = none := by
  induction m with
  | nil => rfl
  | cons e t ih =>
    obtain ⟨k, w⟩ := e
    simp only [Store.del]
    split
    · exact ih
    · simp [Store.get?, *]

theorem Store.get?_del_other (m : Store α) {a b : Nat} (h : b ≠ a) : Store.get? (Store.del m a) b = Store.get? m b := by
  induction m with
  | nil => rfl
  | cons e t ih =>
    obtain ⟨k, w⟩ := e
    simp only [Store.del]
    split
    · rename_i hk; subst hk; simp [Store.get?, h, ih]
    · simp [Store.get?, ih]

/-- A read after a canonical write gives the value written. -/
theorem Store.getD_putD_same [DecidableEq α] (m : Store α) (a : Nat) (v d : α) : Store.getD (Store.putD m a v d) a d = v := by
  unfold Store.getD Store.putD
  split
  · rename_i h; subst h; simp [Store.get?_del_same]
  · simp [Store.get?_put_same]

/-- A canonical write leaves every other key alone. -/
theorem Store.getD_putD_other [DecidableEq α] (m : Store α) {a b : Nat} (v d e : α) (h : b ≠ a) :
    Store.getD (Store.putD m a v d) b e = Store.getD m b e := by
  unfold Store.getD Store.putD
  split
  · rw [Store.get?_del_other m h]
  · rw [Store.get?_put_other m v h]

/-! ### The canonical form -/

theorem Store.rising_weaken {m : Store α} {lo : Nat} (h : Store.rising (some lo) m = true) : Store.rising none m = true := by
  cases m with
  | nil => rfl
  | cons e t => obtain ⟨k, w⟩ := e; simp [Store.rising] at h ⊢; exact h.2

theorem Store.rising_lower {m : Store α} {lo hi : Nat} (h : Store.rising (some hi) m = true) (hl : lo ≤ hi) :
    Store.rising (some lo) m = true := by
  cases m with
  | nil => rfl
  | cons e t => obtain ⟨k, w⟩ := e; simp [Store.rising] at h ⊢; exact ⟨by omega, h.2⟩

theorem Store.rising_put (m : Store α) (a : Nat) (v : α) (lo : Option Nat) (h : Store.rising lo m = true)
    (hl : ∀ l, lo = some l → l < a) : Store.rising lo (Store.put m a v) = true := by
  induction m generalizing lo with
  | nil => cases lo <;> simp_all [Store.put, Store.rising]
  | cons e t ih =>
    obtain ⟨k, w⟩ := e
    have hk : Store.rising (some k) t = true := by cases lo <;> simp_all [Store.rising]
    have hh : ∀ l, lo = some l → l < k := by intro l e; subst e; simp_all [Store.rising]
    simp only [Store.put]
    split
    · rename_i hak
      cases lo <;> simp_all [Store.rising]
    · split
      · rename_i hak; subst hak
        cases lo <;> simp_all [Store.rising]
      · have := ih (some k) hk (by intro l e; cases e; omega)
        cases lo <;> simp_all [Store.rising]

theorem Store.rising_del (m : Store α) (a : Nat) (lo : Option Nat) (h : Store.rising lo m = true) :
    Store.rising lo (Store.del m a) = true := by
  induction m generalizing lo with
  | nil => cases lo <;> rfl
  | cons e t ih =>
    obtain ⟨k, w⟩ := e
    have hk : Store.rising (some k) t = true := by cases lo <;> simp_all [Store.rising]
    simp only [Store.del]
    split
    · refine ih lo ?_
      cases lo with
      | none => exact Store.rising_weaken hk
      | some l => exact Store.rising_lower hk (by simp [Store.rising] at h; omega)
    · have := ih (some k) hk
      cases lo <;> simp_all [Store.rising]

theorem Store.rising_filter (m : Store α) (p : Nat × α → Bool) (lo : Option Nat) (h : Store.rising lo m = true) :
    Store.rising lo (m.filter p) = true := by
  induction m generalizing lo with
  | nil => cases lo <;> rfl
  | cons e t ih =>
    obtain ⟨k, w⟩ := e
    have hk : Store.rising (some k) t = true := by cases lo <;> simp_all [Store.rising]
    rw [List.filter_cons]
    split
    · have := ih (some k) hk
      cases lo <;> simp_all [Store.rising]
    · refine ih lo ?_
      cases lo with
      | none => exact Store.rising_weaken hk
      | some l => exact Store.rising_lower hk (by simp [Store.rising] at h; omega)

theorem Store.mem_put {m : Store α} {a : Nat} {v : α} {e : Nat × α} (h : e ∈ Store.put m a v) : e = (a, v) ∨ e ∈ m := by
  induction m with
  | nil => simp [Store.put] at h; exact .inl h
  | cons x t ih =>
    obtain ⟨k, w⟩ := x
    simp only [Store.put] at h
    split at h
    · simp at h ⊢; grind
    · split at h
      · simp at h ⊢; grind
      · simp at h ⊢
        rcases h with h | h
        · grind
        · rcases ih h with h | h <;> grind

theorem Store.mem_del {m : Store α} {a : Nat} {e : Nat × α} (h : e ∈ Store.del m a) : e ∈ m := by
  induction m with
  | nil => exact h
  | cons x t ih =>
    obtain ⟨k, w⟩ := x
    simp only [Store.del] at h
    split at h
    · exact List.mem_cons_of_mem _ (ih h)
    · simp at h ⊢
      rcases h with h | h
      · exact .inl h
      · exact .inr (ih h)

/-- A canonical write keeps the canonical form. -/
theorem Store.wf_putD [DecidableEq α] {d : Nat → α} {m : Store α} (a : Nat) (v : α) (h : Store.wf d m = true) :
    Store.wf d (Store.putD m a v (d a)) = true := by
  simp only [Store.wf, Bool.and_eq_true, List.all_eq_true, decide_eq_true_eq] at h ⊢
  unfold Store.putD
  split
  · exact ⟨Store.rising_del _ _ _ h.1, fun e he => h.2 e (Store.mem_del he)⟩
  · rename_i hv
    refine ⟨Store.rising_put _ _ _ _ h.1 (by simp), fun e he => ?_⟩
    rcases Store.mem_put he with he | he
    · subst he; exact hv
    · exact h.2 e he

/-- Dropping entries keeps the canonical form. -/
theorem Store.wf_filter [DecidableEq α] {d : Nat → α} {m : Store α} (p : Nat × α → Bool) (h : Store.wf d m = true) :
    Store.wf d (m.filter p) = true := by
  simp only [Store.wf, Bool.and_eq_true, List.all_eq_true, decide_eq_true_eq] at h ⊢
  exact ⟨Store.rising_filter _ _ _ h.1, fun e he => h.2 e (List.mem_filter.1 he).1⟩

theorem Store.get?_filter (m : Store α) (p : Nat → Bool) (a : Nat) :
    Store.get? (m.filter (fun e => p e.1)) a = if p a then Store.get? m a else none := by
  induction m with
  | nil => simp [Store.get?]
  | cons e t ih =>
    obtain ⟨k, v⟩ := e
    by_cases hk : p k = true
    · rw [List.filter_cons_of_pos (by exact hk)]
      unfold Store.get?
      by_cases ha : a = k
      · subst ha; simp [hk]
      · rw [if_neg ha, if_neg ha, ih]
    · rw [List.filter_cons_of_neg (by exact hk), ih]
      by_cases ha : a = k
      · subst ha
        rw [if_neg hk, if_neg hk]
      · rw [show Store.get? ((k, v) :: t) a = Store.get? t a from if_neg ha]

end Sys2Proof.Machine
end

