-- ==== Sys2Proof/Laws/Access.lean ====
section
/-! SUPPORT. Register accesses (Machine/RegAccess.lean): the map at an address of a bank, and what a write of one word that a master may
make comes to. -/

namespace Sys2Proof.Machine

set_option linter.all false

/-! ### The map -/

theorem blockOf_strand (k : Fin 192) {o : Nat} (h : o < 0x1000) : blockOf (strandA k o) = .strand k := by
  have hk := k.isLt
  unfold blockOf strandA
  rw [if_neg (by omega), if_neg (by omega), if_pos (by omega)]
  dsimp only
  rw [if_pos (by omega)]
  congr 1
  omega

theorem blockOf_pin (n : Fin 1536) {o : Nat} (h : o < 0x100) : blockOf (pinA n o) = .pin n := by
  have hn := n.isLt
  unfold blockOf pinA
  rw [if_neg (by omega), if_neg (by omega), if_pos (by omega)]
  dsimp only
  rw [if_neg (by omega), if_pos (by omega)]
  congr 1
  omega

theorem blockOf_cove (c : Fin 16) {o : Nat} (h : o < 0x8000) : blockOf (coveA c o) = .cove c := by
  have hc := c.isLt
  unfold blockOf coveA
  rw [if_neg (by omega), if_pos (by omega)]
  congr 1
  omega

theorem blockOf_qp (q : Fin 64) {o : Nat} (h : o < 0x200) : blockOf (qpA q o) = .qp q := by
  have hq := q.isLt
  unfold blockOf qpA
  rw [if_pos (by omega)]
  congr 1
  omega

theorem regAt_strand (k : Fin 192) {o : Nat} (h : o < 0x1000) : regAt (strandA k o) = findReg strandRows o := by
  unfold regAt
  rw [blockOf_strand k h]
  show findReg strandRows (strandA k o - (0x100000 + k * 0x2000)) = _
  congr 1
  unfold strandA
  omega

theorem regAt_pin (n : Fin 1536) {o : Nat} (h : o < 0x100) : regAt (pinA n o) = findReg pinRows o := by
  unfold regAt
  rw [blockOf_pin n h]
  show findReg pinRows (pinA n o - (0x100000 + (n / 8) * 0x2000 + 0x1000 + (n % 8) * 0x100)) = _
  congr 1
  unfold pinA
  omega

theorem regAt_cove (c : Fin 16) {o : Nat} (h : o < 0x8000) : regAt (coveA c o) = findReg coveRows o := by
  unfold regAt
  rw [blockOf_cove c h]
  show findReg coveRows (coveA c o - (0x80000 + c * 0x8000)) = _
  congr 1
  unfold coveA
  omega

theorem regAt_qp (q : Fin 64) {o : Nat} (h : o < 0x200) : regAt (qpA q o) = findReg qpRows o := by
  unfold regAt
  rw [blockOf_qp q h]
  show findReg qpRows (qpA q o - (0x10400 + q * 0x200)) = _
  congr 1
  unfold qpA
  omega

/-! ### A write of one word -/

theorem normalOf_alias (al : Alias) {a : Nat} (h : a < 0x400000) : normalOf (aliasBase al + a) = a := by
  unfold normalOf
  cases al <;> simp only [aliasBase] <;> omega

theorem aliasOf_alias (al : Alias) {a : Nat} (h : a < 0x400000) : aliasOf (aliasBase al + a) = al := by
  unfold aliasOf
  cases al
  · rw [show (aliasBase .normal + a) / 0x400000 = 0 by simp only [aliasBase]; omega]; rfl
  · rw [show (aliasBase .set + a) / 0x400000 = 1 by simp only [aliasBase]; omega]; rfl
  · rw [show (aliasBase .clear + a) / 0x400000 = 2 by simp only [aliasBase]; omega]; rfl
  · rw [show (aliasBase .toggle + a) / 0x400000 = 3 by simp only [aliasBase]; omega]; rfl

/-- A write of one word that executes at once: the shadow of an update-buffered register, or the register's own effect; and the answer
to the master. -/
theorem busWrite_any {s : State} {m : Master} {al : Alias} {a : Nat} {d : Word} {present : Option Bool} {h : RegHit} (hm : s.mayWrite m a = true)
    (ha : a < 0x400000 ∧ a % 4 = 0) (hr : regAt a = some h) (hal : h.row.aliased = true ∨ al = .normal)
    (hw : h.row.w ≠ 0 ∨ h.row.wo ≠ 0) (hs : snapSpec a = none)
    (hl : a ≠ Reg.DEV_LOCK ∨ (al ≠ .clear ∧ al ≠ .toggle)) :
    s.busWrite m (aliasBase al + a) [d] 0 present =
      (match h.row.group with
       | some _ => s.writeShadow a (newValue h.row al (s.shadowOf a) d)
       | none => s.writeReg m al a d (newValue h.row al (s.regValue a).1 d) present).send (.accepted m) := by
  have hn := normalOf_alias al ha.1
  have hao := aliasOf_alias al ha.1
  simp only [State.mayWrite, hr, Bool.and_eq_true] at hm
  obtain ⟨⟨⟨h1, h2⟩, h3⟩, h4, h5⟩ := hm
  have hra : regAlias (aliasBase al + a) = some h := by
    unfold regAlias
    rw [hn, hr, hao]
    rcases hal with hal | hal
    · simp [hal]
    · simp [hal]
  have hbad : s.badWord (aliasBase al + a) (some d) = false := by
    unfold State.badWord
    rw [hn, hra, hs]
    have : (aliasBase al + a) % 4 = 0 := by cases al <;> simp only [aliasBase] <;> omega
    simp only [this, h2]
    rcases hw with hw | hw <;> simp [hw]
  have htest : s.testedAt (aliasBase al + a) = none := by
    have e : s.testedAt (aliasBase al + a) = s.testedAt a := by
      unfold State.testedAt
      rw [hn, show normalOf a = a from by unfold normalOf; omega]
    rw [e]
    simpa using h3
  have hlim : ¬ burstLimit m ≤ 0 := by cases m <;> simp [burstLimit]
  have hburst : s.burstBad m [aliasBase al + a] (some [d]) (aliasBase al + a) 0 = none := by
    unfold State.burstBad
    simp [hlim, hbad, State.holdFull, htest]
  have hword : s.writeWord m (aliasBase al + a) d present =
      (match h.row.group with
       | some _ => s.writeShadow a (newValue h.row al (s.shadowOf a) d)
       | none => s.writeReg m al a d (newValue h.row al (s.regValue a).1 d) present) := by
    unfold State.writeWord
    rw [hra]
    dsimp only
    rw [hn, hao]
    rw [if_neg (by revert h4; cases h.row.priv <;> cases s.privileged m <;> simp)]
    rw [if_neg (by revert h5; cases h.row.lock <;> simp)]
    rw [if_neg (by rintro ⟨x, y⟩; rcases hl with hl | hl; · exact hl x
                   · rcases y with y | y; · exact hl.1 y
                     · exact hl.2 y)]
    all_goals (cases h.row.group <;> rfl)
  unfold State.busWrite
  rw [if_pos h1]
  have hws : wordsFrom (aliasBase al + a) [d].length = [aliasBase al + a] := by simp [wordsFrom]
  rw [hws]
  unfold State.writeBurst
  rw [hburst]
  simp [htest, hword, State.report]

/-- A register that is not update-buffered. -/
theorem busWrite_one {s : State} {m : Master} {al : Alias} {a : Nat} {d : Word} {present : Option Bool} {h : RegHit} (hm : s.mayWrite m a = true)
    (ha : a < 0x400000 ∧ a % 4 = 0) (hr : regAt a = some h) (hal : h.row.aliased = true ∨ al = .normal)
    (hw : h.row.w ≠ 0 ∨ h.row.wo ≠ 0) (hs : snapSpec a = none) (hg : h.row.group = none)
    (hl : a ≠ Reg.DEV_LOCK ∨ (al ≠ .clear ∧ al ≠ .toggle)) :
    s.busWrite m (aliasBase al + a) [d] 0 present =
      (s.writeReg m al a d (newValue h.row al (s.regValue a).1 d) present).send (.accepted m) := by
  rw [busWrite_any hm ha hr hal hw hs hl, hg]

theorem busWord_one {s : State} {m : Master} {al : Alias} {a : Nat} {d : Word} {h : RegHit} (hm : s.mayWrite m a = true)
    (ha : a < 0x400000 ∧ a % 4 = 0) (hr : regAt a = some h) (hal : h.row.aliased = true ∨ al = .normal)
    (hw : h.row.w ≠ 0 ∨ h.row.wo ≠ 0) (hs : snapSpec a = none) (hg : h.row.group = none)
    (hl : a ≠ Reg.DEV_LOCK ∨ (al ≠ .clear ∧ al ≠ .toggle)) :
    s.busWord m al a d = (s.writeReg m al a d (newValue h.row al (s.regValue a).1 d) none).send (.accepted m) := by
  have e : s.busWord m al a d = s.busWrite m (aliasBase al + a) [d] 0 none := by cases al <;> rfl
  rw [e]
  exact busWrite_one hm ha hr hal hw hs hg hl

/-- A register whose bits are all writable takes the data as the address space has it. -/
theorem newValue_full {row : RegRow} (al : Alias) (old d : Word) (h : row.w = 0xFFFFFFFF) : newValue row al old d = aliasValue al old d := by
  unfold newValue
  rw [h]
  rw [show BitVec.ofNat 32 0xFFFFFFFF = BitVec.allOnes 32 from rfl]
  dsimp only
  rw [BitVec.not_allOnes, BitVec.and_allOnes, BitVec.and_zero, BitVec.zero_or]

/-! ### The same, bank by bank -/

theorem snapSpec_strand (k : Fin 192) {o : Nat} (h : o < 0x1000) (ho : o ≠ Reg.SQ_SNAP) : snapSpec (strandA k o) = none := by
  unfold snapSpec
  rw [blockOf_strand k h, if_neg (by unfold strandA Reg.DEV_SNAP; omega), if_neg (by unfold strandA; omega)]
  dsimp only
  rw [if_neg (by unfold strandA; omega)]

theorem snapSpec_pin (n : Fin 1536) {o : Nat} (h : o < 0x100) : snapSpec (pinA n o) = none := by
  unfold snapSpec
  rw [blockOf_pin n h, if_neg (by unfold pinA Reg.DEV_SNAP; omega), if_neg (by unfold pinA; omega)]

theorem snapSpec_cove (c : Fin 16) {o : Nat} (h : o < 0x8000) (ho : o ≠ Reg.CV_SNAP) : snapSpec (coveA c o) = none := by
  unfold snapSpec
  rw [blockOf_cove c h, if_neg (by unfold coveA Reg.DEV_SNAP; omega), if_neg (by unfold coveA; omega)]
  dsimp only
  rw [if_neg (by unfold coveA; omega)]

theorem snapSpec_qp (q : Fin 64) {o : Nat} (h : o < 0x200) : snapSpec (qpA q o) = none := by
  unfold snapSpec
  rw [blockOf_qp q h, if_neg (by unfold qpA Reg.DEV_SNAP; omega), if_neg (by unfold qpA; omega)]

/-- A device-level register of the control block. -/
theorem busWord_control {s : State} {m : Master} {al : Alias} {a : Nat} {d : Word} {h : RegHit} (hm : s.mayWrite m a = true)
    (ha : a < 0x10000 ∧ a % 4 = 0) (hr : regAt a = some h) (hal : h.row.aliased = true ∨ al = .normal)
    (hw : h.row.w ≠ 0 ∨ h.row.wo ≠ 0) (hs : snapSpec a = none) (hg : h.row.group = none)
    (hl : a ≠ Reg.DEV_LOCK ∨ (al ≠ .clear ∧ al ≠ .toggle)) :
    s.busWord m al a d = (s.controlWrite m al a d (newValue h.row al (s.regValue a).1 d)).send (.accepted m) := by
  have hb : blockOf a = .dev := by
    unfold blockOf
    rw [if_neg (by omega), if_neg (by omega), if_neg (by omega), if_neg (by omega)]
  rw [busWord_one hm ⟨by omega, ha.2⟩ hr hal hw hs hg hl]
  unfold State.writeReg
  rw [hs, hb]
  dsimp only
  rw [if_pos ha.1]

/-- Any other device-level register. -/
theorem busWord_device {s : State} {m : Master} {al : Alias} {a : Nat} {d : Word} {h : RegHit} (hm : s.mayWrite m a = true)
    (ha : a < 0x400000 ∧ a % 4 = 0) (hb : blockOf a = .dev ∧ 0x10000 ≤ a) (hr : regAt a = some h) (hal : h.row.aliased = true ∨ al = .normal)
    (hw : h.row.w ≠ 0 ∨ h.row.wo ≠ 0) (hs : snapSpec a = none) (hg : h.row.group = none) :
    s.busWord m al a d = (s.deviceWrite al a d (newValue h.row al (s.regValue a).1 d)).send (.accepted m) := by
  rw [busWord_one hm ha hr hal hw hs hg (.inl (by unfold Reg.DEV_LOCK; omega))]
  unfold State.writeReg
  rw [hs, hb.1]
  dsimp only
  rw [if_neg (by omega)]

/-- What a device-level register that is not computed when it is read holds as it reads. -/
theorem regValue_dev {s : State} {a : Nat} (hb : blockOf a = .dev) (h : s.deviceView a = s.rd a) : (s.regValue a).1 = s.rd a := by
  unfold State.regValue
  rw [hb]
  exact h

/-- A register of a strand. -/
theorem busWord_strand {s : State} {m : Master} {al : Alias} {k : Fin 192} {o : Nat} {d : Word} {h : RegHit}
    (hm : s.mayWrite m (strandA k o) = true) (ho : o < 0x1000 ∧ o % 4 = 0 ∧ o ≠ Reg.SQ_SNAP) (hr : findReg strandRows o = some h)
    (hal : h.row.aliased = true ∨ al = .normal) (hw : h.row.w ≠ 0 ∨ h.row.wo ≠ 0) (hg : h.row.group = none) :
    s.busWord m al (strandA k o) d =
      (s.strandWrite al k o d (newValue h.row al (s.regValue (strandA k o)).1 d)).send (.accepted m) := by
  have hk := k.isLt
  have hs := snapSpec_strand k ho.1 ho.2.2
  rw [busWord_one hm (by unfold strandA; omega) ((regAt_strand k ho.1).trans hr) hal hw hs hg (.inl (by unfold strandA Reg.DEV_LOCK; omega))]
  unfold State.writeReg
  rw [hs, blockOf_strand k ho.1]
  dsimp only
  rw [show strandA k o - (Block.strand k).base = o by unfold strandA; show _ - (0x100000 + k.val * 0x2000) = _; omega]

/-- A register of a pin. -/
theorem busWrite_pin {s : State} {m : Master} {al : Alias} {n : Fin 1536} {o : Nat} {d : Word} {h : RegHit} {present : Option Bool}
    (hm : s.mayWrite m (pinA n o) = true) (ho : o < 0x100 ∧ o % 4 = 0) (hr : findReg pinRows o = some h)
    (hal : h.row.aliased = true ∨ al = .normal) (hw : h.row.w ≠ 0 ∨ h.row.wo ≠ 0) (hg : h.row.group = none) :
    s.busWrite m (aliasBase al + pinA n o) [d] 0 present =
      (s.pinWrite n o d (newValue h.row al (s.regValue (pinA n o)).1 d) present).send (.accepted m) := by
  have hn := n.isLt
  have hs := snapSpec_pin n ho.1
  rw [busWrite_one hm (by unfold pinA; omega) ((regAt_pin n ho.1).trans hr) hal hw hs hg (.inl (by unfold pinA Reg.DEV_LOCK; omega))]
  unfold State.writeReg
  rw [hs, blockOf_pin n ho.1]
  dsimp only
  rw [show pinA n o - (Block.pin n).base = o by
    unfold pinA; show _ - (0x100000 + (n.val / 8) * 0x2000 + 0x1000 + (n.val % 8) * 0x100) = _; omega]

theorem busWord_pin {s : State} {m : Master} {al : Alias} {n : Fin 1536} {o : Nat} {d : Word} {h : RegHit}
    (hm : s.mayWrite m (pinA n o) = true) (ho : o < 0x100 ∧ o % 4 = 0) (hr : findReg pinRows o = some h)
    (hal : h.row.aliased = true ∨ al = .normal) (hw : h.row.w ≠ 0 ∨ h.row.wo ≠ 0) (hg : h.row.group = none) :
    s.busWord m al (pinA n o) d =
      (s.pinWrite n o d (newValue h.row al (s.regValue (pinA n o)).1 d) none).send (.accepted m) := by
  have e : s.busWord m al (pinA n o) d = s.busWrite m (aliasBase al + pinA n o) [d] 0 none := by cases al <;> rfl
  rw [e]
  exact busWrite_pin hm ho hr hal hw hg

/-- A register of a queue pair. -/
theorem busWord_qp {s : State} {m : Master} {al : Alias} {q : Fin 64} {o : Nat} {d : Word} {h : RegHit}
    (hm : s.mayWrite m (qpA q o) = true) (ho : o < 0x200 ∧ o % 4 = 0) (hr : findReg qpRows o = some h)
    (hal : h.row.aliased = true ∨ al = .normal) (hw : h.row.w ≠ 0 ∨ h.row.wo ≠ 0) (hg : h.row.group = none) :
    s.busWord m al (qpA q o) d =
      (s.qpWrite q (qpA q o) d (newValue h.row al (s.regValue (qpA q o)).1 d)).send (.accepted m) := by
  have hq := q.isLt
  have hs := snapSpec_qp q ho.1
  rw [busWord_one hm (by unfold qpA; omega) ((regAt_qp q ho.1).trans hr) hal hw hs hg (.inl (by unfold qpA Reg.DEV_LOCK; omega))]
  unfold State.writeReg
  rw [hs, blockOf_qp q ho.1]

/-- CV_CMD of a cove. -/
theorem busWord_cvCmd {s : State} {m : Master} {c : Fin 16} {d : Word} (hm : s.mayWrite m (coveA c Reg.CV_CMD) = true) :
    s.busWord m .normal (coveA c Reg.CV_CMD) d = (s.cvCommand c d).send (.accepted m) := by
  have hc := c.isLt
  have hs := snapSpec_cove c (o := Reg.CV_CMD) (by decide) (by decide)
  rw [busWord_one hm (by unfold coveA Reg.CV_CMD; omega) (h := ⟨_, _⟩) ((regAt_cove c (by decide)).trans rfl) (.inr rfl) (by decide) hs rfl
    (.inl (by unfold coveA Reg.DEV_LOCK; omega))]
  unfold State.writeReg
  rw [hs, blockOf_cove c (by decide)]
  dsimp only
  rw [if_pos rfl]

end Sys2Proof.Machine
end

