-- ==== Sys2Proof/Laws/After.lean ====
section
/-! SUPPORT. What every operation keeps (Safety.lean, After): the rules by which the lemmas of the other files compose. -/

namespace Sys2Proof.Machine

set_option linter.all false

theorem After.refl {s : State} (h : s.sound = true) : After s s := ⟨Nat.le_refl _, rfl, List.prefix_refl _, Nat.le_refl _, h⟩

theorem After.trans {a b c : State} (h : After a b) (k : After b c) : After a c :=
  ⟨Nat.le_trans h.1 k.1, k.2.1.trans h.2.1, h.2.2.1.trans k.2.2.1, Nat.le_trans h.2.2.2.1 k.2.2.2.1, k.2.2.2.2⟩

/-- A change of fields that After does not speak of. -/
theorem After.congr {b s t : State} (h : After b s) (h1 : t.now = s.now) (h2 : t.pending = s.pending) (h3 : t.sent = s.sent)
    (h4 : t.fresh = s.fresh) (h5 : t.regs = s.regs) (h6 : t.counts = s.counts) : After b t := by
  obtain ⟨a1, a2, a3, a4, a5⟩ := h
  exact ⟨h1 ▸ a1, h2 ▸ a2, h3 ▸ a3, h4 ▸ a4, by simpa [State.sound, State.regsCanonical, State.countsFit, h5, h6] using a5⟩

/-! ### The operations that After does speak of -/

theorem After.wr {b s : State} (a : Nat) (v : Word) (h : After b s) : After b (s.wr a v) := by
  obtain ⟨a1, a2, a3, a4, a5⟩ := h
  refine ⟨a1, a2, a3, a4, ?_⟩
  simp only [State.sound, State.regsCanonical, State.countsFit, Bool.and_eq_true] at a5 ⊢
  exact ⟨Store.wf_putD _ _ a5.1, a5.2⟩

theorem After.advanceTo {b s : State} (t : Nat) (h : After b s) : After b (s.advanceTo t) :=
  ⟨Nat.le_trans h.1 (Nat.le_max_left _ _), h.2.1, h.2.2.1, h.2.2.2.1, h.2.2.2.2⟩

theorem After.free {b s : State} (h : After b s) : After b s.free.2 :=
  ⟨h.1, h.2.1, h.2.2.1, Nat.le_trans h.2.2.2.1 (Nat.le_succ _), h.2.2.2.2⟩

theorem After.send {b s : State} (o : Output) (h : After b s) : After b (s.send o) :=
  ⟨h.1, h.2.1, h.2.2.1.trans (List.prefix_append _ _), h.2.2.2.1, h.2.2.2.2⟩

theorem After.life {b s : State} (i : Nat) (h : After b s) : After b (s.life i) := by
  unfold State.life
  split
  · exact After.wr _ _ h
  · rename_i hn
    obtain ⟨a1, a2, a3, a4, a5⟩ := h
    refine ⟨a1, a2, a3, a4, ?_⟩
    simp only [State.sound, State.regsCanonical, State.countsFit, Bool.and_eq_true, List.all_eq_true, decide_eq_true_eq] at a5 ⊢
    refine ⟨a5.1, fun e he => ?_⟩
    unfold Store.putD at he
    split at he
    · exact a5.2 e (Store.mem_del he)
    · rcases Store.mem_put he with he | he
      · subst he; simp only; omega
      · exact a5.2 e he

/-- Pending counts that go are counts no more. -/
theorem After.counts {b s : State} {l : Store Nat} (h : After b s) (hl : ∀ e ∈ l, e ∈ s.counts) : After b { s with counts := l } := by
  obtain ⟨a1, a2, a3, a4, a5⟩ := h
  refine ⟨a1, a2, a3, a4, ?_⟩
  simp only [State.sound, State.regsCanonical, State.countsFit, Bool.and_eq_true, List.all_eq_true] at a5 ⊢
  exact ⟨a5.1, fun e he => a5.2 e (hl e he)⟩

/-- The state that the flow's read point leaves. -/
def Found.st : Found → State
  | .stopped s => s
  | .word s _ => s
  | .hold s => s
  | .limit s => s

/-- A reset that keeps the clock, the queue, what was sent and the free values counted, some registers, and all or none of the counts. -/
theorem After.reset {b s t : State} (p : Nat × Word → Bool) (h : After b s) (h1 : t.now = s.now) (h2 : t.pending = s.pending)
    (h3 : t.sent = s.sent) (h4 : t.fresh = s.fresh) (h5 : t.regs = s.regs.filter p) (h6 : t.counts = s.counts ∨ t.counts = []) :
    After b t := by
  obtain ⟨a1, a2, a3, a4, a5⟩ := h
  refine ⟨h1 ▸ a1, h2 ▸ a2, h3 ▸ a3, h4 ▸ a4, ?_⟩
  simp only [State.sound, State.regsCanonical, State.countsFit, Bool.and_eq_true] at a5 ⊢
  rw [h5]
  refine ⟨Store.wf_filter p a5.1, ?_⟩
  rcases h6 with h6 | h6 <;> rw [h6]
  · exact a5.2
  · rfl

theorem After.coreReset {b s : State} (keep : Nat → Bool) (h : After b s) : After b (s.coreReset keep) :=
  After.reset (fun e => keep e.1) h rfl rfl rfl rfl rfl (.inl rfl)

end Sys2Proof.Machine
end

