-- ==== Sys2Proof/Laws/Fields.lean ====
section
/-! SUPPORT. Laws of bit fields and of the registers: a field reads as it was written and leaves every other field alone. -/

namespace Sys2Proof

set_option linter.all false

/-- Bit `i` of a field. -/
theorem Field.testBit_get (f : Field) (w : Word) (i : Nat) : (f.get w).testBit i = (decide (i < f.width) && w.getLsbD (f.lo + i)) := by
  unfold Field.get
  rw [Nat.testBit_mod_two_pow, Nat.testBit_shiftRight]
  rfl

/-- Bit `i` of a word after a field is put. -/
theorem Field.getLsbD_put (f : Field) (w : Word) (v i : Nat) :
    (f.put w v).getLsbD i = (decide (i < 32) && (if f.lo ≤ i ∧ i < f.lo + f.width then v.testBit (i - f.lo) else w.getLsbD i)) := by
  unfold Field.put
  simp only [BitVec.getLsbD_or, BitVec.getLsbD_and, BitVec.getLsbD_not, BitVec.getLsbD_ofNat, Nat.testBit_shiftLeft,
    Nat.testBit_two_pow_sub_one, Nat.testBit_mod_two_pow]
  by_cases h : i < 32
  · by_cases h1 : f.lo ≤ i
    · by_cases h2 : i < f.lo + f.width
      · have : i - f.lo < f.width := by omega
        simp [h, h1, h2, this]
      · have : ¬ (i - f.lo < f.width) := by omega
        simp [h, h1, h2, this]
    · simp [h, h1]
  · simp [h, BitVec.getLsbD_of_ge w i (by omega)]

/-- A field reads as it was put. -/
theorem Field.get_put_same (f : Field) (w : Word) (v : Nat) (h : f.lo + f.width ≤ 32) : f.get (f.put w v) = v % 2 ^ f.width := by
  apply Nat.eq_of_testBit_eq
  intro i
  rw [Field.testBit_get, Field.getLsbD_put, Nat.testBit_mod_two_pow]
  by_cases hi : i < f.width
  · have h1 : f.lo + i < 32 := by omega
    simp [hi, h1]
  · simp [hi]

/-- A field is left alone when another one is put. -/
theorem Field.get_put_other (f g : Field) (w : Word) (v : Nat) (h : f.lo + f.width ≤ g.lo ∨ g.lo + g.width ≤ f.lo) :
    f.get (g.put w v) = f.get w := by
  apply Nat.eq_of_testBit_eq
  intro i
  rw [Field.testBit_get, Field.testBit_get, Field.getLsbD_put]
  by_cases hi : i < f.width
  · rw [if_neg (by omega)]
    by_cases h32 : f.lo + i < 32
    · simp [h32]
    · simp [h32, BitVec.getLsbD_of_ge w (f.lo + i) (by omega)]
  · simp [hi]

theorem Field.get_or (f : Field) (a b : Word) : f.get (a ||| b) = f.get a ||| f.get b := by
  apply Nat.eq_of_testBit_eq
  intro i
  rw [Nat.testBit_or, Field.testBit_get, Field.testBit_get, Field.testBit_get, BitVec.getLsbD_or]
  cases decide (i < f.width) <;> simp

theorem Field.get_zero (f : Field) : f.get 0 = 0 := by
  unfold Field.get
  simp

end Sys2Proof

namespace Sys2Proof.Machine

/-- A field whose bits are all writable takes the data of a write through normal space. -/
theorem Field.get_newValue {row : RegRow} (f : Field) (old d : Word)
    (h : (List.range f.width).all (fun i => row.w.testBit (f.lo + i)) = true) : f.get (newValue row .normal old d) = f.get d := by
  apply Nat.eq_of_testBit_eq
  intro i
  rw [Field.testBit_get, Field.testBit_get]
  by_cases hi : i < f.width
  · have := List.all_eq_true.mp h i (List.mem_range.mpr hi)
    unfold newValue
    simp only [BitVec.getLsbD_or, BitVec.getLsbD_and, BitVec.getLsbD_not, BitVec.getLsbD_ofNat, aliasValue, this]
    by_cases h32 : f.lo + i < 32
    · simp [h32]
    · simp [h32, BitVec.getLsbD_of_ge d (f.lo + i) (by omega)]
  · simp [hi]

/-- Reading the register written. -/
theorem rd_wr_same (s : State) (a : Nat) (v : Word) : (s.wr a v).rd a = v := Store.getD_putD_same _ _ _ _

/-- Reading another register than the one written. -/
theorem rd_wr_other (s : State) {a b : Nat} (v : Word) (h : b ≠ a) : (s.wr a v).rd b = s.rd b := Store.getD_putD_other _ _ _ _ h

theorem fld_setFld_eq (s : State) (a : Nat) (f : Field) (v : Nat) (h : f.lo + f.width ≤ 32) : (s.setFld a f v).fld a f = v % 2 ^ f.width := by
  unfold State.fld State.setFld
  rw [rd_wr_same, Field.get_put_same _ _ _ h]

/-- Another field of the same register. -/
theorem fld_setFld_field (s : State) (a : Nat) {f g : Field} (v : Nat) (h : f.lo + f.width ≤ g.lo ∨ g.lo + g.width ≤ f.lo) :
    (s.setFld a g v).fld a f = s.fld a f := by
  unfold State.fld State.setFld
  rw [rd_wr_same, Field.get_put_other _ _ _ _ h]

/-- A field of another register. -/
theorem fld_setFld_ne (s : State) {a b : Nat} (f g : Field) (v : Nat) (h : b ≠ a) : (s.setFld a g v).fld b f = s.fld b f := by
  unfold State.fld State.setFld
  rw [rd_wr_other _ _ h]

theorem fld_wr_ne (s : State) {a b : Nat} (f : Field) (v : Word) (h : b ≠ a) : (s.wr a v).fld b f = s.fld b f := by
  unfold State.fld
  rw [rd_wr_other _ _ h]

theorem flag_setFld_ne (s : State) {a b : Nat} (f g : Field) (v : Nat) (h : b ≠ a) : (s.setFld a g v).flag b f = s.flag b f := by
  unfold State.flag
  rw [fld_setFld_ne _ _ _ _ h]

theorem flag_setFld_field (s : State) (a : Nat) {f g : Field} (v : Nat) (h : f.lo + f.width ≤ g.lo ∨ g.lo + g.width ≤ f.lo) :
    (s.setFld a g v).flag a f = s.flag a f := by
  unfold State.flag
  rw [fld_setFld_field _ _ _ h]

@[simp] theorem rd_send (s : State) (o : Output) (a : Nat) : (s.send o).rd a = s.rd a := rfl
@[simp] theorem fld_send (s : State) (o : Output) (a : Nat) (f : Field) : (s.send o).fld a f = s.fld a f := rfl

/-- The new value of a field whose bits are all writable, of a register written through normal space. -/
theorem get_newWord {s : State} {a : Nat} {d : Word} {h : RegHit} (f : Field) (hr : regAt a = some h)
    (hf : (List.range f.width).all (fun i => h.row.w.testBit (f.lo + i)) = true) : f.get (s.newWord .normal a d) = f.get d := by
  unfold State.newWord
  rw [hr]
  exact Field.get_newValue f _ d hf

/-- Writable bits of a register written through normal space. -/
theorem and_newWord {s : State} {a : Nat} {d k : Word} {h : RegHit} (hr : regAt a = some h) (hk : k &&& BitVec.ofNat 32 h.row.w = k) :
    s.newWord .normal a d &&& k = d &&& k := by
  unfold State.newWord
  rw [hr]
  dsimp only
  unfold newValue
  rw [← hk]
  ext i hi
  simp only [BitVec.getElem_and, BitVec.getElem_or, BitVec.getElem_not, aliasValue]
  cases k[i] <;> cases (BitVec.ofNat 32 h.row.w)[i] <;> simp

/-! ### Resets -/

/-- What a register reads as after a reset of everything outside the always-on domain. -/
theorem rd_coreReset (s : State) (keep : Nat → Bool) (a : Nat) : (s.coreReset keep).rd a = if keep a then s.rd a else resetOf a := by
  unfold State.rd State.coreReset Store.getD
  rw [Store.get?_filter]
  split <;> rfl

end Sys2Proof.Machine
end

