-- ==== Sys2Proof/Laws/Within.lean ====
section
/-! SUPPORT. What every operation keeps and what it may change (Safety.lean, Frame.lean): the rules by which the lemmas of the files
`…Within.lean` compose. The lemma of a definition names, as a mask, all that it may change. -/

namespace Sys2Proof.Machine

set_option linter.all false

/-! ### Masks -/

/-- `m` allows what a mask allows that it contains. -/
theorem Mask.bit {m n i : Nat} (h : m ||| n = m) (hi : n.testBit i = true) : m.testBit i = true := by
  rw [← h, Nat.testBit_or, hi, Bool.or_true]

theorem Mask.sub {m n k : Nat} (h : m ||| n = m) (hk : n ||| k = n) : m ||| k = m := by
  rw [← h, Nat.or_assoc, hk]

/-- The register at `a` is one that the mask `m` allows to change. -/
def Touch (m a : Nat) : Prop := m.testBit Part.regs.bit = true ∨ ∃ i, m.testBit (40 + i) = true ∧ Row.has i a

theorem Touch.any {m a : Nat} (h : m.testBit 33 = true) : Touch m a := .inl h

theorem Touch.row {m a : Nat} (i : Nat) (hm : m.testBit (40 + i) = true) (h : Row.has i a) : Touch m a := .inr ⟨i, hm, h⟩

theorem Row.has_of {i a : Nat} {b : Bank} {r : RegRow} (k j : Nat) (h : Row.find i = some (b, r)) (hi : i ≠ 520) (hj : j < r.count)
    (ha : a = b.addr k (r.off + r.stride * j)) : Row.has i a := by
  unfold Row.has
  rw [if_neg hi, h]
  exact ⟨k, j, hj, ha⟩

theorem Touch.cal {m a : Nat} (hm : m.testBit 560 = true) (h : 0x400000 ≤ a) : Touch m a :=
  Touch.row 520 hm (by unfold Row.has; exact h)

/-! ### Keeps -/

theorem Part.same_refl (s : State) (p : Part) : p.same s s := by cases p <;> first | rfl | trivial

theorem Part.same_trans {s t u : State} {p : Part} (h : p.same s t) (k : p.same t u) : p.same s u := by
  cases p <;> first | exact k.trans h | trivial

theorem Keeps.refl (m : Nat) (s : State) : Keeps m s s := ⟨fun p => .inr (p.same_refl s), fun _ => .inr (.inr rfl)⟩

theorem Keeps.trans {m : Nat} {s t u : State} (h : Keeps m s t) (k : Keeps m t u) : Keeps m s u := by
  refine ⟨fun p => ?_, fun a => ?_⟩
  · rcases h.1 p with h | h
    · exact .inl h
    · rcases k.1 p with k | k
      · exact .inl k
      · exact .inr (Part.same_trans h k)
  · rcases h.2 a with h | h | h
    · exact .inl h
    · exact .inr (.inl h)
    · rcases k.2 a with k | k | k
      · exact .inl k
      · exact .inr (.inl k)
      · exact .inr (.inr (k.trans h))

/-- A frame from a mask that allows no more. -/
theorem Keeps.frame {m : Nat} {s t : State} {ps : List Part} {rs : List Nat} (h : Keeps m s t) (hm : maskOf ps rs ||| m = maskOf ps rs) :
    Frame ps rs s t := by
  refine ⟨fun p => (h.1 p).imp_left (fun k => Mask.bit hm k), fun a => ?_⟩
  rcases h.2 a with h | ⟨i, hi, ha⟩ | h
  · exact .inl (Mask.bit hm h)
  · exact .inr (.inl ⟨i, Mask.bit hm hi, ha⟩)
  · exact .inr (.inr h)

/-! ### Within -/

/-- `s` comes after `b`, and only what `m` allows has changed. -/
def Within (m : Nat) (b s : State) : Prop := After b s ∧ Keeps m b s

theorem Within.refl (m : Nat) {s : State} (h : s.sound = true) : Within m s s := ⟨After.refl h, Keeps.refl m s⟩

theorem Within.trans {m : Nat} {a b c : State} (h : Within m a b) (k : Within m b c) : Within m a c := ⟨h.1.trans k.1, h.2.trans k.2⟩

/-- A change of parts that the mask allows and of which After does not speak. -/
theorem Within.congr {m : Nat} {b s t : State} (h : Within m b s) (h1 : t.now = s.now) (h2 : t.pending = s.pending) (h3 : t.sent = s.sent)
    (h4 : t.fresh = s.fresh) (h5 : t.regs = s.regs) (h6 : t.counts = s.counts) (hk : ∀ p : Part, m.testBit p.bit = true ∨ p.same s t) :
    Within m b t :=
  ⟨h.1.congr h1 h2 h3 h4 h5 h6, h.2.trans ⟨hk, fun a => .inr (.inr (by unfold State.rd; rw [h5]))⟩⟩

/-- The same, as a structure update. -/
theorem Within.mk {m : Nat} {b s : State}
    {v_tideOff : Int} {v_shadows : Store Word} {v_captured : Store Word} {v_bound : Option (Nat × Nat × Nat)} {v_strands : Store
    Strand} {v_pins : Store Pin} {v_pmus : Store Pmu} {v_convs : Store Conv} {v_tdcs : Store Tdc} {v_acqs : Store Acq} {v_calRuns :
    Store CalRun} {v_calZero : Store Int} {v_qps : Store Qp} {v_host : HostPath} {v_ring : Ring} {v_tide : Tide} {v_trips : List Trip}
    {v_mem : Mem} {v_failPath : FailPath} {v_splice : Splice} {v_place : Place} {v_forced : Forced} {v_faultQ : List FaultMsg} {v_evt
    : EvtPath} {v_power : Power} {v_faults : Faults} {v_thermal : Thermal} {v_ctl : CtlStore} {v_store : Life}
    (h : Within m b s)
    (hk :
      (m.testBit 1 = true ∨ v_tideOff = s.tideOff) ∧ (m.testBit 3 = true ∨ v_shadows = s.shadows) ∧ (m.testBit 4 = true ∨ v_captured =
      s.captured) ∧ (m.testBit 5 = true ∨ v_bound = s.bound) ∧ (m.testBit 6 = true ∨ v_strands = s.strands) ∧ (m.testBit 7 = true ∨
      v_pins = s.pins) ∧ (m.testBit 8 = true ∨ v_pmus = s.pmus) ∧ (m.testBit 9 = true ∨ v_convs = s.convs) ∧ (m.testBit 10 = true ∨
      v_tdcs = s.tdcs) ∧ (m.testBit 11 = true ∨ v_acqs = s.acqs) ∧ (m.testBit 12 = true ∨ v_calRuns = s.calRuns) ∧ (m.testBit 13 =
      true ∨ v_calZero = s.calZero) ∧ (m.testBit 14 = true ∨ v_qps = s.qps) ∧ (m.testBit 15 = true ∨ v_host = s.host) ∧ (m.testBit 16
      = true ∨ v_ring = s.ring) ∧ (m.testBit 17 = true ∨ v_tide = s.tide) ∧ (m.testBit 18 = true ∨ v_trips = s.trips) ∧ (m.testBit 19
      = true ∨ v_mem = s.mem) ∧ (m.testBit 20 = true ∨ v_failPath = s.failPath) ∧ (m.testBit 21 = true ∨ v_splice = s.splice) ∧
      (m.testBit 22 = true ∨ v_place = s.place) ∧ (m.testBit 23 = true ∨ v_forced = s.forced) ∧ (m.testBit 24 = true ∨ v_faultQ =
      s.faultQ) ∧ (m.testBit 25 = true ∨ v_evt = s.evt) ∧ (m.testBit 26 = true ∨ v_power = s.power) ∧ (m.testBit 27 = true ∨ v_faults
      = s.faults) ∧ (m.testBit 28 = true ∨ v_thermal = s.thermal) ∧ (m.testBit 29 = true ∨ v_ctl = s.ctl) ∧ (m.testBit 30 = true ∨
      v_store = s.store)) :
    Within m b {
      now := s.now, tideOff := v_tideOff, fresh := s.fresh, regs := s.regs, shadows := v_shadows, captured := v_captured, bound :=
      v_bound, strands := v_strands, pins := v_pins, pmus := v_pmus, convs := v_convs, tdcs := v_tdcs, acqs := v_acqs, calRuns :=
      v_calRuns, calZero := v_calZero, qps := v_qps, host := v_host, ring := v_ring, tide := v_tide, trips := v_trips, mem := v_mem,
      failPath := v_failPath, splice := v_splice, place := v_place, forced := v_forced, faultQ := v_faultQ, evt := v_evt, power :=
      v_power, faults := v_faults, thermal := v_thermal, ctl := v_ctl, store := v_store, counts := s.counts, sent := s.sent, pending
      := s.pending } := by
  obtain ⟨
    h_tideOff, h_shadows, h_captured, h_bound, h_strands, h_pins, h_pmus, h_convs, h_tdcs, h_acqs, h_calRuns, h_calZero, h_qps,
    h_host, h_ring, h_tide, h_trips, h_mem, h_failPath, h_splice, h_place, h_forced, h_faultQ, h_evt, h_power, h_faults, h_thermal,
    h_ctl, h_store⟩ := hk
  refine h.congr rfl rfl rfl rfl rfl rfl (fun p => ?_)
  cases p with
  | tideOff => exact h_tideOff
  | shadows => exact h_shadows
  | captured => exact h_captured
  | bound => exact h_bound
  | strands => exact h_strands
  | pins => exact h_pins
  | pmus => exact h_pmus
  | convs => exact h_convs
  | tdcs => exact h_tdcs
  | acqs => exact h_acqs
  | calRuns => exact h_calRuns
  | calZero => exact h_calZero
  | qps => exact h_qps
  | host => exact h_host
  | ring => exact h_ring
  | tide => exact h_tide
  | trips => exact h_trips
  | mem => exact h_mem
  | failPath => exact h_failPath
  | splice => exact h_splice
  | place => exact h_place
  | forced => exact h_forced
  | faultQ => exact h_faultQ
  | evt => exact h_evt
  | power => exact h_power
  | faults => exact h_faults
  | thermal => exact h_thermal
  | ctl => exact h_ctl
  | store => exact h_store
  | now | fresh | counts | sent => exact .inr rfl
  | regs => exact .inr trivial

/-- A list of changes, one after the other. -/
theorem Within.foldl {α : Type} {m : Nat} {b : State} {f : State → α → State} (l : List α)
    (hf : ∀ s a, Within m b s → Within m b (f s a)) : ∀ {s : State}, Within m b s → Within m b (l.foldl f s) := by
  induction l with
  | nil => exact fun h => h
  | cons a t ih => exact fun h => ih (hf _ _ h)

theorem Within.each {α : Type} {m : Nat} {b s : State} {l : List α} {f : State → α → State}
    (hf : ∀ s a, Within m b s → Within m b (f s a)) (h : Within m b s) : Within m b (s.each l f) := Within.foldl l hf h

theorem Within.foldlFst {α β : Type} {m : Nat} {b : State} {f : State × β → α → State × β} (l : List α)
    (hf : ∀ x a, Within m b x.1 → Within m b (f x a).1) : ∀ {x : State × β}, Within m b x.1 → Within m b (l.foldl f x).1 := by
  induction l with
  | nil => exact fun h => h
  | cons a t ih => exact fun h => ih (hf _ _ h)

theorem Within.foldlSnd {α β : Type} {m : Nat} {b : State} {f : β × State → α → β × State} (l : List α)
    (hf : ∀ x a, Within m b x.2 → Within m b (f x a).2) : ∀ {x : β × State}, Within m b x.2 → Within m b (l.foldl f x).2 := by
  induction l with
  | nil => exact fun h => h
  | cons a t ih => exact fun h => ih (hf _ _ h)

theorem Within.iter {m : Nat} {b : State} {f : State → State} (hf : ∀ s, Within m b s → Within m b (f s)) (n : Nat) :
    ∀ {s : State}, Within m b s → Within m b (iter f n s) := by
  induction n with
  | zero => exact fun h => h
  | succ n ih => exact fun h => ih (hf _ h)

theorem Within.ite {m : Nat} {b x y : State} {c : Prop} [Decidable c] (h : Within m b x) (k : Within m b y) :
    Within m b (if c then x else y) := by
  split
  · exact h
  · exact k

/-- The state of a pair that a match took apart. -/
theorem Within.snd {α : Type} {m : Nat} {b s : State} {p : α × State} {x : α} (e : p = (x, s)) (h : Within m b p.2) : Within m b s := by
  subst e; exact h

theorem Within.fst {α : Type} {m : Nat} {b s : State} {p : State × α} {x : α} (e : p = (s, x)) (h : Within m b p.1) : Within m b s := by
  subst e; exact h

/-- A command answers a next state within a mask. -/
def AnswersWithin (m : Nat) (b : State) (o : Host.Outcome State Fault Refusal) : Prop := ∃ t, o = .next t ∧ Within m b t

theorem AnswersWithin.next {m : Nat} {b s : State} (h : Within m b s) : AnswersWithin m b (.next s) := ⟨s, rfl, h⟩

theorem AnswersWithin.ite {m : Nat} {b : State} {x y : Host.Outcome State Fault Refusal} {c : Prop} [Decidable c]
    (h : AnswersWithin m b x) (k : AnswersWithin m b y) : AnswersWithin m b (if c then x else y) := by
  split
  · exact h
  · exact k

/-- The frame of a command, from what its lemma allows. -/
theorem AnswersWithin.frame {m : Nat} {s t : State} {o : Host.Outcome State Fault Refusal} {ps : List Part} {rs : List Nat}
    (h : AnswersWithin m s o) (ho : o = .next t) (hm : maskOf ps rs ||| m = maskOf ps rs) : Frame ps rs s t := by
  obtain ⟨u, hu, hw⟩ := h
  rw [ho] at hu
  cases hu
  exact hw.2.frame hm

theorem AnswersWithin.answers {m : Nat} {b : State} {o : Host.Outcome State Fault Refusal} (h : AnswersWithin m b o) : Answers b o := by
  obtain ⟨t, e, h⟩ := h
  exact ⟨t, e, h.1⟩

/-! ### The operations that After does speak of -/

theorem Within.wr {m : Nat} {b s : State} (a : Nat) (v : Word) (ha : Touch m a) (h : Within m b s) : Within m b (s.wr a v) := by
  refine ⟨h.1.wr a v, h.2.trans ⟨fun p => .inr (by cases p <;> first | rfl | trivial), fun c => ?_⟩⟩
  by_cases hc : c = a
  · subst hc
    rcases ha with ha | ha
    · exact .inl ha
    · exact .inr (.inl ha)
  · exact .inr (.inr (rd_wr_other s v hc))

/-- One part that the mask allows. -/
theorem Within.part {m : Nat} {b s t : State} (q : Part) (hq : m.testBit q.bit = true) (h : Within m b s) (ht : After b t)
    (hr : t.regs = s.regs) (hk : ∀ p, p ≠ q → p.same s t) : Within m b t := by
  refine ⟨ht, h.2.trans ⟨fun p => ?_, fun a => .inr (.inr (by unfold State.rd; rw [hr]))⟩⟩
  by_cases hp : p = q
  · subst hp; exact .inl hq
  · exact .inr (hk p hp)

theorem Within.advanceTo {m : Nat} {b s : State} (t : Nat) (hm : m.testBit 0 = true) (h : Within m b s) : Within m b (s.advanceTo t) :=
  h.part .now hm (h.1.advanceTo t) rfl (fun p hp => by cases p <;> first | rfl | trivial | exact absurd rfl hp)

theorem Within.free {m : Nat} {b s : State} (hm : m.testBit 2 = true) (h : Within m b s) : Within m b s.free.2 :=
  h.part .fresh hm h.1.free rfl (fun p hp => by cases p <;> first | rfl | trivial | exact absurd rfl hp)

theorem Within.send {m : Nat} {b s : State} (o : Output) (hm : m.testBit 32 = true) (h : Within m b s) : Within m b (s.send o) :=
  h.part .sent hm (h.1.send o) rfl (fun p hp => by cases p <;> first | rfl | trivial | exact absurd rfl hp)

theorem Within.counts {m : Nat} {b s : State} {l : Store Nat} (hm : m.testBit 31 = true) (h : Within m b s)
    (hl : ∀ e ∈ l, e ∈ s.counts) : Within m b { s with counts := l } :=
  h.part .counts hm (h.1.counts hl) rfl (fun p hp => by cases p <;> first | rfl | trivial | exact absurd rfl hp)

/-- What happens at an earlier instant leaves the clock where it stands. -/
theorem within_State_atInstant {m : Nat} {b s : State} (t : Nat) (f : State → State) (hm : m.testBit 0 = true)
    (hf : ∀ a x, Within m a x → Within m a (f x)) (h : Within m b s) : Within m b (s.atInstant t f) := by
  obtain ⟨hA, hK⟩ := h
  have k : Within m { s with now := t } (f { s with now := t }) := hf _ _ (Within.refl m hA.2.2.2.2)
  refine ⟨⟨Nat.le_trans hA.1 (Nat.le_max_left _ _), k.1.2.1.trans hA.2.1, hA.2.2.1.trans k.1.2.2.1,
    Nat.le_trans hA.2.2.2.1 k.1.2.2.2.1, k.1.2.2.2.2⟩, hK.trans ⟨fun p => ?_, fun a => k.2.2 a⟩⟩
  by_cases hp : p = .now
  · subst hp; exact .inl hm
  · rcases k.2.1 p with hp' | hp'
    · exact .inl hp'
    · refine .inr ?_
      cases p <;> first | exact hp' | exact absurd rfl hp

/-- The state that the flow's read point leaves. -/
theorem Found.within_stopped {m : Nat} {b s : State} {f : Found} (e : f = .stopped s) (h : Within m b f.st) : Within m b s := by
  subst e; exact h
theorem Found.within_word {m : Nat} {b s : State} {f : Found} {w : Word64} (e : f = .word s w) (h : Within m b f.st) : Within m b s := by
  subst e; exact h
theorem Found.within_hold {m : Nat} {b s : State} {f : Found} (e : f = .hold s) (h : Within m b f.st) : Within m b s := by
  subst e; exact h
theorem Found.within_limit {m : Nat} {b s : State} {f : Found} (e : f = .limit s) (h : Within m b f.st) : Within m b s := by
  subst e; exact h

/-- A mask that allows every part and every register. -/
theorem Keeps.any {m : Nat} (hm : m ||| 0x3FFFFFFFF = m) (s t : State) : Keeps m s t :=
  ⟨fun p => .inl (Mask.bit hm (by cases p <;> rfl)), fun _ => .inl (Mask.bit hm rfl)⟩

theorem Within.coreReset {m : Nat} {b s : State} (keep : Nat → Bool) (hm : m ||| 0x3FFFFFFFF = m) (h : Within m b s) :
    Within m b (s.coreReset keep) := ⟨h.1.coreReset keep, Keeps.any hm _ _⟩

end Sys2Proof.Machine
end

