-- ==== Sys2Proof/Laws/Touch.lean ====
section
/-! SUPPORT. For each register, that a mask naming its row allows a write of it (Laws/Within.lean, Touch). -/

namespace Sys2Proof.Machine

set_option linter.all false

theorem touch_DEV_BUS_ERR {m : Nat} (hm : m.testBit 40 = true) : Touch m Reg.DEV_BUS_ERR :=
  .row 0 hm (Row.has_of 0 0 rfl (by decide) (by decide) rfl)
theorem touch_DEV_UPD_STROBE {m : Nat} (hm : m.testBit 41 = true) : Touch m Reg.DEV_UPD_STROBE :=
  .row 1 hm (Row.has_of 0 0 rfl (by decide) (by decide) rfl)
theorem touch_DEV_UPD_PEND {m : Nat} (hm : m.testBit 42 = true) : Touch m Reg.DEV_UPD_PEND :=
  .row 2 hm (Row.has_of 0 0 rfl (by decide) (by decide) rfl)
theorem touch_DEV_UPD_SCHED {m : Nat} (hm : m.testBit 43 = true) : Touch m Reg.DEV_UPD_SCHED :=
  .row 3 hm (Row.has_of 0 0 rfl (by decide) (by decide) rfl)
theorem touch_DEV_UPD_CTRL {m : Nat} (hm : m.testBit 44 = true) : Touch m Reg.DEV_UPD_CTRL :=
  .row 4 hm (Row.has_of 0 0 rfl (by decide) (by decide) rfl)
theorem touch_DEV_UPD_STAT {m : Nat} (hm : m.testBit 45 = true) : Touch m Reg.DEV_UPD_STAT :=
  .row 5 hm (Row.has_of 0 0 rfl (by decide) (by decide) rfl)
theorem touch_DEV_LOCK {m : Nat} (hm : m.testBit 46 = true) : Touch m Reg.DEV_LOCK :=
  .row 6 hm (Row.has_of 0 0 rfl (by decide) (by decide) rfl)
theorem touch_DEV_LOCK_VIOL {m : Nat} (hm : m.testBit 47 = true) : Touch m Reg.DEV_LOCK_VIOL :=
  .row 7 hm (Row.has_of 0 0 rfl (by decide) (by decide) rfl)
theorem touch_DEV_PRIV_VIOL {m : Nat} (hm : m.testBit 48 = true) : Touch m Reg.DEV_PRIV_VIOL :=
  .row 8 hm (Row.has_of 0 0 rfl (by decide) (by decide) rfl)
theorem touch_DEV_SNAP {m : Nat} (hm : m.testBit 49 = true) : Touch m Reg.DEV_SNAP :=
  .row 9 hm (Row.has_of 0 0 rfl (by decide) (by decide) rfl)
theorem touch_MC_STAT {m : Nat} (hm : m.testBit 50 = true) : Touch m Reg.MC_STAT :=
  .row 10 hm (Row.has_of 0 0 rfl (by decide) (by decide) rfl)
theorem touch_MC_BUDGET_TOTAL {m : Nat} (hm : m.testBit 51 = true) : Touch m Reg.MC_BUDGET_TOTAL :=
  .row 11 hm (Row.has_of 0 0 rfl (by decide) (by decide) rfl)
theorem touch_MC_BUDGET_RSV {m : Nat} (hm : m.testBit 52 = true) : Touch m Reg.MC_BUDGET_RSV :=
  .row 12 hm (Row.has_of 0 0 rfl (by decide) (by decide) rfl)
theorem touch_MC_BUDGET_USED {m : Nat} (hm : m.testBit 53 = true) : Touch m Reg.MC_BUDGET_USED :=
  .row 13 hm (Row.has_of 0 0 rfl (by decide) (by decide) rfl)
theorem touch_MC_REFILL_CFG {m : Nat} (hm : m.testBit 54 = true) : Touch m Reg.MC_REFILL_CFG :=
  .row 14 hm (Row.has_of 0 0 rfl (by decide) (by decide) rfl)
theorem touch_MC_RETRAIN_CFG {m : Nat} (hm : m.testBit 55 = true) : Touch m Reg.MC_RETRAIN_CFG :=
  .row 15 hm (Row.has_of 0 0 rfl (by decide) (by decide) rfl)
theorem touch_MC_RETRAIN_STAT {m : Nat} (hm : m.testBit 56 = true) : Touch m Reg.MC_RETRAIN_STAT :=
  .row 16 hm (Row.has_of 0 0 rfl (by decide) (by decide) rfl)
theorem touch_MC_PASR {m : Nat} (hm : m.testBit 57 = true) : Touch m Reg.MC_PASR :=
  .row 17 hm (Row.has_of 0 0 rfl (by decide) (by decide) rfl)
theorem touch_MC_FREE {m : Nat} (hm : m.testBit 58 = true) : Touch m Reg.MC_FREE :=
  .row 18 hm (Row.has_of 0 0 rfl (by decide) (by decide) rfl)
theorem touch_MC_CRC_CNT {m : Nat} (hm : m.testBit 59 = true) : Touch m Reg.MC_CRC_CNT :=
  .row 19 hm (Row.has_of 0 0 rfl (by decide) (by decide) rfl)
theorem touch_MC_CRC_LOC0 {m : Nat} (hm : m.testBit 60 = true) : Touch m Reg.MC_CRC_LOC0 :=
  .row 20 hm (Row.has_of 0 0 rfl (by decide) (by decide) rfl)
theorem touch_MC_CRC_LOC1 {m : Nat} (hm : m.testBit 61 = true) : Touch m Reg.MC_CRC_LOC1 :=
  .row 21 hm (Row.has_of 0 0 rfl (by decide) (by decide) rfl)
theorem touch_MC_STREAM_ALLOW {m : Nat} (hm : m.testBit 62 = true) : Touch m Reg.MC_STREAM_ALLOW :=
  .row 22 hm (Row.has_of 0 0 rfl (by decide) (by decide) rfl)
theorem touch_MC_STREAM_CFG {m : Nat} (hm : m.testBit 63 = true) : Touch m Reg.MC_STREAM_CFG :=
  .row 23 hm (Row.has_of 0 0 rfl (by decide) (by decide) rfl)
theorem touch_MC_RING_ACTIVE {m : Nat} (hm : m.testBit 64 = true) : Touch m Reg.MC_RING_ACTIVE :=
  .row 24 hm (Row.has_of 0 0 rfl (by decide) (by decide) rfl)
theorem touch_MC_STRM_STAT {m : Nat} (hm : m.testBit 65 = true) (j : Nat) (hj : j < 16) : Touch m (Reg.MC_STRM_STAT + 16 * j) :=
  .row 25 hm (Row.has_of 0 j rfl (by decide) hj rfl)
theorem touch_MC_STRM_PROD {m : Nat} (hm : m.testBit 66 = true) (j : Nat) (hj : j < 16) : Touch m (Reg.MC_STRM_PROD + 16 * j) :=
  .row 26 hm (Row.has_of 0 j rfl (by decide) hj rfl)
theorem touch_MC_STRM_PULL {m : Nat} (hm : m.testBit 67 = true) (j : Nat) (hj : j < 16) : Touch m (Reg.MC_STRM_PULL + 16 * j) :=
  .row 27 hm (Row.has_of 0 j rfl (by decide) hj rfl)
theorem touch_MC_STRM_CONS {m : Nat} (hm : m.testBit 68 = true) (j : Nat) (hj : j < 16) : Touch m (Reg.MC_STRM_CONS + 16 * j) :=
  .row 28 hm (Row.has_of 0 j rfl (by decide) hj rfl)
theorem touch_FL_DEV_STAT {m : Nat} (hm : m.testBit 69 = true) : Touch m Reg.FL_DEV_STAT :=
  .row 29 hm (Row.has_of 0 0 rfl (by decide) (by decide) rfl)
theorem touch_FL_DEV_CMD {m : Nat} (hm : m.testBit 70 = true) : Touch m Reg.FL_DEV_CMD :=
  .row 30 hm (Row.has_of 0 0 rfl (by decide) (by decide) rfl)
theorem touch_FL_JRN_WP {m : Nat} (hm : m.testBit 71 = true) : Touch m Reg.FL_JRN_WP :=
  .row 31 hm (Row.has_of 0 0 rfl (by decide) (by decide) rfl)
theorem touch_FL_JRN_CRC {m : Nat} (hm : m.testBit 72 = true) : Touch m Reg.FL_JRN_CRC :=
  .row 32 hm (Row.has_of 0 0 rfl (by decide) (by decide) rfl)
theorem touch_FL_JRN_EVENTS_LO {m : Nat} (hm : m.testBit 73 = true) : Touch m Reg.FL_JRN_EVENTS_LO :=
  .row 33 hm (Row.has_of 0 0 rfl (by decide) (by decide) rfl)
theorem touch_FL_JRN_EVENTS_HI {m : Nat} (hm : m.testBit 74 = true) : Touch m Reg.FL_JRN_EVENTS_HI :=
  .row 34 hm (Row.has_of 0 0 rfl (by decide) (by decide) rfl)
theorem touch_FL_IMB0 {m : Nat} (hm : m.testBit 75 = true) : Touch m Reg.FL_IMB0 :=
  .row 35 hm (Row.has_of 0 0 rfl (by decide) (by decide) rfl)
theorem touch_FL_IMB1 {m : Nat} (hm : m.testBit 76 = true) : Touch m Reg.FL_IMB1 :=
  .row 36 hm (Row.has_of 0 0 rfl (by decide) (by decide) rfl)
theorem touch_FL_IMB_CNT {m : Nat} (hm : m.testBit 77 = true) : Touch m Reg.FL_IMB_CNT :=
  .row 37 hm (Row.has_of 0 0 rfl (by decide) (by decide) rfl)
theorem touch_SP_CTRL {m : Nat} (hm : m.testBit 78 = true) : Touch m Reg.SP_CTRL :=
  .row 38 hm (Row.has_of 0 0 rfl (by decide) (by decide) rfl)
theorem touch_SP_STAT {m : Nat} (hm : m.testBit 79 = true) : Touch m Reg.SP_STAT :=
  .row 39 hm (Row.has_of 0 0 rfl (by decide) (by decide) rfl)
theorem touch_SP_CMD {m : Nat} (hm : m.testBit 80 = true) : Touch m Reg.SP_CMD :=
  .row 40 hm (Row.has_of 0 0 rfl (by decide) (by decide) rfl)
theorem touch_SP_CTX_USED {m : Nat} (hm : m.testBit 81 = true) : Touch m Reg.SP_CTX_USED :=
  .row 41 hm (Row.has_of 0 0 rfl (by decide) (by decide) rfl)
theorem touch_SP_POOL_USED {m : Nat} (hm : m.testBit 82 = true) : Touch m Reg.SP_POOL_USED :=
  .row 42 hm (Row.has_of 0 0 rfl (by decide) (by decide) rfl)
theorem touch_SP_PEND {m : Nat} (hm : m.testBit 83 = true) : Touch m Reg.SP_PEND :=
  .row 43 hm (Row.has_of 0 0 rfl (by decide) (by decide) rfl)
theorem touch_SP_LAST {m : Nat} (hm : m.testBit 84 = true) : Touch m Reg.SP_LAST :=
  .row 44 hm (Row.has_of 0 0 rfl (by decide) (by decide) rfl)
theorem touch_SP_CRC_CNT {m : Nat} (hm : m.testBit 85 = true) : Touch m Reg.SP_CRC_CNT :=
  .row 45 hm (Row.has_of 0 0 rfl (by decide) (by decide) rfl)
theorem touch_SP_CRC_LOC {m : Nat} (hm : m.testBit 86 = true) : Touch m Reg.SP_CRC_LOC :=
  .row 46 hm (Row.has_of 0 0 rfl (by decide) (by decide) rfl)
theorem touch_SP_LOST {m : Nat} (hm : m.testBit 87 = true) : Touch m Reg.SP_LOST :=
  .row 47 hm (Row.has_of 0 0 rfl (by decide) (by decide) rfl)
theorem touch_SP_NODIE {m : Nat} (hm : m.testBit 88 = true) : Touch m Reg.SP_NODIE :=
  .row 48 hm (Row.has_of 0 0 rfl (by decide) (by decide) rfl)
theorem touch_PL_STATE {m : Nat} (hm : m.testBit 89 = true) : Touch m Reg.PL_STATE :=
  .row 49 hm (Row.has_of 0 0 rfl (by decide) (by decide) rfl)
theorem touch_PL_STAT {m : Nat} (hm : m.testBit 90 = true) : Touch m Reg.PL_STAT :=
  .row 50 hm (Row.has_of 0 0 rfl (by decide) (by decide) rfl)
theorem touch_PL_REFUSE {m : Nat} (hm : m.testBit 91 = true) : Touch m Reg.PL_REFUSE :=
  .row 51 hm (Row.has_of 0 0 rfl (by decide) (by decide) rfl)
theorem touch_PL_ID {m : Nat} (hm : m.testBit 92 = true) : Touch m Reg.PL_ID :=
  .row 52 hm (Row.has_of 0 0 rfl (by decide) (by decide) rfl)
theorem touch_PL_TIME {m : Nat} (hm : m.testBit 93 = true) : Touch m Reg.PL_TIME :=
  .row 53 hm (Row.has_of 0 0 rfl (by decide) (by decide) rfl)
theorem touch_PL_HEALTH {m : Nat} (hm : m.testBit 94 = true) (j : Nat) (hj : j < 7) : Touch m (Reg.PL_HEALTH + 4 * j) :=
  .row 54 hm (Row.has_of 0 j rfl (by decide) hj rfl)
theorem touch_PL_CMD {m : Nat} (hm : m.testBit 95 = true) : Touch m Reg.PL_CMD :=
  .row 55 hm (Row.has_of 0 0 rfl (by decide) (by decide) rfl)
theorem touch_PL_TAB_ADDR {m : Nat} (hm : m.testBit 96 = true) : Touch m Reg.PL_TAB_ADDR :=
  .row 56 hm (Row.has_of 0 0 rfl (by decide) (by decide) rfl)
theorem touch_PL_TAB_DATA {m : Nat} (hm : m.testBit 97 = true) : Touch m Reg.PL_TAB_DATA :=
  .row 57 hm (Row.has_of 0 0 rfl (by decide) (by decide) rfl)
theorem touch_CB_CMD {m : Nat} (hm : m.testBit 98 = true) : Touch m Reg.CB_CMD :=
  .row 58 hm (Row.has_of 0 0 rfl (by decide) (by decide) rfl)
theorem touch_CB_STAT {m : Nat} (hm : m.testBit 99 = true) : Touch m Reg.CB_STAT :=
  .row 59 hm (Row.has_of 0 0 rfl (by decide) (by decide) rfl)
theorem touch_CB_BUSY {m : Nat} (hm : m.testBit 100 = true) : Touch m Reg.CB_BUSY :=
  .row 60 hm (Row.has_of 0 0 rfl (by decide) (by decide) rfl)
theorem touch_CB_RES {m : Nat} (hm : m.testBit 101 = true) : Touch m Reg.CB_RES :=
  .row 61 hm (Row.has_of 0 0 rfl (by decide) (by decide) rfl)
theorem touch_CB_REF_Q {m : Nat} (hm : m.testBit 102 = true) : Touch m Reg.CB_REF_Q :=
  .row 62 hm (Row.has_of 0 0 rfl (by decide) (by decide) rfl)
theorem touch_CB_REF_DELAY {m : Nat} (hm : m.testBit 103 = true) : Touch m Reg.CB_REF_DELAY :=
  .row 63 hm (Row.has_of 0 0 rfl (by decide) (by decide) rfl)
theorem touch_CB_TOL {m : Nat} (hm : m.testBit 104 = true) : Touch m Reg.CB_TOL :=
  .row 64 hm (Row.has_of 0 0 rfl (by decide) (by decide) rfl)
theorem touch_CB_CTRL {m : Nat} (hm : m.testBit 105 = true) : Touch m Reg.CB_CTRL :=
  .row 65 hm (Row.has_of 0 0 rfl (by decide) (by decide) rfl)
theorem touch_CB_ADDR {m : Nat} (hm : m.testBit 106 = true) : Touch m Reg.CB_ADDR :=
  .row 66 hm (Row.has_of 0 0 rfl (by decide) (by decide) rfl)
theorem touch_CB_DATA {m : Nat} (hm : m.testBit 107 = true) : Touch m Reg.CB_DATA :=
  .row 67 hm (Row.has_of 0 0 rfl (by decide) (by decide) rfl)
theorem touch_CB_COMMIT {m : Nat} (hm : m.testBit 108 = true) : Touch m Reg.CB_COMMIT :=
  .row 68 hm (Row.has_of 0 0 rfl (by decide) (by decide) rfl)
theorem touch_HT_STAT {m : Nat} (hm : m.testBit 109 = true) : Touch m Reg.HT_STAT :=
  .row 69 hm (Row.has_of 0 0 rfl (by decide) (by decide) rfl)
theorem touch_HT_IP {m : Nat} (hm : m.testBit 110 = true) : Touch m Reg.HT_IP :=
  .row 70 hm (Row.has_of 0 0 rfl (by decide) (by decide) rfl)
theorem touch_HT_MAC_LO {m : Nat} (hm : m.testBit 111 = true) : Touch m Reg.HT_MAC_LO :=
  .row 71 hm (Row.has_of 0 0 rfl (by decide) (by decide) rfl)
theorem touch_HT_MAC_HI {m : Nat} (hm : m.testBit 112 = true) : Touch m Reg.HT_MAC_HI :=
  .row 72 hm (Row.has_of 0 0 rfl (by decide) (by decide) rfl)
theorem touch_HT_PFC {m : Nat} (hm : m.testBit 113 = true) : Touch m Reg.HT_PFC :=
  .row 73 hm (Row.has_of 0 0 rfl (by decide) (by decide) rfl)
theorem touch_HT_EVT_CFG {m : Nat} (hm : m.testBit 114 = true) : Touch m Reg.HT_EVT_CFG :=
  .row 74 hm (Row.has_of 0 0 rfl (by decide) (by decide) rfl)
theorem touch_HT_RES_CFG {m : Nat} (hm : m.testBit 115 = true) : Touch m Reg.HT_RES_CFG :=
  .row 75 hm (Row.has_of 0 0 rfl (by decide) (by decide) rfl)
theorem touch_HT_EVT_BASE_LO {m : Nat} (hm : m.testBit 116 = true) : Touch m Reg.HT_EVT_BASE_LO :=
  .row 76 hm (Row.has_of 0 0 rfl (by decide) (by decide) rfl)
theorem touch_HT_EVT_BASE_HI {m : Nat} (hm : m.testBit 117 = true) : Touch m Reg.HT_EVT_BASE_HI :=
  .row 77 hm (Row.has_of 0 0 rfl (by decide) (by decide) rfl)
theorem touch_HT_RES_BASE_LO {m : Nat} (hm : m.testBit 118 = true) : Touch m Reg.HT_RES_BASE_LO :=
  .row 78 hm (Row.has_of 0 0 rfl (by decide) (by decide) rfl)
theorem touch_HT_RES_BASE_HI {m : Nat} (hm : m.testBit 119 = true) : Touch m Reg.HT_RES_BASE_HI :=
  .row 79 hm (Row.has_of 0 0 rfl (by decide) (by decide) rfl)
theorem touch_HT_EVT_RKEY {m : Nat} (hm : m.testBit 120 = true) : Touch m Reg.HT_EVT_RKEY :=
  .row 80 hm (Row.has_of 0 0 rfl (by decide) (by decide) rfl)
theorem touch_HT_RES_RKEY {m : Nat} (hm : m.testBit 121 = true) : Touch m Reg.HT_RES_RKEY :=
  .row 81 hm (Row.has_of 0 0 rfl (by decide) (by decide) rfl)
theorem touch_HT_EVT_LOST {m : Nat} (hm : m.testBit 122 = true) : Touch m Reg.HT_EVT_LOST :=
  .row 82 hm (Row.has_of 0 0 rfl (by decide) (by decide) rfl)
theorem touch_HT_KEY_FAIL {m : Nat} (hm : m.testBit 123 = true) : Touch m Reg.HT_KEY_FAIL :=
  .row 83 hm (Row.has_of 0 0 rfl (by decide) (by decide) rfl)
theorem touch_RG_STATE {m : Nat} (hm : m.testBit 124 = true) : Touch m Reg.RG_STATE :=
  .row 84 hm (Row.has_of 0 0 rfl (by decide) (by decide) rfl)
theorem touch_RG_STAT {m : Nat} (hm : m.testBit 125 = true) : Touch m Reg.RG_STAT :=
  .row 85 hm (Row.has_of 0 0 rfl (by decide) (by decide) rfl)
theorem touch_RG_ADDR {m : Nat} (hm : m.testBit 126 = true) : Touch m Reg.RG_ADDR :=
  .row 86 hm (Row.has_of 0 0 rfl (by decide) (by decide) rfl)
theorem touch_RG_CTRL {m : Nat} (hm : m.testBit 127 = true) : Touch m Reg.RG_CTRL :=
  .row 87 hm (Row.has_of 0 0 rfl (by decide) (by decide) rfl)
theorem touch_RG_TC_MAP {m : Nat} (hm : m.testBit 128 = true) : Touch m Reg.RG_TC_MAP :=
  .row 88 hm (Row.has_of 0 0 rfl (by decide) (by decide) rfl)
theorem touch_RG_HB {m : Nat} (hm : m.testBit 129 = true) : Touch m Reg.RG_HB :=
  .row 89 hm (Row.has_of 0 0 rfl (by decide) (by decide) rfl)
theorem touch_RG_CMD {m : Nat} (hm : m.testBit 130 = true) : Touch m Reg.RG_CMD :=
  .row 90 hm (Row.has_of 0 0 rfl (by decide) (by decide) rfl)
theorem touch_RG_BYPASS {m : Nat} (hm : m.testBit 131 = true) : Touch m Reg.RG_BYPASS :=
  .row 91 hm (Row.has_of 0 0 rfl (by decide) (by decide) rfl)
theorem touch_RG_SLACK {m : Nat} (hm : m.testBit 132 = true) : Touch m Reg.RG_SLACK :=
  .row 92 hm (Row.has_of 0 0 rfl (by decide) (by decide) rfl)
theorem touch_RG_SLACK_T_LO {m : Nat} (hm : m.testBit 133 = true) : Touch m Reg.RG_SLACK_T_LO :=
  .row 93 hm (Row.has_of 0 0 rfl (by decide) (by decide) rfl)
theorem touch_RG_SLACK_T_HI {m : Nat} (hm : m.testBit 134 = true) : Touch m Reg.RG_SLACK_T_HI :=
  .row 94 hm (Row.has_of 0 0 rfl (by decide) (by decide) rfl)
theorem touch_RG_ACTIVE_LO {m : Nat} (hm : m.testBit 135 = true) : Touch m Reg.RG_ACTIVE_LO :=
  .row 95 hm (Row.has_of 0 0 rfl (by decide) (by decide) rfl)
theorem touch_RG_ACTIVE_HI {m : Nat} (hm : m.testBit 136 = true) : Touch m Reg.RG_ACTIVE_HI :=
  .row 96 hm (Row.has_of 0 0 rfl (by decide) (by decide) rfl)
theorem touch_RG_LINK {m : Nat} (hm : m.testBit 137 = true) (j : Nat) (hj : j < 2) : Touch m (Reg.RG_LINK + 16 * j) :=
  .row 97 hm (Row.has_of 0 j rfl (by decide) hj rfl)
theorem touch_RG_LINK_ERR {m : Nat} (hm : m.testBit 138 = true) (j : Nat) (hj : j < 2) : Touch m (Reg.RG_LINK_ERR + 16 * j) :=
  .row 98 hm (Row.has_of 0 j rfl (by decide) hj rfl)
theorem touch_RG_CR_CLINK {m : Nat} (hm : m.testBit 139 = true) (j : Nat) (hj : j < 6) : Touch m (Reg.RG_CR_CLINK + 32 * j) :=
  .row 99 hm (Row.has_of 0 j rfl (by decide) hj rfl)
theorem touch_RG_CR_AVAIL {m : Nat} (hm : m.testBit 140 = true) (j : Nat) (hj : j < 6) : Touch m (Reg.RG_CR_AVAIL + 32 * j) :=
  .row 100 hm (Row.has_of 0 j rfl (by decide) hj rfl)
theorem touch_RG_CR_SENT {m : Nat} (hm : m.testBit 141 = true) (j : Nat) (hj : j < 6) : Touch m (Reg.RG_CR_SENT + 32 * j) :=
  .row 101 hm (Row.has_of 0 j rfl (by decide) hj rfl)
theorem touch_RG_CR_RET_RX {m : Nat} (hm : m.testBit 142 = true) (j : Nat) (hj : j < 6) : Touch m (Reg.RG_CR_RET_RX + 32 * j) :=
  .row 102 hm (Row.has_of 0 j rfl (by decide) hj rfl)
theorem touch_RG_CR_RX {m : Nat} (hm : m.testBit 143 = true) (j : Nat) (hj : j < 6) : Touch m (Reg.RG_CR_RX + 32 * j) :=
  .row 103 hm (Row.has_of 0 j rfl (by decide) hj rfl)
theorem touch_RG_CR_RET_TX {m : Nat} (hm : m.testBit 144 = true) (j : Nat) (hj : j < 6) : Touch m (Reg.RG_CR_RET_TX + 32 * j) :=
  .row 104 hm (Row.has_of 0 j rfl (by decide) hj rfl)
theorem touch_RG_CR_HELD {m : Nat} (hm : m.testBit 145 = true) (j : Nat) (hj : j < 6) : Touch m (Reg.RG_CR_HELD + 32 * j) :=
  .row 105 hm (Row.has_of 0 j rfl (by decide) hj rfl)
theorem touch_RG_AUDIT {m : Nat} (hm : m.testBit 146 = true) : Touch m Reg.RG_AUDIT :=
  .row 106 hm (Row.has_of 0 0 rfl (by decide) (by decide) rfl)
theorem touch_TL_STATE {m : Nat} (hm : m.testBit 147 = true) : Touch m Reg.TL_STATE :=
  .row 107 hm (Row.has_of 0 0 rfl (by decide) (by decide) rfl)
theorem touch_TL_STAT {m : Nat} (hm : m.testBit 148 = true) : Touch m Reg.TL_STAT :=
  .row 108 hm (Row.has_of 0 0 rfl (by decide) (by decide) rfl)
theorem touch_TL_NOW_LO {m : Nat} (hm : m.testBit 149 = true) : Touch m Reg.TL_NOW_LO :=
  .row 109 hm (Row.has_of 0 0 rfl (by decide) (by decide) rfl)
theorem touch_TL_NOW_HI {m : Nat} (hm : m.testBit 150 = true) : Touch m Reg.TL_NOW_HI :=
  .row 110 hm (Row.has_of 0 0 rfl (by decide) (by decide) rfl)
theorem touch_TL_CTRL {m : Nat} (hm : m.testBit 151 = true) : Touch m Reg.TL_CTRL :=
  .row 111 hm (Row.has_of 0 0 rfl (by decide) (by decide) rfl)
theorem touch_TL_CMD {m : Nat} (hm : m.testBit 152 = true) : Touch m Reg.TL_CMD :=
  .row 112 hm (Row.has_of 0 0 rfl (by decide) (by decide) rfl)
theorem touch_TL_SET_LO {m : Nat} (hm : m.testBit 153 = true) : Touch m Reg.TL_SET_LO :=
  .row 113 hm (Row.has_of 0 0 rfl (by decide) (by decide) rfl)
theorem touch_TL_SET_HI {m : Nat} (hm : m.testBit 154 = true) : Touch m Reg.TL_SET_HI :=
  .row 114 hm (Row.has_of 0 0 rfl (by decide) (by decide) rfl)
theorem touch_TL_UPD_AT_LO {m : Nat} (hm : m.testBit 155 = true) : Touch m Reg.TL_UPD_AT_LO :=
  .row 115 hm (Row.has_of 0 0 rfl (by decide) (by decide) rfl)
theorem touch_TL_UPD_AT_HI {m : Nat} (hm : m.testBit 156 = true) : Touch m Reg.TL_UPD_AT_HI :=
  .row 116 hm (Row.has_of 0 0 rfl (by decide) (by decide) rfl)
theorem touch_TL_OFFSET {m : Nat} (hm : m.testBit 157 = true) : Touch m Reg.TL_OFFSET :=
  .row 117 hm (Row.has_of 0 0 rfl (by decide) (by decide) rfl)
theorem touch_TL_AGE_TRIM {m : Nat} (hm : m.testBit 158 = true) : Touch m Reg.TL_AGE_TRIM :=
  .row 118 hm (Row.has_of 0 0 rfl (by decide) (by decide) rfl)
theorem touch_TL_AGE_RATE {m : Nat} (hm : m.testBit 159 = true) : Touch m Reg.TL_AGE_RATE :=
  .row 119 hm (Row.has_of 0 0 rfl (by decide) (by decide) rfl)
theorem touch_TL_AGE_ACC {m : Nat} (hm : m.testBit 160 = true) : Touch m Reg.TL_AGE_ACC :=
  .row 120 hm (Row.has_of 0 0 rfl (by decide) (by decide) rfl)
theorem touch_TL_FREQ {m : Nat} (hm : m.testBit 161 = true) : Touch m Reg.TL_FREQ :=
  .row 121 hm (Row.has_of 0 0 rfl (by decide) (by decide) rfl)
theorem touch_TL_POLL {m : Nat} (hm : m.testBit 162 = true) : Touch m Reg.TL_POLL :=
  .row 122 hm (Row.has_of 0 0 rfl (by decide) (by decide) rfl)
theorem touch_TL_PD0 {m : Nat} (hm : m.testBit 163 = true) : Touch m Reg.TL_PD0 :=
  .row 123 hm (Row.has_of 0 0 rfl (by decide) (by decide) rfl)
theorem touch_TL_PD1 {m : Nat} (hm : m.testBit 164 = true) : Touch m Reg.TL_PD1 :=
  .row 124 hm (Row.has_of 0 0 rfl (by decide) (by decide) rfl)
theorem touch_TL_ASYM {m : Nat} (hm : m.testBit 165 = true) : Touch m Reg.TL_ASYM :=
  .row 125 hm (Row.has_of 0 0 rfl (by decide) (by decide) rfl)
theorem touch_TL_PPS_DLY {m : Nat} (hm : m.testBit 166 = true) : Touch m Reg.TL_PPS_DLY :=
  .row 126 hm (Row.has_of 0 0 rfl (by decide) (by decide) rfl)
theorem touch_DEV_ID {m : Nat} (hm : m.testBit 167 = true) : Touch m Reg.DEV_ID :=
  .row 127 hm (Row.has_of 0 0 rfl (by decide) (by decide) rfl)
theorem touch_DEV_FW_VER {m : Nat} (hm : m.testBit 168 = true) : Touch m Reg.DEV_FW_VER :=
  .row 128 hm (Row.has_of 0 0 rfl (by decide) (by decide) rfl)
theorem touch_DEV_STATE {m : Nat} (hm : m.testBit 169 = true) : Touch m Reg.DEV_STATE :=
  .row 129 hm (Row.has_of 0 0 rfl (by decide) (by decide) rfl)
theorem touch_DEV_STAT {m : Nat} (hm : m.testBit 170 = true) : Touch m Reg.DEV_STAT :=
  .row 130 hm (Row.has_of 0 0 rfl (by decide) (by decide) rfl)
theorem touch_DEV_PWR_CMD {m : Nat} (hm : m.testBit 171 = true) : Touch m Reg.DEV_PWR_CMD :=
  .row 131 hm (Row.has_of 0 0 rfl (by decide) (by decide) rfl)
theorem touch_DEV_PWR_CFG {m : Nat} (hm : m.testBit 172 = true) : Touch m Reg.DEV_PWR_CFG :=
  .row 132 hm (Row.has_of 0 0 rfl (by decide) (by decide) rfl)
theorem touch_DEV_PWR_STAT {m : Nat} (hm : m.testBit 173 = true) : Touch m Reg.DEV_PWR_STAT :=
  .row 133 hm (Row.has_of 0 0 rfl (by decide) (by decide) rfl)
theorem touch_BI_RESULT {m : Nat} (hm : m.testBit 174 = true) : Touch m Reg.BI_RESULT :=
  .row 134 hm (Row.has_of 0 0 rfl (by decide) (by decide) rfl)
theorem touch_BI_ENG {m : Nat} (hm : m.testBit 175 = true) (j : Nat) (hj : j < 7) : Touch m (Reg.BI_ENG + 4 * j) :=
  .row 135 hm (Row.has_of 0 j rfl (by decide) hj rfl)
theorem touch_BI_STRAND {m : Nat} (hm : m.testBit 176 = true) (j : Nat) (hj : j < 6) : Touch m (Reg.BI_STRAND + 4 * j) :=
  .row 136 hm (Row.has_of 0 j rfl (by decide) hj rfl)
theorem touch_BI_LANE {m : Nat} (hm : m.testBit 177 = true) : Touch m Reg.BI_LANE :=
  .row 137 hm (Row.has_of 0 0 rfl (by decide) (by decide) rfl)
theorem touch_BI_COVE {m : Nat} (hm : m.testBit 178 = true) : Touch m Reg.BI_COVE :=
  .row 138 hm (Row.has_of 0 0 rfl (by decide) (by decide) rfl)
theorem touch_BI_RT_CMD {m : Nat} (hm : m.testBit 179 = true) : Touch m Reg.BI_RT_CMD :=
  .row 139 hm (Row.has_of 0 0 rfl (by decide) (by decide) rfl)
theorem touch_BI_RT_STAT {m : Nat} (hm : m.testBit 180 = true) : Touch m Reg.BI_RT_STAT :=
  .row 140 hm (Row.has_of 0 0 rfl (by decide) (by decide) rfl)
theorem touch_FC_SUMMARY {m : Nat} (hm : m.testBit 181 = true) : Touch m Reg.FC_SUMMARY :=
  .row 141 hm (Row.has_of 0 0 rfl (by decide) (by decide) rfl)
theorem touch_FC_STAT {m : Nat} (hm : m.testBit 182 = true) : Touch m Reg.FC_STAT :=
  .row 142 hm (Row.has_of 0 0 rfl (by decide) (by decide) rfl)
theorem touch_FC_NEXT {m : Nat} (hm : m.testBit 183 = true) : Touch m Reg.FC_NEXT :=
  .row 143 hm (Row.has_of 0 0 rfl (by decide) (by decide) rfl)
theorem touch_FC_REC_SEL {m : Nat} (hm : m.testBit 184 = true) : Touch m Reg.FC_REC_SEL :=
  .row 144 hm (Row.has_of 0 0 rfl (by decide) (by decide) rfl)
theorem touch_FC_LOG_SEL {m : Nat} (hm : m.testBit 185 = true) : Touch m Reg.FC_LOG_SEL :=
  .row 145 hm (Row.has_of 0 0 rfl (by decide) (by decide) rfl)
theorem touch_FC_REC {m : Nat} (hm : m.testBit 186 = true) (j : Nat) (hj : j < 4) : Touch m (Reg.FC_REC + 4 * j) :=
  .row 146 hm (Row.has_of 0 j rfl (by decide) hj rfl)
theorem touch_FC_LOG {m : Nat} (hm : m.testBit 187 = true) (j : Nat) (hj : j < 4) : Touch m (Reg.FC_LOG + 4 * j) :=
  .row 147 hm (Row.has_of 0 j rfl (by decide) hj rfl)
theorem touch_FC_ACK {m : Nat} (hm : m.testBit 188 = true) : Touch m Reg.FC_ACK :=
  .row 148 hm (Row.has_of 0 0 rfl (by decide) (by decide) rfl)
theorem touch_FC_FORCE {m : Nat} (hm : m.testBit 189 = true) : Touch m Reg.FC_FORCE :=
  .row 149 hm (Row.has_of 0 0 rfl (by decide) (by decide) rfl)
theorem touch_FC_ALERT_CFG {m : Nat} (hm : m.testBit 190 = true) : Touch m Reg.FC_ALERT_CFG :=
  .row 150 hm (Row.has_of 0 0 rfl (by decide) (by decide) rfl)
theorem touch_FC_WDT {m : Nat} (hm : m.testBit 191 = true) : Touch m Reg.FC_WDT :=
  .row 151 hm (Row.has_of 0 0 rfl (by decide) (by decide) rfl)
theorem touch_FC_WDT_KICK {m : Nat} (hm : m.testBit 192 = true) : Touch m Reg.FC_WDT_KICK :=
  .row 152 hm (Row.has_of 0 0 rfl (by decide) (by decide) rfl)
theorem touch_FC_HELM_STATE {m : Nat} (hm : m.testBit 193 = true) : Touch m Reg.FC_HELM_STATE :=
  .row 153 hm (Row.has_of 0 0 rfl (by decide) (by decide) rfl)
theorem touch_FC_HELM_EPOCH {m : Nat} (hm : m.testBit 194 = true) : Touch m Reg.FC_HELM_EPOCH :=
  .row 154 hm (Row.has_of 0 0 rfl (by decide) (by decide) rfl)
theorem touch_FC_HELM_CMD {m : Nat} (hm : m.testBit 195 = true) : Touch m Reg.FC_HELM_CMD :=
  .row 155 hm (Row.has_of 0 0 rfl (by decide) (by decide) rfl)
theorem touch_TH_MAX {m : Nat} (hm : m.testBit 196 = true) : Touch m Reg.TH_MAX :=
  .row 156 hm (Row.has_of 0 0 rfl (by decide) (by decide) rfl)
theorem touch_TH_STATE {m : Nat} (hm : m.testBit 197 = true) : Touch m Reg.TH_STATE :=
  .row 157 hm (Row.has_of 0 0 rfl (by decide) (by decide) rfl)
theorem touch_TH_STAT {m : Nat} (hm : m.testBit 198 = true) : Touch m Reg.TH_STAT :=
  .row 158 hm (Row.has_of 0 0 rfl (by decide) (by decide) rfl)
theorem touch_TH_EXCLUDE {m : Nat} (hm : m.testBit 199 = true) : Touch m Reg.TH_EXCLUDE :=
  .row 159 hm (Row.has_of 0 0 rfl (by decide) (by decide) rfl)
theorem touch_TH_SENS {m : Nat} (hm : m.testBit 200 = true) (j : Nat) (hj : j < 24) : Touch m (Reg.TH_SENS + 4 * j) :=
  .row 160 hm (Row.has_of 0 j rfl (by decide) hj rfl)
theorem touch_CS_UCODE_VER {m : Nat} (hm : m.testBit 201 = true) : Touch m Reg.CS_UCODE_VER :=
  .row 161 hm (Row.has_of 0 0 rfl (by decide) (by decide) rfl)
theorem touch_CS_STAT {m : Nat} (hm : m.testBit 202 = true) : Touch m Reg.CS_STAT :=
  .row 162 hm (Row.has_of 0 0 rfl (by decide) (by decide) rfl)
theorem touch_CS_RES {m : Nat} (hm : m.testBit 203 = true) : Touch m Reg.CS_RES :=
  .row 163 hm (Row.has_of 0 0 rfl (by decide) (by decide) rfl)
theorem touch_CS_LOADED {m : Nat} (hm : m.testBit 204 = true) : Touch m Reg.CS_LOADED :=
  .row 164 hm (Row.has_of 0 0 rfl (by decide) (by decide) rfl)
theorem touch_CS_SLOT {m : Nat} (hm : m.testBit 205 = true) : Touch m Reg.CS_SLOT :=
  .row 165 hm (Row.has_of 0 0 rfl (by decide) (by decide) rfl)
theorem touch_CS_CMD {m : Nat} (hm : m.testBit 206 = true) : Touch m Reg.CS_CMD :=
  .row 166 hm (Row.has_of 0 0 rfl (by decide) (by decide) rfl)
theorem touch_CS_STAGE_ADDR {m : Nat} (hm : m.testBit 207 = true) : Touch m Reg.CS_STAGE_ADDR :=
  .row 167 hm (Row.has_of 0 0 rfl (by decide) (by decide) rfl)
theorem touch_CS_STAGE_DATA {m : Nat} (hm : m.testBit 208 = true) : Touch m Reg.CS_STAGE_DATA :=
  .row 168 hm (Row.has_of 0 0 rfl (by decide) (by decide) rfl)
theorem touch_CS_PATCH {m : Nat} (hm : m.testBit 209 = true) : Touch m Reg.CS_PATCH :=
  .row 169 hm (Row.has_of 0 0 rfl (by decide) (by decide) rfl)
theorem touch_CS_PATCH_ADDR {m : Nat} (hm : m.testBit 210 = true) (j : Nat) (hj : j < 16) : Touch m (Reg.CS_PATCH_ADDR + 4 * j) :=
  .row 170 hm (Row.has_of 0 j rfl (by decide) hj rfl)
theorem touch_SPI_STAT {m : Nat} (hm : m.testBit 211 = true) : Touch m Reg.SPI_STAT :=
  .row 171 hm (Row.has_of 0 0 rfl (by decide) (by decide) rfl)
theorem touch_SPI_LAST {m : Nat} (hm : m.testBit 212 = true) : Touch m Reg.SPI_LAST :=
  .row 172 hm (Row.has_of 0 0 rfl (by decide) (by decide) rfl)
theorem touch_LS_STAT {m : Nat} (hm : m.testBit 213 = true) : Touch m Reg.LS_STAT :=
  .row 173 hm (Row.has_of 0 0 rfl (by decide) (by decide) rfl)
theorem touch_LS_RES {m : Nat} (hm : m.testBit 214 = true) : Touch m Reg.LS_RES :=
  .row 174 hm (Row.has_of 0 0 rfl (by decide) (by decide) rfl)
theorem touch_LS_CMD {m : Nat} (hm : m.testBit 215 = true) : Touch m Reg.LS_CMD :=
  .row 175 hm (Row.has_of 0 0 rfl (by decide) (by decide) rfl)
theorem touch_LS_CNT_SEL {m : Nat} (hm : m.testBit 216 = true) : Touch m Reg.LS_CNT_SEL :=
  .row 176 hm (Row.has_of 0 0 rfl (by decide) (by decide) rfl)
theorem touch_LS_CNT {m : Nat} (hm : m.testBit 217 = true) : Touch m Reg.LS_CNT :=
  .row 177 hm (Row.has_of 0 0 rfl (by decide) (by decide) rfl)
theorem touch_LS_CAL_S {m : Nat} (hm : m.testBit 218 = true) : Touch m Reg.LS_CAL_S :=
  .row 178 hm (Row.has_of 0 0 rfl (by decide) (by decide) rfl)
theorem touch_LS_FACTORY_S {m : Nat} (hm : m.testBit 219 = true) : Touch m Reg.LS_FACTORY_S :=
  .row 179 hm (Row.has_of 0 0 rfl (by decide) (by decide) rfl)
theorem touch_LS_CAL_DAY {m : Nat} (hm : m.testBit 220 = true) : Touch m Reg.LS_CAL_DAY :=
  .row 180 hm (Row.has_of 0 0 rfl (by decide) (by decide) rfl)
theorem touch_LS_HIST_SEL {m : Nat} (hm : m.testBit 221 = true) : Touch m Reg.LS_HIST_SEL :=
  .row 181 hm (Row.has_of 0 0 rfl (by decide) (by decide) rfl)
theorem touch_LS_HIST_DATA {m : Nat} (hm : m.testBit 222 = true) : Touch m Reg.LS_HIST_DATA :=
  .row 182 hm (Row.has_of 0 0 rfl (by decide) (by decide) rfl)
theorem touch_LS_WEAR {m : Nat} (hm : m.testBit 223 = true) : Touch m Reg.LS_WEAR :=
  .row 183 hm (Row.has_of 0 0 rfl (by decide) (by decide) rfl)
theorem touch_LS_SETUP_ADDR {m : Nat} (hm : m.testBit 224 = true) : Touch m Reg.LS_SETUP_ADDR :=
  .row 184 hm (Row.has_of 0 0 rfl (by decide) (by decide) rfl)
theorem touch_LS_SETUP_DATA {m : Nat} (hm : m.testBit 225 = true) : Touch m Reg.LS_SETUP_DATA :=
  .row 185 hm (Row.has_of 0 0 rfl (by decide) (by decide) rfl)
theorem touch_HT_SNAP {m : Nat} (hm : m.testBit 226 = true) : Touch m Reg.HT_SNAP :=
  .row 186 hm (Row.has_of 0 0 rfl (by decide) (by decide) rfl)
theorem touch_RG_SNAP {m : Nat} (hm : m.testBit 227 = true) : Touch m Reg.RG_SNAP :=
  .row 187 hm (Row.has_of 0 0 rfl (by decide) (by decide) rfl)
theorem touch_TL_SNAP {m : Nat} (hm : m.testBit 228 = true) : Touch m Reg.TL_SNAP :=
  .row 188 hm (Row.has_of 0 0 rfl (by decide) (by decide) rfl)
theorem touch_MC_SNAP {m : Nat} (hm : m.testBit 229 = true) : Touch m Reg.MC_SNAP :=
  .row 189 hm (Row.has_of 0 0 rfl (by decide) (by decide) rfl)
theorem touch_SP_SNAP {m : Nat} (hm : m.testBit 230 = true) : Touch m Reg.SP_SNAP :=
  .row 190 hm (Row.has_of 0 0 rfl (by decide) (by decide) rfl)
theorem touch_PL_SNAP {m : Nat} (hm : m.testBit 231 = true) : Touch m Reg.PL_SNAP :=
  .row 191 hm (Row.has_of 0 0 rfl (by decide) (by decide) rfl)
theorem touch_CB_SNAP {m : Nat} (hm : m.testBit 232 = true) : Touch m Reg.CB_SNAP :=
  .row 192 hm (Row.has_of 0 0 rfl (by decide) (by decide) rfl)
theorem touch_LB_POS {m : Nat} (hm : m.testBit 240 = true) (k : Nat) (j : Nat) (hj : j < 12) : Touch m (coveA k (Reg.LB_POS + 4 * j)) :=
  .row 200 hm (Row.has_of k j rfl (by decide) hj rfl)
theorem touch_LB_MATCH {m : Nat} (hm : m.testBit 241 = true) (k : Nat) (j : Nat) (hj : j < 12) : Touch m (coveA k (Reg.LB_MATCH + 4 * j)) :=
  .row 201 hm (Row.has_of k j rfl (by decide) hj rfl)
theorem touch_LB_STAT {m : Nat} (hm : m.testBit 242 = true) (k : Nat) : Touch m (coveA k Reg.LB_STAT) :=
  .row 202 hm (Row.has_of k 0 rfl (by decide) (by decide) rfl)
theorem touch_CV_CMD {m : Nat} (hm : m.testBit 243 = true) (k : Nat) : Touch m (coveA k Reg.CV_CMD) :=
  .row 203 hm (Row.has_of k 0 rfl (by decide) (by decide) rfl)
theorem touch_CV_STATE {m : Nat} (hm : m.testBit 244 = true) (k : Nat) : Touch m (coveA k Reg.CV_STATE) :=
  .row 204 hm (Row.has_of k 0 rfl (by decide) (by decide) rfl)
theorem touch_CV_STAT {m : Nat} (hm : m.testBit 245 = true) (k : Nat) : Touch m (coveA k Reg.CV_STAT) :=
  .row 205 hm (Row.has_of k 0 rfl (by decide) (by decide) rfl)
theorem touch_CV_SNAP {m : Nat} (hm : m.testBit 246 = true) (k : Nat) : Touch m (coveA k Reg.CV_SNAP) :=
  .row 206 hm (Row.has_of k 0 rfl (by decide) (by decide) rfl)
theorem touch_WV_CTRL {m : Nat} (hm : m.testBit 280 = true) (k : Nat) : Touch m (strandA k Reg.WV_CTRL) :=
  .row 240 hm (Row.has_of k 0 rfl (by decide) (by decide) rfl)
theorem touch_WV_STAT {m : Nat} (hm : m.testBit 281 = true) (k : Nat) : Touch m (strandA k Reg.WV_STAT) :=
  .row 241 hm (Row.has_of k 0 rfl (by decide) (by decide) rfl)
theorem touch_WV_LOSS {m : Nat} (hm : m.testBit 282 = true) (k : Nat) : Touch m (strandA k Reg.WV_LOSS) :=
  .row 242 hm (Row.has_of k 0 rfl (by decide) (by decide) rfl)
theorem touch_WV_ACC {m : Nat} (hm : m.testBit 283 = true) (k : Nat) : Touch m (strandA k Reg.WV_ACC) :=
  .row 243 hm (Row.has_of k 0 rfl (by decide) (by decide) rfl)
theorem touch_WV_ADDR {m : Nat} (hm : m.testBit 284 = true) (k : Nat) : Touch m (strandA k Reg.WV_ADDR) :=
  .row 244 hm (Row.has_of k 0 rfl (by decide) (by decide) rfl)
theorem touch_WV_DATA {m : Nat} (hm : m.testBit 285 = true) (k : Nat) : Touch m (strandA k Reg.WV_DATA) :=
  .row 245 hm (Row.has_of k 0 rfl (by decide) (by decide) rfl)
theorem touch_ED_CTRL {m : Nat} (hm : m.testBit 286 = true) (k : Nat) : Touch m (strandA k Reg.ED_CTRL) :=
  .row 246 hm (Row.has_of k 0 rfl (by decide) (by decide) rfl)
theorem touch_ED_ADDR {m : Nat} (hm : m.testBit 287 = true) (k : Nat) : Touch m (strandA k Reg.ED_ADDR) :=
  .row 247 hm (Row.has_of k 0 rfl (by decide) (by decide) rfl)
theorem touch_ED_E0 {m : Nat} (hm : m.testBit 288 = true) (k : Nat) : Touch m (strandA k Reg.ED_E0) :=
  .row 248 hm (Row.has_of k 0 rfl (by decide) (by decide) rfl)
theorem touch_ED_E1 {m : Nat} (hm : m.testBit 289 = true) (k : Nat) : Touch m (strandA k Reg.ED_E1) :=
  .row 249 hm (Row.has_of k 0 rfl (by decide) (by decide) rfl)
theorem touch_ED_E2 {m : Nat} (hm : m.testBit 290 = true) (k : Nat) : Touch m (strandA k Reg.ED_E2) :=
  .row 250 hm (Row.has_of k 0 rfl (by decide) (by decide) rfl)
theorem touch_ED_E3 {m : Nat} (hm : m.testBit 291 = true) (k : Nat) : Touch m (strandA k Reg.ED_E3) :=
  .row 251 hm (Row.has_of k 0 rfl (by decide) (by decide) rfl)
theorem touch_ED_E4 {m : Nat} (hm : m.testBit 292 = true) (k : Nat) : Touch m (strandA k Reg.ED_E4) :=
  .row 252 hm (Row.has_of k 0 rfl (by decide) (by decide) rfl)
theorem touch_ED_E5 {m : Nat} (hm : m.testBit 293 = true) (k : Nat) : Touch m (strandA k Reg.ED_E5) :=
  .row 253 hm (Row.has_of k 0 rfl (by decide) (by decide) rfl)
theorem touch_WV_PER {m : Nat} (hm : m.testBit 294 = true) (k : Nat) (j : Nat) (hj : j < 64) : Touch m (strandA k (Reg.WV_PER + 4 * j)) :=
  .row 254 hm (Row.has_of k j rfl (by decide) hj rfl)
theorem touch_SQ_STATE {m : Nat} (hm : m.testBit 295 = true) (k : Nat) : Touch m (strandA k Reg.SQ_STATE) :=
  .row 255 hm (Row.has_of k 0 rfl (by decide) (by decide) rfl)
theorem touch_SQ_STAT {m : Nat} (hm : m.testBit 296 = true) (k : Nat) : Touch m (strandA k Reg.SQ_STAT) :=
  .row 256 hm (Row.has_of k 0 rfl (by decide) (by decide) rfl)
theorem touch_SQ_SEG {m : Nat} (hm : m.testBit 297 = true) (k : Nat) : Touch m (strandA k Reg.SQ_SEG) :=
  .row 257 hm (Row.has_of k 0 rfl (by decide) (by decide) rfl)
theorem touch_SQ_OFFS {m : Nat} (hm : m.testBit 298 = true) (k : Nat) : Touch m (strandA k Reg.SQ_OFFS) :=
  .row 258 hm (Row.has_of k 0 rfl (by decide) (by decide) rfl)
theorem touch_SQ_CMD {m : Nat} (hm : m.testBit 299 = true) (k : Nat) : Touch m (strandA k Reg.SQ_CMD) :=
  .row 259 hm (Row.has_of k 0 rfl (by decide) (by decide) rfl)
theorem touch_SQ_FLAGS {m : Nat} (hm : m.testBit 300 = true) (k : Nat) : Touch m (strandA k Reg.SQ_FLAGS) :=
  .row 260 hm (Row.has_of k 0 rfl (by decide) (by decide) rfl)
theorem touch_SQ_MATCH {m : Nat} (hm : m.testBit 301 = true) (k : Nat) : Touch m (strandA k Reg.SQ_MATCH) :=
  .row 261 hm (Row.has_of k 0 rfl (by decide) (by decide) rfl)
theorem touch_SQ_ANCH {m : Nat} (hm : m.testBit 302 = true) (k : Nat) : Touch m (strandA k Reg.SQ_ANCH) :=
  .row 262 hm (Row.has_of k 0 rfl (by decide) (by decide) rfl)
theorem touch_SQ_SLIPS {m : Nat} (hm : m.testBit 303 = true) (k : Nat) : Touch m (strandA k Reg.SQ_SLIPS) :=
  .row 263 hm (Row.has_of k 0 rfl (by decide) (by decide) rfl)
theorem touch_SQ_BT_ADDR {m : Nat} (hm : m.testBit 304 = true) (k : Nat) : Touch m (strandA k Reg.SQ_BT_ADDR) :=
  .row 264 hm (Row.has_of k 0 rfl (by decide) (by decide) rfl)
theorem touch_SQ_BT_DATA {m : Nat} (hm : m.testBit 305 = true) (k : Nat) : Touch m (strandA k Reg.SQ_BT_DATA) :=
  .row 265 hm (Row.has_of k 0 rfl (by decide) (by decide) rfl)
theorem touch_SQ_CTRL {m : Nat} (hm : m.testBit 306 = true) (k : Nat) : Touch m (strandA k Reg.SQ_CTRL) :=
  .row 266 hm (Row.has_of k 0 rfl (by decide) (by decide) rfl)
theorem touch_SQ_TRIG_CFG {m : Nat} (hm : m.testBit 307 = true) (k : Nat) : Touch m (strandA k Reg.SQ_TRIG_CFG) :=
  .row 267 hm (Row.has_of k 0 rfl (by decide) (by decide) rfl)
theorem touch_SQ_TRIG_SEG {m : Nat} (hm : m.testBit 308 = true) (k : Nat) : Touch m (strandA k Reg.SQ_TRIG_SEG) :=
  .row 268 hm (Row.has_of k 0 rfl (by decide) (by decide) rfl)
theorem touch_SQ_SLACK_AT_LO {m : Nat} (hm : m.testBit 309 = true) (k : Nat) : Touch m (strandA k Reg.SQ_SLACK_AT_LO) :=
  .row 269 hm (Row.has_of k 0 rfl (by decide) (by decide) rfl)
theorem touch_SQ_SLACK_AT_HI {m : Nat} (hm : m.testBit 310 = true) (k : Nat) : Touch m (strandA k Reg.SQ_SLACK_AT_HI) :=
  .row 270 hm (Row.has_of k 0 rfl (by decide) (by decide) rfl)
theorem touch_SQ_ISSUED_LO {m : Nat} (hm : m.testBit 311 = true) (k : Nat) : Touch m (strandA k Reg.SQ_ISSUED_LO) :=
  .row 271 hm (Row.has_of k 0 rfl (by decide) (by decide) rfl)
theorem touch_SQ_ISSUED_HI {m : Nat} (hm : m.testBit 312 = true) (k : Nat) : Touch m (strandA k Reg.SQ_ISSUED_HI) :=
  .row 272 hm (Row.has_of k 0 rfl (by decide) (by decide) rfl)
theorem touch_SQ_EXEC_LO {m : Nat} (hm : m.testBit 313 = true) (k : Nat) : Touch m (strandA k Reg.SQ_EXEC_LO) :=
  .row 273 hm (Row.has_of k 0 rfl (by decide) (by decide) rfl)
theorem touch_SQ_EXEC_HI {m : Nat} (hm : m.testBit 314 = true) (k : Nat) : Touch m (strandA k Reg.SQ_EXEC_HI) :=
  .row 274 hm (Row.has_of k 0 rfl (by decide) (by decide) rfl)
theorem touch_SQ_HELD_LO {m : Nat} (hm : m.testBit 315 = true) (k : Nat) : Touch m (strandA k Reg.SQ_HELD_LO) :=
  .row 275 hm (Row.has_of k 0 rfl (by decide) (by decide) rfl)
theorem touch_SQ_HELD_HI {m : Nat} (hm : m.testBit 316 = true) (k : Nat) : Touch m (strandA k Reg.SQ_HELD_HI) :=
  .row 276 hm (Row.has_of k 0 rfl (by decide) (by decide) rfl)
theorem touch_SQ_HOLD_TIME_LO {m : Nat} (hm : m.testBit 317 = true) (k : Nat) : Touch m (strandA k Reg.SQ_HOLD_TIME_LO) :=
  .row 277 hm (Row.has_of k 0 rfl (by decide) (by decide) rfl)
theorem touch_SQ_HOLD_TIME_HI {m : Nat} (hm : m.testBit 318 = true) (k : Nat) : Touch m (strandA k Reg.SQ_HOLD_TIME_HI) :=
  .row 278 hm (Row.has_of k 0 rfl (by decide) (by decide) rfl)
theorem touch_SQ_PARK_TIME_LO {m : Nat} (hm : m.testBit 319 = true) (k : Nat) : Touch m (strandA k Reg.SQ_PARK_TIME_LO) :=
  .row 279 hm (Row.has_of k 0 rfl (by decide) (by decide) rfl)
theorem touch_SQ_PARK_TIME_HI {m : Nat} (hm : m.testBit 320 = true) (k : Nat) : Touch m (strandA k Reg.SQ_PARK_TIME_HI) :=
  .row 280 hm (Row.has_of k 0 rfl (by decide) (by decide) rfl)
theorem touch_AG_CTRL {m : Nat} (hm : m.testBit 321 = true) (k : Nat) : Touch m (strandA k Reg.AG_CTRL) :=
  .row 281 hm (Row.has_of k 0 rfl (by decide) (by decide) rfl)
theorem touch_AG_STAT {m : Nat} (hm : m.testBit 322 = true) (k : Nat) : Touch m (strandA k Reg.AG_STAT) :=
  .row 282 hm (Row.has_of k 0 rfl (by decide) (by decide) rfl)
theorem touch_AG_X_INIT {m : Nat} (hm : m.testBit 323 = true) (k : Nat) : Touch m (strandA k Reg.AG_X_INIT) :=
  .row 283 hm (Row.has_of k 0 rfl (by decide) (by decide) rfl)
theorem touch_AG_YZ_INIT {m : Nat} (hm : m.testBit 324 = true) (k : Nat) : Touch m (strandA k Reg.AG_YZ_INIT) :=
  .row 284 hm (Row.has_of k 0 rfl (by decide) (by decide) rfl)
theorem touch_AG_X_VAL {m : Nat} (hm : m.testBit 325 = true) (k : Nat) : Touch m (strandA k Reg.AG_X_VAL) :=
  .row 285 hm (Row.has_of k 0 rfl (by decide) (by decide) rfl)
theorem touch_AG_YZ_VAL {m : Nat} (hm : m.testBit 326 = true) (k : Nat) : Touch m (strandA k Reg.AG_YZ_VAL) :=
  .row 286 hm (Row.has_of k 0 rfl (by decide) (by decide) rfl)
theorem touch_AG_BUS_LO {m : Nat} (hm : m.testBit 327 = true) (k : Nat) : Touch m (strandA k Reg.AG_BUS_LO) :=
  .row 287 hm (Row.has_of k 0 rfl (by decide) (by decide) rfl)
theorem touch_AG_BUS_HI {m : Nat} (hm : m.testBit 328 = true) (k : Nat) : Touch m (strandA k Reg.AG_BUS_HI) :=
  .row 288 hm (Row.has_of k 0 rfl (by decide) (by decide) rfl)
theorem touch_AG_X_MIN {m : Nat} (hm : m.testBit 329 = true) (k : Nat) : Touch m (strandA k Reg.AG_X_MIN) :=
  .row 289 hm (Row.has_of k 0 rfl (by decide) (by decide) rfl)
theorem touch_AG_X_MAX {m : Nat} (hm : m.testBit 330 = true) (k : Nat) : Touch m (strandA k Reg.AG_X_MAX) :=
  .row 290 hm (Row.has_of k 0 rfl (by decide) (by decide) rfl)
theorem touch_AG_Y_RANGE {m : Nat} (hm : m.testBit 331 = true) (k : Nat) : Touch m (strandA k Reg.AG_Y_RANGE) :=
  .row 291 hm (Row.has_of k 0 rfl (by decide) (by decide) rfl)
theorem touch_AG_Z_RANGE {m : Nat} (hm : m.testBit 332 = true) (k : Nat) : Touch m (strandA k Reg.AG_Z_RANGE) :=
  .row 292 hm (Row.has_of k 0 rfl (by decide) (by decide) rfl)
theorem touch_AG_XA {m : Nat} (hm : m.testBit 333 = true) (k : Nat) (j : Nat) (hj : j < 4) : Touch m (strandA k (Reg.AG_XA + 4 * j)) :=
  .row 293 hm (Row.has_of k j rfl (by decide) hj rfl)
theorem touch_AG_YA {m : Nat} (hm : m.testBit 334 = true) (k : Nat) (j : Nat) (hj : j < 4) : Touch m (strandA k (Reg.AG_YA + 4 * j)) :=
  .row 294 hm (Row.has_of k j rfl (by decide) hj rfl)
theorem touch_AG_ZA {m : Nat} (hm : m.testBit 335 = true) (k : Nat) (j : Nat) (hj : j < 4) : Touch m (strandA k (Reg.AG_ZA + 4 * j)) :=
  .row 295 hm (Row.has_of k j rfl (by decide) hj rfl)
theorem touch_AG_BG {m : Nat} (hm : m.testBit 336 = true) (k : Nat) (j : Nat) (hj : j < 4) : Touch m (strandA k (Reg.AG_BG + 4 * j)) :=
  .row 296 hm (Row.has_of k j rfl (by decide) hj rfl)
theorem touch_AG_CHK_XM {m : Nat} (hm : m.testBit 337 = true) (k : Nat) : Touch m (strandA k Reg.AG_CHK_XM) :=
  .row 297 hm (Row.has_of k 0 rfl (by decide) (by decide) rfl)
theorem touch_AG_CHK_YM {m : Nat} (hm : m.testBit 338 = true) (k : Nat) : Touch m (strandA k Reg.AG_CHK_YM) :=
  .row 298 hm (Row.has_of k 0 rfl (by decide) (by decide) rfl)
theorem touch_AG_CHK_WORD {m : Nat} (hm : m.testBit 339 = true) (k : Nat) : Touch m (strandA k Reg.AG_CHK_WORD) :=
  .row 299 hm (Row.has_of k 0 rfl (by decide) (by decide) rfl)
theorem touch_AG_AXM {m : Nat} (hm : m.testBit 340 = true) (k : Nat) (j : Nat) (hj : j < 4) : Touch m (strandA k (Reg.AG_AXM + 4 * j)) :=
  .row 300 hm (Row.has_of k j rfl (by decide) hj rfl)
theorem touch_AG_AYZM {m : Nat} (hm : m.testBit 341 = true) (k : Nat) (j : Nat) (hj : j < 4) : Touch m (strandA k (Reg.AG_AYZM + 4 * j)) :=
  .row 301 hm (Row.has_of k j rfl (by decide) hj rfl)
theorem touch_AG_TAB_ADDR {m : Nat} (hm : m.testBit 342 = true) (k : Nat) : Touch m (strandA k Reg.AG_TAB_ADDR) :=
  .row 302 hm (Row.has_of k 0 rfl (by decide) (by decide) rfl)
theorem touch_AG_TAB_DATA {m : Nat} (hm : m.testBit 343 = true) (k : Nat) : Touch m (strandA k Reg.AG_TAB_DATA) :=
  .row 303 hm (Row.has_of k 0 rfl (by decide) (by decide) rfl)
theorem touch_FL_DIE {m : Nat} (hm : m.testBit 344 = true) (k : Nat) : Touch m (strandA k Reg.FL_DIE) :=
  .row 304 hm (Row.has_of k 0 rfl (by decide) (by decide) rfl)
theorem touch_FL_STAT {m : Nat} (hm : m.testBit 345 = true) (k : Nat) : Touch m (strandA k Reg.FL_STAT) :=
  .row 305 hm (Row.has_of k 0 rfl (by decide) (by decide) rfl)
theorem touch_FL_OVF0 {m : Nat} (hm : m.testBit 346 = true) (k : Nat) : Touch m (strandA k Reg.FL_OVF0) :=
  .row 306 hm (Row.has_of k 0 rfl (by decide) (by decide) rfl)
theorem touch_FL_OVF1 {m : Nat} (hm : m.testBit 347 = true) (k : Nat) : Touch m (strandA k Reg.FL_OVF1) :=
  .row 307 hm (Row.has_of k 0 rfl (by decide) (by decide) rfl)
theorem touch_FL_INFLIGHT {m : Nat} (hm : m.testBit 348 = true) (k : Nat) : Touch m (strandA k Reg.FL_INFLIGHT) :=
  .row 308 hm (Row.has_of k 0 rfl (by decide) (by decide) rfl)
theorem touch_FL_MASKED {m : Nat} (hm : m.testBit 349 = true) (k : Nat) : Touch m (strandA k Reg.FL_MASKED) :=
  .row 309 hm (Row.has_of k 0 rfl (by decide) (by decide) rfl)
theorem touch_FL_CMD {m : Nat} (hm : m.testBit 350 = true) (k : Nat) : Touch m (strandA k Reg.FL_CMD) :=
  .row 310 hm (Row.has_of k 0 rfl (by decide) (by decide) rfl)
theorem touch_FL_SEEN_LO {m : Nat} (hm : m.testBit 351 = true) (k : Nat) : Touch m (strandA k Reg.FL_SEEN_LO) :=
  .row 311 hm (Row.has_of k 0 rfl (by decide) (by decide) rfl)
theorem touch_FL_SEEN_HI {m : Nat} (hm : m.testBit 352 = true) (k : Nat) : Touch m (strandA k Reg.FL_SEEN_HI) :=
  .row 312 hm (Row.has_of k 0 rfl (by decide) (by decide) rfl)
theorem touch_FL_FOLDED_LO {m : Nat} (hm : m.testBit 353 = true) (k : Nat) : Touch m (strandA k Reg.FL_FOLDED_LO) :=
  .row 313 hm (Row.has_of k 0 rfl (by decide) (by decide) rfl)
theorem touch_FL_FOLDED_HI {m : Nat} (hm : m.testBit 354 = true) (k : Nat) : Touch m (strandA k Reg.FL_FOLDED_HI) :=
  .row 314 hm (Row.has_of k 0 rfl (by decide) (by decide) rfl)
theorem touch_FL_SPILLED_LO {m : Nat} (hm : m.testBit 355 = true) (k : Nat) : Touch m (strandA k Reg.FL_SPILLED_LO) :=
  .row 315 hm (Row.has_of k 0 rfl (by decide) (by decide) rfl)
theorem touch_FL_SPILLED_HI {m : Nat} (hm : m.testBit 356 = true) (k : Nat) : Touch m (strandA k Reg.FL_SPILLED_HI) :=
  .row 316 hm (Row.has_of k 0 rfl (by decide) (by decide) rfl)
theorem touch_FL_COUNTED_ONLY_LO {m : Nat} (hm : m.testBit 357 = true) (k : Nat) : Touch m (strandA k Reg.FL_COUNTED_ONLY_LO) :=
  .row 317 hm (Row.has_of k 0 rfl (by decide) (by decide) rfl)
theorem touch_FL_COUNTED_ONLY_HI {m : Nat} (hm : m.testBit 358 = true) (k : Nat) : Touch m (strandA k Reg.FL_COUNTED_ONLY_HI) :=
  .row 318 hm (Row.has_of k 0 rfl (by decide) (by decide) rfl)
theorem touch_FL_JRN_EV_LO {m : Nat} (hm : m.testBit 359 = true) (k : Nat) : Touch m (strandA k Reg.FL_JRN_EV_LO) :=
  .row 319 hm (Row.has_of k 0 rfl (by decide) (by decide) rfl)
theorem touch_FL_JRN_EV_HI {m : Nat} (hm : m.testBit 360 = true) (k : Nat) : Touch m (strandA k Reg.FL_JRN_EV_HI) :=
  .row 320 hm (Row.has_of k 0 rfl (by decide) (by decide) rfl)
theorem touch_FL_PIN_FAIL {m : Nat} (hm : m.testBit 361 = true) (k : Nat) (j : Nat) (hj : j < 8) : Touch m (strandA k (Reg.FL_PIN_FAIL + 4 * j)) :=
  .row 321 hm (Row.has_of k j rfl (by decide) hj rfl)
theorem touch_SG_CTRL {m : Nat} (hm : m.testBit 362 = true) (k : Nat) : Touch m (strandA k Reg.SG_CTRL) :=
  .row 322 hm (Row.has_of k 0 rfl (by decide) (by decide) rfl)
theorem touch_SG_STAT {m : Nat} (hm : m.testBit 363 = true) (k : Nat) : Touch m (strandA k Reg.SG_STAT) :=
  .row 323 hm (Row.has_of k 0 rfl (by decide) (by decide) rfl)
theorem touch_SG_FTW_LO {m : Nat} (hm : m.testBit 364 = true) (k : Nat) : Touch m (strandA k Reg.SG_FTW_LO) :=
  .row 324 hm (Row.has_of k 0 rfl (by decide) (by decide) rfl)
theorem touch_SG_FTW_HI {m : Nat} (hm : m.testBit 365 = true) (k : Nat) : Touch m (strandA k Reg.SG_FTW_HI) :=
  .row 325 hm (Row.has_of k 0 rfl (by decide) (by decide) rfl)
theorem touch_SG_PHASE0 {m : Nat} (hm : m.testBit 366 = true) (k : Nat) : Touch m (strandA k Reg.SG_PHASE0) :=
  .row 326 hm (Row.has_of k 0 rfl (by decide) (by decide) rfl)
theorem touch_SG_AMPL {m : Nat} (hm : m.testBit 367 = true) (k : Nat) : Touch m (strandA k Reg.SG_AMPL) :=
  .row 327 hm (Row.has_of k 0 rfl (by decide) (by decide) rfl)
theorem touch_SG_OFFSET {m : Nat} (hm : m.testBit 368 = true) (k : Nat) : Touch m (strandA k Reg.SG_OFFSET) :=
  .row 328 hm (Row.has_of k 0 rfl (by decide) (by decide) rfl)
theorem touch_SG_TAB_ADDR {m : Nat} (hm : m.testBit 369 = true) (k : Nat) : Touch m (strandA k Reg.SG_TAB_ADDR) :=
  .row 329 hm (Row.has_of k 0 rfl (by decide) (by decide) rfl)
theorem touch_SG_TAB_DATA {m : Nat} (hm : m.testBit 370 = true) (k : Nat) : Touch m (strandA k Reg.SG_TAB_DATA) :=
  .row 330 hm (Row.has_of k 0 rfl (by decide) (by decide) rfl)
theorem touch_SG_TDAC {m : Nat} (hm : m.testBit 371 = true) (k : Nat) : Touch m (strandA k Reg.SG_TDAC) :=
  .row 331 hm (Row.has_of k 0 rfl (by decide) (by decide) rfl)
theorem touch_AQ_CFG {m : Nat} (hm : m.testBit 372 = true) (k : Nat) : Touch m (strandA k Reg.AQ_CFG) :=
  .row 332 hm (Row.has_of k 0 rfl (by decide) (by decide) rfl)
theorem touch_AQ_LEN {m : Nat} (hm : m.testBit 373 = true) (k : Nat) : Touch m (strandA k Reg.AQ_LEN) :=
  .row 333 hm (Row.has_of k 0 rfl (by decide) (by decide) rfl)
theorem touch_AQ_PRE {m : Nat} (hm : m.testBit 374 = true) (k : Nat) : Touch m (strandA k Reg.AQ_PRE) :=
  .row 334 hm (Row.has_of k 0 rfl (by decide) (by decide) rfl)
theorem touch_AQ_NREC {m : Nat} (hm : m.testBit 375 = true) (k : Nat) : Touch m (strandA k Reg.AQ_NREC) :=
  .row 335 hm (Row.has_of k 0 rfl (by decide) (by decide) rfl)
theorem touch_AQ_DIV {m : Nat} (hm : m.testBit 376 = true) (k : Nat) : Touch m (strandA k Reg.AQ_DIV) :=
  .row 336 hm (Row.has_of k 0 rfl (by decide) (by decide) rfl)
theorem touch_AQ_PT_SEL0 {m : Nat} (hm : m.testBit 377 = true) (k : Nat) : Touch m (strandA k Reg.AQ_PT_SEL0) :=
  .row 337 hm (Row.has_of k 0 rfl (by decide) (by decide) rfl)
theorem touch_AQ_PT_SEL1 {m : Nat} (hm : m.testBit 378 = true) (k : Nat) : Touch m (strandA k Reg.AQ_PT_SEL1) :=
  .row 338 hm (Row.has_of k 0 rfl (by decide) (by decide) rfl)
theorem touch_AQ_PT_VAL_LO {m : Nat} (hm : m.testBit 379 = true) (k : Nat) : Touch m (strandA k Reg.AQ_PT_VAL_LO) :=
  .row 339 hm (Row.has_of k 0 rfl (by decide) (by decide) rfl)
theorem touch_AQ_PT_VAL_HI {m : Nat} (hm : m.testBit 380 = true) (k : Nat) : Touch m (strandA k Reg.AQ_PT_VAL_HI) :=
  .row 340 hm (Row.has_of k 0 rfl (by decide) (by decide) rfl)
theorem touch_AQ_PT_DC_LO {m : Nat} (hm : m.testBit 381 = true) (k : Nat) : Touch m (strandA k Reg.AQ_PT_DC_LO) :=
  .row 341 hm (Row.has_of k 0 rfl (by decide) (by decide) rfl)
theorem touch_AQ_PT_DC_HI {m : Nat} (hm : m.testBit 382 = true) (k : Nat) : Touch m (strandA k Reg.AQ_PT_DC_HI) :=
  .row 342 hm (Row.has_of k 0 rfl (by decide) (by decide) rfl)
theorem touch_AQ_CTRL {m : Nat} (hm : m.testBit 383 = true) (k : Nat) : Touch m (strandA k Reg.AQ_CTRL) :=
  .row 343 hm (Row.has_of k 0 rfl (by decide) (by decide) rfl)
theorem touch_AQ_STAT {m : Nat} (hm : m.testBit 384 = true) (k : Nat) : Touch m (strandA k Reg.AQ_STAT) :=
  .row 344 hm (Row.has_of k 0 rfl (by decide) (by decide) rfl)
theorem touch_AQ_REC {m : Nat} (hm : m.testBit 385 = true) (k : Nat) : Touch m (strandA k Reg.AQ_REC) :=
  .row 345 hm (Row.has_of k 0 rfl (by decide) (by decide) rfl)
theorem touch_AQ_RECNUM {m : Nat} (hm : m.testBit 386 = true) (k : Nat) : Touch m (strandA k Reg.AQ_RECNUM) :=
  .row 346 hm (Row.has_of k 0 rfl (by decide) (by decide) rfl)
theorem touch_AQ_MISSED {m : Nat} (hm : m.testBit 387 = true) (k : Nat) : Touch m (strandA k Reg.AQ_MISSED) :=
  .row 347 hm (Row.has_of k 0 rfl (by decide) (by decide) rfl)
theorem touch_AQ_MISS_T_LO {m : Nat} (hm : m.testBit 388 = true) (k : Nat) : Touch m (strandA k Reg.AQ_MISS_T_LO) :=
  .row 348 hm (Row.has_of k 0 rfl (by decide) (by decide) rfl)
theorem touch_AQ_MISS_T_HI {m : Nat} (hm : m.testBit 389 = true) (k : Nat) : Touch m (strandA k Reg.AQ_MISS_T_HI) :=
  .row 349 hm (Row.has_of k 0 rfl (by decide) (by decide) rfl)
theorem touch_AQ_DEAD {m : Nat} (hm : m.testBit 390 = true) (k : Nat) : Touch m (strandA k Reg.AQ_DEAD) :=
  .row 350 hm (Row.has_of k 0 rfl (by decide) (by decide) rfl)
theorem touch_AQ_FILL {m : Nat} (hm : m.testBit 391 = true) (k : Nat) : Touch m (strandA k Reg.AQ_FILL) :=
  .row 351 hm (Row.has_of k 0 rfl (by decide) (by decide) rfl)
theorem touch_AQ_OVF {m : Nat} (hm : m.testBit 392 = true) (k : Nat) : Touch m (strandA k Reg.AQ_OVF) :=
  .row 352 hm (Row.has_of k 0 rfl (by decide) (by decide) rfl)
theorem touch_SQ_SNAP {m : Nat} (hm : m.testBit 393 = true) (k : Nat) : Touch m (strandA k Reg.SQ_SNAP) :=
  .row 353 hm (Row.has_of k 0 rfl (by decide) (by decide) rfl)
theorem touch_PS_VIH {m : Nat} (hm : m.testBit 400 = true) (k : Nat) : Touch m (pinA k Reg.PS_VIH) :=
  .row 360 hm (Row.has_of k 0 rfl (by decide) (by decide) rfl)
theorem touch_PS_VIL {m : Nat} (hm : m.testBit 401 = true) (k : Nat) : Touch m (pinA k Reg.PS_VIL) :=
  .row 361 hm (Row.has_of k 0 rfl (by decide) (by decide) rfl)
theorem touch_PS_VTT {m : Nat} (hm : m.testBit 402 = true) (k : Nat) : Touch m (pinA k Reg.PS_VTT) :=
  .row 362 hm (Row.has_of k 0 rfl (by decide) (by decide) rfl)
theorem touch_PS_VOH {m : Nat} (hm : m.testBit 403 = true) (k : Nat) : Touch m (pinA k Reg.PS_VOH) :=
  .row 363 hm (Row.has_of k 0 rfl (by decide) (by decide) rfl)
theorem touch_PS_VOL {m : Nat} (hm : m.testBit 404 = true) (k : Nat) : Touch m (pinA k Reg.PS_VOL) :=
  .row 364 hm (Row.has_of k 0 rfl (by decide) (by decide) rfl)
theorem touch_PS_DRV_CTRL {m : Nat} (hm : m.testBit 405 = true) (k : Nat) : Touch m (pinA k Reg.PS_DRV_CTRL) :=
  .row 365 hm (Row.has_of k 0 rfl (by decide) (by decide) rfl)
theorem touch_PS_CMP_CFG {m : Nat} (hm : m.testBit 406 = true) (k : Nat) : Touch m (pinA k Reg.PS_CMP_CFG) :=
  .row 366 hm (Row.has_of k 0 rfl (by decide) (by decide) rfl)
theorem touch_PS_LOAD {m : Nat} (hm : m.testBit 407 = true) (k : Nat) : Touch m (pinA k Reg.PS_LOAD) :=
  .row 367 hm (Row.has_of k 0 rfl (by decide) (by decide) rfl)
theorem touch_PS_LIM {m : Nat} (hm : m.testBit 408 = true) (k : Nat) : Touch m (pinA k Reg.PS_LIM) :=
  .row 368 hm (Row.has_of k 0 rfl (by decide) (by decide) rfl)
theorem touch_PS_BW_VTHR {m : Nat} (hm : m.testBit 409 = true) (k : Nat) : Touch m (pinA k Reg.PS_BW_VTHR) :=
  .row 369 hm (Row.has_of k 0 rfl (by decide) (by decide) rfl)
theorem touch_PS_BW_ITHR {m : Nat} (hm : m.testBit 410 = true) (k : Nat) : Touch m (pinA k Reg.PS_BW_ITHR) :=
  .row 370 hm (Row.has_of k 0 rfl (by decide) (by decide) rfl)
theorem touch_PS_BW_CTRL {m : Nat} (hm : m.testBit 411 = true) (k : Nat) : Touch m (pinA k Reg.PS_BW_CTRL) :=
  .row 371 hm (Row.has_of k 0 rfl (by decide) (by decide) rfl)
theorem touch_PS_BW_STAT {m : Nat} (hm : m.testBit 412 = true) (k : Nat) : Touch m (pinA k Reg.PS_BW_STAT) :=
  .row 372 hm (Row.has_of k 0 rfl (by decide) (by decide) rfl)
theorem touch_PS_STAT {m : Nat} (hm : m.testBit 413 = true) (k : Nat) : Touch m (pinA k Reg.PS_STAT) :=
  .row 373 hm (Row.has_of k 0 rfl (by decide) (by decide) rfl)
theorem touch_PS_CMP_STATE {m : Nat} (hm : m.testBit 414 = true) (k : Nat) : Touch m (pinA k Reg.PS_CMP_STATE) :=
  .row 374 hm (Row.has_of k 0 rfl (by decide) (by decide) rfl)
theorem touch_PS_EVT {m : Nat} (hm : m.testBit 415 = true) (k : Nat) : Touch m (pinA k Reg.PS_EVT) :=
  .row 375 hm (Row.has_of k 0 rfl (by decide) (by decide) rfl)
theorem touch_PM_CTRL {m : Nat} (hm : m.testBit 416 = true) (k : Nat) : Touch m (pinA k Reg.PM_CTRL) :=
  .row 376 hm (Row.has_of k 0 rfl (by decide) (by decide) rfl)
theorem touch_PM_FORCE {m : Nat} (hm : m.testBit 417 = true) (k : Nat) : Touch m (pinA k Reg.PM_FORCE) :=
  .row 377 hm (Row.has_of k 0 rfl (by decide) (by decide) rfl)
theorem touch_PM_FORCE_DIRECT {m : Nat} (hm : m.testBit 418 = true) (k : Nat) : Touch m (pinA k Reg.PM_FORCE_DIRECT) :=
  .row 378 hm (Row.has_of k 0 rfl (by decide) (by decide) rfl)
theorem touch_PM_CLAMP_HI {m : Nat} (hm : m.testBit 419 = true) (k : Nat) : Touch m (pinA k Reg.PM_CLAMP_HI) :=
  .row 379 hm (Row.has_of k 0 rfl (by decide) (by decide) rfl)
theorem touch_PM_CLAMP_LO {m : Nat} (hm : m.testBit 420 = true) (k : Nat) : Touch m (pinA k Reg.PM_CLAMP_LO) :=
  .row 380 hm (Row.has_of k 0 rfl (by decide) (by decide) rfl)
theorem touch_PM_LIM_V {m : Nat} (hm : m.testBit 421 = true) (k : Nat) : Touch m (pinA k Reg.PM_LIM_V) :=
  .row 381 hm (Row.has_of k 0 rfl (by decide) (by decide) rfl)
theorem touch_PM_LIM_I {m : Nat} (hm : m.testBit 422 = true) (k : Nat) : Touch m (pinA k Reg.PM_LIM_I) :=
  .row 382 hm (Row.has_of k 0 rfl (by decide) (by decide) rfl)
theorem touch_PM_STAT {m : Nat} (hm : m.testBit 423 = true) (k : Nat) : Touch m (pinA k Reg.PM_STAT) :=
  .row 383 hm (Row.has_of k 0 rfl (by decide) (by decide) rfl)
theorem touch_PM_STATE {m : Nat} (hm : m.testBit 424 = true) (k : Nat) : Touch m (pinA k Reg.PM_STATE) :=
  .row 384 hm (Row.has_of k 0 rfl (by decide) (by decide) rfl)
theorem touch_AD_CFG {m : Nat} (hm : m.testBit 425 = true) (k : Nat) : Touch m (pinA k Reg.AD_CFG) :=
  .row 385 hm (Row.has_of k 0 rfl (by decide) (by decide) rfl)
theorem touch_AD_NOTCH {m : Nat} (hm : m.testBit 426 = true) (k : Nat) : Touch m (pinA k Reg.AD_NOTCH) :=
  .row 386 hm (Row.has_of k 0 rfl (by decide) (by decide) rfl)
theorem touch_AD_DATA {m : Nat} (hm : m.testBit 427 = true) (k : Nat) : Touch m (pinA k Reg.AD_DATA) :=
  .row 387 hm (Row.has_of k 0 rfl (by decide) (by decide) rfl)
theorem touch_AD_STAT {m : Nat} (hm : m.testBit 428 = true) (k : Nat) : Touch m (pinA k Reg.AD_STAT) :=
  .row 388 hm (Row.has_of k 0 rfl (by decide) (by decide) rfl)
theorem touch_AD_OFS_V {m : Nat} (hm : m.testBit 429 = true) (k : Nat) : Touch m (pinA k Reg.AD_OFS_V) :=
  .row 389 hm (Row.has_of k 0 rfl (by decide) (by decide) rfl)
theorem touch_AD_OFS_I {m : Nat} (hm : m.testBit 430 = true) (k : Nat) (j : Nat) (hj : j < 5) : Touch m (pinA k (Reg.AD_OFS_I + 8 * j)) :=
  .row 390 hm (Row.has_of k j rfl (by decide) hj rfl)
theorem touch_AD_GAIN_V {m : Nat} (hm : m.testBit 431 = true) (k : Nat) : Touch m (pinA k Reg.AD_GAIN_V) :=
  .row 391 hm (Row.has_of k 0 rfl (by decide) (by decide) rfl)
theorem touch_AD_GAIN_I {m : Nat} (hm : m.testBit 432 = true) (k : Nat) (j : Nat) (hj : j < 5) : Touch m (pinA k (Reg.AD_GAIN_I + 8 * j)) :=
  .row 392 hm (Row.has_of k j rfl (by decide) hj rfl)
theorem touch_TD_CFG {m : Nat} (hm : m.testBit 433 = true) (k : Nat) : Touch m (pinA k Reg.TD_CFG) :=
  .row 393 hm (Row.has_of k 0 rfl (by decide) (by decide) rfl)
theorem touch_TD_N {m : Nat} (hm : m.testBit 434 = true) (k : Nat) : Touch m (pinA k Reg.TD_N) :=
  .row 394 hm (Row.has_of k 0 rfl (by decide) (by decide) rfl)
theorem touch_TD_CTRL {m : Nat} (hm : m.testBit 435 = true) (k : Nat) : Touch m (pinA k Reg.TD_CTRL) :=
  .row 395 hm (Row.has_of k 0 rfl (by decide) (by decide) rfl)
theorem touch_TD_STAT {m : Nat} (hm : m.testBit 436 = true) (k : Nat) : Touch m (pinA k Reg.TD_STAT) :=
  .row 396 hm (Row.has_of k 0 rfl (by decide) (by decide) rfl)
theorem touch_TD_COUNT {m : Nat} (hm : m.testBit 437 = true) (k : Nat) : Touch m (pinA k Reg.TD_COUNT) :=
  .row 397 hm (Row.has_of k 0 rfl (by decide) (by decide) rfl)
theorem touch_TD_MISS {m : Nat} (hm : m.testBit 438 = true) (k : Nat) : Touch m (pinA k Reg.TD_MISS) :=
  .row 398 hm (Row.has_of k 0 rfl (by decide) (by decide) rfl)
theorem touch_TD_MEAN_LO {m : Nat} (hm : m.testBit 439 = true) (k : Nat) : Touch m (pinA k Reg.TD_MEAN_LO) :=
  .row 399 hm (Row.has_of k 0 rfl (by decide) (by decide) rfl)
theorem touch_TD_MEAN_HI {m : Nat} (hm : m.testBit 440 = true) (k : Nat) : Touch m (pinA k Reg.TD_MEAN_HI) :=
  .row 400 hm (Row.has_of k 0 rfl (by decide) (by decide) rfl)
theorem touch_TD_STD {m : Nat} (hm : m.testBit 441 = true) (k : Nat) : Touch m (pinA k Reg.TD_STD) :=
  .row 401 hm (Row.has_of k 0 rfl (by decide) (by decide) rfl)
theorem touch_TD_MIN {m : Nat} (hm : m.testBit 442 = true) (k : Nat) : Touch m (pinA k Reg.TD_MIN) :=
  .row 402 hm (Row.has_of k 0 rfl (by decide) (by decide) rfl)
theorem touch_TD_MAX {m : Nat} (hm : m.testBit 443 = true) (k : Nat) : Touch m (pinA k Reg.TD_MAX) :=
  .row 403 hm (Row.has_of k 0 rfl (by decide) (by decide) rfl)
theorem touch_TD_LAST {m : Nat} (hm : m.testBit 444 = true) (k : Nat) : Touch m (pinA k Reg.TD_LAST) :=
  .row 404 hm (Row.has_of k 0 rfl (by decide) (by decide) rfl)
theorem touch_TD_SCALE {m : Nat} (hm : m.testBit 445 = true) (k : Nat) : Touch m (pinA k Reg.TD_SCALE) :=
  .row 405 hm (Row.has_of k 0 rfl (by decide) (by decide) rfl)
theorem touch_HT_QP_CTRL {m : Nat} (hm : m.testBit 480 = true) (k : Nat) : Touch m (qpA k Reg.HT_QP_CTRL) :=
  .row 440 hm (Row.has_of k 0 rfl (by decide) (by decide) rfl)
theorem touch_HT_QP_STAT {m : Nat} (hm : m.testBit 481 = true) (k : Nat) : Touch m (qpA k Reg.HT_QP_STAT) :=
  .row 441 hm (Row.has_of k 0 rfl (by decide) (by decide) rfl)
theorem touch_HT_QP_PEER {m : Nat} (hm : m.testBit 482 = true) (k : Nat) : Touch m (qpA k Reg.HT_QP_PEER) :=
  .row 442 hm (Row.has_of k 0 rfl (by decide) (by decide) rfl)
theorem touch_HT_QP_SPSN {m : Nat} (hm : m.testBit 483 = true) (k : Nat) : Touch m (qpA k Reg.HT_QP_SPSN) :=
  .row 443 hm (Row.has_of k 0 rfl (by decide) (by decide) rfl)
theorem touch_HT_QP_EPSN {m : Nat} (hm : m.testBit 484 = true) (k : Nat) : Touch m (qpA k Reg.HT_QP_EPSN) :=
  .row 444 hm (Row.has_of k 0 rfl (by decide) (by decide) rfl)
theorem touch_HT_QP_IP {m : Nat} (hm : m.testBit 485 = true) (k : Nat) : Touch m (qpA k Reg.HT_QP_IP) :=
  .row 445 hm (Row.has_of k 0 rfl (by decide) (by decide) rfl)
theorem touch_HT_QP_MAC_LO {m : Nat} (hm : m.testBit 486 = true) (k : Nat) : Touch m (qpA k Reg.HT_QP_MAC_LO) :=
  .row 446 hm (Row.has_of k 0 rfl (by decide) (by decide) rfl)
theorem touch_HT_QP_MAC_HI {m : Nat} (hm : m.testBit 487 = true) (k : Nat) : Touch m (qpA k Reg.HT_QP_MAC_HI) :=
  .row 447 hm (Row.has_of k 0 rfl (by decide) (by decide) rfl)
theorem touch_HT_QP_VLAN {m : Nat} (hm : m.testBit 488 = true) (k : Nat) : Touch m (qpA k Reg.HT_QP_VLAN) :=
  .row 448 hm (Row.has_of k 0 rfl (by decide) (by decide) rfl)
theorem touch_HT_QP_SPORT {m : Nat} (hm : m.testBit 489 = true) (k : Nat) : Touch m (qpA k Reg.HT_QP_SPORT) :=
  .row 449 hm (Row.has_of k 0 rfl (by decide) (by decide) rfl)
theorem touch_HT_QP_WKEY {m : Nat} (hm : m.testBit 490 = true) (k : Nat) : Touch m (qpA k Reg.HT_QP_WKEY) :=
  .row 450 hm (Row.has_of k 0 rfl (by decide) (by decide) rfl)
theorem touch_HT_QP_CMD_RKEY {m : Nat} (hm : m.testBit 491 = true) (k : Nat) : Touch m (qpA k Reg.HT_QP_CMD_RKEY) :=
  .row 451 hm (Row.has_of k 0 rfl (by decide) (by decide) rfl)
theorem touch_HT_QP_CPL_RKEY {m : Nat} (hm : m.testBit 492 = true) (k : Nat) : Touch m (qpA k Reg.HT_QP_CPL_RKEY) :=
  .row 452 hm (Row.has_of k 0 rfl (by decide) (by decide) rfl)
theorem touch_HT_QP_DB_RKEY {m : Nat} (hm : m.testBit 493 = true) (k : Nat) : Touch m (qpA k Reg.HT_QP_DB_RKEY) :=
  .row 453 hm (Row.has_of k 0 rfl (by decide) (by decide) rfl)
theorem touch_HT_QP_RING {m : Nat} (hm : m.testBit 494 = true) (k : Nat) : Touch m (qpA k Reg.HT_QP_RING) :=
  .row 454 hm (Row.has_of k 0 rfl (by decide) (by decide) rfl)
theorem touch_HT_QP_CMD_BASE_LO {m : Nat} (hm : m.testBit 495 = true) (k : Nat) : Touch m (qpA k Reg.HT_QP_CMD_BASE_LO) :=
  .row 455 hm (Row.has_of k 0 rfl (by decide) (by decide) rfl)
theorem touch_HT_QP_CMD_BASE_HI {m : Nat} (hm : m.testBit 496 = true) (k : Nat) : Touch m (qpA k Reg.HT_QP_CMD_BASE_HI) :=
  .row 456 hm (Row.has_of k 0 rfl (by decide) (by decide) rfl)
theorem touch_HT_QP_CPL_BASE_LO {m : Nat} (hm : m.testBit 497 = true) (k : Nat) : Touch m (qpA k Reg.HT_QP_CPL_BASE_LO) :=
  .row 457 hm (Row.has_of k 0 rfl (by decide) (by decide) rfl)
theorem touch_HT_QP_CPL_BASE_HI {m : Nat} (hm : m.testBit 498 = true) (k : Nat) : Touch m (qpA k Reg.HT_QP_CPL_BASE_HI) :=
  .row 458 hm (Row.has_of k 0 rfl (by decide) (by decide) rfl)
theorem touch_HT_QP_DB_BASE_LO {m : Nat} (hm : m.testBit 499 = true) (k : Nat) : Touch m (qpA k Reg.HT_QP_DB_BASE_LO) :=
  .row 459 hm (Row.has_of k 0 rfl (by decide) (by decide) rfl)
theorem touch_HT_QP_DB_BASE_HI {m : Nat} (hm : m.testBit 500 = true) (k : Nat) : Touch m (qpA k Reg.HT_QP_DB_BASE_HI) :=
  .row 460 hm (Row.has_of k 0 rfl (by decide) (by decide) rfl)
theorem touch_HT_QP_CMD_PI {m : Nat} (hm : m.testBit 501 = true) (k : Nat) : Touch m (qpA k Reg.HT_QP_CMD_PI) :=
  .row 461 hm (Row.has_of k 0 rfl (by decide) (by decide) rfl)
theorem touch_HT_QP_CMD_CI {m : Nat} (hm : m.testBit 502 = true) (k : Nat) : Touch m (qpA k Reg.HT_QP_CMD_CI) :=
  .row 462 hm (Row.has_of k 0 rfl (by decide) (by decide) rfl)
theorem touch_HT_QP_CPL_PI {m : Nat} (hm : m.testBit 503 = true) (k : Nat) : Touch m (qpA k Reg.HT_QP_CPL_PI) :=
  .row 463 hm (Row.has_of k 0 rfl (by decide) (by decide) rfl)
theorem touch_HT_QP_CPL_CI {m : Nat} (hm : m.testBit 504 = true) (k : Nat) : Touch m (qpA k Reg.HT_QP_CPL_CI) :=
  .row 464 hm (Row.has_of k 0 rfl (by decide) (by decide) rfl)
theorem touch_HT_QP_PRIV {m : Nat} (hm : m.testBit 505 = true) (k : Nat) : Touch m (qpA k Reg.HT_QP_PRIV) :=
  .row 465 hm (Row.has_of k 0 rfl (by decide) (by decide) rfl)
theorem touch_RE_STATE {m : Nat} (hm : m.testBit 520 = true) (k : Nat) : Touch m (reserveA k Reg.RE_STATE) :=
  .row 480 hm (Row.has_of k 0 rfl (by decide) (by decide) rfl)
theorem touch_RE_UCODE_VER {m : Nat} (hm : m.testBit 521 = true) (k : Nat) : Touch m (reserveA k Reg.RE_UCODE_VER) :=
  .row 481 hm (Row.has_of k 0 rfl (by decide) (by decide) rfl)
theorem touch_RE_SNAP {m : Nat} (hm : m.testBit 522 = true) (k : Nat) : Touch m (reserveA k Reg.RE_SNAP) :=
  .row 482 hm (Row.has_of k 0 rfl (by decide) (by decide) rfl)

theorem bitsOf_lt (v : Nat) {hi lo : Nat} (n : Nat) (h : 2 ^ (hi + 1 - lo) = n) : bitsOf v hi lo < n := by
  unfold bitsOf
  rw [← h]
  exact Nat.mod_lt _ (Nat.two_pow_pos _)

/-! ### Registers of a position, a port, an engine, a stream -/

theorem touch_lbPos {m : Nat} (hm : m.testBit 240 = true) (k : Nat) : Touch m (lbPos k) :=
  touch_LB_POS hm _ _ (by omega)
theorem touch_linkA {m : Nat} (hm : m.testBit 137 = true) (p : Nat) : Touch m (linkA p) :=
  touch_RG_LINK hm _ (by omega)
theorem touch_linkErrA {m : Nat} (hm : m.testBit 138 = true) (p : Nat) : Touch m (linkErrA p) :=
  touch_RG_LINK_ERR hm _ (by omega)
theorem touch_healthA {m : Nat} (hm : m.testBit 94 = true) (e : Nat) : Touch m (healthA e) :=
  touch_PL_HEALTH hm _ (by omega)
theorem touch_cr_RG_CR_CLINK {m : Nat} (hm : m.testBit 139 = true) (p t : Nat) : Touch m (crA p t 0) :=
  by
    have e : crA p t 0 = Reg.RG_CR_CLINK + 32 * ((3 * p + t - 1) % 6) := by unfold crA Reg.RG_CR_CLINK; omega
    rw [e]; exact touch_RG_CR_CLINK hm _ (by omega)
theorem touch_cr_RG_CR_AVAIL {m : Nat} (hm : m.testBit 140 = true) (p t : Nat) : Touch m (crA p t 1) :=
  by
    have e : crA p t 1 = Reg.RG_CR_AVAIL + 32 * ((3 * p + t - 1) % 6) := by unfold crA Reg.RG_CR_CLINK Reg.RG_CR_AVAIL; omega
    rw [e]; exact touch_RG_CR_AVAIL hm _ (by omega)
theorem touch_cr_RG_CR_SENT {m : Nat} (hm : m.testBit 141 = true) (p t : Nat) : Touch m (crA p t 2) :=
  by
    have e : crA p t 2 = Reg.RG_CR_SENT + 32 * ((3 * p + t - 1) % 6) := by unfold crA Reg.RG_CR_CLINK Reg.RG_CR_SENT; omega
    rw [e]; exact touch_RG_CR_SENT hm _ (by omega)
theorem touch_cr_RG_CR_RET_RX {m : Nat} (hm : m.testBit 142 = true) (p t : Nat) : Touch m (crA p t 3) :=
  by
    have e : crA p t 3 = Reg.RG_CR_RET_RX + 32 * ((3 * p + t - 1) % 6) := by unfold crA Reg.RG_CR_CLINK Reg.RG_CR_RET_RX; omega
    rw [e]; exact touch_RG_CR_RET_RX hm _ (by omega)
theorem touch_cr_RG_CR_RX {m : Nat} (hm : m.testBit 143 = true) (p t : Nat) : Touch m (crA p t 4) :=
  by
    have e : crA p t 4 = Reg.RG_CR_RX + 32 * ((3 * p + t - 1) % 6) := by unfold crA Reg.RG_CR_CLINK Reg.RG_CR_RX; omega
    rw [e]; exact touch_RG_CR_RX hm _ (by omega)
theorem touch_cr_RG_CR_RET_TX {m : Nat} (hm : m.testBit 144 = true) (p t : Nat) : Touch m (crA p t 5) :=
  by
    have e : crA p t 5 = Reg.RG_CR_RET_TX + 32 * ((3 * p + t - 1) % 6) := by unfold crA Reg.RG_CR_CLINK Reg.RG_CR_RET_TX; omega
    rw [e]; exact touch_RG_CR_RET_TX hm _ (by omega)
theorem touch_cr_RG_CR_HELD {m : Nat} (hm : m.testBit 145 = true) (p t : Nat) : Touch m (crA p t 6) :=
  by
    have e : crA p t 6 = Reg.RG_CR_HELD + 32 * ((3 * p + t - 1) % 6) := by unfold crA Reg.RG_CR_CLINK Reg.RG_CR_HELD; omega
    rw [e]; exact touch_RG_CR_HELD hm _ (by omega)
theorem touch_strmA_MC_STRM_STAT {m : Nat} (hm : m.testBit 65 = true) (n : Nat) : Touch m (strmA Reg.MC_STRM_STAT n) :=
  touch_MC_STRM_STAT hm _ (by omega)
theorem touch_strmA_MC_STRM_PROD {m : Nat} (hm : m.testBit 66 = true) (n : Nat) : Touch m (strmA Reg.MC_STRM_PROD n) :=
  touch_MC_STRM_PROD hm _ (by omega)
theorem touch_strmA_MC_STRM_PULL {m : Nat} (hm : m.testBit 67 = true) (n : Nat) : Touch m (strmA Reg.MC_STRM_PULL n) :=
  touch_MC_STRM_PULL hm _ (by omega)
theorem touch_strmA_MC_STRM_CONS {m : Nat} (hm : m.testBit 68 = true) (n : Nat) : Touch m (strmA Reg.MC_STRM_CONS n) :=
  touch_MC_STRM_CONS hm _ (by omega)
theorem touch_pd {m : Nat} (h0 : m.testBit 163 = true) (h1 : m.testBit 164 = true) (p : Fin 2) : Touch m (Reg.TL_PD0 + 4 * p.val) := by
  match p with
  | 0 => exact touch_TL_PD0 h0
  | 1 => exact touch_TL_PD1 h1

end Sys2Proof.Machine
end

