-- ==== Sys2Proof/Laws/OpsWithin.lean ====
section
/-! SUPPORT. What the definitions of Machine/Ops.lean keep, and all that they may change (Laws/Within.lean). -/

namespace Sys2Proof.Machine

set_option linter.all false

theorem within_State_setFld {m : Nat} {s₀ s : State} (a : Nat) (f : Field) (v : Nat) (ht0 : Touch m (a)) (h₀ : Within m s₀ s) :
    Within m s₀ (State.setFld s a f v) := by
  unfold State.setFld
  repeat' first
    | with_reducible assumption | with_reducible apply Within.wr

theorem within_State_raise {m : Nat} {s₀ s : State} (a : Nat) (f : Field) (ht0 : Touch m (a)) (h₀ : Within m s₀ s) :
    Within m s₀ (State.raise s a f) := by
  unfold State.raise
  repeat' first
    | with_reducible assumption | with_reducible apply within_State_setFld

theorem within_State_raiseIf {m : Nat} {s₀ s : State} (c : Bool) (a : Nat) (f : Field) (ht0 : Touch m (a)) (h₀ : Within m s₀ s) :
    Within m s₀ (State.raiseIf s c a f) := by
  unfold State.raiseIf
  repeat' first
    | with_reducible assumption | with_reducible apply within_State_raise | with_reducible refine Within.ite ?_ ?_ | split
    | (extract_lets; split)

theorem within_State_satAdd {m : Nat} {s₀ s : State} (a : Nat) (f : Field) (n : Nat) (ht0 : Touch m (a)) (h₀ : Within m s₀ s) :
    Within m s₀ (State.satAdd s a f n) := by
  unfold State.satAdd
  repeat' first
    | with_reducible assumption | with_reducible apply within_State_setFld

theorem within_State_wr64 {m : Nat} {s₀ s : State} (a : Nat) (v : Nat) (ht0 : Touch m (a)) (ht1 : Touch m (a + 4))
    (h₀ : Within m s₀ s) : Within m s₀ (State.wr64 s a v) := by
  unfold State.wr64
  repeat' first
    | with_reducible assumption | with_reducible apply Within.wr

theorem within_State_add64 {m : Nat} {s₀ s : State} (a : Nat) (n : Nat) (ht0 : Touch m (a)) (ht1 : Touch m (a + 4))
    (h₀ : Within m s₀ s) : Within m s₀ (State.add64 s a n) := by
  unfold State.add64
  repeat' first
    | with_reducible assumption | with_reducible apply Within.wr | with_reducible apply within_State_wr64

theorem within_State_setStrand {m : Nat} {s₀ s : State} (hm : m ||| 0x40 = m) (k : Nat) (v : Strand) (h₀ : Within m s₀ s) :
    Within m s₀ (State.setStrand s k v) := by
  unfold State.setStrand
  repeat' first
    | with_reducible assumption
    | (with_reducible refine Within.mk ?_ ?hk
       case hk => (repeat' apply And.intro) <;> first | with_reducible exact .inr rfl | exact .inl (Mask.bit hm rfl)
       first
        | with_reducible assumption)

theorem within_State_modStrand {m : Nat} {s₀ s : State} (hm : m ||| 0x40 = m) (k : Nat) (f : Strand → Strand) (h₀ : Within m s₀ s) :
    Within m s₀ (State.modStrand s k f) := by
  unfold State.modStrand
  repeat' first
    | with_reducible assumption | with_reducible apply within_State_setStrand (Mask.sub hm rfl)

theorem within_State_setPin {m : Nat} {s₀ s : State} (hm : m ||| 0x80 = m) (n : Nat) (v : Pin) (h₀ : Within m s₀ s) :
    Within m s₀ (State.setPin s n v) := by
  unfold State.setPin
  repeat' first
    | with_reducible assumption
    | (with_reducible refine Within.mk ?_ ?hk
       case hk => (repeat' apply And.intro) <;> first | with_reducible exact .inr rfl | exact .inl (Mask.bit hm rfl)
       first
        | with_reducible assumption)

theorem within_State_modPin {m : Nat} {s₀ s : State} (hm : m ||| 0x80 = m) (n : Nat) (f : Pin → Pin) (h₀ : Within m s₀ s) :
    Within m s₀ (State.modPin s n f) := by
  unfold State.modPin
  repeat' first
    | with_reducible assumption | with_reducible apply within_State_setPin (Mask.sub hm rfl)

theorem within_State_setRole {m : Nat} {s₀ s : State}
    (hm : m ||| 0x80000000000001000000000000000000000000000000000000000000000000000000000000 = m) (k : Nat) (r : Nat)
    (h₀ : Within m s₀ s) : Within m s₀ (State.setRole s k r) := by
  unfold State.setRole
  repeat' first
    | with_reducible assumption | with_reducible apply within_State_setFld | exact touch_lbPos (Mask.bit hm rfl) _
    | exact touch_SQ_STATE (Mask.bit hm rfl) _

theorem within_State_fault {m : Nat} {s₀ s : State} (hm : m ||| 0x1000000 = m) (source : Nat) (bit : Nat) (addr : Nat)
    (h₀ : Within m s₀ s) : Within m s₀ (State.fault s source bit addr) := by
  unfold State.fault
  repeat' first
    | with_reducible assumption
    | (with_reducible refine Within.mk ?_ ?hk
       case hk => (repeat' apply And.intro) <;> first | with_reducible exact .inr rfl | exact .inl (Mask.bit hm rfl)
       first
        | with_reducible assumption)

theorem within_State_pushEvent {m : Nat} {s₀ s : State} (hm : m ||| 0x4002000000000000000000002000000 = m) (kind : Nat)
    (body : List Byte) (h₀ : Within m s₀ s) : Within m s₀ (State.pushEvent s kind body) := by
  unfold State.pushEvent
  repeat' first
    | with_reducible assumption | with_reducible apply Within.wr | with_reducible apply within_State_raise
    | exact touch_HT_EVT_LOST (Mask.bit hm rfl) | exact touch_HT_STAT (Mask.bit hm rfl) | with_reducible refine Within.ite ?_ ?_ | split
    | (extract_lets; split)
    | (with_reducible refine Within.mk ?_ ?hk
       case hk => (repeat' apply And.intro) <;> first | with_reducible exact .inr rfl | exact .inl (Mask.bit hm rfl)
       first
        | with_reducible assumption | with_reducible apply Within.wr | with_reducible apply within_State_raise
        | with_reducible refine Within.ite ?_ ?_ | split | (extract_lets; split)
        | (with_reducible refine Within.mk ?_ ?hk
           case hk => (repeat' apply And.intro) <;> first | with_reducible exact .inr rfl | exact .inl (Mask.bit hm rfl)
           first
            | with_reducible assumption | with_reducible apply Within.wr | with_reducible apply within_State_raise
            | with_reducible refine Within.ite ?_ ?_ | split | (extract_lets; split)))

theorem within_State_keepSegments {m : Nat} {s₀ s : State} (hm : m ||| 0x400000000080000 = m) (old : State) (h₀ : Within m s₀ s) :
    Within m s₀ (State.keepSegments s old) := by
  unfold State.keepSegments
  repeat' first
    | with_reducible assumption | with_reducible intro _ | with_reducible apply within_State_setFld
    | with_reducible refine Within.foldl _ ?_ ?_ | with_reducible refine Within.foldlFst _ ?_ ?_
    | with_reducible refine Within.foldlSnd _ ?_ ?_ | exact touch_MC_FREE (Mask.bit hm rfl)
    | (with_reducible refine Within.mk ?_ ?hk
       case hk => (repeat' apply And.intro) <;> first | with_reducible exact .inr rfl | exact .inl (Mask.bit hm rfl)
       first
        | with_reducible assumption | with_reducible apply within_State_setFld | with_reducible refine Within.foldl _ ?_ ?_
        | with_reducible refine Within.foldlFst _ ?_ ?_ | with_reducible refine Within.foldlSnd _ ?_ ?_
        | (with_reducible refine Within.mk ?_ ?hk
           case hk => (repeat' apply And.intro) <;> first | with_reducible exact .inr rfl | exact .inl (Mask.bit hm rfl)
           first
            | with_reducible assumption | with_reducible apply within_State_setFld | with_reducible refine Within.foldl _ ?_ ?_
            | with_reducible refine Within.foldlFst _ ?_ ?_ | with_reducible refine Within.foldlSnd _ ?_ ?_))

theorem within_State_deepWake {m : Nat} {s₀ s : State} (hm : m ||| 0x20000070000000000000000000000000004000003FFFFFFFF = m)
    (cause : Nat) (h₀ : Within m s₀ s) : Within m s₀ (State.deepWake s cause) := by
  unfold State.deepWake
  repeat' first
    | with_reducible assumption | with_reducible intro _ | with_reducible apply Within.wr
    | with_reducible apply Within.coreReset _ (Mask.sub hm rfl) | with_reducible apply within_State_setFld
    | with_reducible apply within_State_keepSegments (Mask.sub hm rfl) | exact touch_DEV_FW_VER (Mask.bit hm rfl)
    | exact touch_DEV_STAT (Mask.bit hm rfl) | exact touch_DEV_STATE (Mask.bit hm rfl) | exact touch_FC_HELM_STATE (Mask.bit hm rfl)
    | exact Touch.any (Mask.bit hm rfl) | with_reducible refine Within.ite ?_ ?_ | split | (extract_lets; split)
    | (with_reducible refine Within.mk ?_ ?hk
       case hk => (repeat' apply And.intro) <;> first | with_reducible exact .inr rfl | exact .inl (Mask.bit hm rfl)
       first
        | with_reducible assumption | with_reducible apply Within.wr | with_reducible apply Within.coreReset _ (Mask.sub hm rfl)
        | with_reducible apply within_State_setFld | with_reducible apply within_State_keepSegments (Mask.sub hm rfl)
        | with_reducible refine Within.ite ?_ ?_ | split | (extract_lets; split)
        | (with_reducible refine Within.mk ?_ ?hk
           case hk => (repeat' apply And.intro) <;> first | with_reducible exact .inr rfl | exact .inl (Mask.bit hm rfl)
           first
            | with_reducible assumption | with_reducible apply Within.wr | with_reducible apply Within.coreReset _ (Mask.sub hm rfl)
            | with_reducible apply within_State_setFld | with_reducible apply within_State_keepSegments (Mask.sub hm rfl)
            | with_reducible refine Within.ite ?_ ?_ | split | (extract_lets; split)))

theorem within_State_requestWake {m : Nat} {s₀ s : State}
    (hm : m ||| 0x100000000000020000070000000000000000000000000004000003FFFFFFFF = m) (c : Nat) (cause : Nat) (h₀ : Within m s₀ s) :
    Within m s₀ (State.requestWake s c cause) := by
  unfold State.requestWake
  repeat' first
    | with_reducible assumption | with_reducible intro _ | with_reducible apply within_State_setFld
    | with_reducible apply within_State_deepWake (Mask.sub hm rfl) | exact touch_CV_STATE (Mask.bit hm rfl) _
    | exact Touch.any (Mask.bit hm rfl) | with_reducible refine Within.ite ?_ ?_ | split | (extract_lets; split)
    | (with_reducible refine Within.mk ?_ ?hk
       case hk => (repeat' apply And.intro) <;> first | with_reducible exact .inr rfl | exact .inl (Mask.bit hm rfl)
       first
        | with_reducible assumption | with_reducible apply within_State_setFld
        | with_reducible apply within_State_deepWake (Mask.sub hm rfl) | with_reducible refine Within.ite ?_ ?_ | split
        | (extract_lets; split)
        | (with_reducible refine Within.mk ?_ ?hk
           case hk => (repeat' apply And.intro) <;> first | with_reducible exact .inr rfl | exact .inl (Mask.bit hm rfl)
           first
            | with_reducible assumption | with_reducible apply within_State_setFld
            | with_reducible apply within_State_deepWake (Mask.sub hm rfl) | with_reducible refine Within.ite ?_ ?_ | split
            | (extract_lets; split)))

theorem within_State_life {m : Nat} (hm : m ||| 0x200000000000000000000000000000000000000000000080000000 = m) {s₀ s : State} (i : Nat)
    (h₀ : Within m s₀ s) :
    Within m s₀ (State.life s i) := by
  have hA := h₀.1.life i
  unfold State.life at hA ⊢
  split at hA
  · rw [if_pos ‹_›]
    exact Within.wr _ _ (touch_LS_STAT (Mask.bit hm rfl)) h₀
  · rw [if_neg ‹_›]
    exact h₀.part .counts (Mask.bit hm rfl) hA rfl (fun p hp => by cases p <;> first | rfl | trivial | exact absurd rfl hp)

end Sys2Proof.Machine
end

