-- ==== Sys2Proof/Laws/PinOpsWithin.lean ====
section
/-! SUPPORT. What the definitions of Machine/PinOps.lean keep, and all that they may change (Laws/Within.lean). -/

namespace Sys2Proof.Machine

set_option linter.all false

theorem within_State_noteClip {m : Nat} {s₀ s : State}
    (hm : m ||| 0x20000000000000000000000000000000000000000000000000000000000000000000000000000000000000000000000000000000 = m)
    (n : Nat) (off : Nat) (h₀ : Within m s₀ s) : Within m s₀ (State.noteClip s n off) := by
  unfold State.noteClip
  repeat' first
    | with_reducible assumption | with_reducible apply within_State_raise | with_reducible apply within_State_raiseIf
    | exact touch_PS_STAT (Mask.bit hm rfl) _

theorem within_State_reclip {m : Nat} {s₀ s : State}
    (hm : m ||| 0x20000000000000000000000000000000000000000000000000000000000000000000000000000000000000000000000000000000 = m)
    (n : Nat) (h₀ : Within m s₀ s) : Within m s₀ (State.reclip s n) := by
  unfold State.reclip
  repeat' first
    | with_reducible assumption | with_reducible apply within_State_noteClip (Mask.sub hm rfl)

theorem within_State_noteWindows {m : Nat} {s₀ s : State} (hm : m ||| 0x80 = m) (n : Nat) (h₀ : Within m s₀ s) :
    Within m s₀ (State.noteWindows s n) := by
  unfold State.noteWindows
  repeat' first
    | with_reducible assumption | with_reducible intro _ | with_reducible apply within_State_modPin (Mask.sub hm rfl)
    | with_reducible refine Within.ite ?_ ?_ | split | (extract_lets; split)
    | (with_reducible refine Within.mk ?_ ?hk
       case hk => (repeat' apply And.intro) <;> first | with_reducible exact .inr rfl | exact .inl (Mask.bit hm rfl)
       first
        | with_reducible assumption | with_reducible apply within_State_modPin (Mask.sub hm rfl)
        | with_reducible refine Within.ite ?_ ?_ | split | (extract_lets; split)
        | (with_reducible refine Within.mk ?_ ?hk
           case hk => (repeat' apply And.intro) <;> first | with_reducible exact .inr rfl | exact .inl (Mask.bit hm rfl)
           first
            | with_reducible assumption | with_reducible apply within_State_modPin (Mask.sub hm rfl)
            | with_reducible refine Within.ite ?_ ?_ | split | (extract_lets; split)))

theorem within_State_noteForced {m : Nat} {s₀ s : State} (hm : m ||| 0x80 = m) (h₀ : Within m s₀ s) :
    Within m s₀ (State.noteForced s) := by
  unfold State.noteForced
  repeat' first
    | with_reducible assumption | with_reducible intro _ | with_reducible apply within_State_noteWindows (Mask.sub hm rfl)
    | with_reducible refine Within.each ?_ ?_

theorem within_State_firePinEvent {m : Nat} {s₀ s : State}
    (hm : m ||| 0x800000000000000000000000000000000000000000100000002000020000070000000000040020000000000004000003FFFFFFFF = m)
    (n : Nat) (st : Nat) (h₀ : Within m s₀ s) : Within m s₀ (State.firePinEvent s n st) := by
  unfold State.firePinEvent
  repeat' first
    | with_reducible assumption | with_reducible apply within_State_setFld
    | with_reducible apply within_State_pushEvent (Mask.sub hm rfl) | with_reducible apply within_State_requestWake (Mask.sub hm rfl)
    | with_reducible apply within_State_life (Mask.sub hm rfl) | exact touch_PS_EVT (Mask.bit hm rfl) _
    | exact Touch.any (Mask.bit hm rfl) | with_reducible refine Within.ite ?_ ?_ | split | (extract_lets; split)

theorem within_State_setDecisions {m : Nat} {s₀ s : State}
    (hm : m ||| 0xC00000000000000000000000000000000000000000100000002000020000070000000000040020000000000004000003FFFFFFFF = m)
    (n : Nat) (hi : Dec) (lo : Dec) (h₀ : Within m s₀ s) : Within m s₀ (State.setDecisions s n hi lo) := by
  unfold State.setDecisions
  repeat' first
    | with_reducible assumption | with_reducible apply within_State_setFld
    | with_reducible apply within_State_noteWindows (Mask.sub hm rfl) | with_reducible apply within_State_firePinEvent (Mask.sub hm rfl)
    | exact touch_PS_CMP_STATE (Mask.bit hm rfl) _ | exact Touch.any (Mask.bit hm rfl) | with_reducible refine Within.ite ?_ ?_ | split
    | (extract_lets; split)

theorem within_State_undetermine {m : Nat} {s₀ s : State}
    (hm : m ||| 0xC00000000000000000000000000000000000000000100000002000020000070000000000040020000000000004000003FFFFFFFF = m)
    (n : Nat) (h₀ : Within m s₀ s) : Within m s₀ (State.undetermine s n) := by
  unfold State.undetermine
  repeat' first
    | with_reducible assumption | with_reducible apply within_State_setDecisions (Mask.sub hm rfl) | exact Touch.any (Mask.bit hm rfl)

theorem within_State_startComparator {m : Nat} {s₀ s : State}
    (hm : m ||| 0xC00000000000000000000000000000000000000000100000002000020000070000000000040020000000000004000003FFFFFFFF = m)
    (n : Nat) (h₀ : Within m s₀ s) : Within m s₀ (State.startComparator s n) := by
  unfold State.startComparator
  repeat' first
    | with_reducible assumption | with_reducible intro _ | with_reducible apply within_State_setFld
    | with_reducible apply within_State_modPin (Mask.sub hm rfl) | with_reducible apply within_State_undetermine (Mask.sub hm rfl)
    | exact touch_PS_CMP_STATE (Mask.bit hm rfl) _ | exact Touch.any (Mask.bit hm rfl) | with_reducible refine Within.ite ?_ ?_ | split
    | (extract_lets; split)
    | (with_reducible refine Within.mk ?_ ?hk
       case hk => (repeat' apply And.intro) <;> first | with_reducible exact .inr rfl | exact .inl (Mask.bit hm rfl)
       first
        | with_reducible assumption | with_reducible apply within_State_setFld
        | with_reducible apply within_State_modPin (Mask.sub hm rfl) | with_reducible apply within_State_undetermine (Mask.sub hm rfl)
        | with_reducible refine Within.ite ?_ ?_ | split | (extract_lets; split)
        | (with_reducible refine Within.mk ?_ ?hk
           case hk => (repeat' apply And.intro) <;> first | with_reducible exact .inr rfl | exact .inl (Mask.bit hm rfl)
           first
            | with_reducible assumption | with_reducible apply within_State_setFld
            | with_reducible apply within_State_modPin (Mask.sub hm rfl)
            | with_reducible apply within_State_undetermine (Mask.sub hm rfl) | with_reducible refine Within.ite ?_ ?_ | split
            | (extract_lets; split)))

theorem within_State_holdThresholds {m : Nat} {s₀ s : State} (hm : m ||| 0x80 = m) (n : Nat) (h₀ : Within m s₀ s) :
    Within m s₀ (State.holdThresholds s n) := by
  unfold State.holdThresholds
  repeat' first
    | with_reducible assumption | with_reducible intro _ | with_reducible apply within_State_modPin (Mask.sub hm rfl)
    | (with_reducible refine Within.mk ?_ ?hk
       case hk => (repeat' apply And.intro) <;> first | with_reducible exact .inr rfl | exact .inl (Mask.bit hm rfl)
       first
        | with_reducible assumption | with_reducible apply within_State_modPin (Mask.sub hm rfl))

end Sys2Proof.Machine
end

