-- ==== Sys2Proof/Laws/WavesWithin.lean ====
section
/-! SUPPORT. What the definitions of Machine/Waves.lean keep, and all that they may change (Laws/Within.lean). -/

namespace Sys2Proof.Machine

set_option linter.all false

theorem within_State_noteLoss {m : Nat} {s₀ s : State}
    (hm : m ||| 0x60000000000000000000000000000000000000000000000000000000000000000000000 = m) (k : Nat) (drives : Nat)
    (strobes : Nat) (h₀ : Within m s₀ s) : Within m s₀ (State.noteLoss s k drives strobes) := by
  unfold State.noteLoss
  repeat' first
    | with_reducible assumption | with_reducible apply within_State_raise | with_reducible apply within_State_satAdd
    | exact touch_WV_LOSS (Mask.bit hm rfl) _ | exact touch_WV_STAT (Mask.bit hm rfl) _ | with_reducible refine Within.ite ?_ ?_ | split
    | (extract_lets; split)

theorem within_State_issuePin {m : Nat} {s₀ s : State}
    (hm : m ||| 0x60000000000000000000000000000000000000000000000000000000000000000000080 = m) (k : Nat) (start : Nat) (wave : Nat)
    (data : Nat) (bus : Nat) (acc : StepRec) (p : Nat) (h₀ : Within m s₀ s) :
    Within m s₀ (State.issuePin s k start wave data bus acc p).1 := by
  unfold State.issuePin
  repeat' first
    | with_reducible assumption | with_reducible intro _ | with_reducible apply within_State_raise
    | with_reducible apply within_State_raiseIf | with_reducible apply within_State_setPin (Mask.sub hm rfl)
    | with_reducible apply within_State_noteLoss (Mask.sub hm rfl) | with_reducible refine Within.foldl _ ?_ ?_
    | with_reducible refine Within.foldlFst _ ?_ ?_ | with_reducible refine Within.foldlSnd _ ?_ ?_
    | with_reducible refine Within.snd (by assumption) ?_ | with_reducible refine Within.fst (by assumption) ?_
    | exact touch_WV_STAT (Mask.bit hm rfl) _ | with_reducible refine Within.ite ?_ ?_ | split | (extract_lets; split)
    | (with_reducible refine Within.mk ?_ ?hk
       case hk => (repeat' apply And.intro) <;> first | with_reducible exact .inr rfl | exact .inl (Mask.bit hm rfl)
       first
        | with_reducible assumption | with_reducible apply within_State_raise | with_reducible apply within_State_raiseIf
        | with_reducible apply within_State_setPin (Mask.sub hm rfl) | with_reducible apply within_State_noteLoss (Mask.sub hm rfl)
        | with_reducible refine Within.foldl _ ?_ ?_ | with_reducible refine Within.foldlFst _ ?_ ?_
        | with_reducible refine Within.foldlSnd _ ?_ ?_ | with_reducible refine Within.snd (by assumption) ?_
        | with_reducible refine Within.fst (by assumption) ?_ | with_reducible refine Within.ite ?_ ?_ | split | (extract_lets; split)
        | (with_reducible refine Within.mk ?_ ?hk
           case hk => (repeat' apply And.intro) <;> first | with_reducible exact .inr rfl | exact .inl (Mask.bit hm rfl)
           first
            | with_reducible assumption | with_reducible apply within_State_raise | with_reducible apply within_State_raiseIf
            | with_reducible apply within_State_setPin (Mask.sub hm rfl) | with_reducible apply within_State_noteLoss (Mask.sub hm rfl)
            | with_reducible refine Within.foldl _ ?_ ?_ | with_reducible refine Within.foldlFst _ ?_ ?_
            | with_reducible refine Within.foldlSnd _ ?_ ?_ | with_reducible refine Within.snd (by assumption) ?_
            | with_reducible refine Within.fst (by assumption) ?_ | with_reducible refine Within.ite ?_ ?_ | split
            | (extract_lets; split)))

theorem within_State_issuePins {m : Nat} {s₀ s : State}
    (hm : m ||| 0x60000000000000000000000000000000000000000000000000000000000000000000080 = m) (k : Nat) (start : Nat) (wave : Nat)
    (data : Nat) (bus : Nat) (acc : StepRec) (h₀ : Within m s₀ s) : Within m s₀ (State.issuePins s k start wave data bus acc).1 := by
  unfold State.issuePins
  repeat' first
    | with_reducible assumption | with_reducible intro _ | with_reducible apply within_State_issuePin (Mask.sub hm rfl)
    | with_reducible refine Within.foldl _ ?_ ?_ | with_reducible refine Within.foldlFst _ ?_ ?_
    | with_reducible refine Within.foldlSnd _ ?_ ?_ | with_reducible refine Within.ite ?_ ?_ | split | (extract_lets; split)

theorem within_State_pruneRecs {m : Nat} {s₀ s : State} (hm : m ||| 0x40 = m) (k : Nat) (h₀ : Within m s₀ s) :
    Within m s₀ (State.pruneRecs s k) := by
  unfold State.pruneRecs
  repeat' first
    | with_reducible assumption | with_reducible intro _ | with_reducible apply within_State_modStrand (Mask.sub hm rfl)
    | (with_reducible refine Within.mk ?_ ?hk
       case hk => (repeat' apply And.intro) <;> first | with_reducible exact .inr rfl | exact .inl (Mask.bit hm rfl)
       first
        | with_reducible assumption | with_reducible apply within_State_modStrand (Mask.sub hm rfl))

theorem within_State_resolveStrobe {m : Nat} {s₀ s : State}
    (hm : m ||| 0x100000000000000000000000000000000000000000000000000000000000000000000000040 = m) (k : Nat) (step : Nat) (p : Nat)
    (t : Nat) (failed : Bool) (nodec : Bool) (h₀ : Within m s₀ s) : Within m s₀ (State.resolveStrobe s k step p t failed nodec) := by
  unfold State.resolveStrobe
  repeat' first
    | with_reducible assumption | with_reducible intro _ | with_reducible apply Within.free (Mask.bit hm rfl)
    | with_reducible apply within_State_raise | with_reducible apply within_State_raiseIf
    | with_reducible apply within_State_modStrand (Mask.sub hm rfl) | with_reducible apply within_State_pruneRecs (Mask.sub hm rfl)
    | exact touch_SQ_STAT (Mask.bit hm rfl) _ | with_reducible refine Within.ite ?_ ?_ | split | (extract_lets; split)
    | (with_reducible refine Within.mk ?_ ?hk
       case hk => (repeat' apply And.intro) <;> first | with_reducible exact .inr rfl | exact .inl (Mask.bit hm rfl)
       first
        | with_reducible assumption | with_reducible apply Within.free (Mask.bit hm rfl) | with_reducible apply within_State_raise
        | with_reducible apply within_State_raiseIf | with_reducible apply within_State_modStrand (Mask.sub hm rfl)
        | with_reducible apply within_State_pruneRecs (Mask.sub hm rfl) | with_reducible refine Within.ite ?_ ?_ | split
        | (extract_lets; split)
        | (with_reducible refine Within.mk ?_ ?hk
           case hk => (repeat' apply And.intro) <;> first | with_reducible exact .inr rfl | exact .inl (Mask.bit hm rfl)
           first
            | with_reducible assumption | with_reducible apply Within.free (Mask.bit hm rfl) | with_reducible apply within_State_raise
            | with_reducible apply within_State_raiseIf | with_reducible apply within_State_modStrand (Mask.sub hm rfl)
            | with_reducible apply within_State_pruneRecs (Mask.sub hm rfl) | with_reducible refine Within.ite ?_ ?_ | split
            | (extract_lets; split)))

theorem within_State_countMasked {m : Nat} {s₀ s : State}
    (hm : m ||| 0x10000000000000002000000000000000000000000000000000000000000000000000000000000000000000000000000000000000 = m)
    (n : Nat) (first : Bool) (h₀ : Within m s₀ s) : Within m s₀ (State.countMasked s n first) := by
  unfold State.countMasked
  repeat' first
    | with_reducible assumption | with_reducible apply Within.wr | with_reducible apply within_State_satAdd
    | exact touch_FL_MASKED (Mask.bit hm rfl) _ | exact touch_PS_BW_STAT (Mask.bit hm rfl) _ | with_reducible refine Within.ite ?_ ?_
    | split | (extract_lets; split)

theorem within_State_conclude {m : Nat} {s₀ s : State}
    (hm : m ||| 0x30000000000000002000000000000100000000000000000000000000000000000000000000000000000000000000000000000040 = m)
    (n : Nat) (step : Nat) (t : Nat) (mask1 : Bool) (mask2 : Bool) (ok : Bool) (nodec : Bool) (h₀ : Within m s₀ s) :
    Within m s₀ (State.conclude s n step t mask1 mask2 ok nodec) := by
  unfold State.conclude
  repeat' first
    | with_reducible assumption | with_reducible apply within_State_raise | with_reducible apply within_State_raiseIf
    | with_reducible apply within_State_resolveStrobe (Mask.sub hm rfl)
    | with_reducible apply within_State_countMasked (Mask.sub hm rfl) | exact touch_PS_STAT (Mask.bit hm rfl) _
    | with_reducible refine Within.ite ?_ ?_ | split | (extract_lets; split)

theorem within_State_concludeOrder {m : Nat} {s₀ s : State}
    (hm : m ||| 0x30000000000000002000000000000100020000000000000000000000000000000000000000000000000000000000000000000040 = m)
    (n : Nat) (step : Nat) (t : Nat) (mask1 : Bool) (mask2 : Bool) (slow : Bool) (h₀ : Within m s₀ s) :
    Within m s₀ (State.concludeOrder s n step t mask1 mask2 slow) := by
  unfold State.concludeOrder
  repeat' first
    | with_reducible assumption | with_reducible apply within_State_raise | with_reducible apply within_State_raiseIf
    | with_reducible apply within_State_resolveStrobe (Mask.sub hm rfl)
    | with_reducible apply within_State_countMasked (Mask.sub hm rfl) | exact touch_WV_STAT (Mask.bit hm rfl) _ | exact touch_PS_STAT (Mask.bit hm rfl) _
    | with_reducible refine Within.ite ?_ ?_ | split | (extract_lets; split)

theorem within_execDriveEvent {m : Nat} {s₀ s : State}
    (hm : m ||| 0x20000000000000000000000000000000000000000000000000000000000000000000081 = m) (n : Fin 1536) (h₀ : Within m s₀ s) :
    AnswersWithin m s₀ (execDriveEvent n s) := by
  unfold execDriveEvent
  repeat' first
    | with_reducible assumption | with_reducible refine AnswersWithin.next ?_ | with_reducible intro _
    | with_reducible apply Within.advanceTo _ (Mask.bit hm rfl) | with_reducible apply within_State_raise
    | with_reducible apply within_State_raiseIf | with_reducible apply within_State_modPin (Mask.sub hm rfl)
    | with_reducible refine Within.snd (by assumption) ?_ | with_reducible refine Within.fst (by assumption) ?_
    | exact touch_WV_STAT (Mask.bit hm rfl) _ | with_reducible refine Within.ite ?_ ?_ | split | (extract_lets; split)
    | (with_reducible refine Within.mk ?_ ?hk
       case hk => (repeat' apply And.intro) <;> first | with_reducible exact .inr rfl | exact .inl (Mask.bit hm rfl)
       first
        | with_reducible assumption | with_reducible apply Within.advanceTo _ (Mask.bit hm rfl)
        | with_reducible apply within_State_raise | with_reducible apply within_State_raiseIf
        | with_reducible apply within_State_modPin (Mask.sub hm rfl) | with_reducible refine Within.snd (by assumption) ?_
        | with_reducible refine Within.fst (by assumption) ?_ | with_reducible refine Within.ite ?_ ?_ | split | (extract_lets; split)
        | (with_reducible refine Within.mk ?_ ?hk
           case hk => (repeat' apply And.intro) <;> first | with_reducible exact .inr rfl | exact .inl (Mask.bit hm rfl)
           first
            | with_reducible assumption | with_reducible apply Within.advanceTo _ (Mask.bit hm rfl)
            | with_reducible apply within_State_raise | with_reducible apply within_State_raiseIf
            | with_reducible apply within_State_modPin (Mask.sub hm rfl) | with_reducible refine Within.snd (by assumption) ?_
            | with_reducible refine Within.fst (by assumption) ?_ | with_reducible refine Within.ite ?_ ?_ | split
            | (extract_lets; split)))

theorem within_State_fireStrobe {m : Nat} {s₀ s : State}
    (hm : m ||| 0x300000000000000020000000000001000200000000000000000000000000000000000000000000000000000000000000000000C0 = m)
    (n : Nat) (e : StrobeEv) (act : Nat) (delayed : Bool) (h₀ : Within m s₀ s) : Within m s₀ (State.fireStrobe s n e act delayed) := by
  unfold State.fireStrobe
  repeat' first
    | with_reducible assumption | with_reducible intro _ | with_reducible apply within_State_modPin (Mask.sub hm rfl)
    | with_reducible apply within_State_conclude (Mask.sub hm rfl) | with_reducible apply within_State_concludeOrder (Mask.sub hm rfl)
    | with_reducible refine Within.snd (by assumption) ?_ | with_reducible refine Within.fst (by assumption) ?_
    | with_reducible refine Within.ite ?_ ?_ | split | (extract_lets; split)
    | (with_reducible refine Within.mk ?_ ?hk
       case hk => (repeat' apply And.intro) <;> first | with_reducible exact .inr rfl | exact .inl (Mask.bit hm rfl)
       first
        | with_reducible assumption | with_reducible apply within_State_modPin (Mask.sub hm rfl)
        | with_reducible apply within_State_conclude (Mask.sub hm rfl)
        | with_reducible apply within_State_concludeOrder (Mask.sub hm rfl) | with_reducible refine Within.snd (by assumption) ?_
        | with_reducible refine Within.fst (by assumption) ?_ | with_reducible refine Within.ite ?_ ?_ | split | (extract_lets; split)
        | (with_reducible refine Within.mk ?_ ?hk
           case hk => (repeat' apply And.intro) <;> first | with_reducible exact .inr rfl | exact .inl (Mask.bit hm rfl)
           first
            | with_reducible assumption | with_reducible apply within_State_modPin (Mask.sub hm rfl)
            | with_reducible apply within_State_conclude (Mask.sub hm rfl)
            | with_reducible apply within_State_concludeOrder (Mask.sub hm rfl) | with_reducible refine Within.snd (by assumption) ?_
            | with_reducible refine Within.fst (by assumption) ?_ | with_reducible refine Within.ite ?_ ?_ | split
            | (extract_lets; split)))

theorem within_State_wvAdvance {m : Nat} {s₀ s : State}
    (hm : m ||| 0x100000000000000000000000000000000000000000000000000000000000000000000000 = m) (k : Nat) (h₀ : Within m s₀ s) :
    Within m s₀ (State.wvAdvance s k) := by
  unfold State.wvAdvance
  repeat' first
    | with_reducible assumption | with_reducible apply within_State_setFld | exact touch_WV_ADDR (Mask.bit hm rfl) _
    | with_reducible refine Within.ite ?_ ?_ | split | (extract_lets; split)

theorem within_State_wvWrite {m : Nat} {s₀ s : State}
    (hm : m ||| 0x120000000000000000000000000000000000000000000000000000000000000000000040 = m) (k : Nat) (al : Alias) (d : Word)
    (h₀ : Within m s₀ s) : Within m s₀ (State.wvWrite s k al d) := by
  unfold State.wvWrite
  repeat' first
    | with_reducible assumption | with_reducible intro _ | with_reducible apply within_State_raise
    | with_reducible apply within_State_modStrand (Mask.sub hm rfl) | with_reducible apply within_State_wvAdvance (Mask.sub hm rfl)
    | exact touch_WV_STAT (Mask.bit hm rfl) _ | with_reducible refine Within.ite ?_ ?_ | split | (extract_lets; split)
    | (with_reducible refine Within.mk ?_ ?hk
       case hk => (repeat' apply And.intro) <;> first | with_reducible exact .inr rfl | exact .inl (Mask.bit hm rfl)
       first
        | with_reducible assumption | with_reducible apply within_State_raise
        | with_reducible apply within_State_modStrand (Mask.sub hm rfl) | with_reducible apply within_State_wvAdvance (Mask.sub hm rfl)
        | with_reducible refine Within.ite ?_ ?_ | split | (extract_lets; split)
        | (with_reducible refine Within.mk ?_ ?hk
           case hk => (repeat' apply And.intro) <;> first | with_reducible exact .inr rfl | exact .inl (Mask.bit hm rfl)
           first
            | with_reducible assumption | with_reducible apply within_State_raise
            | with_reducible apply within_State_modStrand (Mask.sub hm rfl)
            | with_reducible apply within_State_wvAdvance (Mask.sub hm rfl) | with_reducible refine Within.ite ?_ ?_ | split
            | (extract_lets; split)))

theorem within_State_edAdvance {m : Nat} {s₀ s : State}
    (hm : m ||| 0x800000000000000000000000000000000000000000000000000000000000000000000000 = m) (k : Nat) (e : Nat)
    (h₀ : Within m s₀ s) : Within m s₀ (State.edAdvance s k e) := by
  unfold State.edAdvance
  repeat' first
    | with_reducible assumption | with_reducible apply within_State_setFld | exact touch_ED_ADDR (Mask.bit hm rfl) _
    | with_reducible refine Within.ite ?_ ?_ | split | (extract_lets; split)

theorem within_State_edWrite {m : Nat} {s₀ s : State}
    (hm : m ||| 0x820000000000000000000000000000000000000000000000000000000000000000000040 = m) (k : Nat) (e : Nat) (al : Alias)
    (d : Word) (h₀ : Within m s₀ s) : Within m s₀ (State.edWrite s k e al d) := by
  unfold State.edWrite
  repeat' first
    | with_reducible assumption | with_reducible intro _ | with_reducible apply within_State_raise
    | with_reducible apply within_State_modStrand (Mask.sub hm rfl) | with_reducible apply within_State_edAdvance (Mask.sub hm rfl)
    | exact touch_WV_STAT (Mask.bit hm rfl) _ | with_reducible refine Within.ite ?_ ?_ | split | (extract_lets; split)
    | (with_reducible refine Within.mk ?_ ?hk
       case hk => (repeat' apply And.intro) <;> first | with_reducible exact .inr rfl | exact .inl (Mask.bit hm rfl)
       first
        | with_reducible assumption | with_reducible apply within_State_raise
        | with_reducible apply within_State_modStrand (Mask.sub hm rfl) | with_reducible apply within_State_edAdvance (Mask.sub hm rfl)
        | with_reducible refine Within.ite ?_ ?_ | split | (extract_lets; split)
        | (with_reducible refine Within.mk ?_ ?hk
           case hk => (repeat' apply And.intro) <;> first | with_reducible exact .inr rfl | exact .inl (Mask.bit hm rfl)
           first
            | with_reducible assumption | with_reducible apply within_State_raise
            | with_reducible apply within_State_modStrand (Mask.sub hm rfl)
            | with_reducible apply within_State_edAdvance (Mask.sub hm rfl) | with_reducible refine Within.ite ?_ ?_ | split
            | (extract_lets; split)))

end Sys2Proof.Machine
end

