-- ==== Sys2Proof/Laws/AlpgWithin.lean ====
section
/-! SUPPORT. What the definitions of Machine/Alpg.lean keep, and all that they may change (Laws/Within.lean). -/

namespace Sys2Proof.Machine

set_option linter.all false

theorem within_State_saveAux {m : Nat} {s₀ s : State} (k : Nat) (base : Nat) (sel : Nat) (v : Option Nat)
    (ht0 : Touch m (strandA k (base + 4 * sel))) (h₀ : Within m s₀ s) : Within m s₀ (State.saveAux s k base sel v) := by
  unfold State.saveAux
  repeat' first
    | with_reducible assumption | with_reducible apply Within.wr | with_reducible refine Within.snd (by assumption) ?_
    | with_reducible refine Within.fst (by assumption) ?_ | with_reducible refine Within.ite ?_ ?_ | split | (extract_lets; split)

theorem within_State_microStep {m : Nat} {s₀ s : State}
    (hm : m ||| 0xE00400000000000000000000000000000000000000000000000000000000000000000000000000000040 = m) (k : Nat) (u : Nat)
    (h₀ : Within m s₀ s) : Within m s₀ (State.microStep s k u) := by
  unfold State.microStep
  repeat' first
    | with_reducible assumption | with_reducible intro _ | with_reducible apply within_State_raise
    | with_reducible apply within_State_raiseIf | with_reducible apply within_State_modStrand (Mask.sub hm rfl)
    | with_reducible apply within_State_saveAux | exact touch_AG_STAT (Mask.bit hm rfl) _
    | exact touch_AG_XA (Mask.bit hm rfl) _ _ (by unfold uopX; exact bitsOf_lt _ 4 (by decide))
    | exact touch_AG_YA (Mask.bit hm rfl) _ _ (by unfold uopY; exact bitsOf_lt _ 4 (by decide))
    | exact touch_AG_ZA (Mask.bit hm rfl) _ _ (by unfold uopZ; exact bitsOf_lt _ 4 (by decide)) | with_reducible refine Within.ite ?_ ?_
    | split | (extract_lets; split)
    | (with_reducible refine Within.mk ?_ ?hk
       case hk => (repeat' apply And.intro) <;> first | with_reducible exact .inr rfl | exact .inl (Mask.bit hm rfl)
       first
        | with_reducible assumption | with_reducible apply within_State_raise | with_reducible apply within_State_raiseIf
        | with_reducible apply within_State_modStrand (Mask.sub hm rfl) | with_reducible apply within_State_saveAux
        | with_reducible refine Within.ite ?_ ?_ | split | (extract_lets; split))

theorem within_State_alpgStart {m : Nat} {s₀ s : State} (hm : m ||| 0x40 = m) (k : Nat) (h₀ : Within m s₀ s) :
    Within m s₀ (State.alpgStart s k) := by
  unfold State.alpgStart
  repeat' first
    | with_reducible assumption | with_reducible intro _ | with_reducible apply within_State_modStrand (Mask.sub hm rfl)
    | (with_reducible refine Within.mk ?_ ?hk
       case hk => (repeat' apply And.intro) <;> first | with_reducible exact .inr rfl | exact .inl (Mask.bit hm rfl)
       first
        | with_reducible assumption | with_reducible apply within_State_modStrand (Mask.sub hm rfl))

theorem within_State_alpgCopy {m : Nat} {s₀ s : State} (hm : m ||| 0x200000040 = m) (leader : Nat) (k : Nat) (h₀ : Within m s₀ s) :
    Within m s₀ (State.alpgCopy s leader k) := by
  unfold State.alpgCopy
  repeat' first
    | with_reducible assumption | with_reducible intro _ | with_reducible apply Within.wr
    | with_reducible apply within_State_modStrand (Mask.sub hm rfl) | with_reducible refine Within.each ?_ ?_
    | exact Touch.any (Mask.bit hm rfl)
    | (with_reducible refine Within.mk ?_ ?hk
       case hk => (repeat' apply And.intro) <;> first | with_reducible exact .inr rfl | exact .inl (Mask.bit hm rfl)
       first
        | with_reducible assumption | with_reducible apply Within.wr | with_reducible apply within_State_modStrand (Mask.sub hm rfl)
        | with_reducible refine Within.each ?_ ?_)

theorem within_State_agAdvance {m : Nat} {s₀ s : State}
    (hm : m ||| 0x40000000000000000000000000000000000000000000000000000000000000000000000000000000000000 = m) (k : Nat)
    (h₀ : Within m s₀ s) : Within m s₀ (State.agAdvance s k) := by
  unfold State.agAdvance
  repeat' first
    | with_reducible assumption | with_reducible apply within_State_setFld | exact touch_AG_TAB_ADDR (Mask.bit hm rfl) _
    | with_reducible refine Within.ite ?_ ?_ | split | (extract_lets; split)

theorem within_State_agTabWrite {m : Nat} {s₀ s : State}
    (hm : m ||| 0x40000400000000000000000000000000000000000000000000000000000000000000000000000000000040 = m) (k : Nat) (al : Alias)
    (d : Word) (h₀ : Within m s₀ s) : Within m s₀ (State.agTabWrite s k al d) := by
  unfold State.agTabWrite
  repeat' first
    | with_reducible assumption | with_reducible intro _ | with_reducible apply within_State_raise
    | with_reducible apply within_State_modStrand (Mask.sub hm rfl) | with_reducible apply within_State_agAdvance (Mask.sub hm rfl)
    | with_reducible refine Within.snd (by assumption) ?_ | with_reducible refine Within.fst (by assumption) ?_
    | exact touch_AG_STAT (Mask.bit hm rfl) _ | with_reducible refine Within.ite ?_ ?_ | split | (extract_lets; split)
    | (with_reducible refine Within.mk ?_ ?hk
       case hk => (repeat' apply And.intro) <;> first | with_reducible exact .inr rfl | exact .inl (Mask.bit hm rfl)
       first
        | with_reducible assumption | with_reducible apply within_State_raise
        | with_reducible apply within_State_modStrand (Mask.sub hm rfl) | with_reducible apply within_State_agAdvance (Mask.sub hm rfl)
        | with_reducible refine Within.snd (by assumption) ?_ | with_reducible refine Within.fst (by assumption) ?_
        | with_reducible refine Within.ite ?_ ?_ | split | (extract_lets; split)
        | (with_reducible refine Within.mk ?_ ?hk
           case hk => (repeat' apply And.intro) <;> first | with_reducible exact .inr rfl | exact .inl (Mask.bit hm rfl)
           first
            | with_reducible assumption | with_reducible apply within_State_raise
            | with_reducible apply within_State_modStrand (Mask.sub hm rfl)
            | with_reducible apply within_State_agAdvance (Mask.sub hm rfl) | with_reducible refine Within.snd (by assumption) ?_
            | with_reducible refine Within.fst (by assumption) ?_ | with_reducible refine Within.ite ?_ ?_ | split
            | (extract_lets; split)))

end Sys2Proof.Machine
end

