-- ==== Sys2Proof/Laws/SourceWithin.lean ====
section
/-! SUPPORT. What the definitions of Machine/Source.lean keep, and all that they may change (Laws/Within.lean). -/

namespace Sys2Proof.Machine

set_option linter.all false

theorem within_State_setPmu {m : Nat} {s₀ s : State} (hm : m ||| 0x100 = m) (n : Nat) (v : Pmu) (h₀ : Within m s₀ s) :
    Within m s₀ (State.setPmu s n v) := by
  unfold State.setPmu
  repeat' first
    | with_reducible assumption
    | (with_reducible refine Within.mk ?_ ?hk
       case hk => (repeat' apply And.intro) <;> first | with_reducible exact .inr rfl | exact .inl (Mask.bit hm rfl)
       first
        | with_reducible assumption)

theorem within_State_modPmu {m : Nat} {s₀ s : State} (hm : m ||| 0x100 = m) (n : Nat) (f : Pmu → Pmu) (h₀ : Within m s₀ s) :
    Within m s₀ (State.modPmu s n f) := by
  unfold State.modPmu
  repeat' first
    | with_reducible assumption | with_reducible apply within_State_setPmu (Mask.sub hm rfl)

theorem within_State_setConv {m : Nat} {s₀ s : State} (hm : m ||| 0x200 = m) (n : Nat) (v : Conv) (h₀ : Within m s₀ s) :
    Within m s₀ (State.setConv s n v) := by
  unfold State.setConv
  repeat' first
    | with_reducible assumption
    | (with_reducible refine Within.mk ?_ ?hk
       case hk => (repeat' apply And.intro) <;> first | with_reducible exact .inr rfl | exact .inl (Mask.bit hm rfl)
       first
        | with_reducible assumption)

theorem within_State_modConv {m : Nat} {s₀ s : State} (hm : m ||| 0x200 = m) (n : Nat) (f : Conv → Conv) (h₀ : Within m s₀ s) :
    Within m s₀ (State.modConv s n f) := by
  unfold State.modConv
  repeat' first
    | with_reducible assumption | with_reducible apply within_State_setConv (Mask.sub hm rfl)

theorem within_State_disturb {m : Nat} {s₀ s : State} (hm : m ||| 0x200 = m) (n : Nat) (h₀ : Within m s₀ s) :
    Within m s₀ (State.disturb s n) := by
  unfold State.disturb
  repeat' first
    | with_reducible assumption | with_reducible intro _ | with_reducible apply within_State_modConv (Mask.sub hm rfl)
    | with_reducible refine Within.ite ?_ ?_ | split | (extract_lets; split)
    | (with_reducible refine Within.mk ?_ ?hk
       case hk => (repeat' apply And.intro) <;> first | with_reducible exact .inr rfl | exact .inl (Mask.bit hm rfl)
       first
        | with_reducible assumption | with_reducible apply within_State_modConv (Mask.sub hm rfl)
        | with_reducible refine Within.ite ?_ ?_ | split | (extract_lets; split))

theorem within_State_noteForceClip {m : Nat} {s₀ s : State}
    (hm : m ||| 0x8000000000000000000000000000000000000000000000000000000000000000000000000000000000000000000000000000000000 = m)
    (n : Nat) (h₀ : Within m s₀ s) : Within m s₀ (State.noteForceClip s n) := by
  unfold State.noteForceClip
  repeat' first
    | with_reducible assumption | with_reducible apply within_State_raise | with_reducible apply within_State_raiseIf
    | exact touch_PM_STAT (Mask.bit hm rfl) _

theorem within_State_noteRange {m : Nat} {s₀ s : State}
    (hm : m ||| 0x8000000000000000000000000000000000000000000000000000000000000000000000000000000000000000000000000000000000 = m)
    (n : Nat) (h₀ : Within m s₀ s) : Within m s₀ (State.noteRange s n) := by
  unfold State.noteRange
  repeat' first
    | with_reducible assumption | with_reducible apply within_State_raise | with_reducible apply within_State_raiseIf
    | exact touch_PM_STAT (Mask.bit hm rfl) _ | with_reducible refine Within.ite ?_ ?_ | split | (extract_lets; split)

theorem within_State_noteClamps {m : Nat} {s₀ s : State}
    (hm : m ||| 0x8000000000000000000000000000000000000000000000000000000000000000000000000000000000000000000000000000000000 = m)
    (n : Nat) (h₀ : Within m s₀ s) : Within m s₀ (State.noteClamps s n) := by
  unfold State.noteClamps
  repeat' first
    | with_reducible assumption | with_reducible apply within_State_raise | with_reducible apply within_State_raiseIf
    | exact touch_PM_STAT (Mask.bit hm rfl) _ | with_reducible refine Within.ite ?_ ?_ | split | (extract_lets; split)

theorem within_State_pmuTake {m : Nat} {s₀ s : State} (hm : m ||| 0x100 = m) (n : Nat) (h₀ : Within m s₀ s) :
    Within m s₀ (State.pmuTake s n) := by
  unfold State.pmuTake
  repeat' first
    | with_reducible assumption | with_reducible apply within_State_setPmu (Mask.sub hm rfl) | with_reducible refine Within.ite ?_ ?_
    | split | (extract_lets; split)
    | (with_reducible refine Within.mk ?_ ?hk
       case hk => (repeat' apply And.intro) <;> first | with_reducible exact .inr rfl | exact .inl (Mask.bit hm rfl)
       first
        | with_reducible assumption | with_reducible apply within_State_setPmu (Mask.sub hm rfl)
        | with_reducible refine Within.ite ?_ ?_ | split | (extract_lets; split)
        | (with_reducible refine Within.mk ?_ ?hk
           case hk => (repeat' apply And.intro) <;> first | with_reducible exact .inr rfl | exact .inl (Mask.bit hm rfl)
           first
            | with_reducible assumption | with_reducible apply within_State_setPmu (Mask.sub hm rfl)
            | with_reducible refine Within.ite ?_ ?_ | split | (extract_lets; split)))

theorem within_State_pmuEnd {m : Nat} {s₀ s : State} (hm : m ||| 0x100 = m) (n : Nat) (h₀ : Within m s₀ s) :
    Within m s₀ (State.pmuEnd s n) := by
  unfold State.pmuEnd
  repeat' first
    | with_reducible assumption | with_reducible apply within_State_setPmu (Mask.sub hm rfl)
    | with_reducible apply within_State_pmuTake (Mask.sub hm rfl) | with_reducible refine Within.ite ?_ ?_ | split
    | (extract_lets; split)
    | (with_reducible refine Within.mk ?_ ?hk
       case hk => (repeat' apply And.intro) <;> first | with_reducible exact .inr rfl | exact .inl (Mask.bit hm rfl)
       first
        | with_reducible assumption | with_reducible apply within_State_setPmu (Mask.sub hm rfl)
        | with_reducible apply within_State_pmuTake (Mask.sub hm rfl) | with_reducible refine Within.ite ?_ ?_ | split
        | (extract_lets; split))

theorem within_State_pmuOff {m : Nat} {s₀ s : State} (hm : m ||| 0x100 = m) (n : Nat) (h₀ : Within m s₀ s) :
    Within m s₀ (State.pmuOff s n) := by
  unfold State.pmuOff
  repeat' first
    | with_reducible assumption | with_reducible intro _ | with_reducible apply within_State_modPmu (Mask.sub hm rfl)

theorem within_State_enterForced {m : Nat} {s₀ s : State} (hm : m ||| 0x380 = m) (ps : List Nat) (h₀ : Within m s₀ s) :
    Within m s₀ (State.enterForced s ps) := by
  unfold State.enterForced
  repeat' first
    | with_reducible assumption | with_reducible intro _ | with_reducible apply within_State_noteWindows (Mask.sub hm rfl)
    | with_reducible apply within_State_disturb (Mask.sub hm rfl) | with_reducible apply within_State_pmuOff (Mask.sub hm rfl)
    | with_reducible refine Within.each ?_ ?_ | with_reducible refine Within.ite ?_ ?_ | split | (extract_lets; split)

theorem within_State_forcePins {m : Nat} {s₀ s : State} (hm : m ||| 0x800380 = m) (f : Forced → Forced) (delay : Nat)
    (h₀ : Within m s₀ s) : Within m s₀ (State.forcePins s f delay) := by
  unfold State.forcePins
  repeat' first
    | with_reducible assumption | with_reducible apply within_State_enterForced (Mask.sub hm rfl)
    | (with_reducible refine Within.mk ?_ ?hk
       case hk => (repeat' apply And.intro) <;> first | with_reducible exact .inr rfl | exact .inl (Mask.bit hm rfl)
       first
        | with_reducible assumption | with_reducible apply within_State_enterForced (Mask.sub hm rfl)
        | (with_reducible refine Within.mk ?_ ?hk
           case hk => (repeat' apply And.intro) <;> first | with_reducible exact .inr rfl | exact .inl (Mask.bit hm rfl)
           first
            | with_reducible assumption | with_reducible apply within_State_enterForced (Mask.sub hm rfl)))

theorem within_State_leaveForced {m : Nat} {s₀ s : State} (hm : m ||| 0x380 = m) (ps : List Nat) (h₀ : Within m s₀ s) :
    Within m s₀ (State.leaveForced s ps) := by
  unfold State.leaveForced
  repeat' first
    | with_reducible assumption | with_reducible intro _ | with_reducible apply within_State_noteWindows (Mask.sub hm rfl)
    | with_reducible apply within_State_disturb (Mask.sub hm rfl) | with_reducible apply within_State_pmuTake (Mask.sub hm rfl)
    | with_reducible refine Within.each ?_ ?_ | with_reducible refine Within.ite ?_ ?_ | split | (extract_lets; split)

theorem within_State_freePins {m : Nat} {s₀ s : State} (hm : m ||| 0x800380 = m) (f : Forced → Forced) (h₀ : Within m s₀ s) :
    Within m s₀ (State.freePins s f) := by
  unfold State.freePins
  repeat' first
    | with_reducible assumption | with_reducible apply within_State_leaveForced (Mask.sub hm rfl)
    | (with_reducible refine Within.mk ?_ ?hk
       case hk => (repeat' apply And.intro) <;> first | with_reducible exact .inr rfl | exact .inl (Mask.bit hm rfl)
       first
        | with_reducible assumption | with_reducible apply within_State_leaveForced (Mask.sub hm rfl))

theorem within_execPmuConnectClose {m : Nat} {s₀ s : State} (hm : m ||| 0x101 = m) (n : Fin 1536) (h₀ : Within m s₀ s) :
    AnswersWithin m s₀ (execPmuConnectClose n s) := by
  unfold execPmuConnectClose
  repeat' first
    | with_reducible assumption | with_reducible refine AnswersWithin.next ?_ | with_reducible intro _
    | with_reducible apply Within.advanceTo _ (Mask.bit hm rfl) | with_reducible apply within_State_modPmu (Mask.sub hm rfl)
    | with_reducible apply within_State_pmuEnd (Mask.sub hm rfl) | with_reducible refine Within.snd (by assumption) ?_
    | with_reducible refine Within.fst (by assumption) ?_ | with_reducible refine Within.ite ?_ ?_ | split | (extract_lets; split)
    | (with_reducible refine Within.mk ?_ ?hk
       case hk => (repeat' apply And.intro) <;> first | with_reducible exact .inr rfl | exact .inl (Mask.bit hm rfl)
       first
        | with_reducible assumption | with_reducible apply Within.advanceTo _ (Mask.bit hm rfl)
        | with_reducible apply within_State_modPmu (Mask.sub hm rfl) | with_reducible apply within_State_pmuEnd (Mask.sub hm rfl)
        | with_reducible refine Within.snd (by assumption) ?_ | with_reducible refine Within.fst (by assumption) ?_
        | with_reducible refine Within.ite ?_ ?_ | split | (extract_lets; split)
        | (with_reducible refine Within.mk ?_ ?hk
           case hk => (repeat' apply And.intro) <;> first | with_reducible exact .inr rfl | exact .inl (Mask.bit hm rfl)
           first
            | with_reducible assumption | with_reducible apply Within.advanceTo _ (Mask.bit hm rfl)
            | with_reducible apply within_State_modPmu (Mask.sub hm rfl) | with_reducible apply within_State_pmuEnd (Mask.sub hm rfl)
            | with_reducible refine Within.snd (by assumption) ?_ | with_reducible refine Within.fst (by assumption) ?_
            | with_reducible refine Within.ite ?_ ?_ | split | (extract_lets; split)))

theorem within_execPmuDisconnectOff {m : Nat} {s₀ s : State} (hm : m ||| 0x101 = m) (n : Fin 1536) (h₀ : Within m s₀ s) :
    AnswersWithin m s₀ (execPmuDisconnectOff n s) := by
  unfold execPmuDisconnectOff
  repeat' first
    | with_reducible assumption | with_reducible refine AnswersWithin.next ?_ | with_reducible refine AnswersWithin.ite ?_ ?_
    | with_reducible intro _ | with_reducible apply Within.advanceTo _ (Mask.bit hm rfl)
    | with_reducible apply within_State_modPmu (Mask.sub hm rfl) | with_reducible apply within_State_pmuEnd (Mask.sub hm rfl)
    | with_reducible refine Within.snd (by assumption) ?_ | with_reducible refine Within.fst (by assumption) ?_
    | with_reducible refine Within.ite ?_ ?_ | split | (extract_lets; split)
    | (with_reducible refine Within.mk ?_ ?hk
       case hk => (repeat' apply And.intro) <;> first | with_reducible exact .inr rfl | exact .inl (Mask.bit hm rfl)
       first
        | with_reducible assumption | with_reducible apply Within.advanceTo _ (Mask.bit hm rfl)
        | with_reducible apply within_State_modPmu (Mask.sub hm rfl) | with_reducible apply within_State_pmuEnd (Mask.sub hm rfl)
        | with_reducible refine Within.snd (by assumption) ?_ | with_reducible refine Within.fst (by assumption) ?_
        | with_reducible refine Within.ite ?_ ?_ | split | (extract_lets; split)
        | (with_reducible refine Within.mk ?_ ?hk
           case hk => (repeat' apply And.intro) <;> first | with_reducible exact .inr rfl | exact .inl (Mask.bit hm rfl)
           first
            | with_reducible assumption | with_reducible apply Within.advanceTo _ (Mask.bit hm rfl)
            | with_reducible apply within_State_modPmu (Mask.sub hm rfl) | with_reducible apply within_State_pmuEnd (Mask.sub hm rfl)
            | with_reducible refine Within.snd (by assumption) ?_ | with_reducible refine Within.fst (by assumption) ?_
            | with_reducible refine Within.ite ?_ ?_ | split | (extract_lets; split)))

theorem within_execPmuRangeLimitMove {m : Nat} {s₀ s : State}
    (hm : m ||| 0x8000000000000000000000000000000000000000000000000000000000000000000000000000000000000000000000000000000101 = m)
    (n : Fin 1536) (outside : Bool) (h₀ : Within m s₀ s) : AnswersWithin m s₀ (execPmuRangeLimitMove n outside s) := by
  unfold execPmuRangeLimitMove
  repeat' first
    | with_reducible assumption | with_reducible refine AnswersWithin.next ?_ | with_reducible intro _
    | with_reducible apply Within.advanceTo _ (Mask.bit hm rfl) | with_reducible apply within_State_raise
    | with_reducible apply within_State_raiseIf | with_reducible apply within_State_modPmu (Mask.sub hm rfl)
    | with_reducible refine Within.snd (by assumption) ?_ | with_reducible refine Within.fst (by assumption) ?_
    | exact touch_PM_STAT (Mask.bit hm rfl) _ | with_reducible refine Within.ite ?_ ?_ | split | (extract_lets; split)
    | (with_reducible refine Within.mk ?_ ?hk
       case hk => (repeat' apply And.intro) <;> first | with_reducible exact .inr rfl | exact .inl (Mask.bit hm rfl)
       first
        | with_reducible assumption | with_reducible apply Within.advanceTo _ (Mask.bit hm rfl)
        | with_reducible apply within_State_raise | with_reducible apply within_State_raiseIf
        | with_reducible apply within_State_modPmu (Mask.sub hm rfl) | with_reducible refine Within.snd (by assumption) ?_
        | with_reducible refine Within.fst (by assumption) ?_ | with_reducible refine Within.ite ?_ ?_ | split | (extract_lets; split)
        | (with_reducible refine Within.mk ?_ ?hk
           case hk => (repeat' apply And.intro) <;> first | with_reducible exact .inr rfl | exact .inl (Mask.bit hm rfl)
           first
            | with_reducible assumption | with_reducible apply Within.advanceTo _ (Mask.bit hm rfl)
            | with_reducible apply within_State_raise | with_reducible apply within_State_raiseIf
            | with_reducible apply within_State_modPmu (Mask.sub hm rfl) | with_reducible refine Within.snd (by assumption) ?_
            | with_reducible refine Within.fst (by assumption) ?_ | with_reducible refine Within.ite ?_ ?_ | split
            | (extract_lets; split)))

theorem within_execPmuRangeOldOpen {m : Nat} {s₀ s : State} (hm : m ||| 0x101 = m) (n : Fin 1536) (h₀ : Within m s₀ s) :
    AnswersWithin m s₀ (execPmuRangeOldOpen n s) := by
  unfold execPmuRangeOldOpen
  repeat' first
    | with_reducible assumption | with_reducible refine AnswersWithin.next ?_ | with_reducible intro _
    | with_reducible apply Within.advanceTo _ (Mask.bit hm rfl) | with_reducible apply within_State_modPmu (Mask.sub hm rfl)
    | with_reducible refine Within.snd (by assumption) ?_ | with_reducible refine Within.fst (by assumption) ?_
    | with_reducible refine Within.ite ?_ ?_ | split | (extract_lets; split)
    | (with_reducible refine Within.mk ?_ ?hk
       case hk => (repeat' apply And.intro) <;> first | with_reducible exact .inr rfl | exact .inl (Mask.bit hm rfl)
       first
        | with_reducible assumption | with_reducible apply Within.advanceTo _ (Mask.bit hm rfl)
        | with_reducible apply within_State_modPmu (Mask.sub hm rfl) | with_reducible refine Within.snd (by assumption) ?_
        | with_reducible refine Within.fst (by assumption) ?_ | with_reducible refine Within.ite ?_ ?_ | split | (extract_lets; split)
        | (with_reducible refine Within.mk ?_ ?hk
           case hk => (repeat' apply And.intro) <;> first | with_reducible exact .inr rfl | exact .inl (Mask.bit hm rfl)
           first
            | with_reducible assumption | with_reducible apply Within.advanceTo _ (Mask.bit hm rfl)
            | with_reducible apply within_State_modPmu (Mask.sub hm rfl) | with_reducible refine Within.snd (by assumption) ?_
            | with_reducible refine Within.fst (by assumption) ?_ | with_reducible refine Within.ite ?_ ?_ | split
            | (extract_lets; split)))

theorem within_execPmuRangeDone {m : Nat} {s₀ s : State} (hm : m ||| 0x100 = m) (n : Fin 1536) (h₀ : Within m s₀ s) :
    AnswersWithin m s₀ (execPmuRangeDone n s) := by
  unfold execPmuRangeDone
  repeat' first
    | with_reducible assumption | with_reducible refine AnswersWithin.next ?_ | with_reducible intro _
    | with_reducible apply within_State_modPmu (Mask.sub hm rfl) | with_reducible apply within_State_pmuEnd (Mask.sub hm rfl)
    | with_reducible refine Within.snd (by assumption) ?_ | with_reducible refine Within.fst (by assumption) ?_
    | with_reducible refine Within.ite ?_ ?_ | split | (extract_lets; split)
    | (with_reducible refine Within.mk ?_ ?hk
       case hk => (repeat' apply And.intro) <;> first | with_reducible exact .inr rfl | exact .inl (Mask.bit hm rfl)
       first
        | with_reducible assumption | with_reducible apply within_State_modPmu (Mask.sub hm rfl)
        | with_reducible apply within_State_pmuEnd (Mask.sub hm rfl) | with_reducible refine Within.snd (by assumption) ?_
        | with_reducible refine Within.fst (by assumption) ?_ | with_reducible refine Within.ite ?_ ?_ | split | (extract_lets; split)
        | (with_reducible refine Within.mk ?_ ?hk
           case hk => (repeat' apply And.intro) <;> first | with_reducible exact .inr rfl | exact .inl (Mask.bit hm rfl)
           first
            | with_reducible assumption | with_reducible apply within_State_modPmu (Mask.sub hm rfl)
            | with_reducible apply within_State_pmuEnd (Mask.sub hm rfl) | with_reducible refine Within.snd (by assumption) ?_
            | with_reducible refine Within.fst (by assumption) ?_ | with_reducible refine Within.ite ?_ ?_ | split
            | (extract_lets; split)))

theorem within_State_appliedPmCtrl {m : Nat} {s₀ s : State}
    (hm : m ||| 0x8000000000000000000000000000000000000000000000000000000000000000000000000000000000000000000000000000000300 = m)
    (n : Nat) (old : Word) (h₀ : Within m s₀ s) : Within m s₀ (State.appliedPmCtrl s n old) := by
  unfold State.appliedPmCtrl
  repeat' first
    | with_reducible assumption | with_reducible apply within_State_disturb (Mask.sub hm rfl)
    | with_reducible apply within_State_noteForceClip (Mask.sub hm rfl) | with_reducible apply within_State_noteRange (Mask.sub hm rfl)
    | with_reducible apply within_State_pmuTake (Mask.sub hm rfl) | with_reducible refine Within.ite ?_ ?_ | split
    | (extract_lets; split)

theorem within_State_appliedForce {m : Nat} {s₀ s : State}
    (hm : m ||| 0x8000000000000000000000000000000000000000000000000000000000000000000000000000000000000000000000000000000200 = m)
    (n : Nat) (old : Word) (h₀ : Within m s₀ s) : Within m s₀ (State.appliedForce s n old) := by
  unfold State.appliedForce
  repeat' first
    | with_reducible assumption | with_reducible apply within_State_raise | with_reducible apply within_State_raiseIf
    | with_reducible apply within_State_disturb (Mask.sub hm rfl) | with_reducible apply within_State_noteForceClip (Mask.sub hm rfl)
    | exact touch_PM_STAT (Mask.bit hm rfl) _ | with_reducible refine Within.ite ?_ ?_ | split | (extract_lets; split)

theorem within_State_forceDirect {m : Nat} {s₀ s : State}
    (hm : m ||| 0x8200000000000000000000000000000000000000000000000000000000000000000000000000000000000000000000000000000208 = m)
    (n : Nat) (d : Word) (h₀ : Within m s₀ s) : Within m s₀ (State.forceDirect s n d) := by
  unfold State.forceDirect
  repeat' first
    | with_reducible assumption | with_reducible apply Within.wr | with_reducible apply within_State_appliedForce (Mask.sub hm rfl)
    | exact touch_PM_FORCE (Mask.bit hm rfl) _ | with_reducible refine Within.ite ?_ ?_ | split | (extract_lets; split)
    | (with_reducible refine Within.mk ?_ ?hk
       case hk => (repeat' apply And.intro) <;> first | with_reducible exact .inr rfl | exact .inl (Mask.bit hm rfl)
       first
        | with_reducible assumption | with_reducible apply Within.wr | with_reducible apply within_State_appliedForce (Mask.sub hm rfl)
        | with_reducible refine Within.ite ?_ ?_ | split | (extract_lets; split))

theorem within_State_restartConv {m : Nat} {s₀ s : State}
    (hm : m ||| 0x100000000000000000000000000000000000000000000000000000000000000000000000000000000000000000000000000000000200 = m)
    (n : Nat) (h₀ : Within m s₀ s) : Within m s₀ (State.restartConv s n) := by
  unfold State.restartConv
  repeat' first
    | with_reducible assumption | with_reducible apply within_State_raise | with_reducible apply within_State_raiseIf
    | with_reducible apply within_State_setConv (Mask.sub hm rfl) | with_reducible refine Within.snd (by assumption) ?_
    | with_reducible refine Within.fst (by assumption) ?_ | exact touch_AD_STAT (Mask.bit hm rfl) _
    | with_reducible refine Within.ite ?_ ?_ | split | (extract_lets; split)

theorem within_State_appliedAd {m : Nat} {s₀ s : State}
    (hm : m ||| 0x100000000000000000000000000000000000000000000000000000000000000000000000000000000000000000000000000000000200 = m)
    (n : Nat) (h₀ : Within m s₀ s) : Within m s₀ (State.appliedAd s n) := by
  unfold State.appliedAd
  repeat' first
    | with_reducible assumption | with_reducible apply within_State_raise | with_reducible apply within_State_raiseIf
    | with_reducible apply within_State_restartConv (Mask.sub hm rfl) | exact touch_AD_STAT (Mask.bit hm rfl) _

theorem within_State_stopConv {m : Nat} {s₀ s : State}
    (hm : m ||| 0x100000000000000000000000000000000000000000000000000000000000000000000000000000000000000000000000000000000200 = m)
    (n : Nat) (h₀ : Within m s₀ s) : Within m s₀ (State.stopConv s n) := by
  unfold State.stopConv
  repeat' first
    | with_reducible assumption | with_reducible apply within_State_raise | with_reducible apply within_State_setConv (Mask.sub hm rfl)
    | exact touch_AD_STAT (Mask.bit hm rfl) _ | with_reducible refine Within.ite ?_ ?_ | split | (extract_lets; split)

theorem within_State_endConversion {m : Nat} {s₀ s : State}
    (hm : m ||| 0x180000000000000000000000000000000000000000000000000000000000000000000000000000000000000000000000000000000201 = m)
    (n : Nat) (raw : Int) (h₀ : Within m s₀ s) : Within m s₀ (State.endConversion s n raw) := by
  unfold State.endConversion
  repeat' first
    | with_reducible assumption | with_reducible apply Within.wr | with_reducible apply Within.advanceTo _ (Mask.bit hm rfl)
    | with_reducible apply within_State_raise | with_reducible apply within_State_raiseIf
    | with_reducible apply within_State_setConv (Mask.sub hm rfl) | with_reducible apply within_State_disturb (Mask.sub hm rfl)
    | with_reducible refine Within.snd (by assumption) ?_ | with_reducible refine Within.fst (by assumption) ?_
    | exact touch_AD_DATA (Mask.bit hm rfl) _ | exact touch_AD_STAT (Mask.bit hm rfl) _ | with_reducible refine Within.ite ?_ ?_ | split
    | (extract_lets; split)
    | (with_reducible refine Within.mk ?_ ?hk
       case hk => (repeat' apply And.intro) <;> first | with_reducible exact .inr rfl | exact .inl (Mask.bit hm rfl)
       first
        | with_reducible assumption | with_reducible apply Within.wr | with_reducible apply Within.advanceTo _ (Mask.bit hm rfl)
        | with_reducible apply within_State_raise | with_reducible apply within_State_raiseIf
        | with_reducible apply within_State_setConv (Mask.sub hm rfl) | with_reducible apply within_State_disturb (Mask.sub hm rfl)
        | with_reducible refine Within.snd (by assumption) ?_ | with_reducible refine Within.fst (by assumption) ?_
        | with_reducible refine Within.ite ?_ ?_ | split | (extract_lets; split))

theorem within_State_appliedFtw {m : Nat} {s₀ s : State}
    (hm : m ||| 0x8000000000000000000000000000000000000000000000000000000000000000000000000000000000000000040 = m) (k : Nat)
    (h₀ : Within m s₀ s) : Within m s₀ (State.appliedFtw s k) := by
  unfold State.appliedFtw
  repeat' first
    | with_reducible assumption | with_reducible intro _ | with_reducible apply within_State_raise
    | with_reducible apply within_State_raiseIf | with_reducible apply within_State_modStrand (Mask.sub hm rfl)
    | exact touch_SG_STAT (Mask.bit hm rfl) _
    | (with_reducible refine Within.mk ?_ ?hk
       case hk => (repeat' apply And.intro) <;> first | with_reducible exact .inr rfl | exact .inl (Mask.bit hm rfl)
       first
        | with_reducible assumption | with_reducible apply within_State_raise | with_reducible apply within_State_raiseIf
        | with_reducible apply within_State_modStrand (Mask.sub hm rfl))

theorem within_State_appliedSgCtrl {m : Nat} {s₀ s : State} (hm : m ||| 0x40 = m) (k : Nat) (old : Word) (h₀ : Within m s₀ s) :
    Within m s₀ (State.appliedSgCtrl s k old) := by
  unfold State.appliedSgCtrl
  repeat' first
    | with_reducible assumption | with_reducible intro _ | with_reducible apply within_State_modStrand (Mask.sub hm rfl)
    | with_reducible refine Within.ite ?_ ?_ | split | (extract_lets; split)
    | (with_reducible refine Within.mk ?_ ?hk
       case hk => (repeat' apply And.intro) <;> first | with_reducible exact .inr rfl | exact .inl (Mask.bit hm rfl)
       first
        | with_reducible assumption | with_reducible apply within_State_modStrand (Mask.sub hm rfl)
        | with_reducible refine Within.ite ?_ ?_ | split | (extract_lets; split))

theorem within_execSineSample {m : Nat} {s₀ s : State}
    (hm : m ||| 0x8000000000000000000000000000000000000000000000000000000000000000000000000000000000000000340 = m) (k : Fin 192)
    (h₀ : Within m s₀ s) : AnswersWithin m s₀ (execSineSample k s) := by
  unfold execSineSample
  repeat' first
    | with_reducible assumption | with_reducible refine AnswersWithin.next ?_ | with_reducible refine AnswersWithin.ite ?_ ?_
    | with_reducible intro _ | with_reducible apply within_State_raise | with_reducible apply within_State_raiseIf
    | with_reducible apply within_State_modStrand (Mask.sub hm rfl) | with_reducible apply within_State_modPmu (Mask.sub hm rfl)
    | with_reducible apply within_State_disturb (Mask.sub hm rfl) | with_reducible refine Within.each ?_ ?_
    | exact touch_SG_STAT (Mask.bit hm rfl) _ | with_reducible refine Within.ite ?_ ?_ | split | (extract_lets; split)
    | (with_reducible refine Within.mk ?_ ?hk
       case hk => (repeat' apply And.intro) <;> first | with_reducible exact .inr rfl | exact .inl (Mask.bit hm rfl)
       first
        | with_reducible assumption | with_reducible apply within_State_raise | with_reducible apply within_State_raiseIf
        | with_reducible apply within_State_modStrand (Mask.sub hm rfl) | with_reducible apply within_State_modPmu (Mask.sub hm rfl)
        | with_reducible apply within_State_disturb (Mask.sub hm rfl) | with_reducible refine Within.each ?_ ?_
        | with_reducible refine Within.ite ?_ ?_ | split | (extract_lets; split)
        | (with_reducible refine Within.mk ?_ ?hk
           case hk => (repeat' apply And.intro) <;> first | with_reducible exact .inr rfl | exact .inl (Mask.bit hm rfl)
           first
            | with_reducible assumption | with_reducible apply within_State_raise | with_reducible apply within_State_raiseIf
            | with_reducible apply within_State_modStrand (Mask.sub hm rfl)
            | with_reducible apply within_State_modPmu (Mask.sub hm rfl) | with_reducible apply within_State_disturb (Mask.sub hm rfl)
            | with_reducible refine Within.each ?_ ?_ | with_reducible refine Within.ite ?_ ?_ | split | (extract_lets; split)))

theorem within_State_sgAdvance {m : Nat} {s₀ s : State}
    (hm : m ||| 0x200000000000000000000000000000000000000000000000000000000000000000000000000000000000000000000 = m) (k : Nat)
    (h₀ : Within m s₀ s) : Within m s₀ (State.sgAdvance s k) := by
  unfold State.sgAdvance
  repeat' first
    | with_reducible assumption | with_reducible apply within_State_setFld | exact touch_SG_TAB_ADDR (Mask.bit hm rfl) _
    | with_reducible refine Within.ite ?_ ?_ | split | (extract_lets; split)

theorem within_State_sgWrite {m : Nat} {s₀ s : State}
    (hm : m ||| 0x208000000000000000000000000000000000000000000000000000000000000000000000000000000000000000040 = m) (k : Nat)
    (al : Alias) (d : Word) (h₀ : Within m s₀ s) : Within m s₀ (State.sgWrite s k al d) := by
  unfold State.sgWrite
  repeat' first
    | with_reducible assumption | with_reducible intro _ | with_reducible apply within_State_raise
    | with_reducible apply within_State_modStrand (Mask.sub hm rfl) | with_reducible apply within_State_sgAdvance (Mask.sub hm rfl)
    | exact touch_SG_STAT (Mask.bit hm rfl) _ | with_reducible refine Within.ite ?_ ?_ | split | (extract_lets; split)
    | (with_reducible refine Within.mk ?_ ?hk
       case hk => (repeat' apply And.intro) <;> first | with_reducible exact .inr rfl | exact .inl (Mask.bit hm rfl)
       first
        | with_reducible assumption | with_reducible apply within_State_raise
        | with_reducible apply within_State_modStrand (Mask.sub hm rfl) | with_reducible apply within_State_sgAdvance (Mask.sub hm rfl)
        | with_reducible refine Within.ite ?_ ?_ | split | (extract_lets; split)
        | (with_reducible refine Within.mk ?_ ?hk
           case hk => (repeat' apply And.intro) <;> first | with_reducible exact .inr rfl | exact .inl (Mask.bit hm rfl)
           first
            | with_reducible assumption | with_reducible apply within_State_raise
            | with_reducible apply within_State_modStrand (Mask.sub hm rfl)
            | with_reducible apply within_State_sgAdvance (Mask.sub hm rfl) | with_reducible refine Within.ite ?_ ?_ | split
            | (extract_lets; split)))

end Sys2Proof.Machine
end

