-- ==== Sys2Proof/Laws/TimeAcqWithin.lean ====
section
/-! SUPPORT. What the definitions of Machine/TimeAcq.lean keep, and all that they may change (Laws/Within.lean). -/

namespace Sys2Proof.Machine

set_option linter.all false

theorem within_State_setTdc {m : Nat} {s₀ s : State} (hm : m ||| 0x400 = m) (n : Nat) (v : Tdc) (h₀ : Within m s₀ s) :
    Within m s₀ (State.setTdc s n v) := by
  unfold State.setTdc
  repeat' first
    | with_reducible assumption
    | (with_reducible refine Within.mk ?_ ?hk
       case hk => (repeat' apply And.intro) <;> first | with_reducible exact .inr rfl | exact .inl (Mask.bit hm rfl)
       first
        | with_reducible assumption)

theorem within_State_modTdc {m : Nat} {s₀ s : State} (hm : m ||| 0x400 = m) (n : Nat) (f : Tdc → Tdc) (h₀ : Within m s₀ s) :
    Within m s₀ (State.modTdc s n f) := by
  unfold State.modTdc
  repeat' first
    | with_reducible assumption | with_reducible apply within_State_setTdc (Mask.sub hm rfl)

theorem within_State_tdComplete {m : Nat} {s₀ s : State}
    (hm : m ||| 0xF90000000000000000000000000000000000000000000000000000000000000000000000000000004002000000000000000000002000400 = m)
    (n : Nat) (status : Nat) (h₀ : Within m s₀ s) : Within m s₀ (State.tdComplete s n status) := by
  unfold State.tdComplete
  repeat' first
    | with_reducible assumption | with_reducible intro _ | with_reducible apply Within.wr | with_reducible apply within_State_setFld
    | with_reducible apply within_State_raise | with_reducible apply within_State_wr64
    | with_reducible apply within_State_pushEvent (Mask.sub hm rfl) | with_reducible apply within_State_modTdc (Mask.sub hm rfl)
    | exact touch_TD_MAX (Mask.bit hm rfl) _ | exact touch_TD_MEAN_HI (Mask.bit hm rfl) _ | exact touch_TD_MEAN_LO (Mask.bit hm rfl) _
    | exact touch_TD_MIN (Mask.bit hm rfl) _ | exact touch_TD_STAT (Mask.bit hm rfl) _ | exact touch_TD_STD (Mask.bit hm rfl) _
    | with_reducible refine Within.ite ?_ ?_ | split | (extract_lets; split)
    | (with_reducible refine Within.mk ?_ ?hk
       case hk => (repeat' apply And.intro) <;> first | with_reducible exact .inr rfl | exact .inl (Mask.bit hm rfl)
       first
        | with_reducible assumption | with_reducible apply Within.wr | with_reducible apply within_State_setFld
        | with_reducible apply within_State_raise | with_reducible apply within_State_wr64
        | with_reducible apply within_State_pushEvent (Mask.sub hm rfl) | with_reducible apply within_State_modTdc (Mask.sub hm rfl)
        | with_reducible refine Within.ite ?_ ?_ | split | (extract_lets; split))

theorem within_State_tdShot {m : Nat} {s₀ s : State}
    (hm : m ||| 0x1FB0000000000000000000000000000000000000000000000000000000000000000000000000000004002000000000000000000002000400 = m)
    (n : Nat) (v : Int) (h₀ : Within m s₀ s) : Within m s₀ (State.tdShot s n v) := by
  unfold State.tdShot
  repeat' first
    | with_reducible assumption | with_reducible intro _ | with_reducible apply Within.wr | with_reducible apply within_State_setFld
    | with_reducible apply within_State_raise | with_reducible apply within_State_raiseIf
    | with_reducible apply within_State_modTdc (Mask.sub hm rfl) | with_reducible apply within_State_tdComplete (Mask.sub hm rfl)
    | exact touch_TD_COUNT (Mask.bit hm rfl) _ | exact touch_TD_LAST (Mask.bit hm rfl) _ | exact touch_TD_STAT (Mask.bit hm rfl) _
    | with_reducible refine Within.ite ?_ ?_ | split | (extract_lets; split)
    | (with_reducible refine Within.mk ?_ ?hk
       case hk => (repeat' apply And.intro) <;> first | with_reducible exact .inr rfl | exact .inl (Mask.bit hm rfl)
       first
        | with_reducible assumption | with_reducible apply Within.wr | with_reducible apply within_State_setFld
        | with_reducible apply within_State_raise | with_reducible apply within_State_raiseIf
        | with_reducible apply within_State_modTdc (Mask.sub hm rfl) | with_reducible apply within_State_tdComplete (Mask.sub hm rfl)
        | with_reducible refine Within.ite ?_ ?_ | split | (extract_lets; split))

theorem within_State_tdMiss {m : Nat} {s₀ s : State}
    (hm : m ||| 0x40000000000000000000000000000000000000000000000000000000000000000000000000000000000000000000000000000000000400 = m)
    (n : Nat) (h₀ : Within m s₀ s) : Within m s₀ (State.tdMiss s n) := by
  unfold State.tdMiss
  repeat' first
    | with_reducible assumption | with_reducible intro _ | with_reducible apply Within.wr
    | with_reducible apply within_State_modTdc (Mask.sub hm rfl) | exact touch_TD_MISS (Mask.bit hm rfl) _
    | (with_reducible refine Within.mk ?_ ?hk
       case hk => (repeat' apply And.intro) <;> first | with_reducible exact .inr rfl | exact .inl (Mask.bit hm rfl)
       first
        | with_reducible assumption | with_reducible apply Within.wr | with_reducible apply within_State_modTdc (Mask.sub hm rfl))

theorem within_State_tdArm {m : Nat} {s₀ s : State}
    (hm : m ||| 0x40000000000000000000000000000000000000000000000000000000000000000000000000000000000000000000000000000000000400 = m)
    (n : Nat) (a : Int) (h₀ : Within m s₀ s) : Within m s₀ (State.tdArm s n a) := by
  unfold State.tdArm
  repeat' first
    | with_reducible assumption | with_reducible intro _ | with_reducible apply within_State_modTdc (Mask.sub hm rfl)
    | with_reducible apply within_State_tdMiss (Mask.sub hm rfl) | with_reducible refine Within.ite ?_ ?_ | split
    | (extract_lets; split)
    | (with_reducible refine Within.mk ?_ ?hk
       case hk => (repeat' apply And.intro) <;> first | with_reducible exact .inr rfl | exact .inl (Mask.bit hm rfl)
       first
        | with_reducible assumption | with_reducible apply within_State_modTdc (Mask.sub hm rfl)
        | with_reducible apply within_State_tdMiss (Mask.sub hm rfl) | with_reducible refine Within.ite ?_ ?_ | split
        | (extract_lets; split))

theorem within_State_tdNext {m : Nat} {s₀ s : State} (hm : m ||| 0x400 = m) (n : Nat) (keep : Option Int) (h₀ : Within m s₀ s) :
    Within m s₀ (State.tdNext s n keep) := by
  unfold State.tdNext
  repeat' first
    | with_reducible assumption | with_reducible intro _ | with_reducible apply within_State_modTdc (Mask.sub hm rfl)
    | with_reducible refine Within.ite ?_ ?_ | split | (extract_lets; split)
    | (with_reducible refine Within.mk ?_ ?hk
       case hk => (repeat' apply And.intro) <;> first | with_reducible exact .inr rfl | exact .inl (Mask.bit hm rfl)
       first
        | with_reducible assumption | with_reducible apply within_State_modTdc (Mask.sub hm rfl)
        | with_reducible refine Within.ite ?_ ?_ | split | (extract_lets; split))

theorem within_State_tdTake {m : Nat} {s₀ s : State}
    (hm : m ||| 0x1FB0000000000000000000000000000000000000000000000000000000000000000000000000000004002000000000000000000002000400 = m)
    (n : Nat) (v : Int) (falling : Bool) (h₀ : Within m s₀ s) : Within m s₀ (State.tdTake s n v falling) := by
  unfold State.tdTake
  repeat' first
    | with_reducible assumption | with_reducible intro _ | with_reducible apply within_State_modTdc (Mask.sub hm rfl)
    | with_reducible apply within_State_tdShot (Mask.sub hm rfl) | with_reducible apply within_State_tdNext (Mask.sub hm rfl)
    | with_reducible refine Within.snd (by assumption) ?_ | with_reducible refine Within.fst (by assumption) ?_
    | with_reducible refine Within.ite ?_ ?_ | split | (extract_lets; split)
    | (with_reducible refine Within.mk ?_ ?hk
       case hk => (repeat' apply And.intro) <;> first | with_reducible exact .inr rfl | exact .inl (Mask.bit hm rfl)
       first
        | with_reducible assumption | with_reducible apply within_State_modTdc (Mask.sub hm rfl)
        | with_reducible apply within_State_tdShot (Mask.sub hm rfl) | with_reducible apply within_State_tdNext (Mask.sub hm rfl)
        | with_reducible refine Within.snd (by assumption) ?_ | with_reducible refine Within.fst (by assumption) ?_
        | with_reducible refine Within.ite ?_ ?_ | split | (extract_lets; split)
        | (with_reducible refine Within.mk ?_ ?hk
           case hk => (repeat' apply And.intro) <;> first | with_reducible exact .inr rfl | exact .inl (Mask.bit hm rfl)
           first
            | with_reducible assumption | with_reducible apply within_State_modTdc (Mask.sub hm rfl)
            | with_reducible apply within_State_tdShot (Mask.sub hm rfl) | with_reducible apply within_State_tdNext (Mask.sub hm rfl)
            | with_reducible refine Within.snd (by assumption) ?_ | with_reducible refine Within.fst (by assumption) ?_
            | with_reducible refine Within.ite ?_ ?_ | split | (extract_lets; split)))

theorem within_State_setAcq {m : Nat} {s₀ s : State} (hm : m ||| 0x800 = m) (k : Nat) (v : Acq) (h₀ : Within m s₀ s) :
    Within m s₀ (State.setAcq s k v) := by
  unfold State.setAcq
  repeat' first
    | with_reducible assumption
    | (with_reducible refine Within.mk ?_ ?hk
       case hk => (repeat' apply And.intro) <;> first | with_reducible exact .inr rfl | exact .inl (Mask.bit hm rfl)
       first
        | with_reducible assumption)

theorem within_State_modAcq {m : Nat} {s₀ s : State} (hm : m ||| 0x800 = m) (k : Nat) (f : Acq → Acq) (h₀ : Within m s₀ s) :
    Within m s₀ (State.modAcq s k f) := by
  unfold State.modAcq
  repeat' first
    | with_reducible assumption | with_reducible apply within_State_setAcq (Mask.sub hm rfl)

theorem within_State_setAqState {m : Nat} {s₀ s : State}
    (hm : m ||| 0x1000000000000000000000000000000000000000000000000000000000000000000000000000000000000000000000000 = m) (k : Nat)
    (st : Nat) (h₀ : Within m s₀ s) : Within m s₀ (State.setAqState s k st) := by
  unfold State.setAqState
  repeat' first
    | with_reducible assumption | with_reducible apply within_State_setFld | exact touch_AQ_STAT (Mask.bit hm rfl) _

theorem within_State_aqMeasure {m : Nat} {s₀ s : State} (hm : m ||| 0x4 = m) (a : Acq) (rows : List AqRow) (h₀ : Within m s₀ s) :
    Within m s₀ (State.aqMeasure s a rows).1 := by
  unfold State.aqMeasure
  repeat' first
    | with_reducible assumption | with_reducible apply Within.free (Mask.bit hm rfl)
    | with_reducible refine Within.snd (by assumption) ?_ | with_reducible refine Within.fst (by assumption) ?_
    | with_reducible refine Within.ite ?_ ?_ | split | (extract_lets; split)

theorem within_State_aqFill {m : Nat} {s₀ s : State}
    (hm : m ||| 0x80000000000000000000000000000000000000000000000000000000000000000000000000000000000000000000000000 = m) (k : Nat)
    (h₀ : Within m s₀ s) : Within m s₀ (State.aqFill s k) := by
  unfold State.aqFill
  repeat' first
    | with_reducible assumption | with_reducible apply within_State_setFld | exact touch_AQ_FILL (Mask.bit hm rfl) _

theorem within_State_aqSpill {m : Nat} {s₀ s : State} (hm : m ||| 0x80004 = m) (k : Nat) (h₀ : Within m s₀ s) :
    Within m s₀ (State.aqSpill s k) := by
  unfold State.aqSpill
  repeat' first
    | with_reducible assumption | with_reducible intro _ | with_reducible apply Within.free (Mask.bit hm rfl)
    | with_reducible refine Within.snd (by assumption) ?_ | with_reducible refine Within.fst (by assumption) ?_
    | with_reducible refine Within.ite ?_ ?_ | split | (extract_lets; split)
    | (with_reducible refine Within.mk ?_ ?hk
       case hk => (repeat' apply And.intro) <;> first | with_reducible exact .inr rfl | exact .inl (Mask.bit hm rfl)
       first
        | with_reducible assumption | with_reducible apply Within.free (Mask.bit hm rfl)
        | with_reducible refine Within.snd (by assumption) ?_ | with_reducible refine Within.fst (by assumption) ?_
        | with_reducible refine Within.ite ?_ ?_ | split | (extract_lets; split)
        | (with_reducible refine Within.mk ?_ ?hk
           case hk => (repeat' apply And.intro) <;> first | with_reducible exact .inr rfl | exact .inl (Mask.bit hm rfl)
           first
            | with_reducible assumption | with_reducible apply Within.free (Mask.bit hm rfl)
            | with_reducible refine Within.snd (by assumption) ?_ | with_reducible refine Within.fst (by assumption) ?_
            | with_reducible refine Within.ite ?_ ?_ | split | (extract_lets; split)))

theorem within_State_aqWriteRecord {m : Nat} {s₀ s : State}
    (hm : m ||| 0x86000000000000000000000000000000000000000000000000000000000000000000000000000000000000000000000804 = m) (k : Nat)
    (trunc : Bool) (stopped : Bool) (h₀ : Within m s₀ s) : Within m s₀ (State.aqWriteRecord s k trunc stopped) := by
  unfold State.aqWriteRecord
  repeat' first
    | with_reducible assumption | with_reducible intro _ | with_reducible apply Within.wr
    | with_reducible apply within_State_setAcq (Mask.sub hm rfl) | with_reducible apply within_State_aqMeasure (Mask.sub hm rfl)
    | with_reducible apply within_State_aqFill (Mask.sub hm rfl) | with_reducible refine Within.snd (by assumption) ?_
    | with_reducible refine Within.fst (by assumption) ?_ | exact touch_AQ_REC (Mask.bit hm rfl) _
    | exact touch_AQ_RECNUM (Mask.bit hm rfl) _ | with_reducible refine Within.ite ?_ ?_ | split | (extract_lets; split)
    | (with_reducible refine Within.mk ?_ ?hk
       case hk => (repeat' apply And.intro) <;> first | with_reducible exact .inr rfl | exact .inl (Mask.bit hm rfl)
       first
        | with_reducible assumption | with_reducible apply Within.wr | with_reducible apply within_State_setAcq (Mask.sub hm rfl)
        | with_reducible apply within_State_aqMeasure (Mask.sub hm rfl) | with_reducible apply within_State_aqFill (Mask.sub hm rfl)
        | with_reducible refine Within.snd (by assumption) ?_ | with_reducible refine Within.fst (by assumption) ?_
        | with_reducible refine Within.ite ?_ ?_ | split | (extract_lets; split)
        | (with_reducible refine Within.mk ?_ ?hk
           case hk => (repeat' apply And.intro) <;> first | with_reducible exact .inr rfl | exact .inl (Mask.bit hm rfl)
           first
            | with_reducible assumption | with_reducible apply Within.wr | with_reducible apply within_State_setAcq (Mask.sub hm rfl)
            | with_reducible apply within_State_aqMeasure (Mask.sub hm rfl)
            | with_reducible apply within_State_aqFill (Mask.sub hm rfl) | with_reducible refine Within.snd (by assumption) ?_
            | with_reducible refine Within.fst (by assumption) ?_ | with_reducible refine Within.ite ?_ ?_ | split
            | (extract_lets; split)))

theorem within_State_aqOverflow {m : Nat} {s₀ s : State}
    (hm : m ||| 0x187000000000000000000000000000000000000000000000000000000000000000000000000000000000000000000000804 = m) (k : Nat)
    (at_ : Nat) (h₀ : Within m s₀ s) : Within m s₀ (State.aqOverflow s k at_) := by
  unfold State.aqOverflow
  repeat' first
    | with_reducible assumption | with_reducible intro _ | with_reducible apply Within.wr | with_reducible apply within_State_raise
    | with_reducible apply within_State_modAcq (Mask.sub hm rfl) | with_reducible apply within_State_setAqState (Mask.sub hm rfl)
    | with_reducible apply within_State_aqFill (Mask.sub hm rfl) | with_reducible apply within_State_aqWriteRecord (Mask.sub hm rfl)
    | with_reducible refine Within.snd (by assumption) ?_ | with_reducible refine Within.fst (by assumption) ?_
    | exact touch_AQ_OVF (Mask.bit hm rfl) _ | exact touch_AQ_STAT (Mask.bit hm rfl) _ | with_reducible refine Within.ite ?_ ?_ | split
    | (extract_lets; split)
    | (with_reducible refine Within.mk ?_ ?hk
       case hk => (repeat' apply And.intro) <;> first | with_reducible exact .inr rfl | exact .inl (Mask.bit hm rfl)
       first
        | with_reducible assumption | with_reducible apply Within.wr | with_reducible apply within_State_raise
        | with_reducible apply within_State_modAcq (Mask.sub hm rfl) | with_reducible apply within_State_setAqState (Mask.sub hm rfl)
        | with_reducible apply within_State_aqFill (Mask.sub hm rfl)
        | with_reducible apply within_State_aqWriteRecord (Mask.sub hm rfl) | with_reducible refine Within.snd (by assumption) ?_
        | with_reducible refine Within.fst (by assumption) ?_ | with_reducible refine Within.ite ?_ ?_ | split | (extract_lets; split)
        | (with_reducible refine Within.mk ?_ ?hk
           case hk => (repeat' apply And.intro) <;> first | with_reducible exact .inr rfl | exact .inl (Mask.bit hm rfl)
           first
            | with_reducible assumption | with_reducible apply Within.wr | with_reducible apply within_State_raise
            | with_reducible apply within_State_modAcq (Mask.sub hm rfl)
            | with_reducible apply within_State_setAqState (Mask.sub hm rfl)
            | with_reducible apply within_State_aqFill (Mask.sub hm rfl)
            | with_reducible apply within_State_aqWriteRecord (Mask.sub hm rfl) | with_reducible refine Within.snd (by assumption) ?_
            | with_reducible refine Within.fst (by assumption) ?_ | with_reducible refine Within.ite ?_ ?_ | split
            | (extract_lets; split)))

theorem within_State_aqCheckFull {m : Nat} {s₀ s : State}
    (hm : m ||| 0x1000000000000000000000000000000000000000000000000000000000000000000000000000000000000000000000800 = m) (k : Nat)
    (h₀ : Within m s₀ s) : Within m s₀ (State.aqCheckFull s k) := by
  unfold State.aqCheckFull
  repeat' first
    | with_reducible assumption | with_reducible intro _ | with_reducible apply within_State_modAcq (Mask.sub hm rfl)
    | with_reducible apply within_State_setAqState (Mask.sub hm rfl) | with_reducible refine Within.snd (by assumption) ?_
    | with_reducible refine Within.fst (by assumption) ?_ | with_reducible refine Within.ite ?_ ?_ | split | (extract_lets; split)
    | (with_reducible refine Within.mk ?_ ?hk
       case hk => (repeat' apply And.intro) <;> first | with_reducible exact .inr rfl | exact .inl (Mask.bit hm rfl)
       first
        | with_reducible assumption | with_reducible apply within_State_modAcq (Mask.sub hm rfl)
        | with_reducible apply within_State_setAqState (Mask.sub hm rfl) | with_reducible refine Within.snd (by assumption) ?_
        | with_reducible refine Within.fst (by assumption) ?_ | with_reducible refine Within.ite ?_ ?_ | split | (extract_lets; split)
        | (with_reducible refine Within.mk ?_ ?hk
           case hk => (repeat' apply And.intro) <;> first | with_reducible exact .inr rfl | exact .inl (Mask.bit hm rfl)
           first
            | with_reducible assumption | with_reducible apply within_State_modAcq (Mask.sub hm rfl)
            | with_reducible apply within_State_setAqState (Mask.sub hm rfl) | with_reducible refine Within.snd (by assumption) ?_
            | with_reducible refine Within.fst (by assumption) ?_ | with_reducible refine Within.ite ?_ ?_ | split
            | (extract_lets; split)))

theorem within_State_aqStoreRow {m : Nat} {s₀ s : State}
    (hm : m ||| 0x187000000000000000000000000000000000000000000000000000000000000000000000000000000000000000000080804 = m) (k : Nat)
    (r : AqRow) (h₀ : Within m s₀ s) : Within m s₀ (State.aqStoreRow s k r) := by
  unfold State.aqStoreRow
  repeat' first
    | with_reducible assumption | with_reducible apply within_State_setAcq (Mask.sub hm rfl)
    | with_reducible apply within_State_aqFill (Mask.sub hm rfl) | with_reducible apply within_State_aqSpill (Mask.sub hm rfl)
    | with_reducible apply within_State_aqOverflow (Mask.sub hm rfl) | with_reducible apply within_State_aqCheckFull (Mask.sub hm rfl)
    | with_reducible refine Within.snd (by assumption) ?_ | with_reducible refine Within.fst (by assumption) ?_
    | with_reducible refine Within.ite ?_ ?_ | split | (extract_lets; split)
    | (with_reducible refine Within.mk ?_ ?hk
       case hk => (repeat' apply And.intro) <;> first | with_reducible exact .inr rfl | exact .inl (Mask.bit hm rfl)
       first
        | with_reducible assumption | with_reducible apply within_State_setAcq (Mask.sub hm rfl)
        | with_reducible apply within_State_aqFill (Mask.sub hm rfl) | with_reducible apply within_State_aqSpill (Mask.sub hm rfl)
        | with_reducible apply within_State_aqOverflow (Mask.sub hm rfl)
        | with_reducible apply within_State_aqCheckFull (Mask.sub hm rfl) | with_reducible refine Within.snd (by assumption) ?_
        | with_reducible refine Within.fst (by assumption) ?_ | with_reducible refine Within.ite ?_ ?_ | split | (extract_lets; split)
        | (with_reducible refine Within.mk ?_ ?hk
           case hk => (repeat' apply And.intro) <;> first | with_reducible exact .inr rfl | exact .inl (Mask.bit hm rfl)
           first
            | with_reducible assumption | with_reducible apply within_State_setAcq (Mask.sub hm rfl)
            | with_reducible apply within_State_aqFill (Mask.sub hm rfl) | with_reducible apply within_State_aqSpill (Mask.sub hm rfl)
            | with_reducible apply within_State_aqOverflow (Mask.sub hm rfl)
            | with_reducible apply within_State_aqCheckFull (Mask.sub hm rfl) | with_reducible refine Within.snd (by assumption) ?_
            | with_reducible refine Within.fst (by assumption) ?_ | with_reducible refine Within.ite ?_ ?_ | split
            | (extract_lets; split)))

theorem within_State_aqRow {m : Nat} {s₀ s : State}
    (hm : m ||| 0x187000000000000000000000000000000000000000000000000000000000000000000000000000000000000000000080804 = m) (k : Nat)
    (r : AqRow) (h₀ : Within m s₀ s) : Within m s₀ (State.aqRow s k r) := by
  unfold State.aqRow
  repeat' first
    | with_reducible assumption | with_reducible apply within_State_setAcq (Mask.sub hm rfl)
    | with_reducible apply within_State_aqStoreRow (Mask.sub hm rfl) | with_reducible refine Within.snd (by assumption) ?_
    | with_reducible refine Within.fst (by assumption) ?_ | with_reducible refine Within.ite ?_ ?_ | split | (extract_lets; split)
    | (with_reducible refine Within.mk ?_ ?hk
       case hk => (repeat' apply And.intro) <;> first | with_reducible exact .inr rfl | exact .inl (Mask.bit hm rfl)
       first
        | with_reducible assumption | with_reducible apply within_State_setAcq (Mask.sub hm rfl)
        | with_reducible apply within_State_aqStoreRow (Mask.sub hm rfl) | with_reducible refine Within.snd (by assumption) ?_
        | with_reducible refine Within.fst (by assumption) ?_ | with_reducible refine Within.ite ?_ ?_ | split | (extract_lets; split)
        | (with_reducible refine Within.mk ?_ ?hk
           case hk => (repeat' apply And.intro) <;> first | with_reducible exact .inr rfl | exact .inl (Mask.bit hm rfl)
           first
            | with_reducible assumption | with_reducible apply within_State_setAcq (Mask.sub hm rfl)
            | with_reducible apply within_State_aqStoreRow (Mask.sub hm rfl) | with_reducible refine Within.snd (by assumption) ?_
            | with_reducible refine Within.fst (by assumption) ?_ | with_reducible refine Within.ite ?_ ?_ | split
            | (extract_lets; split)))

theorem within_State_aqTrigger {m : Nat} {s₀ s : State}
    (hm : m ||| 0x1BF000000000000000000000000000000000000000000000000000000000000000000000000000000000000000000080804 = m) (k : Nat)
    (t : Nat) (h₀ : Within m s₀ s) : Within m s₀ (State.aqTrigger s k t) := by
  unfold State.aqTrigger
  repeat' first
    | with_reducible assumption | with_reducible intro _ | with_reducible apply Within.wr | with_reducible apply within_State_wr64
    | with_reducible apply within_State_setAcq (Mask.sub hm rfl) | with_reducible apply within_State_setAqState (Mask.sub hm rfl)
    | with_reducible apply within_State_aqOverflow (Mask.sub hm rfl) | with_reducible apply within_State_aqCheckFull (Mask.sub hm rfl)
    | with_reducible apply within_State_aqStoreRow (Mask.sub hm rfl) | with_reducible refine Within.each ?_ ?_
    | with_reducible refine Within.snd (by assumption) ?_ | with_reducible refine Within.fst (by assumption) ?_
    | exact touch_AQ_MISSED (Mask.bit hm rfl) _ | exact touch_AQ_MISS_T_HI (Mask.bit hm rfl) _
    | exact touch_AQ_MISS_T_LO (Mask.bit hm rfl) _ | with_reducible refine Within.ite ?_ ?_ | split | (extract_lets; split)
    | (with_reducible refine Within.mk ?_ ?hk
       case hk => (repeat' apply And.intro) <;> first | with_reducible exact .inr rfl | exact .inl (Mask.bit hm rfl)
       first
        | with_reducible assumption | with_reducible apply Within.wr | with_reducible apply within_State_wr64
        | with_reducible apply within_State_setAcq (Mask.sub hm rfl) | with_reducible apply within_State_setAqState (Mask.sub hm rfl)
        | with_reducible apply within_State_aqOverflow (Mask.sub hm rfl)
        | with_reducible apply within_State_aqCheckFull (Mask.sub hm rfl)
        | with_reducible apply within_State_aqStoreRow (Mask.sub hm rfl) | with_reducible refine Within.each ?_ ?_
        | with_reducible refine Within.snd (by assumption) ?_ | with_reducible refine Within.fst (by assumption) ?_
        | with_reducible refine Within.ite ?_ ?_ | split | (extract_lets; split)
        | (with_reducible refine Within.mk ?_ ?hk
           case hk => (repeat' apply And.intro) <;> first | with_reducible exact .inr rfl | exact .inl (Mask.bit hm rfl)
           first
            | with_reducible assumption | with_reducible apply Within.wr | with_reducible apply within_State_wr64
            | with_reducible apply within_State_setAcq (Mask.sub hm rfl)
            | with_reducible apply within_State_setAqState (Mask.sub hm rfl)
            | with_reducible apply within_State_aqOverflow (Mask.sub hm rfl)
            | with_reducible apply within_State_aqCheckFull (Mask.sub hm rfl)
            | with_reducible apply within_State_aqStoreRow (Mask.sub hm rfl) | with_reducible refine Within.each ?_ ?_
            | with_reducible refine Within.snd (by assumption) ?_ | with_reducible refine Within.fst (by assumption) ?_
            | with_reducible refine Within.ite ?_ ?_ | split | (extract_lets; split)))

theorem within_State_triggerPulse {m : Nat} {s₀ s : State}
    (hm : m ||| 0x400000000001BF000000000000000000000000000000000000000000000000000000000000000000000000000000000000000000080C04 = m)
    (k : Nat) (t : Nat) (h₀ : Within m s₀ s) : Within m s₀ (State.triggerPulse s k t) := by
  unfold State.triggerPulse
  repeat' first
    | with_reducible assumption | with_reducible intro _ | with_reducible apply within_State_tdArm (Mask.sub hm rfl)
    | with_reducible apply within_State_aqTrigger (Mask.sub hm rfl) | with_reducible refine Within.each ?_ ?_
    | with_reducible refine Within.ite ?_ ?_ | split | (extract_lets; split)

theorem within_State_tdOpen {m : Nat} {s₀ s : State}
    (hm : m ||| 0x40000000000000000000000000000000000000000000000000000000000000000000000000000000000000000000000000000000000400 = m)
    (n : Nat) (t : Nat) (h₀ : Within m s₀ s) : Within m s₀ (State.tdOpen s n t) := by
  unfold State.tdOpen
  repeat' first
    | with_reducible assumption | with_reducible apply within_State_tdArm (Mask.sub hm rfl) | with_reducible refine Within.ite ?_ ?_
    | split | (extract_lets; split)

theorem within_State_tdClose {m : Nat} {s₀ s : State}
    (hm : m ||| 0x40000000000000000000000000000000000000000000000000000000000000000000000000000000000000000000000000000000000400 = m)
    (n : Nat) (h₀ : Within m s₀ s) : Within m s₀ (State.tdClose s n) := by
  unfold State.tdClose
  repeat' first
    | with_reducible assumption | with_reducible apply within_State_tdMiss (Mask.sub hm rfl) | with_reducible refine Within.ite ?_ ?_
    | split | (extract_lets; split)

theorem within_State_tdStamp {m : Nat} {s₀ s : State}
    (hm : m ||| 0x1FB0000000000187000000000000000000000000000000000000000000000000000000000000000004002000000000000000000002080C04 = m)
    (n : Nat) (t : Int) (falling : Bool) (h₀ : Within m s₀ s) : Within m s₀ (State.tdStamp s n t falling) := by
  unfold State.tdStamp
  repeat' first
    | with_reducible assumption | with_reducible intro _ | with_reducible apply within_State_raise
    | with_reducible apply within_State_modTdc (Mask.sub hm rfl) | with_reducible apply within_State_tdTake (Mask.sub hm rfl)
    | with_reducible apply within_State_aqRow (Mask.sub hm rfl) | with_reducible refine Within.snd (by assumption) ?_
    | with_reducible refine Within.fst (by assumption) ?_ | exact touch_TD_STAT (Mask.bit hm rfl) _
    | with_reducible refine Within.ite ?_ ?_ | split | (extract_lets; split)
    | (with_reducible refine Within.mk ?_ ?hk
       case hk => (repeat' apply And.intro) <;> first | with_reducible exact .inr rfl | exact .inl (Mask.bit hm rfl)
       first
        | with_reducible assumption | with_reducible apply within_State_raise
        | with_reducible apply within_State_modTdc (Mask.sub hm rfl) | with_reducible apply within_State_tdTake (Mask.sub hm rfl)
        | with_reducible apply within_State_aqRow (Mask.sub hm rfl) | with_reducible refine Within.snd (by assumption) ?_
        | with_reducible refine Within.fst (by assumption) ?_ | with_reducible refine Within.ite ?_ ?_ | split | (extract_lets; split)
        | (with_reducible refine Within.mk ?_ ?hk
           case hk => (repeat' apply And.intro) <;> first | with_reducible exact .inr rfl | exact .inl (Mask.bit hm rfl)
           first
            | with_reducible assumption | with_reducible apply within_State_raise
            | with_reducible apply within_State_modTdc (Mask.sub hm rfl) | with_reducible apply within_State_tdTake (Mask.sub hm rfl)
            | with_reducible apply within_State_aqRow (Mask.sub hm rfl) | with_reducible refine Within.snd (by assumption) ?_
            | with_reducible refine Within.fst (by assumption) ?_ | with_reducible refine Within.ite ?_ ?_ | split
            | (extract_lets; split)))

theorem within_State_patternFire {m : Nat} {s₀ s : State}
    (hm : m ||| 0x1BF000000000000000000000000000000000000000000000000000000000000000000000000000000000000000000080804 = m) (j : Nat)
    (h₀ : Within m s₀ s) : Within m s₀ (State.patternFire s j) := by
  unfold State.patternFire
  repeat' first
    | with_reducible assumption | with_reducible apply Within.free (Mask.bit hm rfl)
    | with_reducible apply within_State_aqTrigger (Mask.sub hm rfl) | with_reducible refine Within.snd (by assumption) ?_
    | with_reducible refine Within.fst (by assumption) ?_ | with_reducible refine Within.ite ?_ ?_ | split | (extract_lets; split)

theorem within_State_newDecisions {m : Nat} {s₀ s : State}
    (hm : m ||| 0x1FB00000C00001BF0000000000000000000000000000000000100000002000020000070000000000040020000000000004000003FFFFFFFF = m)
    (n : Nat) (hi : Dec) (lo : Dec) (t : Int) (h₀ : Within m s₀ s) : Within m s₀ (State.newDecisions s n hi lo t) := by
  unfold State.newDecisions
  repeat' first
    | with_reducible assumption | with_reducible intro _ | with_reducible apply within_State_setDecisions (Mask.sub hm rfl)
    | with_reducible apply within_State_tdStamp (Mask.sub hm rfl) | with_reducible apply within_State_patternFire (Mask.sub hm rfl)
    | with_reducible refine Within.each ?_ ?_ | exact Touch.any (Mask.bit hm rfl) | with_reducible refine Within.ite ?_ ?_ | split
    | (extract_lets; split)

theorem within_execComparatorDecision {m : Nat} {s₀ s : State}
    (hm : m ||| 0x1FB00000C00001BF0000000000000000000000000000000000100000002000020000070000000000040020000000000004000003FFFFFFFF = m)
    (n : Fin 1536) (hi : Fin 3) (lo : Fin 3) (at_ : Nat) (h₀ : Within m s₀ s) :
    AnswersWithin m s₀ (execComparatorDecision n hi lo at_ s) := by
  unfold execComparatorDecision
  repeat' first
    | with_reducible assumption | with_reducible refine AnswersWithin.next ?_ | with_reducible refine AnswersWithin.ite ?_ ?_
    | with_reducible apply Within.advanceTo _ (Mask.bit hm rfl) | with_reducible apply within_State_newDecisions (Mask.sub hm rfl)
    | exact Touch.any (Mask.bit hm rfl) | with_reducible refine Within.ite ?_ ?_ | split | (extract_lets; split)

theorem within_execStrobeEvent {m : Nat} {s₀ s : State}
    (hm : m ||| 0x400000300000000000000020000000000001000200000000000000000000000000000000000000000000000000000000000000000004C1 = m)
    (n : Fin 1536) (h₀ : Within m s₀ s) : AnswersWithin m s₀ (execStrobeEvent n s) := by
  unfold execStrobeEvent
  repeat' first
    | with_reducible assumption | with_reducible refine AnswersWithin.next ?_ | with_reducible intro _
    | with_reducible apply Within.advanceTo _ (Mask.bit hm rfl) | with_reducible apply within_State_raise
    | with_reducible apply within_State_raiseIf | with_reducible apply within_State_modPin (Mask.sub hm rfl)
    | with_reducible apply within_State_fireStrobe (Mask.sub hm rfl) | with_reducible apply within_State_tdOpen (Mask.sub hm rfl)
    | with_reducible apply within_State_tdClose (Mask.sub hm rfl) | with_reducible refine Within.snd (by assumption) ?_
    | with_reducible refine Within.fst (by assumption) ?_ | exact touch_WV_STAT (Mask.bit hm rfl) _
    | with_reducible refine Within.ite ?_ ?_ | split | (extract_lets; split)
    | (with_reducible refine Within.mk ?_ ?hk
       case hk => (repeat' apply And.intro) <;> first | with_reducible exact .inr rfl | exact .inl (Mask.bit hm rfl)
       first
        | with_reducible assumption | with_reducible apply Within.advanceTo _ (Mask.bit hm rfl)
        | with_reducible apply within_State_raise | with_reducible apply within_State_raiseIf
        | with_reducible apply within_State_modPin (Mask.sub hm rfl) | with_reducible apply within_State_fireStrobe (Mask.sub hm rfl)
        | with_reducible apply within_State_tdOpen (Mask.sub hm rfl) | with_reducible apply within_State_tdClose (Mask.sub hm rfl)
        | with_reducible refine Within.snd (by assumption) ?_ | with_reducible refine Within.fst (by assumption) ?_
        | with_reducible refine Within.ite ?_ ?_ | split | (extract_lets; split)
        | (with_reducible refine Within.mk ?_ ?hk
           case hk => (repeat' apply And.intro) <;> first | with_reducible exact .inr rfl | exact .inl (Mask.bit hm rfl)
           first
            | with_reducible assumption | with_reducible apply Within.advanceTo _ (Mask.bit hm rfl)
            | with_reducible apply within_State_raise | with_reducible apply within_State_raiseIf
            | with_reducible apply within_State_modPin (Mask.sub hm rfl)
            | with_reducible apply within_State_fireStrobe (Mask.sub hm rfl)
            | with_reducible apply within_State_tdOpen (Mask.sub hm rfl) | with_reducible apply within_State_tdClose (Mask.sub hm rfl)
            | with_reducible refine Within.snd (by assumption) ?_ | with_reducible refine Within.fst (by assumption) ?_
            | with_reducible refine Within.ite ?_ ?_ | split | (extract_lets; split)))

theorem within_State_tdStart {m : Nat} {s₀ s : State}
    (hm : m ||| 0xFF0000000000000000000000000000000000000000000000000000000000000000000000000000004002000000000000000000002000400 = m)
    (n : Nat) (h₀ : Within m s₀ s) : Within m s₀ (State.tdStart s n) := by
  unfold State.tdStart
  repeat' first
    | with_reducible assumption | with_reducible apply Within.wr | with_reducible apply within_State_setFld
    | with_reducible apply within_State_raise | with_reducible apply within_State_setTdc (Mask.sub hm rfl)
    | with_reducible apply within_State_tdComplete (Mask.sub hm rfl) | exact touch_TD_COUNT (Mask.bit hm rfl) _
    | exact touch_TD_MISS (Mask.bit hm rfl) _ | exact touch_TD_STAT (Mask.bit hm rfl) _ | with_reducible refine Within.ite ?_ ?_ | split
    | (extract_lets; split)

theorem within_State_tdStop {m : Nat} {s₀ s : State}
    (hm : m ||| 0xF90000000000000000000000000000000000000000000000000000000000000000000000000000004002000000000000000000002000400 = m)
    (n : Nat) (h₀ : Within m s₀ s) : Within m s₀ (State.tdStop s n) := by
  unfold State.tdStop
  repeat' first
    | with_reducible assumption | with_reducible apply within_State_tdComplete (Mask.sub hm rfl)
    | with_reducible refine Within.ite ?_ ?_ | split | (extract_lets; split)

theorem within_State_tdSleep {m : Nat} {s₀ s : State}
    (hm : m ||| 0xF90000000000000000000000000000000000000000000000000000000000000000000000000000004002000000000000000000002000400 = m)
    (n : Nat) (h₀ : Within m s₀ s) : Within m s₀ (State.tdSleep s n) := by
  unfold State.tdSleep
  repeat' first
    | with_reducible assumption | with_reducible apply within_State_tdComplete (Mask.sub hm rfl)
    | with_reducible refine Within.ite ?_ ?_ | split | (extract_lets; split)

theorem within_execTdcCalDone {m : Nat} {s₀ s : State}
    (hm : m ||| 0x2F90000000000000000000000000000000000000000000000000000000000000000000000000000004002000000000000000000002000404 = m)
    (n : Fin 1536) (m1 : Nat) (m2 : Nat) (h₀ : Within m s₀ s) : AnswersWithin m s₀ (execTdcCalDone n m1 m2 s) := by
  unfold execTdcCalDone
  repeat' first
    | with_reducible assumption | with_reducible refine AnswersWithin.next ?_ | with_reducible refine AnswersWithin.ite ?_ ?_
    | with_reducible intro _ | with_reducible apply Within.free (Mask.bit hm rfl) | with_reducible apply within_State_setFld
    | with_reducible apply within_State_modTdc (Mask.sub hm rfl) | with_reducible apply within_State_tdComplete (Mask.sub hm rfl)
    | with_reducible refine Within.snd (by assumption) ?_ | with_reducible refine Within.fst (by assumption) ?_
    | exact touch_TD_SCALE (Mask.bit hm rfl) _ | exact touch_TD_STAT (Mask.bit hm rfl) _ | with_reducible refine Within.ite ?_ ?_
    | split | (extract_lets; split)
    | (with_reducible refine Within.mk ?_ ?hk
       case hk => (repeat' apply And.intro) <;> first | with_reducible exact .inr rfl | exact .inl (Mask.bit hm rfl)
       first
        | with_reducible assumption | with_reducible apply Within.free (Mask.bit hm rfl) | with_reducible apply within_State_setFld
        | with_reducible apply within_State_modTdc (Mask.sub hm rfl) | with_reducible apply within_State_tdComplete (Mask.sub hm rfl)
        | with_reducible refine Within.snd (by assumption) ?_ | with_reducible refine Within.fst (by assumption) ?_
        | with_reducible refine Within.ite ?_ ?_ | split | (extract_lets; split))

theorem within_execTdcTimeout {m : Nat} {s₀ s : State}
    (hm : m ||| 0xF90000000000000000000000000000000000000000000000000000000000000000000000000000004002000000000000000000002000401 = m)
    (n : Fin 1536) (h₀ : Within m s₀ s) : AnswersWithin m s₀ (execTdcTimeout n s) := by
  unfold execTdcTimeout
  repeat' first
    | with_reducible assumption | with_reducible refine AnswersWithin.next ?_ | with_reducible refine AnswersWithin.ite ?_ ?_
    | with_reducible apply Within.advanceTo _ (Mask.bit hm rfl) | with_reducible apply within_State_tdComplete (Mask.sub hm rfl)
    | with_reducible refine Within.ite ?_ ?_ | split | (extract_lets; split)

theorem within_State_aqStep {m : Nat} {s₀ s : State}
    (hm : m ||| 0x187000000000000000000000000000000000000000000000000000000000000000000000000000000000000000000080804 = m) (k : Nat)
    (t : Nat) (h₀ : Within m s₀ s) : Within m s₀ (State.aqStep s k t) := by
  unfold State.aqStep
  repeat' first
    | with_reducible assumption | with_reducible apply within_State_aqRow (Mask.sub hm rfl) | with_reducible refine Within.ite ?_ ?_
    | split | (extract_lets; split)

theorem within_execAqCmpSample {m : Nat} {s₀ s : State}
    (hm : m ||| 0x187000000000000000000000000000000000000000000000000000000000000000000000000000000000000000000080805 = m)
    (k : Fin 192) (h₀ : Within m s₀ s) : AnswersWithin m s₀ (execAqCmpSample k s) := by
  unfold execAqCmpSample
  repeat' first
    | with_reducible assumption | with_reducible refine AnswersWithin.next ?_ | with_reducible refine AnswersWithin.ite ?_ ?_
    | with_reducible intro _ | with_reducible apply Within.advanceTo _ (Mask.bit hm rfl)
    | with_reducible apply within_State_modAcq (Mask.sub hm rfl) | with_reducible apply within_State_aqRow (Mask.sub hm rfl)
    | with_reducible refine Within.ite ?_ ?_ | split | (extract_lets; split)
    | (with_reducible refine Within.mk ?_ ?hk
       case hk => (repeat' apply And.intro) <;> first | with_reducible exact .inr rfl | exact .inl (Mask.bit hm rfl)
       first
        | with_reducible assumption | with_reducible apply Within.advanceTo _ (Mask.bit hm rfl)
        | with_reducible apply within_State_modAcq (Mask.sub hm rfl) | with_reducible apply within_State_aqRow (Mask.sub hm rfl)
        | with_reducible refine Within.ite ?_ ?_ | split | (extract_lets; split))

theorem within_State_aqResult {m : Nat} {s₀ s : State}
    (hm : m ||| 0x187000000000000000000000000000000000000000000000000000000000000000000000000000000000000000000080804 = m) (n : Nat)
    (r : Int) (disturbed : Bool) (h₀ : Within m s₀ s) : Within m s₀ (State.aqResult s n r disturbed) := by
  unfold State.aqResult
  repeat' first
    | with_reducible assumption | with_reducible intro _ | with_reducible apply within_State_disturb (Mask.sub hm rfl)
    | with_reducible apply within_State_setAcq (Mask.sub hm rfl) | with_reducible apply within_State_aqRow (Mask.sub hm rfl)
    | with_reducible refine Within.snd (by assumption) ?_ | with_reducible refine Within.fst (by assumption) ?_
    | with_reducible refine Within.ite ?_ ?_ | split | (extract_lets; split)
    | (with_reducible refine Within.mk ?_ ?hk
       case hk => (repeat' apply And.intro) <;> first | with_reducible exact .inr rfl | exact .inl (Mask.bit hm rfl)
       first
        | with_reducible assumption | with_reducible apply within_State_disturb (Mask.sub hm rfl)
        | with_reducible apply within_State_setAcq (Mask.sub hm rfl) | with_reducible apply within_State_aqRow (Mask.sub hm rfl)
        | with_reducible refine Within.snd (by assumption) ?_ | with_reducible refine Within.fst (by assumption) ?_
        | with_reducible refine Within.ite ?_ ?_ | split | (extract_lets; split)
        | (with_reducible refine Within.mk ?_ ?hk
           case hk => (repeat' apply And.intro) <;> first | with_reducible exact .inr rfl | exact .inl (Mask.bit hm rfl)
           first
            | with_reducible assumption | with_reducible apply within_State_disturb (Mask.sub hm rfl)
            | with_reducible apply within_State_setAcq (Mask.sub hm rfl) | with_reducible apply within_State_aqRow (Mask.sub hm rfl)
            | with_reducible refine Within.snd (by assumption) ?_ | with_reducible refine Within.fst (by assumption) ?_
            | with_reducible refine Within.ite ?_ ?_ | split | (extract_lets; split)))

theorem within_execConversionEnd {m : Nat} {s₀ s : State}
    (hm : m ||| 0x180000000187000000000000000000000000000000000000000000000000000000000000000000000000000000000000000000080A05 = m)
    (n : Fin 1536) (raw : Int) (h₀ : Within m s₀ s) : AnswersWithin m s₀ (execConversionEnd n raw s) := by
  unfold execConversionEnd
  repeat' first
    | with_reducible assumption | with_reducible refine AnswersWithin.next ?_ | with_reducible refine AnswersWithin.ite ?_ ?_
    | with_reducible apply within_State_endConversion (Mask.sub hm rfl) | with_reducible apply within_State_aqResult (Mask.sub hm rfl)
    | with_reducible refine Within.snd (by assumption) ?_ | with_reducible refine Within.fst (by assumption) ?_
    | with_reducible refine Within.ite ?_ ?_ | split | (extract_lets; split)

theorem within_State_aqStop {m : Nat} {s₀ s : State}
    (hm : m ||| 0x87000000000000000000000000000000000000000000000000000000000000000000000000000000000000000000000804 = m) (k : Nat)
    (h₀ : Within m s₀ s) : Within m s₀ (State.aqStop s k) := by
  unfold State.aqStop
  repeat' first
    | with_reducible assumption | with_reducible intro _ | with_reducible apply within_State_modAcq (Mask.sub hm rfl)
    | with_reducible apply within_State_setAqState (Mask.sub hm rfl) | with_reducible apply within_State_aqWriteRecord (Mask.sub hm rfl)
    | with_reducible refine Within.snd (by assumption) ?_ | with_reducible refine Within.fst (by assumption) ?_
    | with_reducible refine Within.ite ?_ ?_ | split | (extract_lets; split)
    | (with_reducible refine Within.mk ?_ ?hk
       case hk => (repeat' apply And.intro) <;> first | with_reducible exact .inr rfl | exact .inl (Mask.bit hm rfl)
       first
        | with_reducible assumption | with_reducible apply within_State_modAcq (Mask.sub hm rfl)
        | with_reducible apply within_State_setAqState (Mask.sub hm rfl)
        | with_reducible apply within_State_aqWriteRecord (Mask.sub hm rfl) | with_reducible refine Within.snd (by assumption) ?_
        | with_reducible refine Within.fst (by assumption) ?_ | with_reducible refine Within.ite ?_ ?_ | split | (extract_lets; split)
        | (with_reducible refine Within.mk ?_ ?hk
           case hk => (repeat' apply And.intro) <;> first | with_reducible exact .inr rfl | exact .inl (Mask.bit hm rfl)
           first
            | with_reducible assumption | with_reducible apply within_State_modAcq (Mask.sub hm rfl)
            | with_reducible apply within_State_setAqState (Mask.sub hm rfl)
            | with_reducible apply within_State_aqWriteRecord (Mask.sub hm rfl) | with_reducible refine Within.snd (by assumption) ?_
            | with_reducible refine Within.fst (by assumption) ?_ | with_reducible refine Within.ite ?_ ?_ | split
            | (extract_lets; split)))

theorem within_State_aqConvStopped {m : Nat} {s₀ s : State}
    (hm : m ||| 0x87000000000000000000000000000000000000000000000000000000000000000000000000000000000000000000000804 = m) (n : Nat)
    (h₀ : Within m s₀ s) : Within m s₀ (State.aqConvStopped s n) := by
  unfold State.aqConvStopped
  repeat' first
    | with_reducible assumption | with_reducible apply within_State_aqStop (Mask.sub hm rfl)
    | with_reducible refine Within.ite ?_ ?_ | split | (extract_lets; split)

theorem within_State_aqStart {m : Nat} {s₀ s : State}
    (hm : m ||| 0x1FF000000000000000000000000000000000000000000000000000000000000000000000000000000000000000000080804 = m) (k : Nat)
    (h₀ : Within m s₀ s) : Within m s₀ (State.aqStart s k) := by
  unfold State.aqStart
  repeat' first
    | with_reducible assumption | with_reducible intro _ | with_reducible apply Within.wr | with_reducible apply within_State_setFld
    | with_reducible apply within_State_raise | with_reducible apply within_State_raiseIf
    | with_reducible apply within_State_setAcq (Mask.sub hm rfl) | with_reducible apply within_State_setAqState (Mask.sub hm rfl)
    | with_reducible apply within_State_patternFire (Mask.sub hm rfl) | with_reducible refine Within.foldl _ ?_ ?_
    | with_reducible refine Within.foldlFst _ ?_ ?_ | with_reducible refine Within.foldlSnd _ ?_ ?_
    | with_reducible refine Within.snd (by assumption) ?_ | with_reducible refine Within.fst (by assumption) ?_
    | exact touch_AQ_DEAD (Mask.bit hm rfl) _ | exact touch_AQ_MISSED (Mask.bit hm rfl) _ | exact touch_AQ_OVF (Mask.bit hm rfl) _
    | exact touch_AQ_RECNUM (Mask.bit hm rfl) _ | exact touch_AQ_STAT (Mask.bit hm rfl) _ | with_reducible refine Within.ite ?_ ?_
    | split | (extract_lets; split)

theorem within_execAqRearmDone {m : Nat} {s₀ s : State}
    (hm : m ||| 0xC7000000000000000000000000000000000000000000000000000000000000000000000000000000000000000000000805 = m)
    (k : Fin 192) (ns : Nat) (h₀ : Within m s₀ s) : AnswersWithin m s₀ (execAqRearmDone k ns s) := by
  unfold execAqRearmDone
  repeat' first
    | with_reducible assumption | with_reducible refine AnswersWithin.next ?_ | with_reducible refine AnswersWithin.ite ?_ ?_
    | with_reducible intro _ | with_reducible apply Within.advanceTo _ (Mask.bit hm rfl) | with_reducible apply within_State_setFld
    | with_reducible apply within_State_raise | with_reducible apply within_State_modAcq (Mask.sub hm rfl)
    | with_reducible apply within_State_setAqState (Mask.sub hm rfl) | with_reducible apply within_State_aqWriteRecord (Mask.sub hm rfl)
    | with_reducible refine Within.snd (by assumption) ?_ | with_reducible refine Within.fst (by assumption) ?_
    | exact touch_AQ_DEAD (Mask.bit hm rfl) _ | exact touch_AQ_STAT (Mask.bit hm rfl) _ | with_reducible refine Within.ite ?_ ?_ | split
    | (extract_lets; split)
    | (with_reducible refine Within.mk ?_ ?hk
       case hk => (repeat' apply And.intro) <;> first | with_reducible exact .inr rfl | exact .inl (Mask.bit hm rfl)
       first
        | with_reducible assumption | with_reducible apply Within.advanceTo _ (Mask.bit hm rfl)
        | with_reducible apply within_State_setFld | with_reducible apply within_State_raise
        | with_reducible apply within_State_modAcq (Mask.sub hm rfl) | with_reducible apply within_State_setAqState (Mask.sub hm rfl)
        | with_reducible apply within_State_aqWriteRecord (Mask.sub hm rfl) | with_reducible refine Within.snd (by assumption) ?_
        | with_reducible refine Within.fst (by assumption) ?_ | with_reducible refine Within.ite ?_ ?_ | split | (extract_lets; split)
        | (with_reducible refine Within.mk ?_ ?hk
           case hk => (repeat' apply And.intro) <;> first | with_reducible exact .inr rfl | exact .inl (Mask.bit hm rfl)
           first
            | with_reducible assumption | with_reducible apply Within.advanceTo _ (Mask.bit hm rfl)
            | with_reducible apply within_State_setFld | with_reducible apply within_State_raise
            | with_reducible apply within_State_modAcq (Mask.sub hm rfl)
            | with_reducible apply within_State_setAqState (Mask.sub hm rfl)
            | with_reducible apply within_State_aqWriteRecord (Mask.sub hm rfl) | with_reducible refine Within.snd (by assumption) ?_
            | with_reducible refine Within.fst (by assumption) ?_ | with_reducible refine Within.ite ?_ ?_ | split
            | (extract_lets; split)))

theorem within_execAqSpillWritten {m : Nat} {s₀ s : State} (hm : m ||| 0x80804 = m) (k : Fin 192) (h₀ : Within m s₀ s) :
    AnswersWithin m s₀ (execAqSpillWritten k s) := by
  unfold execAqSpillWritten
  repeat' first
    | with_reducible assumption | with_reducible refine AnswersWithin.next ?_ | with_reducible intro _
    | with_reducible apply within_State_modAcq (Mask.sub hm rfl) | with_reducible apply within_State_aqSpill (Mask.sub hm rfl)
    | with_reducible refine Within.snd (by assumption) ?_ | with_reducible refine Within.fst (by assumption) ?_
    | with_reducible refine Within.ite ?_ ?_ | split | (extract_lets; split)
    | (with_reducible refine Within.mk ?_ ?hk
       case hk => (repeat' apply And.intro) <;> first | with_reducible exact .inr rfl | exact .inl (Mask.bit hm rfl)
       first
        | with_reducible assumption | with_reducible apply within_State_modAcq (Mask.sub hm rfl)
        | with_reducible apply within_State_aqSpill (Mask.sub hm rfl) | with_reducible refine Within.snd (by assumption) ?_
        | with_reducible refine Within.fst (by assumption) ?_ | with_reducible refine Within.ite ?_ ?_ | split | (extract_lets; split)
        | (with_reducible refine Within.mk ?_ ?hk
           case hk => (repeat' apply And.intro) <;> first | with_reducible exact .inr rfl | exact .inl (Mask.bit hm rfl)
           first
            | with_reducible assumption | with_reducible apply within_State_modAcq (Mask.sub hm rfl)
            | with_reducible apply within_State_aqSpill (Mask.sub hm rfl) | with_reducible refine Within.snd (by assumption) ?_
            | with_reducible refine Within.fst (by assumption) ?_ | with_reducible refine Within.ite ?_ ?_ | split
            | (extract_lets; split)))

end Sys2Proof.Machine
end

