-- ==== Sys2Proof/Laws/RingPortWithin.lean ====
section
/-! SUPPORT. What the definitions of Machine/RingPort.lean keep, and all that they may change (Laws/Within.lean). -/

namespace Sys2Proof.Machine

set_option linter.all false

theorem within_State_modPort {m : Nat} {s₀ s : State} (hm : m ||| 0x10000 = m) (p : Nat) (f : RingPort → RingPort)
    (h₀ : Within m s₀ s) : Within m s₀ (State.modPort s p f) := by
  unfold State.modPort
  repeat' first
    | with_reducible assumption | with_reducible refine Within.ite ?_ ?_ | split | (extract_lets; split)
    | (with_reducible refine Within.mk ?_ ?hk
       case hk => (repeat' apply And.intro) <;> first | with_reducible exact .inr rfl | exact .inl (Mask.bit hm rfl)
       first
        | with_reducible assumption | with_reducible refine Within.ite ?_ ?_ | split | (extract_lets; split)
        | (with_reducible refine Within.mk ?_ ?hk
           case hk => (repeat' apply And.intro) <;> first | with_reducible exact .inr rfl | exact .inl (Mask.bit hm rfl)
           first
            | with_reducible assumption | with_reducible refine Within.ite ?_ ?_ | split | (extract_lets; split)))

theorem within_State_addCr {m : Nat} {s₀ s : State} (p : Nat) (t : Nat) (i : Nat) (n : Int) (ht0 : Touch m (crA p t i))
    (h₀ : Within m s₀ s) : Within m s₀ (State.addCr s p t i n) := by
  unfold State.addCr
  repeat' first
    | with_reducible assumption | with_reducible apply Within.wr

theorem within_State_sendTc0 {m : Nat} {s₀ s : State} (hm : m ||| 0x100000000 = m) (p : Nat) (f : TxFrame) (h₀ : Within m s₀ s) :
    Within m s₀ (State.sendTc0 s p f) := by
  unfold State.sendTc0
  repeat' first
    | with_reducible assumption | with_reducible apply Within.send _ (Mask.bit hm rfl) | with_reducible refine Within.ite ?_ ?_ | split
    | (extract_lets; split)

theorem within_State_nextSeq {m : Nat} {s₀ s : State} (hm : m ||| 0x10000 = m) (type : Nat) (h₀ : Within m s₀ s) :
    Within m s₀ (State.nextSeq s type).2 := by
  unfold State.nextSeq
  repeat' first
    | with_reducible assumption
    | (with_reducible refine Within.mk ?_ ?hk
       case hk => (repeat' apply And.intro) <;> first | with_reducible exact .inr rfl | exact .inl (Mask.bit hm rfl)
       first
        | with_reducible assumption
        | (with_reducible refine Within.mk ?_ ?hk
           case hk => (repeat' apply And.intro) <;> first | with_reducible exact .inr rfl | exact .inl (Mask.bit hm rfl)
           first
            | with_reducible assumption))

theorem within_State_originate {m : Nat} {s₀ s : State} (hm : m ||| 0x100000000 = m) (p : Nat) (type : Nat) (seq : Nat) (flags : Nat)
    (dst : Nat) (body : List Byte) (h₀ : Within m s₀ s) : Within m s₀ (State.originate s p type seq flags dst body) := by
  unfold State.originate
  repeat' first
    | with_reducible assumption | with_reducible apply Within.send _ (Mask.bit hm rfl)
    | with_reducible apply within_State_sendTc0 (Mask.sub hm rfl)

theorem within_State_originateBoth {m : Nat} {s₀ s : State} (hm : m ||| 0x100010000 = m) (type : Nat) (body : List Byte)
    (h₀ : Within m s₀ s) : Within m s₀ (State.originateBoth s type body) := by
  unfold State.originateBoth
  repeat' first
    | with_reducible assumption | with_reducible apply within_State_nextSeq (Mask.sub hm rfl)
    | with_reducible apply within_State_originate (Mask.sub hm rfl) | with_reducible refine Within.snd (by assumption) ?_
    | with_reducible refine Within.fst (by assumption) ?_ | with_reducible refine Within.ite ?_ ?_ | split | (extract_lets; split)

theorem within_State_originateLocal {m : Nat} {s₀ s : State} (hm : m ||| 0x100010000 = m) (p : Nat) (type : Nat) (body : List Byte)
    (h₀ : Within m s₀ s) : Within m s₀ (State.originateLocal s p type body) := by
  unfold State.originateLocal
  repeat' first
    | with_reducible assumption | with_reducible apply within_State_nextSeq (Mask.sub hm rfl)
    | with_reducible apply within_State_originate (Mask.sub hm rfl) | with_reducible refine Within.snd (by assumption) ?_
    | with_reducible refine Within.fst (by assumption) ?_ | with_reducible refine Within.ite ?_ ?_ | split | (extract_lets; split)

theorem within_State_sendCredit {m : Nat} {s₀ s : State} (hm : m ||| 0x1000000000000000000000000000100010000 = m) (p : Nat)
    (h₀ : Within m s₀ s) : Within m s₀ (State.sendCredit s p) := by
  unfold State.sendCredit
  repeat' first
    | with_reducible assumption | with_reducible intro _ | with_reducible apply Within.wr
    | with_reducible apply within_State_modPort (Mask.sub hm rfl) | with_reducible apply within_State_originate (Mask.sub hm rfl)
    | with_reducible apply within_State_originateLocal (Mask.sub hm rfl) | with_reducible refine Within.each ?_ ?_
    | exact touch_cr_RG_CR_RET_TX (Mask.bit hm rfl) _ _
    | (with_reducible refine Within.mk ?_ ?hk
       case hk => (repeat' apply And.intro) <;> first | with_reducible exact .inr rfl | exact .inl (Mask.bit hm rfl)
       first
        | with_reducible assumption | with_reducible apply Within.wr | with_reducible apply within_State_modPort (Mask.sub hm rfl)
        | with_reducible apply within_State_originate (Mask.sub hm rfl)
        | with_reducible apply within_State_originateLocal (Mask.sub hm rfl) | with_reducible refine Within.each ?_ ?_)

theorem within_State_returnCells {m : Nat} {s₀ s : State} (hm : m ||| 0x1000000000000000000000000000100010000 = m) (p : Nat)
    (h₀ : Within m s₀ s) : Within m s₀ (State.returnCells s p) := by
  unfold State.returnCells
  repeat' first
    | with_reducible assumption | with_reducible intro _ | with_reducible apply Within.send _ (Mask.bit hm rfl)
    | with_reducible apply within_State_modPort (Mask.sub hm rfl) | with_reducible apply within_State_sendCredit (Mask.sub hm rfl)
    | with_reducible refine Within.ite ?_ ?_ | split | (extract_lets; split)
    | (with_reducible refine Within.mk ?_ ?hk
       case hk => (repeat' apply And.intro) <;> first | with_reducible exact .inr rfl | exact .inl (Mask.bit hm rfl)
       first
        | with_reducible assumption | with_reducible apply Within.send _ (Mask.bit hm rfl)
        | with_reducible apply within_State_modPort (Mask.sub hm rfl) | with_reducible apply within_State_sendCredit (Mask.sub hm rfl)
        | with_reducible refine Within.ite ?_ ?_ | split | (extract_lets; split))

theorem within_State_startFrame {m : Nat} {s₀ s : State} (hm : m ||| 0x300000000000000000000000000100000000 = m) (p : Nat)
    (q : Queued) (h₀ : Within m s₀ s) : Within m s₀ (State.startFrame s p q) := by
  unfold State.startFrame
  repeat' first
    | with_reducible assumption | with_reducible apply Within.send _ (Mask.bit hm rfl) | with_reducible apply within_State_addCr
    | exact touch_cr_RG_CR_AVAIL (Mask.bit hm rfl) _ _ | exact touch_cr_RG_CR_SENT (Mask.bit hm rfl) _ _

theorem within_State_pump {m : Nat} (hm : m ||| 0x3300000000000000000000000000100010000 = m) {s₀ : State} (n : Nat) {s : State}
    (p : Nat) (h₀ : Within m s₀ s) : Within m s₀ (State.pump n s p) := by
  induction n generalizing s with
  | zero => exact h₀
  | succ n ih =>
    unfold State.pump
    repeat' first
      | with_reducible assumption | with_reducible apply ih | with_reducible apply within_State_returnCells (Mask.sub hm rfl)
      | with_reducible apply within_State_addCr | with_reducible apply within_State_modPort (Mask.sub hm rfl) | with_reducible apply within_State_startFrame (Mask.sub hm rfl)
      | exact touch_cr_RG_CR_HELD (Mask.bit hm rfl) _ _ | split | (extract_lets; split)

theorem within_State_drain {m : Nat} {s₀ s : State} (hm : m ||| 0x3300000000000000000000000000100010000 = m) (p : Nat)
    (h₀ : Within m s₀ s) : Within m s₀ (State.drain s p) := by
  unfold State.drain
  repeat' first
    | with_reducible assumption | with_reducible apply within_State_pump (Mask.sub hm rfl)

theorem within_State_sendOwn {m : Nat} {s₀ s : State} (hm : m ||| 0x3340000000000000000000000000100010000 = m) (p : Nat) (cls : Nat)
    (len : Nat) (f : TxFrame) (h₀ : Within m s₀ s) : Within m s₀ (State.sendOwn s p cls len f) := by
  unfold State.sendOwn
  repeat' first
    | with_reducible assumption | with_reducible intro _ | with_reducible apply within_State_satAdd
    | with_reducible apply within_State_modPort (Mask.sub hm rfl) | with_reducible apply within_State_drain (Mask.sub hm rfl)
    | exact touch_linkErrA (Mask.bit hm rfl) _ | with_reducible refine Within.ite ?_ ?_ | split | (extract_lets; split)
    | (with_reducible refine Within.mk ?_ ?hk
       case hk => (repeat' apply And.intro) <;> first | with_reducible exact .inr rfl | exact .inl (Mask.bit hm rfl)
       first
        | with_reducible assumption | with_reducible apply within_State_satAdd
        | with_reducible apply within_State_modPort (Mask.sub hm rfl) | with_reducible apply within_State_drain (Mask.sub hm rfl)
        | with_reducible refine Within.ite ?_ ?_ | split | (extract_lets; split))

end Sys2Proof.Machine
end

