-- ==== Sys2Proof/Laws/TideCoreWithin.lean ====
section
/-! SUPPORT. What the definitions of Machine/TideCore.lean keep, and all that they may change (Laws/Within.lean). -/

namespace Sys2Proof.Machine

set_option linter.all false

theorem within_State_failSettle {m : Nat} {s₀ s : State} (hm : m ||| 0x10000000000000000000000000000000020000 = m)
    (h₀ : Within m s₀ s) : Within m s₀ (State.failSettle s) := by
  unfold State.failSettle
  repeat' first
    | with_reducible assumption | with_reducible apply within_State_raise | exact touch_TL_STAT (Mask.bit hm rfl)
    | with_reducible refine Within.ite ?_ ?_ | split | (extract_lets; split)
    | (with_reducible refine Within.mk ?_ ?hk
       case hk => (repeat' apply And.intro) <;> first | with_reducible exact .inr rfl | exact .inl (Mask.bit hm rfl)
       first
        | with_reducible assumption | with_reducible apply within_State_raise | with_reducible refine Within.ite ?_ ?_ | split
        | (extract_lets; split)
        | (with_reducible refine Within.mk ?_ ?hk
           case hk => (repeat' apply And.intro) <;> first | with_reducible exact .inr rfl | exact .inl (Mask.bit hm rfl)
           first
            | with_reducible assumption | with_reducible apply within_State_raise | with_reducible refine Within.ite ?_ ?_ | split
            | (extract_lets; split)))

theorem within_State_startSettle {m : Nat} {s₀ s : State} (hm : m ||| 0x20000 = m) (h₀ : Within m s₀ s) :
    Within m s₀ (State.startSettle s) := by
  unfold State.startSettle
  repeat' first
    | with_reducible assumption
    | (with_reducible refine Within.mk ?_ ?hk
       case hk => (repeat' apply And.intro) <;> first | with_reducible exact .inr rfl | exact .inl (Mask.bit hm rfl)
       first
        | with_reducible assumption
        | (with_reducible refine Within.mk ?_ ?hk
           case hk => (repeat' apply And.intro) <;> first | with_reducible exact .inr rfl | exact .inl (Mask.bit hm rfl)
           first
            | with_reducible assumption))

theorem within_State_settleIfWhole {m : Nat} {s₀ s : State} (hm : m ||| 0x20000 = m) (h₀ : Within m s₀ s) :
    Within m s₀ (State.settleIfWhole s) := by
  unfold State.settleIfWhole
  repeat' first
    | with_reducible assumption | with_reducible apply within_State_startSettle (Mask.sub hm rfl)
    | with_reducible refine Within.ite ?_ ?_ | split | (extract_lets; split)

theorem within_State_settleOwed {m : Nat} {s₀ s : State} (hm : m ||| 0x20000 = m) (h₀ : Within m s₀ s) :
    Within m s₀ (State.settleOwed s) := by
  unfold State.settleOwed
  repeat' first
    | with_reducible assumption | with_reducible apply within_State_settleIfWhole (Mask.sub hm rfl)
    | with_reducible refine Within.ite ?_ ?_ | split | (extract_lets; split)

theorem within_State_setTl {m : Nat} {s₀ s : State} (hm : m ||| 0x8000000000000000000000000000000000000 = m) (st : Nat) (src : Nat)
    (h₀ : Within m s₀ s) : Within m s₀ (State.setTl s st src) := by
  unfold State.setTl
  repeat' first
    | with_reducible assumption | with_reducible apply within_State_setFld | exact touch_TL_STATE (Mask.bit hm rfl)

theorem within_State_holdover {m : Nat} {s₀ s : State} (hm : m ||| 0x20008000000000000000000000000000000020004 = m)
    (h₀ : Within m s₀ s) : Within m s₀ (State.holdover s) := by
  unfold State.holdover
  repeat' first
    | with_reducible assumption | with_reducible apply Within.wr | with_reducible apply Within.free (Mask.bit hm rfl)
    | with_reducible apply within_State_setTl (Mask.sub hm rfl) | with_reducible refine Within.snd (by assumption) ?_
    | with_reducible refine Within.fst (by assumption) ?_ | exact touch_TL_FREQ (Mask.bit hm rfl)
    | with_reducible refine Within.ite ?_ ?_ | split | (extract_lets; split)
    | (with_reducible refine Within.mk ?_ ?hk
       case hk => (repeat' apply And.intro) <;> first | with_reducible exact .inr rfl | exact .inl (Mask.bit hm rfl)
       first
        | with_reducible assumption | with_reducible apply Within.wr | with_reducible apply Within.free (Mask.bit hm rfl)
        | with_reducible apply within_State_setTl (Mask.sub hm rfl) | with_reducible refine Within.snd (by assumption) ?_
        | with_reducible refine Within.fst (by assumption) ?_ | with_reducible refine Within.ite ?_ ?_ | split | (extract_lets; split)
        | (with_reducible refine Within.mk ?_ ?hk
           case hk => (repeat' apply And.intro) <;> first | with_reducible exact .inr rfl | exact .inl (Mask.bit hm rfl)
           first
            | with_reducible assumption | with_reducible apply Within.wr | with_reducible apply Within.free (Mask.bit hm rfl)
            | with_reducible apply within_State_setTl (Mask.sub hm rfl) | with_reducible refine Within.snd (by assumption) ?_
            | with_reducible refine Within.fst (by assumption) ?_ | with_reducible refine Within.ite ?_ ?_ | split
            | (extract_lets; split)))

theorem within_State_chooseSource {m : Nat} {s₀ s : State} (hm : m ||| 0x20008000000000000000000000000000000020004 = m)
    (h₀ : Within m s₀ s) : Within m s₀ (State.chooseSource s) := by
  unfold State.chooseSource
  repeat' first
    | with_reducible assumption | with_reducible apply within_State_setTl (Mask.sub hm rfl)
    | with_reducible apply within_State_holdover (Mask.sub hm rfl) | with_reducible refine Within.ite ?_ ?_ | split
    | (extract_lets; split)
    | (with_reducible refine Within.mk ?_ ?hk
       case hk => (repeat' apply And.intro) <;> first | with_reducible exact .inr rfl | exact .inl (Mask.bit hm rfl)
       first
        | with_reducible assumption | with_reducible apply within_State_setTl (Mask.sub hm rfl)
        | with_reducible apply within_State_holdover (Mask.sub hm rfl) | with_reducible refine Within.ite ?_ ?_ | split
        | (extract_lets; split)
        | (with_reducible refine Within.mk ?_ ?hk
           case hk => (repeat' apply And.intro) <;> first | with_reducible exact .inr rfl | exact .inl (Mask.bit hm rfl)
           first
            | with_reducible assumption | with_reducible apply within_State_setTl (Mask.sub hm rfl)
            | with_reducible apply within_State_holdover (Mask.sub hm rfl) | with_reducible refine Within.ite ?_ ?_ | split
            | (extract_lets; split)))

theorem within_State_dropEvents {m : Nat} {s₀ s : State} (hm : m ||| 0x4002000000000000000000002000000 = m) (h₀ : Within m s₀ s) :
    Within m s₀ (State.dropEvents s) := by
  unfold State.dropEvents
  repeat' first
    | with_reducible assumption | with_reducible apply Within.wr | with_reducible apply within_State_raise
    | exact touch_HT_EVT_LOST (Mask.bit hm rfl) | exact touch_HT_STAT (Mask.bit hm rfl) | with_reducible refine Within.ite ?_ ?_ | split
    | (extract_lets; split)
    | (with_reducible refine Within.mk ?_ ?hk
       case hk => (repeat' apply And.intro) <;> first | with_reducible exact .inr rfl | exact .inl (Mask.bit hm rfl)
       first
        | with_reducible assumption | with_reducible apply Within.wr | with_reducible apply within_State_raise
        | with_reducible refine Within.ite ?_ ?_ | split | (extract_lets; split)
        | (with_reducible refine Within.mk ?_ ?hk
           case hk => (repeat' apply And.intro) <;> first | with_reducible exact .inr rfl | exact .inl (Mask.bit hm rfl)
           first
            | with_reducible assumption | with_reducible apply Within.wr | with_reducible apply within_State_raise
            | with_reducible refine Within.ite ?_ ?_ | split | (extract_lets; split)))

theorem within_State_showAlert {m : Nat} {s₀ s : State} (hm : m ||| 0x108000000 = m) (h₀ : Within m s₀ s) :
    Within m s₀ (State.showAlert s) := by
  unfold State.showAlert
  repeat' first
    | with_reducible assumption | with_reducible intro _ | with_reducible apply Within.send _ (Mask.bit hm rfl)
    | with_reducible apply within_State_fault (Mask.sub hm rfl) | with_reducible refine Within.ite ?_ ?_ | split | (extract_lets; split)
    | (with_reducible refine Within.mk ?_ ?hk
       case hk => (repeat' apply And.intro) <;> first | with_reducible exact .inr rfl | exact .inl (Mask.bit hm rfl)
       first
        | with_reducible assumption | with_reducible apply Within.send _ (Mask.bit hm rfl)
        | with_reducible apply within_State_fault (Mask.sub hm rfl) | with_reducible refine Within.ite ?_ ?_ | split
        | (extract_lets; split)
        | (with_reducible refine Within.mk ?_ ?hk
           case hk => (repeat' apply And.intro) <;> first | with_reducible exact .inr rfl | exact .inl (Mask.bit hm rfl)
           first
            | with_reducible assumption | with_reducible apply Within.send _ (Mask.bit hm rfl)
            | with_reducible apply within_State_fault (Mask.sub hm rfl) | with_reducible refine Within.ite ?_ ?_ | split
            | (extract_lets; split)))

theorem within_State_deviceApplied {m : Nat} {s₀ s : State} (hm : m ||| 0x2000800000400200000000000000000010A020004 = m) (old : State)
    (a : Nat) (h₀ : Within m s₀ s) : Within m s₀ (State.deviceApplied s old a) := by
  unfold State.deviceApplied
  repeat' first
    | with_reducible assumption | with_reducible apply within_State_settleOwed (Mask.sub hm rfl)
    | with_reducible apply within_State_chooseSource (Mask.sub hm rfl) | with_reducible apply within_State_dropEvents (Mask.sub hm rfl)
    | with_reducible apply within_State_showAlert (Mask.sub hm rfl) | with_reducible refine Within.ite ?_ ?_ | split
    | (extract_lets; split)
    | (with_reducible refine Within.mk ?_ ?hk
       case hk => (repeat' apply And.intro) <;> first | with_reducible exact .inr rfl | exact .inl (Mask.bit hm rfl)
       first
        | with_reducible assumption | with_reducible apply within_State_settleOwed (Mask.sub hm rfl)
        | with_reducible apply within_State_chooseSource (Mask.sub hm rfl)
        | with_reducible apply within_State_dropEvents (Mask.sub hm rfl)
        | with_reducible apply within_State_showAlert (Mask.sub hm rfl) | with_reducible refine Within.ite ?_ ?_ | split
        | (extract_lets; split)
        | (with_reducible refine Within.mk ?_ ?hk
           case hk => (repeat' apply And.intro) <;> first | with_reducible exact .inr rfl | exact .inl (Mask.bit hm rfl)
           first
            | with_reducible assumption | with_reducible apply within_State_settleOwed (Mask.sub hm rfl)
            | with_reducible apply within_State_chooseSource (Mask.sub hm rfl)
            | with_reducible apply within_State_dropEvents (Mask.sub hm rfl)
            | with_reducible apply within_State_showAlert (Mask.sub hm rfl) | with_reducible refine Within.ite ?_ ?_ | split
            | (extract_lets; split)))

end Sys2Proof.Machine
end

