-- ==== Sys2Proof/Laws/ApplyWithin.lean ====
section
/-! SUPPORT. What the definitions of Machine/Apply.lean keep, and all that they may change (Laws/Within.lean). -/

namespace Sys2Proof.Machine

set_option linter.all false

theorem within_State_showMarks {m : Nat} {s₀ s : State} (hm : m ||| 0x100000000 = m) (old : State) (h₀ : Within m s₀ s) :
    Within m s₀ (State.showMarks s old) := by
  unfold State.showMarks
  repeat' first
    | with_reducible assumption | with_reducible apply Within.send _ (Mask.bit hm rfl) | with_reducible refine Within.ite ?_ ?_ | split
    | (extract_lets; split)

theorem within_State_appliedCmp {m : Nat} {s₀ s : State}
    (hm : m ||| 0xF900000E00000000000000000000000000000000000000000100000002000020000070000000000040020000000000004000003FFFFFFFF = m)
    (old : State) (n : Nat) (h₀ : Within m s₀ s) : Within m s₀ (State.appliedCmp s old n) := by
  unfold State.appliedCmp
  repeat' first
    | with_reducible assumption | with_reducible apply within_State_raise | with_reducible apply within_State_raiseIf
    | with_reducible apply within_State_undetermine (Mask.sub hm rfl)
    | with_reducible apply within_State_startComparator (Mask.sub hm rfl)
    | with_reducible apply within_State_holdThresholds (Mask.sub hm rfl) | with_reducible apply within_State_tdSleep (Mask.sub hm rfl)
    | exact touch_PS_STAT (Mask.bit hm rfl) _ | exact Touch.any (Mask.bit hm rfl) | with_reducible refine Within.ite ?_ ?_ | split
    | (extract_lets; split)

theorem within_State_pinApplied {m : Nat} {s₀ s : State}
    (hm : m ||| 0xF901080E00000870000000000000000000000000000000000100000002000020000070000000000040020000000000004000003FFFFFFFF = m)
    (old : State) (n : Nat) (off : Nat) (h₀ : Within m s₀ s) : Within m s₀ (State.pinApplied s old n off) := by
  unfold State.pinApplied
  repeat' first
    | with_reducible assumption | with_reducible apply within_State_noteClip (Mask.sub hm rfl)
    | with_reducible apply within_State_disturb (Mask.sub hm rfl) | with_reducible apply within_State_noteRange (Mask.sub hm rfl)
    | with_reducible apply within_State_noteClamps (Mask.sub hm rfl) | with_reducible apply within_State_appliedPmCtrl (Mask.sub hm rfl)
    | with_reducible apply within_State_appliedForce (Mask.sub hm rfl) | with_reducible apply within_State_appliedAd (Mask.sub hm rfl)
    | with_reducible apply within_State_appliedCmp (Mask.sub hm rfl) | with_reducible apply within_State_aqConvStopped (Mask.sub hm rfl) | exact Touch.any (Mask.bit hm rfl)
    | with_reducible refine Within.ite ?_ ?_ | split | (extract_lets; split)

theorem within_State_strandApplied {m : Nat} {s₀ s : State}
    (hm : m ||| 0x8000000000000000080020000000000000000000000000000000000000000000000000000000000000100000040 = m) (old : State)
    (k : Nat) (off : Nat) (h₀ : Within m s₀ s) : Within m s₀ (State.strandApplied s old k off) := by
  unfold State.strandApplied
  repeat' first
    | with_reducible assumption | with_reducible intro _ | with_reducible apply within_State_raise
    | with_reducible apply within_State_raiseIf | with_reducible apply within_State_modStrand (Mask.sub hm rfl)
    | with_reducible apply within_State_appliedFtw (Mask.sub hm rfl) | with_reducible apply within_State_appliedSgCtrl (Mask.sub hm rfl)
    | with_reducible apply within_State_showMarks (Mask.sub hm rfl) | exact touch_SQ_STATE (Mask.bit hm rfl) _
    | exact touch_WV_STAT (Mask.bit hm rfl) _ | with_reducible refine Within.ite ?_ ?_ | split | (extract_lets; split)
    | (with_reducible refine Within.mk ?_ ?hk
       case hk => (repeat' apply And.intro) <;> first | with_reducible exact .inr rfl | exact .inl (Mask.bit hm rfl)
       first
        | with_reducible assumption | with_reducible apply within_State_raise | with_reducible apply within_State_raiseIf
        | with_reducible apply within_State_modStrand (Mask.sub hm rfl)
        | with_reducible apply within_State_appliedFtw (Mask.sub hm rfl)
        | with_reducible apply within_State_appliedSgCtrl (Mask.sub hm rfl)
        | with_reducible apply within_State_showMarks (Mask.sub hm rfl) | with_reducible refine Within.ite ?_ ?_ | split
        | (extract_lets; split)
        | (with_reducible refine Within.mk ?_ ?hk
           case hk => (repeat' apply And.intro) <;> first | with_reducible exact .inr rfl | exact .inl (Mask.bit hm rfl)
           first
            | with_reducible assumption | with_reducible apply within_State_raise | with_reducible apply within_State_raiseIf
            | with_reducible apply within_State_modStrand (Mask.sub hm rfl)
            | with_reducible apply within_State_appliedFtw (Mask.sub hm rfl)
            | with_reducible apply within_State_appliedSgCtrl (Mask.sub hm rfl)
            | with_reducible apply within_State_showMarks (Mask.sub hm rfl) | with_reducible refine Within.ite ?_ ?_ | split
            | (extract_lets; split)))

theorem within_State_applied {m : Nat} {s₀ s : State}
    (hm : m ||| 0xF901080E00000870000080000000000000000800200000000100000002000020000070200080000040020000000000004000003FFFFFFFF = m)
    (old : State) (a : Nat) (h₀ : Within m s₀ s) : Within m s₀ (State.applied s old a) := by
  unfold State.applied
  repeat' first
    | with_reducible assumption | with_reducible apply within_State_deviceApplied (Mask.sub hm rfl)
    | with_reducible apply within_State_pinApplied (Mask.sub hm rfl) | with_reducible apply within_State_strandApplied (Mask.sub hm rfl)
    | with_reducible refine Within.snd (by assumption) ?_ | with_reducible refine Within.fst (by assumption) ?_
    | exact Touch.any (Mask.bit hm rfl) | with_reducible refine Within.ite ?_ ?_ | split | (extract_lets; split)

theorem within_State_applyAll {m : Nat} {s₀ s : State}
    (hm : m ||| 0xF901080E00000870000080000000000000000800200000000100000002000020000070200080000040020000000000004000003FFFFFFFF = m)
    (l : List (Nat × Word)) (h₀ : Within m s₀ s) : Within m s₀ (State.applyAll s l) := by
  unfold State.applyAll
  repeat' first
    | with_reducible assumption | with_reducible intro _ | with_reducible apply Within.wr
    | with_reducible apply within_State_applied (Mask.sub hm rfl) | with_reducible refine Within.each ?_ ?_
    | exact Touch.any (Mask.bit hm rfl)

theorem within_State_takeCaptured {m : Nat} {s₀ s : State}
    (hm : m ||| 0xF901080E00000870000080000000000000000800200000000100000002000020000070200080000040020000000000004000003FFFFFFFF = m)
    (k : Nat) (h₀ : Within m s₀ s) : Within m s₀ (State.takeCaptured s k) := by
  unfold State.takeCaptured
  repeat' first
    | with_reducible assumption | with_reducible intro _ | with_reducible apply within_State_applyAll (Mask.sub hm rfl)
    | exact Touch.any (Mask.bit hm rfl)
    | (with_reducible refine Within.mk ?_ ?hk
       case hk => (repeat' apply And.intro) <;> first | with_reducible exact .inr rfl | exact .inl (Mask.bit hm rfl)
       first
        | with_reducible assumption | with_reducible apply within_State_applyAll (Mask.sub hm rfl))

theorem within_State_strobe {m : Nat} {s₀ s : State}
    (hm : m ||| 0xF901080E00000870000080000000000000000800200000000100000002000020000070200080000040020000000000004000003FFFFFFFF = m)
    (mask : Word) (h₀ : Within m s₀ s) : Within m s₀ (State.strobe s mask) := by
  unfold State.strobe
  repeat' first
    | with_reducible assumption | with_reducible intro _ | with_reducible apply within_State_modStrand (Mask.sub hm rfl)
    | with_reducible apply within_State_applyAll (Mask.sub hm rfl) | with_reducible refine Within.each ?_ ?_
    | with_reducible refine Within.foldl _ ?_ ?_ | with_reducible refine Within.foldlFst _ ?_ ?_
    | with_reducible refine Within.foldlSnd _ ?_ ?_ | with_reducible refine Within.snd (by assumption) ?_
    | with_reducible refine Within.fst (by assumption) ?_ | exact Touch.any (Mask.bit hm rfl) | with_reducible refine Within.ite ?_ ?_
    | split | (extract_lets; split)
    | (with_reducible refine Within.mk ?_ ?hk
       case hk => (repeat' apply And.intro) <;> first | with_reducible exact .inr rfl | exact .inl (Mask.bit hm rfl)
       first
        | with_reducible assumption | with_reducible apply within_State_modStrand (Mask.sub hm rfl)
        | with_reducible apply within_State_applyAll (Mask.sub hm rfl) | with_reducible refine Within.each ?_ ?_
        | with_reducible refine Within.foldl _ ?_ ?_ | with_reducible refine Within.foldlFst _ ?_ ?_
        | with_reducible refine Within.foldlSnd _ ?_ ?_ | with_reducible refine Within.snd (by assumption) ?_
        | with_reducible refine Within.fst (by assumption) ?_ | with_reducible refine Within.ite ?_ ?_ | split | (extract_lets; split)
        | (with_reducible refine Within.mk ?_ ?hk
           case hk => (repeat' apply And.intro) <;> first | with_reducible exact .inr rfl | exact .inl (Mask.bit hm rfl)
           first
            | with_reducible assumption | with_reducible apply within_State_modStrand (Mask.sub hm rfl)
            | with_reducible apply within_State_applyAll (Mask.sub hm rfl) | with_reducible refine Within.each ?_ ?_
            | with_reducible refine Within.foldl _ ?_ ?_ | with_reducible refine Within.foldlFst _ ?_ ?_
            | with_reducible refine Within.foldlSnd _ ?_ ?_ | with_reducible refine Within.snd (by assumption) ?_
            | with_reducible refine Within.fst (by assumption) ?_ | with_reducible refine Within.ite ?_ ?_ | split
            | (extract_lets; split)))

theorem within_State_fireArmed {m : Nat} {s₀ s : State}
    (hm : m ||| 0xF901080E00000870000080000000000000000800200000000100000002000020000070200080000040020000000000004003003FFFFFFFF = m)
    (h₀ : Within m s₀ s) : Within m s₀ (State.fireArmed s) := by
  unfold State.fireArmed
  repeat' first
    | with_reducible assumption | with_reducible apply within_State_setFld | with_reducible apply within_State_raise
    | with_reducible apply within_State_strobe (Mask.sub hm rfl) | exact touch_DEV_UPD_CTRL (Mask.bit hm rfl)
    | exact touch_DEV_UPD_STAT (Mask.bit hm rfl) | exact Touch.any (Mask.bit hm rfl)
    | (with_reducible refine Within.mk ?_ ?hk
       case hk => (repeat' apply And.intro) <;> first | with_reducible exact .inr rfl | exact .inl (Mask.bit hm rfl)
       first
        | with_reducible assumption | with_reducible apply within_State_setFld | with_reducible apply within_State_raise
        | with_reducible apply within_State_strobe (Mask.sub hm rfl))

theorem within_State_fireBound {m : Nat} {s₀ s : State}
    (hm : m ||| 0xF901080E00000870000080000000000000000800200000000100000002000020000070200080000040020000000000004003003FFFFFFFF = m)
    (b : Nat) (h₀ : Within m s₀ s) : Within m s₀ (State.fireBound s b) := by
  unfold State.fireBound
  repeat' first
    | with_reducible assumption | with_reducible apply within_State_fireArmed (Mask.sub hm rfl)
    | with_reducible refine Within.snd (by assumption) ?_ | with_reducible refine Within.fst (by assumption) ?_
    | exact Touch.any (Mask.bit hm rfl) | with_reducible refine Within.ite ?_ ?_ | split | (extract_lets; split)

theorem within_State_strobeStrand {m : Nat} {s₀ s : State}
    (hm : m ||| 0xF901080E00000870000080000000000000000800200000000100000002000020000070200080000040020000000000004000003FFFFFFFF = m)
    (k : Nat) (mask : Nat) (h₀ : Within m s₀ s) : Within m s₀ (State.strobeStrand s k mask) := by
  unfold State.strobeStrand
  repeat' first
    | with_reducible assumption | with_reducible intro _ | with_reducible apply within_State_applyAll (Mask.sub hm rfl)
    | exact Touch.any (Mask.bit hm rfl)
    | (with_reducible refine Within.mk ?_ ?hk
       case hk => (repeat' apply And.intro) <;> first | with_reducible exact .inr rfl | exact .inl (Mask.bit hm rfl)
       first
        | with_reducible assumption | with_reducible apply within_State_applyAll (Mask.sub hm rfl))

theorem within_State_writeShadow {m : Nat} {s₀ s : State} (hm : m ||| 0x8 = m) (a : Nat) (v : Word) (h₀ : Within m s₀ s) :
    Within m s₀ (State.writeShadow s a v) := by
  unfold State.writeShadow
  repeat' first
    | with_reducible assumption
    | (with_reducible refine Within.mk ?_ ?hk
       case hk => (repeat' apply And.intro) <;> first | with_reducible exact .inr rfl | exact .inl (Mask.bit hm rfl)
       first
        | with_reducible assumption)

end Sys2Proof.Machine
end

