-- ==== Sys2Proof/Laws/HostCoreWithin.lean ====
section
/-! SUPPORT. What the definitions of Machine/HostCore.lean keep, and all that they may change (Laws/Within.lean). -/

namespace Sys2Proof.Machine

set_option linter.all false

theorem within_State_setQp {m : Nat} {s₀ s : State} (hm : m ||| 0x4000 = m) (q : Nat) (v : Qp) (h₀ : Within m s₀ s) :
    Within m s₀ (State.setQp s q v) := by
  unfold State.setQp
  repeat' first
    | with_reducible assumption
    | (with_reducible refine Within.mk ?_ ?hk
       case hk => (repeat' apply And.intro) <;> first | with_reducible exact .inr rfl | exact .inl (Mask.bit hm rfl)
       first
        | with_reducible assumption)

theorem within_State_modQp {m : Nat} {s₀ s : State} (hm : m ||| 0x4000 = m) (q : Nat) (f : Qp → Qp) (h₀ : Within m s₀ s) :
    Within m s₀ (State.modQp s q f) := by
  unfold State.modQp
  repeat' first
    | with_reducible assumption | with_reducible apply within_State_setQp (Mask.sub hm rfl)

theorem within_State_sendRoce {m : Nat} {s₀ s : State} (hm : m ||| 0x3340000000000000000000000000100010000 = m) (q : Nat) (psn : Nat)
    (ext : Nat) (payload : Nat) (pkt : RocePkt) (h₀ : Within m s₀ s) : Within m s₀ (State.sendRoce s q psn ext payload pkt) := by
  unfold State.sendRoce
  repeat' first
    | with_reducible assumption | with_reducible apply Within.send _ (Mask.bit hm rfl)
    | with_reducible apply within_State_sendOwn (Mask.sub hm rfl)

theorem within_State_sendRequest {m : Nat} {s₀ s : State} (hm : m ||| 0x3340000000000000000000000000100010000 = m) (q : Nat)
    (psn : Nat) (r : Rdma) (h₀ : Within m s₀ s) : Within m s₀ (State.sendRequest s q psn r).1 := by
  unfold State.sendRequest
  repeat' first
    | with_reducible assumption | with_reducible intro _ | with_reducible apply Within.wr
    | with_reducible apply Within.send _ (Mask.bit hm rfl) | with_reducible apply within_State_sendRoce (Mask.sub hm rfl)
    | with_reducible refine Within.foldl _ ?_ ?_ | with_reducible refine Within.foldlFst _ ?_ ?_
    | with_reducible refine Within.foldlSnd _ ?_ ?_ | with_reducible refine Within.snd (by assumption) ?_
    | with_reducible refine Within.fst (by assumption) ?_ | with_reducible refine Within.ite ?_ ?_ | split | (extract_lets; split)

theorem within_State_pumpQp {m : Nat} (hm : m ||| 0x3340000000000000000000000000100014000 = m) {s₀ : State} (n : Nat) {s : State}
    (q : Nat) (h₀ : Within m s₀ s) : Within m s₀ (State.pumpQp n s q) := by
  induction n generalizing s with
  | zero => exact h₀
  | succ n ih =>
    unfold State.pumpQp
    repeat' first
      | with_reducible assumption | with_reducible apply ih | with_reducible apply within_State_setQp (Mask.sub hm rfl)
      | with_reducible apply within_State_sendRequest (Mask.sub hm rfl) | with_reducible refine Within.fst (by assumption) ?_
      | split | (extract_lets; split)

theorem within_State_post {m : Nat} {s₀ s : State} (hm : m ||| 0x3340000000000000000000000000100014000 = m) (q : Nat) (r : Rdma)
    (h₀ : Within m s₀ s) : Within m s₀ (State.post s q r) := by
  unfold State.post
  repeat' first
    | with_reducible assumption | with_reducible intro _ | with_reducible apply within_State_pump (Mask.sub hm rfl)
    | with_reducible apply within_State_modQp (Mask.sub hm rfl) | with_reducible apply within_State_pumpQp (Mask.sub hm rfl)
    | with_reducible refine Within.ite ?_ ?_ | split | (extract_lets; split)
    | (with_reducible refine Within.mk ?_ ?hk
       case hk => (repeat' apply And.intro) <;> first | with_reducible exact .inr rfl | exact .inl (Mask.bit hm rfl)
       first
        | with_reducible assumption | with_reducible apply within_State_pump (Mask.sub hm rfl)
        | with_reducible apply within_State_modQp (Mask.sub hm rfl) | with_reducible apply within_State_pumpQp (Mask.sub hm rfl)
        | with_reducible refine Within.ite ?_ ?_ | split | (extract_lets; split))

theorem within_State_rdmaWrite {m : Nat} {s₀ s : State} (hm : m ||| 0x3340000000000000000000000000100014000 = m) (q : Nat) (va : Nat)
    (rkey : Nat) (data : List Byte) (h₀ : Within m s₀ s) : Within m s₀ (State.rdmaWrite s q va rkey data) := by
  unfold State.rdmaWrite
  repeat' first
    | with_reducible assumption | with_reducible apply within_State_post (Mask.sub hm rfl)

theorem within_State_rdmaRead {m : Nat} {s₀ s : State} (hm : m ||| 0x3340000000000000000000000000100014000 = m) (q : Nat) (va : Nat)
    (rkey : Nat) (len : Nat) (use : ReadUse) (h₀ : Within m s₀ s) : Within m s₀ (State.rdmaRead s q va rkey len use) := by
  unfold State.rdmaRead
  repeat' first
    | with_reducible assumption | with_reducible apply within_State_post (Mask.sub hm rfl)

theorem within_State_leaveRts {m : Nat} {s₀ s : State}
    (hm : m ||| 0x200000300000000000000000000000000000000000000000000000000000000000000000000000000000000000000000400200000000000000000000208C000 = m)
    (q : Nat) (st : Nat) (h₀ : Within m s₀ s) : Within m s₀ (State.leaveRts s q st) := by
  unfold State.leaveRts
  repeat' first
    | with_reducible assumption | with_reducible intro _ | with_reducible apply within_State_setFld
    | with_reducible apply within_State_raise | with_reducible apply within_State_raiseIf
    | with_reducible apply within_State_dropEvents (Mask.sub hm rfl) | with_reducible apply within_State_modQp (Mask.sub hm rfl)
    | exact touch_HT_QP_CTRL (Mask.bit hm rfl) _ | exact touch_HT_QP_PRIV (Mask.bit hm rfl) _
    | exact touch_HT_QP_STAT (Mask.bit hm rfl) _ | with_reducible refine Within.ite ?_ ?_ | split | (extract_lets; split)
    | (with_reducible refine Within.mk ?_ ?hk
       case hk => (repeat' apply And.intro) <;> first | with_reducible exact .inr rfl | exact .inl (Mask.bit hm rfl)
       first
        | with_reducible assumption | with_reducible apply within_State_setFld | with_reducible apply within_State_raise
        | with_reducible apply within_State_raiseIf | with_reducible apply within_State_dropEvents (Mask.sub hm rfl)
        | with_reducible apply within_State_modQp (Mask.sub hm rfl) | with_reducible refine Within.ite ?_ ?_ | split
        | (extract_lets; split)
        | (with_reducible refine Within.mk ?_ ?hk
           case hk => (repeat' apply And.intro) <;> first | with_reducible exact .inr rfl | exact .inl (Mask.bit hm rfl)
           first
            | with_reducible assumption | with_reducible apply within_State_setFld | with_reducible apply within_State_raise
            | with_reducible apply within_State_raiseIf | with_reducible apply within_State_dropEvents (Mask.sub hm rfl)
            | with_reducible apply within_State_modQp (Mask.sub hm rfl) | with_reducible refine Within.ite ?_ ?_ | split
            | (extract_lets; split)))

theorem within_State_qpError {m : Nat} {s₀ s : State}
    (hm : m ||| 0x200000300000000000000000000000000000000000000000000000000000000000000000000000000000000000000000400200000000000000000000208C000 = m)
    (q : Nat) (h₀ : Within m s₀ s) : Within m s₀ (State.qpError s q) := by
  unfold State.qpError
  repeat' first
    | with_reducible assumption | with_reducible apply within_State_leaveRts (Mask.sub hm rfl) | with_reducible refine Within.ite ?_ ?_
    | split | (extract_lets; split)

theorem within_State_writeCompletion {m : Nat} {s₀ s : State}
    (hm : m ||| 0x800000000000000000000000000000000000000000000000000000000000000000000000000000000000000003340000000000000000000000000100014000 = m)
    (q : Nat) (idx : Nat) (tag : Nat) (op : Nat) (status : Nat) (detail : Nat) (r0 : Nat) (r1 : Nat) (h₀ : Within m s₀ s) :
    Within m s₀ (State.writeCompletion s q idx tag op status detail r0 r1) := by
  unfold State.writeCompletion
  repeat' first
    | with_reducible assumption | with_reducible apply Within.wr | with_reducible apply within_State_rdmaWrite (Mask.sub hm rfl)
    | exact touch_HT_QP_CPL_PI (Mask.bit hm rfl) _

theorem within_State_complete {m : Nat} {s₀ s : State}
    (hm : m ||| 0x80000200000000000000000000000000000000000000000000000000000000000000000000000000000000000334000000000000000000000000010001C000 = m)
    (q : Nat) (idx : Nat) (status : Nat) (detail : Nat) (r0 : Nat) (r1 : Nat) (h₀ : Within m s₀ s) :
    Within m s₀ (State.complete s q idx status detail r0 r1) := by
  unfold State.complete
  repeat' first
    | with_reducible assumption | with_reducible intro _ | with_reducible apply Within.wr | with_reducible apply within_State_raise
    | with_reducible apply within_State_writeCompletion (Mask.sub hm rfl) | with_reducible refine Within.snd (by assumption) ?_
    | with_reducible refine Within.fst (by assumption) ?_ | exact touch_HT_QP_STAT (Mask.bit hm rfl) _
    | with_reducible refine Within.ite ?_ ?_ | split | (extract_lets; split)
    | (with_reducible refine Within.mk ?_ ?hk
       case hk => (repeat' apply And.intro) <;> first | with_reducible exact .inr rfl | exact .inl (Mask.bit hm rfl)
       first
        | with_reducible assumption | with_reducible apply Within.wr | with_reducible apply within_State_raise
        | with_reducible apply within_State_writeCompletion (Mask.sub hm rfl) | with_reducible refine Within.snd (by assumption) ?_
        | with_reducible refine Within.fst (by assumption) ?_ | with_reducible refine Within.ite ?_ ?_ | split | (extract_lets; split)
        | (with_reducible refine Within.mk ?_ ?hk
           case hk => (repeat' apply And.intro) <;> first | with_reducible exact .inr rfl | exact .inl (Mask.bit hm rfl)
           first
            | with_reducible assumption | with_reducible apply Within.wr | with_reducible apply within_State_raise
            | with_reducible apply within_State_writeCompletion (Mask.sub hm rfl) | with_reducible refine Within.snd (by assumption) ?_
            | with_reducible refine Within.fst (by assumption) ?_ | with_reducible refine Within.ite ?_ ?_ | split
            | (extract_lets; split)))

theorem within_State_completeWith {m : Nat} {s₀ s : State}
    (hm : m ||| 0x80000200000000000000000000000000000000000000000000000000000000000000000000000000000000000334000000000000000000000000010001C000 = m)
    (c : HostCmd) (status : Nat) (detail : Nat) (h₀ : Within m s₀ s) : Within m s₀ (State.completeWith s c status detail) := by
  unfold State.completeWith
  repeat' first
    | with_reducible assumption | with_reducible apply within_State_complete (Mask.sub hm rfl)

theorem within_State_modCmd {m : Nat} {s₀ s : State} (hm : m ||| 0x8000 = m) (q : Nat) (idx : Nat) (f : HostCmd → HostCmd)
    (h₀ : Within m s₀ s) : Within m s₀ (State.modCmd s q idx f) := by
  unfold State.modCmd
  repeat' first
    | with_reducible assumption | with_reducible intro _ | with_reducible refine Within.ite ?_ ?_ | split | (extract_lets; split)
    | (with_reducible refine Within.mk ?_ ?hk
       case hk => (repeat' apply And.intro) <;> first | with_reducible exact .inr rfl | exact .inl (Mask.bit hm rfl)
       first
        | with_reducible assumption | with_reducible refine Within.ite ?_ ?_ | split | (extract_lets; split)
        | (with_reducible refine Within.mk ?_ ?hk
           case hk => (repeat' apply And.intro) <;> first | with_reducible exact .inr rfl | exact .inl (Mask.bit hm rfl)
           first
            | with_reducible assumption | with_reducible refine Within.ite ?_ ?_ | split | (extract_lets; split)))

theorem within_State_writeOut {m : Nat} {s₀ s : State} (hm : m ||| 0x3340000000000000000000000000100014000 = m) (c : HostCmd)
    (off : Nat) (data : List Byte) (h₀ : Within m s₀ s) : Within m s₀ (State.writeOut s c off data) := by
  unfold State.writeOut
  repeat' first
    | with_reducible assumption | with_reducible apply within_State_rdmaWrite (Mask.sub hm rfl) | with_reducible refine Within.ite ?_ ?_
    | split | (extract_lets; split)

end Sys2Proof.Machine
end

