-- ==== Sys2Proof/Laws/FlowWithin.lean ====
section
/-! SUPPORT. What the definitions of Machine/Flow.lean keep, and all that they may change (Laws/Within.lean). -/

namespace Sys2Proof.Machine

set_option linter.all false

theorem within_State_request {m : Nat} {s₀ s : State} (hm : m ||| 0x20000000000080000 = m) (k : Nat) (seg : Nat) (gran : Nat)
    (target : Bool) (h₀ : Within m s₀ s) : Within m s₀ (State.request s k seg gran target) := by
  unfold State.request
  repeat' first
    | with_reducible assumption | with_reducible intro _ | with_reducible apply within_State_setFld
    | with_reducible refine Within.snd (by assumption) ?_ | with_reducible refine Within.fst (by assumption) ?_
    | exact touch_strmA_MC_STRM_STAT (Mask.bit hm rfl) _ | with_reducible refine Within.ite ?_ ?_ | split | (extract_lets; split)
    | (with_reducible refine Within.mk ?_ ?hk
       case hk => (repeat' apply And.intro) <;> first | with_reducible exact .inr rfl | exact .inl (Mask.bit hm rfl)
       first
        | with_reducible assumption | with_reducible apply within_State_setFld | with_reducible refine Within.snd (by assumption) ?_
        | with_reducible refine Within.fst (by assumption) ?_ | with_reducible refine Within.ite ?_ ?_ | split | (extract_lets; split)
        | (with_reducible refine Within.mk ?_ ?hk
           case hk => (repeat' apply And.intro) <;> first | with_reducible exact .inr rfl | exact .inl (Mask.bit hm rfl)
           first
            | with_reducible assumption | with_reducible apply within_State_setFld
            | with_reducible refine Within.snd (by assumption) ?_ | with_reducible refine Within.fst (by assumption) ?_
            | with_reducible refine Within.ite ?_ ?_ | split | (extract_lets; split)))

theorem within_State_reclass {m : Nat} {s₀ s : State} (hm : m ||| 0x80000 = m) (k : Nat) (present : Nat) (h₀ : Within m s₀ s) :
    Within m s₀ (State.reclass s k present) := by
  unfold State.reclass
  repeat' first
    | with_reducible assumption | with_reducible intro _ | with_reducible refine Within.snd (by assumption) ?_
    | with_reducible refine Within.fst (by assumption) ?_ | with_reducible refine Within.ite ?_ ?_ | split | (extract_lets; split)
    | (with_reducible refine Within.mk ?_ ?hk
       case hk => (repeat' apply And.intro) <;> first | with_reducible exact .inr rfl | exact .inl (Mask.bit hm rfl)
       first
        | with_reducible assumption | with_reducible refine Within.snd (by assumption) ?_
        | with_reducible refine Within.fst (by assumption) ?_ | with_reducible refine Within.ite ?_ ?_ | split | (extract_lets; split)
        | (with_reducible refine Within.mk ?_ ?hk
           case hk => (repeat' apply And.intro) <;> first | with_reducible exact .inr rfl | exact .inl (Mask.bit hm rfl)
           first
            | with_reducible assumption | with_reducible refine Within.snd (by assumption) ?_
            | with_reducible refine Within.fst (by assumption) ?_ | with_reducible refine Within.ite ?_ ?_ | split
            | (extract_lets; split)))

theorem within_State_lookahead {m : Nat} {s₀ s : State} (hm : m ||| 0x20000000000080000 = m) (k : Nat) (h₀ : Within m s₀ s) :
    Within m s₀ (State.lookahead s k) := by
  unfold State.lookahead
  repeat' first
    | with_reducible assumption | with_reducible intro _ | with_reducible apply within_State_request (Mask.sub hm rfl)
    | with_reducible apply within_State_reclass (Mask.sub hm rfl) | with_reducible refine Within.each ?_ ?_

theorem within_State_cacheGranule {m : Nat} {s₀ s : State} (hm : m ||| 0x44 = m) (k : Nat) (seg : Nat) (gran : Nat) (good : Bool)
    (t : Nat) (h₀ : Within m s₀ s) : Within m s₀ (State.cacheGranule s k seg gran good t) := by
  unfold State.cacheGranule
  repeat' first
    | with_reducible assumption | with_reducible intro _ | with_reducible apply Within.free (Mask.bit hm rfl)
    | with_reducible apply within_State_setStrand (Mask.sub hm rfl) | with_reducible refine Within.snd (by assumption) ?_
    | with_reducible refine Within.fst (by assumption) ?_ | with_reducible refine Within.ite ?_ ?_ | split | (extract_lets; split)
    | (with_reducible refine Within.mk ?_ ?hk
       case hk => (repeat' apply And.intro) <;> first | with_reducible exact .inr rfl | exact .inl (Mask.bit hm rfl)
       first
        | with_reducible assumption | with_reducible apply Within.free (Mask.bit hm rfl)
        | with_reducible apply within_State_setStrand (Mask.sub hm rfl) | with_reducible refine Within.snd (by assumption) ?_
        | with_reducible refine Within.fst (by assumption) ?_ | with_reducible refine Within.ite ?_ ?_ | split | (extract_lets; split)
        | (with_reducible refine Within.mk ?_ ?hk
           case hk => (repeat' apply And.intro) <;> first | with_reducible exact .inr rfl | exact .inl (Mask.bit hm rfl)
           first
            | with_reducible assumption | with_reducible apply Within.free (Mask.bit hm rfl)
            | with_reducible apply within_State_setStrand (Mask.sub hm rfl) | with_reducible refine Within.snd (by assumption) ?_
            | with_reducible refine Within.fst (by assumption) ?_ | with_reducible refine Within.ite ?_ ?_ | split
            | (extract_lets; split)))

end Sys2Proof.Machine
end

