-- ==== Sys2Proof/Laws/FailCoreWithin.lean ====
section
/-! SUPPORT. What the definitions of Machine/FailCore.lean keep, and all that they may change (Laws/Within.lean). -/

namespace Sys2Proof.Machine

set_option linter.all false

theorem within_State_addLed {m : Nat} {s₀ s : State} (k : Nat) (off : Nat) (n : Nat) (ht0 : Touch m (strandA k off))
    (ht1 : Touch m (strandA k off + 4)) (h₀ : Within m s₀ s) : Within m s₀ (State.addLed s k off n) := by
  unfold State.addLed
  repeat' first
    | with_reducible assumption | with_reducible apply within_State_add64

theorem within_State_modDie {m : Nat} {s₀ s : State} (hm : m ||| 0x200000 = m) (d : Nat) (f : DieRec → DieRec) (h₀ : Within m s₀ s) :
    Within m s₀ (State.modDie s d f) := by
  unfold State.modDie
  repeat' first
    | with_reducible assumption
    | (with_reducible refine Within.mk ?_ ?hk
       case hk => (repeat' apply And.intro) <;> first | with_reducible exact .inr rfl | exact .inl (Mask.bit hm rfl)
       first
        | with_reducible assumption
        | (with_reducible refine Within.mk ?_ ?hk
           case hk => (repeat' apply And.intro) <;> first | with_reducible exact .inr rfl | exact .inl (Mask.bit hm rfl)
           first
            | with_reducible assumption))

theorem within_State_imbalance {m : Nat} {s₀ s : State} (hm : m ||| 0x38200000000001000000 = m) (kind : Nat) (loc : Nat)
    (strand : Nat) (d : Int) (source : Nat) (bit : Nat) (h₀ : Within m s₀ s) :
    Within m s₀ (State.imbalance s kind loc strand d source bit) := by
  unfold State.imbalance
  repeat' first
    | with_reducible assumption | with_reducible apply Within.wr | with_reducible apply within_State_raise
    | with_reducible apply within_State_satAdd | with_reducible apply within_State_fault (Mask.sub hm rfl)
    | exact touch_FL_DEV_STAT (Mask.bit hm rfl) | exact touch_FL_IMB0 (Mask.bit hm rfl) | exact touch_FL_IMB1 (Mask.bit hm rfl)
    | exact touch_FL_IMB_CNT (Mask.bit hm rfl)

theorem within_State_markStrandDie {m : Nat} {s₀ s : State} (hm : m ||| 0x200000 = m) (k : Nat) (h₀ : Within m s₀ s) :
    Within m s₀ (State.markStrandDie s k) := by
  unfold State.markStrandDie
  repeat' first
    | with_reducible assumption | with_reducible intro _ | with_reducible apply within_State_modDie (Mask.sub hm rfl)
    | with_reducible apply within_State_imbalance (Mask.sub hm rfl) | with_reducible refine Within.snd (by assumption) ?_
    | with_reducible refine Within.fst (by assumption) ?_ | with_reducible refine Within.ite ?_ ?_ | split | (extract_lets; split)
    | (with_reducible refine Within.mk ?_ ?hk
       case hk => (repeat' apply And.intro) <;> first | with_reducible exact .inr rfl | exact .inl (Mask.bit hm rfl)
       first
        | with_reducible assumption | with_reducible apply within_State_modDie (Mask.sub hm rfl)
        | with_reducible apply within_State_imbalance (Mask.sub hm rfl) | with_reducible refine Within.snd (by assumption) ?_
        | with_reducible refine Within.fst (by assumption) ?_ | with_reducible refine Within.ite ?_ ?_ | split | (extract_lets; split)
        | (with_reducible refine Within.mk ?_ ?hk
           case hk => (repeat' apply And.intro) <;> first | with_reducible exact .inr rfl | exact .inl (Mask.bit hm rfl)
           first
            | with_reducible assumption | with_reducible apply within_State_modDie (Mask.sub hm rfl)
            | with_reducible apply within_State_imbalance (Mask.sub hm rfl) | with_reducible refine Within.snd (by assumption) ?_
            | with_reducible refine Within.fst (by assumption) ?_ | with_reducible refine Within.ite ?_ ?_ | split
            | (extract_lets; split)))

theorem within_State_stepImb {m : Nat} {s₀ s : State}
    (hm : m ||| 0x100000000000000000000000000000000000000000000000000000038200000000001000000 = m) (k : Nat) (d : Int)
    (h₀ : Within m s₀ s) : Within m s₀ (State.stepImb s k d) := by
  unfold State.stepImb
  repeat' first
    | with_reducible assumption | with_reducible apply within_State_raise
    | with_reducible apply within_State_imbalance (Mask.sub hm rfl) | exact touch_SQ_STAT (Mask.bit hm rfl) _

theorem within_State_failImb {m : Nat} {s₀ s : State}
    (hm : m ||| 0x200000000000000000000000000000000000000000000000000000000000000000038200000000001200000 = m) (k : Nat) (d : Int)
    (h₀ : Within m s₀ s) : Within m s₀ (State.failImb s k d) := by
  unfold State.failImb
  repeat' first
    | with_reducible assumption | with_reducible apply within_State_raise
    | with_reducible apply within_State_imbalance (Mask.sub hm rfl) | with_reducible apply within_State_markStrandDie (Mask.sub hm rfl)
    | exact touch_FL_STAT (Mask.bit hm rfl) _

theorem within_State_jrnImb {m : Nat} {s₀ s : State}
    (hm : m ||| 0x200000000000000000000000000000000000000000000000000000000000000000038200000000001200000 = m) (k : Nat) (loc : Nat)
    (strand : Nat) (d : Int) (h₀ : Within m s₀ s) : Within m s₀ (State.jrnImb s k loc strand d) := by
  unfold State.jrnImb
  repeat' first
    | with_reducible assumption | with_reducible apply within_State_raise
    | with_reducible apply within_State_imbalance (Mask.sub hm rfl) | with_reducible apply within_State_markStrandDie (Mask.sub hm rfl)
    | exact touch_FL_STAT (Mask.bit hm rfl) _

theorem within_State_checkStep {m : Nat} {s₀ s : State}
    (hm : m ||| 0x100000000000000000000000000000000000000000000000000000038200000000001000000 = m) (k : Nat) (h₀ : Within m s₀ s) :
    Within m s₀ (State.checkStep s k) := by
  unfold State.checkStep
  repeat' first
    | with_reducible assumption | with_reducible apply within_State_stepImb (Mask.sub hm rfl) | with_reducible refine Within.ite ?_ ?_
    | split | (extract_lets; split)

theorem within_State_checkStrand {m : Nat} {s₀ s : State}
    (hm : m ||| 0x200000000000000000000000000000000000000000000000000000000000000000038200000000001200000 = m) (k : Nat)
    (h₀ : Within m s₀ s) : Within m s₀ (State.checkStrand s k) := by
  unfold State.checkStrand
  repeat' first
    | with_reducible assumption | with_reducible apply within_State_failImb (Mask.sub hm rfl)
    | with_reducible apply within_State_jrnImb (Mask.sub hm rfl) | with_reducible refine Within.ite ?_ ?_ | split
    | (extract_lets; split)

theorem within_State_clearFail {m : Nat} {s₀ s : State} (hm : m ||| 0x40 = m) (k : Nat) (w : Nat) (h₀ : Within m s₀ s) :
    Within m s₀ (State.clearFail s k w) := by
  unfold State.clearFail
  repeat' first
    | with_reducible assumption | with_reducible intro _ | with_reducible apply within_State_modStrand (Mask.sub hm rfl)
    | (with_reducible refine Within.mk ?_ ?hk
       case hk => (repeat' apply And.intro) <;> first | with_reducible exact .inr rfl | exact .inl (Mask.bit hm rfl)
       first
        | with_reducible assumption | with_reducible apply within_State_modStrand (Mask.sub hm rfl))

theorem within_State_traffic {m : Nat} {s₀ s : State} (hm : m ||| 0x4000000080000 = m) (bytes : Nat) (h₀ : Within m s₀ s) :
    Within m s₀ (State.traffic s bytes) := by
  unfold State.traffic
  repeat' first
    | with_reducible assumption | with_reducible intro _ | with_reducible apply within_State_raise
    | with_reducible apply within_State_raiseIf | with_reducible refine Within.foldl _ ?_ ?_
    | with_reducible refine Within.foldlFst _ ?_ ?_ | with_reducible refine Within.foldlSnd _ ?_ ?_
    | exact touch_MC_STAT (Mask.bit hm rfl)
    | (with_reducible refine Within.mk ?_ ?hk
       case hk => (repeat' apply And.intro) <;> first | with_reducible exact .inr rfl | exact .inl (Mask.bit hm rfl)
       first
        | with_reducible assumption | with_reducible apply within_State_raise | with_reducible apply within_State_raiseIf
        | with_reducible refine Within.foldl _ ?_ ?_ | with_reducible refine Within.foldlFst _ ?_ ?_
        | with_reducible refine Within.foldlSnd _ ?_ ?_
        | (with_reducible refine Within.mk ?_ ?hk
           case hk => (repeat' apply And.intro) <;> first | with_reducible exact .inr rfl | exact .inl (Mask.bit hm rfl)
           first
            | with_reducible assumption | with_reducible apply within_State_raise | with_reducible apply within_State_raiseIf
            | with_reducible refine Within.foldl _ ?_ ?_ | with_reducible refine Within.foldlFst _ ?_ ?_
            | with_reducible refine Within.foldlSnd _ ?_ ?_))

theorem within_State_closeGroup {m : Nat} {s₀ s : State} (hm : m ||| 0x100000 = m) (h₀ : Within m s₀ s) :
    Within m s₀ (State.closeGroup s) := by
  unfold State.closeGroup
  repeat' first
    | with_reducible assumption | with_reducible apply Within.wr | with_reducible refine Within.ite ?_ ?_ | split
    | (extract_lets; split)
    | (with_reducible refine Within.mk ?_ ?hk
       case hk => (repeat' apply And.intro) <;> first | with_reducible exact .inr rfl | exact .inl (Mask.bit hm rfl)
       first
        | with_reducible assumption | with_reducible apply Within.wr | with_reducible refine Within.ite ?_ ?_ | split
        | (extract_lets; split)
        | (with_reducible refine Within.mk ?_ ?hk
           case hk => (repeat' apply And.intro) <;> first | with_reducible exact .inr rfl | exact .inl (Mask.bit hm rfl)
           first
            | with_reducible assumption | with_reducible apply Within.wr | with_reducible refine Within.ite ?_ ?_ | split
            | (extract_lets; split)))

theorem within_State_enterRecord {m : Nat} {s₀ s : State} (hm : m ||| 0x100000 = m) (r : JrnRec) (h₀ : Within m s₀ s) :
    Within m s₀ (State.enterRecord s r) := by
  unfold State.enterRecord
  repeat' first
    | with_reducible assumption | with_reducible apply within_State_closeGroup (Mask.sub hm rfl)
    | with_reducible refine Within.ite ?_ ?_ | split | (extract_lets; split)
    | (with_reducible refine Within.mk ?_ ?hk
       case hk => (repeat' apply And.intro) <;> first | with_reducible exact .inr rfl | exact .inl (Mask.bit hm rfl)
       first
        | with_reducible assumption | with_reducible apply within_State_closeGroup (Mask.sub hm rfl)
        | with_reducible refine Within.ite ?_ ?_ | split | (extract_lets; split)
        | (with_reducible refine Within.mk ?_ ?hk
           case hk => (repeat' apply And.intro) <;> first | with_reducible exact .inr rfl | exact .inl (Mask.bit hm rfl)
           first
            | with_reducible assumption | with_reducible apply within_State_closeGroup (Mask.sub hm rfl)
            | with_reducible refine Within.ite ?_ ?_ | split | (extract_lets; split)))

theorem within_State_needBase {m : Nat} {s₀ s : State} (hm : m ||| 0x100000 = m) (h₀ : Within m s₀ s) :
    Within m s₀ (State.needBase s) := by
  unfold State.needBase
  repeat' first
    | with_reducible assumption | with_reducible apply within_State_enterRecord (Mask.sub hm rfl)
    | with_reducible refine Within.snd (by assumption) ?_ | with_reducible refine Within.fst (by assumption) ?_
    | with_reducible refine Within.ite ?_ ?_ | split | (extract_lets; split)
    | (with_reducible refine Within.mk ?_ ?hk
       case hk => (repeat' apply And.intro) <;> first | with_reducible exact .inr rfl | exact .inl (Mask.bit hm rfl)
       first
        | with_reducible assumption | with_reducible apply within_State_enterRecord (Mask.sub hm rfl)
        | with_reducible refine Within.snd (by assumption) ?_ | with_reducible refine Within.fst (by assumption) ?_
        | with_reducible refine Within.ite ?_ ?_ | split | (extract_lets; split)
        | (with_reducible refine Within.mk ?_ ?hk
           case hk => (repeat' apply And.intro) <;> first | with_reducible exact .inr rfl | exact .inl (Mask.bit hm rfl)
           first
            | with_reducible assumption | with_reducible apply within_State_enterRecord (Mask.sub hm rfl)
            | with_reducible refine Within.snd (by assumption) ?_ | with_reducible refine Within.fst (by assumption) ?_
            | with_reducible refine Within.ite ?_ ?_ | split | (extract_lets; split)))

theorem within_State_journalRec {m : Nat} {s₀ s : State} (hm : m ||| 0x100040 = m) (k : Nat) (start : Nat) (type : Nat) (x : Nat)
    (y : Nat) (z : Nat) (die : Nat) (pins : Nat) (flags : Nat) (ev32 : Nat) (h₀ : Within m s₀ s) :
    Within m s₀ (State.journalRec s k start type x y z die pins flags ev32) := by
  unfold State.journalRec
  repeat' first
    | with_reducible assumption | with_reducible intro _ | with_reducible apply within_State_modStrand (Mask.sub hm rfl)
    | with_reducible apply within_State_enterRecord (Mask.sub hm rfl) | with_reducible apply within_State_needBase (Mask.sub hm rfl)
    | (with_reducible refine Within.mk ?_ ?hk
       case hk => (repeat' apply And.intro) <;> first | with_reducible exact .inr rfl | exact .inl (Mask.bit hm rfl)
       first
        | with_reducible assumption | with_reducible apply within_State_modStrand (Mask.sub hm rfl)
        | with_reducible apply within_State_enterRecord (Mask.sub hm rfl)
        | with_reducible apply within_State_needBase (Mask.sub hm rfl))

end Sys2Proof.Machine
end

