-- ==== Sys2Proof/Laws/StopsWithin.lean ====
section
/-! SUPPORT. What the definitions of Machine/Stops.lean keep, and all that they may change (Laws/Within.lean). -/

namespace Sys2Proof.Machine

set_option linter.all false

theorem within_State_setSqState {m : Nat} {s₀ s : State}
    (hm : m ||| 0x80000000000000000000000000000000000000000000000000000000000000000000000000 = m) (k : Nat) (st : Nat)
    (h₀ : Within m s₀ s) : Within m s₀ (State.setSqState s k st) := by
  unfold State.setSqState
  repeat' first
    | with_reducible assumption | with_reducible apply within_State_setFld | exact touch_SQ_STATE (Mask.bit hm rfl) _

theorem within_State_setSqPos {m : Nat} {s₀ s : State}
    (hm : m ||| 0x600000000000000000000000000000000000000000000000000000000000000000000000000 = m) (k : Nat) (seg : Nat) (off : Nat)
    (h₀ : Within m s₀ s) : Within m s₀ (State.setSqPos s k seg off) := by
  unfold State.setSqPos
  repeat' first
    | with_reducible assumption | with_reducible apply within_State_setFld | exact touch_SQ_OFFS (Mask.bit hm rfl) _
    | exact touch_SQ_SEG (Mask.bit hm rfl) _

theorem within_State_heldStart {m : Nat} {s₀ s : State}
    (hm : m ||| 0xF901080E00000870000080000000000198000800A00000000100000002000020000070200080000040020000000000004000003FFFFFFFF = m)
    (k : Nat) (t : Nat) (h₀ : Within m s₀ s) : Within m s₀ (State.heldStart s k t) := by
  unfold State.heldStart
  repeat' first
    | with_reducible assumption | with_reducible intro _ | with_reducible refine within_State_atInstant _ _ (Mask.bit hm rfl) ?_ ?_
    | with_reducible apply within_State_setFld | with_reducible apply within_State_takeCaptured (Mask.sub hm rfl)
    | with_reducible apply within_State_addLed | exact touch_SQ_HELD_HI (Mask.bit hm rfl) _ | exact touch_SQ_HELD_LO (Mask.bit hm rfl) _
    | exact touch_SQ_ISSUED_HI (Mask.bit hm rfl) _ | exact touch_SQ_ISSUED_LO (Mask.bit hm rfl) _
    | exact touch_WV_ACC (Mask.bit hm rfl) _ | exact Touch.any (Mask.bit hm rfl)

theorem within_State_heldFor {m : Nat} {s₀ s : State}
    (hm : m ||| 0x60000000000000000000000000000000000000000000000000000000000000000000000000000000 = m) (k : Nat) (d : Nat)
    (h₀ : Within m s₀ s) : Within m s₀ (State.heldFor s k d) := by
  unfold State.heldFor
  repeat' first
    | with_reducible assumption | with_reducible apply within_State_addLed | exact touch_SQ_HOLD_TIME_HI (Mask.bit hm rfl) _
    | exact touch_SQ_HOLD_TIME_LO (Mask.bit hm rfl) _

theorem within_State_dropSegment {m : Nat} {s₀ s : State} (hm : m ||| 0x400000000080040 = m) (g : Nat) (h₀ : Within m s₀ s) :
    Within m s₀ (State.dropSegment s g) := by
  unfold State.dropSegment
  repeat' first
    | with_reducible assumption | with_reducible intro _ | with_reducible apply within_State_setFld
    | with_reducible apply within_State_modStrand (Mask.sub hm rfl) | with_reducible refine Within.each ?_ ?_
    | with_reducible refine Within.snd (by assumption) ?_ | with_reducible refine Within.fst (by assumption) ?_
    | exact touch_MC_FREE (Mask.bit hm rfl) | with_reducible refine Within.ite ?_ ?_ | split | (extract_lets; split)
    | (with_reducible refine Within.mk ?_ ?hk
       case hk => (repeat' apply And.intro) <;> first | with_reducible exact .inr rfl | exact .inl (Mask.bit hm rfl)
       first
        | with_reducible assumption | with_reducible apply within_State_setFld
        | with_reducible apply within_State_modStrand (Mask.sub hm rfl) | with_reducible refine Within.each ?_ ?_
        | with_reducible refine Within.snd (by assumption) ?_ | with_reducible refine Within.fst (by assumption) ?_
        | with_reducible refine Within.ite ?_ ?_ | split | (extract_lets; split)
        | (with_reducible refine Within.mk ?_ ?hk
           case hk => (repeat' apply And.intro) <;> first | with_reducible exact .inr rfl | exact .inl (Mask.bit hm rfl)
           first
            | with_reducible assumption | with_reducible apply within_State_setFld
            | with_reducible apply within_State_modStrand (Mask.sub hm rfl) | with_reducible refine Within.each ?_ ?_
            | with_reducible refine Within.snd (by assumption) ?_ | with_reducible refine Within.fst (by assumption) ?_
            | with_reducible refine Within.ite ?_ ?_ | split | (extract_lets; split)))

theorem within_State_closeStream {m : Nat} {s₀ s : State} (hm : m ||| 0x20420000000080040 = m) (n : Nat) (h₀ : Within m s₀ s) :
    Within m s₀ (State.closeStream s n) := by
  unfold State.closeStream
  repeat' first
    | with_reducible assumption | with_reducible apply Within.wr | with_reducible apply within_State_setFld
    | with_reducible apply within_State_dropSegment (Mask.sub hm rfl) | with_reducible refine Within.snd (by assumption) ?_
    | with_reducible refine Within.fst (by assumption) ?_ | exact touch_MC_BUDGET_USED (Mask.bit hm rfl)
    | exact touch_strmA_MC_STRM_STAT (Mask.bit hm rfl) _ | with_reducible refine Within.ite ?_ ?_ | split | (extract_lets; split)
    | (with_reducible refine Within.mk ?_ ?hk
       case hk => (repeat' apply And.intro) <;> first | with_reducible exact .inr rfl | exact .inl (Mask.bit hm rfl)
       first
        | with_reducible assumption | with_reducible apply Within.wr | with_reducible apply within_State_setFld
        | with_reducible apply within_State_dropSegment (Mask.sub hm rfl) | with_reducible refine Within.snd (by assumption) ?_
        | with_reducible refine Within.fst (by assumption) ?_ | with_reducible refine Within.ite ?_ ?_ | split | (extract_lets; split)
        | (with_reducible refine Within.mk ?_ ?hk
           case hk => (repeat' apply And.intro) <;> first | with_reducible exact .inr rfl | exact .inl (Mask.bit hm rfl)
           first
            | with_reducible assumption | with_reducible apply Within.wr | with_reducible apply within_State_setFld
            | with_reducible apply within_State_dropSegment (Mask.sub hm rfl) | with_reducible refine Within.snd (by assumption) ?_
            | with_reducible refine Within.fst (by assumption) ?_ | with_reducible refine Within.ite ?_ ?_ | split
            | (extract_lets; split)))

theorem within_State_closeStreamsOf {m : Nat} {s₀ s : State} (hm : m ||| 0x20420000000080040 = m) (k : Nat) (h₀ : Within m s₀ s) :
    Within m s₀ (State.closeStreamsOf s k) := by
  unfold State.closeStreamsOf
  repeat' first
    | with_reducible assumption | with_reducible intro _ | with_reducible apply within_State_closeStream (Mask.sub hm rfl)
    | with_reducible refine Within.each ?_ ?_

theorem within_State_firstStep {m : Nat} {s₀ s : State}
    (hm : m ||| 0x80000200000000000000000000000000000000000000000000000000000000000000000000000000000000000334000000000000000000000000010001C000 = m)
    (k : Nat) (h₀ : Within m s₀ s) : Within m s₀ (State.firstStep s k) := by
  unfold State.firstStep
  repeat' first
    | with_reducible assumption | with_reducible intro _ | with_reducible apply within_State_complete (Mask.sub hm rfl)
    | with_reducible apply within_State_modCmd (Mask.sub hm rfl) | with_reducible refine Within.snd (by assumption) ?_
    | with_reducible refine Within.fst (by assumption) ?_ | with_reducible refine Within.ite ?_ ?_ | split | (extract_lets; split)
    | (with_reducible refine Within.mk ?_ ?hk
       case hk => (repeat' apply And.intro) <;> first | with_reducible exact .inr rfl | exact .inl (Mask.bit hm rfl)
       first
        | with_reducible assumption | with_reducible apply within_State_complete (Mask.sub hm rfl)
        | with_reducible apply within_State_modCmd (Mask.sub hm rfl) | with_reducible refine Within.snd (by assumption) ?_
        | with_reducible refine Within.fst (by assumption) ?_ | with_reducible refine Within.ite ?_ ?_ | split | (extract_lets; split)
        | (with_reducible refine Within.mk ?_ ?hk
           case hk => (repeat' apply And.intro) <;> first | with_reducible exact .inr rfl | exact .inl (Mask.bit hm rfl)
           first
            | with_reducible assumption | with_reducible apply within_State_complete (Mask.sub hm rfl)
            | with_reducible apply within_State_modCmd (Mask.sub hm rfl) | with_reducible refine Within.snd (by assumption) ?_
            | with_reducible refine Within.fst (by assumption) ?_ | with_reducible refine Within.ite ?_ ?_ | split
            | (extract_lets; split)))

theorem within_State_unbind {m : Nat} {s₀ s : State} (hm : m ||| 0x300000000020 = m) (q : Nat) (idx : Nat) (h₀ : Within m s₀ s) :
    Within m s₀ (State.unbind s q idx) := by
  unfold State.unbind
  repeat' first
    | with_reducible assumption | with_reducible apply within_State_setFld | with_reducible apply within_State_raise
    | with_reducible refine Within.snd (by assumption) ?_ | with_reducible refine Within.fst (by assumption) ?_
    | exact touch_DEV_UPD_CTRL (Mask.bit hm rfl) | exact touch_DEV_UPD_STAT (Mask.bit hm rfl) | with_reducible refine Within.ite ?_ ?_
    | split | (extract_lets; split)
    | (with_reducible refine Within.mk ?_ ?hk
       case hk => (repeat' apply And.intro) <;> first | with_reducible exact .inr rfl | exact .inl (Mask.bit hm rfl)
       first
        | with_reducible assumption | with_reducible apply within_State_setFld | with_reducible apply within_State_raise
        | with_reducible refine Within.snd (by assumption) ?_ | with_reducible refine Within.fst (by assumption) ?_
        | with_reducible refine Within.ite ?_ ?_ | split | (extract_lets; split)
        | (with_reducible refine Within.mk ?_ ?hk
           case hk => (repeat' apply And.intro) <;> first | with_reducible exact .inr rfl | exact .inl (Mask.bit hm rfl)
           first
            | with_reducible assumption | with_reducible apply within_State_setFld | with_reducible apply within_State_raise
            | with_reducible refine Within.snd (by assumption) ?_ | with_reducible refine Within.fst (by assumption) ?_
            | with_reducible refine Within.ite ?_ ?_ | split | (extract_lets; split)))

theorem within_State_abortRun {m : Nat} {s₀ s : State}
    (hm : m ||| 0x80000200000000000000000000000000000000000000000000000000000000000000000000000000000000000334000000000000000000000030010001C060 = m)
    (k : Nat) (h₀ : Within m s₀ s) : Within m s₀ (State.abortRun s k) := by
  unfold State.abortRun
  repeat' first
    | with_reducible assumption | with_reducible intro _ | with_reducible apply within_State_modStrand (Mask.sub hm rfl)
    | with_reducible apply within_State_complete (Mask.sub hm rfl) | with_reducible apply within_State_unbind (Mask.sub hm rfl)
    | with_reducible refine Within.snd (by assumption) ?_ | with_reducible refine Within.fst (by assumption) ?_
    | with_reducible refine Within.ite ?_ ?_ | split | (extract_lets; split)
    | (with_reducible refine Within.mk ?_ ?hk
       case hk => (repeat' apply And.intro) <;> first | with_reducible exact .inr rfl | exact .inl (Mask.bit hm rfl)
       first
        | with_reducible assumption | with_reducible apply within_State_modStrand (Mask.sub hm rfl)
        | with_reducible apply within_State_complete (Mask.sub hm rfl) | with_reducible apply within_State_unbind (Mask.sub hm rfl)
        | with_reducible refine Within.snd (by assumption) ?_ | with_reducible refine Within.fst (by assumption) ?_
        | with_reducible refine Within.ite ?_ ?_ | split | (extract_lets; split)
        | (with_reducible refine Within.mk ?_ ?hk
           case hk => (repeat' apply And.intro) <;> first | with_reducible exact .inr rfl | exact .inl (Mask.bit hm rfl)
           first
            | with_reducible assumption | with_reducible apply within_State_modStrand (Mask.sub hm rfl)
            | with_reducible apply within_State_complete (Mask.sub hm rfl) | with_reducible apply within_State_unbind (Mask.sub hm rfl)
            | with_reducible refine Within.snd (by assumption) ?_ | with_reducible refine Within.fst (by assumption) ?_
            | with_reducible refine Within.ite ?_ ?_ | split | (extract_lets; split)))

theorem within_State_haltDone {m : Nat}
    (hm : m ||| 0x80000200000000000000000000000000000000000000000000000000000000000000000000000000000000000334000000000000000000000000010001C000 = m) {s₀ : State} (k c n : Nat) {s : State} (h₀ : Within m s₀ s) : Within m s₀ (State.haltDone k c n s) := by
  induction n generalizing s with
  | zero => exact h₀
  | succ n ih =>
    unfold State.haltDone
    repeat' first
      | with_reducible assumption | with_reducible apply ih | with_reducible apply within_State_complete (Mask.sub hm rfl)
      | with_reducible apply within_State_modCmd (Mask.sub hm rfl) | with_reducible refine Within.ite ?_ ?_ | split | (extract_lets; split)

theorem within_State_strandHalted {m : Nat} {s₀ s : State}
    (hm : m ||| 0x80000200000000000000000000000000000000000000000000000000000000000000000000000000000000000334000000000000000000000030010001C060 = m)
    (k : Nat) (c : Nat) (h₀ : Within m s₀ s) : Within m s₀ (State.strandHalted s k c) := by
  unfold State.strandHalted
  repeat' first
    | with_reducible assumption | with_reducible intro _ | with_reducible apply within_State_abortRun (Mask.sub hm rfl)
    | with_reducible apply within_State_haltDone (Mask.sub hm rfl) | with_reducible refine Within.snd (by assumption) ?_
    | with_reducible refine Within.fst (by assumption) ?_ | with_reducible refine Within.ite ?_ ?_ | split | (extract_lets; split)

theorem within_State_parkPins {m : Nat} {s₀ s : State} (hm : m ||| 0x80 = m) (k : Nat) (halt : Bool) (h₀ : Within m s₀ s) :
    Within m s₀ (State.parkPins s k halt) := by
  unfold State.parkPins
  repeat' first
    | with_reducible assumption | with_reducible intro _ | with_reducible apply within_State_modPin (Mask.sub hm rfl)
    | with_reducible refine Within.each ?_ ?_
    | (with_reducible refine Within.mk ?_ ?hk
       case hk => (repeat' apply And.intro) <;> first | with_reducible exact .inr rfl | exact .inl (Mask.bit hm rfl)
       first
        | with_reducible assumption | with_reducible apply within_State_modPin (Mask.sub hm rfl)
        | with_reducible refine Within.each ?_ ?_)

theorem within_State_stopEvent {m : Nat} {s₀ s : State} (hm : m ||| 0x4002000000000000000000002000000 = m) (k : Nat)
    (h₀ : Within m s₀ s) : Within m s₀ (State.stopEvent s k) := by
  unfold State.stopEvent
  repeat' first
    | with_reducible assumption | with_reducible apply within_State_pushEvent (Mask.sub hm rfl) | with_reducible refine Within.ite ?_ ?_
    | split | (extract_lets; split)

theorem within_State_stopOne {m : Nat} {s₀ s : State}
    (hm : m ||| 0x800002000000000F901080E00000870000080000000181E000078002000000001000000020000200000702000B3400040020000000382204203003FFFFFFFF = m)
    (k : Nat) (c : Cause) (b : Nat) (h₀ : Within m s₀ s) : Within m s₀ (State.stopOne s k c b) := by
  unfold State.stopOne
  repeat' first
    | with_reducible assumption | with_reducible intro _ | with_reducible apply Within.wr | with_reducible apply within_State_setFld
    | with_reducible apply within_State_raise | with_reducible apply within_State_raiseIf | with_reducible apply within_State_wr64
    | with_reducible apply within_State_modStrand (Mask.sub hm rfl) | with_reducible apply within_State_takeCaptured (Mask.sub hm rfl)
    | with_reducible apply within_State_addLed | with_reducible apply within_State_checkStep (Mask.sub hm rfl)
    | with_reducible apply within_State_setSqState (Mask.sub hm rfl) | with_reducible apply within_State_setSqPos (Mask.sub hm rfl)
    | with_reducible apply within_State_heldFor (Mask.sub hm rfl) | with_reducible apply within_State_closeStream (Mask.sub hm rfl)
    | with_reducible apply within_State_closeStreamsOf (Mask.sub hm rfl)
    | with_reducible apply within_State_strandHalted (Mask.sub hm rfl) | with_reducible apply within_State_parkPins (Mask.sub hm rfl)
    | with_reducible apply within_State_stopEvent (Mask.sub hm rfl) | exact touch_AG_BUS_HI (Mask.bit hm rfl) _
    | exact touch_AG_BUS_LO (Mask.bit hm rfl) _ | exact touch_SQ_PARK_TIME_HI (Mask.bit hm rfl) _
    | exact touch_SQ_PARK_TIME_LO (Mask.bit hm rfl) _ | exact touch_SQ_STAT (Mask.bit hm rfl) _
    | exact touch_SQ_STATE (Mask.bit hm rfl) _ | exact Touch.any (Mask.bit hm rfl) | with_reducible refine Within.ite ?_ ?_ | split
    | (extract_lets; split)
    | (with_reducible refine Within.mk ?_ ?hk
       case hk => (repeat' apply And.intro) <;> first | with_reducible exact .inr rfl | exact .inl (Mask.bit hm rfl)
       first
        | with_reducible assumption | with_reducible apply Within.wr | with_reducible apply within_State_setFld
        | with_reducible apply within_State_raise | with_reducible apply within_State_raiseIf | with_reducible apply within_State_wr64
        | with_reducible apply within_State_modStrand (Mask.sub hm rfl)
        | with_reducible apply within_State_takeCaptured (Mask.sub hm rfl) | with_reducible apply within_State_addLed
        | with_reducible apply within_State_checkStep (Mask.sub hm rfl)
        | with_reducible apply within_State_setSqState (Mask.sub hm rfl) | with_reducible apply within_State_setSqPos (Mask.sub hm rfl)
        | with_reducible apply within_State_heldFor (Mask.sub hm rfl) | with_reducible apply within_State_closeStream (Mask.sub hm rfl)
        | with_reducible apply within_State_closeStreamsOf (Mask.sub hm rfl)
        | with_reducible apply within_State_strandHalted (Mask.sub hm rfl)
        | with_reducible apply within_State_parkPins (Mask.sub hm rfl) | with_reducible apply within_State_stopEvent (Mask.sub hm rfl)
        | with_reducible refine Within.ite ?_ ?_ | split | (extract_lets; split)
        | (with_reducible refine Within.mk ?_ ?hk
           case hk => (repeat' apply And.intro) <;> first | with_reducible exact .inr rfl | exact .inl (Mask.bit hm rfl)
           first
            | with_reducible assumption | with_reducible apply Within.wr | with_reducible apply within_State_setFld
            | with_reducible apply within_State_raise | with_reducible apply within_State_raiseIf
            | with_reducible apply within_State_wr64 | with_reducible apply within_State_modStrand (Mask.sub hm rfl)
            | with_reducible apply within_State_takeCaptured (Mask.sub hm rfl) | with_reducible apply within_State_addLed
            | with_reducible apply within_State_checkStep (Mask.sub hm rfl)
            | with_reducible apply within_State_setSqState (Mask.sub hm rfl)
            | with_reducible apply within_State_setSqPos (Mask.sub hm rfl)
            | with_reducible apply within_State_heldFor (Mask.sub hm rfl)
            | with_reducible apply within_State_closeStream (Mask.sub hm rfl)
            | with_reducible apply within_State_closeStreamsOf (Mask.sub hm rfl)
            | with_reducible apply within_State_strandHalted (Mask.sub hm rfl)
            | with_reducible apply within_State_parkPins (Mask.sub hm rfl)
            | with_reducible apply within_State_stopEvent (Mask.sub hm rfl) | with_reducible refine Within.ite ?_ ?_ | split
            | (extract_lets; split)))

theorem within_State_setSyncStart {m : Nat} {s₀ s : State} (hm : m ||| 0x40 = m) (l : List Nat) (t : Nat) (h₀ : Within m s₀ s) :
    Within m s₀ (State.setSyncStart s l t) := by
  unfold State.setSyncStart
  repeat' first
    | with_reducible assumption | with_reducible intro _ | with_reducible apply within_State_modStrand (Mask.sub hm rfl)
    | with_reducible refine Within.each ?_ ?_ | with_reducible refine Within.snd (by assumption) ?_
    | with_reducible refine Within.fst (by assumption) ?_ | with_reducible refine Within.ite ?_ ?_ | split | (extract_lets; split)
    | (with_reducible refine Within.mk ?_ ?hk
       case hk => (repeat' apply And.intro) <;> first | with_reducible exact .inr rfl | exact .inl (Mask.bit hm rfl)
       first
        | with_reducible assumption | with_reducible apply within_State_modStrand (Mask.sub hm rfl)
        | with_reducible refine Within.each ?_ ?_ | with_reducible refine Within.snd (by assumption) ?_
        | with_reducible refine Within.fst (by assumption) ?_ | with_reducible refine Within.ite ?_ ?_ | split | (extract_lets; split)
        | (with_reducible refine Within.mk ?_ ?hk
           case hk => (repeat' apply And.intro) <;> first | with_reducible exact .inr rfl | exact .inl (Mask.bit hm rfl)
           first
            | with_reducible assumption | with_reducible apply within_State_modStrand (Mask.sub hm rfl)
            | with_reducible refine Within.each ?_ ?_ | with_reducible refine Within.snd (by assumption) ?_
            | with_reducible refine Within.fst (by assumption) ?_ | with_reducible refine Within.ite ?_ ?_ | split
            | (extract_lets; split)))

theorem within_State_evalSync {m : Nat} {s₀ s : State} (hm : m ||| 0x40 = m) (l : Nat) (met : Nat) (h₀ : Within m s₀ s) :
    Within m s₀ (State.evalSync s l met) := by
  unfold State.evalSync
  repeat' first
    | with_reducible assumption | with_reducible intro _ | with_reducible apply within_State_setSyncStart (Mask.sub hm rfl)
    | with_reducible refine Within.foldl _ ?_ ?_ | with_reducible refine Within.foldlFst _ ?_ ?_
    | with_reducible refine Within.foldlSnd _ ?_ ?_ | with_reducible refine Within.ite ?_ ?_ | split | (extract_lets; split)

theorem within_State_stopFlow {m : Nat} {s₀ s : State}
    (hm : m ||| 0x800002000000000F901080E00000870000080000000181E000078002000000001000000020000200000702000B3400040020000000382204203003FFFFFFFF = m)
    (k : Nat) (c : Cause) (b : Nat) (h₀ : Within m s₀ s) : Within m s₀ (State.stopFlow s k c b) := by
  unfold State.stopFlow
  repeat' first
    | with_reducible assumption | with_reducible intro _ | with_reducible apply within_State_stopOne (Mask.sub hm rfl)
    | with_reducible apply within_State_evalSync (Mask.sub hm rfl) | with_reducible refine Within.each ?_ ?_
    | exact Touch.any (Mask.bit hm rfl) | with_reducible refine Within.ite ?_ ?_ | split | (extract_lets; split)

theorem within_State_stopAlone {m : Nat} {s₀ s : State}
    (hm : m ||| 0x800002000000000F901080E00000870000080000000181E000078002000000001000000020000200000702000B3400040020000000382204203003FFFFFFFF = m)
    (k : Nat) (c : Cause) (b : Nat) (h₀ : Within m s₀ s) : Within m s₀ (State.stopAlone s k c b) := by
  unfold State.stopAlone
  repeat' first
    | with_reducible assumption | with_reducible apply within_State_stopOne (Mask.sub hm rfl) | exact Touch.any (Mask.bit hm rfl)

theorem within_State_stopHere {m : Nat} {s₀ s : State}
    (hm : m ||| 0x800002000000000F901080E00000870000080000000181E000078002000000001000000020000200000702000B3400040020000000382204203003FFFFFFFF = m)
    (k : Nat) (c : Cause) (b : Nat) (h₀ : Within m s₀ s) : Within m s₀ (State.stopHere s k c b) := by
  unfold State.stopHere
  repeat' first
    | with_reducible assumption | with_reducible apply within_State_stopFlow (Mask.sub hm rfl)
    | with_reducible apply within_State_stopAlone (Mask.sub hm rfl) | exact Touch.any (Mask.bit hm rfl)
    | with_reducible refine Within.ite ?_ ?_ | split | (extract_lets; split)

theorem within_State_rerank {m : Nat} {s₀ s : State}
    (hm : m ||| 0x80000000000000000000000000000000000000000000000000000000000000000002000000 = m) (k : Nat) (c : Cause)
    (h₀ : Within m s₀ s) : Within m s₀ (State.rerank s k c) := by
  unfold State.rerank
  repeat' first
    | with_reducible assumption | with_reducible intro _ | with_reducible apply within_State_setFld
    | exact touch_SQ_STATE (Mask.bit hm rfl) _ | with_reducible refine Within.ite ?_ ?_ | split | (extract_lets; split)
    | (with_reducible refine Within.mk ?_ ?hk
       case hk => (repeat' apply And.intro) <;> first | with_reducible exact .inr rfl | exact .inl (Mask.bit hm rfl)
       first
        | with_reducible assumption | with_reducible apply within_State_setFld | with_reducible refine Within.ite ?_ ?_ | split
        | (extract_lets; split)
        | (with_reducible refine Within.mk ?_ ?hk
           case hk => (repeat' apply And.intro) <;> first | with_reducible exact .inr rfl | exact .inl (Mask.bit hm rfl)
           first
            | with_reducible assumption | with_reducible apply within_State_setFld | with_reducible refine Within.ite ?_ ?_ | split
            | (extract_lets; split)))

theorem within_State_raiseStop {m : Nat} {s₀ s : State}
    (hm : m ||| 0x800002000000000F901080E00000870000080000000181E000078002000000001000000020000200000702000B3400040020000000382204203003FFFFFFFF = m)
    (k : Nat) (c : Cause) (h₀ : Within m s₀ s) : Within m s₀ (State.raiseStop s k c) := by
  unfold State.raiseStop
  repeat' first
    | with_reducible assumption | with_reducible intro _ | with_reducible apply within_State_modStrand (Mask.sub hm rfl)
    | with_reducible apply within_State_stopHere (Mask.sub hm rfl) | with_reducible apply within_State_rerank (Mask.sub hm rfl)
    | with_reducible refine Within.snd (by assumption) ?_ | with_reducible refine Within.fst (by assumption) ?_
    | exact Touch.any (Mask.bit hm rfl) | with_reducible refine Within.ite ?_ ?_ | split | (extract_lets; split)
    | (with_reducible refine Within.mk ?_ ?hk
       case hk => (repeat' apply And.intro) <;> first | with_reducible exact .inr rfl | exact .inl (Mask.bit hm rfl)
       first
        | with_reducible assumption | with_reducible apply within_State_modStrand (Mask.sub hm rfl)
        | with_reducible apply within_State_stopHere (Mask.sub hm rfl) | with_reducible apply within_State_rerank (Mask.sub hm rfl)
        | with_reducible refine Within.snd (by assumption) ?_ | with_reducible refine Within.fst (by assumption) ?_
        | with_reducible refine Within.ite ?_ ?_ | split | (extract_lets; split)
        | (with_reducible refine Within.mk ?_ ?hk
           case hk => (repeat' apply And.intro) <;> first | with_reducible exact .inr rfl | exact .inl (Mask.bit hm rfl)
           first
            | with_reducible assumption | with_reducible apply within_State_modStrand (Mask.sub hm rfl)
            | with_reducible apply within_State_stopHere (Mask.sub hm rfl) | with_reducible apply within_State_rerank (Mask.sub hm rfl)
            | with_reducible refine Within.snd (by assumption) ?_ | with_reducible refine Within.fst (by assumption) ?_
            | with_reducible refine Within.ite ?_ ?_ | split | (extract_lets; split)))

theorem within_State_haltNow {m : Nat} {s₀ s : State}
    (hm : m ||| 0x800002000000000F901080E00000870000080000000181E000078002000000001000000020000200000702000B3400040020000000382204203003FFFFFFFF = m)
    (k : Nat) (c : Cause) (h₀ : Within m s₀ s) : Within m s₀ (State.haltNow s k c) := by
  unfold State.haltNow
  repeat' first
    | with_reducible assumption | with_reducible intro _ | with_reducible apply within_State_modStrand (Mask.sub hm rfl)
    | with_reducible apply within_State_stopHere (Mask.sub hm rfl) | with_reducible apply within_State_rerank (Mask.sub hm rfl)
    | with_reducible refine Within.snd (by assumption) ?_ | with_reducible refine Within.fst (by assumption) ?_
    | exact Touch.any (Mask.bit hm rfl) | with_reducible refine Within.ite ?_ ?_ | split | (extract_lets; split)
    | (with_reducible refine Within.mk ?_ ?hk
       case hk => (repeat' apply And.intro) <;> first | with_reducible exact .inr rfl | exact .inl (Mask.bit hm rfl)
       first
        | with_reducible assumption | with_reducible apply within_State_modStrand (Mask.sub hm rfl)
        | with_reducible apply within_State_stopHere (Mask.sub hm rfl) | with_reducible apply within_State_rerank (Mask.sub hm rfl)
        | with_reducible refine Within.snd (by assumption) ?_ | with_reducible refine Within.fst (by assumption) ?_
        | with_reducible refine Within.ite ?_ ?_ | split | (extract_lets; split)
        | (with_reducible refine Within.mk ?_ ?hk
           case hk => (repeat' apply And.intro) <;> first | with_reducible exact .inr rfl | exact .inl (Mask.bit hm rfl)
           first
            | with_reducible assumption | with_reducible apply within_State_modStrand (Mask.sub hm rfl)
            | with_reducible apply within_State_stopHere (Mask.sub hm rfl) | with_reducible apply within_State_rerank (Mask.sub hm rfl)
            | with_reducible refine Within.snd (by assumption) ?_ | with_reducible refine Within.fst (by assumption) ?_
            | with_reducible refine Within.ite ?_ ?_ | split | (extract_lets; split)))

theorem within_State_raiseAll {m : Nat} {s₀ s : State}
    (hm : m ||| 0x800002000000000F901080E00000870000080000000181E000078002000000001000000020000200000702000B3400040020000000382204203003FFFFFFFF = m)
    (c : Cause) (h₀ : Within m s₀ s) : Within m s₀ (State.raiseAll s c) := by
  unfold State.raiseAll
  repeat' first
    | with_reducible assumption | with_reducible intro _ | with_reducible apply within_State_raise
    | with_reducible apply within_State_raiseStop (Mask.sub hm rfl) | with_reducible refine Within.each ?_ ?_
    | exact Touch.any (Mask.bit hm rfl)

theorem within_State_takeStops {m : Nat} {s₀ s : State}
    (hm : m ||| 0x800002000000000F901080E00000870000080000000181E000078002000000001000000020000200000702000B3400040020000000382204203003FFFFFFFF = m)
    (k : Nat) (b : Nat) (h₀ : Within m s₀ s) : Within m s₀ (State.takeStops s k b).1 := by
  unfold State.takeStops
  repeat' first
    | with_reducible assumption | with_reducible intro _ | with_reducible apply within_State_stopFlow (Mask.sub hm rfl)
    | with_reducible apply within_State_stopAlone (Mask.sub hm rfl) | with_reducible refine Within.each ?_ ?_
    | with_reducible refine Within.snd (by assumption) ?_ | with_reducible refine Within.fst (by assumption) ?_
    | exact Touch.any (Mask.bit hm rfl) | with_reducible refine Within.ite ?_ ?_ | split | (extract_lets; split)

end Sys2Proof.Machine
end

