-- ==== Sys2Proof/Laws/StepsWithin.lean ====
section
/-! SUPPORT. What the definitions of Machine/Steps.lean keep, and all that they may change (Laws/Within.lean). -/

namespace Sys2Proof.Machine

set_option linter.all false

theorem within_State_parkUnderrun {m : Nat} {s₀ s : State}
    (hm : m ||| 0x800002000000000F901080E00000870000080000000181E000078002000000001000000020000200000702000B3400040020000000382204243003FFFFFFFF = m)
    (k : Nat) (b : Nat) (h₀ : Within m s₀ s) : Within m s₀ (State.parkUnderrun s k b) := by
  unfold State.parkUnderrun
  repeat' first
    | with_reducible assumption | with_reducible apply within_State_setFld | with_reducible apply within_State_raise
    | with_reducible apply within_State_stopFlow (Mask.sub hm rfl) | with_reducible refine Within.snd (by assumption) ?_
    | with_reducible refine Within.fst (by assumption) ?_ | exact touch_MC_STAT (Mask.bit hm rfl)
    | exact touch_strmA_MC_STRM_STAT (Mask.bit hm rfl) _ | exact Touch.any (Mask.bit hm rfl) | with_reducible refine Within.ite ?_ ?_
    | split | (extract_lets; split)

theorem within_State_readWord {m : Nat}
    (hm : m ||| 0x800002000000000F901080E00000870000080000000181E000078002000000001000000020000200000702000B3400040020000000382204243003FFFFFFFF = m) {s₀ s : State} (k : Nat) (h₀ : Within m s₀ s) : Within m s₀ (State.readWord s k).st := by
  unfold State.readWord
  extract_lets b
  split
  rename_i s1 stopped e
  have h1 : Within m s₀ s1 := Within.fst e (within_State_takeStops (Mask.sub hm rfl) _ _ h₀)
  repeat' first
    | exact h1 | exact within_State_stopFlow (Mask.sub hm rfl) _ _ _ h1 | exact within_State_parkUnderrun (Mask.sub hm rfl) _ _ h1 | split | (extract_lets; split)

theorem within_State_triggers {m : Nat} {s₀ s : State}
    (hm : m ||| 0x400000000001BF000000000000000000000000000000000000000000000000000000000000000000000000000000000000000100080C04 = m)
    (crew : List Nat) (w : Word64) (segStart : Bool) (g : Nat) (start : Nat) (h₀ : Within m s₀ s) :
    Within m s₀ (State.triggers s crew w segStart g start) := by
  unfold State.triggers
  repeat' first
    | with_reducible assumption | with_reducible intro _ | with_reducible apply Within.send _ (Mask.bit hm rfl)
    | with_reducible apply within_State_triggerPulse (Mask.sub hm rfl) | with_reducible refine Within.each ?_ ?_
    | with_reducible refine Within.foldl _ ?_ ?_ | with_reducible refine Within.foldlFst _ ?_ ?_
    | with_reducible refine Within.foldlSnd _ ?_ ?_ | with_reducible refine Within.ite ?_ ?_ | split | (extract_lets; split)

theorem within_State_setMarkers {m : Nat} {s₀ s : State} (hm : m ||| 0x100000040 = m) (crew : List Nat) (mask : Nat) (levels : Nat)
    (h₀ : Within m s₀ s) : Within m s₀ (State.setMarkers s crew mask levels) := by
  unfold State.setMarkers
  repeat' first
    | with_reducible assumption | with_reducible intro _ | with_reducible apply within_State_modStrand (Mask.sub hm rfl)
    | with_reducible apply within_State_showMarks (Mask.sub hm rfl) | with_reducible refine Within.each ?_ ?_
    | (with_reducible refine Within.mk ?_ ?hk
       case hk => (repeat' apply And.intro) <;> first | with_reducible exact .inr rfl | exact .inl (Mask.bit hm rfl)
       first
        | with_reducible assumption | with_reducible apply within_State_modStrand (Mask.sub hm rfl)
        | with_reducible apply within_State_showMarks (Mask.sub hm rfl) | with_reducible refine Within.each ?_ ?_)

theorem within_State_issueAt {m : Nat} {s₀ s : State}
    (hm : m ||| 0x8000020000000000000000000001870000000000000000078006800E000000000000000000000000000000000334000000000000000000000000010009C8C4 = m)
    (j : Nat) (w : Word64) (p : Pos) (b : Nat) (per : Nat) (bus : Nat) (block : Option Nat) (h₀ : Within m s₀ s) :
    Within m s₀ (State.issueAt s j w p b per bus block) := by
  unfold State.issueAt
  repeat' first
    | with_reducible assumption | with_reducible intro _ | with_reducible apply within_State_setFld
    | with_reducible apply within_State_modStrand (Mask.sub hm rfl) | with_reducible apply within_State_issuePin (Mask.sub hm rfl)
    | with_reducible apply within_State_issuePins (Mask.sub hm rfl) | with_reducible apply within_State_aqStep (Mask.sub hm rfl)
    | with_reducible apply within_State_addLed | with_reducible apply within_State_setSqState (Mask.sub hm rfl)
    | with_reducible apply within_State_setSqPos (Mask.sub hm rfl) | with_reducible apply within_State_firstStep (Mask.sub hm rfl)
    | with_reducible refine Within.snd (by assumption) ?_ | with_reducible refine Within.fst (by assumption) ?_
    | exact touch_SQ_EXEC_HI (Mask.bit hm rfl) _ | exact touch_SQ_EXEC_LO (Mask.bit hm rfl) _
    | exact touch_SQ_ISSUED_HI (Mask.bit hm rfl) _ | exact touch_SQ_ISSUED_LO (Mask.bit hm rfl) _
    | exact touch_WV_ACC (Mask.bit hm rfl) _ | with_reducible refine Within.ite ?_ ?_ | split | (extract_lets; split)
    | (with_reducible refine Within.mk ?_ ?hk
       case hk => (repeat' apply And.intro) <;> first | with_reducible exact .inr rfl | exact .inl (Mask.bit hm rfl)
       first
        | with_reducible assumption | with_reducible apply within_State_setFld
        | with_reducible apply within_State_modStrand (Mask.sub hm rfl) | with_reducible apply within_State_issuePin (Mask.sub hm rfl)
        | with_reducible apply within_State_issuePins (Mask.sub hm rfl) | with_reducible apply within_State_aqStep (Mask.sub hm rfl)
        | with_reducible apply within_State_addLed | with_reducible apply within_State_setSqState (Mask.sub hm rfl)
        | with_reducible apply within_State_setSqPos (Mask.sub hm rfl) | with_reducible apply within_State_firstStep (Mask.sub hm rfl)
        | with_reducible refine Within.snd (by assumption) ?_ | with_reducible refine Within.fst (by assumption) ?_
        | with_reducible refine Within.ite ?_ ?_ | split | (extract_lets; split))

theorem within_State_issue {m : Nat} {s₀ s : State}
    (hm : m ||| 0x800002000000000FD01080E00001BF000008000000E004078006800E000000001000000020000200000702000B3400040020000000000004000003FFFFFFFF = m)
    (k : Nat) (w : Word64) (h₀ : Within m s₀ s) : Within m s₀ (State.issue s k w).1 := by
  unfold State.issue
  repeat' first
    | with_reducible assumption | with_reducible intro _ | with_reducible apply Within.advanceTo _ (Mask.bit hm rfl)
    | with_reducible refine within_State_atInstant _ _ (Mask.bit hm rfl) ?_ ?_
    | with_reducible apply within_State_modStrand (Mask.sub hm rfl) | with_reducible apply within_State_microStep (Mask.sub hm rfl)
    | with_reducible apply within_State_takeCaptured (Mask.sub hm rfl) | with_reducible apply within_State_triggers (Mask.sub hm rfl)
    | with_reducible apply within_State_issueAt (Mask.sub hm rfl) | with_reducible refine Within.each ?_ ?_
    | exact Touch.any (Mask.bit hm rfl)
    | (with_reducible refine Within.mk ?_ ?hk
       case hk => (repeat' apply And.intro) <;> first | with_reducible exact .inr rfl | exact .inl (Mask.bit hm rfl)
       first
        | with_reducible assumption | with_reducible apply Within.advanceTo _ (Mask.bit hm rfl)
        | with_reducible refine within_State_atInstant _ _ (Mask.bit hm rfl) ?_ ?_
        | with_reducible apply within_State_modStrand (Mask.sub hm rfl) | with_reducible apply within_State_microStep (Mask.sub hm rfl)
        | with_reducible apply within_State_takeCaptured (Mask.sub hm rfl)
        | with_reducible apply within_State_triggers (Mask.sub hm rfl) | with_reducible apply within_State_issueAt (Mask.sub hm rfl)
        | with_reducible refine Within.each ?_ ?_)

theorem within_State_putNext {m : Nat} {s₀ s : State} (hm : m ||| 0x40 = m) (k : Nat) (n : Next) (start : Nat) (h₀ : Within m s₀ s) :
    Within m s₀ (State.putNext s k n start) := by
  unfold State.putNext
  repeat' first
    | with_reducible assumption | with_reducible intro _ | with_reducible apply within_State_modStrand (Mask.sub hm rfl)
    | (with_reducible refine Within.mk ?_ ?hk
       case hk => (repeat' apply And.intro) <;> first | with_reducible exact .inr rfl | exact .inl (Mask.bit hm rfl)
       first
        | with_reducible assumption | with_reducible apply within_State_modStrand (Mask.sub hm rfl))

theorem within_State_leaveStream {m : Nat} {s₀ s : State} (hm : m ||| 0x20420000000080040 = m) (k : Nat) (h₀ : Within m s₀ s) :
    Within m s₀ (State.leaveStream s k) := by
  unfold State.leaveStream
  repeat' first
    | with_reducible assumption | with_reducible apply within_State_closeStream (Mask.sub hm rfl)
    | with_reducible refine Within.snd (by assumption) ?_ | with_reducible refine Within.fst (by assumption) ?_
    | with_reducible refine Within.ite ?_ ?_ | split | (extract_lets; split)

theorem within_State_goOn {m : Nat} {s₀ s : State}
    (hm : m ||| 0x800002000000000F901080E00000870000080000000181E000078002000000001000000020000200000702000B3400040020000000382204203003FFFFFFFF = m)
    (k : Nat) (n : Next) (start : Nat) (own : Option Cause) (h₀ : Within m s₀ s) : Within m s₀ (State.goOn s k n start own) := by
  unfold State.goOn
  repeat' first
    | with_reducible assumption | with_reducible apply within_State_lookahead (Mask.sub hm rfl)
    | with_reducible apply within_State_stopFlow (Mask.sub hm rfl) | with_reducible apply within_State_putNext (Mask.sub hm rfl)
    | with_reducible apply within_State_leaveStream (Mask.sub hm rfl) | with_reducible refine Within.snd (by assumption) ?_
    | with_reducible refine Within.fst (by assumption) ?_ | exact Touch.any (Mask.bit hm rfl) | with_reducible refine Within.ite ?_ ?_
    | split | (extract_lets; split)

theorem within_State_stepWord {m : Nat} {s₀ s : State}
    (hm : m ||| 0x800002000000000F901080E00000870000080000000181E000078002000000001000000020000200000702000B3400040020000000382204243003FFFFFFFF = m)
    (k : Nat) (want : Word64 → Bool) (act : State → Word64 → State) (h_act : ∀ x0 x1, Within m s₀ x0 → Within m s₀ (act x0 x1))
    (h₀ : Within m s₀ s) : Within m s₀ (State.stepWord s k want act) := by
  unfold State.stepWord
  repeat' first
    | with_reducible assumption | with_reducible apply within_State_stopFlow (Mask.sub hm rfl)
    | with_reducible apply within_State_readWord (Mask.sub hm rfl) | with_reducible apply h_act
    | exact Found.within_stopped (by assumption) (within_State_readWord (Mask.sub hm rfl) _ h₀)
    | exact Found.within_limit (by assumption) (within_State_readWord (Mask.sub hm rfl) _ h₀)
    | exact Found.within_hold (by assumption) (within_State_readWord (Mask.sub hm rfl) _ h₀)
    | exact Found.within_word (by assumption) (within_State_readWord (Mask.sub hm rfl) _ h₀)
    | with_reducible refine Within.snd (by assumption) ?_ | with_reducible refine Within.fst (by assumption) ?_
    | exact Touch.any (Mask.bit hm rfl) | with_reducible refine Within.ite ?_ ?_ | split | (extract_lets; split)

theorem within_State_plainStep {m : Nat} {s₀ s : State}
    (hm : m ||| 0x800002000000000FD01080E00001BF000008000000E185E78007800E000000001000000020000200000702000B3400040020000000382204203003FFFFFFFF = m)
    (k : Nat) (w : Word64) (h₀ : Within m s₀ s) : Within m s₀ (State.plainStep s k w) := by
  unfold State.plainStep
  repeat' first
    | with_reducible assumption | with_reducible apply within_State_issue (Mask.sub hm rfl)
    | with_reducible apply within_State_goOn (Mask.sub hm rfl) | with_reducible refine Within.snd (by assumption) ?_
    | with_reducible refine Within.fst (by assumption) ?_ | exact Touch.any (Mask.bit hm rfl) | with_reducible refine Within.ite ?_ ?_
    | split | (extract_lets; split)

end Sys2Proof.Machine
end

