-- ==== Sys2Proof/Laws/SequencerWithin.lean ====
section
/-! SUPPORT. What the definitions of Machine/Sequencer.lean keep, and all that they may change (Laws/Within.lean). -/

namespace Sys2Proof.Machine

set_option linter.all false

theorem within_execNext {m : Nat} {s₀ s : State}
    (hm : m ||| 0x800002000000000FD01080E00001BF000008000000E185E78007800E000000001000000020000200000702000B3400040020000000382204243003FFFFFFFF = m)
    (k : Fin 192) (h₀ : Within m s₀ s) : AnswersWithin m s₀ (execNext k s) := by
  unfold execNext
  repeat' first
    | with_reducible assumption | with_reducible refine AnswersWithin.next ?_ | with_reducible intro _
    | with_reducible apply within_State_stepWord (Mask.sub hm rfl) | with_reducible apply within_State_plainStep (Mask.sub hm rfl)
    | exact Touch.any (Mask.bit hm rfl)

theorem within_execRpt {m : Nat} {s₀ s : State}
    (hm : m ||| 0x800002000000000FD01080E00001BF000008000000E185E78007800E000000001000000020000200000702000B3400040020000000382204243003FFFFFFFF = m)
    (k : Fin 192) (h₀ : Within m s₀ s) : AnswersWithin m s₀ (execRpt k s) := by
  unfold execRpt
  repeat' first
    | with_reducible assumption | with_reducible refine AnswersWithin.next ?_ | with_reducible intro _
    | with_reducible apply within_State_issue (Mask.sub hm rfl) | with_reducible apply within_State_goOn (Mask.sub hm rfl)
    | with_reducible apply within_State_stepWord (Mask.sub hm rfl) | with_reducible refine Within.snd (by assumption) ?_
    | with_reducible refine Within.fst (by assumption) ?_ | exact Touch.any (Mask.bit hm rfl) | with_reducible refine Within.ite ?_ ?_
    | split | (extract_lets; split)

theorem within_State_recordExit {m : Nat} {s₀ s : State}
    (hm : m ||| 0x2100000000000000000000000000000000000000000000000000000000000000000000000000 = m) (l : List Nat) (iter : Nat)
    (timeout : Bool) (skipped : Bool) (h₀ : Within m s₀ s) : Within m s₀ (State.recordExit s l iter timeout skipped) := by
  unfold State.recordExit
  repeat' first
    | with_reducible assumption | with_reducible intro _ | with_reducible apply Within.wr | with_reducible apply within_State_raise
    | with_reducible apply within_State_raiseIf | with_reducible refine Within.each ?_ ?_ | with_reducible refine Within.iter ?_ _ ?_
    | exact touch_SQ_MATCH (Mask.bit hm rfl) _ | exact touch_SQ_STAT (Mask.bit hm rfl) _

theorem within_execLoopBegin {m : Nat} {s₀ s : State}
    (hm : m ||| 0x800002000000000FD01080E00001BF000008000000E185E78027800E000000001000000020000200000702000B3400040020000000382204243003FFFFFFFF = m)
    (k : Fin 192) (h₀ : Within m s₀ s) : AnswersWithin m s₀ (execLoopBegin k s) := by
  unfold execLoopBegin
  repeat' first
    | with_reducible assumption | with_reducible refine AnswersWithin.next ?_ | with_reducible refine AnswersWithin.ite ?_ ?_
    | with_reducible intro _ | with_reducible apply within_State_modStrand (Mask.sub hm rfl)
    | with_reducible apply within_State_issue (Mask.sub hm rfl) | with_reducible apply within_State_goOn (Mask.sub hm rfl)
    | with_reducible apply within_State_stepWord (Mask.sub hm rfl) | with_reducible apply within_State_recordExit (Mask.sub hm rfl)
    | with_reducible refine Within.each ?_ ?_ | with_reducible refine Within.snd (by assumption) ?_
    | with_reducible refine Within.fst (by assumption) ?_ | exact Touch.any (Mask.bit hm rfl) | with_reducible refine Within.ite ?_ ?_
    | split | (extract_lets; split)
    | (with_reducible refine Within.mk ?_ ?hk
       case hk => (repeat' apply And.intro) <;> first | with_reducible exact .inr rfl | exact .inl (Mask.bit hm rfl)
       first
        | with_reducible assumption | with_reducible apply within_State_modStrand (Mask.sub hm rfl)
        | with_reducible apply within_State_issue (Mask.sub hm rfl) | with_reducible apply within_State_goOn (Mask.sub hm rfl)
        | with_reducible apply within_State_stepWord (Mask.sub hm rfl) | with_reducible apply within_State_recordExit (Mask.sub hm rfl)
        | with_reducible refine Within.each ?_ ?_ | with_reducible refine Within.snd (by assumption) ?_
        | with_reducible refine Within.fst (by assumption) ?_ | with_reducible refine Within.ite ?_ ?_ | split | (extract_lets; split)
        | (with_reducible refine Within.mk ?_ ?hk
           case hk => (repeat' apply And.intro) <;> first | with_reducible exact .inr rfl | exact .inl (Mask.bit hm rfl)
           first
            | with_reducible assumption | with_reducible apply within_State_modStrand (Mask.sub hm rfl)
            | with_reducible apply within_State_issue (Mask.sub hm rfl) | with_reducible apply within_State_goOn (Mask.sub hm rfl)
            | with_reducible apply within_State_stepWord (Mask.sub hm rfl)
            | with_reducible apply within_State_recordExit (Mask.sub hm rfl) | with_reducible refine Within.each ?_ ?_
            | with_reducible refine Within.snd (by assumption) ?_ | with_reducible refine Within.fst (by assumption) ?_
            | with_reducible refine Within.ite ?_ ?_ | split | (extract_lets; split)))

theorem within_execLoopEnd {m : Nat} {s₀ s : State}
    (hm : m ||| 0x800002000000000FD01080E00001BF000008000000E185E78007800E000000001000000020000200000702000B3400040020000000382204243003FFFFFFFF = m)
    (k : Fin 192) (h₀ : Within m s₀ s) : AnswersWithin m s₀ (execLoopEnd k s) := by
  unfold execLoopEnd
  repeat' first
    | with_reducible assumption | with_reducible refine AnswersWithin.next ?_ | with_reducible intro _
    | with_reducible apply within_State_issue (Mask.sub hm rfl) | with_reducible apply within_State_goOn (Mask.sub hm rfl)
    | with_reducible apply within_State_stepWord (Mask.sub hm rfl) | with_reducible refine Within.snd (by assumption) ?_
    | with_reducible refine Within.fst (by assumption) ?_ | exact Touch.any (Mask.bit hm rfl) | with_reducible refine Within.ite ?_ ?_
    | split | (extract_lets; split)

theorem within_execCall {m : Nat} {s₀ s : State}
    (hm : m ||| 0x800002000000000FD01080E00001BF000008000000E185E78007800E000000001000000020000200000702000B3400040020000000382204243003FFFFFFFF = m)
    (k : Fin 192) (h₀ : Within m s₀ s) : AnswersWithin m s₀ (execCall k s) := by
  unfold execCall
  repeat' first
    | with_reducible assumption | with_reducible refine AnswersWithin.next ?_ | with_reducible intro _
    | with_reducible apply within_State_issue (Mask.sub hm rfl) | with_reducible apply within_State_goOn (Mask.sub hm rfl)
    | with_reducible apply within_State_stepWord (Mask.sub hm rfl) | with_reducible refine Within.snd (by assumption) ?_
    | with_reducible refine Within.fst (by assumption) ?_ | exact Touch.any (Mask.bit hm rfl) | with_reducible refine Within.ite ?_ ?_
    | split | (extract_lets; split)

theorem within_execRet {m : Nat} {s₀ s : State}
    (hm : m ||| 0x800002000000000FD01080E00001BF000008000000E185E78007800E000000001000000020000200000702000B3400040020000000382204243003FFFFFFFF = m)
    (k : Fin 192) (h₀ : Within m s₀ s) : AnswersWithin m s₀ (execRet k s) := by
  unfold execRet
  repeat' first
    | with_reducible assumption | with_reducible refine AnswersWithin.next ?_ | with_reducible intro _
    | with_reducible apply within_State_issue (Mask.sub hm rfl) | with_reducible apply within_State_goOn (Mask.sub hm rfl)
    | with_reducible apply within_State_stepWord (Mask.sub hm rfl) | with_reducible refine Within.snd (by assumption) ?_
    | with_reducible refine Within.fst (by assumption) ?_ | exact Touch.any (Mask.bit hm rfl) | with_reducible refine Within.ite ?_ ?_
    | split | (extract_lets; split)

theorem within_execJmp {m : Nat} {s₀ s : State}
    (hm : m ||| 0x800002000000000FD01080E00001BF000008000000E185E78007800E000000001000000020000200000702000B3400040020000000382204243003FFFFFFFF = m)
    (k : Fin 192) (h₀ : Within m s₀ s) : AnswersWithin m s₀ (execJmp k s) := by
  unfold execJmp
  repeat' first
    | with_reducible assumption | with_reducible refine AnswersWithin.next ?_ | with_reducible intro _
    | with_reducible apply within_State_issue (Mask.sub hm rfl) | with_reducible apply within_State_goOn (Mask.sub hm rfl)
    | with_reducible apply within_State_stepWord (Mask.sub hm rfl) | with_reducible refine Within.snd (by assumption) ?_
    | with_reducible refine Within.fst (by assumption) ?_ | exact Touch.any (Mask.bit hm rfl) | with_reducible refine Within.ite ?_ ?_
    | split | (extract_lets; split)

theorem within_execTrig {m : Nat} {s₀ s : State}
    (hm : m ||| 0x800002000000000FD01080E00001BF000008000000E185E78007800E000000001000000020000200000702000B3400040020000000382204243003FFFFFFFF = m)
    (k : Fin 192) (h₀ : Within m s₀ s) : AnswersWithin m s₀ (execTrig k s) := by
  unfold execTrig
  repeat' first
    | with_reducible assumption | with_reducible refine AnswersWithin.next ?_ | with_reducible intro _
    | with_reducible apply within_State_stepWord (Mask.sub hm rfl) | with_reducible apply within_State_plainStep (Mask.sub hm rfl)
    | exact Touch.any (Mask.bit hm rfl)

theorem within_execMark {m : Nat} {s₀ s : State}
    (hm : m ||| 0x800002000000000FD01080E00001BF000008000000E185E78007800E000000001000000020000200000702000B3400040020000000382204243003FFFFFFFF = m)
    (k : Fin 192) (h₀ : Within m s₀ s) : AnswersWithin m s₀ (execMark k s) := by
  unfold execMark
  repeat' first
    | with_reducible assumption | with_reducible refine AnswersWithin.next ?_ | with_reducible intro _
    | with_reducible apply within_State_setMarkers (Mask.sub hm rfl) | with_reducible apply within_State_issue (Mask.sub hm rfl)
    | with_reducible apply within_State_goOn (Mask.sub hm rfl) | with_reducible apply within_State_stepWord (Mask.sub hm rfl)
    | with_reducible refine Within.snd (by assumption) ?_ | with_reducible refine Within.fst (by assumption) ?_
    | exact Touch.any (Mask.bit hm rfl) | with_reducible refine Within.ite ?_ ?_ | split | (extract_lets; split)

theorem within_execParkOp {m : Nat} {s₀ s : State}
    (hm : m ||| 0x800002000000000FD01080E00001BF000008000000E185E78007800E000000001000000020000200000702000B3400040020000000382204243003FFFFFFFF = m)
    (k : Fin 192) (h₀ : Within m s₀ s) : AnswersWithin m s₀ (execParkOp k s) := by
  unfold execParkOp
  repeat' first
    | with_reducible assumption | with_reducible refine AnswersWithin.next ?_ | with_reducible intro _
    | with_reducible apply within_State_issue (Mask.sub hm rfl) | with_reducible apply within_State_goOn (Mask.sub hm rfl)
    | with_reducible apply within_State_stepWord (Mask.sub hm rfl) | with_reducible refine Within.snd (by assumption) ?_
    | with_reducible refine Within.fst (by assumption) ?_ | exact Touch.any (Mask.bit hm rfl) | with_reducible refine Within.ite ?_ ?_
    | split | (extract_lets; split)

theorem within_execHaltOp {m : Nat} {s₀ s : State}
    (hm : m ||| 0x800002000000000FD01080E00001BF000008000000E185E78007800E000000001000000020000200000702000B3400040020000000382204243003FFFFFFFF = m)
    (k : Fin 192) (h₀ : Within m s₀ s) : AnswersWithin m s₀ (execHaltOp k s) := by
  unfold execHaltOp
  repeat' first
    | with_reducible assumption | with_reducible refine AnswersWithin.next ?_ | with_reducible intro _
    | with_reducible apply within_State_issue (Mask.sub hm rfl) | with_reducible apply within_State_goOn (Mask.sub hm rfl)
    | with_reducible apply within_State_stepWord (Mask.sub hm rfl) | with_reducible refine Within.snd (by assumption) ?_
    | with_reducible refine Within.fst (by assumption) ?_ | exact Touch.any (Mask.bit hm rfl) | with_reducible refine Within.ite ?_ ?_
    | split | (extract_lets; split)

theorem within_execIllegalOp {m : Nat} {s₀ s : State}
    (hm : m ||| 0x800002000000000F901080E00000870000080000000181E000078002000000001000000020000200000702000B3400040020000000382204243003FFFFFFFF = m)
    (k : Fin 192) (h₀ : Within m s₀ s) : AnswersWithin m s₀ (execIllegalOp k s) := by
  unfold execIllegalOp
  repeat' first
    | with_reducible assumption | with_reducible refine AnswersWithin.next ?_ | with_reducible intro _
    | with_reducible apply within_State_stopFlow (Mask.sub hm rfl) | with_reducible apply within_State_stepWord (Mask.sub hm rfl)
    | exact Touch.any (Mask.bit hm rfl) | with_reducible refine Within.ite ?_ ?_ | split | (extract_lets; split)

theorem within_State_splitOff {m : Nat} {s₀ s : State}
    (hm : m ||| 0x800002000000000F901080E00000870000080000000181E000078002000000001500000020000200000702000B3400040020000000382204203003FFFFFFFF = m)
    (l : Nat) (j : Nat) (n : Next) (start : Nat) (per : Nat) (own : Option Cause) (h₀ : Within m s₀ s) :
    Within m s₀ (State.splitOff s l j n start per own) := by
  unfold State.splitOff
  repeat' first
    | with_reducible assumption | with_reducible intro _ | with_reducible apply within_State_raise
    | with_reducible apply within_State_modStrand (Mask.sub hm rfl) | with_reducible apply within_State_setRole (Mask.sub hm rfl)
    | with_reducible apply within_State_alpgCopy (Mask.sub hm rfl) | with_reducible apply within_State_goOn (Mask.sub hm rfl)
    | exact touch_LB_STAT (Mask.bit hm rfl) _ | exact Touch.any (Mask.bit hm rfl)
    | (with_reducible refine Within.mk ?_ ?hk
       case hk => (repeat' apply And.intro) <;> first | with_reducible exact .inr rfl | exact .inl (Mask.bit hm rfl)
       first
        | with_reducible assumption | with_reducible apply within_State_raise
        | with_reducible apply within_State_modStrand (Mask.sub hm rfl) | with_reducible apply within_State_setRole (Mask.sub hm rfl)
        | with_reducible apply within_State_alpgCopy (Mask.sub hm rfl) | with_reducible apply within_State_goOn (Mask.sub hm rfl))

theorem within_State_jifClear {m : Nat} {s₀ s : State}
    (hm : m ||| 0x3000000000000000000000000000000000000000000000000000000000000000000000000040 = m) (j : Nat) (w : Nat) (cond : Nat)
    (grp : List Nat) (h₀ : Within m s₀ s) : Within m s₀ (State.jifClear s j w cond grp) := by
  unfold State.jifClear
  repeat' first
    | with_reducible assumption | with_reducible intro _ | with_reducible apply within_State_setFld
    | with_reducible apply within_State_clearFail (Mask.sub hm rfl) | with_reducible refine Within.each ?_ ?_
    | with_reducible refine Within.snd (by assumption) ?_ | with_reducible refine Within.fst (by assumption) ?_
    | exact touch_SQ_FLAGS (Mask.bit hm rfl) _ | exact touch_SQ_MATCH (Mask.bit hm rfl) _ | with_reducible refine Within.ite ?_ ?_
    | split | (extract_lets; split)

theorem within_execJif {m : Nat} {s₀ s : State}
    (hm : m ||| 0x800002000000000FD01080E00001BF000008000000E185E78037800E000000001500000020000200000702000B3400040020000000382204243003FFFFFFFF = m)
    (k : Fin 192) (h₀ : Within m s₀ s) : AnswersWithin m s₀ (execJif k s) := by
  unfold execJif
  repeat' first
    | with_reducible assumption | with_reducible refine AnswersWithin.next ?_ | with_reducible refine AnswersWithin.ite ?_ ?_
    | with_reducible intro _ | with_reducible apply within_State_request (Mask.sub hm rfl)
    | with_reducible apply within_State_issue (Mask.sub hm rfl) | with_reducible apply within_State_goOn (Mask.sub hm rfl)
    | with_reducible apply within_State_stepWord (Mask.sub hm rfl) | with_reducible apply within_State_splitOff (Mask.sub hm rfl)
    | with_reducible apply within_State_jifClear (Mask.sub hm rfl) | with_reducible refine Within.each ?_ ?_
    | with_reducible refine Within.snd (by assumption) ?_ | with_reducible refine Within.fst (by assumption) ?_
    | exact Touch.any (Mask.bit hm rfl) | with_reducible refine Within.ite ?_ ?_ | split | (extract_lets; split)

theorem within_State_closeIteration {m : Nat} {s₀ s : State}
    (hm : m ||| 0x100000000000000000000000000000000000000000000000000000000000000000000000040 = m) (j : Nat) (b : Nat) (w : Nat)
    (exited : Bool) (outer : Option Nat) (h₀ : Within m s₀ s) : Within m s₀ (State.closeIteration s j b w exited outer) := by
  unfold State.closeIteration
  repeat' first
    | with_reducible assumption | with_reducible intro _ | with_reducible apply within_State_raise
    | with_reducible apply within_State_raiseIf | with_reducible apply within_State_modStrand (Mask.sub hm rfl)
    | exact touch_SQ_STAT (Mask.bit hm rfl) _ | with_reducible refine Within.ite ?_ ?_ | split | (extract_lets; split)
    | (with_reducible refine Within.mk ?_ ?hk
       case hk => (repeat' apply And.intro) <;> first | with_reducible exact .inr rfl | exact .inl (Mask.bit hm rfl)
       first
        | with_reducible assumption | with_reducible apply within_State_raise | with_reducible apply within_State_raiseIf
        | with_reducible apply within_State_modStrand (Mask.sub hm rfl) | with_reducible refine Within.ite ?_ ?_ | split
        | (extract_lets; split)
        | (with_reducible refine Within.mk ?_ ?hk
           case hk => (repeat' apply And.intro) <;> first | with_reducible exact .inr rfl | exact .inl (Mask.bit hm rfl)
           first
            | with_reducible assumption | with_reducible apply within_State_raise | with_reducible apply within_State_raiseIf
            | with_reducible apply within_State_modStrand (Mask.sub hm rfl) | with_reducible refine Within.ite ?_ ?_ | split
            | (extract_lets; split)))

theorem within_State_timeoutEvent {m : Nat} {s₀ s : State} (hm : m ||| 0x40 = m) (j : Nat) (p : Pos) (b : Nat)
    (fails : List StrobeFail) (h₀ : Within m s₀ s) : Within m s₀ (State.timeoutEvent s j p b fails) := by
  unfold State.timeoutEvent
  repeat' first
    | with_reducible assumption | with_reducible intro _ | with_reducible apply within_State_modStrand (Mask.sub hm rfl)
    | (with_reducible refine Within.mk ?_ ?hk
       case hk => (repeat' apply And.intro) <;> first | with_reducible exact .inr rfl | exact .inl (Mask.bit hm rfl)
       first
        | with_reducible assumption | with_reducible apply within_State_modStrand (Mask.sub hm rfl)
        | (with_reducible refine Within.mk ?_ ?hk
           case hk => (repeat' apply And.intro) <;> first | with_reducible exact .inr rfl | exact .inl (Mask.bit hm rfl)
           first
            | with_reducible assumption | with_reducible apply within_State_modStrand (Mask.sub hm rfl)))

theorem within_State_lbMatch {m : Nat} {s₀ s : State} (hm : m ||| 0x2000000000000000000000000000000000000000000000000000000000040 = m)
    (j : Nat) (b : Nat) (passed : Bool) (h₀ : Within m s₀ s) : Within m s₀ (State.lbMatch s j b passed) := by
  unfold State.lbMatch
  repeat' first
    | with_reducible assumption | with_reducible intro _ | with_reducible apply Within.wr
    | with_reducible apply within_State_modStrand (Mask.sub hm rfl) | with_reducible refine Within.snd (by assumption) ?_
    | with_reducible refine Within.fst (by assumption) ?_ | exact touch_LB_MATCH (Mask.bit hm rfl) _ _ (by omega)
    | (with_reducible refine Within.mk ?_ ?hk
       case hk => (repeat' apply And.intro) <;> first | with_reducible exact .inr rfl | exact .inl (Mask.bit hm rfl)
       first
        | with_reducible assumption | with_reducible apply Within.wr | with_reducible apply within_State_modStrand (Mask.sub hm rfl)
        | with_reducible refine Within.snd (by assumption) ?_ | with_reducible refine Within.fst (by assumption) ?_)

theorem within_execMatch {m : Nat} {s₀ s : State}
    (hm : m ||| 0x800002000000000FD01080E00001BF000008000000E185E78037800E000000001700000020000200000702000B3400040020000000382204243003FFFFFFFF = m)
    (k : Fin 192) (h₀ : Within m s₀ s) : AnswersWithin m s₀ (execMatch k s) := by
  unfold execMatch
  repeat' first
    | with_reducible assumption | with_reducible refine AnswersWithin.next ?_ | with_reducible refine AnswersWithin.ite ?_ ?_
    | with_reducible intro _ | with_reducible apply within_State_setFld | with_reducible apply within_State_modStrand (Mask.sub hm rfl)
    | with_reducible apply within_State_strobe (Mask.sub hm rfl) | with_reducible apply within_State_request (Mask.sub hm rfl)
    | with_reducible apply within_State_issue (Mask.sub hm rfl) | with_reducible apply within_State_goOn (Mask.sub hm rfl)
    | with_reducible apply within_State_stepWord (Mask.sub hm rfl) | with_reducible apply within_State_recordExit (Mask.sub hm rfl)
    | with_reducible apply within_State_splitOff (Mask.sub hm rfl) | with_reducible apply within_State_closeIteration (Mask.sub hm rfl)
    | with_reducible apply within_State_timeoutEvent (Mask.sub hm rfl) | with_reducible apply within_State_lbMatch (Mask.sub hm rfl)
    | with_reducible refine Within.each ?_ ?_ | with_reducible refine Within.iter ?_ _ ?_
    | with_reducible refine Within.snd (by assumption) ?_ | with_reducible refine Within.fst (by assumption) ?_
    | exact touch_SQ_FLAGS (Mask.bit hm rfl) _ | exact touch_SQ_MATCH (Mask.bit hm rfl) _ | exact Touch.any (Mask.bit hm rfl)
    | with_reducible refine Within.ite ?_ ?_ | split | (extract_lets; split)
    | (with_reducible refine Within.mk ?_ ?hk
       case hk => (repeat' apply And.intro) <;> first | with_reducible exact .inr rfl | exact .inl (Mask.bit hm rfl)
       first
        | with_reducible assumption | with_reducible apply within_State_setFld
        | with_reducible apply within_State_modStrand (Mask.sub hm rfl) | with_reducible apply within_State_strobe (Mask.sub hm rfl)
        | with_reducible apply within_State_request (Mask.sub hm rfl) | with_reducible apply within_State_issue (Mask.sub hm rfl)
        | with_reducible apply within_State_goOn (Mask.sub hm rfl) | with_reducible apply within_State_stepWord (Mask.sub hm rfl)
        | with_reducible apply within_State_recordExit (Mask.sub hm rfl) | with_reducible apply within_State_splitOff (Mask.sub hm rfl)
        | with_reducible apply within_State_closeIteration (Mask.sub hm rfl)
        | with_reducible apply within_State_timeoutEvent (Mask.sub hm rfl)
        | with_reducible apply within_State_lbMatch (Mask.sub hm rfl) | with_reducible refine Within.each ?_ ?_
        | with_reducible refine Within.iter ?_ _ ?_ | with_reducible refine Within.snd (by assumption) ?_
        | with_reducible refine Within.fst (by assumption) ?_ | with_reducible refine Within.ite ?_ ?_ | split | (extract_lets; split)
        | (with_reducible refine Within.mk ?_ ?hk
           case hk => (repeat' apply And.intro) <;> first | with_reducible exact .inr rfl | exact .inl (Mask.bit hm rfl)
           first
            | with_reducible assumption | with_reducible apply within_State_setFld
            | with_reducible apply within_State_modStrand (Mask.sub hm rfl)
            | with_reducible apply within_State_strobe (Mask.sub hm rfl) | with_reducible apply within_State_request (Mask.sub hm rfl)
            | with_reducible apply within_State_issue (Mask.sub hm rfl) | with_reducible apply within_State_goOn (Mask.sub hm rfl)
            | with_reducible apply within_State_stepWord (Mask.sub hm rfl)
            | with_reducible apply within_State_recordExit (Mask.sub hm rfl)
            | with_reducible apply within_State_splitOff (Mask.sub hm rfl)
            | with_reducible apply within_State_closeIteration (Mask.sub hm rfl)
            | with_reducible apply within_State_timeoutEvent (Mask.sub hm rfl)
            | with_reducible apply within_State_lbMatch (Mask.sub hm rfl) | with_reducible refine Within.each ?_ ?_
            | with_reducible refine Within.iter ?_ _ ?_ | with_reducible refine Within.snd (by assumption) ?_
            | with_reducible refine Within.fst (by assumption) ?_ | with_reducible refine Within.ite ?_ ?_ | split
            | (extract_lets; split)))

theorem within_execHoldStep {m : Nat} {s₀ s : State}
    (hm : m ||| 0x800002000000000F901080E00000870000080000000181F98087800A000000001000000020000200000702000B3400040020000000382204243003FFFFFFFF = m)
    (k : Fin 192) (h₀ : Within m s₀ s) : AnswersWithin m s₀ (execHoldStep k s) := by
  unfold execHoldStep
  repeat' first
    | with_reducible assumption | with_reducible refine AnswersWithin.next ?_ | with_reducible refine AnswersWithin.ite ?_ ?_
    | with_reducible intro _ | with_reducible apply Within.wr | with_reducible apply Within.advanceTo _ (Mask.bit hm rfl)
    | with_reducible apply within_State_raise | with_reducible apply within_State_modStrand (Mask.sub hm rfl)
    | with_reducible apply within_State_request (Mask.sub hm rfl) | with_reducible apply within_State_setSqState (Mask.sub hm rfl)
    | with_reducible apply within_State_heldStart (Mask.sub hm rfl) | with_reducible apply within_State_heldFor (Mask.sub hm rfl)
    | with_reducible apply within_State_firstStep (Mask.sub hm rfl) | with_reducible apply within_State_readWord (Mask.sub hm rfl)
    | exact Found.within_stopped (by assumption) (within_State_readWord (Mask.sub hm rfl) _ h₀)
    | exact Found.within_limit (by assumption) (within_State_readWord (Mask.sub hm rfl) _ h₀)
    | exact Found.within_hold (by assumption) (within_State_readWord (Mask.sub hm rfl) _ h₀)
    | exact Found.within_word (by assumption) (within_State_readWord (Mask.sub hm rfl) _ h₀) | with_reducible refine Within.each ?_ ?_
    | with_reducible refine Within.snd (by assumption) ?_ | with_reducible refine Within.fst (by assumption) ?_
    | exact touch_SQ_SLIPS (Mask.bit hm rfl) _ | exact touch_SQ_STAT (Mask.bit hm rfl) _ | exact Touch.any (Mask.bit hm rfl)
    | with_reducible refine Within.ite ?_ ?_ | split | (extract_lets; split)
    | (with_reducible refine Within.mk ?_ ?hk
       case hk => (repeat' apply And.intro) <;> first | with_reducible exact .inr rfl | exact .inl (Mask.bit hm rfl)
       first
        | with_reducible assumption | with_reducible apply Within.wr | with_reducible apply Within.advanceTo _ (Mask.bit hm rfl)
        | with_reducible apply within_State_raise | with_reducible apply within_State_modStrand (Mask.sub hm rfl)
        | with_reducible apply within_State_request (Mask.sub hm rfl) | with_reducible apply within_State_setSqState (Mask.sub hm rfl)
        | with_reducible apply within_State_heldStart (Mask.sub hm rfl) | with_reducible apply within_State_heldFor (Mask.sub hm rfl)
        | with_reducible apply within_State_firstStep (Mask.sub hm rfl) | with_reducible apply within_State_readWord (Mask.sub hm rfl)
        | exact Found.within_stopped (by assumption) (within_State_readWord (Mask.sub hm rfl) _ h₀)
        | exact Found.within_limit (by assumption) (within_State_readWord (Mask.sub hm rfl) _ h₀)
        | exact Found.within_hold (by assumption) (within_State_readWord (Mask.sub hm rfl) _ h₀)
        | exact Found.within_word (by assumption) (within_State_readWord (Mask.sub hm rfl) _ h₀)
        | with_reducible refine Within.each ?_ ?_ | with_reducible refine Within.snd (by assumption) ?_
        | with_reducible refine Within.fst (by assumption) ?_ | with_reducible refine Within.ite ?_ ?_ | split | (extract_lets; split)
        | (with_reducible refine Within.mk ?_ ?hk
           case hk => (repeat' apply And.intro) <;> first | with_reducible exact .inr rfl | exact .inl (Mask.bit hm rfl)
           first
            | with_reducible assumption | with_reducible apply Within.wr | with_reducible apply Within.advanceTo _ (Mask.bit hm rfl)
            | with_reducible apply within_State_raise | with_reducible apply within_State_modStrand (Mask.sub hm rfl)
            | with_reducible apply within_State_request (Mask.sub hm rfl)
            | with_reducible apply within_State_setSqState (Mask.sub hm rfl)
            | with_reducible apply within_State_heldStart (Mask.sub hm rfl)
            | with_reducible apply within_State_heldFor (Mask.sub hm rfl)
            | with_reducible apply within_State_firstStep (Mask.sub hm rfl)
            | with_reducible apply within_State_readWord (Mask.sub hm rfl)
            | exact Found.within_stopped (by assumption) (within_State_readWord (Mask.sub hm rfl) _ h₀)
            | exact Found.within_limit (by assumption) (within_State_readWord (Mask.sub hm rfl) _ h₀)
            | exact Found.within_hold (by assumption) (within_State_readWord (Mask.sub hm rfl) _ h₀)
            | exact Found.within_word (by assumption) (within_State_readWord (Mask.sub hm rfl) _ h₀)
            | with_reducible refine Within.each ?_ ?_ | with_reducible refine Within.snd (by assumption) ?_
            | with_reducible refine Within.fst (by assumption) ?_ | with_reducible refine Within.ite ?_ ?_ | split
            | (extract_lets; split)))

theorem within_execHoldLimit {m : Nat} {s₀ s : State}
    (hm : m ||| 0x800002000000000F901080E00000870000080000000181E000078002000000001000000020000200000702000B3400040020000000382204243003FFFFFFFF = m)
    (k : Fin 192) (h₀ : Within m s₀ s) : AnswersWithin m s₀ (execHoldLimit k s) := by
  unfold execHoldLimit
  repeat' first
    | with_reducible assumption | with_reducible refine AnswersWithin.next ?_
    | with_reducible apply within_State_parkUnderrun (Mask.sub hm rfl) | with_reducible apply within_State_readWord (Mask.sub hm rfl)
    | exact Found.within_stopped (by assumption) (within_State_readWord (Mask.sub hm rfl) _ h₀)
    | exact Found.within_limit (by assumption) (within_State_readWord (Mask.sub hm rfl) _ h₀)
    | exact Found.within_hold (by assumption) (within_State_readWord (Mask.sub hm rfl) _ h₀)
    | exact Found.within_word (by assumption) (within_State_readWord (Mask.sub hm rfl) _ h₀)
    | with_reducible refine Within.snd (by assumption) ?_ | with_reducible refine Within.fst (by assumption) ?_
    | exact Touch.any (Mask.bit hm rfl) | with_reducible refine Within.ite ?_ ?_ | split | (extract_lets; split)

theorem within_State_beginWait {m : Nat} {s₀ s : State}
    (hm : m ||| 0x800002000000000F901080E00000870000080000000000198000800A000000001000000020000200000702000B3400040020000000000004000003FFFFFFFF = m)
    (k : Nat) (w : Wait) (h₀ : Within m s₀ s) : Within m s₀ (State.beginWait s k w) := by
  unfold State.beginWait
  repeat' first
    | with_reducible assumption | with_reducible intro _ | with_reducible apply Within.advanceTo _ (Mask.bit hm rfl)
    | with_reducible apply within_State_modStrand (Mask.sub hm rfl) | with_reducible apply within_State_setSqState (Mask.sub hm rfl)
    | with_reducible apply within_State_heldStart (Mask.sub hm rfl) | with_reducible apply within_State_firstStep (Mask.sub hm rfl)
    | with_reducible refine Within.each ?_ ?_ | exact Touch.any (Mask.bit hm rfl) | with_reducible refine Within.ite ?_ ?_ | split
    | (extract_lets; split)
    | (with_reducible refine Within.mk ?_ ?hk
       case hk => (repeat' apply And.intro) <;> first | with_reducible exact .inr rfl | exact .inl (Mask.bit hm rfl)
       first
        | with_reducible assumption | with_reducible apply Within.advanceTo _ (Mask.bit hm rfl)
        | with_reducible apply within_State_modStrand (Mask.sub hm rfl)
        | with_reducible apply within_State_setSqState (Mask.sub hm rfl)
        | with_reducible apply within_State_heldStart (Mask.sub hm rfl) | with_reducible apply within_State_firstStep (Mask.sub hm rfl)
        | with_reducible refine Within.each ?_ ?_ | with_reducible refine Within.ite ?_ ?_ | split | (extract_lets; split))

theorem within_State_endWait {m : Nat} {s₀ s : State}
    (hm : m ||| 0x60000080000000000000000000000000000000000000000000000000000000000000000000000040 = m) (k : Nat) (b : Nat)
    (h₀ : Within m s₀ s) : Within m s₀ (State.endWait s k b) := by
  unfold State.endWait
  repeat' first
    | with_reducible assumption | with_reducible intro _ | with_reducible apply within_State_modStrand (Mask.sub hm rfl)
    | with_reducible apply within_State_setSqState (Mask.sub hm rfl) | with_reducible apply within_State_heldFor (Mask.sub hm rfl)
    | with_reducible refine Within.each ?_ ?_
    | (with_reducible refine Within.mk ?_ ?hk
       case hk => (repeat' apply And.intro) <;> first | with_reducible exact .inr rfl | exact .inl (Mask.bit hm rfl)
       first
        | with_reducible assumption | with_reducible apply within_State_modStrand (Mask.sub hm rfl)
        | with_reducible apply within_State_setSqState (Mask.sub hm rfl) | with_reducible apply within_State_heldFor (Mask.sub hm rfl)
        | with_reducible refine Within.each ?_ ?_)

theorem within_State_waitStep {m : Nat} {s₀ s : State}
    (hm : m ||| 0x800002000000000FD01080E00001BF000008000000E185E78007800E000000001000000020000200000702000B3400040020000000382204203003FFFFFFFF = m)
    (k : Nat) (from_ : Nat) (h₀ : Within m s₀ s) : Within m s₀ (State.waitStep s k from_) := by
  unfold State.waitStep
  repeat' first
    | with_reducible assumption | with_reducible intro _ | with_reducible apply within_State_modStrand (Mask.sub hm rfl)
    | with_reducible apply within_State_stopFlow (Mask.sub hm rfl) | with_reducible apply within_State_issue (Mask.sub hm rfl)
    | with_reducible apply within_State_goOn (Mask.sub hm rfl) | with_reducible refine Within.each ?_ ?_
    | with_reducible refine Within.snd (by assumption) ?_ | with_reducible refine Within.fst (by assumption) ?_
    | exact Touch.any (Mask.bit hm rfl) | with_reducible refine Within.ite ?_ ?_ | split | (extract_lets; split)
    | (with_reducible refine Within.mk ?_ ?hk
       case hk => (repeat' apply And.intro) <;> first | with_reducible exact .inr rfl | exact .inl (Mask.bit hm rfl)
       first
        | with_reducible assumption | with_reducible apply within_State_modStrand (Mask.sub hm rfl)
        | with_reducible apply within_State_stopFlow (Mask.sub hm rfl) | with_reducible apply within_State_issue (Mask.sub hm rfl)
        | with_reducible apply within_State_goOn (Mask.sub hm rfl) | with_reducible refine Within.each ?_ ?_
        | with_reducible refine Within.snd (by assumption) ?_ | with_reducible refine Within.fst (by assumption) ?_
        | with_reducible refine Within.ite ?_ ?_ | split | (extract_lets; split)
        | (with_reducible refine Within.mk ?_ ?hk
           case hk => (repeat' apply And.intro) <;> first | with_reducible exact .inr rfl | exact .inl (Mask.bit hm rfl)
           first
            | with_reducible assumption | with_reducible apply within_State_modStrand (Mask.sub hm rfl)
            | with_reducible apply within_State_stopFlow (Mask.sub hm rfl) | with_reducible apply within_State_issue (Mask.sub hm rfl)
            | with_reducible apply within_State_goOn (Mask.sub hm rfl) | with_reducible refine Within.each ?_ ?_
            | with_reducible refine Within.snd (by assumption) ?_ | with_reducible refine Within.fst (by assumption) ?_
            | with_reducible refine Within.ite ?_ ?_ | split | (extract_lets; split)))

theorem within_State_takeSlack {m : Nat} {s₀ s : State}
    (hm : m ||| 0x80000000000000000000000000000000000000000000000000000000000000000000000040 = m) (k : Nat) (d : Nat)
    (h₀ : Within m s₀ s) : Within m s₀ (State.takeSlack s k d).2 := by
  unfold State.takeSlack
  repeat' first
    | with_reducible assumption | with_reducible intro _ | with_reducible apply within_State_setFld
    | with_reducible apply within_State_modStrand (Mask.sub hm rfl) | with_reducible refine Within.snd (by assumption) ?_
    | with_reducible refine Within.fst (by assumption) ?_ | exact touch_SQ_STATE (Mask.bit hm rfl) _
    | with_reducible refine Within.ite ?_ ?_ | split | (extract_lets; split)
    | (with_reducible refine Within.mk ?_ ?hk
       case hk => (repeat' apply And.intro) <;> first | with_reducible exact .inr rfl | exact .inl (Mask.bit hm rfl)
       first
        | with_reducible assumption | with_reducible apply within_State_setFld
        | with_reducible apply within_State_modStrand (Mask.sub hm rfl) | with_reducible refine Within.snd (by assumption) ?_
        | with_reducible refine Within.fst (by assumption) ?_ | with_reducible refine Within.ite ?_ ?_ | split | (extract_lets; split)
        | (with_reducible refine Within.mk ?_ ?hk
           case hk => (repeat' apply And.intro) <;> first | with_reducible exact .inr rfl | exact .inl (Mask.bit hm rfl)
           first
            | with_reducible assumption | with_reducible apply within_State_setFld
            | with_reducible apply within_State_modStrand (Mask.sub hm rfl) | with_reducible refine Within.snd (by assumption) ?_
            | with_reducible refine Within.fst (by assumption) ?_ | with_reducible refine Within.ite ?_ ?_ | split
            | (extract_lets; split)))

theorem within_execWaitSlack {m : Nat} {s₀ s : State}
    (hm : m ||| 0x800002000000000FD01080E00001BF000008000000E185FF8007800E000000001000000020000200000702000B3400040020000000382204243003FFFFFFFF = m)
    (k : Fin 192) (h₀ : Within m s₀ s) : AnswersWithin m s₀ (execWaitSlack k s) := by
  unfold execWaitSlack
  repeat' first
    | with_reducible assumption | with_reducible refine AnswersWithin.next ?_ | with_reducible refine AnswersWithin.ite ?_ ?_
    | with_reducible intro _ | with_reducible apply within_State_raise | with_reducible apply within_State_evalSync (Mask.sub hm rfl)
    | with_reducible apply within_State_stopFlow (Mask.sub hm rfl) | with_reducible apply within_State_stepWord (Mask.sub hm rfl)
    | with_reducible apply within_State_plainStep (Mask.sub hm rfl) | with_reducible apply within_State_beginWait (Mask.sub hm rfl)
    | with_reducible apply within_State_takeSlack (Mask.sub hm rfl) | with_reducible refine Within.snd (by assumption) ?_
    | with_reducible refine Within.fst (by assumption) ?_ | exact touch_SQ_STAT (Mask.bit hm rfl) _ | exact Touch.any (Mask.bit hm rfl)
    | with_reducible refine Within.ite ?_ ?_ | split | (extract_lets; split)

theorem within_execSlackWaitDone {m : Nat} {s₀ s : State}
    (hm : m ||| 0x800002000000000FD01080E00001BF000008000000E185E78007800E000000001000000020000200000702000B3400040020000000382204203003FFFFFFFF = m)
    (k : Fin 192) (h₀ : Within m s₀ s) : AnswersWithin m s₀ (execSlackWaitDone k s) := by
  unfold execSlackWaitDone
  repeat' first
    | with_reducible assumption | with_reducible refine AnswersWithin.next ?_
    | with_reducible apply within_State_endWait (Mask.sub hm rfl) | with_reducible apply within_State_waitStep (Mask.sub hm rfl)
    | with_reducible refine Within.snd (by assumption) ?_ | with_reducible refine Within.fst (by assumption) ?_
    | exact Touch.any (Mask.bit hm rfl) | with_reducible refine Within.ite ?_ ?_ | split | (extract_lets; split)

theorem within_State_rejoin {m : Nat} {s₀ s : State}
    (hm : m ||| 0x60000080000000000005000000000000000000000000000000000000000000000000000000000040 = m) (k : Nat) (b : Nat)
    (h₀ : Within m s₀ s) : Within m s₀ (State.rejoin s k b) := by
  unfold State.rejoin
  repeat' first
    | with_reducible assumption | with_reducible intro _ | with_reducible apply within_State_raise
    | with_reducible apply within_State_modStrand (Mask.sub hm rfl) | with_reducible apply within_State_setRole (Mask.sub hm rfl)
    | with_reducible apply within_State_setSqState (Mask.sub hm rfl) | with_reducible apply within_State_heldFor (Mask.sub hm rfl)
    | exact touch_LB_STAT (Mask.bit hm rfl) _
    | (with_reducible refine Within.mk ?_ ?hk
       case hk => (repeat' apply And.intro) <;> first | with_reducible exact .inr rfl | exact .inl (Mask.bit hm rfl)
       first
        | with_reducible assumption | with_reducible apply within_State_raise
        | with_reducible apply within_State_modStrand (Mask.sub hm rfl) | with_reducible apply within_State_setRole (Mask.sub hm rfl)
        | with_reducible apply within_State_setSqState (Mask.sub hm rfl) | with_reducible apply within_State_heldFor (Mask.sub hm rfl))

theorem within_execLashSyncMet {m : Nat} {s₀ s : State}
    (hm : m ||| 0x800002000000000FD01080E00001BF000008000000E185E78007800E000000001500000020000200000702000B3400040020000000382204203003FFFFFFFF = m)
    (k : Fin 192) (h₀ : Within m s₀ s) : AnswersWithin m s₀ (execLashSyncMet k s) := by
  unfold execLashSyncMet
  repeat' first
    | with_reducible assumption | with_reducible refine AnswersWithin.next ?_ | with_reducible intro _
    | with_reducible apply within_State_endWait (Mask.sub hm rfl) | with_reducible apply within_State_waitStep (Mask.sub hm rfl)
    | with_reducible apply within_State_rejoin (Mask.sub hm rfl) | with_reducible refine Within.each ?_ ?_
    | with_reducible refine Within.snd (by assumption) ?_ | with_reducible refine Within.fst (by assumption) ?_
    | exact Touch.any (Mask.bit hm rfl) | with_reducible refine Within.ite ?_ ?_ | split | (extract_lets; split)

theorem within_execSyncTo {m : Nat} {s₀ s : State}
    (hm : m ||| 0x800002000000000F901080E00000870000080000000181E000078002000000001400000020000200000702000B3400040020000000382204203003FFFFFFFF = m)
    (k : Fin 192) (h₀ : Within m s₀ s) : AnswersWithin m s₀ (execSyncTo k s) := by
  unfold execSyncTo
  repeat' first
    | with_reducible assumption | with_reducible refine AnswersWithin.next ?_ | with_reducible intro _
    | with_reducible apply Within.advanceTo _ (Mask.bit hm rfl) | with_reducible apply within_State_raise
    | with_reducible apply within_State_stopFlow (Mask.sub hm rfl) | with_reducible refine Within.each ?_ ?_
    | with_reducible refine Within.snd (by assumption) ?_ | with_reducible refine Within.fst (by assumption) ?_
    | exact touch_LB_STAT (Mask.bit hm rfl) _ | exact Touch.any (Mask.bit hm rfl) | with_reducible refine Within.ite ?_ ?_ | split
    | (extract_lets; split)

theorem within_State_touchdown {m : Nat} {s₀ s : State} (hm : m ||| 0x200000000000000000000000000000000000000000000080400000 = m)
    (j : Nat) (h₀ : Within m s₀ s) : Within m s₀ (State.touchdown s j) := by
  unfold State.touchdown
  repeat' first
    | with_reducible assumption | with_reducible intro _ | with_reducible apply within_State_life (Mask.sub hm rfl)
    | with_reducible refine Within.ite ?_ ?_ | split | (extract_lets; split)
    | (with_reducible refine Within.mk ?_ ?hk
       case hk => (repeat' apply And.intro) <;> first | with_reducible exact .inr rfl | exact .inl (Mask.bit hm rfl)
       first
        | with_reducible assumption | with_reducible apply within_State_life (Mask.sub hm rfl) | with_reducible refine Within.ite ?_ ?_
        | split | (extract_lets; split)
        | (with_reducible refine Within.mk ?_ ?hk
           case hk => (repeat' apply And.intro) <;> first | with_reducible exact .inr rfl | exact .inl (Mask.bit hm rfl)
           first
            | with_reducible assumption | with_reducible apply within_State_life (Mask.sub hm rfl)
            | with_reducible refine Within.ite ?_ ?_ | split | (extract_lets; split)))

theorem within_State_startMember {m : Nat} {s₀ s : State}
    (hm : m ||| 0x200000000002080000000000003000000200000000000000000000000000000000000000000000080400040 = m) (j : Nat)
    (leader : Nat) (b : Nat) (h₀ : Within m s₀ s) : Within m s₀ (State.startMember s j leader b) := by
  unfold State.startMember
  repeat' first
    | with_reducible assumption | with_reducible intro _ | with_reducible apply Within.wr | with_reducible apply within_State_setFld
    | with_reducible apply within_State_modStrand (Mask.sub hm rfl) | with_reducible apply within_State_setRole (Mask.sub hm rfl)
    | with_reducible apply within_State_alpgStart (Mask.sub hm rfl) | with_reducible apply within_State_setSqState (Mask.sub hm rfl)
    | with_reducible apply within_State_touchdown (Mask.sub hm rfl) | with_reducible refine Within.snd (by assumption) ?_
    | with_reducible refine Within.fst (by assumption) ?_ | exact touch_FL_STAT (Mask.bit hm rfl) _
    | exact touch_LB_MATCH (Mask.bit hm rfl) _ _ (by omega) | exact touch_SQ_MATCH (Mask.bit hm rfl) _
    | with_reducible refine Within.ite ?_ ?_ | split | (extract_lets; split)
    | (with_reducible refine Within.mk ?_ ?hk
       case hk => (repeat' apply And.intro) <;> first | with_reducible exact .inr rfl | exact .inl (Mask.bit hm rfl)
       first
        | with_reducible assumption | with_reducible apply Within.wr | with_reducible apply within_State_setFld
        | with_reducible apply within_State_modStrand (Mask.sub hm rfl) | with_reducible apply within_State_setRole (Mask.sub hm rfl)
        | with_reducible apply within_State_alpgStart (Mask.sub hm rfl)
        | with_reducible apply within_State_setSqState (Mask.sub hm rfl)
        | with_reducible apply within_State_touchdown (Mask.sub hm rfl) | with_reducible refine Within.snd (by assumption) ?_
        | with_reducible refine Within.fst (by assumption) ?_ | with_reducible refine Within.ite ?_ ?_ | split | (extract_lets; split))

theorem within_State_resumeAt {m : Nat} {s₀ s : State}
    (hm : m ||| 0x800002000000000F901080E00000870000080000000181E000078002000000001000000020000200000702000B3400040020000000382204203003FFFFFFFF = m)
    (k : Nat) (b : Nat) (h₀ : Within m s₀ s) : Within m s₀ (State.resumeAt s k b) := by
  unfold State.resumeAt
  repeat' first
    | with_reducible assumption | with_reducible intro _ | with_reducible apply within_State_modStrand (Mask.sub hm rfl)
    | with_reducible apply within_State_lookahead (Mask.sub hm rfl) | with_reducible apply within_State_addLed
    | with_reducible apply within_State_setSqState (Mask.sub hm rfl) | with_reducible apply within_State_setSqPos (Mask.sub hm rfl)
    | with_reducible apply within_State_stopFlow (Mask.sub hm rfl) | with_reducible apply within_State_putNext (Mask.sub hm rfl)
    | with_reducible refine Within.each ?_ ?_ | with_reducible refine Within.snd (by assumption) ?_
    | with_reducible refine Within.fst (by assumption) ?_ | exact touch_SQ_PARK_TIME_HI (Mask.bit hm rfl) _
    | exact touch_SQ_PARK_TIME_LO (Mask.bit hm rfl) _ | exact Touch.any (Mask.bit hm rfl) | with_reducible refine Within.ite ?_ ?_
    | split | (extract_lets; split)
    | (with_reducible refine Within.mk ?_ ?hk
       case hk => (repeat' apply And.intro) <;> first | with_reducible exact .inr rfl | exact .inl (Mask.bit hm rfl)
       first
        | with_reducible assumption | with_reducible apply within_State_modStrand (Mask.sub hm rfl)
        | with_reducible apply within_State_lookahead (Mask.sub hm rfl) | with_reducible apply within_State_addLed
        | with_reducible apply within_State_setSqState (Mask.sub hm rfl) | with_reducible apply within_State_setSqPos (Mask.sub hm rfl)
        | with_reducible apply within_State_stopFlow (Mask.sub hm rfl) | with_reducible apply within_State_putNext (Mask.sub hm rfl)
        | with_reducible refine Within.each ?_ ?_ | with_reducible refine Within.snd (by assumption) ?_
        | with_reducible refine Within.fst (by assumption) ?_ | with_reducible refine Within.ite ?_ ?_ | split | (extract_lets; split)
        | (with_reducible refine Within.mk ?_ ?hk
           case hk => (repeat' apply And.intro) <;> first | with_reducible exact .inr rfl | exact .inl (Mask.bit hm rfl)
           first
            | with_reducible assumption | with_reducible apply within_State_modStrand (Mask.sub hm rfl)
            | with_reducible apply within_State_lookahead (Mask.sub hm rfl) | with_reducible apply within_State_addLed
            | with_reducible apply within_State_setSqState (Mask.sub hm rfl)
            | with_reducible apply within_State_setSqPos (Mask.sub hm rfl)
            | with_reducible apply within_State_stopFlow (Mask.sub hm rfl)
            | with_reducible apply within_State_putNext (Mask.sub hm rfl) | with_reducible refine Within.each ?_ ?_
            | with_reducible refine Within.snd (by assumption) ?_ | with_reducible refine Within.fst (by assumption) ?_
            | with_reducible refine Within.ite ?_ ?_ | split | (extract_lets; split)))

theorem within_execRunStart {m : Nat} {s₀ s : State}
    (hm : m ||| 0x800002000000000F901080E00000870000080002000181E000278002000000001300000020000200000702000B3400040020000000382204203003FFFFFFFF = m)
    (k : Fin 192) (h₀ : Within m s₀ s) : AnswersWithin m s₀ (execRunStart k s) := by
  unfold execRunStart
  repeat' first
    | with_reducible assumption | with_reducible refine AnswersWithin.next ?_ | with_reducible refine AnswersWithin.ite ?_ ?_
    | with_reducible intro _ | with_reducible apply Within.advanceTo _ (Mask.bit hm rfl)
    | with_reducible apply within_State_modStrand (Mask.sub hm rfl) | with_reducible apply within_State_showMarks (Mask.sub hm rfl)
    | with_reducible apply within_State_fireBound (Mask.sub hm rfl) | with_reducible apply within_State_lookahead (Mask.sub hm rfl)
    | with_reducible apply within_State_abortRun (Mask.sub hm rfl) | with_reducible apply within_State_startMember (Mask.sub hm rfl)
    | with_reducible apply within_State_resumeAt (Mask.sub hm rfl) | with_reducible refine Within.each ?_ ?_
    | with_reducible refine Within.snd (by assumption) ?_ | with_reducible refine Within.fst (by assumption) ?_
    | exact Touch.any (Mask.bit hm rfl) | with_reducible refine Within.ite ?_ ?_ | split | (extract_lets; split)
    | (with_reducible refine Within.mk ?_ ?hk
       case hk => (repeat' apply And.intro) <;> first | with_reducible exact .inr rfl | exact .inl (Mask.bit hm rfl)
       first
        | with_reducible assumption | with_reducible apply Within.advanceTo _ (Mask.bit hm rfl)
        | with_reducible apply within_State_modStrand (Mask.sub hm rfl) | with_reducible apply within_State_showMarks (Mask.sub hm rfl)
        | with_reducible apply within_State_fireBound (Mask.sub hm rfl) | with_reducible apply within_State_lookahead (Mask.sub hm rfl)
        | with_reducible apply within_State_abortRun (Mask.sub hm rfl)
        | with_reducible apply within_State_startMember (Mask.sub hm rfl)
        | with_reducible apply within_State_resumeAt (Mask.sub hm rfl) | with_reducible refine Within.each ?_ ?_
        | with_reducible refine Within.snd (by assumption) ?_ | with_reducible refine Within.fst (by assumption) ?_
        | with_reducible refine Within.ite ?_ ?_ | split | (extract_lets; split)
        | (with_reducible refine Within.mk ?_ ?hk
           case hk => (repeat' apply And.intro) <;> first | with_reducible exact .inr rfl | exact .inl (Mask.bit hm rfl)
           first
            | with_reducible assumption | with_reducible apply Within.advanceTo _ (Mask.bit hm rfl)
            | with_reducible apply within_State_modStrand (Mask.sub hm rfl)
            | with_reducible apply within_State_showMarks (Mask.sub hm rfl)
            | with_reducible apply within_State_fireBound (Mask.sub hm rfl)
            | with_reducible apply within_State_lookahead (Mask.sub hm rfl)
            | with_reducible apply within_State_abortRun (Mask.sub hm rfl)
            | with_reducible apply within_State_startMember (Mask.sub hm rfl)
            | with_reducible apply within_State_resumeAt (Mask.sub hm rfl) | with_reducible refine Within.each ?_ ?_
            | with_reducible refine Within.snd (by assumption) ?_ | with_reducible refine Within.fst (by assumption) ?_
            | with_reducible refine Within.ite ?_ ?_ | split | (extract_lets; split)))

theorem within_State_clearSteps {m : Nat} {s₀ s : State}
    (hm : m ||| 0x8000000000000000000000000000000000000000000000000000000000000000000200000000 = m) (k : Nat) (h₀ : Within m s₀ s) :
    Within m s₀ (State.clearSteps s k) := by
  unfold State.clearSteps
  repeat' first
    | with_reducible assumption | with_reducible intro _ | with_reducible apply Within.wr | with_reducible apply within_State_wr64
    | with_reducible refine Within.each ?_ ?_ | exact touch_SQ_SLIPS (Mask.bit hm rfl) _ | exact Touch.any (Mask.bit hm rfl)

theorem within_State_sqReject {m : Nat} {s₀ s : State}
    (hm : m ||| 0x100000000000000000000000000000000000000000000000000000000000000000000000000 = m) (k : Nat) (h₀ : Within m s₀ s) :
    Within m s₀ (State.sqReject s k) := by
  unfold State.sqReject
  repeat' first
    | with_reducible assumption | with_reducible apply within_State_raise | exact touch_SQ_STAT (Mask.bit hm rfl) _

theorem within_State_sqCommand {m : Nat} {s₀ s : State}
    (hm : m ||| 0x800002000000000F901080E00000870000080000000181E000878002000000001000000020000200000702000B3400040020000000382204203003FFFFFFFF = m)
    (k : Nat) (code : Nat) (h₀ : Within m s₀ s) : Within m s₀ (State.sqCommand s k code) := by
  unfold State.sqCommand
  repeat' first
    | with_reducible assumption | with_reducible apply Within.free (Mask.bit hm rfl) | with_reducible apply within_State_raise
    | with_reducible apply within_State_raiseStop (Mask.sub hm rfl) | with_reducible apply within_State_resumeAt (Mask.sub hm rfl)
    | with_reducible apply within_State_clearSteps (Mask.sub hm rfl) | with_reducible apply within_State_sqReject (Mask.sub hm rfl)
    | with_reducible refine Within.snd (by assumption) ?_ | with_reducible refine Within.fst (by assumption) ?_
    | exact Touch.any (Mask.bit hm rfl) | with_reducible refine Within.ite ?_ ?_ | split | (extract_lets; split)

theorem within_State_btAdvance {m : Nat} {s₀ s : State}
    (hm : m ||| 0x10000000000000000000000000000000000000000000000000000000000000000000000000000 = m) (k : Nat) (h₀ : Within m s₀ s) :
    Within m s₀ (State.btAdvance s k) := by
  unfold State.btAdvance
  repeat' first
    | with_reducible assumption | with_reducible apply within_State_setFld | exact touch_SQ_BT_ADDR (Mask.bit hm rfl) _
    | with_reducible refine Within.ite ?_ ?_ | split | (extract_lets; split)

theorem within_State_btWrite {m : Nat} {s₀ s : State}
    (hm : m ||| 0x10100000000000000000000000000000000000000000000000000000000000000000000000040 = m) (k : Nat) (al : Alias) (d : Word)
    (h₀ : Within m s₀ s) : Within m s₀ (State.btWrite s k al d) := by
  unfold State.btWrite
  repeat' first
    | with_reducible assumption | with_reducible intro _ | with_reducible apply within_State_raise
    | with_reducible apply within_State_modStrand (Mask.sub hm rfl) | with_reducible apply within_State_btAdvance (Mask.sub hm rfl)
    | exact touch_SQ_STAT (Mask.bit hm rfl) _ | with_reducible refine Within.ite ?_ ?_ | split | (extract_lets; split)
    | (with_reducible refine Within.mk ?_ ?hk
       case hk => (repeat' apply And.intro) <;> first | with_reducible exact .inr rfl | exact .inl (Mask.bit hm rfl)
       first
        | with_reducible assumption | with_reducible apply within_State_raise
        | with_reducible apply within_State_modStrand (Mask.sub hm rfl) | with_reducible apply within_State_btAdvance (Mask.sub hm rfl)
        | with_reducible refine Within.ite ?_ ?_ | split | (extract_lets; split)
        | (with_reducible refine Within.mk ?_ ?hk
           case hk => (repeat' apply And.intro) <;> first | with_reducible exact .inr rfl | exact .inl (Mask.bit hm rfl)
           first
            | with_reducible assumption | with_reducible apply within_State_raise
            | with_reducible apply within_State_modStrand (Mask.sub hm rfl)
            | with_reducible apply within_State_btAdvance (Mask.sub hm rfl) | with_reducible refine Within.ite ?_ ?_ | split
            | (extract_lets; split)))

end Sys2Proof.Machine
end

