-- ==== Sys2Proof/Laws/SpliceCoreWithin.lean ====
section
/-! SUPPORT. What the definitions of Machine/SpliceCore.lean keep, and all that they may change (Laws/Within.lean). -/

namespace Sys2Proof.Machine

set_option linter.all false

theorem within_State_modLane {m : Nat} {s₀ s : State} (hm : m ||| 0x200000 = m) (l : Nat) (f : Lane → Lane) (h₀ : Within m s₀ s) :
    Within m s₀ (State.modLane s l f) := by
  unfold State.modLane
  repeat' first
    | with_reducible assumption
    | (with_reducible refine Within.mk ?_ ?hk
       case hk => (repeat' apply And.intro) <;> first | with_reducible exact .inr rfl | exact .inl (Mask.bit hm rfl)
       first
        | with_reducible assumption
        | (with_reducible refine Within.mk ?_ ?hk
           case hk => (repeat' apply And.intro) <;> first | with_reducible exact .inr rfl | exact .inl (Mask.bit hm rfl)
           first
            | with_reducible assumption))

theorem within_State_modCtx {m : Nat} {s₀ s : State} (hm : m ||| 0x200000 = m) (i : Nat) (f : Ctx → Ctx) (h₀ : Within m s₀ s) :
    Within m s₀ (State.modCtx s i f) := by
  unfold State.modCtx
  repeat' first
    | with_reducible assumption | with_reducible refine Within.snd (by assumption) ?_
    | with_reducible refine Within.fst (by assumption) ?_ | with_reducible refine Within.ite ?_ ?_ | split | (extract_lets; split)
    | (with_reducible refine Within.mk ?_ ?hk
       case hk => (repeat' apply And.intro) <;> first | with_reducible exact .inr rfl | exact .inl (Mask.bit hm rfl)
       first
        | with_reducible assumption | with_reducible refine Within.snd (by assumption) ?_
        | with_reducible refine Within.fst (by assumption) ?_ | with_reducible refine Within.ite ?_ ?_ | split | (extract_lets; split)
        | (with_reducible refine Within.mk ?_ ?hk
           case hk => (repeat' apply And.intro) <;> first | with_reducible exact .inr rfl | exact .inl (Mask.bit hm rfl)
           first
            | with_reducible assumption | with_reducible refine Within.snd (by assumption) ?_
            | with_reducible refine Within.fst (by assumption) ?_ | with_reducible refine Within.ite ?_ ?_ | split
            | (extract_lets; split)))

theorem within_State_makeRoom {m : Nat} {s₀ s : State} (hm : m ||| 0x200000 = m) (l : Nat) (h₀ : Within m s₀ s) :
    Within m s₀ (State.makeRoom s l) := by
  unfold State.makeRoom
  repeat' first
    | with_reducible assumption | with_reducible intro _ | with_reducible refine Within.snd (by assumption) ?_
    | with_reducible refine Within.fst (by assumption) ?_ | with_reducible refine Within.ite ?_ ?_ | split | (extract_lets; split)
    | (with_reducible refine Within.mk ?_ ?hk
       case hk => (repeat' apply And.intro) <;> first | with_reducible exact .inr rfl | exact .inl (Mask.bit hm rfl)
       first
        | with_reducible assumption | with_reducible refine Within.snd (by assumption) ?_
        | with_reducible refine Within.fst (by assumption) ?_ | with_reducible refine Within.ite ?_ ?_ | split | (extract_lets; split)
        | (with_reducible refine Within.mk ?_ ?hk
           case hk => (repeat' apply And.intro) <;> first | with_reducible exact .inr rfl | exact .inl (Mask.bit hm rfl)
           first
            | with_reducible assumption | with_reducible refine Within.snd (by assumption) ?_
            | with_reducible refine Within.fst (by assumption) ?_ | with_reducible refine Within.ite ?_ ?_ | split
            | (extract_lets; split)))

theorem within_State_newCtx {m : Nat} {s₀ s : State} (hm : m ||| 0x80000000000000200000 = m) (c : Ctx) (h₀ : Within m s₀ s) :
    Within m s₀ (State.newCtx s c).2 := by
  unfold State.newCtx
  repeat' first
    | with_reducible assumption | with_reducible apply Within.free (Mask.bit hm rfl) | with_reducible apply within_State_raise
    | with_reducible apply within_State_makeRoom (Mask.sub hm rfl) | exact touch_SP_STAT (Mask.bit hm rfl)
    | with_reducible refine Within.ite ?_ ?_ | split | (extract_lets; split)
    | (with_reducible refine Within.mk ?_ ?hk
       case hk => (repeat' apply And.intro) <;> first | with_reducible exact .inr rfl | exact .inl (Mask.bit hm rfl)
       first
        | with_reducible assumption | with_reducible apply Within.free (Mask.bit hm rfl) | with_reducible apply within_State_raise
        | with_reducible apply within_State_makeRoom (Mask.sub hm rfl) | with_reducible refine Within.ite ?_ ?_ | split
        | (extract_lets; split)
        | (with_reducible refine Within.mk ?_ ?hk
           case hk => (repeat' apply And.intro) <;> first | with_reducible exact .inr rfl | exact .inl (Mask.bit hm rfl)
           first
            | with_reducible assumption | with_reducible apply Within.free (Mask.bit hm rfl) | with_reducible apply within_State_raise
            | with_reducible apply within_State_makeRoom (Mask.sub hm rfl) | with_reducible refine Within.ite ?_ ?_ | split
            | (extract_lets; split)))

theorem within_State_needCtx {m : Nat} {s₀ s : State} (hm : m ||| 0x80000000000000200000 = m) (kind : CtxKind) (l : Nat) (d : Nat)
    (g : Nat) (line : Nat) (h₀ : Within m s₀ s) : Within m s₀ (State.needCtx s kind l d g line).2 := by
  unfold State.needCtx
  repeat' first
    | with_reducible assumption | with_reducible apply within_State_newCtx (Mask.sub hm rfl)
    | with_reducible refine Within.snd (by assumption) ?_ | with_reducible refine Within.fst (by assumption) ?_
    | with_reducible refine Within.ite ?_ ?_ | split | (extract_lets; split)

theorem within_State_ctxLost {m : Nat} {s₀ s : State} (hm : m ||| 0x200000 = m) (l : Nat) (d : Nat) (h₀ : Within m s₀ s) :
    Within m s₀ (State.ctxLost s l d) := by
  unfold State.ctxLost
  repeat' first
    | with_reducible assumption | with_reducible intro _ | with_reducible apply within_State_modLane (Mask.sub hm rfl)
    | with_reducible apply within_State_modCtx (Mask.sub hm rfl) | with_reducible refine Within.snd (by assumption) ?_
    | with_reducible refine Within.fst (by assumption) ?_ | with_reducible refine Within.ite ?_ ?_ | split | (extract_lets; split)
    | (with_reducible refine Within.mk ?_ ?hk
       case hk => (repeat' apply And.intro) <;> first | with_reducible exact .inr rfl | exact .inl (Mask.bit hm rfl)
       first
        | with_reducible assumption | with_reducible apply within_State_modLane (Mask.sub hm rfl)
        | with_reducible apply within_State_modCtx (Mask.sub hm rfl) | with_reducible refine Within.snd (by assumption) ?_
        | with_reducible refine Within.fst (by assumption) ?_ | with_reducible refine Within.ite ?_ ?_ | split | (extract_lets; split)
        | (with_reducible refine Within.mk ?_ ?hk
           case hk => (repeat' apply And.intro) <;> first | with_reducible exact .inr rfl | exact .inl (Mask.bit hm rfl)
           first
            | with_reducible assumption | with_reducible apply within_State_modLane (Mask.sub hm rfl)
            | with_reducible apply within_State_modCtx (Mask.sub hm rfl) | with_reducible refine Within.snd (by assumption) ?_
            | with_reducible refine Within.fst (by assumption) ?_ | with_reducible refine Within.ite ?_ ?_ | split
            | (extract_lets; split)))

theorem within_State_freeDie {m : Nat} {s₀ s : State} (hm : m ||| 0x200000 = m) (d : Nat) (h₀ : Within m s₀ s) :
    Within m s₀ (State.freeDie s d) := by
  unfold State.freeDie
  repeat' first
    | with_reducible assumption | with_reducible intro _ | with_reducible refine Within.ite ?_ ?_ | split | (extract_lets; split)
    | (with_reducible refine Within.mk ?_ ?hk
       case hk => (repeat' apply And.intro) <;> first | with_reducible exact .inr rfl | exact .inl (Mask.bit hm rfl)
       first
        | with_reducible assumption | with_reducible refine Within.ite ?_ ?_ | split | (extract_lets; split)
        | (with_reducible refine Within.mk ?_ ?hk
           case hk => (repeat' apply And.intro) <;> first | with_reducible exact .inr rfl | exact .inl (Mask.bit hm rfl)
           first
            | with_reducible assumption | with_reducible refine Within.ite ?_ ?_ | split | (extract_lets; split)))

theorem within_State_foldLine {m : Nat} {s₀ s : State} (hm : m ||| 0x200000 = m) (i : Nat) (g : Nat) (limit : Nat) (hits : Nat)
    (x : Nat) (isRow : Bool) (h₀ : Within m s₀ s) : Within m s₀ (State.foldLine s i g limit hits x isRow) := by
  unfold State.foldLine
  repeat' first
    | with_reducible assumption | with_reducible intro _ | with_reducible apply within_State_modCtx (Mask.sub hm rfl)
    | with_reducible refine Within.snd (by assumption) ?_ | with_reducible refine Within.fst (by assumption) ?_
    | with_reducible refine Within.ite ?_ ?_ | split | (extract_lets; split)
    | (with_reducible refine Within.mk ?_ ?hk
       case hk => (repeat' apply And.intro) <;> first | with_reducible exact .inr rfl | exact .inl (Mask.bit hm rfl)
       first
        | with_reducible assumption | with_reducible apply within_State_modCtx (Mask.sub hm rfl)
        | with_reducible refine Within.snd (by assumption) ?_ | with_reducible refine Within.fst (by assumption) ?_
        | with_reducible refine Within.ite ?_ ?_ | split | (extract_lets; split)
        | (with_reducible refine Within.mk ?_ ?hk
           case hk => (repeat' apply And.intro) <;> first | with_reducible exact .inr rfl | exact .inl (Mask.bit hm rfl)
           first
            | with_reducible assumption | with_reducible apply within_State_modCtx (Mask.sub hm rfl)
            | with_reducible refine Within.snd (by assumption) ?_ | with_reducible refine Within.fst (by assumption) ?_
            | with_reducible refine Within.ite ?_ ?_ | split | (extract_lets; split)))

theorem within_State_needLine {m : Nat} {s₀ s : State} (hm : m ||| 0x80000000000000200000 = m) (kind : CtxKind) (l : Nat) (d : Nat)
    (g : Nat) (line : Nat) (seg : Nat) (h₀ : Within m s₀ s) : Within m s₀ (State.needLine s kind l d g line seg).2 := by
  unfold State.needLine
  repeat' first
    | with_reducible assumption | with_reducible intro _ | with_reducible apply within_State_modCtx (Mask.sub hm rfl)
    | with_reducible apply within_State_newCtx (Mask.sub hm rfl) | with_reducible refine Within.snd (by assumption) ?_
    | with_reducible refine Within.fst (by assumption) ?_ | with_reducible refine Within.ite ?_ ?_ | split | (extract_lets; split)
    | (with_reducible refine Within.mk ?_ ?hk
       case hk => (repeat' apply And.intro) <;> first | with_reducible exact .inr rfl | exact .inl (Mask.bit hm rfl)
       first
        | with_reducible assumption | with_reducible apply within_State_modCtx (Mask.sub hm rfl)
        | with_reducible apply within_State_newCtx (Mask.sub hm rfl) | with_reducible refine Within.snd (by assumption) ?_
        | with_reducible refine Within.fst (by assumption) ?_ | with_reducible refine Within.ite ?_ ?_ | split | (extract_lets; split)
        | (with_reducible refine Within.mk ?_ ?hk
           case hk => (repeat' apply And.intro) <;> first | with_reducible exact .inr rfl | exact .inl (Mask.bit hm rfl)
           first
            | with_reducible assumption | with_reducible apply within_State_modCtx (Mask.sub hm rfl)
            | with_reducible apply within_State_newCtx (Mask.sub hm rfl) | with_reducible refine Within.snd (by assumption) ?_
            | with_reducible refine Within.fst (by assumption) ?_ | with_reducible refine Within.ite ?_ ?_ | split
            | (extract_lets; split)))

theorem within_State_foldCells {m : Nat} {s₀ s : State} (hm : m ||| 0x8080000000000000200000 = m) (l : Nat) (d : Nat) (q : Geometry)
    (x : Cells) (h₀ : Within m s₀ s) : Within m s₀ (State.foldCells s l d q x) := by
  unfold State.foldCells
  repeat' first
    | with_reducible assumption | with_reducible intro _ | with_reducible apply Within.wr
    | with_reducible apply within_State_modCtx (Mask.sub hm rfl) | with_reducible apply within_State_needCtx (Mask.sub hm rfl)
    | with_reducible apply within_State_ctxLost (Mask.sub hm rfl) | with_reducible apply within_State_foldLine (Mask.sub hm rfl)
    | with_reducible apply within_State_needLine (Mask.sub hm rfl) | with_reducible refine Within.foldl _ ?_ ?_
    | with_reducible refine Within.foldlFst _ ?_ ?_ | with_reducible refine Within.foldlSnd _ ?_ ?_
    | with_reducible refine Within.snd (by assumption) ?_ | with_reducible refine Within.fst (by assumption) ?_
    | exact touch_SP_LOST (Mask.bit hm rfl) | with_reducible refine Within.ite ?_ ?_ | split | (extract_lets; split)
    | (with_reducible refine Within.mk ?_ ?hk
       case hk => (repeat' apply And.intro) <;> first | with_reducible exact .inr rfl | exact .inl (Mask.bit hm rfl)
       first
        | with_reducible assumption | with_reducible apply Within.wr | with_reducible apply within_State_modCtx (Mask.sub hm rfl)
        | with_reducible apply within_State_needCtx (Mask.sub hm rfl) | with_reducible apply within_State_ctxLost (Mask.sub hm rfl)
        | with_reducible apply within_State_foldLine (Mask.sub hm rfl) | with_reducible apply within_State_needLine (Mask.sub hm rfl)
        | with_reducible refine Within.foldl _ ?_ ?_ | with_reducible refine Within.foldlFst _ ?_ ?_
        | with_reducible refine Within.foldlSnd _ ?_ ?_ | with_reducible refine Within.snd (by assumption) ?_
        | with_reducible refine Within.fst (by assumption) ?_ | with_reducible refine Within.ite ?_ ?_ | split | (extract_lets; split)
        | (with_reducible refine Within.mk ?_ ?hk
           case hk => (repeat' apply And.intro) <;> first | with_reducible exact .inr rfl | exact .inl (Mask.bit hm rfl)
           first
            | with_reducible assumption | with_reducible apply Within.wr | with_reducible apply within_State_modCtx (Mask.sub hm rfl)
            | with_reducible apply within_State_needCtx (Mask.sub hm rfl) | with_reducible apply within_State_ctxLost (Mask.sub hm rfl)
            | with_reducible apply within_State_foldLine (Mask.sub hm rfl)
            | with_reducible apply within_State_needLine (Mask.sub hm rfl) | with_reducible refine Within.foldl _ ?_ ?_
            | with_reducible refine Within.foldlFst _ ?_ ?_ | with_reducible refine Within.foldlSnd _ ?_ ?_
            | with_reducible refine Within.snd (by assumption) ?_ | with_reducible refine Within.fst (by assumption) ?_
            | with_reducible refine Within.ite ?_ ?_ | split | (extract_lets; split)))

theorem within_State_foldEvent {m : Nat} {s₀ s : State} (hm : m ||| 0x8080000000000000200000 = m) (l : Nat) (e : LaneEv)
    (h₀ : Within m s₀ s) : Within m s₀ (State.foldEvent s l e) := by
  unfold State.foldEvent
  repeat' first
    | with_reducible assumption | with_reducible intro _ | with_reducible apply within_State_modCtx (Mask.sub hm rfl)
    | with_reducible apply within_State_foldCells (Mask.sub hm rfl) | with_reducible refine Within.snd (by assumption) ?_
    | with_reducible refine Within.fst (by assumption) ?_ | with_reducible refine Within.ite ?_ ?_ | split | (extract_lets; split)
    | (with_reducible refine Within.mk ?_ ?hk
       case hk => (repeat' apply And.intro) <;> first | with_reducible exact .inr rfl | exact .inl (Mask.bit hm rfl)
       first
        | with_reducible assumption | with_reducible apply within_State_modCtx (Mask.sub hm rfl)
        | with_reducible apply within_State_foldCells (Mask.sub hm rfl) | with_reducible refine Within.snd (by assumption) ?_
        | with_reducible refine Within.fst (by assumption) ?_ | with_reducible refine Within.ite ?_ ?_ | split | (extract_lets; split)
        | (with_reducible refine Within.mk ?_ ?hk
           case hk => (repeat' apply And.intro) <;> first | with_reducible exact .inr rfl | exact .inl (Mask.bit hm rfl)
           first
            | with_reducible assumption | with_reducible apply within_State_modCtx (Mask.sub hm rfl)
            | with_reducible apply within_State_foldCells (Mask.sub hm rfl) | with_reducible refine Within.snd (by assumption) ?_
            | with_reducible refine Within.fst (by assumption) ?_ | with_reducible refine Within.ite ?_ ?_ | split
            | (extract_lets; split)))

theorem within_State_foldOrWait {m : Nat} {s₀ s : State} (hm : m ||| 0x8080000000000000280000 = m) (l : Nat) (e : LaneEv)
    (h₀ : Within m s₀ s) : Within m s₀ (State.foldOrWait s l e) := by
  unfold State.foldOrWait
  repeat' first
    | with_reducible assumption | with_reducible intro _ | with_reducible apply within_State_modLane (Mask.sub hm rfl)
    | with_reducible apply within_State_foldEvent (Mask.sub hm rfl) | with_reducible refine Within.each ?_ ?_
    | with_reducible refine Within.ite ?_ ?_ | split | (extract_lets; split)
    | (with_reducible refine Within.mk ?_ ?hk
       case hk => (repeat' apply And.intro) <;> first | with_reducible exact .inr rfl | exact .inl (Mask.bit hm rfl)
       first
        | with_reducible assumption | with_reducible apply within_State_modLane (Mask.sub hm rfl)
        | with_reducible apply within_State_foldEvent (Mask.sub hm rfl) | with_reducible refine Within.each ?_ ?_
        | with_reducible refine Within.ite ?_ ?_ | split | (extract_lets; split)
        | (with_reducible refine Within.mk ?_ ?hk
           case hk => (repeat' apply And.intro) <;> first | with_reducible exact .inr rfl | exact .inl (Mask.bit hm rfl)
           first
            | with_reducible assumption | with_reducible apply within_State_modLane (Mask.sub hm rfl)
            | with_reducible apply within_State_foldEvent (Mask.sub hm rfl) | with_reducible refine Within.each ?_ ?_
            | with_reducible refine Within.ite ?_ ?_ | split | (extract_lets; split)))

theorem within_State_takeEvent {m : Nat} {s₀ s : State}
    (hm : m ||| 0x60000000000000000000000000000000000000000000000000000000000000000018080000000000000280000 = m) (l : Nat)
    (e : LaneEv) (h₀ : Within m s₀ s) : Within m s₀ (State.takeEvent s l e) := by
  unfold State.takeEvent
  repeat' first
    | with_reducible assumption | with_reducible apply Within.wr | with_reducible apply within_State_raise
    | with_reducible apply within_State_addLed | with_reducible apply within_State_needCtx (Mask.sub hm rfl)
    | with_reducible apply within_State_ctxLost (Mask.sub hm rfl) | with_reducible apply within_State_foldOrWait (Mask.sub hm rfl)
    | with_reducible refine Within.snd (by assumption) ?_ | with_reducible refine Within.fst (by assumption) ?_
    | exact touch_FL_FOLDED_HI (Mask.bit hm rfl) _ | exact touch_FL_FOLDED_LO (Mask.bit hm rfl) _
    | exact touch_SP_NODIE (Mask.bit hm rfl) | exact touch_SP_STAT (Mask.bit hm rfl) | with_reducible refine Within.ite ?_ ?_ | split
    | (extract_lets; split)

theorem within_State_foldWaiting {m : Nat} {s₀ s : State} (hm : m ||| 0x8080000000000000280000 = m) (l : Nat) (h₀ : Within m s₀ s) :
    Within m s₀ (State.foldWaiting s l) := by
  unfold State.foldWaiting
  repeat' first
    | with_reducible assumption | with_reducible intro _ | with_reducible apply within_State_modLane (Mask.sub hm rfl)
    | with_reducible apply within_State_foldOrWait (Mask.sub hm rfl) | with_reducible refine Within.foldl _ ?_ ?_
    | with_reducible refine Within.foldlFst _ ?_ ?_ | with_reducible refine Within.foldlSnd _ ?_ ?_
    | (with_reducible refine Within.mk ?_ ?hk
       case hk => (repeat' apply And.intro) <;> first | with_reducible exact .inr rfl | exact .inl (Mask.bit hm rfl)
       first
        | with_reducible assumption | with_reducible apply within_State_modLane (Mask.sub hm rfl)
        | with_reducible apply within_State_foldOrWait (Mask.sub hm rfl) | with_reducible refine Within.foldl _ ?_ ?_
        | with_reducible refine Within.foldlFst _ ?_ ?_ | with_reducible refine Within.foldlSnd _ ?_ ?_)

theorem within_State_ctxCrc {m : Nat} {s₀ s : State} (hm : m ||| 0x6080000000000001200000 = m) (l : Nat) (d : Nat) (g : Nat)
    (h₀ : Within m s₀ s) : Within m s₀ (State.ctxCrc s l d g) := by
  unfold State.ctxCrc
  repeat' first
    | with_reducible assumption | with_reducible intro _ | with_reducible apply Within.wr | with_reducible apply within_State_raise
    | with_reducible apply within_State_satAdd | with_reducible apply within_State_fault (Mask.sub hm rfl)
    | with_reducible apply within_State_modLane (Mask.sub hm rfl) | with_reducible apply within_State_modCtx (Mask.sub hm rfl)
    | with_reducible apply within_State_needCtx (Mask.sub hm rfl) | with_reducible apply within_State_ctxLost (Mask.sub hm rfl)
    | with_reducible refine Within.snd (by assumption) ?_ | with_reducible refine Within.fst (by assumption) ?_
    | exact touch_SP_CRC_CNT (Mask.bit hm rfl) | exact touch_SP_CRC_LOC (Mask.bit hm rfl) | exact touch_SP_STAT (Mask.bit hm rfl)
    | with_reducible refine Within.ite ?_ ?_ | split | (extract_lets; split)
    | (with_reducible refine Within.mk ?_ ?hk
       case hk => (repeat' apply And.intro) <;> first | with_reducible exact .inr rfl | exact .inl (Mask.bit hm rfl)
       first
        | with_reducible assumption | with_reducible apply Within.wr | with_reducible apply within_State_raise
        | with_reducible apply within_State_satAdd | with_reducible apply within_State_fault (Mask.sub hm rfl)
        | with_reducible apply within_State_modLane (Mask.sub hm rfl) | with_reducible apply within_State_modCtx (Mask.sub hm rfl)
        | with_reducible apply within_State_needCtx (Mask.sub hm rfl) | with_reducible apply within_State_ctxLost (Mask.sub hm rfl)
        | with_reducible refine Within.snd (by assumption) ?_ | with_reducible refine Within.fst (by assumption) ?_
        | with_reducible refine Within.ite ?_ ?_ | split | (extract_lets; split)
        | (with_reducible refine Within.mk ?_ ?hk
           case hk => (repeat' apply And.intro) <;> first | with_reducible exact .inr rfl | exact .inl (Mask.bit hm rfl)
           first
            | with_reducible assumption | with_reducible apply Within.wr | with_reducible apply within_State_raise
            | with_reducible apply within_State_satAdd | with_reducible apply within_State_fault (Mask.sub hm rfl)
            | with_reducible apply within_State_modLane (Mask.sub hm rfl) | with_reducible apply within_State_modCtx (Mask.sub hm rfl)
            | with_reducible apply within_State_needCtx (Mask.sub hm rfl) | with_reducible apply within_State_ctxLost (Mask.sub hm rfl)
            | with_reducible refine Within.snd (by assumption) ?_ | with_reducible refine Within.fst (by assumption) ?_
            | with_reducible refine Within.ite ?_ ?_ | split | (extract_lets; split)))

theorem within_State_modFinal {m : Nat} {s₀ s : State} (hm : m ||| 0x200000 = m) (d : Nat) (g : Final → Final) (h₀ : Within m s₀ s) :
    Within m s₀ (State.modFinal s d g) := by
  unfold State.modFinal
  repeat' first
    | with_reducible assumption | with_reducible intro _ | with_reducible refine Within.ite ?_ ?_ | split | (extract_lets; split)
    | (with_reducible refine Within.mk ?_ ?hk
       case hk => (repeat' apply And.intro) <;> first | with_reducible exact .inr rfl | exact .inl (Mask.bit hm rfl)
       first
        | with_reducible assumption | with_reducible refine Within.ite ?_ ?_ | split | (extract_lets; split)
        | (with_reducible refine Within.mk ?_ ?hk
           case hk => (repeat' apply And.intro) <;> first | with_reducible exact .inr rfl | exact .inl (Mask.bit hm rfl)
           first
            | with_reducible assumption | with_reducible refine Within.ite ?_ ?_ | split | (extract_lets; split)))

theorem within_State_formResult {m : Nat} {s₀ s : State} (hm : m ||| 0x208000 = m) (d : Nat) (h₀ : Within m s₀ s) :
    Within m s₀ (State.formResult s d) := by
  unfold State.formResult
  repeat' first
    | with_reducible assumption | with_reducible intro _ | with_reducible apply within_State_modFinal (Mask.sub hm rfl)
    | with_reducible refine Within.snd (by assumption) ?_ | with_reducible refine Within.fst (by assumption) ?_
    | with_reducible refine Within.ite ?_ ?_ | split | (extract_lets; split)
    | (with_reducible refine Within.mk ?_ ?hk
       case hk => (repeat' apply And.intro) <;> first | with_reducible exact .inr rfl | exact .inl (Mask.bit hm rfl)
       first
        | with_reducible assumption | with_reducible apply within_State_modFinal (Mask.sub hm rfl)
        | with_reducible refine Within.snd (by assumption) ?_ | with_reducible refine Within.fst (by assumption) ?_
        | with_reducible refine Within.ite ?_ ?_ | split | (extract_lets; split)
        | (with_reducible refine Within.mk ?_ ?hk
           case hk => (repeat' apply And.intro) <;> first | with_reducible exact .inr rfl | exact .inl (Mask.bit hm rfl)
           first
            | with_reducible assumption | with_reducible apply within_State_modFinal (Mask.sub hm rfl)
            | with_reducible refine Within.snd (by assumption) ?_ | with_reducible refine Within.fst (by assumption) ?_
            | with_reducible refine Within.ite ?_ ?_ | split | (extract_lets; split)))

theorem within_State_startFinal {m : Nat}
    (hm : m ||| 0x60000000000000000000000000000000000000000000000000000000000000000018080000000000000288000 = m) {s₀ s : State} (d : Nat) (h₀ : Within m s₀ s) :
    Within m s₀ (State.startFinal s d) := by
  unfold State.startFinal
  extract_lets r stop lanes f s1 s3 s4
  have h1 : Within m s₀ s1 := by
    refine Within.each (fun s l h => ?_) h₀
    extract_lets mine s2
    refine Within.foldl _ (fun _ _ h => within_State_takeEvent (Mask.sub hm rfl) _ _ h) ?_
    exact Within.ite h (within_State_modLane (Mask.sub hm rfl) _ _ h)
  have h3 : ∀ x, Within m s₀ x → Within m s₀ { x with splice := { x.splice with finals := x.splice.finals ++ [f] } } := by
    intro x h
    refine Within.mk h ?_
    (repeat' apply And.intro) <;> first | with_reducible exact .inr rfl | exact .inl (Mask.bit hm rfl)
  exact within_State_formResult (Mask.sub hm rfl) _ (within_State_modDie (Mask.sub hm rfl) _ _ (h3 _ h1))

end Sys2Proof.Machine
end

