-- ==== Sys2Proof/Laws/FailWithin.lean ====
section
/-! SUPPORT. What the definitions of Machine/Fail.lean keep, and all that they may change (Laws/Within.lean). -/

namespace Sys2Proof.Machine

set_option linter.all false

theorem within_State_flushMark {m : Nat} {s₀ s : State} (hm : m ||| 0x300040 = m) (k : Nat) (h₀ : Within m s₀ s) :
    Within m s₀ (State.flushMark s k) := by
  unfold State.flushMark
  repeat' first
    | with_reducible assumption | with_reducible intro _ | with_reducible apply within_State_modStrand (Mask.sub hm rfl)
    | with_reducible apply within_State_modDie (Mask.sub hm rfl) | with_reducible apply within_State_needBase (Mask.sub hm rfl)
    | with_reducible apply within_State_journalRec (Mask.sub hm rfl) | with_reducible refine Within.snd (by assumption) ?_
    | with_reducible refine Within.fst (by assumption) ?_ | with_reducible refine Within.ite ?_ ?_ | split | (extract_lets; split)
    | (with_reducible refine Within.mk ?_ ?hk
       case hk => (repeat' apply And.intro) <;> first | with_reducible exact .inr rfl | exact .inl (Mask.bit hm rfl)
       first
        | with_reducible assumption | with_reducible apply within_State_modStrand (Mask.sub hm rfl)
        | with_reducible apply within_State_modDie (Mask.sub hm rfl) | with_reducible apply within_State_needBase (Mask.sub hm rfl)
        | with_reducible apply within_State_journalRec (Mask.sub hm rfl) | with_reducible refine Within.snd (by assumption) ?_
        | with_reducible refine Within.fst (by assumption) ?_ | with_reducible refine Within.ite ?_ ?_ | split | (extract_lets; split)
        | (with_reducible refine Within.mk ?_ ?hk
           case hk => (repeat' apply And.intro) <;> first | with_reducible exact .inr rfl | exact .inl (Mask.bit hm rfl)
           first
            | with_reducible assumption | with_reducible apply within_State_modStrand (Mask.sub hm rfl)
            | with_reducible apply within_State_modDie (Mask.sub hm rfl) | with_reducible apply within_State_needBase (Mask.sub hm rfl)
            | with_reducible apply within_State_journalRec (Mask.sub hm rfl) | with_reducible refine Within.snd (by assumption) ?_
            | with_reducible refine Within.fst (by assumption) ?_ | with_reducible refine Within.ite ?_ ?_ | split
            | (extract_lets; split)))

theorem within_State_stopCapture {m : Nat} {s₀ s : State}
    (hm : m ||| 0xE00000000000000000000000000000000000000000000000000000000000000000000000000000001300040 = m) (k : Nat) (cause : Nat)
    (e : FailEvent) (r : StepRec) (h₀ : Within m s₀ s) : Within m s₀ (State.stopCapture s k cause e r) := by
  unfold State.stopCapture
  repeat' first
    | with_reducible assumption | with_reducible intro _ | with_reducible apply Within.wr | with_reducible apply within_State_raise
    | with_reducible apply within_State_modStrand (Mask.sub hm rfl) | with_reducible apply within_State_fault (Mask.sub hm rfl)
    | with_reducible apply within_State_flushMark (Mask.sub hm rfl) | exact touch_FL_OVF0 (Mask.bit hm rfl) _
    | exact touch_FL_OVF1 (Mask.bit hm rfl) _ | exact touch_FL_STAT (Mask.bit hm rfl) _
    | (with_reducible refine Within.mk ?_ ?hk
       case hk => (repeat' apply And.intro) <;> first | with_reducible exact .inr rfl | exact .inl (Mask.bit hm rfl)
       first
        | with_reducible assumption | with_reducible apply Within.wr | with_reducible apply within_State_raise
        | with_reducible apply within_State_modStrand (Mask.sub hm rfl) | with_reducible apply within_State_fault (Mask.sub hm rfl)
        | with_reducible apply within_State_flushMark (Mask.sub hm rfl))

theorem within_State_countOnly {m : Nat} {s₀ s : State}
    (hm : m ||| 0x600000000000000000000000000000000000000000000000000000000000000000000000000000000000000000 = m) (k : Nat)
    (h₀ : Within m s₀ s) : Within m s₀ (State.countOnly s k) := by
  unfold State.countOnly
  repeat' first
    | with_reducible assumption | with_reducible apply within_State_addLed | exact touch_FL_COUNTED_ONLY_HI (Mask.bit hm rfl) _
    | exact touch_FL_COUNTED_ONLY_LO (Mask.bit hm rfl) _

theorem within_execFailEvent {m : Nat} {s₀ s : State}
    (hm : m ||| 0x2618E00000000000000000000000000000000000000000000000000000000000000000000000000000001300040 = m) (k : Fin 192)
    (h₀ : Within m s₀ s) : AnswersWithin m s₀ (execFailEvent k s) := by
  unfold execFailEvent
  repeat' first
    | with_reducible assumption | with_reducible refine AnswersWithin.next ?_ | with_reducible intro _ | with_reducible apply Within.wr
    | with_reducible apply within_State_modStrand (Mask.sub hm rfl) | with_reducible apply within_State_addLed
    | with_reducible apply within_State_stopCapture (Mask.sub hm rfl) | with_reducible apply within_State_countOnly (Mask.sub hm rfl)
    | with_reducible refine Within.each ?_ ?_ | with_reducible refine Within.snd (by assumption) ?_
    | with_reducible refine Within.fst (by assumption) ?_ | exact touch_FL_PIN_FAIL (Mask.bit hm rfl) _ _ (by omega)
    | exact touch_FL_SEEN_HI (Mask.bit hm rfl) _ | exact touch_FL_SEEN_LO (Mask.bit hm rfl) _ | exact Touch.any (Mask.bit hm rfl)
    | with_reducible refine Within.ite ?_ ?_ | split | (extract_lets; split)
    | (with_reducible refine Within.mk ?_ ?hk
       case hk => (repeat' apply And.intro) <;> first | with_reducible exact .inr rfl | exact .inl (Mask.bit hm rfl)
       first
        | with_reducible assumption | with_reducible apply Within.wr | with_reducible apply within_State_modStrand (Mask.sub hm rfl)
        | with_reducible apply within_State_addLed | with_reducible apply within_State_stopCapture (Mask.sub hm rfl)
        | with_reducible apply within_State_countOnly (Mask.sub hm rfl) | with_reducible refine Within.each ?_ ?_
        | with_reducible refine Within.snd (by assumption) ?_ | with_reducible refine Within.fst (by assumption) ?_
        | with_reducible refine Within.ite ?_ ?_ | split | (extract_lets; split)
        | (with_reducible refine Within.mk ?_ ?hk
           case hk => (repeat' apply And.intro) <;> first | with_reducible exact .inr rfl | exact .inl (Mask.bit hm rfl)
           first
            | with_reducible assumption | with_reducible apply Within.wr
            | with_reducible apply within_State_modStrand (Mask.sub hm rfl) | with_reducible apply within_State_addLed
            | with_reducible apply within_State_stopCapture (Mask.sub hm rfl)
            | with_reducible apply within_State_countOnly (Mask.sub hm rfl) | with_reducible refine Within.each ?_ ?_
            | with_reducible refine Within.snd (by assumption) ?_ | with_reducible refine Within.fst (by assumption) ?_
            | with_reducible refine Within.ite ?_ ?_ | split | (extract_lets; split)))

theorem within_execFailSwitchAccept {m : Nat} {s₀ s : State}
    (hm : m ||| 0x180000000000000000000000000000000000000000000000000000000000000000000000000000000000300040 = m) (h₀ : Within m s₀ s) :
    AnswersWithin m s₀ (execFailSwitchAccept s) := by
  unfold execFailSwitchAccept
  repeat' first
    | with_reducible assumption | with_reducible refine AnswersWithin.next ?_ | with_reducible refine AnswersWithin.ite ?_ ?_
    | with_reducible intro _ | with_reducible apply within_State_modStrand (Mask.sub hm rfl) | with_reducible apply within_State_addLed
    | with_reducible apply within_State_journalRec (Mask.sub hm rfl) | with_reducible apply within_State_modLane (Mask.sub hm rfl)
    | with_reducible apply within_State_flushMark (Mask.sub hm rfl) | with_reducible refine Within.snd (by assumption) ?_
    | with_reducible refine Within.fst (by assumption) ?_ | exact touch_FL_SPILLED_HI (Mask.bit hm rfl) _
    | exact touch_FL_SPILLED_LO (Mask.bit hm rfl) _ | with_reducible refine Within.ite ?_ ?_ | split | (extract_lets; split)
    | (with_reducible refine Within.mk ?_ ?hk
       case hk => (repeat' apply And.intro) <;> first | with_reducible exact .inr rfl | exact .inl (Mask.bit hm rfl)
       first
        | with_reducible assumption | with_reducible apply within_State_modStrand (Mask.sub hm rfl)
        | with_reducible apply within_State_addLed | with_reducible apply within_State_journalRec (Mask.sub hm rfl)
        | with_reducible apply within_State_modLane (Mask.sub hm rfl) | with_reducible apply within_State_flushMark (Mask.sub hm rfl)
        | with_reducible refine Within.snd (by assumption) ?_ | with_reducible refine Within.fst (by assumption) ?_
        | with_reducible refine Within.ite ?_ ?_ | split | (extract_lets; split)
        | (with_reducible refine Within.mk ?_ ?hk
           case hk => (repeat' apply And.intro) <;> first | with_reducible exact .inr rfl | exact .inl (Mask.bit hm rfl)
           first
            | with_reducible assumption | with_reducible apply within_State_modStrand (Mask.sub hm rfl)
            | with_reducible apply within_State_addLed | with_reducible apply within_State_journalRec (Mask.sub hm rfl)
            | with_reducible apply within_State_modLane (Mask.sub hm rfl)
            | with_reducible apply within_State_flushMark (Mask.sub hm rfl) | with_reducible refine Within.snd (by assumption) ?_
            | with_reducible refine Within.fst (by assumption) ?_ | with_reducible refine Within.ite ?_ ?_ | split
            | (extract_lets; split)))

theorem within_execJournalGroupTimeout {m : Nat} {s₀ s : State} (hm : m ||| 0x100001 = m) (h₀ : Within m s₀ s) :
    AnswersWithin m s₀ (execJournalGroupTimeout s) := by
  unfold execJournalGroupTimeout
  repeat' first
    | with_reducible assumption | with_reducible refine AnswersWithin.next ?_
    | with_reducible apply Within.advanceTo _ (Mask.bit hm rfl) | with_reducible apply within_State_closeGroup (Mask.sub hm rfl)
    | with_reducible refine Within.ite ?_ ?_ | split | (extract_lets; split)

theorem within_State_countGroup {m : Nat} {s₀ s : State}
    (hm : m ||| 0x1800000000000000000000000000000000000000000000000000000000000000000000006A00000000000000000 = m) (g : Nat)
    (recs : List JrnRec) (h₀ : Within m s₀ s) : Within m s₀ (State.countGroup s g recs) := by
  unfold State.countGroup
  repeat' first
    | with_reducible assumption | with_reducible intro _ | with_reducible apply within_State_setFld
    | with_reducible apply within_State_raise | with_reducible apply within_State_raiseIf | with_reducible apply within_State_add64
    | with_reducible apply within_State_addLed | with_reducible refine Within.foldl _ ?_ ?_
    | with_reducible refine Within.foldlFst _ ?_ ?_ | with_reducible refine Within.foldlSnd _ ?_ ?_
    | exact touch_FL_DEV_STAT (Mask.bit hm rfl) | exact touch_FL_JRN_EVENTS_HI (Mask.bit hm rfl)
    | exact touch_FL_JRN_EVENTS_LO (Mask.bit hm rfl) | exact touch_FL_JRN_EV_HI (Mask.bit hm rfl) _
    | exact touch_FL_JRN_EV_LO (Mask.bit hm rfl) _ | exact touch_FL_JRN_WP (Mask.bit hm rfl)

theorem within_State_groupWritten {m : Nat} {s₀ s : State}
    (hm : m ||| 0x180020000000000000000000000000000000000000000000000000000000000000000003EA00004000001380000 = m)
    (h₀ : Within m s₀ s) : Within m s₀ (State.groupWritten s) := by
  unfold State.groupWritten
  repeat' first
    | with_reducible assumption | with_reducible intro _ | with_reducible apply Within.wr
    | with_reducible apply within_State_fault (Mask.sub hm rfl) | with_reducible apply within_State_checkStrand (Mask.sub hm rfl)
    | with_reducible apply within_State_traffic (Mask.sub hm rfl) | with_reducible apply within_State_countGroup (Mask.sub hm rfl)
    | with_reducible refine Within.foldl _ ?_ ?_ | with_reducible refine Within.foldlFst _ ?_ ?_
    | with_reducible refine Within.foldlSnd _ ?_ ?_ | with_reducible refine Within.snd (by assumption) ?_
    | with_reducible refine Within.fst (by assumption) ?_ | with_reducible refine Within.ite ?_ ?_ | split | (extract_lets; split)
    | (with_reducible refine Within.mk ?_ ?hk
       case hk => (repeat' apply And.intro) <;> first | with_reducible exact .inr rfl | exact .inl (Mask.bit hm rfl)
       first
        | with_reducible assumption | with_reducible apply Within.wr | with_reducible apply within_State_fault (Mask.sub hm rfl)
        | with_reducible apply within_State_checkStrand (Mask.sub hm rfl) | with_reducible apply within_State_traffic (Mask.sub hm rfl)
        | with_reducible apply within_State_countGroup (Mask.sub hm rfl) | with_reducible refine Within.foldl _ ?_ ?_
        | with_reducible refine Within.foldlFst _ ?_ ?_ | with_reducible refine Within.foldlSnd _ ?_ ?_
        | with_reducible refine Within.snd (by assumption) ?_ | with_reducible refine Within.fst (by assumption) ?_
        | with_reducible refine Within.ite ?_ ?_ | split | (extract_lets; split)
        | (with_reducible refine Within.mk ?_ ?hk
           case hk => (repeat' apply And.intro) <;> first | with_reducible exact .inr rfl | exact .inl (Mask.bit hm rfl)
           first
            | with_reducible assumption | with_reducible apply Within.wr | with_reducible apply within_State_fault (Mask.sub hm rfl)
            | with_reducible apply within_State_checkStrand (Mask.sub hm rfl)
            | with_reducible apply within_State_traffic (Mask.sub hm rfl)
            | with_reducible apply within_State_countGroup (Mask.sub hm rfl) | with_reducible refine Within.foldl _ ?_ ?_
            | with_reducible refine Within.foldlFst _ ?_ ?_ | with_reducible refine Within.foldlSnd _ ?_ ?_
            | with_reducible refine Within.snd (by assumption) ?_ | with_reducible refine Within.fst (by assumption) ?_
            | with_reducible refine Within.ite ?_ ?_ | split | (extract_lets; split)))

theorem within_execJournalGroupWritten {m : Nat} {s₀ s : State}
    (hm : m ||| 0x180020000000000000000000000000000000000000000000000000000000000000000003EA00004000001380000 = m)
    (h₀ : Within m s₀ s) : AnswersWithin m s₀ (execJournalGroupWritten s) := by
  unfold execJournalGroupWritten
  repeat' first
    | with_reducible assumption | with_reducible refine AnswersWithin.next ?_
    | with_reducible apply within_State_groupWritten (Mask.sub hm rfl) | with_reducible refine Within.ite ?_ ?_ | split
    | (extract_lets; split)

theorem within_execTimeBase {m : Nat} {s₀ s : State} (hm : m ||| 0x100001 = m) (h₀ : Within m s₀ s) :
    AnswersWithin m s₀ (execTimeBase s) := by
  unfold execTimeBase
  repeat' first
    | with_reducible assumption | with_reducible refine AnswersWithin.next ?_
    | with_reducible apply Within.advanceTo _ (Mask.bit hm rfl) | with_reducible apply within_State_enterRecord (Mask.sub hm rfl)
    | with_reducible refine Within.snd (by assumption) ?_ | with_reducible refine Within.fst (by assumption) ?_
    | with_reducible refine Within.ite ?_ ?_ | split | (extract_lets; split)
    | (with_reducible refine Within.mk ?_ ?hk
       case hk => (repeat' apply And.intro) <;> first | with_reducible exact .inr rfl | exact .inl (Mask.bit hm rfl)
       first
        | with_reducible assumption | with_reducible apply Within.advanceTo _ (Mask.bit hm rfl)
        | with_reducible apply within_State_enterRecord (Mask.sub hm rfl) | with_reducible refine Within.snd (by assumption) ?_
        | with_reducible refine Within.fst (by assumption) ?_ | with_reducible refine Within.ite ?_ ?_ | split | (extract_lets; split)
        | (with_reducible refine Within.mk ?_ ?hk
           case hk => (repeat' apply And.intro) <;> first | with_reducible exact .inr rfl | exact .inl (Mask.bit hm rfl)
           first
            | with_reducible assumption | with_reducible apply Within.advanceTo _ (Mask.bit hm rfl)
            | with_reducible apply within_State_enterRecord (Mask.sub hm rfl) | with_reducible refine Within.snd (by assumption) ?_
            | with_reducible refine Within.fst (by assumption) ?_ | with_reducible refine Within.ite ?_ ?_ | split
            | (extract_lets; split)))

theorem within_State_endOfTest {m : Nat} {s₀ s : State}
    (hm : m ||| 0x60000000000000000000000000000000000000000000000000000000000000000018080000000000000288040 = m) (d : Nat) (pos : Nat)
    (h₀ : Within m s₀ s) : Within m s₀ (State.endOfTest s d pos) := by
  unfold State.endOfTest
  repeat' first
    | with_reducible assumption | with_reducible intro _ | with_reducible apply within_State_modStrand (Mask.sub hm rfl)
    | with_reducible apply within_State_modDie (Mask.sub hm rfl) | with_reducible apply within_State_startFinal (Mask.sub hm rfl)
    | with_reducible refine Within.each ?_ ?_ | with_reducible refine Within.foldl _ ?_ ?_
    | with_reducible refine Within.foldlFst _ ?_ ?_ | with_reducible refine Within.foldlSnd _ ?_ ?_
    | with_reducible refine Within.ite ?_ ?_ | split | (extract_lets; split)
    | (with_reducible refine Within.mk ?_ ?hk
       case hk => (repeat' apply And.intro) <;> first | with_reducible exact .inr rfl | exact .inl (Mask.bit hm rfl)
       first
        | with_reducible assumption | with_reducible apply within_State_modStrand (Mask.sub hm rfl)
        | with_reducible apply within_State_modDie (Mask.sub hm rfl) | with_reducible apply within_State_startFinal (Mask.sub hm rfl)
        | with_reducible refine Within.each ?_ ?_ | with_reducible refine Within.foldl _ ?_ ?_
        | with_reducible refine Within.foldlFst _ ?_ ?_ | with_reducible refine Within.foldlSnd _ ?_ ?_
        | with_reducible refine Within.ite ?_ ?_ | split | (extract_lets; split)
        | (with_reducible refine Within.mk ?_ ?hk
           case hk => (repeat' apply And.intro) <;> first | with_reducible exact .inr rfl | exact .inl (Mask.bit hm rfl)
           first
            | with_reducible assumption | with_reducible apply within_State_modStrand (Mask.sub hm rfl)
            | with_reducible apply within_State_modDie (Mask.sub hm rfl)
            | with_reducible apply within_State_startFinal (Mask.sub hm rfl) | with_reducible refine Within.each ?_ ?_
            | with_reducible refine Within.foldl _ ?_ ?_ | with_reducible refine Within.foldlFst _ ?_ ?_
            | with_reducible refine Within.foldlSnd _ ?_ ?_ | with_reducible refine Within.ite ?_ ?_ | split | (extract_lets; split)))

theorem within_State_writeEndMark {m : Nat} {s₀ s : State}
    (hm : m ||| 0x60000000000000000000000000000000000000000000000000000000000000000018080000000000000388044 = m) (k : Nat)
    (h₀ : Within m s₀ s) : Within m s₀ (State.writeEndMark s k) := by
  unfold State.writeEndMark
  repeat' first
    | with_reducible assumption | with_reducible intro _ | with_reducible apply Within.free (Mask.bit hm rfl)
    | with_reducible apply within_State_modStrand (Mask.sub hm rfl) | with_reducible apply within_State_enterRecord (Mask.sub hm rfl)
    | with_reducible apply within_State_needBase (Mask.sub hm rfl) | with_reducible apply within_State_endOfTest (Mask.sub hm rfl)
    | with_reducible refine Within.snd (by assumption) ?_ | with_reducible refine Within.fst (by assumption) ?_
    | with_reducible refine Within.ite ?_ ?_ | split | (extract_lets; split)
    | (with_reducible refine Within.mk ?_ ?hk
       case hk => (repeat' apply And.intro) <;> first | with_reducible exact .inr rfl | exact .inl (Mask.bit hm rfl)
       first
        | with_reducible assumption | with_reducible apply Within.free (Mask.bit hm rfl)
        | with_reducible apply within_State_modStrand (Mask.sub hm rfl)
        | with_reducible apply within_State_enterRecord (Mask.sub hm rfl)
        | with_reducible apply within_State_needBase (Mask.sub hm rfl) | with_reducible apply within_State_endOfTest (Mask.sub hm rfl)
        | with_reducible refine Within.snd (by assumption) ?_ | with_reducible refine Within.fst (by assumption) ?_
        | with_reducible refine Within.ite ?_ ?_ | split | (extract_lets; split)
        | (with_reducible refine Within.mk ?_ ?hk
           case hk => (repeat' apply And.intro) <;> first | with_reducible exact .inr rfl | exact .inl (Mask.bit hm rfl)
           first
            | with_reducible assumption | with_reducible apply Within.free (Mask.bit hm rfl)
            | with_reducible apply within_State_modStrand (Mask.sub hm rfl)
            | with_reducible apply within_State_enterRecord (Mask.sub hm rfl)
            | with_reducible apply within_State_needBase (Mask.sub hm rfl)
            | with_reducible apply within_State_endOfTest (Mask.sub hm rfl) | with_reducible refine Within.snd (by assumption) ?_
            | with_reducible refine Within.fst (by assumption) ?_ | with_reducible refine Within.ite ?_ ?_ | split
            | (extract_lets; split)))

theorem within_execEndMark {m : Nat} {s₀ s : State}
    (hm : m ||| 0x60000000000000000000000000000000000000000000000000000000000000000018080000000000000388044 = m) (k : Fin 192)
    (h₀ : Within m s₀ s) : AnswersWithin m s₀ (execEndMark k s) := by
  unfold execEndMark
  repeat' first
    | with_reducible assumption | with_reducible refine AnswersWithin.next ?_ | with_reducible apply Within.wr
    | with_reducible apply within_State_writeEndMark (Mask.sub hm rfl) | with_reducible refine Within.ite ?_ ?_ | split
    | (extract_lets; split)

theorem within_State_writeAll {m : Nat}
    (hm : m ||| 0x180020000000000000000000000000000000000000000000000000000000000000000003EA00004000001380000 = m) {s₀ : State} (n : Nat) {s : State} (h₀ : Within m s₀ s) : Within m s₀ (State.writeAll n s) := by
  induction n generalizing s with
  | zero => exact h₀
  | succ n ih => exact ih (within_State_groupWritten (Mask.sub hm rfl) h₀)

theorem within_State_resetJournal {m : Nat} {s₀ s : State}
    (hm : m ||| 0x180020000000000000000000000000000000000000000000000000000000000000000003EA00004000001380040 = m)
    (h₀ : Within m s₀ s) : Within m s₀ (State.resetJournal s) := by
  unfold State.resetJournal
  repeat' first
    | with_reducible assumption | with_reducible intro _ | with_reducible apply Within.wr | with_reducible apply within_State_wr64
    | with_reducible apply within_State_modStrand (Mask.sub hm rfl) | with_reducible apply within_State_closeGroup (Mask.sub hm rfl)
    | with_reducible apply within_State_writeAll (Mask.sub hm rfl) | with_reducible refine Within.each ?_ ?_
    | exact touch_FL_JRN_EVENTS_HI (Mask.bit hm rfl) | exact touch_FL_JRN_EVENTS_LO (Mask.bit hm rfl)
    | exact touch_FL_JRN_EV_HI (Mask.bit hm rfl) _ | exact touch_FL_JRN_EV_LO (Mask.bit hm rfl) _
    | exact touch_FL_JRN_WP (Mask.bit hm rfl) | with_reducible refine Within.ite ?_ ?_ | split | (extract_lets; split)
    | (with_reducible refine Within.mk ?_ ?hk
       case hk => (repeat' apply And.intro) <;> first | with_reducible exact .inr rfl | exact .inl (Mask.bit hm rfl)
       first
        | with_reducible assumption | with_reducible apply Within.wr | with_reducible apply within_State_wr64
        | with_reducible apply within_State_modStrand (Mask.sub hm rfl)
        | with_reducible apply within_State_closeGroup (Mask.sub hm rfl) | with_reducible apply within_State_writeAll (Mask.sub hm rfl)
        | with_reducible refine Within.each ?_ ?_ | with_reducible refine Within.ite ?_ ?_ | split | (extract_lets; split)
        | (with_reducible refine Within.mk ?_ ?hk
           case hk => (repeat' apply And.intro) <;> first | with_reducible exact .inr rfl | exact .inl (Mask.bit hm rfl)
           first
            | with_reducible assumption | with_reducible apply Within.wr | with_reducible apply within_State_wr64
            | with_reducible apply within_State_modStrand (Mask.sub hm rfl)
            | with_reducible apply within_State_closeGroup (Mask.sub hm rfl)
            | with_reducible apply within_State_writeAll (Mask.sub hm rfl) | with_reducible refine Within.each ?_ ?_
            | with_reducible refine Within.ite ?_ ?_ | split | (extract_lets; split)))

theorem within_State_flDevCommand {m : Nat} {s₀ s : State}
    (hm : m ||| 0x180020000000000000000000000000000000000000000000000000000000000000000003EA00004000001380040 = m) (d : Word)
    (h₀ : Within m s₀ s) : Within m s₀ (State.flDevCommand s d) := by
  unfold State.flDevCommand
  repeat' first
    | with_reducible assumption | with_reducible apply within_State_raise
    | with_reducible apply within_State_resetJournal (Mask.sub hm rfl) | exact touch_FL_DEV_STAT (Mask.bit hm rfl)
    | with_reducible refine Within.ite ?_ ?_ | split | (extract_lets; split)
    | (with_reducible refine Within.mk ?_ ?hk
       case hk => (repeat' apply And.intro) <;> first | with_reducible exact .inr rfl | exact .inl (Mask.bit hm rfl)
       first
        | with_reducible assumption | with_reducible apply within_State_raise
        | with_reducible apply within_State_resetJournal (Mask.sub hm rfl) | with_reducible refine Within.ite ?_ ?_ | split
        | (extract_lets; split)
        | (with_reducible refine Within.mk ?_ ?hk
           case hk => (repeat' apply And.intro) <;> first | with_reducible exact .inr rfl | exact .inl (Mask.bit hm rfl)
           first
            | with_reducible assumption | with_reducible apply within_State_raise
            | with_reducible apply within_State_resetJournal (Mask.sub hm rfl) | with_reducible refine Within.ite ?_ ?_ | split
            | (extract_lets; split)))

theorem within_State_groupBad {m : Nat} {s₀ s : State} (hm : m ||| 0x1200000000001000000 = m) (g : Nat) (h₀ : Within m s₀ s) :
    Within m s₀ (State.groupBad s g) := by
  unfold State.groupBad
  repeat' first
    | with_reducible assumption | with_reducible apply within_State_setFld | with_reducible apply within_State_raise
    | with_reducible apply within_State_satAdd | with_reducible apply within_State_fault (Mask.sub hm rfl)
    | exact touch_FL_DEV_STAT (Mask.bit hm rfl) | exact touch_FL_JRN_CRC (Mask.bit hm rfl) | with_reducible refine Within.ite ?_ ?_
    | split | (extract_lets; split)

theorem within_execJournalAuditDone {m : Nat} {s₀ s : State}
    (hm : m ||| 0x200000000000000000000000000000000000000000000000000000000000000000039200000000001300000 = m) (bad : List Nat)
    (h₀ : Within m s₀ s) : AnswersWithin m s₀ (execJournalAuditDone bad s) := by
  unfold execJournalAuditDone
  repeat' first
    | with_reducible assumption | with_reducible refine AnswersWithin.next ?_ | with_reducible intro _
    | with_reducible apply within_State_raise | with_reducible apply within_State_jrnImb (Mask.sub hm rfl)
    | with_reducible apply within_State_groupBad (Mask.sub hm rfl) | with_reducible refine Within.each ?_ ?_
    | with_reducible refine Within.foldl _ ?_ ?_ | with_reducible refine Within.foldlFst _ ?_ ?_
    | with_reducible refine Within.foldlSnd _ ?_ ?_ | with_reducible refine Within.snd (by assumption) ?_
    | with_reducible refine Within.fst (by assumption) ?_ | exact touch_FL_DEV_STAT (Mask.bit hm rfl)
    | with_reducible refine Within.ite ?_ ?_ | split | (extract_lets; split)
    | (with_reducible refine Within.mk ?_ ?hk
       case hk => (repeat' apply And.intro) <;> first | with_reducible exact .inr rfl | exact .inl (Mask.bit hm rfl)
       first
        | with_reducible assumption | with_reducible apply within_State_raise
        | with_reducible apply within_State_jrnImb (Mask.sub hm rfl) | with_reducible apply within_State_groupBad (Mask.sub hm rfl)
        | with_reducible refine Within.each ?_ ?_ | with_reducible refine Within.foldl _ ?_ ?_
        | with_reducible refine Within.foldlFst _ ?_ ?_ | with_reducible refine Within.foldlSnd _ ?_ ?_
        | with_reducible refine Within.snd (by assumption) ?_ | with_reducible refine Within.fst (by assumption) ?_
        | with_reducible refine Within.ite ?_ ?_ | split | (extract_lets; split)
        | (with_reducible refine Within.mk ?_ ?hk
           case hk => (repeat' apply And.intro) <;> first | with_reducible exact .inr rfl | exact .inl (Mask.bit hm rfl)
           first
            | with_reducible assumption | with_reducible apply within_State_raise
            | with_reducible apply within_State_jrnImb (Mask.sub hm rfl) | with_reducible apply within_State_groupBad (Mask.sub hm rfl)
            | with_reducible refine Within.each ?_ ?_ | with_reducible refine Within.foldl _ ?_ ?_
            | with_reducible refine Within.foldlFst _ ?_ ?_ | with_reducible refine Within.foldlSnd _ ?_ ?_
            | with_reducible refine Within.snd (by assumption) ?_ | with_reducible refine Within.fst (by assumption) ?_
            | with_reducible refine Within.ite ?_ ?_ | split | (extract_lets; split)))

theorem within_State_clearFails {m : Nat} {s₀ s : State} (hm : m ||| 0x200000040 = m) (k : Nat) (h₀ : Within m s₀ s) :
    Within m s₀ (State.clearFails s k) := by
  unfold State.clearFails
  repeat' first
    | with_reducible assumption | with_reducible intro _ | with_reducible apply Within.wr | with_reducible apply within_State_wr64
    | with_reducible apply within_State_modStrand (Mask.sub hm rfl) | with_reducible refine Within.each ?_ ?_
    | exact touch_FL_PIN_FAIL (Mask.bit hm rfl) _ _ (by omega) | exact Touch.any (Mask.bit hm rfl)
    | (with_reducible refine Within.mk ?_ ?hk
       case hk => (repeat' apply And.intro) <;> first | with_reducible exact .inr rfl | exact .inl (Mask.bit hm rfl)
       first
        | with_reducible assumption | with_reducible apply Within.wr | with_reducible apply within_State_wr64
        | with_reducible apply within_State_modStrand (Mask.sub hm rfl) | with_reducible refine Within.each ?_ ?_)

theorem within_State_flReject {m : Nat} {s₀ s : State}
    (hm : m ||| 0x200000000000000000000000000000000000000000000000000000000000000000000000000000000000000 = m) (k : Nat)
    (h₀ : Within m s₀ s) : Within m s₀ (State.flReject s k) := by
  unfold State.flReject
  repeat' first
    | with_reducible assumption | with_reducible apply within_State_raise | exact touch_FL_STAT (Mask.bit hm rfl) _

theorem within_State_flCommand {m : Nat} {s₀ s : State}
    (hm : m ||| 0x200000000000000000000000000000000000000000000000000000000000000000000000000000200000040 = m) (k : Nat) (d : Word)
    (h₀ : Within m s₀ s) : Within m s₀ (State.flCommand s k d) := by
  unfold State.flCommand
  repeat' first
    | with_reducible assumption | with_reducible apply within_State_clearFail (Mask.sub hm rfl)
    | with_reducible apply within_State_clearFails (Mask.sub hm rfl) | with_reducible apply within_State_flReject (Mask.sub hm rfl)
    | exact Touch.any (Mask.bit hm rfl) | with_reducible refine Within.ite ?_ ?_ | split | (extract_lets; split)

theorem within_State_flDieWrite {m : Nat} {s₀ s : State}
    (hm : m ||| 0x300000000000000000000000000000000000000000000000000000000000000000000000000000000000000 = m) (k : Nat) (v : Word)
    (h₀ : Within m s₀ s) : Within m s₀ (State.flDieWrite s k v) := by
  unfold State.flDieWrite
  repeat' first
    | with_reducible assumption | with_reducible apply Within.wr | with_reducible apply within_State_flReject (Mask.sub hm rfl)
    | exact touch_FL_DIE (Mask.bit hm rfl) _ | with_reducible refine Within.ite ?_ ?_ | split | (extract_lets; split)

theorem within_execLedgerRead {m : Nat} {s₀ s : State}
    (hm : m ||| 0x80000200000000000000000000000000000000020000000000010000000000000000000000000000000000000334000000000000003820000000010121C000 = m)
    (h₀ : Within m s₀ s) : AnswersWithin m s₀ (execLedgerRead s) := by
  unfold execLedgerRead
  repeat' first
    | with_reducible assumption | with_reducible refine AnswersWithin.next ?_ | with_reducible intro _ | with_reducible apply Within.wr
    | with_reducible apply within_State_complete (Mask.sub hm rfl) | with_reducible apply within_State_writeOut (Mask.sub hm rfl)
    | with_reducible apply within_State_checkStep (Mask.sub hm rfl) | with_reducible apply within_State_checkStrand (Mask.sub hm rfl)
    | with_reducible refine Within.each ?_ ?_ | with_reducible refine Within.snd (by assumption) ?_
    | with_reducible refine Within.fst (by assumption) ?_ | with_reducible refine Within.ite ?_ ?_ | split | (extract_lets; split)

end Sys2Proof.Machine
end

