-- ==== Sys2Proof/Laws/SpliceWithin.lean ====
section
/-! SUPPORT. What the definitions of Machine/Splice.lean keep, and all that they may change (Laws/Within.lean). -/

namespace Sys2Proof.Machine

set_option linter.all false

theorem within_State_noteBad {m : Nat} {s₀ s : State} (hm : m ||| 0x6080000000000001200000 = m) (l : Nat) (e : LaneEv)
    (bad : List Nat) (h₀ : Within m s₀ s) : Within m s₀ (State.noteBad s l e bad) := by
  unfold State.noteBad
  repeat' first
    | with_reducible assumption | with_reducible intro _ | with_reducible apply within_State_ctxCrc (Mask.sub hm rfl)
    | with_reducible refine Within.foldl _ ?_ ?_ | with_reducible refine Within.foldlFst _ ?_ ?_
    | with_reducible refine Within.foldlSnd _ ?_ ?_

theorem within_execLaneFold {m : Nat} {s₀ s : State}
    (hm : m ||| 0x6000000000000000000000000000000000000000000000000000000000000000001E080000000000001280000 = m) (l : Fin 16)
    (bad : List Nat) (h₀ : Within m s₀ s) : AnswersWithin m s₀ (execLaneFold l bad s) := by
  unfold execLaneFold
  repeat' first
    | with_reducible assumption | with_reducible refine AnswersWithin.next ?_ | with_reducible intro _
    | with_reducible apply within_State_modLane (Mask.sub hm rfl) | with_reducible apply within_State_takeEvent (Mask.sub hm rfl)
    | with_reducible apply within_State_noteBad (Mask.sub hm rfl) | with_reducible refine Within.snd (by assumption) ?_
    | with_reducible refine Within.fst (by assumption) ?_ | with_reducible refine Within.ite ?_ ?_ | split | (extract_lets; split)
    | (with_reducible refine Within.mk ?_ ?hk
       case hk => (repeat' apply And.intro) <;> first | with_reducible exact .inr rfl | exact .inl (Mask.bit hm rfl)
       first
        | with_reducible assumption | with_reducible apply within_State_modLane (Mask.sub hm rfl)
        | with_reducible apply within_State_takeEvent (Mask.sub hm rfl) | with_reducible apply within_State_noteBad (Mask.sub hm rfl)
        | with_reducible refine Within.snd (by assumption) ?_ | with_reducible refine Within.fst (by assumption) ?_
        | with_reducible refine Within.ite ?_ ?_ | split | (extract_lets; split)
        | (with_reducible refine Within.mk ?_ ?hk
           case hk => (repeat' apply And.intro) <;> first | with_reducible exact .inr rfl | exact .inl (Mask.bit hm rfl)
           first
            | with_reducible assumption | with_reducible apply within_State_modLane (Mask.sub hm rfl)
            | with_reducible apply within_State_takeEvent (Mask.sub hm rfl)
            | with_reducible apply within_State_noteBad (Mask.sub hm rfl) | with_reducible refine Within.snd (by assumption) ?_
            | with_reducible refine Within.fst (by assumption) ?_ | with_reducible refine Within.ite ?_ ?_ | split
            | (extract_lets; split)))

theorem within_execContextFetched {m : Nat} {s₀ s : State} (hm : m ||| 0xE080000004000001280000 = m) (slot : Nat) (good : Bool)
    (h₀ : Within m s₀ s) : AnswersWithin m s₀ (execContextFetched slot good s) := by
  unfold execContextFetched
  repeat' first
    | with_reducible assumption | with_reducible refine AnswersWithin.next ?_ | with_reducible intro _
    | with_reducible apply within_State_traffic (Mask.sub hm rfl) | with_reducible apply within_State_modCtx (Mask.sub hm rfl)
    | with_reducible apply within_State_makeRoom (Mask.sub hm rfl) | with_reducible apply within_State_foldWaiting (Mask.sub hm rfl)
    | with_reducible apply within_State_ctxCrc (Mask.sub hm rfl) | with_reducible refine Within.snd (by assumption) ?_
    | with_reducible refine Within.fst (by assumption) ?_ | with_reducible refine Within.ite ?_ ?_ | split | (extract_lets; split)
    | (with_reducible refine Within.mk ?_ ?hk
       case hk => (repeat' apply And.intro) <;> first | with_reducible exact .inr rfl | exact .inl (Mask.bit hm rfl)
       first
        | with_reducible assumption | with_reducible apply within_State_traffic (Mask.sub hm rfl)
        | with_reducible apply within_State_modCtx (Mask.sub hm rfl) | with_reducible apply within_State_makeRoom (Mask.sub hm rfl)
        | with_reducible apply within_State_foldWaiting (Mask.sub hm rfl) | with_reducible apply within_State_ctxCrc (Mask.sub hm rfl)
        | with_reducible refine Within.snd (by assumption) ?_ | with_reducible refine Within.fst (by assumption) ?_
        | with_reducible refine Within.ite ?_ ?_ | split | (extract_lets; split)
        | (with_reducible refine Within.mk ?_ ?hk
           case hk => (repeat' apply And.intro) <;> first | with_reducible exact .inr rfl | exact .inl (Mask.bit hm rfl)
           first
            | with_reducible assumption | with_reducible apply within_State_traffic (Mask.sub hm rfl)
            | with_reducible apply within_State_modCtx (Mask.sub hm rfl) | with_reducible apply within_State_makeRoom (Mask.sub hm rfl)
            | with_reducible apply within_State_foldWaiting (Mask.sub hm rfl)
            | with_reducible apply within_State_ctxCrc (Mask.sub hm rfl) | with_reducible refine Within.snd (by assumption) ?_
            | with_reducible refine Within.fst (by assumption) ?_ | with_reducible refine Within.ite ?_ ?_ | split
            | (extract_lets; split)))

theorem within_State_spFinal {m : Nat} {s₀ s : State}
    (hm : m ||| 0x60000000000000000000000000000000000000000000000000000000000000000018080000000000000288000 = m) (d : Nat)
    (h₀ : Within m s₀ s) : Within m s₀ (State.spFinal s d) := by
  unfold State.spFinal
  repeat' first
    | with_reducible assumption | with_reducible apply within_State_raise
    | with_reducible apply within_State_startFinal (Mask.sub hm rfl) | exact touch_SP_STAT (Mask.bit hm rfl)
    | with_reducible refine Within.ite ?_ ?_ | split | (extract_lets; split)

theorem within_State_spFinalAll {m : Nat} {s₀ s : State}
    (hm : m ||| 0x60000000000000000000000000000000000000000000000000000000000000000018080000000000000288000 = m) (h₀ : Within m s₀ s) :
    Within m s₀ (State.spFinalAll s) := by
  unfold State.spFinalAll
  repeat' first
    | with_reducible assumption | with_reducible intro _ | with_reducible apply within_State_spFinal (Mask.sub hm rfl)
    | with_reducible refine Within.each ?_ ?_

theorem within_State_spRelease {m : Nat} {s₀ s : State} (hm : m ||| 0x80000000000000200000 = m) (d : Nat) (h₀ : Within m s₀ s) :
    Within m s₀ (State.spRelease s d) := by
  unfold State.spRelease
  repeat' first
    | with_reducible assumption | with_reducible intro _ | with_reducible apply Within.free (Mask.bit hm rfl)
    | with_reducible apply within_State_raise | with_reducible apply within_State_modDie (Mask.sub hm rfl)
    | with_reducible apply within_State_imbalance (Mask.sub hm rfl) | with_reducible apply within_State_freeDie (Mask.sub hm rfl)
    | exact touch_SP_STAT (Mask.bit hm rfl) | with_reducible refine Within.ite ?_ ?_ | split | (extract_lets; split)
    | (with_reducible refine Within.mk ?_ ?hk
       case hk => (repeat' apply And.intro) <;> first | with_reducible exact .inr rfl | exact .inl (Mask.bit hm rfl)
       first
        | with_reducible assumption | with_reducible apply Within.free (Mask.bit hm rfl) | with_reducible apply within_State_raise
        | with_reducible apply within_State_modDie (Mask.sub hm rfl) | with_reducible apply within_State_imbalance (Mask.sub hm rfl)
        | with_reducible apply within_State_freeDie (Mask.sub hm rfl) | with_reducible refine Within.ite ?_ ?_ | split
        | (extract_lets; split))

theorem within_State_spCommand {m : Nat} {s₀ s : State}
    (hm : m ||| 0x60000000000000000000000000000000000000000000000000000000000000000018080000000000000288000 = m) (w : Word)
    (h₀ : Within m s₀ s) : Within m s₀ (State.spCommand s w) := by
  unfold State.spCommand
  repeat' first
    | with_reducible assumption | with_reducible apply within_State_spFinal (Mask.sub hm rfl)
    | with_reducible apply within_State_spFinalAll (Mask.sub hm rfl) | with_reducible apply within_State_spRelease (Mask.sub hm rfl)
    | with_reducible refine Within.snd (by assumption) ?_ | with_reducible refine Within.fst (by assumption) ?_
    | with_reducible refine Within.ite ?_ ?_ | split | (extract_lets; split)

theorem within_State_dropCtxs {m : Nat} {s₀ s : State} (hm : m ||| 0x200000 = m) (l : Nat) (d : Nat) (h₀ : Within m s₀ s) :
    Within m s₀ (State.dropCtxs s l d) := by
  unfold State.dropCtxs
  repeat' first
    | with_reducible assumption | with_reducible intro _
    | (with_reducible refine Within.mk ?_ ?hk
       case hk => (repeat' apply And.intro) <;> first | with_reducible exact .inr rfl | exact .inl (Mask.bit hm rfl)
       first
        | with_reducible assumption
        | (with_reducible refine Within.mk ?_ ?hk
           case hk => (repeat' apply And.intro) <;> first | with_reducible exact .inr rfl | exact .inl (Mask.bit hm rfl)
           first
            | with_reducible assumption))

theorem within_execLaneSpliceDone {m : Nat} (hm : m ||| 0xE0B9200000000001208004 = m) {s₀ s : State} (l : Fin 16) (d : Nat)
    (badGroups : List Nat)
    (badCtx : Bool) (h₀ : Within m s₀ s) : AnswersWithin m s₀ (execLaneSpliceDone l d badGroups badCtx s) := by
  unfold execLaneSpliceDone
  refine AnswersWithin.next ?_
  split
  · exact h₀
  · refine Within.ite h₀ ?_
    extract_lets s0 rebuild recs lost read unread bad s1 s2 s4 s6 sum s9
    have h0 : Within m s₀ s0 := Within.ite (within_State_ctxCrc (Mask.sub hm rfl) _ _ _ h₀) h₀
    have h1 : Within m s₀ s1 := Within.each (fun _ _ h => within_State_groupBad (Mask.sub hm rfl) _ h) h0
    have h2 : Within m s₀ s2 :=
      Within.ite (within_State_satAdd _ _ _ (touch_SP_CRC_CNT (Mask.bit hm rfl)) (within_State_dropCtxs (Mask.sub hm rfl) _ _ h1)) h1
    have h4 : Within m s₀ s4 := by
      refine Within.foldl _ (fun x e h => ?_) h2
      have hc := within_State_needCtx (Mask.sub hm rfl) .die l d 0 0 h
      generalize x.needCtx .die l d 0 0 = y at hc ⊢
      obtain ⟨c, s5⟩ := y
      refine within_State_foldEvent (Mask.sub hm rfl) _ _ ?_
      cases c with
      | none => exact within_State_ctxLost (Mask.sub hm rfl) _ _ hc
      | some _ => exact hc
    have h6 : Within m s₀ s6 := by
      refine Within.ite ?_ h4
      exact within_State_imbalance (Mask.sub hm rfl) _ _ _ _ _ _
        (within_State_satAdd _ _ _ (touch_SP_CRC_CNT (Mask.bit hm rfl)) (Within.free (Mask.bit hm rfl) h4))
    exact within_State_formResult (Mask.sub hm rfl) _ (within_State_modFinal (Mask.sub hm rfl) _ _
      (within_State_raiseIf _ _ _ (touch_SP_STAT (Mask.bit hm rfl)) h6))

theorem within_State_resultWritten {m : Nat} {s₀ s : State}
    (hm : m ||| 0x60000000000000000000000000000000000000000000000000000000000000000019080000000000000288000 = m) (d : Nat)
    (outcome : Nat) (h₀ : Within m s₀ s) : Within m s₀ (State.resultWritten s d outcome) := by
  unfold State.resultWritten
  repeat' first
    | with_reducible assumption | with_reducible intro _ | with_reducible apply Within.wr
    | with_reducible apply Within.free (Mask.bit hm rfl) | with_reducible apply within_State_raise
    | with_reducible apply within_State_freeDie (Mask.sub hm rfl) | with_reducible apply within_State_startFinal (Mask.sub hm rfl)
    | exact touch_SP_LAST (Mask.bit hm rfl) | exact touch_SP_STAT (Mask.bit hm rfl) | with_reducible refine Within.ite ?_ ?_ | split
    | (extract_lets; split)
    | (with_reducible refine Within.mk ?_ ?hk
       case hk => (repeat' apply And.intro) <;> first | with_reducible exact .inr rfl | exact .inl (Mask.bit hm rfl)
       first
        | with_reducible assumption | with_reducible apply Within.wr | with_reducible apply Within.free (Mask.bit hm rfl)
        | with_reducible apply within_State_raise | with_reducible apply within_State_freeDie (Mask.sub hm rfl)
        | with_reducible apply within_State_startFinal (Mask.sub hm rfl) | with_reducible refine Within.ite ?_ ?_ | split
        | (extract_lets; split)
        | (with_reducible refine Within.mk ?_ ?hk
           case hk => (repeat' apply And.intro) <;> first | with_reducible exact .inr rfl | exact .inl (Mask.bit hm rfl)
           first
            | with_reducible assumption | with_reducible apply Within.wr | with_reducible apply Within.free (Mask.bit hm rfl)
            | with_reducible apply within_State_raise | with_reducible apply within_State_freeDie (Mask.sub hm rfl)
            | with_reducible apply within_State_startFinal (Mask.sub hm rfl) | with_reducible refine Within.ite ?_ ?_ | split
            | (extract_lets; split)))

end Sys2Proof.Machine
end

