-- ==== Sys2Proof/Laws/MemoryWithin.lean ====
section
/-! SUPPORT. What the definitions of Machine/Memory.lean keep, and all that they may change (Laws/Within.lean). -/

namespace Sys2Proof.Machine

set_option linter.all false

theorem within_State_modChan {m : Nat} {s₀ s : State} (hm : m ||| 0x80000 = m) (c : Nat) (f : Channel → Channel) (h₀ : Within m s₀ s) :
    Within m s₀ (State.modChan s c f) := by
  unfold State.modChan
  repeat' first
    | with_reducible assumption
    | (with_reducible refine Within.mk ?_ ?hk
       case hk => (repeat' apply And.intro) <;> first | with_reducible exact .inr rfl | exact .inl (Mask.bit hm rfl)
       first
        | with_reducible assumption
        | (with_reducible refine Within.mk ?_ ?hk
           case hk => (repeat' apply And.intro) <;> first | with_reducible exact .inr rfl | exact .inl (Mask.bit hm rfl)
           first
            | with_reducible assumption))

theorem within_State_crcOutcome {m : Nat} {s₀ s : State} (hm : m ||| 0x3804000001000000 = m) (k : Nat) (seg : Nat) (gran : Nat)
    (outcome : Nat) (h₀ : Within m s₀ s) : Within m s₀ (State.crcOutcome s k seg gran outcome) := by
  unfold State.crcOutcome
  repeat' first
    | with_reducible assumption | with_reducible apply Within.wr | with_reducible apply within_State_raise
    | with_reducible apply within_State_satAdd | with_reducible apply within_State_fault (Mask.sub hm rfl)
    | with_reducible refine Within.snd (by assumption) ?_ | with_reducible refine Within.fst (by assumption) ?_
    | exact touch_MC_CRC_CNT (Mask.bit hm rfl) | exact touch_MC_CRC_LOC0 (Mask.bit hm rfl) | exact touch_MC_CRC_LOC1 (Mask.bit hm rfl)
    | exact touch_MC_STAT (Mask.bit hm rfl) | with_reducible refine Within.ite ?_ ?_ | split | (extract_lets; split)

theorem within_State_lookOn {m : Nat} {s₀ s : State} (hm : m ||| 0x20000000000080000 = m) (k : Nat) (h₀ : Within m s₀ s) :
    Within m s₀ (State.lookOn s k) := by
  unfold State.lookOn
  repeat' first
    | with_reducible assumption | with_reducible apply within_State_lookahead (Mask.sub hm rfl) | with_reducible refine Within.ite ?_ ?_
    | split | (extract_lets; split)

theorem within_State_deliver {m : Nat} {s₀ s : State} (hm : m ||| 0x20000000000080044 = m) (k : Nat) (seg : Nat) (gran : Nat)
    (good : Bool) (t : Nat) (h₀ : Within m s₀ s) : Within m s₀ (State.deliver s k seg gran good t) := by
  unfold State.deliver
  repeat' first
    | with_reducible assumption | with_reducible apply within_State_cacheGranule (Mask.sub hm rfl)
    | with_reducible apply within_State_lookOn (Mask.sub hm rfl)

theorem within_execGranuleRefill {m : Nat} {s₀ s : State} (hm : m ||| 0x3340000000000000000023804000101094045 = m) (k : Fin 192)
    (seg : Nat) (gran : Nat) (read1 : Bool) (read2 : Bool) (t : Nat) (h₀ : Within m s₀ s) :
    AnswersWithin m s₀ (execGranuleRefill k seg gran read1 read2 t s) := by
  unfold execGranuleRefill
  repeat' first
    | with_reducible assumption | with_reducible refine AnswersWithin.next ?_ | with_reducible refine AnswersWithin.ite ?_ ?_
    | with_reducible intro _ | with_reducible apply Within.advanceTo _ (Mask.bit hm rfl) | with_reducible apply within_State_raise
    | with_reducible apply within_State_fault (Mask.sub hm rfl) | with_reducible apply within_State_rdmaRead (Mask.sub hm rfl)
    | with_reducible apply within_State_traffic (Mask.sub hm rfl) | with_reducible apply within_State_crcOutcome (Mask.sub hm rfl)
    | with_reducible apply within_State_deliver (Mask.sub hm rfl) | with_reducible refine Within.snd (by assumption) ?_
    | with_reducible refine Within.fst (by assumption) ?_ | exact touch_MC_STAT (Mask.bit hm rfl)
    | with_reducible refine Within.ite ?_ ?_ | split | (extract_lets; split)
    | (with_reducible refine Within.mk ?_ ?hk
       case hk => (repeat' apply And.intro) <;> first | with_reducible exact .inr rfl | exact .inl (Mask.bit hm rfl)
       first
        | with_reducible assumption | with_reducible apply Within.advanceTo _ (Mask.bit hm rfl)
        | with_reducible apply within_State_raise | with_reducible apply within_State_fault (Mask.sub hm rfl)
        | with_reducible apply within_State_rdmaRead (Mask.sub hm rfl) | with_reducible apply within_State_traffic (Mask.sub hm rfl)
        | with_reducible apply within_State_crcOutcome (Mask.sub hm rfl) | with_reducible apply within_State_deliver (Mask.sub hm rfl)
        | with_reducible refine Within.snd (by assumption) ?_ | with_reducible refine Within.fst (by assumption) ?_
        | with_reducible refine Within.ite ?_ ?_ | split | (extract_lets; split)
        | (with_reducible refine Within.mk ?_ ?hk
           case hk => (repeat' apply And.intro) <;> first | with_reducible exact .inr rfl | exact .inl (Mask.bit hm rfl)
           first
            | with_reducible assumption | with_reducible apply Within.advanceTo _ (Mask.bit hm rfl)
            | with_reducible apply within_State_raise | with_reducible apply within_State_fault (Mask.sub hm rfl)
            | with_reducible apply within_State_rdmaRead (Mask.sub hm rfl)
            | with_reducible apply within_State_traffic (Mask.sub hm rfl)
            | with_reducible apply within_State_crcOutcome (Mask.sub hm rfl)
            | with_reducible apply within_State_deliver (Mask.sub hm rfl) | with_reducible refine Within.snd (by assumption) ?_
            | with_reducible refine Within.fst (by assumption) ?_ | with_reducible refine Within.ite ?_ ?_ | split
            | (extract_lets; split)))

theorem within_State_putGranule {m : Nat} {s₀ s : State} (hm : m ||| 0x80000 = m) (seg : Nat) (gran : Nat) (bs : List Byte)
    (h₀ : Within m s₀ s) : Within m s₀ (State.putGranule s seg gran bs) := by
  unfold State.putGranule
  repeat' first
    | with_reducible assumption | with_reducible refine Within.snd (by assumption) ?_
    | with_reducible refine Within.fst (by assumption) ?_ | with_reducible refine Within.ite ?_ ?_ | split | (extract_lets; split)
    | (with_reducible refine Within.mk ?_ ?hk
       case hk => (repeat' apply And.intro) <;> first | with_reducible exact .inr rfl | exact .inl (Mask.bit hm rfl)
       first
        | with_reducible assumption | with_reducible refine Within.snd (by assumption) ?_
        | with_reducible refine Within.fst (by assumption) ?_ | with_reducible refine Within.ite ?_ ?_ | split | (extract_lets; split)
        | (with_reducible refine Within.mk ?_ ?hk
           case hk => (repeat' apply And.intro) <;> first | with_reducible exact .inr rfl | exact .inl (Mask.bit hm rfl)
           first
            | with_reducible assumption | with_reducible refine Within.snd (by assumption) ?_
            | with_reducible refine Within.fst (by assumption) ?_ | with_reducible refine Within.ite ?_ ?_ | split
            | (extract_lets; split)))

theorem within_State_repaired {m : Nat} {s₀ s : State} (hm : m ||| 0x23804000001080044 = m) (k : Nat) (seg : Nat) (gran : Nat)
    (bs : List Byte) (h₀ : Within m s₀ s) : Within m s₀ (State.repaired s k seg gran bs) := by
  unfold State.repaired
  repeat' first
    | with_reducible assumption | with_reducible intro _ | with_reducible apply within_State_crcOutcome (Mask.sub hm rfl)
    | with_reducible apply within_State_deliver (Mask.sub hm rfl) | with_reducible apply within_State_putGranule (Mask.sub hm rfl)
    | with_reducible refine Within.snd (by assumption) ?_ | with_reducible refine Within.fst (by assumption) ?_
    | with_reducible refine Within.ite ?_ ?_ | split | (extract_lets; split)
    | (with_reducible refine Within.mk ?_ ?hk
       case hk => (repeat' apply And.intro) <;> first | with_reducible exact .inr rfl | exact .inl (Mask.bit hm rfl)
       first
        | with_reducible assumption | with_reducible apply within_State_crcOutcome (Mask.sub hm rfl)
        | with_reducible apply within_State_deliver (Mask.sub hm rfl) | with_reducible apply within_State_putGranule (Mask.sub hm rfl)
        | with_reducible refine Within.snd (by assumption) ?_ | with_reducible refine Within.fst (by assumption) ?_
        | with_reducible refine Within.ite ?_ ?_ | split | (extract_lets; split)
        | (with_reducible refine Within.mk ?_ ?hk
           case hk => (repeat' apply And.intro) <;> first | with_reducible exact .inr rfl | exact .inl (Mask.bit hm rfl)
           first
            | with_reducible assumption | with_reducible apply within_State_crcOutcome (Mask.sub hm rfl)
            | with_reducible apply within_State_deliver (Mask.sub hm rfl)
            | with_reducible apply within_State_putGranule (Mask.sub hm rfl) | with_reducible refine Within.snd (by assumption) ?_
            | with_reducible refine Within.fst (by assumption) ?_ | with_reducible refine Within.ite ?_ ?_ | split
            | (extract_lets; split)))

theorem within_execRequestPromotion {m : Nat} {s₀ s : State} (hm : m ||| 0x80001 = m) (h₀ : Within m s₀ s) :
    AnswersWithin m s₀ (execRequestPromotion s) := by
  unfold execRequestPromotion
  repeat' first
    | with_reducible assumption | with_reducible refine AnswersWithin.next ?_ | with_reducible intro _
    | with_reducible apply Within.advanceTo _ (Mask.bit hm rfl) | with_reducible refine Within.snd (by assumption) ?_
    | with_reducible refine Within.fst (by assumption) ?_ | with_reducible refine Within.ite ?_ ?_ | split | (extract_lets; split)
    | (with_reducible refine Within.mk ?_ ?hk
       case hk => (repeat' apply And.intro) <;> first | with_reducible exact .inr rfl | exact .inl (Mask.bit hm rfl)
       first
        | with_reducible assumption | with_reducible apply Within.advanceTo _ (Mask.bit hm rfl)
        | with_reducible refine Within.snd (by assumption) ?_ | with_reducible refine Within.fst (by assumption) ?_
        | with_reducible refine Within.ite ?_ ?_ | split | (extract_lets; split)
        | (with_reducible refine Within.mk ?_ ?hk
           case hk => (repeat' apply And.intro) <;> first | with_reducible exact .inr rfl | exact .inl (Mask.bit hm rfl)
           first
            | with_reducible assumption | with_reducible apply Within.advanceTo _ (Mask.bit hm rfl)
            | with_reducible refine Within.snd (by assumption) ?_ | with_reducible refine Within.fst (by assumption) ?_
            | with_reducible refine Within.ite ?_ ?_ | split | (extract_lets; split)))

theorem within_execPrefetchWindow {m : Nat} {s₀ s : State} (hm : m ||| 0x20000000000080001 = m) (c : Fin 8) (h₀ : Within m s₀ s) :
    AnswersWithin m s₀ (execPrefetchWindow c s) := by
  unfold execPrefetchWindow
  repeat' first
    | with_reducible assumption | with_reducible refine AnswersWithin.next ?_ | with_reducible intro _
    | with_reducible apply Within.advanceTo _ (Mask.bit hm rfl) | with_reducible apply within_State_request (Mask.sub hm rfl)
    | with_reducible apply within_State_modChan (Mask.sub hm rfl) | with_reducible refine Within.each ?_ ?_
    | with_reducible refine Within.ite ?_ ?_ | split | (extract_lets; split)
    | (with_reducible refine Within.mk ?_ ?hk
       case hk => (repeat' apply And.intro) <;> first | with_reducible exact .inr rfl | exact .inl (Mask.bit hm rfl)
       first
        | with_reducible assumption | with_reducible apply Within.advanceTo _ (Mask.bit hm rfl)
        | with_reducible apply within_State_request (Mask.sub hm rfl) | with_reducible apply within_State_modChan (Mask.sub hm rfl)
        | with_reducible refine Within.each ?_ ?_ | with_reducible refine Within.ite ?_ ?_ | split | (extract_lets; split))

theorem within_execRetrainPauseStart {m : Nat} {s₀ s : State} (hm : m ||| 0x104000000080001 = m) (c : Fin 8) (h₀ : Within m s₀ s) :
    AnswersWithin m s₀ (execRetrainPauseStart c s) := by
  unfold execRetrainPauseStart
  repeat' first
    | with_reducible assumption | with_reducible refine AnswersWithin.next ?_ | with_reducible intro _
    | with_reducible apply Within.advanceTo _ (Mask.bit hm rfl) | with_reducible apply within_State_setFld
    | with_reducible apply within_State_raise | with_reducible apply within_State_satAdd
    | with_reducible apply within_State_modChan (Mask.sub hm rfl) | with_reducible refine Within.snd (by assumption) ?_
    | with_reducible refine Within.fst (by assumption) ?_ | exact touch_MC_RETRAIN_STAT (Mask.bit hm rfl)
    | exact touch_MC_STAT (Mask.bit hm rfl) | with_reducible refine Within.ite ?_ ?_ | split | (extract_lets; split)
    | (with_reducible refine Within.mk ?_ ?hk
       case hk => (repeat' apply And.intro) <;> first | with_reducible exact .inr rfl | exact .inl (Mask.bit hm rfl)
       first
        | with_reducible assumption | with_reducible apply Within.advanceTo _ (Mask.bit hm rfl)
        | with_reducible apply within_State_setFld | with_reducible apply within_State_raise | with_reducible apply within_State_satAdd
        | with_reducible apply within_State_modChan (Mask.sub hm rfl) | with_reducible refine Within.snd (by assumption) ?_
        | with_reducible refine Within.fst (by assumption) ?_ | with_reducible refine Within.ite ?_ ?_ | split | (extract_lets; split)
        | (with_reducible refine Within.mk ?_ ?hk
           case hk => (repeat' apply And.intro) <;> first | with_reducible exact .inr rfl | exact .inl (Mask.bit hm rfl)
           first
            | with_reducible assumption | with_reducible apply Within.advanceTo _ (Mask.bit hm rfl)
            | with_reducible apply within_State_setFld | with_reducible apply within_State_raise
            | with_reducible apply within_State_satAdd | with_reducible apply within_State_modChan (Mask.sub hm rfl)
            | with_reducible refine Within.snd (by assumption) ?_ | with_reducible refine Within.fst (by assumption) ?_
            | with_reducible refine Within.ite ?_ ?_ | split | (extract_lets; split)))

theorem within_execRetrainPauseEnd {m : Nat} {s₀ s : State} (hm : m ||| 0x1080005 = m) (c : Fin 8) (ok : Bool) (h₀ : Within m s₀ s) :
    AnswersWithin m s₀ (execRetrainPauseEnd c ok s) := by
  unfold execRetrainPauseEnd
  repeat' first
    | with_reducible assumption | with_reducible refine AnswersWithin.next ?_ | with_reducible refine AnswersWithin.ite ?_ ?_
    | with_reducible intro _ | with_reducible apply Within.advanceTo _ (Mask.bit hm rfl)
    | with_reducible apply Within.free (Mask.bit hm rfl) | with_reducible apply within_State_fault (Mask.sub hm rfl)
    | with_reducible apply within_State_modChan (Mask.sub hm rfl) | with_reducible refine Within.snd (by assumption) ?_
    | with_reducible refine Within.fst (by assumption) ?_ | with_reducible refine Within.ite ?_ ?_ | split | (extract_lets; split)
    | (with_reducible refine Within.mk ?_ ?hk
       case hk => (repeat' apply And.intro) <;> first | with_reducible exact .inr rfl | exact .inl (Mask.bit hm rfl)
       first
        | with_reducible assumption | with_reducible apply Within.advanceTo _ (Mask.bit hm rfl)
        | with_reducible apply Within.free (Mask.bit hm rfl) | with_reducible apply within_State_fault (Mask.sub hm rfl)
        | with_reducible apply within_State_modChan (Mask.sub hm rfl) | with_reducible refine Within.snd (by assumption) ?_
        | with_reducible refine Within.fst (by assumption) ?_ | with_reducible refine Within.ite ?_ ?_ | split | (extract_lets; split)
        | (with_reducible refine Within.mk ?_ ?hk
           case hk => (repeat' apply And.intro) <;> first | with_reducible exact .inr rfl | exact .inl (Mask.bit hm rfl)
           first
            | with_reducible assumption | with_reducible apply Within.advanceTo _ (Mask.bit hm rfl)
            | with_reducible apply Within.free (Mask.bit hm rfl) | with_reducible apply within_State_fault (Mask.sub hm rfl)
            | with_reducible apply within_State_modChan (Mask.sub hm rfl) | with_reducible refine Within.snd (by assumption) ?_
            | with_reducible refine Within.fst (by assumption) ?_ | with_reducible refine Within.ite ?_ ?_ | split
            | (extract_lets; split)))

theorem within_execSelfRefreshEntry {m : Nat} {s₀ s : State} (hm : m ||| 0x404000000080040 = m) (h₀ : Within m s₀ s) :
    AnswersWithin m s₀ (execSelfRefreshEntry s) := by
  unfold execSelfRefreshEntry
  repeat' first
    | with_reducible assumption | with_reducible refine AnswersWithin.next ?_ | with_reducible intro _
    | with_reducible apply within_State_raise | with_reducible apply within_State_raiseIf
    | with_reducible apply within_State_dropSegment (Mask.sub hm rfl) | with_reducible refine Within.each ?_ ?_
    | exact touch_MC_STAT (Mask.bit hm rfl) | with_reducible refine Within.ite ?_ ?_ | split | (extract_lets; split)
    | (with_reducible refine Within.mk ?_ ?hk
       case hk => (repeat' apply And.intro) <;> first | with_reducible exact .inr rfl | exact .inl (Mask.bit hm rfl)
       first
        | with_reducible assumption | with_reducible apply within_State_raise | with_reducible apply within_State_raiseIf
        | with_reducible apply within_State_dropSegment (Mask.sub hm rfl) | with_reducible refine Within.each ?_ ?_
        | with_reducible refine Within.ite ?_ ?_ | split | (extract_lets; split)
        | (with_reducible refine Within.mk ?_ ?hk
           case hk => (repeat' apply And.intro) <;> first | with_reducible exact .inr rfl | exact .inl (Mask.bit hm rfl)
           first
            | with_reducible assumption | with_reducible apply within_State_raise | with_reducible apply within_State_raiseIf
            | with_reducible apply within_State_dropSegment (Mask.sub hm rfl) | with_reducible refine Within.each ?_ ?_
            | with_reducible refine Within.ite ?_ ?_ | split | (extract_lets; split)))

theorem within_execSelfRefreshExit {m : Nat} {s₀ s : State} (hm : m ||| 0x80000 = m) (h₀ : Within m s₀ s) :
    AnswersWithin m s₀ (execSelfRefreshExit s) := by
  unfold execSelfRefreshExit
  repeat' first
    | with_reducible assumption | with_reducible refine AnswersWithin.next ?_ | with_reducible intro _
    | with_reducible apply within_State_modChan (Mask.sub hm rfl) | with_reducible refine Within.each ?_ ?_
    | with_reducible refine Within.ite ?_ ?_ | split | (extract_lets; split)
    | (with_reducible refine Within.mk ?_ ?hk
       case hk => (repeat' apply And.intro) <;> first | with_reducible exact .inr rfl | exact .inl (Mask.bit hm rfl)
       first
        | with_reducible assumption | with_reducible apply within_State_modChan (Mask.sub hm rfl)
        | with_reducible refine Within.each ?_ ?_ | with_reducible refine Within.ite ?_ ?_ | split | (extract_lets; split)
        | (with_reducible refine Within.mk ?_ ?hk
           case hk => (repeat' apply And.intro) <;> first | with_reducible exact .inr rfl | exact .inl (Mask.bit hm rfl)
           first
            | with_reducible assumption | with_reducible apply within_State_modChan (Mask.sub hm rfl)
            | with_reducible refine Within.each ?_ ?_ | with_reducible refine Within.ite ?_ ?_ | split | (extract_lets; split)))

theorem within_State_loadImage {m : Nat} {s₀ s : State} (hm : m ||| 0x400000000080040 = m) (x : Image) (h₀ : Within m s₀ s) :
    Within m s₀ (State.loadImage s x) := by
  unfold State.loadImage
  repeat' first
    | with_reducible assumption | with_reducible intro _ | with_reducible apply Within.free (Mask.bit hm rfl)
    | with_reducible apply within_State_setFld | with_reducible apply within_State_dropSegment (Mask.sub hm rfl)
    | exact touch_MC_FREE (Mask.bit hm rfl)
    | (with_reducible refine Within.mk ?_ ?hk
       case hk => (repeat' apply And.intro) <;> first | with_reducible exact .inr rfl | exact .inl (Mask.bit hm rfl)
       first
        | with_reducible assumption | with_reducible apply Within.free (Mask.bit hm rfl) | with_reducible apply within_State_setFld
        | with_reducible apply within_State_dropSegment (Mask.sub hm rfl)
        | (with_reducible refine Within.mk ?_ ?hk
           case hk => (repeat' apply And.intro) <;> first | with_reducible exact .inr rfl | exact .inl (Mask.bit hm rfl)
           first
            | with_reducible assumption | with_reducible apply Within.free (Mask.bit hm rfl) | with_reducible apply within_State_setFld
            | with_reducible apply within_State_dropSegment (Mask.sub hm rfl)))

theorem within_State_readIn {m : Nat} {s₀ s : State} (hm : m ||| 0x334000000000000000000000000010001C000 = m) (c : HostCmd)
    (off : Nat) (h₀ : Within m s₀ s) : Within m s₀ (State.readIn s c off) := by
  unfold State.readIn
  repeat' first
    | with_reducible assumption | with_reducible intro _ | with_reducible apply within_State_rdmaRead (Mask.sub hm rfl)
    | with_reducible apply within_State_modCmd (Mask.sub hm rfl) | with_reducible refine Within.ite ?_ ?_ | split
    | (extract_lets; split)
    | (with_reducible refine Within.mk ?_ ?hk
       case hk => (repeat' apply And.intro) <;> first | with_reducible exact .inr rfl | exact .inl (Mask.bit hm rfl)
       first
        | with_reducible assumption | with_reducible apply within_State_rdmaRead (Mask.sub hm rfl)
        | with_reducible apply within_State_modCmd (Mask.sub hm rfl) | with_reducible refine Within.ite ?_ ?_ | split
        | (extract_lets; split))

theorem within_execSegWrite {m : Nat} {s₀ s : State}
    (hm : m ||| 0x80000200000000000000000000000000000000000000000000000000000000000000000000000000000000000334000000000000000000000000010001C000 = m)
    (h₀ : Within m s₀ s) : AnswersWithin m s₀ (execSegWrite s) := by
  unfold execSegWrite
  repeat' first
    | with_reducible assumption | with_reducible refine AnswersWithin.next ?_
    | with_reducible apply within_State_complete (Mask.sub hm rfl) | with_reducible apply within_State_completeWith (Mask.sub hm rfl)
    | with_reducible apply within_State_readIn (Mask.sub hm rfl) | with_reducible refine Within.snd (by assumption) ?_
    | with_reducible refine Within.fst (by assumption) ?_ | with_reducible refine Within.ite ?_ ?_ | split | (extract_lets; split)

theorem within_State_meetSeg {m : Nat} {s₀ s : State} (hm : m ||| 0x8000 = m) (c : HostCmd) (h₀ : Within m s₀ s) :
    Within m s₀ (State.meetSeg s c) := by
  unfold State.meetSeg
  repeat' first
    | with_reducible assumption | with_reducible refine Within.ite ?_ ?_ | (extract_lets; split)
    | (with_reducible refine Within.mk ?_ ?hk
       case hk => (repeat' apply And.intro) <;> first | with_reducible exact .inr rfl | exact .inl (Mask.bit hm rfl))

theorem within_execSegImageReceived {m : Nat} {s₀ s : State}
    (hm : m ||| 0x80000200000000000000000000000000000000000000000000000000000000000000000000000000000000000334000000000000000000040000010009C040 = m)
    (h₀ : Within m s₀ s) : AnswersWithin m s₀ (execSegImageReceived s) := by
  unfold execSegImageReceived
  repeat' first
    | with_reducible assumption | with_reducible refine AnswersWithin.next ?_
    | with_reducible apply within_State_complete (Mask.sub hm rfl) | with_reducible apply within_State_completeWith (Mask.sub hm rfl)
    | with_reducible apply within_State_loadImage (Mask.sub hm rfl) | with_reducible apply within_State_meetSeg (Mask.sub hm rfl) | with_reducible refine Within.snd (by assumption) ?_
    | with_reducible refine Within.fst (by assumption) ?_ | with_reducible refine Within.ite ?_ ?_ | split | (extract_lets; split)

theorem within_execSegFree {m : Nat} {s₀ s : State}
    (hm : m ||| 0x80000200000000000000000000000000000000000000000000000000000000000000000000000000000000000334000000000000000000040000010009C040 = m)
    (h₀ : Within m s₀ s) : AnswersWithin m s₀ (execSegFree s) := by
  unfold execSegFree
  repeat' first
    | with_reducible assumption | with_reducible refine AnswersWithin.next ?_
    | with_reducible apply within_State_complete (Mask.sub hm rfl) | with_reducible apply within_State_completeWith (Mask.sub hm rfl)
    | with_reducible apply within_State_dropSegment (Mask.sub hm rfl) | with_reducible refine Within.snd (by assumption) ?_
    | with_reducible refine Within.fst (by assumption) ?_ | with_reducible refine Within.ite ?_ ?_ | split | (extract_lets; split)

theorem within_execStreamOpen {m : Nat} {s₀ s : State}
    (hm : m ||| 0x8000020000000000000000000000000000000000000000000000000000000000000000000000000000000000033400000000000000001E042000010009C040 = m)
    (h₀ : Within m s₀ s) : AnswersWithin m s₀ (execStreamOpen s) := by
  unfold execStreamOpen
  repeat' first
    | with_reducible assumption | with_reducible refine AnswersWithin.next ?_ | with_reducible refine AnswersWithin.ite ?_ ?_
    | with_reducible apply Within.wr | with_reducible apply within_State_setFld
    | with_reducible apply within_State_complete (Mask.sub hm rfl) | with_reducible apply within_State_completeWith (Mask.sub hm rfl)
    | with_reducible apply within_State_dropSegment (Mask.sub hm rfl) | with_reducible refine Within.snd (by assumption) ?_
    | with_reducible refine Within.fst (by assumption) ?_ | exact touch_MC_BUDGET_USED (Mask.bit hm rfl)
    | exact touch_strmA_MC_STRM_CONS (Mask.bit hm rfl) _ | exact touch_strmA_MC_STRM_PROD (Mask.bit hm rfl) _
    | exact touch_strmA_MC_STRM_PULL (Mask.bit hm rfl) _ | exact touch_strmA_MC_STRM_STAT (Mask.bit hm rfl) _
    | with_reducible refine Within.ite ?_ ?_ | split | (extract_lets; split)
    | (with_reducible refine Within.mk ?_ ?hk
       case hk => (repeat' apply And.intro) <;> first | with_reducible exact .inr rfl | exact .inl (Mask.bit hm rfl)
       first
        | with_reducible assumption | with_reducible apply Within.wr | with_reducible apply within_State_setFld
        | with_reducible apply within_State_complete (Mask.sub hm rfl)
        | with_reducible apply within_State_completeWith (Mask.sub hm rfl)
        | with_reducible apply within_State_dropSegment (Mask.sub hm rfl) | with_reducible refine Within.snd (by assumption) ?_
        | with_reducible refine Within.fst (by assumption) ?_ | with_reducible refine Within.ite ?_ ?_ | split | (extract_lets; split)
        | (with_reducible refine Within.mk ?_ ?hk
           case hk => (repeat' apply And.intro) <;> first | with_reducible exact .inr rfl | exact .inl (Mask.bit hm rfl)
           first
            | with_reducible assumption | with_reducible apply Within.wr | with_reducible apply within_State_setFld
            | with_reducible apply within_State_complete (Mask.sub hm rfl)
            | with_reducible apply within_State_completeWith (Mask.sub hm rfl)
            | with_reducible apply within_State_dropSegment (Mask.sub hm rfl) | with_reducible refine Within.snd (by assumption) ?_
            | with_reducible refine Within.fst (by assumption) ?_ | with_reducible refine Within.ite ?_ ?_ | split
            | (extract_lets; split)))

theorem within_execStreamPull {m : Nat} {s₀ s : State} (hm : m ||| 0x3340000000000000000000000000100094001 = m) (n : Fin 16)
    (h₀ : Within m s₀ s) : AnswersWithin m s₀ (execStreamPull n s) := by
  unfold execStreamPull
  repeat' first
    | with_reducible assumption | with_reducible refine AnswersWithin.next ?_
    | with_reducible apply Within.advanceTo _ (Mask.bit hm rfl) | with_reducible apply within_State_rdmaRead (Mask.sub hm rfl)
    | with_reducible refine Within.snd (by assumption) ?_ | with_reducible refine Within.fst (by assumption) ?_
    | with_reducible refine Within.ite ?_ ?_ | split | (extract_lets; split)
    | (with_reducible refine Within.mk ?_ ?hk
       case hk => (repeat' apply And.intro) <;> first | with_reducible exact .inr rfl | exact .inl (Mask.bit hm rfl)
       first
        | with_reducible assumption | with_reducible apply Within.advanceTo _ (Mask.bit hm rfl)
        | with_reducible apply within_State_rdmaRead (Mask.sub hm rfl) | with_reducible refine Within.snd (by assumption) ?_
        | with_reducible refine Within.fst (by assumption) ?_ | with_reducible refine Within.ite ?_ ?_ | split | (extract_lets; split)
        | (with_reducible refine Within.mk ?_ ?hk
           case hk => (repeat' apply And.intro) <;> first | with_reducible exact .inr rfl | exact .inl (Mask.bit hm rfl)
           first
            | with_reducible assumption | with_reducible apply Within.advanceTo _ (Mask.bit hm rfl)
            | with_reducible apply within_State_rdmaRead (Mask.sub hm rfl) | with_reducible refine Within.snd (by assumption) ?_
            | with_reducible refine Within.fst (by assumption) ?_ | with_reducible refine Within.ite ?_ ?_ | split
            | (extract_lets; split)))

theorem within_State_pulled {m : Nat} {s₀ s : State} (hm : m ||| 0xA0004000000080000 = m) (n : Nat) (g : Nat) (bs : List Byte)
    (h₀ : Within m s₀ s) : Within m s₀ (State.pulled s n g bs) := by
  unfold State.pulled
  repeat' first
    | with_reducible assumption | with_reducible intro _ | with_reducible apply within_State_setFld
    | with_reducible apply within_State_traffic (Mask.sub hm rfl) | with_reducible apply within_State_lookOn (Mask.sub hm rfl)
    | with_reducible apply within_State_putGranule (Mask.sub hm rfl) | with_reducible refine Within.snd (by assumption) ?_
    | with_reducible refine Within.fst (by assumption) ?_ | exact touch_strmA_MC_STRM_PULL (Mask.bit hm rfl) _
    | exact touch_strmA_MC_STRM_STAT (Mask.bit hm rfl) _ | with_reducible refine Within.ite ?_ ?_ | split | (extract_lets; split)
    | (with_reducible refine Within.mk ?_ ?hk
       case hk => (repeat' apply And.intro) <;> first | with_reducible exact .inr rfl | exact .inl (Mask.bit hm rfl)
       first
        | with_reducible assumption | with_reducible apply within_State_setFld
        | with_reducible apply within_State_traffic (Mask.sub hm rfl) | with_reducible apply within_State_lookOn (Mask.sub hm rfl)
        | with_reducible apply within_State_putGranule (Mask.sub hm rfl) | with_reducible refine Within.snd (by assumption) ?_
        | with_reducible refine Within.fst (by assumption) ?_ | with_reducible refine Within.ite ?_ ?_ | split | (extract_lets; split)
        | (with_reducible refine Within.mk ?_ ?hk
           case hk => (repeat' apply And.intro) <;> first | with_reducible exact .inr rfl | exact .inl (Mask.bit hm rfl)
           first
            | with_reducible assumption | with_reducible apply within_State_setFld
            | with_reducible apply within_State_traffic (Mask.sub hm rfl) | with_reducible apply within_State_lookOn (Mask.sub hm rfl)
            | with_reducible apply within_State_putGranule (Mask.sub hm rfl) | with_reducible refine Within.snd (by assumption) ?_
            | with_reducible refine Within.fst (by assumption) ?_ | with_reducible refine Within.ite ?_ ?_ | split
            | (extract_lets; split)))

theorem within_State_setRingActive {m : Nat} {s₀ s : State} (hm : m ||| 0x30004000000000000 = m) (h₀ : Within m s₀ s) :
    Within m s₀ (State.setRingActive s) := by
  unfold State.setRingActive
  repeat' first
    | with_reducible assumption | with_reducible intro _ | with_reducible apply Within.wr | with_reducible apply within_State_setFld
    | with_reducible apply within_State_raise | with_reducible refine Within.each ?_ ?_ | exact touch_MC_RING_ACTIVE (Mask.bit hm rfl)
    | exact touch_MC_STAT (Mask.bit hm rfl) | exact touch_strmA_MC_STRM_STAT (Mask.bit hm rfl) _
    | with_reducible refine Within.ite ?_ ?_ | split | (extract_lets; split)

end Sys2Proof.Machine
end

