-- ==== Sys2Proof/Laws/PlaceWithin.lean ====
section
/-! SUPPORT. What the definitions of Machine/Place.lean keep, and all that they may change (Laws/Within.lean). -/

namespace Sys2Proof.Machine

set_option linter.all false

theorem within_State_showReserve {m : Nat} {s₀ s : State}
    (hm : m ||| 0x10000000000000000000000000000000000000000000000000000000000000000000000000000000000000000000000000000000000000000000000000000000000 = m)
    (c : Nat) (h₀ : Within m s₀ s) : Within m s₀ (State.showReserve s c) := by
  unfold State.showReserve
  repeat' first
    | with_reducible assumption | with_reducible intro _ | with_reducible apply Within.wr
    | with_reducible refine Within.snd (by assumption) ?_ | with_reducible refine Within.fst (by assumption) ?_
    | exact touch_RE_STATE (Mask.bit hm rfl) _ | with_reducible refine Within.ite ?_ ?_ | split | (extract_lets; split)

theorem within_State_setTable {m : Nat} {s₀ s : State} (hm : m ||| 0x100000000000000000400000 = m) (p : Placement)
    (h₀ : Within m s₀ s) : Within m s₀ (State.setTable s p) := by
  unfold State.setTable
  repeat' first
    | with_reducible assumption | with_reducible apply Within.wr | exact touch_PL_ID (Mask.bit hm rfl)
    | (with_reducible refine Within.mk ?_ ?hk
       case hk => (repeat' apply And.intro) <;> first | with_reducible exact .inr rfl | exact .inl (Mask.bit hm rfl)
       first
        | with_reducible assumption | with_reducible apply Within.wr
        | (with_reducible refine Within.mk ?_ ?hk
           case hk => (repeat' apply And.intro) <;> first | with_reducible exact .inr rfl | exact .inl (Mask.bit hm rfl)
           first
            | with_reducible assumption | with_reducible apply Within.wr))

theorem within_State_plTabAdvance {m : Nat} {s₀ s : State} (hm : m ||| 0x1000000000000000000000000 = m) (h₀ : Within m s₀ s) :
    Within m s₀ (State.plTabAdvance s) := by
  unfold State.plTabAdvance
  repeat' first
    | with_reducible assumption | with_reducible apply Within.wr | exact touch_PL_TAB_ADDR (Mask.bit hm rfl)
    | with_reducible refine Within.ite ?_ ?_ | split | (extract_lets; split)

theorem within_State_refuseOrder {m : Nat} {s₀ s : State}
    (hm : m ||| 0x8000020000000000000000000000000000000000000000000000000000000000000000000000000000000000033400000000000C000000000000010041C000 = m)
    (c : HostCmd) (r : Refused) (h₀ : Within m s₀ s) : Within m s₀ (State.refuseOrder s c r) := by
  unfold State.refuseOrder
  repeat' first
    | with_reducible assumption | with_reducible apply Within.wr | with_reducible apply within_State_raise
    | with_reducible apply within_State_complete (Mask.sub hm rfl) | with_reducible apply within_State_completeWith (Mask.sub hm rfl)
    | exact touch_PL_REFUSE (Mask.bit hm rfl) | exact touch_PL_STAT (Mask.bit hm rfl)
    | (with_reducible refine Within.mk ?_ ?hk
       case hk => (repeat' apply And.intro) <;> first | with_reducible exact .inr rfl | exact .inl (Mask.bit hm rfl)
       first
        | with_reducible assumption | with_reducible apply Within.wr | with_reducible apply within_State_raise
        | with_reducible apply within_State_complete (Mask.sub hm rfl)
        | with_reducible apply within_State_completeWith (Mask.sub hm rfl)
        | (with_reducible refine Within.mk ?_ ?hk
           case hk => (repeat' apply And.intro) <;> first | with_reducible exact .inr rfl | exact .inl (Mask.bit hm rfl)
           first
            | with_reducible assumption | with_reducible apply Within.wr | with_reducible apply within_State_raise
            | with_reducible apply within_State_complete (Mask.sub hm rfl)
            | with_reducible apply within_State_completeWith (Mask.sub hm rfl)))

theorem within_State_refuseOther {m : Nat} {s₀ s : State}
    (hm : m ||| 0x8000020000000000000000000000000000000000000000000000000000000000000000000000000000000000033400000000000C000000000000010041C000 = m)
    (c : HostCmd) (h₀ : Within m s₀ s) : Within m s₀ (State.refuseOther s c) := by
  unfold State.refuseOther
  repeat' first
    | with_reducible assumption | with_reducible apply within_State_refuseOrder (Mask.sub hm rfl)
    | (with_reducible refine Within.mk ?_ ?hk
       case hk => (repeat' apply And.intro) <;> first | with_reducible exact .inr rfl | exact .inl (Mask.bit hm rfl)
       first
        | with_reducible assumption | with_reducible apply within_State_refuseOrder (Mask.sub hm rfl)
        | (with_reducible refine Within.mk ?_ ?hk
           case hk => (repeat' apply And.intro) <;> first | with_reducible exact .inr rfl | exact .inl (Mask.bit hm rfl)
           first
            | with_reducible assumption | with_reducible apply within_State_refuseOrder (Mask.sub hm rfl)))

theorem within_execWorkOrder {m : Nat} {s₀ s : State}
    (hm : m ||| 0x8000020000000000000000000000000000000000000000000000000000000000000000000000000000000000033400000000000C000000000000010041C000 = m)
    (h₀ : Within m s₀ s) : AnswersWithin m s₀ (execWorkOrder s) := by
  unfold execWorkOrder
  repeat' first
    | with_reducible assumption | with_reducible refine AnswersWithin.next ?_
    | with_reducible apply within_State_complete (Mask.sub hm rfl) | with_reducible apply within_State_completeWith (Mask.sub hm rfl)
    | with_reducible apply within_State_readIn (Mask.sub hm rfl) | with_reducible apply within_State_refuseOther (Mask.sub hm rfl)
    | with_reducible refine Within.snd (by assumption) ?_ | with_reducible refine Within.fst (by assumption) ?_
    | with_reducible refine Within.ite ?_ ?_ | split | (extract_lets; split)

theorem within_execWorkOrderReceived {m : Nat} {s₀ s : State}
    (hm : m ||| 0x8000020000000000000000000000000000000000000000000000000000000000000000000000000000000000033400000000000C000000000000010041C000 = m)
    (h₀ : Within m s₀ s) : AnswersWithin m s₀ (execWorkOrderReceived s) := by
  unfold execWorkOrderReceived
  repeat' first
    | with_reducible assumption | with_reducible refine AnswersWithin.next ?_ | with_reducible intro _
    | with_reducible apply within_State_modCmd (Mask.sub hm rfl) | with_reducible apply within_State_refuseOrder (Mask.sub hm rfl)
    | with_reducible apply within_State_refuseOther (Mask.sub hm rfl) | with_reducible refine Within.snd (by assumption) ?_
    | with_reducible refine Within.fst (by assumption) ?_ | with_reducible refine Within.ite ?_ ?_ | split | (extract_lets; split)
    | (with_reducible refine Within.mk ?_ ?hk
       case hk => (repeat' apply And.intro) <;> first | with_reducible exact .inr rfl | exact .inl (Mask.bit hm rfl)
       first
        | with_reducible assumption | with_reducible apply within_State_modCmd (Mask.sub hm rfl)
        | with_reducible apply within_State_refuseOrder (Mask.sub hm rfl)
        | with_reducible apply within_State_refuseOther (Mask.sub hm rfl) | with_reducible refine Within.snd (by assumption) ?_
        | with_reducible refine Within.fst (by assumption) ?_ | with_reducible refine Within.ite ?_ ?_ | split | (extract_lets; split)
        | (with_reducible refine Within.mk ?_ ?hk
           case hk => (repeat' apply And.intro) <;> first | with_reducible exact .inr rfl | exact .inl (Mask.bit hm rfl)
           first
            | with_reducible assumption | with_reducible apply within_State_modCmd (Mask.sub hm rfl)
            | with_reducible apply within_State_refuseOrder (Mask.sub hm rfl)
            | with_reducible apply within_State_refuseOther (Mask.sub hm rfl) | with_reducible refine Within.snd (by assumption) ?_
            | with_reducible refine Within.fst (by assumption) ?_ | with_reducible refine Within.ite ?_ ?_ | split
            | (extract_lets; split)))

theorem within_State_loadReg {m : Nat} {s₀ s : State} (hm : m ||| 0x200000018 = m) (a : Nat) (v : Word) (h₀ : Within m s₀ s) :
    Within m s₀ (State.loadReg s a v) := by
  unfold State.loadReg
  repeat' first
    | with_reducible assumption | with_reducible apply Within.wr | exact Touch.any (Mask.bit hm rfl)
    | (with_reducible refine Within.mk ?_ ?hk
       case hk => (repeat' apply And.intro) <;> first | with_reducible exact .inr rfl | exact .inl (Mask.bit hm rfl)
       first
        | with_reducible assumption | with_reducible apply Within.wr)

theorem within_State_loadStrand {m : Nat} {s₀ s : State}
    (hm : m ||| 0x4000000000000000000000000000000000000000000000000000000000000000000200000058 = m) (q : Order) (p : Placement)
    (k : Nat) (e : StrandEntry) (h₀ : Within m s₀ s) : Within m s₀ (State.loadStrand s q p k e) := by
  unfold State.loadStrand
  repeat' first
    | with_reducible assumption | with_reducible intro _ | with_reducible apply Within.wr
    | with_reducible apply within_State_modStrand (Mask.sub hm rfl) | with_reducible apply within_State_loadReg (Mask.sub hm rfl)
    | with_reducible refine Within.each ?_ ?_ | with_reducible refine Within.snd (by assumption) ?_
    | with_reducible refine Within.fst (by assumption) ?_ | exact touch_SQ_ANCH (Mask.bit hm rfl) _ | exact Touch.any (Mask.bit hm rfl)
    | with_reducible refine Within.ite ?_ ?_ | split | (extract_lets; split)
    | (with_reducible refine Within.mk ?_ ?hk
       case hk => (repeat' apply And.intro) <;> first | with_reducible exact .inr rfl | exact .inl (Mask.bit hm rfl)
       first
        | with_reducible assumption | with_reducible apply Within.wr | with_reducible apply within_State_modStrand (Mask.sub hm rfl)
        | with_reducible apply within_State_loadReg (Mask.sub hm rfl) | with_reducible refine Within.each ?_ ?_
        | with_reducible refine Within.snd (by assumption) ?_ | with_reducible refine Within.fst (by assumption) ?_
        | with_reducible refine Within.ite ?_ ?_ | split | (extract_lets; split)
        | (with_reducible refine Within.mk ?_ ?hk
           case hk => (repeat' apply And.intro) <;> first | with_reducible exact .inr rfl | exact .inl (Mask.bit hm rfl)
           first
            | with_reducible assumption | with_reducible apply Within.wr
            | with_reducible apply within_State_modStrand (Mask.sub hm rfl)
            | with_reducible apply within_State_loadReg (Mask.sub hm rfl) | with_reducible refine Within.each ?_ ?_
            | with_reducible refine Within.snd (by assumption) ?_ | with_reducible refine Within.fst (by assumption) ?_
            | with_reducible refine Within.ite ?_ ?_ | split | (extract_lets; split)))

theorem within_State_clearStrand {m : Nat} {s₀ s : State}
    (hm : m ||| 0x100000000004000000000000000000000000000000000000000000000000000000000000000000000000040 = m) (k : Nat)
    (h₀ : Within m s₀ s) : Within m s₀ (State.clearStrand s k) := by
  unfold State.clearStrand
  repeat' first
    | with_reducible assumption | with_reducible intro _ | with_reducible apply Within.wr
    | with_reducible apply within_State_modStrand (Mask.sub hm rfl) | exact touch_FL_DIE (Mask.bit hm rfl) _
    | exact touch_SQ_ANCH (Mask.bit hm rfl) _
    | (with_reducible refine Within.mk ?_ ?hk
       case hk => (repeat' apply And.intro) <;> first | with_reducible exact .inr rfl | exact .inl (Mask.bit hm rfl)
       first
        | with_reducible assumption | with_reducible apply Within.wr | with_reducible apply within_State_modStrand (Mask.sub hm rfl))

theorem within_State_releaseContexts {m : Nat} {s₀ s : State} (hm : m ||| 0x200000 = m) (h₀ : Within m s₀ s) :
    Within m s₀ (State.releaseContexts s) := by
  unfold State.releaseContexts
  repeat' first
    | with_reducible assumption | with_reducible intro _
    | (with_reducible refine Within.mk ?_ ?hk
       case hk => (repeat' apply And.intro) <;> first | with_reducible exact .inr rfl | exact .inl (Mask.bit hm rfl)
       first
        | with_reducible assumption
        | (with_reducible refine Within.mk ?_ ?hk
           case hk => (repeat' apply And.intro) <;> first | with_reducible exact .inr rfl | exact .inl (Mask.bit hm rfl)
           first
            | with_reducible assumption))

theorem within_State_beginApply {m : Nat} {s₀ s : State}
    (hm : m ||| 0x180030000000000C00000000000001000000000000200000700000000000000000000003EA004040003FFFFFFFF = m) (m_ : Placing)
    (p : Placement) (q : Order) (h₀ : Within m s₀ s) : Within m s₀ (State.beginApply s m_ p q) := by
  unfold State.beginApply
  repeat' first
    | with_reducible assumption | with_reducible intro _ | with_reducible apply Within.wr
    | with_reducible apply within_State_requestWake (Mask.sub hm rfl) | with_reducible apply within_State_request (Mask.sub hm rfl)
    | with_reducible apply within_State_clearFail (Mask.sub hm rfl) | with_reducible apply within_State_clearSteps (Mask.sub hm rfl)
    | with_reducible apply within_State_resetJournal (Mask.sub hm rfl) | with_reducible apply within_State_clearFails (Mask.sub hm rfl)
    | with_reducible apply within_State_loadStrand (Mask.sub hm rfl) | with_reducible apply within_State_clearStrand (Mask.sub hm rfl)
    | with_reducible apply within_State_releaseContexts (Mask.sub hm rfl) | with_reducible refine Within.each ?_ ?_
    | with_reducible refine Within.foldl _ ?_ ?_ | with_reducible refine Within.foldlFst _ ?_ ?_
    | with_reducible refine Within.foldlSnd _ ?_ ?_ | with_reducible refine Within.snd (by assumption) ?_
    | with_reducible refine Within.fst (by assumption) ?_ | exact touch_FL_DIE (Mask.bit hm rfl) _ | exact Touch.any (Mask.bit hm rfl)
    | with_reducible refine Within.ite ?_ ?_ | split | (extract_lets; split)
    | (with_reducible refine Within.mk ?_ ?hk
       case hk => (repeat' apply And.intro) <;> first | with_reducible exact .inr rfl | exact .inl (Mask.bit hm rfl)
       first
        | with_reducible assumption | with_reducible apply Within.wr | with_reducible apply within_State_requestWake (Mask.sub hm rfl)
        | with_reducible apply within_State_request (Mask.sub hm rfl) | with_reducible apply within_State_clearFail (Mask.sub hm rfl)
        | with_reducible apply within_State_clearSteps (Mask.sub hm rfl)
        | with_reducible apply within_State_resetJournal (Mask.sub hm rfl)
        | with_reducible apply within_State_clearFails (Mask.sub hm rfl)
        | with_reducible apply within_State_loadStrand (Mask.sub hm rfl)
        | with_reducible apply within_State_clearStrand (Mask.sub hm rfl)
        | with_reducible apply within_State_releaseContexts (Mask.sub hm rfl) | with_reducible refine Within.each ?_ ?_
        | with_reducible refine Within.foldl _ ?_ ?_ | with_reducible refine Within.foldlFst _ ?_ ?_
        | with_reducible refine Within.foldlSnd _ ?_ ?_ | with_reducible refine Within.snd (by assumption) ?_
        | with_reducible refine Within.fst (by assumption) ?_ | with_reducible refine Within.ite ?_ ?_ | split | (extract_lets; split)
        | (with_reducible refine Within.mk ?_ ?hk
           case hk => (repeat' apply And.intro) <;> first | with_reducible exact .inr rfl | exact .inl (Mask.bit hm rfl)
           first
            | with_reducible assumption | with_reducible apply Within.wr
            | with_reducible apply within_State_requestWake (Mask.sub hm rfl)
            | with_reducible apply within_State_request (Mask.sub hm rfl)
            | with_reducible apply within_State_clearFail (Mask.sub hm rfl)
            | with_reducible apply within_State_clearSteps (Mask.sub hm rfl)
            | with_reducible apply within_State_resetJournal (Mask.sub hm rfl)
            | with_reducible apply within_State_clearFails (Mask.sub hm rfl)
            | with_reducible apply within_State_loadStrand (Mask.sub hm rfl)
            | with_reducible apply within_State_clearStrand (Mask.sub hm rfl)
            | with_reducible apply within_State_releaseContexts (Mask.sub hm rfl) | with_reducible refine Within.each ?_ ?_
            | with_reducible refine Within.foldl _ ?_ ?_ | with_reducible refine Within.foldlFst _ ?_ ?_
            | with_reducible refine Within.foldlSnd _ ?_ ?_ | with_reducible refine Within.snd (by assumption) ?_
            | with_reducible refine Within.fst (by assumption) ?_ | with_reducible refine Within.ite ?_ ?_ | split
            | (extract_lets; split)))

theorem within_execPlacementDecided {m : Nat} {s₀ s : State}
    (hm : m ||| 0x80000200000000000000000000000000000180030000000000C0000000000000100000000000020000070000033400000000002C003EA004040003FFFFFFFF = m)
    (h₀ : Within m s₀ s) : AnswersWithin m s₀ (execPlacementDecided s) := by
  unfold execPlacementDecided
  repeat' first
    | with_reducible assumption | with_reducible refine AnswersWithin.next ?_ | with_reducible intro _
    | with_reducible apply Within.advanceTo _ (Mask.bit hm rfl) | with_reducible apply Within.free (Mask.bit hm rfl)
    | with_reducible apply within_State_setFld | with_reducible apply within_State_modCmd (Mask.sub hm rfl)
    | with_reducible apply within_State_refuseOrder (Mask.sub hm rfl) | with_reducible apply within_State_beginApply (Mask.sub hm rfl)
    | with_reducible refine Within.snd (by assumption) ?_ | with_reducible refine Within.fst (by assumption) ?_
    | exact touch_PL_TIME (Mask.bit hm rfl) | exact Touch.any (Mask.bit hm rfl) | with_reducible refine Within.ite ?_ ?_ | split
    | (extract_lets; split)
    | (with_reducible refine Within.mk ?_ ?hk
       case hk => (repeat' apply And.intro) <;> first | with_reducible exact .inr rfl | exact .inl (Mask.bit hm rfl)
       first
        | with_reducible assumption | with_reducible apply Within.advanceTo _ (Mask.bit hm rfl)
        | with_reducible apply Within.free (Mask.bit hm rfl) | with_reducible apply within_State_setFld
        | with_reducible apply within_State_modCmd (Mask.sub hm rfl) | with_reducible apply within_State_refuseOrder (Mask.sub hm rfl)
        | with_reducible apply within_State_beginApply (Mask.sub hm rfl) | with_reducible refine Within.snd (by assumption) ?_
        | with_reducible refine Within.fst (by assumption) ?_ | with_reducible refine Within.ite ?_ ?_ | split | (extract_lets; split)
        | (with_reducible refine Within.mk ?_ ?hk
           case hk => (repeat' apply And.intro) <;> first | with_reducible exact .inr rfl | exact .inl (Mask.bit hm rfl)
           first
            | with_reducible assumption | with_reducible apply Within.advanceTo _ (Mask.bit hm rfl)
            | with_reducible apply Within.free (Mask.bit hm rfl) | with_reducible apply within_State_setFld
            | with_reducible apply within_State_modCmd (Mask.sub hm rfl)
            | with_reducible apply within_State_refuseOrder (Mask.sub hm rfl)
            | with_reducible apply within_State_beginApply (Mask.sub hm rfl) | with_reducible refine Within.snd (by assumption) ?_
            | with_reducible refine Within.fst (by assumption) ?_ | with_reducible refine Within.ite ?_ ?_ | split
            | (extract_lets; split)))

theorem within_State_switchEngines {m : Nat} {s₀ s : State}
    (hm : m ||| 0x10000000000000000000000000000000000000000000000000000000080000000000001000000000000000000000000000000000000000000000000000000000000 = m)
    (p : Placement) (h₀ : Within m s₀ s) : Within m s₀ (State.switchEngines s p) := by
  unfold State.switchEngines
  repeat' first
    | with_reducible assumption | with_reducible intro _ | with_reducible apply within_State_setFld
    | with_reducible apply within_State_setRole (Mask.sub hm rfl) | with_reducible apply within_State_showReserve (Mask.sub hm rfl)
    | with_reducible refine Within.each ?_ ?_ | with_reducible refine Within.snd (by assumption) ?_
    | with_reducible refine Within.fst (by assumption) ?_ | exact touch_lbPos (Mask.bit hm rfl) _
    | with_reducible refine Within.ite ?_ ?_ | split | (extract_lets; split)

theorem within_State_showBudget {m : Nat} {s₀ s : State} (hm : m ||| 0x20000000000000 = m) (h₀ : Within m s₀ s) :
    Within m s₀ (State.showBudget s) := by
  unfold State.showBudget
  repeat' first
    | with_reducible assumption | with_reducible intro _ | with_reducible apply within_State_setFld
    | with_reducible refine Within.foldl _ ?_ ?_ | with_reducible refine Within.foldlFst _ ?_ ?_
    | with_reducible refine Within.foldlSnd _ ?_ ?_ | with_reducible refine Within.snd (by assumption) ?_
    | with_reducible refine Within.fst (by assumption) ?_ | exact touch_MC_BUDGET_USED (Mask.bit hm rfl)
    | with_reducible refine Within.ite ?_ ?_ | split | (extract_lets; split)

theorem within_execPlacementApplied {m : Nat} {s₀ s : State}
    (hm : m ||| 0x1000080000200000000000000000000000000000000000000000000008000000000000100000000000000000000000334000000000034000000002000010041C005 = m)
    (h₀ : Within m s₀ s) : AnswersWithin m s₀ (execPlacementApplied s) := by
  unfold execPlacementApplied
  repeat' first
    | with_reducible assumption | with_reducible refine AnswersWithin.next ?_ | with_reducible intro _ | with_reducible apply Within.wr
    | with_reducible apply Within.advanceTo _ (Mask.bit hm rfl) | with_reducible apply Within.free (Mask.bit hm rfl)
    | with_reducible apply within_State_setFld | with_reducible apply within_State_raise | with_reducible apply within_State_raiseIf
    | with_reducible apply within_State_complete (Mask.sub hm rfl) | with_reducible apply within_State_writeOut (Mask.sub hm rfl)
    | with_reducible apply within_State_setTable (Mask.sub hm rfl) | with_reducible apply within_State_switchEngines (Mask.sub hm rfl)
    | with_reducible apply within_State_showBudget (Mask.sub hm rfl) | with_reducible refine Within.snd (by assumption) ?_
    | with_reducible refine Within.fst (by assumption) ?_ | exact touch_PL_STAT (Mask.bit hm rfl)
    | exact touch_PL_TIME (Mask.bit hm rfl) | with_reducible refine Within.ite ?_ ?_ | split | (extract_lets; split)
    | (with_reducible refine Within.mk ?_ ?hk
       case hk => (repeat' apply And.intro) <;> first | with_reducible exact .inr rfl | exact .inl (Mask.bit hm rfl)
       first
        | with_reducible assumption | with_reducible apply Within.wr | with_reducible apply Within.advanceTo _ (Mask.bit hm rfl)
        | with_reducible apply Within.free (Mask.bit hm rfl) | with_reducible apply within_State_setFld
        | with_reducible apply within_State_raise | with_reducible apply within_State_raiseIf
        | with_reducible apply within_State_complete (Mask.sub hm rfl) | with_reducible apply within_State_writeOut (Mask.sub hm rfl)
        | with_reducible apply within_State_setTable (Mask.sub hm rfl)
        | with_reducible apply within_State_switchEngines (Mask.sub hm rfl)
        | with_reducible apply within_State_showBudget (Mask.sub hm rfl) | with_reducible refine Within.snd (by assumption) ?_
        | with_reducible refine Within.fst (by assumption) ?_ | with_reducible refine Within.ite ?_ ?_ | split | (extract_lets; split)
        | (with_reducible refine Within.mk ?_ ?hk
           case hk => (repeat' apply And.intro) <;> first | with_reducible exact .inr rfl | exact .inl (Mask.bit hm rfl)
           first
            | with_reducible assumption | with_reducible apply Within.wr | with_reducible apply Within.advanceTo _ (Mask.bit hm rfl)
            | with_reducible apply Within.free (Mask.bit hm rfl) | with_reducible apply within_State_setFld
            | with_reducible apply within_State_raise | with_reducible apply within_State_raiseIf
            | with_reducible apply within_State_complete (Mask.sub hm rfl)
            | with_reducible apply within_State_writeOut (Mask.sub hm rfl)
            | with_reducible apply within_State_setTable (Mask.sub hm rfl)
            | with_reducible apply within_State_switchEngines (Mask.sub hm rfl)
            | with_reducible apply within_State_showBudget (Mask.sub hm rfl) | with_reducible refine Within.snd (by assumption) ?_
            | with_reducible refine Within.fst (by assumption) ?_ | with_reducible refine Within.ite ?_ ?_ | split
            | (extract_lets; split)))

theorem within_State_release {m : Nat} {s₀ s : State}
    (hm : m ||| 0x100000000004080000000000001000000000000000000000000000000000000140000000020000000400040 = m) (h₀ : Within m s₀ s) :
    Within m s₀ (State.release s) := by
  unfold State.release
  repeat' first
    | with_reducible assumption | with_reducible intro _ | with_reducible apply Within.wr | with_reducible apply within_State_setFld
    | with_reducible apply within_State_raise | with_reducible apply within_State_setRole (Mask.sub hm rfl)
    | with_reducible apply within_State_clearStrand (Mask.sub hm rfl) | with_reducible apply within_State_showBudget (Mask.sub hm rfl)
    | with_reducible refine Within.each ?_ ?_ | exact touch_lbPos (Mask.bit hm rfl) _ | exact touch_PL_ID (Mask.bit hm rfl)
    | exact touch_PL_STAT (Mask.bit hm rfl) | with_reducible refine Within.ite ?_ ?_ | split | (extract_lets; split)
    | (with_reducible refine Within.mk ?_ ?hk
       case hk => (repeat' apply And.intro) <;> first | with_reducible exact .inr rfl | exact .inl (Mask.bit hm rfl)
       first
        | with_reducible assumption | with_reducible apply Within.wr | with_reducible apply within_State_setFld
        | with_reducible apply within_State_raise | with_reducible apply within_State_setRole (Mask.sub hm rfl)
        | with_reducible apply within_State_clearStrand (Mask.sub hm rfl)
        | with_reducible apply within_State_showBudget (Mask.sub hm rfl) | with_reducible refine Within.each ?_ ?_
        | with_reducible refine Within.ite ?_ ?_ | split | (extract_lets; split)
        | (with_reducible refine Within.mk ?_ ?hk
           case hk => (repeat' apply And.intro) <;> first | with_reducible exact .inr rfl | exact .inl (Mask.bit hm rfl)
           first
            | with_reducible assumption | with_reducible apply Within.wr | with_reducible apply within_State_setFld
            | with_reducible apply within_State_raise | with_reducible apply within_State_setRole (Mask.sub hm rfl)
            | with_reducible apply within_State_clearStrand (Mask.sub hm rfl)
            | with_reducible apply within_State_showBudget (Mask.sub hm rfl) | with_reducible refine Within.each ?_ ?_
            | with_reducible refine Within.ite ?_ ?_ | split | (extract_lets; split)))

theorem within_State_healthChanged {m : Nat} {s₀ s : State}
    (hm : m ||| 0x8000020000000000000000000000000000000000000000000000000000000000000000000000000000000000033400000000000C000000000000010041C000 = m)
    (h₀ : Within m s₀ s) : Within m s₀ (State.healthChanged s) := by
  unfold State.healthChanged
  repeat' first
    | with_reducible assumption | with_reducible intro _ | with_reducible apply within_State_modCmd (Mask.sub hm rfl)
    | with_reducible apply within_State_refuseOrder (Mask.sub hm rfl) | with_reducible refine Within.snd (by assumption) ?_
    | with_reducible refine Within.fst (by assumption) ?_ | with_reducible refine Within.ite ?_ ?_ | split | (extract_lets; split)
    | (with_reducible refine Within.mk ?_ ?hk
       case hk => (repeat' apply And.intro) <;> first | with_reducible exact .inr rfl | exact .inl (Mask.bit hm rfl)
       first
        | with_reducible assumption | with_reducible apply within_State_modCmd (Mask.sub hm rfl)
        | with_reducible apply within_State_refuseOrder (Mask.sub hm rfl) | with_reducible refine Within.snd (by assumption) ?_
        | with_reducible refine Within.fst (by assumption) ?_ | with_reducible refine Within.ite ?_ ?_ | split | (extract_lets; split)
        | (with_reducible refine Within.mk ?_ ?hk
           case hk => (repeat' apply And.intro) <;> first | with_reducible exact .inr rfl | exact .inl (Mask.bit hm rfl)
           first
            | with_reducible assumption | with_reducible apply within_State_modCmd (Mask.sub hm rfl)
            | with_reducible apply within_State_refuseOrder (Mask.sub hm rfl) | with_reducible refine Within.snd (by assumption) ?_
            | with_reducible refine Within.fst (by assumption) ?_ | with_reducible refine Within.ite ?_ ?_ | split
            | (extract_lets; split)))

theorem within_State_setHealth {m : Nat} {s₀ s : State}
    (hm : m ||| 0x10000000000000000000000000000000000000000000000000000000000000000000000000000000000000000000000000000000000400000000000000000000000 = m)
    (e : Nat) (out : Bool) (h₀ : Within m s₀ s) : Within m s₀ (State.setHealth s e out) := by
  unfold State.setHealth
  repeat' first
    | with_reducible assumption | with_reducible apply Within.wr | with_reducible apply within_State_showReserve (Mask.sub hm rfl)
    | exact touch_healthA (Mask.bit hm rfl) _ | with_reducible refine Within.ite ?_ ?_ | split | (extract_lets; split)

theorem within_State_modEntry {m : Nat} {s₀ s : State} (hm : m ||| 0x100000000000000000400000 = m) (k : Nat)
    (f : StrandEntry → StrandEntry) (h₀ : Within m s₀ s) : Within m s₀ (State.modEntry s k f) := by
  unfold State.modEntry
  repeat' first
    | with_reducible assumption | with_reducible apply within_State_setTable (Mask.sub hm rfl)
    | with_reducible refine Within.snd (by assumption) ?_ | with_reducible refine Within.fst (by assumption) ?_
    | with_reducible refine Within.ite ?_ ?_ | split | (extract_lets; split)
    | (with_reducible refine Within.mk ?_ ?hk
       case hk => (repeat' apply And.intro) <;> first | with_reducible exact .inr rfl | exact .inl (Mask.bit hm rfl)
       first
        | with_reducible assumption | with_reducible apply within_State_setTable (Mask.sub hm rfl)
        | with_reducible refine Within.snd (by assumption) ?_ | with_reducible refine Within.fst (by assumption) ?_
        | with_reducible refine Within.ite ?_ ?_ | split | (extract_lets; split)
        | (with_reducible refine Within.mk ?_ ?hk
           case hk => (repeat' apply And.intro) <;> first | with_reducible exact .inr rfl | exact .inl (Mask.bit hm rfl)
           first
            | with_reducible assumption | with_reducible apply within_State_setTable (Mask.sub hm rfl)
            | with_reducible refine Within.snd (by assumption) ?_ | with_reducible refine Within.fst (by assumption) ?_
            | with_reducible refine Within.ite ?_ ?_ | split | (extract_lets; split)))

theorem within_State_giveReserve {m : Nat} {s₀ s : State}
    (hm : m ||| 0x10000000000000000000000000000000000000000000000000000000000000000000001000000000000000000000000000000000000140000000000000000400000 = m)
    (k : Nat) (h₀ : Within m s₀ s) : Within m s₀ (State.giveReserve s k) := by
  unfold State.giveReserve
  repeat' first
    | with_reducible assumption | with_reducible intro _ | with_reducible apply within_State_setFld
    | with_reducible apply within_State_raise | with_reducible apply within_State_showReserve (Mask.sub hm rfl)
    | with_reducible apply within_State_modEntry (Mask.sub hm rfl) | exact touch_lbPos (Mask.bit hm rfl) _
    | exact touch_PL_STAT (Mask.bit hm rfl)
    | (with_reducible refine Within.mk ?_ ?hk
       case hk => (repeat' apply And.intro) <;> first | with_reducible exact .inr rfl | exact .inl (Mask.bit hm rfl)
       first
        | with_reducible assumption | with_reducible apply within_State_setFld | with_reducible apply within_State_raise
        | with_reducible apply within_State_showReserve (Mask.sub hm rfl)
        | with_reducible apply within_State_modEntry (Mask.sub hm rfl))

theorem within_State_noEngine {m : Nat} {s₀ s : State}
    (hm : m ||| 0x10000800002000000000F901080E00000870000080000000181E000078002000000001100000020000200000702000B3400040020001400382204203003FFFFFFFF = m)
    (k : Nat) (h₀ : Within m s₀ s) : Within m s₀ (State.noEngine s k) := by
  unfold State.noEngine
  repeat' first
    | with_reducible assumption | with_reducible intro _ | with_reducible apply within_State_setFld
    | with_reducible apply within_State_raise | with_reducible apply within_State_raiseStop (Mask.sub hm rfl)
    | with_reducible apply within_State_showReserve (Mask.sub hm rfl) | with_reducible apply within_State_modEntry (Mask.sub hm rfl)
    | exact touch_lbPos (Mask.bit hm rfl) _ | exact touch_PL_STAT (Mask.bit hm rfl) | exact Touch.any (Mask.bit hm rfl)
    | (with_reducible refine Within.mk ?_ ?hk
       case hk => (repeat' apply And.intro) <;> first | with_reducible exact .inr rfl | exact .inl (Mask.bit hm rfl)
       first
        | with_reducible assumption | with_reducible apply within_State_setFld | with_reducible apply within_State_raise
        | with_reducible apply within_State_raiseStop (Mask.sub hm rfl)
        | with_reducible apply within_State_showReserve (Mask.sub hm rfl)
        | with_reducible apply within_State_modEntry (Mask.sub hm rfl))

theorem within_State_replaceEngine {m : Nat} {s₀ s : State}
    (hm : m ||| 0x10000800002000000000F901080E00000870000080000000181E000078002000000001100000020000200000702000B3400040020001400382204203003FFFFFFFF = m)
    (e : Nat) (h₀ : Within m s₀ s) : Within m s₀ (State.replaceEngine s e) := by
  unfold State.replaceEngine
  repeat' first
    | with_reducible assumption | with_reducible intro _ | with_reducible apply within_State_giveReserve (Mask.sub hm rfl)
    | with_reducible apply within_State_noEngine (Mask.sub hm rfl) | with_reducible refine Within.snd (by assumption) ?_
    | with_reducible refine Within.fst (by assumption) ?_ | exact Touch.any (Mask.bit hm rfl) | with_reducible refine Within.ite ?_ ?_
    | split | (extract_lets; split)

theorem within_State_engineFails {m : Nat} {s₀ s : State}
    (hm : m ||| 0x10000800002000000000F901080E00000870000080000000181E000078002000000001100000020000200000702000B3400040020005C00382204203003FFFFFFFF = m)
    (e : Nat) (h₀ : Within m s₀ s) : Within m s₀ (State.engineFails s e) := by
  unfold State.engineFails
  repeat' first
    | with_reducible assumption | with_reducible apply within_State_healthChanged (Mask.sub hm rfl)
    | with_reducible apply within_State_setHealth (Mask.sub hm rfl) | with_reducible apply within_State_replaceEngine (Mask.sub hm rfl)
    | exact Touch.any (Mask.bit hm rfl) | with_reducible refine Within.ite ?_ ?_ | split | (extract_lets; split)

theorem within_State_resumePlacing {m : Nat} {s₀ s : State}
    (hm : m ||| 0x180030000000000C00000000000001000000000000200000700000000000000000000003EA004040003FFFFFFFF = m)
    (h₀ : Within m s₀ s) : Within m s₀ (State.resumePlacing s) := by
  unfold State.resumePlacing
  repeat' first
    | with_reducible assumption | with_reducible apply within_State_beginApply (Mask.sub hm rfl)
    | with_reducible refine Within.snd (by assumption) ?_ | with_reducible refine Within.fst (by assumption) ?_
    | exact Touch.any (Mask.bit hm rfl) | with_reducible refine Within.ite ?_ ?_ | split | (extract_lets; split)

end Sys2Proof.Machine
end

