-- ==== Sys2Proof/Laws/CalWithin.lean ====
section
/-! SUPPORT. What the definitions of Machine/Cal.lean keep, and all that they may change (Laws/Within.lean). -/

namespace Sys2Proof.Machine

set_option linter.all false

theorem within_State_cbAdvance {m : Nat} {s₀ s : State} (hm : m ||| 0x400000000000000000000000000 = m) (h₀ : Within m s₀ s) :
    Within m s₀ (State.cbAdvance s) := by
  unfold State.cbAdvance
  repeat' first
    | with_reducible assumption | with_reducible apply within_State_setFld | exact touch_CB_ADDR (Mask.bit hm rfl)
    | with_reducible refine Within.ite ?_ ?_ | split | (extract_lets; split)

theorem within_State_cbWrite {m : Nat} {s₀ s : State} (hm : m ||| 0x408000000000000000000000008 = m) (al : Alias) (d : Word)
    (h₀ : Within m s₀ s) : Within m s₀ (State.cbWrite s al d) := by
  unfold State.cbWrite
  repeat' first
    | with_reducible assumption | with_reducible apply Within.wr | with_reducible apply within_State_raise
    | with_reducible apply within_State_writeShadow (Mask.sub hm rfl) | with_reducible apply within_State_cbAdvance (Mask.sub hm rfl)
    | exact touch_CB_STAT (Mask.bit hm rfl) | with_reducible refine Within.ite ?_ ?_ | split | (extract_lets; split)

theorem within_State_calResult {m : Nat} {s₀ s : State} (hm : m ||| 0x20000000000000000000000000 = m) (k : Nat) (kind : Nat)
    (outcome : Nat) (accept : Nat) (reject : Nat) (h₀ : Within m s₀ s) :
    Within m s₀ (State.calResult s k kind outcome accept reject) := by
  unfold State.calResult
  repeat' first
    | with_reducible assumption | with_reducible apply Within.wr | exact touch_CB_RES (Mask.bit hm rfl)

theorem within_State_calReply {m : Nat} {s₀ s : State}
    (hm : m ||| 0x80000200000000000000000000000000000000000000000000000000000000000000000000000000000000000334000000000000000000000000010001C000 = m)
    (cmd : Option (Nat × Nat)) (status : Nat) (h₀ : Within m s₀ s) : Within m s₀ (State.calReply s cmd status) := by
  unfold State.calReply
  repeat' first
    | with_reducible assumption | with_reducible apply within_State_complete (Mask.sub hm rfl)
    | with_reducible refine Within.snd (by assumption) ?_ | with_reducible refine Within.fst (by assumption) ?_
    | with_reducible refine Within.ite ?_ ?_ | split | (extract_lets; split)

theorem within_State_showCalCoves {m : Nat} {s₀ s : State} (hm : m ||| 0x10000000000000000000000000 = m) (h₀ : Within m s₀ s) :
    Within m s₀ (State.showCalCoves s) := by
  unfold State.showCalCoves
  repeat' first
    | with_reducible assumption | with_reducible intro _ | with_reducible apply within_State_setFld
    | with_reducible refine Within.foldl _ ?_ ?_ | with_reducible refine Within.foldlFst _ ?_ ?_
    | with_reducible refine Within.foldlSnd _ ?_ ?_ | exact touch_CB_BUSY (Mask.bit hm rfl)

theorem within_State_calPmu {m : Nat} {s₀ s : State} (hm : m ||| 0x100 = m) (n : Nat) (kind : Nat) (src : Nat) (h₀ : Within m s₀ s) :
    Within m s₀ (State.calPmu s n kind src) := by
  unfold State.calPmu
  repeat' first
    | with_reducible assumption | with_reducible intro _ | with_reducible apply within_State_modPmu (Mask.sub hm rfl)
    | with_reducible apply within_State_pmuOff (Mask.sub hm rfl) | with_reducible refine Within.ite ?_ ?_ | split
    | (extract_lets; split)

theorem within_State_dropZeros {m : Nat} {s₀ s : State} (hm : m ||| 0x2000 = m) (k : Nat) (kind : Nat) (src : Nat)
    (h₀ : Within m s₀ s) : Within m s₀ (State.dropZeros s k kind src) := by
  unfold State.dropZeros
  repeat' first
    | with_reducible assumption | with_reducible intro _ | with_reducible refine Within.ite ?_ ?_ | split | (extract_lets; split)
    | (with_reducible refine Within.mk ?_ ?hk
       case hk => (repeat' apply And.intro) <;> first | with_reducible exact .inr rfl | exact .inl (Mask.bit hm rfl)
       first
        | with_reducible assumption | with_reducible refine Within.ite ?_ ?_ | split | (extract_lets; split))

theorem within_State_startCal {m : Nat} {s₀ s : State}
    (hm : m ||| 0x87000000000000000000000000000000000000000000000000000000000000000000000010000000000000000000003B04 = m) (k : Nat)
    (kind : Nat) (src : Nat) (ctx : Nat) (pins : Nat) (cmd : Option (Nat × Nat)) (h₀ : Within m s₀ s) :
    Within m s₀ (State.startCal s k kind src ctx pins cmd) := by
  unfold State.startCal
  repeat' first
    | with_reducible assumption | with_reducible intro _ | with_reducible apply within_State_setConv (Mask.sub hm rfl)
    | with_reducible apply within_State_aqStop (Mask.sub hm rfl) | with_reducible apply within_State_showCalCoves (Mask.sub hm rfl)
    | with_reducible apply within_State_calPmu (Mask.sub hm rfl) | with_reducible apply within_State_dropZeros (Mask.sub hm rfl)
    | with_reducible refine Within.each ?_ ?_ | with_reducible refine Within.ite ?_ ?_ | split | (extract_lets; split)
    | (with_reducible refine Within.mk ?_ ?hk
       case hk => (repeat' apply And.intro) <;> first | with_reducible exact .inr rfl | exact .inl (Mask.bit hm rfl)
       first
        | with_reducible assumption | with_reducible apply within_State_setConv (Mask.sub hm rfl)
        | with_reducible apply within_State_aqStop (Mask.sub hm rfl) | with_reducible apply within_State_showCalCoves (Mask.sub hm rfl)
        | with_reducible apply within_State_calPmu (Mask.sub hm rfl) | with_reducible apply within_State_dropZeros (Mask.sub hm rfl)
        | with_reducible refine Within.each ?_ ?_ | with_reducible refine Within.ite ?_ ?_ | split | (extract_lets; split))

theorem within_State_calStatus {m : Nat} {s₀ s : State}
    (hm : m ||| 0x100000000000000000000000000000000000000000000000000000000000000000000000000000000000000000000000000000000000000000000000000000000000000000000 = m)
    (n : Nat) (kind : Nat) (code : Nat) (h₀ : Within m s₀ s) : Within m s₀ (State.calStatus s n kind code) := by
  unfold State.calStatus
  repeat' first
    | with_reducible assumption | with_reducible apply within_State_setFld | exact Touch.cal (Mask.bit hm rfl) (by unfold calA; omega)

theorem within_State_calTemp {m : Nat} {s₀ s : State}
    (hm : m ||| 0x100000000000000000000000000000000000000000000000000000000000000000000000000000000000000000000000000000000000000000000000000000000000000000000 = m)
    (n : Nat) (kind : Nat) (temp : Nat) (h₀ : Within m s₀ s) : Within m s₀ (State.calTemp s n kind temp) := by
  unfold State.calTemp
  repeat' first
    | with_reducible assumption | with_reducible apply within_State_setFld | exact Touch.cal (Mask.bit hm rfl) (by unfold calA; omega)

theorem within_State_leaveCal {m : Nat} {s₀ s : State}
    (hm : m ||| 0x1000C00000000000000000000000000000000000000000100000002000020000070000000000040020180000000004000003FFFFFFFF = m)
    (r : CalRun) (h₀ : Within m s₀ s) : Within m s₀ (State.leaveCal s r) := by
  unfold State.leaveCal
  repeat' first
    | with_reducible assumption | with_reducible intro _ | with_reducible apply within_State_raise
    | with_reducible apply within_State_startComparator (Mask.sub hm rfl) | with_reducible apply within_State_pmuTake (Mask.sub hm rfl)
    | with_reducible apply within_State_pmuOff (Mask.sub hm rfl) | with_reducible apply within_State_restartConv (Mask.sub hm rfl)
    | with_reducible apply within_State_showCalCoves (Mask.sub hm rfl) | with_reducible refine Within.each ?_ ?_
    | exact touch_CB_STAT (Mask.bit hm rfl) | exact Touch.any (Mask.bit hm rfl) | with_reducible refine Within.ite ?_ ?_ | split
    | (extract_lets; split)
    | (with_reducible refine Within.mk ?_ ?hk
       case hk => (repeat' apply And.intro) <;> first | with_reducible exact .inr rfl | exact .inl (Mask.bit hm rfl)
       first
        | with_reducible assumption | with_reducible apply within_State_raise
        | with_reducible apply within_State_startComparator (Mask.sub hm rfl)
        | with_reducible apply within_State_pmuTake (Mask.sub hm rfl) | with_reducible apply within_State_pmuOff (Mask.sub hm rfl)
        | with_reducible apply within_State_restartConv (Mask.sub hm rfl)
        | with_reducible apply within_State_showCalCoves (Mask.sub hm rfl) | with_reducible refine Within.each ?_ ?_
        | with_reducible refine Within.ite ?_ ?_ | split | (extract_lets; split))

theorem within_State_abortCal {m : Nat} {s₀ s : State}
    (hm : m ||| 0x1000000000000008000020000000000001000C00000000000000000000000000000000000000000100000002000020000070000033400040020380000000004000003FFFFFFFF = m)
    (c : Nat) (h₀ : Within m s₀ s) : Within m s₀ (State.abortCal s c) := by
  unfold State.abortCal
  repeat' first
    | with_reducible assumption | with_reducible intro _ | with_reducible apply Within.free (Mask.bit hm rfl)
    | with_reducible apply within_State_calResult (Mask.sub hm rfl) | with_reducible apply within_State_calReply (Mask.sub hm rfl)
    | with_reducible apply within_State_calStatus (Mask.sub hm rfl) | with_reducible apply within_State_leaveCal (Mask.sub hm rfl)
    | with_reducible refine Within.each ?_ ?_ | with_reducible refine Within.snd (by assumption) ?_
    | with_reducible refine Within.fst (by assumption) ?_ | exact Touch.any (Mask.bit hm rfl) | with_reducible refine Within.ite ?_ ?_
    | split | (extract_lets; split)

theorem within_State_abortCals {m : Nat} {s₀ s : State}
    (hm : m ||| 0x1000000000000008000020000000000001000C00000000000000000000000000000000000000000100000002000020000070000033400040020380000000004000003FFFFFFFF = m)
    (h₀ : Within m s₀ s) : Within m s₀ (State.abortCals s) := by
  unfold State.abortCals
  repeat' first
    | with_reducible assumption | with_reducible intro _ | with_reducible apply within_State_abortCal (Mask.sub hm rfl)
    | with_reducible refine Within.each ?_ ?_ | exact Touch.any (Mask.bit hm rfl)

theorem within_State_tripCal {m : Nat} {s₀ s : State}
    (hm : m ||| 0x100000000000000000000000000000000000000000000000000000000000000000000000000000000000000000000000000000000000000000000000000000000000000001000 = m)
    (pins : List Nat) (h₀ : Within m s₀ s) : Within m s₀ (State.tripCal s pins) := by
  unfold State.tripCal
  repeat' first
    | with_reducible assumption | with_reducible intro _ | with_reducible apply within_State_calStatus (Mask.sub hm rfl)
    | with_reducible refine Within.each ?_ ?_ | with_reducible refine Within.snd (by assumption) ?_
    | with_reducible refine Within.fst (by assumption) ?_ | with_reducible refine Within.ite ?_ ?_ | split | (extract_lets; split)
    | (with_reducible refine Within.mk ?_ ?hk
       case hk => (repeat' apply And.intro) <;> first | with_reducible exact .inr rfl | exact .inl (Mask.bit hm rfl)
       first
        | with_reducible assumption | with_reducible apply within_State_calStatus (Mask.sub hm rfl)
        | with_reducible refine Within.each ?_ ?_ | with_reducible refine Within.snd (by assumption) ?_
        | with_reducible refine Within.fst (by assumption) ?_ | with_reducible refine Within.ite ?_ ?_ | split | (extract_lets; split)
        | (with_reducible refine Within.mk ?_ ?hk
           case hk => (repeat' apply And.intro) <;> first | with_reducible exact .inr rfl | exact .inl (Mask.bit hm rfl)
           first
            | with_reducible assumption | with_reducible apply within_State_calStatus (Mask.sub hm rfl)
            | with_reducible refine Within.each ?_ ?_ | with_reducible refine Within.snd (by assumption) ?_
            | with_reducible refine Within.fst (by assumption) ?_ | with_reducible refine Within.ite ?_ ?_ | split
            | (extract_lets; split)))

theorem within_State_calCommand {m : Nat} {s₀ s : State}
    (hm : m ||| 0x1000000000000008000020000000000001000C00000870000000000000000000000000000000000100000002000020000070000033400040020380000000004000003FFFFFFFF = m)
    (w : Word) (cmd : Option (Nat × Nat)) (h₀ : Within m s₀ s) : Within m s₀ (State.calCommand s w cmd) := by
  unfold State.calCommand
  repeat' first
    | with_reducible assumption | with_reducible apply within_State_raise
    | with_reducible apply within_State_calResult (Mask.sub hm rfl) | with_reducible apply within_State_calReply (Mask.sub hm rfl)
    | with_reducible apply within_State_startCal (Mask.sub hm rfl) | with_reducible apply within_State_abortCal (Mask.sub hm rfl)
    | with_reducible refine Within.snd (by assumption) ?_ | with_reducible refine Within.fst (by assumption) ?_
    | exact touch_CB_STAT (Mask.bit hm rfl) | exact Touch.any (Mask.bit hm rfl) | with_reducible refine Within.ite ?_ ?_ | split
    | (extract_lets; split)

theorem within_State_calQuality {m : Nat} {s₀ s : State}
    (hm : m ||| 0x100000000000000000000000000000000000000000000000000000000000000000000000000000000000000000000000000000000000000000000000000000000000000000000 = m)
    (n : Nat) (kind : Nat) (m_ : CalMeas) (h₀ : Within m s₀ s) : Within m s₀ (State.calQuality s n kind m_) := by
  unfold State.calQuality
  repeat' first
    | with_reducible assumption | with_reducible intro _ | with_reducible apply Within.wr | with_reducible refine Within.each ?_ ?_
    | with_reducible refine Within.snd (by assumption) ?_ | with_reducible refine Within.fst (by assumption) ?_
    | exact Touch.cal (Mask.bit hm rfl) (by unfold calA; omega) | with_reducible refine Within.ite ?_ ?_ | split | (extract_lets; split)

theorem within_State_endCalPin {m : Nat} {s₀ s : State}
    (hm : m ||| 0x100000000000000000000000000000000000000000000000000000000000000000000000000000000000000000000000000000000000000000000000000000000000000000008 = m)
    (r : CalRun) (l : List CalMeas) (temp : Nat) (p : Nat) (h₀ : Within m s₀ s) : Within m s₀ (State.endCalPin r l temp s p).1 := by
  unfold State.endCalPin
  repeat' first
    | with_reducible assumption | with_reducible intro _ | with_reducible apply Within.wr
    | with_reducible apply within_State_writeShadow (Mask.sub hm rfl) | with_reducible apply within_State_calStatus (Mask.sub hm rfl)
    | with_reducible apply within_State_calTemp (Mask.sub hm rfl) | with_reducible apply within_State_calQuality (Mask.sub hm rfl)
    | with_reducible refine Within.each ?_ ?_ | with_reducible refine Within.ite ?_ ?_ | split | (extract_lets; split)

theorem within_State_strobePins {m : Nat} {s₀ s : State}
    (hm : m ||| 0xF901080E00000870000080000000000000000800200000000100000002000020000070200080000040020000000000004000003FFFFFFFF = m)
    (k : Nat) (pins : Nat) (mask : Nat) (h₀ : Within m s₀ s) : Within m s₀ (State.strobePins s k pins mask) := by
  unfold State.strobePins
  repeat' first
    | with_reducible assumption | with_reducible intro _ | with_reducible apply within_State_applyAll (Mask.sub hm rfl)
    | with_reducible refine Within.snd (by assumption) ?_ | with_reducible refine Within.fst (by assumption) ?_
    | exact Touch.any (Mask.bit hm rfl) | with_reducible refine Within.ite ?_ ?_ | split | (extract_lets; split)
    | (with_reducible refine Within.mk ?_ ?hk
       case hk => (repeat' apply And.intro) <;> first | with_reducible exact .inr rfl | exact .inl (Mask.bit hm rfl)
       first
        | with_reducible assumption | with_reducible apply within_State_applyAll (Mask.sub hm rfl)
        | with_reducible refine Within.snd (by assumption) ?_ | with_reducible refine Within.fst (by assumption) ?_
        | with_reducible refine Within.ite ?_ ?_ | split | (extract_lets; split)
        | (with_reducible refine Within.mk ?_ ?hk
           case hk => (repeat' apply And.intro) <;> first | with_reducible exact .inr rfl | exact .inl (Mask.bit hm rfl)
           first
            | with_reducible assumption | with_reducible apply within_State_applyAll (Mask.sub hm rfl)
            | with_reducible refine Within.snd (by assumption) ?_ | with_reducible refine Within.fst (by assumption) ?_
            | with_reducible refine Within.ite ?_ ?_ | split | (extract_lets; split)))

theorem within_execCalRunEnd {m : Nat} {s₀ s : State}
    (hm : m ||| 0x100000000000000800002000000000F901080E000008700000800000000000000008002000000001000000020000200000702000B3400040020380000000004000003FFFFFFFF = m)
    (c : Fin 16) (meas : List CalMeas) (temp : BitVec 8) (h₀ : Within m s₀ s) : AnswersWithin m s₀ (execCalRunEnd c meas temp s) := by
  unfold execCalRunEnd
  repeat' first
    | with_reducible assumption | with_reducible refine AnswersWithin.next ?_ | with_reducible refine AnswersWithin.ite ?_ ?_
    | with_reducible intro _ | with_reducible apply Within.free (Mask.bit hm rfl)
    | with_reducible apply within_State_strobe (Mask.sub hm rfl) | with_reducible apply within_State_calResult (Mask.sub hm rfl)
    | with_reducible apply within_State_calReply (Mask.sub hm rfl) | with_reducible apply within_State_calTemp (Mask.sub hm rfl)
    | with_reducible apply within_State_leaveCal (Mask.sub hm rfl) | with_reducible apply within_State_endCalPin (Mask.sub hm rfl)
    | with_reducible apply within_State_strobePins (Mask.sub hm rfl) | with_reducible refine Within.each ?_ ?_
    | with_reducible refine Within.foldl _ ?_ ?_ | with_reducible refine Within.foldlFst _ ?_ ?_
    | with_reducible refine Within.foldlSnd _ ?_ ?_ | with_reducible refine Within.snd (by assumption) ?_
    | with_reducible refine Within.fst (by assumption) ?_ | exact Touch.any (Mask.bit hm rfl) | with_reducible refine Within.ite ?_ ?_
    | split | (extract_lets; split)
    | (with_reducible refine Within.mk ?_ ?hk
       case hk => (repeat' apply And.intro) <;> first | with_reducible exact .inr rfl | exact .inl (Mask.bit hm rfl)
       first
        | with_reducible assumption | with_reducible apply Within.free (Mask.bit hm rfl)
        | with_reducible apply within_State_strobe (Mask.sub hm rfl) | with_reducible apply within_State_calResult (Mask.sub hm rfl)
        | with_reducible apply within_State_calReply (Mask.sub hm rfl) | with_reducible apply within_State_calTemp (Mask.sub hm rfl)
        | with_reducible apply within_State_leaveCal (Mask.sub hm rfl) | with_reducible apply within_State_endCalPin (Mask.sub hm rfl)
        | with_reducible apply within_State_strobePins (Mask.sub hm rfl) | with_reducible refine Within.each ?_ ?_
        | with_reducible refine Within.foldl _ ?_ ?_ | with_reducible refine Within.foldlFst _ ?_ ?_
        | with_reducible refine Within.foldlSnd _ ?_ ?_ | with_reducible refine Within.snd (by assumption) ?_
        | with_reducible refine Within.fst (by assumption) ?_ | with_reducible refine Within.ite ?_ ?_ | split | (extract_lets; split)
        | (with_reducible refine Within.mk ?_ ?hk
           case hk => (repeat' apply And.intro) <;> first | with_reducible exact .inr rfl | exact .inl (Mask.bit hm rfl)
           first
            | with_reducible assumption | with_reducible apply Within.free (Mask.bit hm rfl)
            | with_reducible apply within_State_strobe (Mask.sub hm rfl)
            | with_reducible apply within_State_calResult (Mask.sub hm rfl)
            | with_reducible apply within_State_calReply (Mask.sub hm rfl)
            | with_reducible apply within_State_calTemp (Mask.sub hm rfl)
            | with_reducible apply within_State_leaveCal (Mask.sub hm rfl)
            | with_reducible apply within_State_endCalPin (Mask.sub hm rfl)
            | with_reducible apply within_State_strobePins (Mask.sub hm rfl) | with_reducible refine Within.each ?_ ?_
            | with_reducible refine Within.foldl _ ?_ ?_ | with_reducible refine Within.foldlFst _ ?_ ?_
            | with_reducible refine Within.foldlSnd _ ?_ ?_ | with_reducible refine Within.snd (by assumption) ?_
            | with_reducible refine Within.fst (by assumption) ?_ | with_reducible refine Within.ite ?_ ?_ | split
            | (extract_lets; split)))

theorem within_State_commitWrite {m : Nat} {s₀ s : State} (hm : m ||| 0x18000000000000000000000000 = m) (d : Word)
    (h₀ : Within m s₀ s) : Within m s₀ (State.commitWrite s d) := by
  unfold State.commitWrite
  repeat' first
    | with_reducible assumption | with_reducible apply within_State_raise | exact touch_CB_BUSY (Mask.bit hm rfl)
    | exact touch_CB_STAT (Mask.bit hm rfl) | with_reducible refine Within.ite ?_ ?_ | split | (extract_lets; split)

theorem within_execCalRun {m : Nat} {s₀ s : State}
    (hm : m ||| 0x1000000000000008000020000000000001000C00000870000000000000000000000000000000000100000002000020000070000033400040020380000000004000003FFFFFFFF = m)
    (h₀ : Within m s₀ s) : AnswersWithin m s₀ (execCalRun s) := by
  unfold execCalRun
  repeat' first
    | with_reducible assumption | with_reducible refine AnswersWithin.next ?_ | with_reducible intro _
    | with_reducible apply within_State_modCmd (Mask.sub hm rfl) | with_reducible apply within_State_calCommand (Mask.sub hm rfl)
    | with_reducible refine Within.snd (by assumption) ?_ | with_reducible refine Within.fst (by assumption) ?_
    | exact Touch.any (Mask.bit hm rfl) | with_reducible refine Within.ite ?_ ?_ | split | (extract_lets; split)
    | (with_reducible refine Within.mk ?_ ?hk
       case hk => (repeat' apply And.intro) <;> first | with_reducible exact .inr rfl | exact .inl (Mask.bit hm rfl)
       first
        | with_reducible assumption | with_reducible apply within_State_modCmd (Mask.sub hm rfl)
        | with_reducible apply within_State_calCommand (Mask.sub hm rfl) | with_reducible refine Within.snd (by assumption) ?_
        | with_reducible refine Within.fst (by assumption) ?_ | with_reducible refine Within.ite ?_ ?_ | split | (extract_lets; split)
        | (with_reducible refine Within.mk ?_ ?hk
           case hk => (repeat' apply And.intro) <;> first | with_reducible exact .inr rfl | exact .inl (Mask.bit hm rfl)
           first
            | with_reducible assumption | with_reducible apply within_State_modCmd (Mask.sub hm rfl)
            | with_reducible apply within_State_calCommand (Mask.sub hm rfl) | with_reducible refine Within.snd (by assumption) ?_
            | with_reducible refine Within.fst (by assumption) ?_ | with_reducible refine Within.ite ?_ ?_ | split
            | (extract_lets; split)))

end Sys2Proof.Machine
end

