-- ==== Sys2Proof/Laws/Commands.lean ====
section
/-! SUPPORT. What a write of one word to each register with an effect of its own comes to (Machine/RegAccess.lean), where the master may
write it at once. -/

namespace Sys2Proof.Machine

set_option linter.all false

/-- The new value of a register of a strand, a pin or a queue pair. -/
theorem newWord_at {s : State} {al : Alias} {a : Nat} {d : Word} {h : RegHit} (hr : regAt a = some h) :
    s.newWord al a d = newValue h.row al (s.regValue a).1 d := by
  unfold State.newWord
  rw [hr]

theorem busWord_DEV_UPD_STROBE {s : State} {m : Master} {d : Word} (hm : s.mayWrite m Reg.DEV_UPD_STROBE = true) :
    s.busWord m .normal Reg.DEV_UPD_STROBE d = (s.strobe d).send (.accepted m) := by
  rw [busWord_control hm (by decide) (h := ⟨_, _⟩) rfl (.inr rfl) (by decide) rfl rfl (.inl (by decide))]
  unfold State.controlWrite
  dsimp only
  skip
  rw [if_pos rfl]

theorem busWord_DEV_UPD_CTRL {s : State} {m : Master} {al : Alias} {d : Word} (hm : s.mayWrite m Reg.DEV_UPD_CTRL = true) :
    s.busWord m al Reg.DEV_UPD_CTRL d = (s.updCtrl (s.newWord al Reg.DEV_UPD_CTRL d)).send (.accepted m) := by
  rw [busWord_control hm (by decide) (h := ⟨_, _⟩) rfl (.inl rfl) (by decide) rfl rfl (.inl (by decide))]
  unfold State.controlWrite
  dsimp only
  iterate 2 rw [if_neg (by decide)]
  rw [if_pos rfl]
  rfl

theorem busWord_DEV_PWR_CMD {s : State} {m : Master} {d : Word} (hm : s.mayWrite m Reg.DEV_PWR_CMD = true) :
    s.busWord m .normal Reg.DEV_PWR_CMD d = (s.pwrCommand m d).send (.accepted m) := by
  rw [busWord_control hm (by decide) (h := ⟨_, _⟩) rfl (.inr rfl) (by decide) rfl rfl (.inl (by decide))]
  unfold State.controlWrite
  dsimp only
  iterate 4 rw [if_neg (by decide)]
  rw [if_pos rfl]

theorem busWord_BI_RT_CMD {s : State} {m : Master} {d : Word} (hm : s.mayWrite m Reg.BI_RT_CMD = true) :
    s.busWord m .normal Reg.BI_RT_CMD d = (s.rtCommand d).send (.accepted m) := by
  rw [busWord_control hm (by decide) (h := ⟨_, _⟩) rfl (.inr rfl) (by decide) rfl rfl (.inl (by decide))]
  unfold State.controlWrite
  dsimp only
  iterate 5 rw [if_neg (by decide)]
  rw [if_pos rfl]

theorem busWord_CS_CMD {s : State} {m : Master} {al : Alias} {d : Word} (hm : s.mayWrite m Reg.CS_CMD = true) :
    s.busWord m al Reg.CS_CMD d = ((s.wr Reg.CS_CMD (s.newWord al Reg.CS_CMD d &&& 0x10)).csCommand (s.newWord al Reg.CS_CMD d)).send (.accepted m) := by
  rw [busWord_control hm (by decide) (h := ⟨_, _⟩) rfl (.inl rfl) (by decide) rfl rfl (.inl (by decide))]
  unfold State.controlWrite
  dsimp only
  iterate 6 rw [if_neg (by decide)]
  rw [if_pos rfl]
  rfl

theorem busWord_FC_REC_SEL {s : State} {m : Master} {al : Alias} {d : Word} (hm : s.mayWrite m Reg.FC_REC_SEL = true) :
    s.busWord m al Reg.FC_REC_SEL d = (s.recSel (s.newWord al Reg.FC_REC_SEL d)).send (.accepted m) := by
  rw [busWord_control hm (by decide) (h := ⟨_, _⟩) rfl (.inl rfl) (by decide) rfl rfl (.inl (by decide))]
  unfold State.controlWrite
  dsimp only
  iterate 8 rw [if_neg (by decide)]
  rw [if_pos rfl]
  rfl

theorem busWord_FC_LOG_SEL {s : State} {m : Master} {al : Alias} {d : Word} (hm : s.mayWrite m Reg.FC_LOG_SEL = true) :
    s.busWord m al Reg.FC_LOG_SEL d = (s.logSel (s.newWord al Reg.FC_LOG_SEL d)).send (.accepted m) := by
  rw [busWord_control hm (by decide) (h := ⟨_, _⟩) rfl (.inl rfl) (by decide) rfl rfl (.inl (by decide))]
  unfold State.controlWrite
  dsimp only
  iterate 9 rw [if_neg (by decide)]
  rw [if_pos rfl]
  rfl

theorem busWord_FC_ACK {s : State} {m : Master} {d : Word} (hm : s.mayWrite m Reg.FC_ACK = true) :
    s.busWord m .normal Reg.FC_ACK d = (s.fcAck m d).send (.accepted m) := by
  rw [busWord_control hm (by decide) (h := ⟨_, _⟩) rfl (.inr rfl) (by decide) rfl rfl (.inl (by decide))]
  unfold State.controlWrite
  dsimp only
  iterate 10 rw [if_neg (by decide)]
  rw [if_pos rfl]

theorem busWord_FC_FORCE {s : State} {m : Master} {al : Alias} {d : Word} (hm : s.mayWrite m Reg.FC_FORCE = true) :
    s.busWord m al Reg.FC_FORCE d = ((s.wr Reg.FC_FORCE (Fld.FC_FORCE_GO.put (s.newWord al Reg.FC_FORCE d) 0)).fcForce (s.newWord al Reg.FC_FORCE d)).send (.accepted m) := by
  rw [busWord_control hm (by decide) (h := ⟨_, _⟩) rfl (.inl rfl) (by decide) rfl rfl (.inl (by decide))]
  unfold State.controlWrite
  dsimp only
  iterate 11 rw [if_neg (by decide)]
  rw [if_pos rfl]
  rfl

theorem busWord_FC_WDT_KICK {s : State} {m : Master} {d : Word} (hm : s.mayWrite m Reg.FC_WDT_KICK = true) :
    s.busWord m .normal Reg.FC_WDT_KICK d = (s.wdtKick m).send (.accepted m) := by
  rw [busWord_control hm (by decide) (h := ⟨_, _⟩) rfl (.inr rfl) (by decide) rfl rfl (.inl (by decide))]
  unfold State.controlWrite
  dsimp only
  iterate 12 rw [if_neg (by decide)]
  rw [if_pos rfl]

theorem busWord_FC_HELM_CMD {s : State} {m : Master} {al : Alias} {d : Word} (hm : s.mayWrite m Reg.FC_HELM_CMD = true) :
    s.busWord m al Reg.FC_HELM_CMD d = (s.helmCommand (s.newWord al Reg.FC_HELM_CMD d)).send (.accepted m) := by
  rw [busWord_control hm (by decide) (h := ⟨_, _⟩) rfl (.inl rfl) (by decide) rfl rfl (.inl (by decide))]
  unfold State.controlWrite
  dsimp only
  iterate 13 rw [if_neg (by decide)]
  rw [if_pos rfl]
  rfl

theorem busWord_TH_EXCLUDE {s : State} {m : Master} {al : Alias} {d : Word} (hm : s.mayWrite m Reg.TH_EXCLUDE = true) :
    s.busWord m al Reg.TH_EXCLUDE d = (s.thExclude (s.newWord al Reg.TH_EXCLUDE d)).send (.accepted m) := by
  rw [busWord_control hm (by decide) (h := ⟨_, _⟩) rfl (.inl rfl) (by decide) rfl rfl (.inl (by decide))]
  unfold State.controlWrite
  dsimp only
  iterate 14 rw [if_neg (by decide)]
  rw [if_pos rfl]
  rfl

theorem busWord_LS_CMD {s : State} {m : Master} {d : Word} (hm : s.mayWrite m Reg.LS_CMD = true) :
    s.busWord m .normal Reg.LS_CMD d = ((s.wr Reg.LS_CMD (s.newWord .normal Reg.LS_CMD d &&& 0xFFFF0000)).lsCommand (s.newWord .normal Reg.LS_CMD d)).send (.accepted m) := by
  rw [busWord_control hm (by decide) (h := ⟨_, _⟩) rfl (.inr rfl) (by decide) rfl rfl (.inl (by decide))]
  unfold State.controlWrite
  dsimp only
  iterate 15 rw [if_neg (by decide)]
  rw [if_pos rfl]
  rfl

theorem busWord_LS_SETUP_DATA {s : State} {m : Master} {al : Alias} {d : Word} (hm : s.mayWrite m Reg.LS_SETUP_DATA = true) :
    s.busWord m al Reg.LS_SETUP_DATA d = (s.setupWrite al d).send (.accepted m) := by
  rw [busWord_control hm (by decide) (h := ⟨_, _⟩) rfl (.inl rfl) (by decide) rfl rfl (.inl (by decide))]
  unfold State.controlWrite
  dsimp only
  iterate 16 rw [if_neg (by decide)]
  rw [if_pos rfl]

theorem busWord_FL_DEV_CMD {s : State} {m : Master} {d : Word} (hm : s.mayWrite m Reg.FL_DEV_CMD = true) :
    s.busWord m .normal Reg.FL_DEV_CMD d = (s.flDevCommand d).send (.accepted m) := by
  rw [busWord_control hm (by decide) (h := ⟨_, _⟩) rfl (.inr rfl) (by decide) rfl rfl (.inl (by decide))]
  unfold State.controlWrite
  dsimp only
  iterate 17 rw [if_neg (by decide)]
  rw [if_pos rfl]

theorem busWord_RG_CMD {s : State} {m : Master} {d : Word} (hm : s.mayWrite m Reg.RG_CMD = true) :
    s.busWord m .normal Reg.RG_CMD d = (s.rgCommand d).send (.accepted m) := by
  rw [busWord_device hm (by decide) ⟨by decide, by decide⟩ (h := ⟨_, _⟩) rfl (.inr rfl) (by decide) rfl rfl]
  unfold State.deviceWrite
  iterate 3 rw [if_neg (by decide)]
  rw [if_pos rfl]

theorem busWord_RG_BYPASS {s : State} {m : Master} {al : Alias} {d : Word} (hm : s.mayWrite m Reg.RG_BYPASS = true) :
    s.busWord m al Reg.RG_BYPASS d = ((s.wr Reg.RG_BYPASS (Fld.RG_BYPASS_GO.put (s.newWord al Reg.RG_BYPASS d) 0)).rgBypass (s.newWord al Reg.RG_BYPASS d)).send (.accepted m) := by
  rw [busWord_device hm (by decide) ⟨by decide, by decide⟩ (h := ⟨_, _⟩) rfl (.inl rfl) (by decide) rfl rfl]
  unfold State.deviceWrite
  iterate 4 rw [if_neg (by decide)]
  rw [if_pos rfl]
  rfl

theorem busWord_TL_CMD {s : State} {m : Master} {d : Word} (hm : s.mayWrite m Reg.TL_CMD = true) :
    s.busWord m .normal Reg.TL_CMD d = (s.tlCommand d).send (.accepted m) := by
  rw [busWord_device hm (by decide) ⟨by decide, by decide⟩ (h := ⟨_, _⟩) rfl (.inr rfl) (by decide) rfl rfl]
  unfold State.deviceWrite
  iterate 6 rw [if_neg (by decide)]
  rw [if_pos rfl]

theorem busWord_SP_CMD {s : State} {m : Master} {d : Word} (hm : s.mayWrite m Reg.SP_CMD = true) :
    s.busWord m .normal Reg.SP_CMD d = (s.spCommand d).send (.accepted m) := by
  rw [busWord_device hm (by decide) ⟨by decide, by decide⟩ (h := ⟨_, _⟩) rfl (.inr rfl) (by decide) rfl rfl]
  unfold State.deviceWrite
  iterate 8 rw [if_neg (by decide)]
  rw [if_pos rfl]

theorem busWord_PL_CMD {s : State} {m : Master} {d : Word} (hm : s.mayWrite m Reg.PL_CMD = true) :
    s.busWord m .normal Reg.PL_CMD d = (if Fld.PL_CMD_RELEASE.get d = 1 then s.release else s).send (.accepted m) := by
  rw [busWord_device hm (by decide) ⟨by decide, by decide⟩ (h := ⟨_, _⟩) rfl (.inr rfl) (by decide) rfl rfl]
  unfold State.deviceWrite
  iterate 9 rw [if_neg (by decide)]
  rw [if_pos rfl]

theorem busWord_CB_CMD {s : State} {m : Master} {d : Word} (hm : s.mayWrite m Reg.CB_CMD = true) :
    s.busWord m .normal Reg.CB_CMD d = (s.calCommand d none).send (.accepted m) := by
  rw [busWord_device hm (by decide) ⟨by decide, by decide⟩ (h := ⟨_, _⟩) rfl (.inr rfl) (by decide) rfl rfl]
  unfold State.deviceWrite
  iterate 10 rw [if_neg (by decide)]
  rw [if_pos rfl]

theorem busWord_CB_DATA {s : State} {m : Master} {al : Alias} {d : Word} (hm : s.mayWrite m Reg.CB_DATA = true) :
    s.busWord m al Reg.CB_DATA d = (s.cbWrite al d).send (.accepted m) := by
  rw [busWord_device hm (by decide) ⟨by decide, by decide⟩ (h := ⟨_, _⟩) rfl (.inl rfl) (by decide) rfl rfl]
  unfold State.deviceWrite
  iterate 11 rw [if_neg (by decide)]
  rw [if_pos rfl]

theorem busWord_CB_COMMIT {s : State} {m : Master} {d : Word} (hm : s.mayWrite m Reg.CB_COMMIT = true) :
    s.busWord m .normal Reg.CB_COMMIT d = ((s.wr Reg.CB_COMMIT (Fld.CB_COMMIT_GO.put (s.newWord .normal Reg.CB_COMMIT d) 0)).cbCommit (s.newWord .normal Reg.CB_COMMIT d)).send (.accepted m) := by
  rw [busWord_device hm (by decide) ⟨by decide, by decide⟩ (h := ⟨_, _⟩) rfl (.inr rfl) (by decide) rfl rfl]
  unfold State.deviceWrite
  iterate 12 rw [if_neg (by decide)]
  rw [if_pos rfl]
  rfl

theorem busWord_TL_AGE_TRIM {s : State} {m : Master} {al : Alias} {d : Word} (hm : s.mayWrite m Reg.TL_AGE_TRIM = true) :
    s.busWord m al Reg.TL_AGE_TRIM d = (s.ageWrite Reg.TL_AGE_TRIM (s.newWord al Reg.TL_AGE_TRIM d)).send (.accepted m) := by
  rw [busWord_device hm (by decide) ⟨by decide, by decide⟩ (h := ⟨_, _⟩) rfl (.inl rfl) (by decide) rfl rfl]
  unfold State.deviceWrite
  iterate 7 rw [if_neg (by decide)]
  rw [if_pos (by decide)]
  rfl

theorem busWord_TL_AGE_RATE {s : State} {m : Master} {al : Alias} {d : Word} (hm : s.mayWrite m Reg.TL_AGE_RATE = true) :
    s.busWord m al Reg.TL_AGE_RATE d = (s.ageWrite Reg.TL_AGE_RATE (s.newWord al Reg.TL_AGE_RATE d)).send (.accepted m) := by
  rw [busWord_device hm (by decide) ⟨by decide, by decide⟩ (h := ⟨_, _⟩) rfl (.inl rfl) (by decide) rfl rfl]
  unfold State.deviceWrite
  iterate 7 rw [if_neg (by decide)]
  rw [if_pos (by decide)]
  rfl

theorem busWord_SQ_CMD {s : State} {m : Master} {k : Fin 192} {d : Word} (hm : s.mayWrite m (strandA k Reg.SQ_CMD) = true) :
    s.busWord m .normal (strandA k Reg.SQ_CMD) d = (s.sqCommand k (d.toNat % 16)).send (.accepted m) := by
  rw [busWord_strand hm (by decide) (h := ⟨_, _⟩) rfl (.inr rfl) (by decide) rfl]
  unfold State.strandWrite
  skip
  rw [if_pos rfl]

theorem busWord_SQ_BT_DATA {s : State} {m : Master} {al : Alias} {k : Fin 192} {d : Word} (hm : s.mayWrite m (strandA k Reg.SQ_BT_DATA) = true) :
    s.busWord m al (strandA k Reg.SQ_BT_DATA) d = (s.btWrite k al d).send (.accepted m) := by
  rw [busWord_strand hm (by decide) (h := ⟨_, _⟩) rfl (.inl rfl) (by decide) rfl]
  unfold State.strandWrite
  iterate 2 rw [if_neg (by decide)]
  rw [if_pos rfl]

theorem busWord_AG_TAB_DATA {s : State} {m : Master} {al : Alias} {k : Fin 192} {d : Word} (hm : s.mayWrite m (strandA k Reg.AG_TAB_DATA) = true) :
    s.busWord m al (strandA k Reg.AG_TAB_DATA) d = (s.agTabWrite k al d).send (.accepted m) := by
  rw [busWord_strand hm (by decide) (h := ⟨_, _⟩) rfl (.inl rfl) (by decide) rfl]
  unfold State.strandWrite
  iterate 3 rw [if_neg (by decide)]
  rw [if_pos rfl]

theorem busWord_WV_DATA {s : State} {m : Master} {al : Alias} {k : Fin 192} {d : Word} (hm : s.mayWrite m (strandA k Reg.WV_DATA) = true) :
    s.busWord m al (strandA k Reg.WV_DATA) d = (s.wvWrite k al d).send (.accepted m) := by
  rw [busWord_strand hm (by decide) (h := ⟨_, _⟩) rfl (.inl rfl) (by decide) rfl]
  unfold State.strandWrite
  iterate 4 rw [if_neg (by decide)]
  rw [if_pos rfl]

theorem busWord_SG_TAB_DATA {s : State} {m : Master} {al : Alias} {k : Fin 192} {d : Word} (hm : s.mayWrite m (strandA k Reg.SG_TAB_DATA) = true) :
    s.busWord m al (strandA k Reg.SG_TAB_DATA) d = (s.sgWrite k al d).send (.accepted m) := by
  rw [busWord_strand hm (by decide) (h := ⟨_, _⟩) rfl (.inl rfl) (by decide) rfl]
  unfold State.strandWrite
  iterate 6 rw [if_neg (by decide)]
  rw [if_pos rfl]

theorem busWord_AQ_CTRL {s : State} {m : Master} {k : Fin 192} {d : Word} (hm : s.mayWrite m (strandA k Reg.AQ_CTRL) = true) :
    s.busWord m .normal (strandA k Reg.AQ_CTRL) d = (s.aqCtrl k d).send (.accepted m) := by
  rw [busWord_strand hm (by decide) (h := ⟨_, _⟩) rfl (.inr rfl) (by decide) rfl]
  unfold State.strandWrite
  iterate 7 rw [if_neg (by decide)]
  rw [if_pos rfl]

theorem busWord_FL_CMD {s : State} {m : Master} {k : Fin 192} {d : Word} (hm : s.mayWrite m (strandA k Reg.FL_CMD) = true) :
    s.busWord m .normal (strandA k Reg.FL_CMD) d = (s.flCommand k d).send (.accepted m) := by
  rw [busWord_strand hm (by decide) (h := ⟨_, _⟩) rfl (.inr rfl) (by decide) rfl]
  unfold State.strandWrite
  iterate 8 rw [if_neg (by decide)]
  rw [if_pos rfl]

theorem busWord_FL_DIE {s : State} {m : Master} {al : Alias} {k : Fin 192} {d : Word} (hm : s.mayWrite m (strandA k Reg.FL_DIE) = true) :
    s.busWord m al (strandA k Reg.FL_DIE) d = (s.flDieWrite k (s.newWord al (strandA k Reg.FL_DIE) d)).send (.accepted m) := by
  rw [busWord_strand hm (by decide) (h := ⟨_, _⟩) rfl (.inl rfl) (by decide) rfl]
  unfold State.strandWrite
  iterate 9 rw [if_neg (by decide)]
  rw [if_pos rfl, newWord_at ((regAt_strand k (by decide)).trans rfl)]

theorem busWord_PS_LIM {s : State} {m : Master} {al : Alias} {n : Fin 1536} {d : Word} (hm : s.mayWrite m (pinA n Reg.PS_LIM) = true) :
    s.busWord m al (pinA n Reg.PS_LIM) d = (s.psLimWrite n (s.newWord al (pinA n Reg.PS_LIM) d)).send (.accepted m) := by
  rw [busWord_pin hm (by decide) (h := ⟨_, _⟩) rfl (.inl rfl) (by decide) rfl]
  unfold State.pinWrite
  skip
  rw [if_pos rfl, newWord_at ((regAt_pin n (by decide)).trans rfl)]

theorem busWord_PS_EVT {s : State} {m : Master} {n : Fin 1536} {d : Word} (hm : s.mayWrite m (pinA n Reg.PS_EVT) = true) :
    s.busWord m .normal (pinA n Reg.PS_EVT) d = (s.evtWrite n d).send (.accepted m) := by
  rw [busWord_pin hm (by decide) (h := ⟨_, _⟩) rfl (.inr rfl) (by decide) rfl]
  unfold State.pinWrite
  iterate 2 rw [if_neg (by decide)]
  rw [if_pos rfl]

theorem busWord_PM_FORCE_DIRECT {s : State} {m : Master} {al : Alias} {n : Fin 1536} {d : Word} (hm : s.mayWrite m (pinA n Reg.PM_FORCE_DIRECT) = true) :
    s.busWord m al (pinA n Reg.PM_FORCE_DIRECT) d = ((s.wr (pinA n Reg.PM_FORCE_DIRECT) (s.newWord al (pinA n Reg.PM_FORCE_DIRECT) d)).forceDirect n (s.newWord al (pinA n Reg.PM_FORCE_DIRECT) d)).send (.accepted m) := by
  rw [busWord_pin hm (by decide) (h := ⟨_, _⟩) rfl (.inl rfl) (by decide) rfl]
  unfold State.pinWrite
  iterate 4 rw [if_neg (by decide)]
  rw [if_pos rfl, newWord_at ((regAt_pin n (by decide)).trans rfl)]

theorem busWord_TD_CTRL {s : State} {m : Master} {n : Fin 1536} {d : Word} (hm : s.mayWrite m (pinA n Reg.TD_CTRL) = true) :
    s.busWord m .normal (pinA n Reg.TD_CTRL) d = (s.tdCtrl n d).send (.accepted m) := by
  rw [busWord_pin hm (by decide) (h := ⟨_, _⟩) rfl (.inr rfl) (by decide) rfl]
  unfold State.pinWrite
  iterate 5 rw [if_neg (by decide)]
  rw [if_pos rfl]

theorem busWord_PM_LIM_V {s : State} {m : Master} {al : Alias} {n : Fin 1536} {d : Word} (hm : s.mayWrite m (pinA n Reg.PM_LIM_V) = true) :
    s.busWord m al (pinA n Reg.PM_LIM_V) d = (s.pmLimWrite n Reg.PM_LIM_V (s.newWord al (pinA n Reg.PM_LIM_V) d)).send (.accepted m) := by
  rw [busWord_pin hm (by decide) (h := ⟨_, _⟩) rfl (.inl rfl) (by decide) rfl]
  unfold State.pinWrite
  iterate 1 rw [if_neg (by decide)]
  rw [if_pos (by decide), newWord_at ((regAt_pin n (by decide)).trans rfl)]

theorem busWord_PM_LIM_I {s : State} {m : Master} {al : Alias} {n : Fin 1536} {d : Word} (hm : s.mayWrite m (pinA n Reg.PM_LIM_I) = true) :
    s.busWord m al (pinA n Reg.PM_LIM_I) d = (s.pmLimWrite n Reg.PM_LIM_I (s.newWord al (pinA n Reg.PM_LIM_I) d)).send (.accepted m) := by
  rw [busWord_pin hm (by decide) (h := ⟨_, _⟩) rfl (.inl rfl) (by decide) rfl]
  unfold State.pinWrite
  iterate 1 rw [if_neg (by decide)]
  rw [if_pos (by decide), newWord_at ((regAt_pin n (by decide)).trans rfl)]

theorem busWord_HT_QP_CTRL {s : State} {m : Master} {q : Fin 64} {d : Word} (hm : s.mayWrite m (qpA q Reg.HT_QP_CTRL) = true) :
    s.busWord m .normal (qpA q Reg.HT_QP_CTRL) d = (s.qpCtrlWrite q d).send (.accepted m) := by
  rw [busWord_qp hm (by decide) (h := ⟨_, _⟩) rfl (.inr rfl) (by decide) rfl]
  unfold State.qpWrite
  rw [if_pos rfl]

/-- ED_E0 to ED_E5. -/
theorem busWord_ED {s : State} {m : Master} {al : Alias} {k : Fin 192} {e : Fin 6} {d : Word} (hm : s.mayWrite m (strandA k (Reg.ED_E0 + 4 * e)) = true) :
    s.busWord m al (strandA k (Reg.ED_E0 + 4 * e)) d = (s.edWrite k e al d).send (.accepted m) := by
  have he := e.isLt
  have hr : ∀ e : Fin 6, (match findReg strandRows (Reg.ED_E0 + 4 * e) with
    | some h => h.row.aliased && h.row.w != 0 && h.row.group == none | none => false) = true := by decide
  have hr := hr e
  split at hr
  next h hh =>
    simp only [Bool.and_eq_true, bne_iff_ne, beq_iff_eq] at hr
    rw [busWord_strand hm (by clear hh hm he; revert e; decide) hh (.inl hr.1.1) (.inl hr.1.2) hr.2]
    unfold State.strandWrite
    iterate 5 rw [if_neg (by clear hh hm he; revert e; decide)]
    rw [if_pos (by omega)]
    rw [show (Reg.ED_E0 + 4 * e.val - Reg.ED_E0) / 4 = e.val by omega]
  next => cases hr

/-- PS_BW_CTRL, with a trip condition of the pin `present` or not. -/
theorem busWrite_PS_BW_CTRL {s : State} {m : Master} {n : Fin 1536} {d : Word} {b : Bool} (hm : s.mayWrite m (pinA n Reg.PS_BW_CTRL) = true) :
    s.busWrite m (pinA n Reg.PS_BW_CTRL) [d] 0 (some b) = (s.bwCtrlWrite n d b).send (.accepted m) := by
  have e := busWrite_pin (al := .normal) (d := d) (present := some b) hm (by decide) (h := ⟨_, _⟩) rfl (.inr rfl) (by decide) rfl
  rw [show aliasBase .normal = 0 from rfl, Nat.zero_add] at e
  rw [e]
  unfold State.pinWrite
  iterate 3 rw [if_neg (by decide)]
  rw [if_pos rfl]

end Sys2Proof.Machine
end

