-- ==== Sys2Proof/Laws/RingWithin.lean ====
section
/-! SUPPORT. What the definitions of Machine/Ring.lean keep, and all that they may change (Laws/Within.lean). -/

namespace Sys2Proof.Machine

set_option linter.all false

theorem within_State_passOn {m : Nat} {s₀ s : State} (hm : m ||| 0x40000000000000000000000000100000000 = m) (p : Nat) (type : Nat)
    (f : Adeo) (h₀ : Within m s₀ s) : Within m s₀ (State.passOn s p type f) := by
  unfold State.passOn
  repeat' first
    | with_reducible assumption | with_reducible apply Within.send _ (Mask.bit hm rfl) | with_reducible apply within_State_satAdd
    | with_reducible apply within_State_sendTc0 (Mask.sub hm rfl) | exact touch_linkErrA (Mask.bit hm rfl) _
    | with_reducible refine Within.ite ?_ ?_ | split | (extract_lets; split)

theorem within_State_relay {m : Nat} {s₀ s : State} (hm : m ||| 0x40000000000000000000000000100000000 = m) (p : Nat) (type : Nat)
    (f : Adeo) (h₀ : Within m s₀ s) : Within m s₀ (State.relay s p type f) := by
  unfold State.relay
  repeat' first
    | with_reducible assumption | with_reducible apply within_State_passOn (Mask.sub hm rfl) | with_reducible refine Within.ite ?_ ?_
    | split | (extract_lets; split)
    | (with_reducible refine Within.mk ?_ ?hk
       case hk => (repeat' apply And.intro) <;> first | with_reducible exact .inr rfl | exact .inl (Mask.bit hm rfl)
       first
        | with_reducible assumption | with_reducible apply within_State_passOn (Mask.sub hm rfl)
        | with_reducible refine Within.ite ?_ ?_ | split | (extract_lets; split))

theorem within_State_adeoWith {m : Nat} {s₀ s : State} (hm : m ||| 0x40020000000000000000000000101010000 = m) (p : Nat) (type : Nat)
    (f : Adeo) (twice : Bool) (act : State → State) (send : State → State) (h_act : ∀ x0, Within m s₀ x0 → Within m s₀ (act x0))
    (h_send : ∀ x0, Within m s₀ x0 → Within m s₀ (send x0)) (h₀ : Within m s₀ s) :
    Within m s₀ (State.adeoWith s p type f twice act send) := by
  unfold State.adeoWith
  repeat' first
    | with_reducible assumption | with_reducible apply Within.send _ (Mask.bit hm rfl) | with_reducible apply within_State_raise
    | with_reducible apply within_State_satAdd | with_reducible apply within_State_fault (Mask.sub hm rfl)
    | with_reducible apply within_State_passOn (Mask.sub hm rfl) | with_reducible apply h_act | with_reducible apply h_send
    | exact touch_linkErrA (Mask.bit hm rfl) _ | exact touch_RG_STAT (Mask.bit hm rfl) | with_reducible refine Within.ite ?_ ?_ | split
    | (extract_lets; split)
    | (with_reducible refine Within.mk ?_ ?hk
       case hk => (repeat' apply And.intro) <;> first | with_reducible exact .inr rfl | exact .inl (Mask.bit hm rfl)
       first
        | with_reducible assumption | with_reducible apply Within.send _ (Mask.bit hm rfl) | with_reducible apply within_State_raise
        | with_reducible apply within_State_satAdd | with_reducible apply within_State_fault (Mask.sub hm rfl)
        | with_reducible apply within_State_passOn (Mask.sub hm rfl) | with_reducible apply h_act | with_reducible apply h_send
        | with_reducible refine Within.ite ?_ ?_ | split | (extract_lets; split)
        | (with_reducible refine Within.mk ?_ ?hk
           case hk => (repeat' apply And.intro) <;> first | with_reducible exact .inr rfl | exact .inl (Mask.bit hm rfl)
           first
            | with_reducible assumption | with_reducible apply Within.send _ (Mask.bit hm rfl)
            | with_reducible apply within_State_raise | with_reducible apply within_State_satAdd
            | with_reducible apply within_State_fault (Mask.sub hm rfl) | with_reducible apply within_State_passOn (Mask.sub hm rfl)
            | with_reducible apply h_act | with_reducible apply h_send | with_reducible refine Within.ite ?_ ?_ | split
            | (extract_lets; split)))

theorem within_State_adeo {m : Nat} {s₀ s : State} (hm : m ||| 0x40020000000000000000000000101010000 = m) (p : Nat) (type : Nat)
    (f : Adeo) (act : State → State) (h_act : ∀ x0, Within m s₀ x0 → Within m s₀ (act x0)) (h₀ : Within m s₀ s) :
    Within m s₀ (State.adeo s p type f act) := by
  unfold State.adeo
  repeat' first
    | with_reducible assumption | with_reducible intro _ | with_reducible apply within_State_relay (Mask.sub hm rfl)
    | with_reducible apply within_State_adeoWith (Mask.sub hm rfl) | with_reducible apply h_act

theorem within_State_consumed {m : Nat} {s₀ s : State} (hm : m ||| 0x1800000000000000000000000000100010000 = m) (p : Nat) (t : Nat)
    (n : Nat) (h₀ : Within m s₀ s) : Within m s₀ (State.consumed s p t n) := by
  unfold State.consumed
  repeat' first
    | with_reducible assumption | with_reducible apply within_State_addCr
    | with_reducible apply within_State_returnCells (Mask.sub hm rfl) | exact touch_cr_RG_CR_RX (Mask.bit hm rfl) _ _

theorem within_State_sendPfc {m : Nat} {s₀ s : State} (hm : m ||| 0x100000000 = m) (quanta : Nat) (h₀ : Within m s₀ s) :
    Within m s₀ (State.sendPfc s quanta) := by
  unfold State.sendPfc
  repeat' first
    | with_reducible assumption | with_reducible apply Within.send _ (Mask.bit hm rfl)
    | with_reducible apply within_State_sendTc0 (Mask.sub hm rfl)

theorem within_State_rxIn {m : Nat} {s₀ s : State} (hm : m ||| 0x100008004 = m) (p : Nat) (len : Nat) (h₀ : Within m s₀ s) :
    Within m s₀ (State.rxIn s p len) := by
  unfold State.rxIn
  repeat' first
    | with_reducible assumption | with_reducible apply Within.free (Mask.bit hm rfl)
    | with_reducible apply Within.send _ (Mask.bit hm rfl) | with_reducible apply within_State_sendPfc (Mask.sub hm rfl)
    | with_reducible refine Within.snd (by assumption) ?_ | with_reducible refine Within.fst (by assumption) ?_
    | with_reducible refine Within.ite ?_ ?_ | split | (extract_lets; split)
    | (with_reducible refine Within.mk ?_ ?hk
       case hk => (repeat' apply And.intro) <;> first | with_reducible exact .inr rfl | exact .inl (Mask.bit hm rfl)
       first
        | with_reducible assumption | with_reducible apply Within.free (Mask.bit hm rfl)
        | with_reducible apply Within.send _ (Mask.bit hm rfl) | with_reducible apply within_State_sendPfc (Mask.sub hm rfl)
        | with_reducible refine Within.snd (by assumption) ?_ | with_reducible refine Within.fst (by assumption) ?_
        | with_reducible refine Within.ite ?_ ?_ | split | (extract_lets; split)
        | (with_reducible refine Within.mk ?_ ?hk
           case hk => (repeat' apply And.intro) <;> first | with_reducible exact .inr rfl | exact .inl (Mask.bit hm rfl)
           first
            | with_reducible assumption | with_reducible apply Within.free (Mask.bit hm rfl)
            | with_reducible apply Within.send _ (Mask.bit hm rfl) | with_reducible apply within_State_sendPfc (Mask.sub hm rfl)
            | with_reducible refine Within.snd (by assumption) ?_ | with_reducible refine Within.fst (by assumption) ?_
            | with_reducible refine Within.ite ?_ ?_ | split | (extract_lets; split)))

theorem within_State_rxOut {m : Nat} {s₀ s : State} (hm : m ||| 0x100008000 = m) (h₀ : Within m s₀ s) :
    Within m s₀ (State.rxOut s) := by
  unfold State.rxOut
  repeat' first
    | with_reducible assumption | with_reducible apply Within.send _ (Mask.bit hm rfl)
    | with_reducible apply within_State_sendPfc (Mask.sub hm rfl) | with_reducible refine Within.ite ?_ ?_ | split
    | (extract_lets; split)
    | (with_reducible refine Within.mk ?_ ?hk
       case hk => (repeat' apply And.intro) <;> first | with_reducible exact .inr rfl | exact .inl (Mask.bit hm rfl)
       first
        | with_reducible assumption | with_reducible apply Within.send _ (Mask.bit hm rfl)
        | with_reducible apply within_State_sendPfc (Mask.sub hm rfl) | with_reducible refine Within.ite ?_ ?_ | split
        | (extract_lets; split)
        | (with_reducible refine Within.mk ?_ ?hk
           case hk => (repeat' apply And.intro) <;> first | with_reducible exact .inr rfl | exact .inl (Mask.bit hm rfl)
           first
            | with_reducible assumption | with_reducible apply Within.send _ (Mask.bit hm rfl)
            | with_reducible apply within_State_sendPfc (Mask.sub hm rfl) | with_reducible refine Within.ite ?_ ?_ | split
            | (extract_lets; split)))

theorem within_State_transit {m : Nat} {s₀ s : State} (hm : m ||| 0x3B40000000000000000000000000100010000 = m) (p : Nat)
    (f : EthFrame) (h₀ : Within m s₀ s) : Within m s₀ (State.transit s p f) := by
  unfold State.transit
  repeat' first
    | with_reducible assumption | with_reducible intro _ | with_reducible apply within_State_satAdd
    | with_reducible apply within_State_modPort (Mask.sub hm rfl) | with_reducible apply within_State_addCr
    | with_reducible apply within_State_returnCells (Mask.sub hm rfl) | with_reducible apply within_State_drain (Mask.sub hm rfl)
    | exact touch_cr_RG_CR_HELD (Mask.bit hm rfl) _ _ | exact touch_cr_RG_CR_RX (Mask.bit hm rfl) _ _
    | exact touch_linkErrA (Mask.bit hm rfl) _ | with_reducible refine Within.ite ?_ ?_ | split | (extract_lets; split)
    | (with_reducible refine Within.mk ?_ ?hk
       case hk => (repeat' apply And.intro) <;> first | with_reducible exact .inr rfl | exact .inl (Mask.bit hm rfl)
       first
        | with_reducible assumption | with_reducible apply within_State_satAdd
        | with_reducible apply within_State_modPort (Mask.sub hm rfl) | with_reducible apply within_State_addCr
        | with_reducible apply within_State_returnCells (Mask.sub hm rfl) | with_reducible apply within_State_drain (Mask.sub hm rfl)
        | with_reducible refine Within.ite ?_ ?_ | split | (extract_lets; split))

theorem within_execFrameForward {m : Nat} {s₀ s : State} (hm : m ||| 0x3B40000000000000000000000000100018005 = m) (p : Fin 2)
    (f : EthFrame) (at_ : Nat) (h₀ : Within m s₀ s) : AnswersWithin m s₀ (execFrameForward p f at_ s) := by
  unfold execFrameForward
  repeat' first
    | with_reducible assumption | with_reducible refine AnswersWithin.next ?_ | with_reducible refine AnswersWithin.ite ?_ ?_
    | with_reducible intro _ | with_reducible apply Within.advanceTo _ (Mask.bit hm rfl) | with_reducible apply within_State_satAdd
    | with_reducible apply within_State_consumed (Mask.sub hm rfl) | with_reducible apply within_State_rxIn (Mask.sub hm rfl)
    | with_reducible apply within_State_transit (Mask.sub hm rfl) | exact touch_linkErrA (Mask.bit hm rfl) _
    | with_reducible refine Within.ite ?_ ?_ | split | (extract_lets; split)

theorem within_State_enterSlack {m : Nat} {s₀ s : State}
    (hm : m ||| 0x100000000000000800002000000000F901080E00000870000080000000181E000078002000000001000000020000200000702000B3470340020380000382204203003FFFFFFFF = m)
    (reason : Nat) (src : Nat) (h₀ : Within m s₀ s) : Within m s₀ (State.enterSlack s reason src) := by
  unfold State.enterSlack
  repeat' first
    | with_reducible assumption | with_reducible intro _ | with_reducible apply Within.wr | with_reducible apply within_State_raise
    | with_reducible apply within_State_wr64 | with_reducible apply within_State_forcePins (Mask.sub hm rfl)
    | with_reducible apply within_State_abortRun (Mask.sub hm rfl) | with_reducible apply within_State_raiseAll (Mask.sub hm rfl)
    | with_reducible apply within_State_abortCal (Mask.sub hm rfl) | with_reducible apply within_State_abortCals (Mask.sub hm rfl)
    | with_reducible refine Within.each ?_ ?_ | exact touch_RG_SLACK (Mask.bit hm rfl) | exact touch_RG_SLACK_T_HI (Mask.bit hm rfl)
    | exact touch_RG_SLACK_T_LO (Mask.bit hm rfl) | exact touch_RG_STAT (Mask.bit hm rfl) | exact touch_RG_STATE (Mask.bit hm rfl)
    | exact Touch.any (Mask.bit hm rfl) | with_reducible refine Within.ite ?_ ?_ | split | (extract_lets; split)
    | (with_reducible refine Within.mk ?_ ?hk
       case hk => (repeat' apply And.intro) <;> first | with_reducible exact .inr rfl | exact .inl (Mask.bit hm rfl)
       first
        | with_reducible assumption | with_reducible apply Within.wr | with_reducible apply within_State_raise
        | with_reducible apply within_State_wr64 | with_reducible apply within_State_forcePins (Mask.sub hm rfl)
        | with_reducible apply within_State_abortRun (Mask.sub hm rfl) | with_reducible apply within_State_raiseAll (Mask.sub hm rfl)
        | with_reducible apply within_State_abortCal (Mask.sub hm rfl) | with_reducible apply within_State_abortCals (Mask.sub hm rfl)
        | with_reducible refine Within.each ?_ ?_ | with_reducible refine Within.ite ?_ ?_ | split | (extract_lets; split))

theorem within_State_originateSlack {m : Nat} {s₀ s : State}
    (hm : m ||| 0x100000000000000800002000000000F901080E00000870000080000000181E000078002000000001000000020000200000702000B3470340020380000382204203003FFFFFFFF = m)
    (reason : Nat) (h₀ : Within m s₀ s) : Within m s₀ (State.originateSlack s reason) := by
  unfold State.originateSlack
  repeat' first
    | with_reducible assumption | with_reducible apply within_State_originate (Mask.sub hm rfl)
    | with_reducible apply within_State_originateBoth (Mask.sub hm rfl) | with_reducible apply within_State_enterSlack (Mask.sub hm rfl)
    | exact Touch.any (Mask.bit hm rfl)

theorem within_State_clearConn {m : Nat} {s₀ s : State} (hm : m ||| 0x200000018 = m) (mine : Nat → Bool) (h₀ : Within m s₀ s) :
    Within m s₀ (State.clearConn s mine) := by
  unfold State.clearConn
  repeat' first
    | with_reducible assumption | with_reducible intro _ | with_reducible apply Within.wr | with_reducible refine Within.each ?_ ?_
    | with_reducible refine Within.snd (by assumption) ?_ | with_reducible refine Within.fst (by assumption) ?_
    | exact Touch.any (Mask.bit hm rfl) | with_reducible refine Within.ite ?_ ?_ | split | (extract_lets; split)
    | (with_reducible refine Within.mk ?_ ?hk
       case hk => (repeat' apply And.intro) <;> first | with_reducible exact .inr rfl | exact .inl (Mask.bit hm rfl)
       first
        | with_reducible assumption | with_reducible apply Within.wr | with_reducible refine Within.each ?_ ?_
        | with_reducible refine Within.snd (by assumption) ?_ | with_reducible refine Within.fst (by assumption) ?_
        | with_reducible refine Within.ite ?_ ?_ | split | (extract_lets; split)
        | (with_reducible refine Within.mk ?_ ?hk
           case hk => (repeat' apply And.intro) <;> first | with_reducible exact .inr rfl | exact .inl (Mask.bit hm rfl)
           first
            | with_reducible assumption | with_reducible apply Within.wr | with_reducible refine Within.each ?_ ?_
            | with_reducible refine Within.snd (by assumption) ?_ | with_reducible refine Within.fst (by assumption) ?_
            | with_reducible refine Within.ite ?_ ?_ | split | (extract_lets; split)))

theorem within_State_clearSlack {m : Nat} {s₀ s : State} (hm : m ||| 0x30000000000000000000000200800398 = m) (h₀ : Within m s₀ s) :
    Within m s₀ (State.clearSlack s) := by
  unfold State.clearSlack
  repeat' first
    | with_reducible assumption | with_reducible intro _ | with_reducible apply Within.free (Mask.bit hm rfl)
    | with_reducible apply within_State_setFld | with_reducible apply within_State_raise
    | with_reducible apply within_State_freePins (Mask.sub hm rfl) | with_reducible apply within_State_clearConn (Mask.sub hm rfl)
    | exact touch_RG_STAT (Mask.bit hm rfl) | exact touch_RG_STATE (Mask.bit hm rfl) | exact Touch.any (Mask.bit hm rfl)
    | with_reducible refine Within.ite ?_ ?_ | split | (extract_lets; split)
    | (with_reducible refine Within.mk ?_ ?hk
       case hk => (repeat' apply And.intro) <;> first | with_reducible exact .inr rfl | exact .inl (Mask.bit hm rfl)
       first
        | with_reducible assumption | with_reducible apply Within.free (Mask.bit hm rfl) | with_reducible apply within_State_setFld
        | with_reducible apply within_State_raise | with_reducible apply within_State_freePins (Mask.sub hm rfl)
        | with_reducible apply within_State_clearConn (Mask.sub hm rfl) | with_reducible refine Within.ite ?_ ?_ | split
        | (extract_lets; split))

theorem within_State_rgCommand {m : Nat} {s₀ s : State}
    (hm : m ||| 0x100000000000000800002000000000F901080E00000870000080000000181E000078002000000001000000020000200000702000B3470340020380000382204203003FFFFFFFF = m)
    (d : Word) (h₀ : Within m s₀ s) : Within m s₀ (State.rgCommand s d) := by
  unfold State.rgCommand
  repeat' first
    | with_reducible assumption | with_reducible apply within_State_originate (Mask.sub hm rfl)
    | with_reducible apply within_State_originateSlack (Mask.sub hm rfl)
    | with_reducible apply within_State_clearSlack (Mask.sub hm rfl) | exact Touch.any (Mask.bit hm rfl)
    | with_reducible refine Within.ite ?_ ?_ | split | (extract_lets; split)

theorem within_execSlack {m : Nat} {s₀ s : State}
    (hm : m ||| 0x100000000000000800002000000000F901080E00000870000080000000181E000078002000000001000000020000200000702000B3470340020380000382204203003FFFFFFFF = m)
    (p : Fin 2) (f : Adeo) (at_ : Nat) (h₀ : Within m s₀ s) : AnswersWithin m s₀ (execSlack p f at_ s) := by
  unfold execSlack
  repeat' first
    | with_reducible assumption | with_reducible refine AnswersWithin.next ?_ | with_reducible intro _
    | with_reducible apply Within.advanceTo _ (Mask.bit hm rfl) | with_reducible apply within_State_adeo (Mask.sub hm rfl)
    | with_reducible apply within_State_enterSlack (Mask.sub hm rfl) | exact Touch.any (Mask.bit hm rfl)

theorem within_State_dropHold {m : Nat} {s₀ s : State} (hm : m ||| 0x10000000000000000000000100000000 = m) (h₀ : Within m s₀ s) :
    Within m s₀ (State.dropHold s) := by
  unfold State.dropHold
  repeat' first
    | with_reducible assumption | with_reducible apply Within.send _ (Mask.bit hm rfl) | with_reducible apply within_State_setFld
    | with_reducible apply within_State_relay (Mask.sub hm rfl) | exact touch_RG_STATE (Mask.bit hm rfl)
    | with_reducible refine Within.ite ?_ ?_ | split | (extract_lets; split)

theorem within_State_raiseHold {m : Nat} {s₀ s : State} (hm : m ||| 0x10000000000000000000000100000000 = m) (h₀ : Within m s₀ s) :
    Within m s₀ (State.raiseHold s) := by
  unfold State.raiseHold
  repeat' first
    | with_reducible assumption | with_reducible apply Within.send _ (Mask.bit hm rfl) | with_reducible apply within_State_setFld
    | with_reducible apply within_State_relay (Mask.sub hm rfl) | exact touch_RG_STATE (Mask.bit hm rfl)
    | with_reducible refine Within.ite ?_ ?_ | split | (extract_lets; split)

theorem within_State_rgBypass {m : Nat} {s₀ s : State} (hm : m ||| 0x10000000000000000000000100010000 = m) (d : Word)
    (h₀ : Within m s₀ s) : Within m s₀ (State.rgBypass s d) := by
  unfold State.rgBypass
  repeat' first
    | with_reducible assumption | with_reducible apply within_State_dropHold (Mask.sub hm rfl) | with_reducible refine Within.ite ?_ ?_
    | split | (extract_lets; split)
    | (with_reducible refine Within.mk ?_ ?hk
       case hk => (repeat' apply And.intro) <;> first | with_reducible exact .inr rfl | exact .inl (Mask.bit hm rfl)
       first
        | with_reducible assumption | with_reducible apply within_State_dropHold (Mask.sub hm rfl)
        | with_reducible refine Within.ite ?_ ?_ | split | (extract_lets; split)
        | (with_reducible refine Within.mk ?_ ?hk
           case hk => (repeat' apply And.intro) <;> first | with_reducible exact .inr rfl | exact .inl (Mask.bit hm rfl)
           first
            | with_reducible assumption | with_reducible apply within_State_dropHold (Mask.sub hm rfl)
            | with_reducible refine Within.ite ?_ ?_ | split | (extract_lets; split)))

theorem within_State_showBreak {m : Nat} {s₀ s : State} (hm : m ||| 0x30000000000000000000000000000000 = m) (h₀ : Within m s₀ s) :
    Within m s₀ (State.showBreak s) := by
  unfold State.showBreak
  repeat' first
    | with_reducible assumption | with_reducible intro _ | with_reducible apply within_State_setFld
    | with_reducible apply within_State_raise | with_reducible refine Within.snd (by assumption) ?_
    | with_reducible refine Within.fst (by assumption) ?_ | exact touch_RG_STAT (Mask.bit hm rfl)
    | exact touch_RG_STATE (Mask.bit hm rfl) | with_reducible refine Within.ite ?_ ?_ | split | (extract_lets; split)

theorem within_State_addBreak {m : Nat} {s₀ s : State} (hm : m ||| 0x10000030000000000000000000000000030000 = m) (p : Nat) (src : Nat)
    (port : Nat) (h₀ : Within m s₀ s) : Within m s₀ (State.addBreak s p src port) := by
  unfold State.addBreak
  repeat' first
    | with_reducible assumption | with_reducible intro _ | with_reducible apply within_State_failSettle (Mask.sub hm rfl)
    | with_reducible apply within_State_showBreak (Mask.sub hm rfl) | with_reducible refine Within.ite ?_ ?_ | split
    | (extract_lets; split)
    | (with_reducible refine Within.mk ?_ ?hk
       case hk => (repeat' apply And.intro) <;> first | with_reducible exact .inr rfl | exact .inl (Mask.bit hm rfl)
       first
        | with_reducible assumption | with_reducible apply within_State_failSettle (Mask.sub hm rfl)
        | with_reducible apply within_State_showBreak (Mask.sub hm rfl) | with_reducible refine Within.ite ?_ ?_ | split
        | (extract_lets; split)
        | (with_reducible refine Within.mk ?_ ?hk
           case hk => (repeat' apply And.intro) <;> first | with_reducible exact .inr rfl | exact .inl (Mask.bit hm rfl)
           first
            | with_reducible assumption | with_reducible apply within_State_failSettle (Mask.sub hm rfl)
            | with_reducible apply within_State_showBreak (Mask.sub hm rfl) | with_reducible refine Within.ite ?_ ?_ | split
            | (extract_lets; split)))

theorem within_State_delBreak {m : Nat} {s₀ s : State} (hm : m ||| 0x30000000000000000000000000030000 = m) (src : Nat) (port : Nat)
    (h₀ : Within m s₀ s) : Within m s₀ (State.delBreak s src port) := by
  unfold State.delBreak
  repeat' first
    | with_reducible assumption | with_reducible intro _ | with_reducible apply within_State_settleIfWhole (Mask.sub hm rfl)
    | with_reducible apply within_State_showBreak (Mask.sub hm rfl) | with_reducible refine Within.ite ?_ ?_ | split
    | (extract_lets; split)
    | (with_reducible refine Within.mk ?_ ?hk
       case hk => (repeat' apply And.intro) <;> first | with_reducible exact .inr rfl | exact .inl (Mask.bit hm rfl)
       first
        | with_reducible assumption | with_reducible apply within_State_settleIfWhole (Mask.sub hm rfl)
        | with_reducible apply within_State_showBreak (Mask.sub hm rfl) | with_reducible refine Within.ite ?_ ?_ | split
        | (extract_lets; split)
        | (with_reducible refine Within.mk ?_ ?hk
           case hk => (repeat' apply And.intro) <;> first | with_reducible exact .inr rfl | exact .inl (Mask.bit hm rfl)
           first
            | with_reducible assumption | with_reducible apply within_State_settleIfWhole (Mask.sub hm rfl)
            | with_reducible apply within_State_showBreak (Mask.sub hm rfl) | with_reducible refine Within.ite ?_ ?_ | split
            | (extract_lets; split)))

theorem within_State_announce {m : Nat} {s₀ s : State} (hm : m ||| 0x100010000 = m) (p : Nat) (up : Nat) (cause : Nat)
    (h₀ : Within m s₀ s) : Within m s₀ (State.announce s p up cause) := by
  unfold State.announce
  repeat' first
    | with_reducible assumption | with_reducible apply within_State_nextSeq (Mask.sub hm rfl)
    | with_reducible apply within_State_originate (Mask.sub hm rfl) | with_reducible refine Within.snd (by assumption) ?_
    | with_reducible refine Within.fst (by assumption) ?_ | with_reducible refine Within.ite ?_ ?_ | split | (extract_lets; split)

theorem within_State_flushPort {m : Nat} {s₀ s : State} (hm : m ||| 0x3040000000000000000000000000100010000 = m) (p : Nat)
    (h₀ : Within m s₀ s) : Within m s₀ (State.flushPort s p) := by
  unfold State.flushPort
  repeat' first
    | with_reducible assumption | with_reducible intro _ | with_reducible apply within_State_satAdd
    | with_reducible apply within_State_modPort (Mask.sub hm rfl) | with_reducible apply within_State_addCr
    | with_reducible apply within_State_returnCells (Mask.sub hm rfl) | with_reducible apply within_State_transit (Mask.sub hm rfl)
    | with_reducible refine Within.each ?_ ?_ | exact touch_cr_RG_CR_HELD (Mask.bit hm rfl) _ _
    | exact touch_linkErrA (Mask.bit hm rfl) _
    | (with_reducible refine Within.mk ?_ ?hk
       case hk => (repeat' apply And.intro) <;> first | with_reducible exact .inr rfl | exact .inl (Mask.bit hm rfl)
       first
        | with_reducible assumption | with_reducible apply within_State_satAdd
        | with_reducible apply within_State_modPort (Mask.sub hm rfl) | with_reducible apply within_State_addCr
        | with_reducible apply within_State_returnCells (Mask.sub hm rfl) | with_reducible apply within_State_transit (Mask.sub hm rfl)
        | with_reducible refine Within.each ?_ ?_)

theorem within_State_linkDown {m : Nat} {s₀ s : State} (hm : m ||| 0x13060030000000000000000000000101030000 = m) (p : Nat)
    (cause : Nat) (h₀ : Within m s₀ s) : Within m s₀ (State.linkDown s p cause) := by
  unfold State.linkDown
  repeat' first
    | with_reducible assumption | with_reducible intro _ | with_reducible apply within_State_setFld
    | with_reducible apply within_State_fault (Mask.sub hm rfl) | with_reducible apply within_State_modPort (Mask.sub hm rfl)
    | with_reducible apply within_State_addBreak (Mask.sub hm rfl) | with_reducible apply within_State_announce (Mask.sub hm rfl)
    | with_reducible apply within_State_flushPort (Mask.sub hm rfl) | exact touch_linkA (Mask.bit hm rfl) _
    | with_reducible refine Within.ite ?_ ?_ | split | (extract_lets; split)
    | (with_reducible refine Within.mk ?_ ?hk
       case hk => (repeat' apply And.intro) <;> first | with_reducible exact .inr rfl | exact .inl (Mask.bit hm rfl)
       first
        | with_reducible assumption | with_reducible apply within_State_setFld
        | with_reducible apply within_State_fault (Mask.sub hm rfl) | with_reducible apply within_State_modPort (Mask.sub hm rfl)
        | with_reducible apply within_State_addBreak (Mask.sub hm rfl) | with_reducible apply within_State_announce (Mask.sub hm rfl)
        | with_reducible apply within_State_flushPort (Mask.sub hm rfl) | with_reducible refine Within.ite ?_ ?_ | split
        | (extract_lets; split))

theorem within_execPcsLockLoss {m : Nat} {s₀ s : State} (hm : m ||| 0x13060030000000000000000000000101030001 = m) (p : Fin 2)
    (bypass : Bool) (at_ : Nat) (h₀ : Within m s₀ s) : AnswersWithin m s₀ (execPcsLockLoss p bypass at_ s) := by
  unfold execPcsLockLoss
  repeat' first
    | with_reducible assumption | with_reducible refine AnswersWithin.next ?_
    | with_reducible apply Within.advanceTo _ (Mask.bit hm rfl) | with_reducible apply within_State_linkDown (Mask.sub hm rfl)
    | with_reducible refine Within.ite ?_ ?_ | split | (extract_lets; split)

theorem within_execFecUncorrectable {m : Nat} {s₀ s : State} (hm : m ||| 0x13060030000000000000000000000101030001 = m) (p : Fin 2)
    (at_ : Nat) (h₀ : Within m s₀ s) : AnswersWithin m s₀ (execFecUncorrectable p at_ s) := by
  unfold execFecUncorrectable
  repeat' first
    | with_reducible assumption | with_reducible refine AnswersWithin.next ?_
    | with_reducible apply Within.advanceTo _ (Mask.bit hm rfl) | with_reducible apply within_State_linkDown (Mask.sub hm rfl)

theorem within_execLinkTrained {m : Nat} {s₀ s : State} (hm : m ||| 0x20000000000000000000000000100010001 = m) (p : Fin 2) (at_ : Nat)
    (h₀ : Within m s₀ s) : AnswersWithin m s₀ (execLinkTrained p at_ s) := by
  unfold execLinkTrained
  repeat' first
    | with_reducible assumption | with_reducible refine AnswersWithin.next ?_
    | with_reducible apply Within.advanceTo _ (Mask.bit hm rfl) | with_reducible apply within_State_setFld
    | with_reducible apply within_State_originate (Mask.sub hm rfl) | with_reducible apply within_State_originateLocal (Mask.sub hm rfl)
    | exact touch_linkA (Mask.bit hm rfl) _ | with_reducible refine Within.ite ?_ ?_ | split | (extract_lets; split)

theorem within_State_initCredits {m : Nat} {s₀ s : State} (hm : m ||| 0x1FC0000000000000000000000000000010000 = m) (p : Nat)
    (f : Adeo) (h₀ : Within m s₀ s) : Within m s₀ (State.initCredits s p f) := by
  unfold State.initCredits
  repeat' first
    | with_reducible assumption | with_reducible intro _ | with_reducible apply Within.wr | with_reducible apply within_State_satAdd
    | with_reducible apply within_State_modPort (Mask.sub hm rfl) | with_reducible refine Within.each ?_ ?_
    | exact touch_cr_RG_CR_AVAIL (Mask.bit hm rfl) _ _ | exact touch_cr_RG_CR_CLINK (Mask.bit hm rfl) _ _
    | exact touch_cr_RG_CR_RET_RX (Mask.bit hm rfl) _ _ | exact touch_cr_RG_CR_RET_TX (Mask.bit hm rfl) _ _
    | exact touch_cr_RG_CR_RX (Mask.bit hm rfl) _ _ | exact touch_cr_RG_CR_SENT (Mask.bit hm rfl) _ _
    | exact touch_linkErrA (Mask.bit hm rfl) _
    | (with_reducible refine Within.mk ?_ ?hk
       case hk => (repeat' apply And.intro) <;> first | with_reducible exact .inr rfl | exact .inl (Mask.bit hm rfl)
       first
        | with_reducible assumption | with_reducible apply Within.wr | with_reducible apply within_State_satAdd
        | with_reducible apply within_State_modPort (Mask.sub hm rfl) | with_reducible refine Within.each ?_ ?_)

theorem within_execLinkInit {m : Nat} {s₀ s : State} (hm : m ||| 0x3FE0030000000000000000000000101030001 = m) (p : Fin 2) (f : Adeo)
    (at_ : Nat) (h₀ : Within m s₀ s) : AnswersWithin m s₀ (execLinkInit p f at_ s) := by
  unfold execLinkInit
  repeat' first
    | with_reducible assumption | with_reducible refine AnswersWithin.next ?_ | with_reducible intro _
    | with_reducible apply Within.advanceTo _ (Mask.bit hm rfl) | with_reducible apply within_State_setFld
    | with_reducible apply within_State_originate (Mask.sub hm rfl) | with_reducible apply within_State_originateLocal (Mask.sub hm rfl)
    | with_reducible apply within_State_drain (Mask.sub hm rfl) | with_reducible apply within_State_settleOwed (Mask.sub hm rfl)
    | with_reducible apply within_State_adeo (Mask.sub hm rfl) | with_reducible apply within_State_delBreak (Mask.sub hm rfl)
    | with_reducible apply within_State_announce (Mask.sub hm rfl) | with_reducible apply within_State_initCredits (Mask.sub hm rfl)
    | exact touch_linkA (Mask.bit hm rfl) _ | with_reducible refine Within.ite ?_ ?_ | split | (extract_lets; split)

theorem within_execLink {m : Nat} {s₀ s : State} (hm : m ||| 0x10040030000000000000000000000101030001 = m) (p : Fin 2) (f : Adeo)
    (at_ : Nat) (h₀ : Within m s₀ s) : AnswersWithin m s₀ (execLink p f at_ s) := by
  unfold execLink
  repeat' first
    | with_reducible assumption | with_reducible refine AnswersWithin.next ?_ | with_reducible intro _
    | with_reducible apply Within.advanceTo _ (Mask.bit hm rfl) | with_reducible apply within_State_adeo (Mask.sub hm rfl)
    | with_reducible apply within_State_addBreak (Mask.sub hm rfl) | with_reducible apply within_State_delBreak (Mask.sub hm rfl)
    | with_reducible refine Within.ite ?_ ?_ | split | (extract_lets; split)

theorem within_execCredit {m : Nat} {s₀ s : State} (hm : m ||| 0x3740020000000000000000000000101010001 = m) (p : Fin 2) (f : Adeo)
    (at_ : Nat) (h₀ : Within m s₀ s) : AnswersWithin m s₀ (execCredit p f at_ s) := by
  unfold execCredit
  repeat' first
    | with_reducible assumption | with_reducible refine AnswersWithin.next ?_ | with_reducible intro _ | with_reducible apply Within.wr
    | with_reducible apply Within.advanceTo _ (Mask.bit hm rfl) | with_reducible apply within_State_addCr
    | with_reducible apply within_State_drain (Mask.sub hm rfl) | with_reducible apply within_State_adeo (Mask.sub hm rfl)
    | with_reducible refine Within.each ?_ ?_ | exact touch_cr_RG_CR_AVAIL (Mask.bit hm rfl) _ _
    | exact touch_cr_RG_CR_RET_RX (Mask.bit hm rfl) _ _ | with_reducible refine Within.ite ?_ ?_ | split | (extract_lets; split)

theorem within_execCreditTimeout {m : Nat} {s₀ s : State} (hm : m ||| 0x1000000000000000000000000000100010001 = m) (p : Fin 2)
    (h₀ : Within m s₀ s) : AnswersWithin m s₀ (execCreditTimeout p s) := by
  unfold execCreditTimeout
  repeat' first
    | with_reducible assumption | with_reducible refine AnswersWithin.next ?_
    | with_reducible apply Within.advanceTo _ (Mask.bit hm rfl) | with_reducible apply Within.send _ (Mask.bit hm rfl)
    | with_reducible apply within_State_sendCredit (Mask.sub hm rfl) | with_reducible refine Within.snd (by assumption) ?_
    | with_reducible refine Within.fst (by assumption) ?_ | with_reducible refine Within.ite ?_ ?_ | split | (extract_lets; split)

theorem within_execAuditGuard {m : Nat} {s₀ s : State} (hm : m ||| 0x10001 = m) (h₀ : Within m s₀ s) :
    AnswersWithin m s₀ (execAuditGuard s) := by
  unfold execAuditGuard
  repeat' first
    | with_reducible assumption | with_reducible refine AnswersWithin.next ?_
    | with_reducible apply Within.advanceTo _ (Mask.bit hm rfl) | with_reducible refine Within.ite ?_ ?_ | split | (extract_lets; split)
    | (with_reducible refine Within.mk ?_ ?hk
       case hk => (repeat' apply And.intro) <;> first | with_reducible exact .inr rfl | exact .inl (Mask.bit hm rfl)
       first
        | with_reducible assumption | with_reducible apply Within.advanceTo _ (Mask.bit hm rfl)
        | with_reducible refine Within.ite ?_ ?_ | split | (extract_lets; split)
        | (with_reducible refine Within.mk ?_ ?hk
           case hk => (repeat' apply And.intro) <;> first | with_reducible exact .inr rfl | exact .inl (Mask.bit hm rfl)
           first
            | with_reducible assumption | with_reducible apply Within.advanceTo _ (Mask.bit hm rfl)
            | with_reducible refine Within.ite ?_ ?_ | split | (extract_lets; split)))

theorem within_State_auditPort {m : Nat} {s₀ s : State} (hm : m ||| 0x100010000 = m) (p : Nat) (t : Nat) (h₀ : Within m s₀ s) :
    Within m s₀ (State.auditPort s p t) := by
  unfold State.auditPort
  repeat' first
    | with_reducible assumption | with_reducible intro _ | with_reducible apply within_State_modPort (Mask.sub hm rfl)
    | with_reducible apply within_State_originate (Mask.sub hm rfl) | with_reducible apply within_State_originateLocal (Mask.sub hm rfl)
    | with_reducible refine Within.each ?_ ?_ | with_reducible refine Within.ite ?_ ?_ | split | (extract_lets; split)
    | (with_reducible refine Within.mk ?_ ?hk
       case hk => (repeat' apply And.intro) <;> first | with_reducible exact .inr rfl | exact .inl (Mask.bit hm rfl)
       first
        | with_reducible assumption | with_reducible apply within_State_modPort (Mask.sub hm rfl)
        | with_reducible apply within_State_originate (Mask.sub hm rfl)
        | with_reducible apply within_State_originateLocal (Mask.sub hm rfl) | with_reducible refine Within.each ?_ ?_
        | with_reducible refine Within.ite ?_ ?_ | split | (extract_lets; split))

theorem within_State_auditOver {m : Nat} {s₀ s : State} (hm : m ||| 0x4000000000000000000000000000000010000 = m) (h₀ : Within m s₀ s) :
    Within m s₀ (State.auditOver s) := by
  unfold State.auditOver
  repeat' first
    | with_reducible assumption | with_reducible apply within_State_setFld | exact touch_RG_AUDIT (Mask.bit hm rfl)
    | with_reducible refine Within.ite ?_ ?_ | split | (extract_lets; split)
    | (with_reducible refine Within.mk ?_ ?hk
       case hk => (repeat' apply And.intro) <;> first | with_reducible exact .inr rfl | exact .inl (Mask.bit hm rfl)
       first
        | with_reducible assumption | with_reducible apply within_State_setFld | with_reducible refine Within.ite ?_ ?_ | split
        | (extract_lets; split)
        | (with_reducible refine Within.mk ?_ ?hk
           case hk => (repeat' apply And.intro) <;> first | with_reducible exact .inr rfl | exact .inl (Mask.bit hm rfl)
           first
            | with_reducible assumption | with_reducible apply within_State_setFld | with_reducible refine Within.ite ?_ ?_ | split
            | (extract_lets; split)))

theorem within_execAuditInstant {m : Nat} {s₀ s : State} (hm : m ||| 0x7300000000000000000000000000100010001 = m) (h₀ : Within m s₀ s) :
    AnswersWithin m s₀ (execAuditInstant s) := by
  unfold execAuditInstant
  repeat' first
    | with_reducible assumption | with_reducible refine AnswersWithin.next ?_
    | with_reducible apply Within.advanceTo _ (Mask.bit hm rfl) | with_reducible apply within_State_returnCells (Mask.sub hm rfl)
    | with_reducible apply within_State_drain (Mask.sub hm rfl) | with_reducible apply within_State_auditPort (Mask.sub hm rfl)
    | with_reducible apply within_State_auditOver (Mask.sub hm rfl) | with_reducible refine Within.snd (by assumption) ?_
    | with_reducible refine Within.fst (by assumption) ?_ | with_reducible refine Within.ite ?_ ?_ | split | (extract_lets; split)
    | (with_reducible refine Within.mk ?_ ?hk
       case hk => (repeat' apply And.intro) <;> first | with_reducible exact .inr rfl | exact .inl (Mask.bit hm rfl)
       first
        | with_reducible assumption | with_reducible apply Within.advanceTo _ (Mask.bit hm rfl)
        | with_reducible apply within_State_returnCells (Mask.sub hm rfl) | with_reducible apply within_State_drain (Mask.sub hm rfl)
        | with_reducible apply within_State_auditPort (Mask.sub hm rfl) | with_reducible apply within_State_auditOver (Mask.sub hm rfl)
        | with_reducible refine Within.snd (by assumption) ?_ | with_reducible refine Within.fst (by assumption) ?_
        | with_reducible refine Within.ite ?_ ?_ | split | (extract_lets; split)
        | (with_reducible refine Within.mk ?_ ?hk
           case hk => (repeat' apply And.intro) <;> first | with_reducible exact .inr rfl | exact .inl (Mask.bit hm rfl)
           first
            | with_reducible assumption | with_reducible apply Within.advanceTo _ (Mask.bit hm rfl)
            | with_reducible apply within_State_returnCells (Mask.sub hm rfl)
            | with_reducible apply within_State_drain (Mask.sub hm rfl) | with_reducible apply within_State_auditPort (Mask.sub hm rfl)
            | with_reducible apply within_State_auditOver (Mask.sub hm rfl) | with_reducible refine Within.snd (by assumption) ?_
            | with_reducible refine Within.fst (by assumption) ?_ | with_reducible refine Within.ite ?_ ?_ | split
            | (extract_lets; split)))

theorem within_execAudit {m : Nat} {s₀ s : State} (hm : m ||| 0x4040020000000000038200000000101010001 = m) (p : Fin 2) (f : Adeo)
    (at_ : Nat) (h₀ : Within m s₀ s) : AnswersWithin m s₀ (execAudit p f at_ s) := by
  unfold execAudit
  repeat' first
    | with_reducible assumption | with_reducible refine AnswersWithin.next ?_ | with_reducible refine AnswersWithin.ite ?_ ?_
    | with_reducible intro _ | with_reducible apply Within.advanceTo _ (Mask.bit hm rfl) | with_reducible apply within_State_satAdd
    | with_reducible apply within_State_modPort (Mask.sub hm rfl) | with_reducible apply within_State_imbalance (Mask.sub hm rfl)
    | with_reducible apply within_State_adeo (Mask.sub hm rfl) | with_reducible apply within_State_auditOver (Mask.sub hm rfl)
    | with_reducible refine Within.snd (by assumption) ?_ | with_reducible refine Within.fst (by assumption) ?_
    | exact touch_RG_AUDIT (Mask.bit hm rfl) | with_reducible refine Within.ite ?_ ?_ | split | (extract_lets; split)
    | (with_reducible refine Within.mk ?_ ?hk
       case hk => (repeat' apply And.intro) <;> first | with_reducible exact .inr rfl | exact .inl (Mask.bit hm rfl)
       first
        | with_reducible assumption | with_reducible apply Within.advanceTo _ (Mask.bit hm rfl)
        | with_reducible apply within_State_satAdd | with_reducible apply within_State_modPort (Mask.sub hm rfl)
        | with_reducible apply within_State_imbalance (Mask.sub hm rfl) | with_reducible apply within_State_adeo (Mask.sub hm rfl)
        | with_reducible apply within_State_auditOver (Mask.sub hm rfl) | with_reducible refine Within.snd (by assumption) ?_
        | with_reducible refine Within.fst (by assumption) ?_ | with_reducible refine Within.ite ?_ ?_ | split | (extract_lets; split)
        | (with_reducible refine Within.mk ?_ ?hk
           case hk => (repeat' apply And.intro) <;> first | with_reducible exact .inr rfl | exact .inl (Mask.bit hm rfl)
           first
            | with_reducible assumption | with_reducible apply Within.advanceTo _ (Mask.bit hm rfl)
            | with_reducible apply within_State_satAdd | with_reducible apply within_State_modPort (Mask.sub hm rfl)
            | with_reducible apply within_State_imbalance (Mask.sub hm rfl) | with_reducible apply within_State_adeo (Mask.sub hm rfl)
            | with_reducible apply within_State_auditOver (Mask.sub hm rfl) | with_reducible refine Within.snd (by assumption) ?_
            | with_reducible refine Within.fst (by assumption) ?_ | with_reducible refine Within.ite ?_ ?_ | split
            | (extract_lets; split)))

theorem within_execAuditTimeout {m : Nat} {s₀ s : State} (hm : m ||| 0x4000000000000000000000000000000010001 = m) (h₀ : Within m s₀ s) :
    AnswersWithin m s₀ (execAuditTimeout s) := by
  unfold execAuditTimeout
  repeat' first
    | with_reducible assumption | with_reducible refine AnswersWithin.next ?_ | with_reducible intro _
    | with_reducible apply Within.advanceTo _ (Mask.bit hm rfl) | with_reducible apply within_State_satAdd
    | with_reducible apply within_State_modPort (Mask.sub hm rfl) | with_reducible apply within_State_auditOver (Mask.sub hm rfl)
    | with_reducible refine Within.snd (by assumption) ?_ | with_reducible refine Within.fst (by assumption) ?_
    | exact touch_RG_AUDIT (Mask.bit hm rfl) | with_reducible refine Within.ite ?_ ?_ | split | (extract_lets; split)
    | (with_reducible refine Within.mk ?_ ?hk
       case hk => (repeat' apply And.intro) <;> first | with_reducible exact .inr rfl | exact .inl (Mask.bit hm rfl)
       first
        | with_reducible assumption | with_reducible apply Within.advanceTo _ (Mask.bit hm rfl)
        | with_reducible apply within_State_satAdd | with_reducible apply within_State_modPort (Mask.sub hm rfl)
        | with_reducible apply within_State_auditOver (Mask.sub hm rfl) | with_reducible refine Within.snd (by assumption) ?_
        | with_reducible refine Within.fst (by assumption) ?_ | with_reducible refine Within.ite ?_ ?_ | split | (extract_lets; split)
        | (with_reducible refine Within.mk ?_ ?hk
           case hk => (repeat' apply And.intro) <;> first | with_reducible exact .inr rfl | exact .inl (Mask.bit hm rfl)
           first
            | with_reducible assumption | with_reducible apply Within.advanceTo _ (Mask.bit hm rfl)
            | with_reducible apply within_State_satAdd | with_reducible apply within_State_modPort (Mask.sub hm rfl)
            | with_reducible apply within_State_auditOver (Mask.sub hm rfl) | with_reducible refine Within.snd (by assumption) ?_
            | with_reducible refine Within.fst (by assumption) ?_ | with_reducible refine Within.ite ?_ ?_ | split
            | (extract_lets; split)))

theorem within_execHeartbeat {m : Nat} {s₀ s : State} (hm : m ||| 0x40020000000000000000000000101010005 = m) (p : Fin 2) (f : Adeo)
    (at_ : Nat) (h₀ : Within m s₀ s) : AnswersWithin m s₀ (execHeartbeat p f at_ s) := by
  unfold execHeartbeat
  repeat' first
    | with_reducible assumption | with_reducible refine AnswersWithin.next ?_ | with_reducible intro _
    | with_reducible apply Within.advanceTo _ (Mask.bit hm rfl) | with_reducible apply Within.free (Mask.bit hm rfl)
    | with_reducible apply within_State_nextSeq (Mask.sub hm rfl) | with_reducible apply within_State_originate (Mask.sub hm rfl)
    | with_reducible apply within_State_adeo (Mask.sub hm rfl) | with_reducible refine Within.snd (by assumption) ?_
    | with_reducible refine Within.fst (by assumption) ?_ | with_reducible refine Within.ite ?_ ?_ | split | (extract_lets; split)

theorem within_execHbReply {m : Nat} {s₀ s : State} (hm : m ||| 0x40020000000000000000000000101010001 = m) (p : Fin 2) (f : Adeo)
    (at_ : Nat) (h₀ : Within m s₀ s) : AnswersWithin m s₀ (execHbReply p f at_ s) := by
  unfold execHbReply
  repeat' first
    | with_reducible assumption | with_reducible refine AnswersWithin.next ?_ | with_reducible intro _
    | with_reducible apply Within.advanceTo _ (Mask.bit hm rfl) | with_reducible apply within_State_modPort (Mask.sub hm rfl)
    | with_reducible apply within_State_adeo (Mask.sub hm rfl)
    | (with_reducible refine Within.mk ?_ ?hk
       case hk => (repeat' apply And.intro) <;> first | with_reducible exact .inr rfl | exact .inl (Mask.bit hm rfl)
       first
        | with_reducible assumption | with_reducible apply Within.advanceTo _ (Mask.bit hm rfl)
        | with_reducible apply within_State_modPort (Mask.sub hm rfl) | with_reducible apply within_State_adeo (Mask.sub hm rfl))

theorem within_execHeartbeatSend {m : Nat} {s₀ s : State} (hm : m ||| 0x100010001 = m) (h₀ : Within m s₀ s) :
    AnswersWithin m s₀ (execHeartbeatSend s) := by
  unfold execHeartbeatSend
  repeat' first
    | with_reducible assumption | with_reducible refine AnswersWithin.next ?_ | with_reducible intro _
    | with_reducible apply Within.advanceTo _ (Mask.bit hm rfl) | with_reducible apply within_State_modPort (Mask.sub hm rfl)
    | with_reducible apply within_State_originate (Mask.sub hm rfl) | with_reducible apply within_State_originateLocal (Mask.sub hm rfl)
    | with_reducible refine Within.each ?_ ?_ | with_reducible refine Within.ite ?_ ?_ | split | (extract_lets; split)
    | (with_reducible refine Within.mk ?_ ?hk
       case hk => (repeat' apply And.intro) <;> first | with_reducible exact .inr rfl | exact .inl (Mask.bit hm rfl)
       first
        | with_reducible assumption | with_reducible apply Within.advanceTo _ (Mask.bit hm rfl)
        | with_reducible apply within_State_modPort (Mask.sub hm rfl) | with_reducible apply within_State_originate (Mask.sub hm rfl)
        | with_reducible apply within_State_originateLocal (Mask.sub hm rfl) | with_reducible refine Within.each ?_ ?_
        | with_reducible refine Within.ite ?_ ?_ | split | (extract_lets; split)
        | (with_reducible refine Within.mk ?_ ?hk
           case hk => (repeat' apply And.intro) <;> first | with_reducible exact .inr rfl | exact .inl (Mask.bit hm rfl)
           first
            | with_reducible assumption | with_reducible apply Within.advanceTo _ (Mask.bit hm rfl)
            | with_reducible apply within_State_modPort (Mask.sub hm rfl)
            | with_reducible apply within_State_originate (Mask.sub hm rfl)
            | with_reducible apply within_State_originateLocal (Mask.sub hm rfl) | with_reducible refine Within.each ?_ ?_
            | with_reducible refine Within.ite ?_ ?_ | split | (extract_lets; split)))

theorem within_execHbMiss {m : Nat} {s₀ s : State} (hm : m ||| 0x13060030000000000000000000000101030001 = m) (p : Fin 2)
    (h₀ : Within m s₀ s) : AnswersWithin m s₀ (execHbMiss p s) := by
  unfold execHbMiss
  repeat' first
    | with_reducible assumption | with_reducible refine AnswersWithin.next ?_
    | with_reducible apply Within.advanceTo _ (Mask.bit hm rfl) | with_reducible apply within_State_linkDown (Mask.sub hm rfl)
    | with_reducible refine Within.ite ?_ ?_ | split | (extract_lets; split)

theorem within_State_showActive {m : Nat} {s₀ s : State} (hm : m ||| 0x18000000000000000030004000000000000 = m) (h₀ : Within m s₀ s) :
    Within m s₀ (State.showActive s) := by
  unfold State.showActive
  repeat' first
    | with_reducible assumption | with_reducible intro _ | with_reducible apply Within.wr | with_reducible apply within_State_wr64
    | with_reducible apply within_State_setRingActive (Mask.sub hm rfl) | with_reducible refine Within.foldl _ ?_ ?_
    | with_reducible refine Within.foldlFst _ ?_ ?_ | with_reducible refine Within.foldlSnd _ ?_ ?_
    | exact touch_RG_ACTIVE_HI (Mask.bit hm rfl) | exact touch_RG_ACTIVE_LO (Mask.bit hm rfl)

theorem within_State_setActive {m : Nat} {s₀ s : State} (hm : m ||| 0x18000000000000000030004000000010000 = m) (pos : Nat) (on : Bool)
    (h₀ : Within m s₀ s) : Within m s₀ (State.setActive s pos on) := by
  unfold State.setActive
  repeat' first
    | with_reducible assumption | with_reducible apply within_State_showActive (Mask.sub hm rfl)
    | with_reducible refine Within.ite ?_ ?_ | split | (extract_lets; split)
    | (with_reducible refine Within.mk ?_ ?hk
       case hk => (repeat' apply And.intro) <;> first | with_reducible exact .inr rfl | exact .inl (Mask.bit hm rfl)
       first
        | with_reducible assumption | with_reducible apply within_State_showActive (Mask.sub hm rfl)
        | with_reducible refine Within.ite ?_ ?_ | split | (extract_lets; split)
        | (with_reducible refine Within.mk ?_ ?hk
           case hk => (repeat' apply And.intro) <;> first | with_reducible exact .inr rfl | exact .inl (Mask.bit hm rfl)
           first
            | with_reducible assumption | with_reducible apply within_State_showActive (Mask.sub hm rfl)
            | with_reducible refine Within.ite ?_ ?_ | split | (extract_lets; split)))

theorem within_State_sendActive {m : Nat} {s₀ s : State} (hm : m ||| 0x18000000000000000030004000100010000 = m) (h₀ : Within m s₀ s) :
    Within m s₀ (State.sendActive s) := by
  unfold State.sendActive
  repeat' first
    | with_reducible assumption | with_reducible apply within_State_originate (Mask.sub hm rfl)
    | with_reducible apply within_State_originateBoth (Mask.sub hm rfl) | with_reducible apply within_State_setActive (Mask.sub hm rfl)
    | (with_reducible refine Within.mk ?_ ?hk
       case hk => (repeat' apply And.intro) <;> first | with_reducible exact .inr rfl | exact .inl (Mask.bit hm rfl)
       first
        | with_reducible assumption | with_reducible apply within_State_originate (Mask.sub hm rfl)
        | with_reducible apply within_State_originateBoth (Mask.sub hm rfl)
        | with_reducible apply within_State_setActive (Mask.sub hm rfl)
        | (with_reducible refine Within.mk ?_ ?hk
           case hk => (repeat' apply And.intro) <;> first | with_reducible exact .inr rfl | exact .inl (Mask.bit hm rfl)
           first
            | with_reducible assumption | with_reducible apply within_State_originate (Mask.sub hm rfl)
            | with_reducible apply within_State_originateBoth (Mask.sub hm rfl)
            | with_reducible apply within_State_setActive (Mask.sub hm rfl)))

theorem within_execActiveTestChange {m : Nat} {s₀ s : State} (hm : m ||| 0x18000000000000000030004000100010000 = m)
    (h₀ : Within m s₀ s) : AnswersWithin m s₀ (execActiveTestChange s) := by
  unfold execActiveTestChange
  repeat' first
    | with_reducible assumption | with_reducible refine AnswersWithin.next ?_ | with_reducible apply Within.send _ (Mask.bit hm rfl)
    | with_reducible apply within_State_sendActive (Mask.sub hm rfl) | with_reducible refine Within.ite ?_ ?_ | split
    | (extract_lets; split)

theorem within_execActiveRepeat {m : Nat} {s₀ s : State} (hm : m ||| 0x18000000000000000030004000100010001 = m) (h₀ : Within m s₀ s) :
    AnswersWithin m s₀ (execActiveRepeat s) := by
  unfold execActiveRepeat
  repeat' first
    | with_reducible assumption | with_reducible refine AnswersWithin.next ?_
    | with_reducible apply Within.advanceTo _ (Mask.bit hm rfl) | with_reducible apply Within.send _ (Mask.bit hm rfl)
    | with_reducible apply within_State_sendActive (Mask.sub hm rfl)

theorem within_execActive {m : Nat} {s₀ s : State} (hm : m ||| 0x58020000000000000030004000101010001 = m) (p : Fin 2) (f : Adeo)
    (at_ : Nat) (h₀ : Within m s₀ s) : AnswersWithin m s₀ (execActive p f at_ s) := by
  unfold execActive
  repeat' first
    | with_reducible assumption | with_reducible refine AnswersWithin.next ?_ | with_reducible intro _
    | with_reducible apply Within.advanceTo _ (Mask.bit hm rfl) | with_reducible apply within_State_adeo (Mask.sub hm rfl)
    | with_reducible apply within_State_setActive (Mask.sub hm rfl)

theorem within_execActiveExpiry {m : Nat} {s₀ s : State} (hm : m ||| 0x18000000000000000030004000000010001 = m) (h₀ : Within m s₀ s) :
    AnswersWithin m s₀ (execActiveExpiry s) := by
  unfold execActiveExpiry
  repeat' first
    | with_reducible assumption | with_reducible refine AnswersWithin.next ?_ | with_reducible intro _
    | with_reducible apply Within.advanceTo _ (Mask.bit hm rfl) | with_reducible apply within_State_setActive (Mask.sub hm rfl)
    | with_reducible refine Within.foldl _ ?_ ?_ | with_reducible refine Within.foldlFst _ ?_ ?_
    | with_reducible refine Within.foldlSnd _ ?_ ?_ | with_reducible refine Within.snd (by assumption) ?_
    | with_reducible refine Within.fst (by assumption) ?_ | with_reducible refine Within.ite ?_ ?_ | split | (extract_lets; split)

theorem within_State_rgAddr {m : Nat} {s₀ s : State} (hm : m ||| 0x60000000000000000000000000000000 = m) (v : Word)
    (h₀ : Within m s₀ s) : Within m s₀ (State.rgAddr s v) := by
  unfold State.rgAddr
  repeat' first
    | with_reducible assumption | with_reducible apply Within.wr | with_reducible apply within_State_raise
    | exact touch_RG_ADDR (Mask.bit hm rfl) | exact touch_RG_STAT (Mask.bit hm rfl) | with_reducible refine Within.ite ?_ ?_ | split
    | (extract_lets; split)

end Sys2Proof.Machine
end

