-- ==== Sys2Proof/Laws/TideWithin.lean ====
section
/-! SUPPORT. What the definitions of Machine/Tide.lean keep, and all that they may change (Laws/Within.lean). -/

namespace Sys2Proof.Machine

set_option linter.all false

theorem within_State_slew {m : Nat} {s₀ s : State} (hm : m ||| 0x20000000000000000000000000000000000000004 = m) (h₀ : Within m s₀ s) :
    Within m s₀ (State.slew s) := by
  unfold State.slew
  repeat' first
    | with_reducible assumption | with_reducible apply Within.wr | with_reducible apply Within.free (Mask.bit hm rfl)
    | with_reducible refine Within.snd (by assumption) ?_ | with_reducible refine Within.fst (by assumption) ?_
    | exact touch_TL_FREQ (Mask.bit hm rfl) | with_reducible refine Within.ite ?_ ?_ | split | (extract_lets; split)

theorem within_State_stepTide {m : Nat} {s₀ s : State} (hm : m ||| 0x10000000000000000000000000000001020002 = m) (theta : Int)
    (h₀ : Within m s₀ s) : Within m s₀ (State.stepTide s theta) := by
  unfold State.stepTide
  repeat' first
    | with_reducible assumption | with_reducible apply within_State_raise | with_reducible apply within_State_fault (Mask.sub hm rfl)
    | exact touch_TL_STAT (Mask.bit hm rfl)
    | (with_reducible refine Within.mk ?_ ?hk
       case hk => (repeat' apply And.intro) <;> first | with_reducible exact .inr rfl | exact .inl (Mask.bit hm rfl)
       first
        | with_reducible assumption | with_reducible apply within_State_raise
        | with_reducible apply within_State_fault (Mask.sub hm rfl)
        | (with_reducible refine Within.mk ?_ ?hk
           case hk => (repeat' apply And.intro) <;> first | with_reducible exact .inr rfl | exact .inl (Mask.bit hm rfl)
           first
            | with_reducible assumption | with_reducible apply within_State_raise
            | with_reducible apply within_State_fault (Mask.sub hm rfl)))

theorem within_State_followOffset {m : Nat} {s₀ s : State} (hm : m ||| 0x22010000000000000000000000000000001020006 = m) (theta : Int)
    (h₀ : Within m s₀ s) : Within m s₀ (State.followOffset s theta) := by
  unfold State.followOffset
  repeat' first
    | with_reducible assumption | with_reducible apply Within.wr | with_reducible apply within_State_slew (Mask.sub hm rfl)
    | with_reducible apply within_State_stepTide (Mask.sub hm rfl) | exact touch_TL_OFFSET (Mask.bit hm rfl)
    | with_reducible refine Within.ite ?_ ?_ | split | (extract_lets; split)
    | (with_reducible refine Within.mk ?_ ?hk
       case hk => (repeat' apply And.intro) <;> first | with_reducible exact .inr rfl | exact .inl (Mask.bit hm rfl)
       first
        | with_reducible assumption | with_reducible apply Within.wr | with_reducible apply within_State_slew (Mask.sub hm rfl)
        | with_reducible apply within_State_stepTide (Mask.sub hm rfl) | with_reducible refine Within.ite ?_ ?_ | split
        | (extract_lets; split)
        | (with_reducible refine Within.mk ?_ ?hk
           case hk => (repeat' apply And.intro) <;> first | with_reducible exact .inr rfl | exact .inl (Mask.bit hm rfl)
           first
            | with_reducible assumption | with_reducible apply Within.wr | with_reducible apply within_State_slew (Mask.sub hm rfl)
            | with_reducible apply within_State_stepTide (Mask.sub hm rfl) | with_reducible refine Within.ite ?_ ?_ | split
            | (extract_lets; split)))

theorem within_State_takeMaster {m : Nat} {s₀ s : State} (hm : m ||| 0x10000000000000000000000000000001020000 = m) (src : Nat)
    (h₀ : Within m s₀ s) : Within m s₀ (State.takeMaster s src).2 := by
  unfold State.takeMaster
  repeat' first
    | with_reducible assumption | with_reducible apply within_State_raise | with_reducible apply within_State_fault (Mask.sub hm rfl)
    | with_reducible refine Within.snd (by assumption) ?_ | with_reducible refine Within.fst (by assumption) ?_
    | exact touch_TL_STAT (Mask.bit hm rfl) | with_reducible refine Within.ite ?_ ?_ | split | (extract_lets; split)
    | (with_reducible refine Within.mk ?_ ?hk
       case hk => (repeat' apply And.intro) <;> first | with_reducible exact .inr rfl | exact .inl (Mask.bit hm rfl)
       first
        | with_reducible assumption | with_reducible apply within_State_raise
        | with_reducible apply within_State_fault (Mask.sub hm rfl) | with_reducible refine Within.snd (by assumption) ?_
        | with_reducible refine Within.fst (by assumption) ?_ | with_reducible refine Within.ite ?_ ?_ | split | (extract_lets; split)
        | (with_reducible refine Within.mk ?_ ?hk
           case hk => (repeat' apply And.intro) <;> first | with_reducible exact .inr rfl | exact .inl (Mask.bit hm rfl)
           first
            | with_reducible assumption | with_reducible apply within_State_raise
            | with_reducible apply within_State_fault (Mask.sub hm rfl) | with_reducible refine Within.snd (by assumption) ?_
            | with_reducible refine Within.fst (by assumption) ?_ | with_reducible refine Within.ite ?_ ?_ | split
            | (extract_lets; split)))

theorem within_State_mark {m : Nat} {s₀ s : State} (hm : m ||| 0x22018000000000000000000000000000001020006 = m) (p : Nat) (f : Adeo)
    (rx : Int) (h₀ : Within m s₀ s) : Within m s₀ (State.mark s p f rx) := by
  unfold State.mark
  repeat' first
    | with_reducible assumption | with_reducible apply within_State_chooseSource (Mask.sub hm rfl)
    | with_reducible apply within_State_followOffset (Mask.sub hm rfl) | with_reducible apply within_State_takeMaster (Mask.sub hm rfl)
    | with_reducible refine Within.snd (by assumption) ?_ | with_reducible refine Within.fst (by assumption) ?_
    | with_reducible refine Within.ite ?_ ?_ | split | (extract_lets; split)
    | (with_reducible refine Within.mk ?_ ?hk
       case hk => (repeat' apply And.intro) <;> first | with_reducible exact .inr rfl | exact .inl (Mask.bit hm rfl)
       first
        | with_reducible assumption | with_reducible apply within_State_chooseSource (Mask.sub hm rfl)
        | with_reducible apply within_State_followOffset (Mask.sub hm rfl)
        | with_reducible apply within_State_takeMaster (Mask.sub hm rfl) | with_reducible refine Within.snd (by assumption) ?_
        | with_reducible refine Within.fst (by assumption) ?_ | with_reducible refine Within.ite ?_ ?_ | split | (extract_lets; split)
        | (with_reducible refine Within.mk ?_ ?hk
           case hk => (repeat' apply And.intro) <;> first | with_reducible exact .inr rfl | exact .inl (Mask.bit hm rfl)
           first
            | with_reducible assumption | with_reducible apply within_State_chooseSource (Mask.sub hm rfl)
            | with_reducible apply within_State_followOffset (Mask.sub hm rfl)
            | with_reducible apply within_State_takeMaster (Mask.sub hm rfl) | with_reducible refine Within.snd (by assumption) ?_
            | with_reducible refine Within.fst (by assumption) ?_ | with_reducible refine Within.ite ?_ ?_ | split
            | (extract_lets; split)))

theorem within_execTideMark {m : Nat} {s₀ s : State} (hm : m ||| 0x22018040020000000000000000000000101030007 = m) (p : Fin 2)
    (f : Adeo) (at_ : Nat) (half : Bool) (stay : Nat) (h₀ : Within m s₀ s) : AnswersWithin m s₀ (execTideMark p f at_ half stay s) := by
  unfold execTideMark
  repeat' first
    | with_reducible assumption | with_reducible refine AnswersWithin.next ?_ | with_reducible intro _
    | with_reducible apply Within.advanceTo _ (Mask.bit hm rfl) | with_reducible apply within_State_relay (Mask.sub hm rfl)
    | with_reducible apply within_State_adeoWith (Mask.sub hm rfl) | with_reducible apply within_State_adeo (Mask.sub hm rfl)
    | with_reducible apply within_State_mark (Mask.sub hm rfl) | with_reducible refine Within.ite ?_ ?_ | split | (extract_lets; split)
    | (with_reducible refine Within.mk ?_ ?hk
       case hk => (repeat' apply And.intro) <;> first | with_reducible exact .inr rfl | exact .inl (Mask.bit hm rfl)
       first
        | with_reducible assumption | with_reducible apply Within.advanceTo _ (Mask.bit hm rfl)
        | with_reducible apply within_State_relay (Mask.sub hm rfl) | with_reducible apply within_State_adeoWith (Mask.sub hm rfl)
        | with_reducible apply within_State_adeo (Mask.sub hm rfl) | with_reducible apply within_State_mark (Mask.sub hm rfl)
        | with_reducible refine Within.ite ?_ ?_ | split | (extract_lets; split))

theorem within_execTideMarkSend {m : Nat} {s₀ s : State} (hm : m ||| 0x100030005 = m) (e : Nat) (w : Nat) (h₀ : Within m s₀ s) :
    AnswersWithin m s₀ (execTideMarkSend e w s) := by
  unfold execTideMarkSend
  repeat' first
    | with_reducible assumption | with_reducible refine AnswersWithin.next ?_ | with_reducible refine AnswersWithin.ite ?_ ?_
    | with_reducible apply Within.advanceTo _ (Mask.bit hm rfl) | with_reducible apply Within.free (Mask.bit hm rfl)
    | with_reducible apply within_State_nextSeq (Mask.sub hm rfl) | with_reducible apply within_State_originate (Mask.sub hm rfl)
    | with_reducible refine Within.snd (by assumption) ?_ | with_reducible refine Within.fst (by assumption) ?_
    | with_reducible refine Within.ite ?_ ?_ | split | (extract_lets; split)
    | (with_reducible refine Within.mk ?_ ?hk
       case hk => (repeat' apply And.intro) <;> first | with_reducible exact .inr rfl | exact .inl (Mask.bit hm rfl)
       first
        | with_reducible assumption | with_reducible apply Within.advanceTo _ (Mask.bit hm rfl)
        | with_reducible apply Within.free (Mask.bit hm rfl) | with_reducible apply within_State_nextSeq (Mask.sub hm rfl)
        | with_reducible apply within_State_originate (Mask.sub hm rfl) | with_reducible refine Within.snd (by assumption) ?_
        | with_reducible refine Within.fst (by assumption) ?_ | with_reducible refine Within.ite ?_ ?_ | split | (extract_lets; split)
        | (with_reducible refine Within.mk ?_ ?hk
           case hk => (repeat' apply And.intro) <;> first | with_reducible exact .inr rfl | exact .inl (Mask.bit hm rfl)
           first
            | with_reducible assumption | with_reducible apply Within.advanceTo _ (Mask.bit hm rfl)
            | with_reducible apply Within.free (Mask.bit hm rfl) | with_reducible apply within_State_nextSeq (Mask.sub hm rfl)
            | with_reducible apply within_State_originate (Mask.sub hm rfl) | with_reducible refine Within.snd (by assumption) ?_
            | with_reducible refine Within.fst (by assumption) ?_ | with_reducible refine Within.ite ?_ ?_ | split
            | (extract_lets; split)))

theorem within_execPdelayReqSend {m : Nat} {s₀ s : State} (hm : m ||| 0x100010001 = m) (p : Fin 2) (out : Nat) (h₀ : Within m s₀ s) :
    AnswersWithin m s₀ (execPdelayReqSend p out s) := by
  unfold execPdelayReqSend
  repeat' first
    | with_reducible assumption | with_reducible refine AnswersWithin.next ?_ | with_reducible intro _
    | with_reducible apply Within.advanceTo _ (Mask.bit hm rfl) | with_reducible apply within_State_modPort (Mask.sub hm rfl)
    | with_reducible apply within_State_originate (Mask.sub hm rfl) | with_reducible apply within_State_originateLocal (Mask.sub hm rfl)
    | with_reducible refine Within.ite ?_ ?_ | split | (extract_lets; split)
    | (with_reducible refine Within.mk ?_ ?hk
       case hk => (repeat' apply And.intro) <;> first | with_reducible exact .inr rfl | exact .inl (Mask.bit hm rfl)
       first
        | with_reducible assumption | with_reducible apply Within.advanceTo _ (Mask.bit hm rfl)
        | with_reducible apply within_State_modPort (Mask.sub hm rfl) | with_reducible apply within_State_originate (Mask.sub hm rfl)
        | with_reducible apply within_State_originateLocal (Mask.sub hm rfl) | with_reducible refine Within.ite ?_ ?_ | split
        | (extract_lets; split)
        | (with_reducible refine Within.mk ?_ ?hk
           case hk => (repeat' apply And.intro) <;> first | with_reducible exact .inr rfl | exact .inl (Mask.bit hm rfl)
           first
            | with_reducible assumption | with_reducible apply Within.advanceTo _ (Mask.bit hm rfl)
            | with_reducible apply within_State_modPort (Mask.sub hm rfl)
            | with_reducible apply within_State_originate (Mask.sub hm rfl)
            | with_reducible apply within_State_originateLocal (Mask.sub hm rfl) | with_reducible refine Within.ite ?_ ?_ | split
            | (extract_lets; split)))

theorem within_execPdelayReq {m : Nat} {s₀ s : State} (hm : m ||| 0x40020000000000000000000000101010001 = m) (p : Fin 2) (f : Adeo)
    (at_ : Nat) (half : Bool) (stay : Nat) (h₀ : Within m s₀ s) : AnswersWithin m s₀ (execPdelayReq p f at_ half stay s) := by
  unfold execPdelayReq
  repeat' first
    | with_reducible assumption | with_reducible refine AnswersWithin.next ?_ | with_reducible intro _
    | with_reducible apply Within.advanceTo _ (Mask.bit hm rfl) | with_reducible apply within_State_originate (Mask.sub hm rfl)
    | with_reducible apply within_State_originateLocal (Mask.sub hm rfl) | with_reducible apply within_State_adeo (Mask.sub hm rfl)
    | with_reducible refine Within.ite ?_ ?_ | split | (extract_lets; split)

theorem within_execPdelayResp {m : Nat} {s₀ s : State} (hm : m ||| 0x180000040020000000000000000000000101010001 = m) (p : Fin 2)
    (f : Adeo) (at_ : Nat) (half : Bool) (h₀ : Within m s₀ s) : AnswersWithin m s₀ (execPdelayResp p f at_ half s) := by
  unfold execPdelayResp
  repeat' first
    | with_reducible assumption | with_reducible refine AnswersWithin.next ?_ | with_reducible intro _ | with_reducible apply Within.wr
    | with_reducible apply Within.advanceTo _ (Mask.bit hm rfl) | with_reducible apply within_State_modPort (Mask.sub hm rfl)
    | with_reducible apply within_State_adeo (Mask.sub hm rfl) | with_reducible refine Within.foldl _ ?_ ?_
    | with_reducible refine Within.foldlFst _ ?_ ?_ | with_reducible refine Within.foldlSnd _ ?_ ?_
    | with_reducible refine Within.snd (by assumption) ?_ | with_reducible refine Within.fst (by assumption) ?_
    | exact touch_pd (Mask.bit hm rfl) (Mask.bit hm rfl) p | with_reducible refine Within.ite ?_ ?_ | split | (extract_lets; split)
    | (with_reducible refine Within.mk ?_ ?hk
       case hk => (repeat' apply And.intro) <;> first | with_reducible exact .inr rfl | exact .inl (Mask.bit hm rfl)
       first
        | with_reducible assumption | with_reducible apply Within.wr | with_reducible apply Within.advanceTo _ (Mask.bit hm rfl)
        | with_reducible apply within_State_modPort (Mask.sub hm rfl) | with_reducible apply within_State_adeo (Mask.sub hm rfl)
        | with_reducible refine Within.foldl _ ?_ ?_ | with_reducible refine Within.foldlFst _ ?_ ?_
        | with_reducible refine Within.foldlSnd _ ?_ ?_ | with_reducible refine Within.snd (by assumption) ?_
        | with_reducible refine Within.fst (by assumption) ?_ | with_reducible refine Within.ite ?_ ?_ | split | (extract_lets; split)
        | (with_reducible refine Within.mk ?_ ?hk
           case hk => (repeat' apply And.intro) <;> first | with_reducible exact .inr rfl | exact .inl (Mask.bit hm rfl)
           first
            | with_reducible assumption | with_reducible apply Within.wr | with_reducible apply Within.advanceTo _ (Mask.bit hm rfl)
            | with_reducible apply within_State_modPort (Mask.sub hm rfl) | with_reducible apply within_State_adeo (Mask.sub hm rfl)
            | with_reducible refine Within.foldl _ ?_ ?_ | with_reducible refine Within.foldlFst _ ?_ ?_
            | with_reducible refine Within.foldlSnd _ ?_ ?_ | with_reducible refine Within.snd (by assumption) ?_
            | with_reducible refine Within.fst (by assumption) ?_ | with_reducible refine Within.ite ?_ ?_ | split
            | (extract_lets; split)))

theorem within_execPpsEdge {m : Nat} {s₀ s : State} (hm : m ||| 0x22018000000000000000000000000000001020007 = m) (at_ : Nat)
    (half : Bool) (h₀ : Within m s₀ s) : AnswersWithin m s₀ (execPpsEdge at_ half s) := by
  unfold execPpsEdge
  repeat' first
    | with_reducible assumption | with_reducible refine AnswersWithin.next ?_ | with_reducible refine AnswersWithin.ite ?_ ?_
    | with_reducible apply Within.advanceTo _ (Mask.bit hm rfl) | with_reducible apply within_State_chooseSource (Mask.sub hm rfl)
    | with_reducible apply within_State_followOffset (Mask.sub hm rfl) | with_reducible refine Within.snd (by assumption) ?_
    | with_reducible refine Within.fst (by assumption) ?_ | with_reducible refine Within.ite ?_ ?_ | split | (extract_lets; split)
    | (with_reducible refine Within.mk ?_ ?hk
       case hk => (repeat' apply And.intro) <;> first | with_reducible exact .inr rfl | exact .inl (Mask.bit hm rfl)
       first
        | with_reducible assumption | with_reducible apply Within.advanceTo _ (Mask.bit hm rfl)
        | with_reducible apply within_State_chooseSource (Mask.sub hm rfl)
        | with_reducible apply within_State_followOffset (Mask.sub hm rfl) | with_reducible refine Within.snd (by assumption) ?_
        | with_reducible refine Within.fst (by assumption) ?_ | with_reducible refine Within.ite ?_ ?_ | split | (extract_lets; split)
        | (with_reducible refine Within.mk ?_ ?hk
           case hk => (repeat' apply And.intro) <;> first | with_reducible exact .inr rfl | exact .inl (Mask.bit hm rfl)
           first
            | with_reducible assumption | with_reducible apply Within.advanceTo _ (Mask.bit hm rfl)
            | with_reducible apply within_State_chooseSource (Mask.sub hm rfl)
            | with_reducible apply within_State_followOffset (Mask.sub hm rfl) | with_reducible refine Within.snd (by assumption) ?_
            | with_reducible refine Within.fst (by assumption) ?_ | with_reducible refine Within.ite ?_ ?_ | split
            | (extract_lets; split)))

theorem within_execSourceAppear {m : Nat} {s₀ s : State} (hm : m ||| 0x20008000000000000000000000000000000020005 = m) (w : Fin 3)
    (at_ : Nat) (h₀ : Within m s₀ s) : AnswersWithin m s₀ (execSourceAppear w at_ s) := by
  unfold execSourceAppear
  repeat' first
    | with_reducible assumption | with_reducible refine AnswersWithin.next ?_
    | with_reducible apply Within.advanceTo _ (Mask.bit hm rfl) | with_reducible apply within_State_chooseSource (Mask.sub hm rfl)
    | with_reducible refine Within.snd (by assumption) ?_ | with_reducible refine Within.fst (by assumption) ?_
    | with_reducible refine Within.ite ?_ ?_ | split | (extract_lets; split)
    | (with_reducible refine Within.mk ?_ ?hk
       case hk => (repeat' apply And.intro) <;> first | with_reducible exact .inr rfl | exact .inl (Mask.bit hm rfl)
       first
        | with_reducible assumption | with_reducible apply Within.advanceTo _ (Mask.bit hm rfl)
        | with_reducible apply within_State_chooseSource (Mask.sub hm rfl) | with_reducible refine Within.snd (by assumption) ?_
        | with_reducible refine Within.fst (by assumption) ?_ | with_reducible refine Within.ite ?_ ?_ | split | (extract_lets; split)
        | (with_reducible refine Within.mk ?_ ?hk
           case hk => (repeat' apply And.intro) <;> first | with_reducible exact .inr rfl | exact .inl (Mask.bit hm rfl)
           first
            | with_reducible assumption | with_reducible apply Within.advanceTo _ (Mask.bit hm rfl)
            | with_reducible apply within_State_chooseSource (Mask.sub hm rfl) | with_reducible refine Within.snd (by assumption) ?_
            | with_reducible refine Within.fst (by assumption) ?_ | with_reducible refine Within.ite ?_ ?_ | split
            | (extract_lets; split)))

theorem within_execSourceLoss {m : Nat} {s₀ s : State} (hm : m ||| 0x20018000000000000000000000000000001020005 = m) (w : Fin 3)
    (at_ : Nat) (h₀ : Within m s₀ s) : AnswersWithin m s₀ (execSourceLoss w at_ s) := by
  unfold execSourceLoss
  repeat' first
    | with_reducible assumption | with_reducible refine AnswersWithin.next ?_
    | with_reducible apply Within.advanceTo _ (Mask.bit hm rfl) | with_reducible apply within_State_raise
    | with_reducible apply within_State_fault (Mask.sub hm rfl) | with_reducible apply within_State_chooseSource (Mask.sub hm rfl)
    | with_reducible refine Within.snd (by assumption) ?_ | with_reducible refine Within.fst (by assumption) ?_
    | exact touch_TL_STAT (Mask.bit hm rfl) | with_reducible refine Within.ite ?_ ?_ | split | (extract_lets; split)
    | (with_reducible refine Within.mk ?_ ?hk
       case hk => (repeat' apply And.intro) <;> first | with_reducible exact .inr rfl | exact .inl (Mask.bit hm rfl)
       first
        | with_reducible assumption | with_reducible apply Within.advanceTo _ (Mask.bit hm rfl)
        | with_reducible apply within_State_raise | with_reducible apply within_State_fault (Mask.sub hm rfl)
        | with_reducible apply within_State_chooseSource (Mask.sub hm rfl) | with_reducible refine Within.snd (by assumption) ?_
        | with_reducible refine Within.fst (by assumption) ?_ | with_reducible refine Within.ite ?_ ?_ | split | (extract_lets; split)
        | (with_reducible refine Within.mk ?_ ?hk
           case hk => (repeat' apply And.intro) <;> first | with_reducible exact .inr rfl | exact .inl (Mask.bit hm rfl)
           first
            | with_reducible assumption | with_reducible apply Within.advanceTo _ (Mask.bit hm rfl)
            | with_reducible apply within_State_raise | with_reducible apply within_State_fault (Mask.sub hm rfl)
            | with_reducible apply within_State_chooseSource (Mask.sub hm rfl) | with_reducible refine Within.snd (by assumption) ?_
            | with_reducible refine Within.fst (by assumption) ?_ | with_reducible refine Within.ite ?_ ?_ | split
            | (extract_lets; split)))

theorem within_execLockAchieved {m : Nat} {s₀ s : State} (hm : m ||| 0x18000000000000000000000000000000020001 = m)
    (h₀ : Within m s₀ s) : AnswersWithin m s₀ (execLockAchieved s) := by
  unfold execLockAchieved
  repeat' first
    | with_reducible assumption | with_reducible refine AnswersWithin.next ?_
    | with_reducible apply Within.advanceTo _ (Mask.bit hm rfl) | with_reducible apply within_State_setFld
    | with_reducible apply within_State_raise | with_reducible refine Within.snd (by assumption) ?_
    | with_reducible refine Within.fst (by assumption) ?_ | exact touch_TL_STAT (Mask.bit hm rfl)
    | exact touch_TL_STATE (Mask.bit hm rfl) | with_reducible refine Within.ite ?_ ?_ | split | (extract_lets; split)
    | (with_reducible refine Within.mk ?_ ?hk
       case hk => (repeat' apply And.intro) <;> first | with_reducible exact .inr rfl | exact .inl (Mask.bit hm rfl)
       first
        | with_reducible assumption | with_reducible apply Within.advanceTo _ (Mask.bit hm rfl)
        | with_reducible apply within_State_setFld | with_reducible apply within_State_raise
        | with_reducible refine Within.snd (by assumption) ?_ | with_reducible refine Within.fst (by assumption) ?_
        | with_reducible refine Within.ite ?_ ?_ | split | (extract_lets; split)
        | (with_reducible refine Within.mk ?_ ?hk
           case hk => (repeat' apply And.intro) <;> first | with_reducible exact .inr rfl | exact .inl (Mask.bit hm rfl)
           first
            | with_reducible assumption | with_reducible apply Within.advanceTo _ (Mask.bit hm rfl)
            | with_reducible apply within_State_setFld | with_reducible apply within_State_raise
            | with_reducible refine Within.snd (by assumption) ?_ | with_reducible refine Within.fst (by assumption) ?_
            | with_reducible refine Within.ite ?_ ?_ | split | (extract_lets; split)))

theorem within_State_ageFrom {m : Nat} {s₀ s : State} (hm : m ||| 0x10000000000000000000000000000000000020000 = m) (base : Int)
    (h₀ : Within m s₀ s) : Within m s₀ (State.ageFrom s base) := by
  unfold State.ageFrom
  repeat' first
    | with_reducible assumption | with_reducible apply Within.wr | exact touch_TL_AGE_ACC (Mask.bit hm rfl)
    | (with_reducible refine Within.mk ?_ ?hk
       case hk => (repeat' apply And.intro) <;> first | with_reducible exact .inr rfl | exact .inl (Mask.bit hm rfl)
       first
        | with_reducible assumption | with_reducible apply Within.wr
        | (with_reducible refine Within.mk ?_ ?hk
           case hk => (repeat' apply And.intro) <;> first | with_reducible exact .inr rfl | exact .inl (Mask.bit hm rfl)
           first
            | with_reducible assumption | with_reducible apply Within.wr))

theorem within_State_ageWrite {m : Nat} {s₀ s : State} (hm : m ||| 0x10000000000000000000000000000000200020000 = m) (a : Nat)
    (v : Word) (h₀ : Within m s₀ s) : Within m s₀ (State.ageWrite s a v) := by
  unfold State.ageWrite
  repeat' first
    | with_reducible assumption | with_reducible apply Within.wr | with_reducible apply within_State_ageFrom (Mask.sub hm rfl)
    | exact Touch.any (Mask.bit hm rfl)

theorem within_execAgeingUpdate {m : Nat} {s₀ s : State} (hm : m ||| 0x10010000000000000000000000000000000020005 = m)
    (h₀ : Within m s₀ s) : AnswersWithin m s₀ (execAgeingUpdate s) := by
  unfold execAgeingUpdate
  repeat' first
    | with_reducible assumption | with_reducible refine AnswersWithin.next ?_ | with_reducible apply Within.wr
    | with_reducible apply Within.advanceTo _ (Mask.bit hm rfl) | with_reducible apply Within.free (Mask.bit hm rfl)
    | with_reducible apply within_State_raise | with_reducible apply within_State_raiseIf
    | with_reducible refine Within.snd (by assumption) ?_ | with_reducible refine Within.fst (by assumption) ?_
    | exact touch_TL_AGE_ACC (Mask.bit hm rfl) | exact touch_TL_STAT (Mask.bit hm rfl) | with_reducible refine Within.ite ?_ ?_ | split
    | (extract_lets; split)
    | (with_reducible refine Within.mk ?_ ?hk
       case hk => (repeat' apply And.intro) <;> first | with_reducible exact .inr rfl | exact .inl (Mask.bit hm rfl)
       first
        | with_reducible assumption | with_reducible apply Within.wr | with_reducible apply Within.advanceTo _ (Mask.bit hm rfl)
        | with_reducible apply Within.free (Mask.bit hm rfl) | with_reducible apply within_State_raise
        | with_reducible apply within_State_raiseIf | with_reducible refine Within.snd (by assumption) ?_
        | with_reducible refine Within.fst (by assumption) ?_ | with_reducible refine Within.ite ?_ ?_ | split | (extract_lets; split)
        | (with_reducible refine Within.mk ?_ ?hk
           case hk => (repeat' apply And.intro) <;> first | with_reducible exact .inr rfl | exact .inl (Mask.bit hm rfl)
           first
            | with_reducible assumption | with_reducible apply Within.wr | with_reducible apply Within.advanceTo _ (Mask.bit hm rfl)
            | with_reducible apply Within.free (Mask.bit hm rfl) | with_reducible apply within_State_raise
            | with_reducible apply within_State_raiseIf | with_reducible refine Within.snd (by assumption) ?_
            | with_reducible refine Within.fst (by assumption) ?_ | with_reducible refine Within.ite ?_ ?_ | split
            | (extract_lets; split)))

theorem within_State_tlSet {m : Nat} {s₀ s : State} (hm : m ||| 0x18000000000000000000000000000000020002 = m) (h₀ : Within m s₀ s) :
    Within m s₀ (State.tlSet s) := by
  unfold State.tlSet
  repeat' first
    | with_reducible assumption | with_reducible apply within_State_raise | with_reducible apply within_State_setTl (Mask.sub hm rfl)
    | exact touch_TL_STAT (Mask.bit hm rfl) | with_reducible refine Within.ite ?_ ?_ | split | (extract_lets; split)
    | (with_reducible refine Within.mk ?_ ?hk
       case hk => (repeat' apply And.intro) <;> first | with_reducible exact .inr rfl | exact .inl (Mask.bit hm rfl)
       first
        | with_reducible assumption | with_reducible apply within_State_raise
        | with_reducible apply within_State_setTl (Mask.sub hm rfl) | with_reducible refine Within.ite ?_ ?_ | split
        | (extract_lets; split)
        | (with_reducible refine Within.mk ?_ ?hk
           case hk => (repeat' apply And.intro) <;> first | with_reducible exact .inr rfl | exact .inl (Mask.bit hm rfl)
           first
            | with_reducible assumption | with_reducible apply within_State_raise
            | with_reducible apply within_State_setTl (Mask.sub hm rfl) | with_reducible refine Within.ite ?_ ?_ | split
            | (extract_lets; split)))

theorem within_State_tlSettle {m : Nat} {s₀ s : State} (hm : m ||| 0x10000000000000000000000000000000020000 = m) (h₀ : Within m s₀ s) :
    Within m s₀ (State.tlSettle s) := by
  unfold State.tlSettle
  repeat' first
    | with_reducible assumption | with_reducible apply within_State_failSettle (Mask.sub hm rfl)
    | with_reducible apply within_State_startSettle (Mask.sub hm rfl) | with_reducible refine Within.ite ?_ ?_ | split
    | (extract_lets; split)

theorem within_State_tlCommand {m : Nat} {s₀ s : State} (hm : m ||| 0x18000000000000000000000000000000020002 = m) (d : Word)
    (h₀ : Within m s₀ s) : Within m s₀ (State.tlCommand s d) := by
  unfold State.tlCommand
  repeat' first
    | with_reducible assumption | with_reducible apply within_State_tlSet (Mask.sub hm rfl)
    | with_reducible apply within_State_tlSettle (Mask.sub hm rfl) | with_reducible refine Within.ite ?_ ?_ | split
    | (extract_lets; split)

theorem within_execSettleDone {m : Nat} {s₀ s : State} (hm : m ||| 0x200008000000000000000000000000000000020000 = m)
    (h₀ : Within m s₀ s) : AnswersWithin m s₀ (execSettleDone s) := by
  unfold execSettleDone
  repeat' first
    | with_reducible assumption | with_reducible refine AnswersWithin.next ?_ | with_reducible intro _ | with_reducible apply Within.wr
    | with_reducible apply within_State_raise | with_reducible refine Within.foldl _ ?_ ?_
    | with_reducible refine Within.foldlFst _ ?_ ?_ | with_reducible refine Within.foldlSnd _ ?_ ?_
    | exact touch_TL_ASYM (Mask.bit hm rfl) | exact touch_TL_STATE (Mask.bit hm rfl) | with_reducible refine Within.ite ?_ ?_ | split
    | (extract_lets; split)
    | (with_reducible refine Within.mk ?_ ?hk
       case hk => (repeat' apply And.intro) <;> first | with_reducible exact .inr rfl | exact .inl (Mask.bit hm rfl)
       first
        | with_reducible assumption | with_reducible apply Within.wr | with_reducible apply within_State_raise
        | with_reducible refine Within.foldl _ ?_ ?_ | with_reducible refine Within.foldlFst _ ?_ ?_
        | with_reducible refine Within.foldlSnd _ ?_ ?_ | with_reducible refine Within.ite ?_ ?_ | split | (extract_lets; split)
        | (with_reducible refine Within.mk ?_ ?hk
           case hk => (repeat' apply And.intro) <;> first | with_reducible exact .inr rfl | exact .inl (Mask.bit hm rfl)
           first
            | with_reducible assumption | with_reducible apply Within.wr | with_reducible apply within_State_raise
            | with_reducible refine Within.foldl _ ?_ ?_ | with_reducible refine Within.foldlFst _ ?_ ?_
            | with_reducible refine Within.foldlSnd _ ?_ ?_ | with_reducible refine Within.ite ?_ ?_ | split | (extract_lets; split)))

theorem within_State_updCtrl {m : Nat} {s₀ s : State} (hm : m ||| 0x300000000020 = m) (v : Word) (h₀ : Within m s₀ s) :
    Within m s₀ (State.updCtrl s v) := by
  unfold State.updCtrl
  repeat' first
    | with_reducible assumption | with_reducible apply within_State_setFld | with_reducible apply within_State_raise
    | exact touch_DEV_UPD_CTRL (Mask.bit hm rfl) | exact touch_DEV_UPD_STAT (Mask.bit hm rfl) | with_reducible refine Within.ite ?_ ?_
    | split | (extract_lets; split)
    | (with_reducible refine Within.mk ?_ ?hk
       case hk => (repeat' apply And.intro) <;> first | with_reducible exact .inr rfl | exact .inl (Mask.bit hm rfl)
       first
        | with_reducible assumption | with_reducible apply within_State_setFld | with_reducible apply within_State_raise
        | with_reducible refine Within.ite ?_ ?_ | split | (extract_lets; split))

theorem within_execScheduledStrobe {m : Nat} {s₀ s : State}
    (hm : m ||| 0xF901080E00000870000080000000000000000800200000000100000002000020000070200080000040020000000000004003003FFFFFFFF = m)
    (h₀ : Within m s₀ s) : AnswersWithin m s₀ (execScheduledStrobe s) := by
  unfold execScheduledStrobe
  repeat' first
    | with_reducible assumption | with_reducible refine AnswersWithin.next ?_
    | with_reducible apply Within.advanceTo _ (Mask.bit hm rfl) | with_reducible apply within_State_fireArmed (Mask.sub hm rfl)
    | with_reducible refine Within.snd (by assumption) ?_ | with_reducible refine Within.fst (by assumption) ?_
    | exact Touch.any (Mask.bit hm rfl) | with_reducible refine Within.ite ?_ ?_ | split | (extract_lets; split)

end Sys2Proof.Machine
end

