-- ==== Sys2Proof/Laws/CovesWithin.lean ====
section
/-! SUPPORT. What the definitions of Machine/Coves.lean keep, and all that they may change (Laws/Within.lean). -/

namespace Sys2Proof.Machine

set_option linter.all false

theorem within_State_showPower {m : Nat} {s₀ s : State} (hm : m ||| 0x2000000000000000000000000000000000000000000 = m)
    (h₀ : Within m s₀ s) : Within m s₀ (State.showPower s) := by
  unfold State.showPower
  repeat' first
    | with_reducible assumption | with_reducible intro _ | with_reducible apply within_State_setFld
    | with_reducible refine Within.foldl _ ?_ ?_ | with_reducible refine Within.foldlFst _ ?_ ?_
    | with_reducible refine Within.foldlSnd _ ?_ ?_ | exact touch_DEV_STATE (Mask.bit hm rfl) | with_reducible refine Within.ite ?_ ?_
    | split | (extract_lets; split)

theorem within_State_sleepPin {m : Nat} {s₀ s : State}
    (hm : m ||| 0xF901000C00000000000000000000000000000000000000000100000002000020000070000000000040020000000000004000003FFFFFFFF = m)
    (n : Nat) (h₀ : Within m s₀ s) : Within m s₀ (State.sleepPin s n) := by
  unfold State.sleepPin
  repeat' first
    | with_reducible assumption | with_reducible apply within_State_undetermine (Mask.sub hm rfl)
    | with_reducible apply within_State_startComparator (Mask.sub hm rfl)
    | with_reducible apply within_State_holdThresholds (Mask.sub hm rfl) | with_reducible apply within_State_pmuOff (Mask.sub hm rfl)
    | with_reducible apply within_State_stopConv (Mask.sub hm rfl) | with_reducible apply within_State_tdSleep (Mask.sub hm rfl)
    | exact Touch.any (Mask.bit hm rfl) | with_reducible refine Within.ite ?_ ?_ | split | (extract_lets; split)

theorem within_State_coveDown {m : Nat} {s₀ s : State}
    (hm : m ||| 0xF901000C00000870000000000000000000000000000000000100000002000020000070000000000040020000000000004000003FFFFFFFF = m)
    (c : Nat) (h₀ : Within m s₀ s) : Within m s₀ (State.coveDown s c) := by
  unfold State.coveDown
  repeat' first
    | with_reducible assumption | with_reducible intro _ | with_reducible apply within_State_setFld
    | with_reducible apply within_State_aqStop (Mask.sub hm rfl) | with_reducible apply within_State_showPower (Mask.sub hm rfl)
    | with_reducible apply within_State_sleepPin (Mask.sub hm rfl) | with_reducible refine Within.each ?_ ?_
    | exact touch_CV_STATE (Mask.bit hm rfl) _ | exact Touch.any (Mask.bit hm rfl)
    | (with_reducible refine Within.mk ?_ ?hk
       case hk => (repeat' apply And.intro) <;> first | with_reducible exact .inr rfl | exact .inl (Mask.bit hm rfl)
       first
        | with_reducible assumption | with_reducible apply within_State_setFld
        | with_reducible apply within_State_aqStop (Mask.sub hm rfl) | with_reducible apply within_State_showPower (Mask.sub hm rfl)
        | with_reducible apply within_State_sleepPin (Mask.sub hm rfl) | with_reducible refine Within.each ?_ ?_
        | (with_reducible refine Within.mk ?_ ?hk
           case hk => (repeat' apply And.intro) <;> first | with_reducible exact .inr rfl | exact .inl (Mask.bit hm rfl)
           first
            | with_reducible assumption | with_reducible apply within_State_setFld
            | with_reducible apply within_State_aqStop (Mask.sub hm rfl)
            | with_reducible apply within_State_showPower (Mask.sub hm rfl)
            | with_reducible apply within_State_sleepPin (Mask.sub hm rfl) | with_reducible refine Within.each ?_ ?_))

theorem within_State_loseStrobes {m : Nat} {s₀ s : State}
    (hm : m ||| 0x600000000000000000000000000000000000000000000000000000000000000000000C0 = m) (k : Nat) (h₀ : Within m s₀ s) :
    Within m s₀ (State.loseStrobes s k) := by
  unfold State.loseStrobes
  repeat' first
    | with_reducible assumption | with_reducible intro _ | with_reducible apply within_State_modStrand (Mask.sub hm rfl)
    | with_reducible apply within_State_modPin (Mask.sub hm rfl) | with_reducible apply within_State_noteLoss (Mask.sub hm rfl)
    | with_reducible apply within_State_pruneRecs (Mask.sub hm rfl) | with_reducible apply within_State_strobe (Mask.sub hm rfl)
    | with_reducible refine Within.each ?_ ?_ | with_reducible refine Within.foldl _ ?_ ?_
    | with_reducible refine Within.foldlFst _ ?_ ?_ | with_reducible refine Within.foldlSnd _ ?_ ?_
    | with_reducible refine Within.ite ?_ ?_ | split | (extract_lets; split)
    | (with_reducible refine Within.mk ?_ ?hk
       case hk => (repeat' apply And.intro) <;> first | with_reducible exact .inr rfl | exact .inl (Mask.bit hm rfl)
       first
        | with_reducible assumption | with_reducible apply within_State_modStrand (Mask.sub hm rfl)
        | with_reducible apply within_State_modPin (Mask.sub hm rfl) | with_reducible apply within_State_noteLoss (Mask.sub hm rfl)
        | with_reducible apply within_State_pruneRecs (Mask.sub hm rfl) | with_reducible apply within_State_strobe (Mask.sub hm rfl)
        | with_reducible refine Within.each ?_ ?_ | with_reducible refine Within.foldl _ ?_ ?_
        | with_reducible refine Within.foldlFst _ ?_ ?_ | with_reducible refine Within.foldlSnd _ ?_ ?_
        | with_reducible refine Within.ite ?_ ?_ | split | (extract_lets; split)
        | (with_reducible refine Within.mk ?_ ?hk
           case hk => (repeat' apply And.intro) <;> first | with_reducible exact .inr rfl | exact .inl (Mask.bit hm rfl)
           first
            | with_reducible assumption | with_reducible apply within_State_modStrand (Mask.sub hm rfl)
            | with_reducible apply within_State_modPin (Mask.sub hm rfl) | with_reducible apply within_State_noteLoss (Mask.sub hm rfl)
            | with_reducible apply within_State_pruneRecs (Mask.sub hm rfl)
            | with_reducible apply within_State_strobe (Mask.sub hm rfl) | with_reducible refine Within.each ?_ ?_
            | with_reducible refine Within.foldl _ ?_ ?_ | with_reducible refine Within.foldlFst _ ?_ ?_
            | with_reducible refine Within.foldlSnd _ ?_ ?_ | with_reducible refine Within.ite ?_ ?_ | split | (extract_lets; split)))

theorem within_State_clockStops {m : Nat} {s₀ s : State}
    (hm : m ||| 0x800002000000000F901080E00000870000080000000181E000078006000000001000000020000200000702000B3400040020000000382204203003FFFFFFFF = m)
    (k : Nat) (c : Cause) (h₀ : Within m s₀ s) : Within m s₀ (State.clockStops s k c) := by
  unfold State.clockStops
  repeat' first
    | with_reducible assumption | with_reducible apply within_State_haltNow (Mask.sub hm rfl)
    | with_reducible apply within_State_loseStrobes (Mask.sub hm rfl) | exact Touch.any (Mask.bit hm rfl)

theorem within_execCoveSleep {m : Nat} {s₀ s : State}
    (hm : m ||| 0xF901000C00000870000000000000000000000000000000000100000002000020000070000000000040020000000000004000003FFFFFFFF = m)
    (c : Fin 16) (h₀ : Within m s₀ s) : AnswersWithin m s₀ (execCoveSleep c s) := by
  unfold execCoveSleep
  repeat' first
    | with_reducible assumption | with_reducible refine AnswersWithin.next ?_
    | with_reducible apply within_State_coveDown (Mask.sub hm rfl) | exact Touch.any (Mask.bit hm rfl)
    | with_reducible refine Within.ite ?_ ?_ | split | (extract_lets; split)

theorem within_execCoveWakeAdmit {m : Nat} {s₀ s : State}
    (hm : m ||| 0x10000000000000000000000000000000000000000000000000000004000001 = m) (h₀ : Within m s₀ s) :
    AnswersWithin m s₀ (execCoveWakeAdmit s) := by
  unfold execCoveWakeAdmit
  repeat' first
    | with_reducible assumption | with_reducible refine AnswersWithin.next ?_ | with_reducible intro _
    | with_reducible apply Within.advanceTo _ (Mask.bit hm rfl) | with_reducible apply within_State_setFld
    | with_reducible refine Within.snd (by assumption) ?_ | with_reducible refine Within.fst (by assumption) ?_
    | exact touch_CV_STATE (Mask.bit hm rfl) _ | with_reducible refine Within.ite ?_ ?_ | split | (extract_lets; split)
    | (with_reducible refine Within.mk ?_ ?hk
       case hk => (repeat' apply And.intro) <;> first | with_reducible exact .inr rfl | exact .inl (Mask.bit hm rfl)
       first
        | with_reducible assumption | with_reducible apply Within.advanceTo _ (Mask.bit hm rfl)
        | with_reducible apply within_State_setFld | with_reducible refine Within.snd (by assumption) ?_
        | with_reducible refine Within.fst (by assumption) ?_ | with_reducible refine Within.ite ?_ ?_ | split | (extract_lets; split)
        | (with_reducible refine Within.mk ?_ ?hk
           case hk => (repeat' apply And.intro) <;> first | with_reducible exact .inr rfl | exact .inl (Mask.bit hm rfl)
           first
            | with_reducible assumption | with_reducible apply Within.advanceTo _ (Mask.bit hm rfl)
            | with_reducible apply within_State_setFld | with_reducible refine Within.snd (by assumption) ?_
            | with_reducible refine Within.fst (by assumption) ?_ | with_reducible refine Within.ite ?_ ?_ | split
            | (extract_lets; split)))

theorem within_execCovePllLocked {m : Nat} {s₀ s : State}
    (hm : m ||| 0x10000000000000000000000000000000000000000000000000000000000001 = m) (c : Fin 16) (at_ : Nat) (h₀ : Within m s₀ s) :
    AnswersWithin m s₀ (execCovePllLocked c at_ s) := by
  unfold execCovePllLocked
  repeat' first
    | with_reducible assumption | with_reducible refine AnswersWithin.next ?_
    | with_reducible apply Within.advanceTo _ (Mask.bit hm rfl) | with_reducible apply within_State_setFld
    | exact touch_CV_STATE (Mask.bit hm rfl) _ | with_reducible refine Within.ite ?_ ?_ | split | (extract_lets; split)

theorem within_execLockFail {m : Nat} {s₀ s : State} (hm : m ||| 0x30000000000000000002000000000000000000000000000000000005000001 = m)
    (c : Fin 16) (h₀ : Within m s₀ s) : AnswersWithin m s₀ (execLockFail c s) := by
  unfold execLockFail
  repeat' first
    | with_reducible assumption | with_reducible refine AnswersWithin.next ?_
    | with_reducible apply Within.advanceTo _ (Mask.bit hm rfl) | with_reducible apply within_State_setFld
    | with_reducible apply within_State_raise | with_reducible apply within_State_fault (Mask.sub hm rfl)
    | with_reducible apply within_State_showPower (Mask.sub hm rfl) | exact touch_CV_STAT (Mask.bit hm rfl) _
    | exact touch_CV_STATE (Mask.bit hm rfl) _ | with_reducible refine Within.ite ?_ ?_ | split | (extract_lets; split)
    | (with_reducible refine Within.mk ?_ ?hk
       case hk => (repeat' apply And.intro) <;> first | with_reducible exact .inr rfl | exact .inl (Mask.bit hm rfl)
       first
        | with_reducible assumption | with_reducible apply Within.advanceTo _ (Mask.bit hm rfl)
        | with_reducible apply within_State_setFld | with_reducible apply within_State_raise
        | with_reducible apply within_State_fault (Mask.sub hm rfl) | with_reducible apply within_State_showPower (Mask.sub hm rfl)
        | with_reducible refine Within.ite ?_ ?_ | split | (extract_lets; split)
        | (with_reducible refine Within.mk ?_ ?hk
           case hk => (repeat' apply And.intro) <;> first | with_reducible exact .inr rfl | exact .inl (Mask.bit hm rfl)
           first
            | with_reducible assumption | with_reducible apply Within.advanceTo _ (Mask.bit hm rfl)
            | with_reducible apply within_State_setFld | with_reducible apply within_State_raise
            | with_reducible apply within_State_fault (Mask.sub hm rfl) | with_reducible apply within_State_showPower (Mask.sub hm rfl)
            | with_reducible refine Within.ite ?_ ?_ | split | (extract_lets; split)))

theorem within_State_wakePin {m : Nat} {s₀ s : State}
    (hm : m ||| 0x1000C00000000000000000000000000000000000000000100000002000020000070000000000040020000000000004000003FFFFFFFF = m)
    (n : Nat) (h₀ : Within m s₀ s) : Within m s₀ (State.wakePin s n) := by
  unfold State.wakePin
  repeat' first
    | with_reducible assumption | with_reducible apply within_State_undetermine (Mask.sub hm rfl)
    | with_reducible apply within_State_startComparator (Mask.sub hm rfl) | with_reducible apply within_State_pmuTake (Mask.sub hm rfl)
    | with_reducible apply within_State_restartConv (Mask.sub hm rfl) | exact Touch.any (Mask.bit hm rfl)
    | with_reducible refine Within.ite ?_ ?_ | split | (extract_lets; split)

theorem within_execCoveSettled {m : Nat} {s₀ s : State}
    (hm : m ||| 0x1000C00000000000000000000000000000000000000000100000002000020000070000000000040020000000000004000003FFFFFFFF = m)
    (c : Fin 16) (h₀ : Within m s₀ s) : AnswersWithin m s₀ (execCoveSettled c s) := by
  unfold execCoveSettled
  repeat' first
    | with_reducible assumption | with_reducible refine AnswersWithin.next ?_ | with_reducible intro _
    | with_reducible apply Within.advanceTo _ (Mask.bit hm rfl) | with_reducible apply within_State_setFld
    | with_reducible apply within_State_showPower (Mask.sub hm rfl) | with_reducible apply within_State_wakePin (Mask.sub hm rfl)
    | with_reducible refine Within.each ?_ ?_ | exact touch_CV_STATE (Mask.bit hm rfl) _ | exact Touch.any (Mask.bit hm rfl)
    | with_reducible refine Within.ite ?_ ?_ | split | (extract_lets; split)

theorem within_execLockLost {m : Nat} {s₀ s : State}
    (hm : m ||| 0x100000000000000800002000000000F901080E00000870000080000000181E000078006000000003000000020000200000702000B3400040020380000382204203003FFFFFFFF = m)
    (c : Fin 16) (at_ : Nat) (h₀ : Within m s₀ s) : AnswersWithin m s₀ (execLockLost c at_ s) := by
  unfold execLockLost
  repeat' first
    | with_reducible assumption | with_reducible refine AnswersWithin.next ?_ | with_reducible intro _
    | with_reducible apply Within.advanceTo _ (Mask.bit hm rfl) | with_reducible apply within_State_raise
    | with_reducible apply within_State_fault (Mask.sub hm rfl) | with_reducible apply within_State_abortCal (Mask.sub hm rfl)
    | with_reducible apply within_State_coveDown (Mask.sub hm rfl) | with_reducible apply within_State_clockStops (Mask.sub hm rfl)
    | with_reducible refine Within.each ?_ ?_ | exact touch_CV_STAT (Mask.bit hm rfl) _ | exact Touch.any (Mask.bit hm rfl)
    | with_reducible refine Within.ite ?_ ?_ | split | (extract_lets; split)

theorem within_State_cvCommand {m : Nat} {s₀ s : State}
    (hm : m ||| 0x100000000000020000070000000000000000000000000004000003FFFFFFFF = m) (c : Nat) (d : Word) (h₀ : Within m s₀ s) :
    Within m s₀ (State.cvCommand s c d) := by
  unfold State.cvCommand
  repeat' first
    | with_reducible assumption | with_reducible apply within_State_requestWake (Mask.sub hm rfl)
    | with_reducible apply within_State_request (Mask.sub hm rfl) | exact Touch.any (Mask.bit hm rfl)
    | with_reducible refine Within.ite ?_ ?_ | split | (extract_lets; split)

theorem within_execEbbTrim {m : Nat} {s₀ s : State} (hm : m ||| 0x4000001 = m) (h₀ : Within m s₀ s) :
    AnswersWithin m s₀ (execEbbTrim s) := by
  unfold execEbbTrim
  repeat' first
    | with_reducible assumption | with_reducible refine AnswersWithin.next ?_
    | with_reducible apply Within.advanceTo _ (Mask.bit hm rfl) | with_reducible refine Within.ite ?_ ?_ | split | (extract_lets; split)
    | (with_reducible refine Within.mk ?_ ?hk
       case hk => (repeat' apply And.intro) <;> first | with_reducible exact .inr rfl | exact .inl (Mask.bit hm rfl)
       first
        | with_reducible assumption | with_reducible apply Within.advanceTo _ (Mask.bit hm rfl)
        | with_reducible refine Within.ite ?_ ?_ | split | (extract_lets; split)
        | (with_reducible refine Within.mk ?_ ?hk
           case hk => (repeat' apply And.intro) <;> first | with_reducible exact .inr rfl | exact .inl (Mask.bit hm rfl)
           first
            | with_reducible assumption | with_reducible apply Within.advanceTo _ (Mask.bit hm rfl)
            | with_reducible refine Within.ite ?_ ?_ | split | (extract_lets; split)))

end Sys2Proof.Machine
end

