-- ==== Sys2Proof/Laws/PinsWithin.lean ====
section
/-! SUPPORT. What the definitions of Machine/Pins.lean keep, and all that they may change (Laws/Within.lean). -/

namespace Sys2Proof.Machine

set_option linter.all false

theorem within_State_psLimWrite {m : Nat} {s₀ s : State}
    (hm : m ||| 0x21000000000000000000000000000000000000000000000000000000000000000000000000000000000000000000000000000000 = m)
    (n : Nat) (v : Word) (h₀ : Within m s₀ s) : Within m s₀ (State.psLimWrite s n v) := by
  unfold State.psLimWrite
  repeat' first
    | with_reducible assumption | with_reducible apply Within.wr | with_reducible apply within_State_reclip (Mask.sub hm rfl)
    | exact touch_PS_LIM (Mask.bit hm rfl) _

theorem within_State_pmLimWrite {m : Nat} {s₀ s : State}
    (hm : m ||| 0x8000000000000000000000000000000000000000000000000000000000000000000000000000000000000000000000000200000300 = m)
    (n : Nat) (off : Nat) (v : Word) (h₀ : Within m s₀ s) : Within m s₀ (State.pmLimWrite s n off v) := by
  unfold State.pmLimWrite
  repeat' first
    | with_reducible assumption | with_reducible apply Within.wr | with_reducible apply within_State_disturb (Mask.sub hm rfl)
    | with_reducible apply within_State_noteForceClip (Mask.sub hm rfl) | with_reducible apply within_State_noteRange (Mask.sub hm rfl)
    | with_reducible apply within_State_noteClamps (Mask.sub hm rfl) | with_reducible apply within_State_pmuTake (Mask.sub hm rfl)
    | exact Touch.any (Mask.bit hm rfl) | with_reducible refine Within.ite ?_ ?_ | split | (extract_lets; split)

theorem within_State_evtWrite {m : Nat} {s₀ s : State}
    (hm : m ||| 0x80000000000000000000000000000000000000000000000000000000000000000000000000000000000000000000000000000000 = m)
    (n : Nat) (v : Word) (h₀ : Within m s₀ s) : Within m s₀ (State.evtWrite s n v) := by
  unfold State.evtWrite
  repeat' first
    | with_reducible assumption | with_reducible apply within_State_setFld | exact touch_PS_EVT (Mask.bit hm rfl) _
    | with_reducible refine Within.ite ?_ ?_ | split | (extract_lets; split)

theorem within_execCmpSettled {m : Nat} {s₀ s : State}
    (hm : m ||| 0x1FB00000C00001BF0000000000000000000000000000000000100000002000020000070000000000040020000000000004000003FFFFFFFF = m)
    (n : Fin 1536) (hi : Fin 3) (lo : Fin 3) (h₀ : Within m s₀ s) : AnswersWithin m s₀ (execCmpSettled n hi lo s) := by
  unfold execCmpSettled
  repeat' first
    | with_reducible assumption | with_reducible refine AnswersWithin.next ?_ | with_reducible intro _
    | with_reducible apply Within.advanceTo _ (Mask.bit hm rfl) | with_reducible apply within_State_setFld
    | with_reducible apply within_State_modPin (Mask.sub hm rfl) | with_reducible apply within_State_newDecisions (Mask.sub hm rfl)
    | with_reducible refine Within.snd (by assumption) ?_ | with_reducible refine Within.fst (by assumption) ?_
    | exact touch_PS_CMP_STATE (Mask.bit hm rfl) _ | exact Touch.any (Mask.bit hm rfl) | with_reducible refine Within.ite ?_ ?_ | split
    | (extract_lets; split)
    | (with_reducible refine Within.mk ?_ ?hk
       case hk => (repeat' apply And.intro) <;> first | with_reducible exact .inr rfl | exact .inl (Mask.bit hm rfl)
       first
        | with_reducible assumption | with_reducible apply Within.advanceTo _ (Mask.bit hm rfl)
        | with_reducible apply within_State_setFld | with_reducible apply within_State_modPin (Mask.sub hm rfl)
        | with_reducible apply within_State_newDecisions (Mask.sub hm rfl) | with_reducible refine Within.snd (by assumption) ?_
        | with_reducible refine Within.fst (by assumption) ?_ | with_reducible refine Within.ite ?_ ?_ | split | (extract_lets; split)
        | (with_reducible refine Within.mk ?_ ?hk
           case hk => (repeat' apply And.intro) <;> first | with_reducible exact .inr rfl | exact .inl (Mask.bit hm rfl)
           first
            | with_reducible assumption | with_reducible apply Within.advanceTo _ (Mask.bit hm rfl)
            | with_reducible apply within_State_setFld | with_reducible apply within_State_modPin (Mask.sub hm rfl)
            | with_reducible apply within_State_newDecisions (Mask.sub hm rfl) | with_reducible refine Within.snd (by assumption) ?_
            | with_reducible refine Within.fst (by assumption) ?_ | with_reducible refine Within.ite ?_ ?_ | split
            | (extract_lets; split)))

theorem within_execHoldRefresh {m : Nat} {s₀ s : State} (hm : m ||| 0x4000081 = m) (h₀ : Within m s₀ s) :
    AnswersWithin m s₀ (execHoldRefresh s) := by
  unfold execHoldRefresh
  repeat' first
    | with_reducible assumption | with_reducible refine AnswersWithin.next ?_ | with_reducible intro _
    | with_reducible apply Within.advanceTo _ (Mask.bit hm rfl) | with_reducible apply within_State_holdThresholds (Mask.sub hm rfl)
    | with_reducible refine Within.each ?_ ?_
    | (with_reducible refine Within.mk ?_ ?hk
       case hk => (repeat' apply And.intro) <;> first | with_reducible exact .inr rfl | exact .inl (Mask.bit hm rfl)
       first
        | with_reducible assumption | with_reducible apply Within.advanceTo _ (Mask.bit hm rfl)
        | with_reducible apply within_State_holdThresholds (Mask.sub hm rfl) | with_reducible refine Within.each ?_ ?_
        | (with_reducible refine Within.mk ?_ ?hk
           case hk => (repeat' apply And.intro) <;> first | with_reducible exact .inr rfl | exact .inl (Mask.bit hm rfl)
           first
            | with_reducible assumption | with_reducible apply Within.advanceTo _ (Mask.bit hm rfl)
            | with_reducible apply within_State_holdThresholds (Mask.sub hm rfl) | with_reducible refine Within.each ?_ ?_))

theorem within_State_trip {m : Nat} {s₀ s : State}
    (hm : m ||| 0x100000000000000800002000000000F901080F00000870000080000000181E000078002000000001000000020000200000702000B3400040020000000382204203003FFFFFFFF = m)
    (n : Nat) (kind : Nat) (h₀ : Within m s₀ s) : Within m s₀ (State.trip s n kind) := by
  unfold State.trip
  repeat' first
    | with_reducible assumption | with_reducible intro _ | with_reducible apply within_State_setFld
    | with_reducible apply within_State_raise | with_reducible apply within_State_fault (Mask.sub hm rfl)
    | with_reducible apply within_State_life (Mask.sub hm rfl) | with_reducible apply within_State_noteWindows (Mask.sub hm rfl)
    | with_reducible apply within_State_enterForced (Mask.sub hm rfl) | with_reducible apply within_State_raiseStop (Mask.sub hm rfl)
    | with_reducible apply within_State_tripCal (Mask.sub hm rfl) | with_reducible refine Within.each ?_ ?_
    | exact touch_PS_BW_STAT (Mask.bit hm rfl) _ | exact Touch.any (Mask.bit hm rfl) | with_reducible refine Within.ite ?_ ?_ | split
    | (extract_lets; split)
    | (with_reducible refine Within.mk ?_ ?hk
       case hk => (repeat' apply And.intro) <;> first | with_reducible exact .inr rfl | exact .inl (Mask.bit hm rfl)
       first
        | with_reducible assumption | with_reducible apply within_State_setFld | with_reducible apply within_State_raise
        | with_reducible apply within_State_fault (Mask.sub hm rfl) | with_reducible apply within_State_life (Mask.sub hm rfl)
        | with_reducible apply within_State_noteWindows (Mask.sub hm rfl)
        | with_reducible apply within_State_enterForced (Mask.sub hm rfl)
        | with_reducible apply within_State_raiseStop (Mask.sub hm rfl) | with_reducible apply within_State_tripCal (Mask.sub hm rfl)
        | with_reducible refine Within.each ?_ ?_ | with_reducible refine Within.ite ?_ ?_ | split | (extract_lets; split)
        | (with_reducible refine Within.mk ?_ ?hk
           case hk => (repeat' apply And.intro) <;> first | with_reducible exact .inr rfl | exact .inl (Mask.bit hm rfl)
           first
            | with_reducible assumption | with_reducible apply within_State_setFld | with_reducible apply within_State_raise
            | with_reducible apply within_State_fault (Mask.sub hm rfl) | with_reducible apply within_State_life (Mask.sub hm rfl)
            | with_reducible apply within_State_noteWindows (Mask.sub hm rfl)
            | with_reducible apply within_State_enterForced (Mask.sub hm rfl)
            | with_reducible apply within_State_raiseStop (Mask.sub hm rfl)
            | with_reducible apply within_State_tripCal (Mask.sub hm rfl) | with_reducible refine Within.each ?_ ?_
            | with_reducible refine Within.ite ?_ ?_ | split | (extract_lets; split)))

theorem within_execBwTrip {m : Nat} {s₀ s : State}
    (hm : m ||| 0x100000000000000800002000000000F901080F00000870000080000000181E000078002000000001000000020000200000702000B3400040020000000382204203003FFFFFFFF = m)
    (n : Fin 1536) (ovh : Bool) (ovl : Bool) (oc : Bool) (at_ : Nat) (h₀ : Within m s₀ s) :
    AnswersWithin m s₀ (execBwTrip n ovh ovl oc at_ s) := by
  unfold execBwTrip
  repeat' first
    | with_reducible assumption | with_reducible refine AnswersWithin.next ?_
    | with_reducible apply Within.advanceTo _ (Mask.bit hm rfl) | with_reducible apply within_State_trip (Mask.sub hm rfl)
    | exact Touch.any (Mask.bit hm rfl) | with_reducible refine Within.ite ?_ ?_ | split | (extract_lets; split)

theorem within_State_engageFail {m : Nat} {s₀ s : State} (hm : m ||| 0x1000000 = m) (pins : List Nat) (h₀ : Within m s₀ s) :
    Within m s₀ (State.engageFail s pins) := by
  unfold State.engageFail
  repeat' first
    | with_reducible assumption | with_reducible intro _ | with_reducible apply within_State_fault (Mask.sub hm rfl)
    | with_reducible refine Within.each ?_ ?_

theorem within_execBwEngageCheck {m : Nat} {s₀ s : State} (hm : m ||| 0x1840001 = m) (bad : List (Fin 1536)) (h₀ : Within m s₀ s) :
    AnswersWithin m s₀ (execBwEngageCheck bad s) := by
  unfold execBwEngageCheck
  repeat' first
    | with_reducible assumption | with_reducible refine AnswersWithin.next ?_ | with_reducible intro _
    | with_reducible apply Within.advanceTo _ (Mask.bit hm rfl) | with_reducible apply within_State_trip (Mask.sub hm rfl)
    | with_reducible apply within_State_engageFail (Mask.sub hm rfl) | with_reducible refine Within.snd (by assumption) ?_
    | with_reducible refine Within.fst (by assumption) ?_ | with_reducible refine Within.ite ?_ ?_ | split | (extract_lets; split)
    | (with_reducible refine Within.mk ?_ ?hk
       case hk => (repeat' apply And.intro) <;> first | with_reducible exact .inr rfl | exact .inl (Mask.bit hm rfl)
       first
        | with_reducible assumption | with_reducible apply Within.advanceTo _ (Mask.bit hm rfl)
        | with_reducible apply within_State_trip (Mask.sub hm rfl) | with_reducible apply within_State_engageFail (Mask.sub hm rfl)
        | with_reducible refine Within.snd (by assumption) ?_ | with_reducible refine Within.fst (by assumption) ?_
        | with_reducible refine Within.ite ?_ ?_ | split | (extract_lets; split)
        | (with_reducible refine Within.mk ?_ ?hk
           case hk => (repeat' apply And.intro) <;> first | with_reducible exact .inr rfl | exact .inl (Mask.bit hm rfl)
           first
            | with_reducible assumption | with_reducible apply Within.advanceTo _ (Mask.bit hm rfl)
            | with_reducible apply within_State_trip (Mask.sub hm rfl) | with_reducible apply within_State_engageFail (Mask.sub hm rfl)
            | with_reducible refine Within.snd (by assumption) ?_ | with_reducible refine Within.fst (by assumption) ?_
            | with_reducible refine Within.ite ?_ ?_ | split | (extract_lets; split)))

theorem within_State_clearDrive {m : Nat} {s₀ s : State}
    (hm : m ||| 0x200000000000000000000000000000000000000000000000000000000000000000000000000000000000000000000000000018 = m)
    (pins : List Nat) (h₀ : Within m s₀ s) : Within m s₀ (State.clearDrive s pins) := by
  unfold State.clearDrive
  repeat' first
    | with_reducible assumption | with_reducible intro _ | with_reducible apply within_State_setFld
    | with_reducible refine Within.each ?_ ?_ | exact touch_PS_DRV_CTRL (Mask.bit hm rfl) _ | with_reducible refine Within.ite ?_ ?_
    | split | (extract_lets; split)
    | (with_reducible refine Within.mk ?_ ?hk
       case hk => (repeat' apply And.intro) <;> first | with_reducible exact .inr rfl | exact .inl (Mask.bit hm rfl)
       first
        | with_reducible assumption | with_reducible apply within_State_setFld | with_reducible refine Within.each ?_ ?_
        | with_reducible refine Within.ite ?_ ?_ | split | (extract_lets; split))

theorem within_State_rearm {m : Nat} {s₀ s : State}
    (hm : m ||| 0x30200000000000000000000000000000000000000000000000000000000000000000000000000000000000000000000000040398 = m)
    (n : Nat) (present : Bool) (h₀ : Within m s₀ s) : Within m s₀ (State.rearm s n present) := by
  unfold State.rearm
  repeat' first
    | with_reducible assumption | with_reducible intro _ | with_reducible apply Within.wr
    | with_reducible apply Within.free (Mask.bit hm rfl) | with_reducible apply within_State_setFld
    | with_reducible apply within_State_raise | with_reducible apply within_State_leaveForced (Mask.sub hm rfl)
    | with_reducible apply within_State_trip (Mask.sub hm rfl) | with_reducible apply within_State_clearDrive (Mask.sub hm rfl)
    | with_reducible refine Within.each ?_ ?_ | with_reducible refine Within.snd (by assumption) ?_
    | with_reducible refine Within.fst (by assumption) ?_ | exact touch_PS_BW_STAT (Mask.bit hm rfl) _
    | exact touch_PS_STAT (Mask.bit hm rfl) _ | with_reducible refine Within.ite ?_ ?_ | split | (extract_lets; split)
    | (with_reducible refine Within.mk ?_ ?hk
       case hk => (repeat' apply And.intro) <;> first | with_reducible exact .inr rfl | exact .inl (Mask.bit hm rfl)
       first
        | with_reducible assumption | with_reducible apply Within.wr | with_reducible apply Within.free (Mask.bit hm rfl)
        | with_reducible apply within_State_setFld | with_reducible apply within_State_raise
        | with_reducible apply within_State_leaveForced (Mask.sub hm rfl) | with_reducible apply within_State_trip (Mask.sub hm rfl)
        | with_reducible apply within_State_clearDrive (Mask.sub hm rfl) | with_reducible refine Within.each ?_ ?_
        | with_reducible refine Within.snd (by assumption) ?_ | with_reducible refine Within.fst (by assumption) ?_
        | with_reducible refine Within.ite ?_ ?_ | split | (extract_lets; split)
        | (with_reducible refine Within.mk ?_ ?hk
           case hk => (repeat' apply And.intro) <;> first | with_reducible exact .inr rfl | exact .inl (Mask.bit hm rfl)
           first
            | with_reducible assumption | with_reducible apply Within.wr | with_reducible apply Within.free (Mask.bit hm rfl)
            | with_reducible apply within_State_setFld | with_reducible apply within_State_raise
            | with_reducible apply within_State_leaveForced (Mask.sub hm rfl)
            | with_reducible apply within_State_trip (Mask.sub hm rfl) | with_reducible apply within_State_clearDrive (Mask.sub hm rfl)
            | with_reducible refine Within.each ?_ ?_ | with_reducible refine Within.snd (by assumption) ?_
            | with_reducible refine Within.fst (by assumption) ?_ | with_reducible refine Within.ite ?_ ?_ | split
            | (extract_lets; split)))

theorem within_State_bwCtrlWrite {m : Nat} {s₀ s : State}
    (hm : m ||| 0x38200000000000000000000000000000000000000000000000000000000000000000000000000000000000000000000000040398 = m)
    (n : Nat) (v : Word) (present : Bool) (h₀ : Within m s₀ s) : Within m s₀ (State.bwCtrlWrite s n v present) := by
  unfold State.bwCtrlWrite
  repeat' first
    | with_reducible assumption | with_reducible apply within_State_setFld | with_reducible apply within_State_rearm (Mask.sub hm rfl)
    | exact touch_PS_BW_CTRL (Mask.bit hm rfl) _ | with_reducible refine Within.ite ?_ ?_ | split | (extract_lets; split)

end Sys2Proof.Machine
end

