-- ==== Sys2Proof/Laws/FaultsWithin.lean ====
section
/-! SUPPORT. What the definitions of Machine/Faults.lean keep, and all that they may change (Laws/Within.lean). -/

namespace Sys2Proof.Machine

set_option linter.all false

theorem within_State_capture {m : Nat} {s₀ s : State} (hm : m ||| 0x200000000 = m) (a : Nat) (v : Nat) (h₀ : Within m s₀ s) :
    Within m s₀ (State.capture s a v) := by
  unfold State.capture
  repeat' first
    | with_reducible assumption | with_reducible intro _ | with_reducible apply Within.wr | with_reducible refine Within.each ?_ ?_
    | exact Touch.any (Mask.bit hm rfl)

theorem within_State_recSel {m : Nat} {s₀ s : State} (hm : m ||| 0x10000000000000000000000000000000000000200000000 = m) (v : Word)
    (h₀ : Within m s₀ s) : Within m s₀ (State.recSel s v) := by
  unfold State.recSel
  repeat' first
    | with_reducible assumption | with_reducible apply Within.wr | with_reducible apply within_State_fault (Mask.sub hm rfl)
    | with_reducible apply within_State_capture (Mask.sub hm rfl) | with_reducible refine Within.snd (by assumption) ?_
    | with_reducible refine Within.fst (by assumption) ?_ | exact touch_FC_REC_SEL (Mask.bit hm rfl) | exact Touch.any (Mask.bit hm rfl)
    | with_reducible refine Within.ite ?_ ?_ | split | (extract_lets; split)

theorem within_State_logSel {m : Nat} {s₀ s : State} (hm : m ||| 0x20000000000000000000000000000000000000200000000 = m) (v : Word)
    (h₀ : Within m s₀ s) : Within m s₀ (State.logSel s v) := by
  unfold State.logSel
  repeat' first
    | with_reducible assumption | with_reducible apply Within.wr | with_reducible apply within_State_fault (Mask.sub hm rfl)
    | with_reducible apply within_State_capture (Mask.sub hm rfl) | with_reducible refine Within.snd (by assumption) ?_
    | with_reducible refine Within.fst (by assumption) ?_ | exact touch_FC_LOG_SEL (Mask.bit hm rfl) | exact Touch.any (Mask.bit hm rfl)
    | with_reducible refine Within.ite ?_ ?_ | split | (extract_lets; split)

theorem within_State_helmTransfer {m : Nat} {s₀ s : State} (hm : m ||| 0x600000000000000000400200000000000000000000A000000 = m)
    (cause : Nat) (pending : Bool) (h₀ : Within m s₀ s) : Within m s₀ (State.helmTransfer s cause pending) := by
  unfold State.helmTransfer
  repeat' first
    | with_reducible assumption | with_reducible apply Within.wr | with_reducible apply within_State_setFld
    | with_reducible apply within_State_fault (Mask.sub hm rfl) | with_reducible apply within_State_pushEvent (Mask.sub hm rfl)
    | exact touch_FC_HELM_EPOCH (Mask.bit hm rfl) | exact touch_FC_HELM_STATE (Mask.bit hm rfl) | with_reducible refine Within.ite ?_ ?_
    | split | (extract_lets; split)
    | (with_reducible refine Within.mk ?_ ?hk
       case hk => (repeat' apply And.intro) <;> first | with_reducible exact .inr rfl | exact .inl (Mask.bit hm rfl)
       first
        | with_reducible assumption | with_reducible apply Within.wr | with_reducible apply within_State_setFld
        | with_reducible apply within_State_fault (Mask.sub hm rfl) | with_reducible apply within_State_pushEvent (Mask.sub hm rfl)
        | with_reducible refine Within.ite ?_ ?_ | split | (extract_lets; split)
        | (with_reducible refine Within.mk ?_ ?hk
           case hk => (repeat' apply And.intro) <;> first | with_reducible exact .inr rfl | exact .inl (Mask.bit hm rfl)
           first
            | with_reducible assumption | with_reducible apply Within.wr | with_reducible apply within_State_setFld
            | with_reducible apply within_State_fault (Mask.sub hm rfl) | with_reducible apply within_State_pushEvent (Mask.sub hm rfl)
            | with_reducible refine Within.ite ?_ ?_ | split | (extract_lets; split)))

theorem within_State_beaconExpires {m : Nat} {s₀ s : State}
    (hm : m ||| 0x1000000000000008000020000000000001000C00000000000000000000000000000000000000000100000002000060000070000033400040020380000000004000003FFFFFFFF = m)
    (h₀ : Within m s₀ s) : Within m s₀ (State.beaconExpires s) := by
  unfold State.beaconExpires
  repeat' first
    | with_reducible assumption | with_reducible apply within_State_setFld | with_reducible apply within_State_satAdd
    | with_reducible apply within_State_abortCal (Mask.sub hm rfl) | with_reducible apply within_State_abortCals (Mask.sub hm rfl)
    | with_reducible apply within_State_helmTransfer (Mask.sub hm rfl) | exact touch_FC_HELM_STATE (Mask.bit hm rfl)
    | exact Touch.any (Mask.bit hm rfl)

theorem within_execWatchdogExpiry {m : Nat} {s₀ s : State}
    (hm : m ||| 0x1000000000000008000020000000000001000C00000000000000000000000000000000000000000100000002000060000070000033400040020380000000004000003FFFFFFFF = m)
    (h₀ : Within m s₀ s) : AnswersWithin m s₀ (execWatchdogExpiry s) := by
  unfold execWatchdogExpiry
  repeat' first
    | with_reducible assumption | with_reducible refine AnswersWithin.next ?_
    | with_reducible apply Within.advanceTo _ (Mask.bit hm rfl) | with_reducible apply within_State_fault (Mask.sub hm rfl)
    | with_reducible apply within_State_beaconExpires (Mask.sub hm rfl) | exact Touch.any (Mask.bit hm rfl)
    | with_reducible refine Within.ite ?_ ?_ | split | (extract_lets; split)

theorem within_State_wdtKick {m : Nat} {s₀ s : State} (hm : m ||| 0x8000000 = m) (m_ : Master) (h₀ : Within m s₀ s) :
    Within m s₀ (State.wdtKick s m_) := by
  unfold State.wdtKick
  repeat' first
    | with_reducible assumption | with_reducible apply within_State_fault (Mask.sub hm rfl) | with_reducible refine Within.ite ?_ ?_
    | split | (extract_lets; split)
    | (with_reducible refine Within.mk ?_ ?hk
       case hk => (repeat' apply And.intro) <;> first | with_reducible exact .inr rfl | exact .inl (Mask.bit hm rfl)
       first
        | with_reducible assumption | with_reducible apply within_State_fault (Mask.sub hm rfl)
        | with_reducible refine Within.ite ?_ ?_ | split | (extract_lets; split)
        | (with_reducible refine Within.mk ?_ ?hk
           case hk => (repeat' apply And.intro) <;> first | with_reducible exact .inr rfl | exact .inl (Mask.bit hm rfl)
           first
            | with_reducible assumption | with_reducible apply within_State_fault (Mask.sub hm rfl)
            | with_reducible refine Within.ite ?_ ?_ | split | (extract_lets; split)))

theorem within_State_helmAck {m : Nat} {s₀ s : State} (hm : m ||| 0x2000000000000000000000000000000000000000008000000 = m)
    (h₀ : Within m s₀ s) : Within m s₀ (State.helmAck s) := by
  unfold State.helmAck
  repeat' first
    | with_reducible assumption | with_reducible apply within_State_setFld | with_reducible apply within_State_fault (Mask.sub hm rfl)
    | exact touch_FC_HELM_STATE (Mask.bit hm rfl)
    | (with_reducible refine Within.mk ?_ ?hk
       case hk => (repeat' apply And.intro) <;> first | with_reducible exact .inr rfl | exact .inl (Mask.bit hm rfl)
       first
        | with_reducible assumption | with_reducible apply within_State_setFld
        | with_reducible apply within_State_fault (Mask.sub hm rfl)
        | (with_reducible refine Within.mk ?_ ?hk
           case hk => (repeat' apply And.intro) <;> first | with_reducible exact .inr rfl | exact .inl (Mask.bit hm rfl)
           first
            | with_reducible assumption | with_reducible apply within_State_setFld
            | with_reducible apply within_State_fault (Mask.sub hm rfl)))

theorem within_execHelmTimeout {m : Nat} {s₀ s : State} (hm : m ||| 0x2000000000000000010000000000000000000000109010005 = m)
    (h₀ : Within m s₀ s) : AnswersWithin m s₀ (execHelmTimeout s) := by
  unfold execHelmTimeout
  repeat' first
    | with_reducible assumption | with_reducible refine AnswersWithin.next ?_
    | with_reducible apply Within.advanceTo _ (Mask.bit hm rfl) | with_reducible apply Within.free (Mask.bit hm rfl)
    | with_reducible apply within_State_fault (Mask.sub hm rfl) | with_reducible apply within_State_dropHold (Mask.sub hm rfl)
    | with_reducible apply within_State_helmAck (Mask.sub hm rfl) | with_reducible refine Within.snd (by assumption) ?_
    | with_reducible refine Within.fst (by assumption) ?_ | with_reducible refine Within.ite ?_ ?_ | split | (extract_lets; split)
    | (with_reducible refine Within.mk ?_ ?hk
       case hk => (repeat' apply And.intro) <;> first | with_reducible exact .inr rfl | exact .inl (Mask.bit hm rfl)
       first
        | with_reducible assumption | with_reducible apply Within.advanceTo _ (Mask.bit hm rfl)
        | with_reducible apply Within.free (Mask.bit hm rfl) | with_reducible apply within_State_fault (Mask.sub hm rfl)
        | with_reducible apply within_State_dropHold (Mask.sub hm rfl) | with_reducible apply within_State_helmAck (Mask.sub hm rfl)
        | with_reducible refine Within.snd (by assumption) ?_ | with_reducible refine Within.fst (by assumption) ?_
        | with_reducible refine Within.ite ?_ ?_ | split | (extract_lets; split)
        | (with_reducible refine Within.mk ?_ ?hk
           case hk => (repeat' apply And.intro) <;> first | with_reducible exact .inr rfl | exact .inl (Mask.bit hm rfl)
           first
            | with_reducible assumption | with_reducible apply Within.advanceTo _ (Mask.bit hm rfl)
            | with_reducible apply Within.free (Mask.bit hm rfl) | with_reducible apply within_State_fault (Mask.sub hm rfl)
            | with_reducible apply within_State_dropHold (Mask.sub hm rfl)
            | with_reducible apply within_State_helmAck (Mask.sub hm rfl) | with_reducible refine Within.snd (by assumption) ?_
            | with_reducible refine Within.fst (by assumption) ?_ | with_reducible refine Within.ite ?_ ?_ | split
            | (extract_lets; split)))

theorem within_State_helmCommand {m : Nat} {s₀ s : State} (hm : m ||| 0x600000000000000000400200000000000000000000A000000 = m)
    (d : Word) (h₀ : Within m s₀ s) : Within m s₀ (State.helmCommand s d) := by
  unfold State.helmCommand
  repeat' first
    | with_reducible assumption | with_reducible apply within_State_setFld | with_reducible apply within_State_fault (Mask.sub hm rfl)
    | with_reducible apply within_State_helmTransfer (Mask.sub hm rfl) | with_reducible apply within_State_helmAck (Mask.sub hm rfl)
    | exact touch_FC_HELM_STATE (Mask.bit hm rfl) | with_reducible refine Within.ite ?_ ?_ | split | (extract_lets; split)
    | (with_reducible refine Within.mk ?_ ?hk
       case hk => (repeat' apply And.intro) <;> first | with_reducible exact .inr rfl | exact .inl (Mask.bit hm rfl)
       first
        | with_reducible assumption | with_reducible apply within_State_setFld
        | with_reducible apply within_State_fault (Mask.sub hm rfl) | with_reducible apply within_State_helmTransfer (Mask.sub hm rfl)
        | with_reducible apply within_State_helmAck (Mask.sub hm rfl) | with_reducible refine Within.ite ?_ ?_ | split
        | (extract_lets; split)
        | (with_reducible refine Within.mk ?_ ?hk
           case hk => (repeat' apply And.intro) <;> first | with_reducible exact .inr rfl | exact .inl (Mask.bit hm rfl)
           first
            | with_reducible assumption | with_reducible apply within_State_setFld
            | with_reducible apply within_State_fault (Mask.sub hm rfl)
            | with_reducible apply within_State_helmTransfer (Mask.sub hm rfl)
            | with_reducible apply within_State_helmAck (Mask.sub hm rfl) | with_reducible refine Within.ite ?_ ?_ | split
            | (extract_lets; split)))

theorem within_State_laneTakes {m : Nat} {s₀ s : State} (hm : m ||| 0x200000 = m) (k : Nat) (r : Nat) (h₀ : Within m s₀ s) :
    Within m s₀ (State.laneTakes s k r) := by
  unfold State.laneTakes
  repeat' first
    | with_reducible assumption | with_reducible intro _ | with_reducible refine Within.snd (by assumption) ?_
    | with_reducible refine Within.fst (by assumption) ?_ | with_reducible refine Within.ite ?_ ?_ | split | (extract_lets; split)
    | (with_reducible refine Within.mk ?_ ?hk
       case hk => (repeat' apply And.intro) <;> first | with_reducible exact .inr rfl | exact .inl (Mask.bit hm rfl)
       first
        | with_reducible assumption | with_reducible refine Within.snd (by assumption) ?_
        | with_reducible refine Within.fst (by assumption) ?_ | with_reducible refine Within.ite ?_ ?_ | split | (extract_lets; split)
        | (with_reducible refine Within.mk ?_ ?hk
           case hk => (repeat' apply And.intro) <;> first | with_reducible exact .inr rfl | exact .inl (Mask.bit hm rfl)
           first
            | with_reducible assumption | with_reducible refine Within.snd (by assumption) ?_
            | with_reducible refine Within.fst (by assumption) ?_ | with_reducible refine Within.ite ?_ ?_ | split
            | (extract_lets; split)))

theorem within_State_laneFails {m : Nat} {s₀ s : State} (hm : m ||| 0x200000000000000000000000000000000000001200000 = m) (k : Nat)
    (h₀ : Within m s₀ s) : Within m s₀ (State.laneFails s k) := by
  unfold State.laneFails
  repeat' first
    | with_reducible assumption | with_reducible apply within_State_setFld | with_reducible apply within_State_fault (Mask.sub hm rfl)
    | with_reducible apply within_State_laneTakes (Mask.sub hm rfl) | exact touch_BI_LANE (Mask.bit hm rfl)
    | with_reducible refine Within.ite ?_ ?_ | split | (extract_lets; split)

theorem within_State_isolate {m : Nat} {s₀ s : State}
    (hm : m ||| 0x100000000010000800002000000000F901080F00000870000080000000181E000078006000000001100000020000600020702000B3400040020385C00382204203003FFFFFFFF = m)
    (source : Nat) (kind : Nat) (h₀ : Within m s₀ s) : Within m s₀ (State.isolate s source kind) := by
  unfold State.isolate
  repeat' first
    | with_reducible assumption | with_reducible intro _ | with_reducible apply within_State_setFld
    | with_reducible apply within_State_raise | with_reducible apply within_State_modStrand (Mask.sub hm rfl)
    | with_reducible apply within_State_helmTransfer (Mask.sub hm rfl)
    | with_reducible apply within_State_raiseStop (Mask.sub hm rfl) | with_reducible apply within_State_engineFails (Mask.sub hm rfl)
    | with_reducible apply within_State_abortCal (Mask.sub hm rfl) | with_reducible apply within_State_showPower (Mask.sub hm rfl)
    | with_reducible apply within_State_coveDown (Mask.sub hm rfl) | with_reducible apply within_State_clockStops (Mask.sub hm rfl)
    | with_reducible apply within_State_trip (Mask.sub hm rfl) | with_reducible apply within_State_beaconExpires (Mask.sub hm rfl)
    | with_reducible apply within_State_laneFails (Mask.sub hm rfl) | with_reducible refine Within.each ?_ ?_
    | exact touch_CV_STATE (Mask.bit hm rfl) _ | exact touch_FC_HELM_STATE (Mask.bit hm rfl) | exact Touch.any (Mask.bit hm rfl)
    | with_reducible refine Within.ite ?_ ?_ | split
    | (extract_lets; split)
    | (with_reducible refine Within.mk ?_ ?hk
       case hk => (repeat' apply And.intro) <;> first | with_reducible exact .inr rfl | exact .inl (Mask.bit hm rfl)
       first
        | with_reducible assumption | with_reducible apply within_State_setFld | with_reducible apply within_State_raise
        | with_reducible apply within_State_modStrand (Mask.sub hm rfl) | with_reducible apply within_State_raiseStop (Mask.sub hm rfl)
        | with_reducible apply within_State_engineFails (Mask.sub hm rfl)
        | with_reducible apply within_State_abortCal (Mask.sub hm rfl) | with_reducible apply within_State_showPower (Mask.sub hm rfl)
        | with_reducible apply within_State_coveDown (Mask.sub hm rfl) | with_reducible apply within_State_clockStops (Mask.sub hm rfl)
        | with_reducible apply within_State_trip (Mask.sub hm rfl) | with_reducible apply within_State_beaconExpires (Mask.sub hm rfl)
        | with_reducible apply within_State_laneFails (Mask.sub hm rfl) | with_reducible refine Within.each ?_ ?_
        | with_reducible refine Within.ite ?_ ?_ | split | (extract_lets; split))

theorem within_State_deviceActions {m : Nat} {s₀ s : State}
    (hm : m ||| 0x100000000000000800002000000000F901080E00000870000080000000181E000078002000000001000000020000200000702000B3470340020380000382204203003FFFFFFFF = m)
    (h₀ : Within m s₀ s) : Within m s₀ (State.deviceActions s) := by
  unfold State.deviceActions
  repeat' first
    | with_reducible assumption | with_reducible intro _ | with_reducible apply within_State_raise
    | with_reducible apply within_State_forcePins (Mask.sub hm rfl) | with_reducible apply within_State_originate (Mask.sub hm rfl)
    | with_reducible apply within_State_raiseAll (Mask.sub hm rfl) | with_reducible apply within_State_abortCal (Mask.sub hm rfl)
    | with_reducible apply within_State_abortCals (Mask.sub hm rfl) | with_reducible apply within_State_originateSlack (Mask.sub hm rfl)
    | exact Touch.any (Mask.bit hm rfl) | with_reducible refine Within.ite ?_ ?_ | split | (extract_lets; split)
    | (with_reducible refine Within.mk ?_ ?hk
       case hk => (repeat' apply And.intro) <;> first | with_reducible exact .inr rfl | exact .inl (Mask.bit hm rfl)
       first
        | with_reducible assumption | with_reducible apply within_State_raise
        | with_reducible apply within_State_forcePins (Mask.sub hm rfl) | with_reducible apply within_State_originate (Mask.sub hm rfl)
        | with_reducible apply within_State_raiseAll (Mask.sub hm rfl) | with_reducible apply within_State_abortCal (Mask.sub hm rfl)
        | with_reducible apply within_State_abortCals (Mask.sub hm rfl)
        | with_reducible apply within_State_originateSlack (Mask.sub hm rfl) | with_reducible refine Within.ite ?_ ?_ | split
        | (extract_lets; split))

theorem within_State_stopCoves {m : Nat} {s₀ s : State}
    (hm : m ||| 0x800002000000000F901080E00000870000080000000181E000078006000000001000000020000200000702000B3400040020000000382204203003FFFFFFFF = m)
    (c : Cause) (h₀ : Within m s₀ s) : Within m s₀ (State.stopCoves s c) := by
  unfold State.stopCoves
  repeat' first
    | with_reducible assumption | with_reducible intro _ | with_reducible apply within_State_coveDown (Mask.sub hm rfl)
    | with_reducible apply within_State_clockStops (Mask.sub hm rfl) | with_reducible refine Within.each ?_ ?_
    | exact Touch.any (Mask.bit hm rfl)

theorem within_State_graveActions {m : Nat} {s₀ s : State}
    (hm : m ||| 0x100000000000000800002000000000F901080E00000870000080000000181E000078006000000001000000020000200000702000B3400140020380000382204203003FFFFFFFF = m)
    (h₀ : Within m s₀ s) : Within m s₀ (State.graveActions s) := by
  unfold State.graveActions
  repeat' first
    | with_reducible assumption | with_reducible intro _ | with_reducible apply within_State_setFld
    | with_reducible apply within_State_forcePins (Mask.sub hm rfl) | with_reducible apply within_State_abortCal (Mask.sub hm rfl)
    | with_reducible apply within_State_abortCals (Mask.sub hm rfl) | with_reducible apply within_State_dropHold (Mask.sub hm rfl)
    | with_reducible apply within_State_stopCoves (Mask.sub hm rfl) | exact touch_DEV_STATE (Mask.bit hm rfl)
    | exact Touch.any (Mask.bit hm rfl)
    | (with_reducible refine Within.mk ?_ ?hk
       case hk => (repeat' apply And.intro) <;> first | with_reducible exact .inr rfl | exact .inl (Mask.bit hm rfl)
       first
        | with_reducible assumption | with_reducible apply within_State_setFld
        | with_reducible apply within_State_forcePins (Mask.sub hm rfl) | with_reducible apply within_State_abortCal (Mask.sub hm rfl)
        | with_reducible apply within_State_abortCals (Mask.sub hm rfl) | with_reducible apply within_State_dropHold (Mask.sub hm rfl)
        | with_reducible apply within_State_stopCoves (Mask.sub hm rfl)
        | (with_reducible refine Within.mk ?_ ?hk
           case hk => (repeat' apply And.intro) <;> first | with_reducible exact .inr rfl | exact .inl (Mask.bit hm rfl)
           first
            | with_reducible assumption | with_reducible apply within_State_setFld
            | with_reducible apply within_State_forcePins (Mask.sub hm rfl)
            | with_reducible apply within_State_abortCal (Mask.sub hm rfl)
            | with_reducible apply within_State_abortCals (Mask.sub hm rfl)
            | with_reducible apply within_State_dropHold (Mask.sub hm rfl)
            | with_reducible apply within_State_stopCoves (Mask.sub hm rfl)))

theorem within_State_classActions {m : Nat} {s₀ s : State}
    (hm : m ||| 0x100000000010000800002000000000F901080F00000870000080000000181E000078006000000001100000020000600020702000B3470340020385C00382204203003FFFFFFFF = m)
    (cls : Nat) (source : Nat) (kind : Nat) (own : Bool) (h₀ : Within m s₀ s) :
    Within m s₀ (State.classActions s cls source kind own) := by
  unfold State.classActions
  repeat' first
    | with_reducible assumption | with_reducible apply within_State_isolate (Mask.sub hm rfl)
    | with_reducible apply within_State_deviceActions (Mask.sub hm rfl)
    | with_reducible apply within_State_graveActions (Mask.sub hm rfl) | with_reducible refine Within.snd (by assumption) ?_
    | with_reducible refine Within.fst (by assumption) ?_ | exact Touch.any (Mask.bit hm rfl) | with_reducible refine Within.ite ?_ ?_
    | split | (extract_lets; split)

theorem within_State_faultEvent {m : Nat} {s₀ s : State} (hm : m ||| 0x4002000000000000000000002000000 = m) (r : FaultRec)
    (h₀ : Within m s₀ s) : Within m s₀ (State.faultEvent s r) := by
  unfold State.faultEvent
  repeat' first
    | with_reducible assumption | with_reducible apply within_State_pushEvent (Mask.sub hm rfl) | with_reducible refine Within.ite ?_ ?_
    | split | (extract_lets; split)

theorem within_State_takeMessage {m : Nat} {s₀ s : State}
    (hm : m ||| 0x100000000010000800002000000000F901080F00000870000080000000181E000078006000000001100000020000600420702000B3470340020385C00382204203003FFFFFFFF = m)
    (m_ : FaultMsg) (cls : Nat) (own : Bool) (h₀ : Within m s₀ s) : Within m s₀ (State.takeMessage s m_ cls own) := by
  unfold State.takeMessage
  repeat' first
    | with_reducible assumption | with_reducible apply within_State_raise | with_reducible apply within_State_fault (Mask.sub hm rfl)
    | with_reducible apply within_State_showAlert (Mask.sub hm rfl) | with_reducible apply within_State_classActions (Mask.sub hm rfl)
    | with_reducible apply within_State_faultEvent (Mask.sub hm rfl) | with_reducible refine Within.snd (by assumption) ?_
    | with_reducible refine Within.fst (by assumption) ?_ | exact touch_FC_STAT (Mask.bit hm rfl) | exact Touch.any (Mask.bit hm rfl)
    | with_reducible refine Within.ite ?_ ?_ | split | (extract_lets; split)
    | (with_reducible refine Within.mk ?_ ?hk
       case hk => (repeat' apply And.intro) <;> first | with_reducible exact .inr rfl | exact .inl (Mask.bit hm rfl)
       first
        | with_reducible assumption | with_reducible apply within_State_raise
        | with_reducible apply within_State_fault (Mask.sub hm rfl) | with_reducible apply within_State_showAlert (Mask.sub hm rfl)
        | with_reducible apply within_State_classActions (Mask.sub hm rfl)
        | with_reducible apply within_State_faultEvent (Mask.sub hm rfl) | with_reducible refine Within.snd (by assumption) ?_
        | with_reducible refine Within.fst (by assumption) ?_ | with_reducible refine Within.ite ?_ ?_ | split | (extract_lets; split)
        | (with_reducible refine Within.mk ?_ ?hk
           case hk => (repeat' apply And.intro) <;> first | with_reducible exact .inr rfl | exact .inl (Mask.bit hm rfl)
           first
            | with_reducible assumption | with_reducible apply within_State_raise
            | with_reducible apply within_State_fault (Mask.sub hm rfl) | with_reducible apply within_State_showAlert (Mask.sub hm rfl)
            | with_reducible apply within_State_classActions (Mask.sub hm rfl)
            | with_reducible apply within_State_faultEvent (Mask.sub hm rfl) | with_reducible refine Within.snd (by assumption) ?_
            | with_reducible refine Within.fst (by assumption) ?_ | with_reducible refine Within.ite ?_ ?_ | split
            | (extract_lets; split)))

theorem within_execFaultMessage {m : Nat} {s₀ s : State}
    (hm : m ||| 0x100000000010000800002000000000F901080F00000870000080000000181E000078006000000001100000020000600420702000B3470340020385C00382204203003FFFFFFFF = m)
    (raised : Option FaultMsg) (h₀ : Within m s₀ s) : AnswersWithin m s₀ (execFaultMessage raised s) := by
  unfold execFaultMessage
  repeat' first
    | with_reducible assumption | with_reducible refine AnswersWithin.next ?_ | with_reducible apply within_State_raise
    | with_reducible apply within_State_fault (Mask.sub hm rfl) | with_reducible apply within_State_takeMessage (Mask.sub hm rfl)
    | with_reducible refine Within.snd (by assumption) ?_ | with_reducible refine Within.fst (by assumption) ?_
    | exact Touch.any (Mask.bit hm rfl) | with_reducible refine Within.ite ?_ ?_ | split | (extract_lets; split)
    | (with_reducible refine Within.mk ?_ ?hk
       case hk => (repeat' apply And.intro) <;> first | with_reducible exact .inr rfl | exact .inl (Mask.bit hm rfl)
       first
        | with_reducible assumption | with_reducible apply within_State_raise
        | with_reducible apply within_State_fault (Mask.sub hm rfl) | with_reducible apply within_State_takeMessage (Mask.sub hm rfl)
        | with_reducible refine Within.snd (by assumption) ?_ | with_reducible refine Within.fst (by assumption) ?_
        | with_reducible refine Within.ite ?_ ?_ | split | (extract_lets; split)
        | (with_reducible refine Within.mk ?_ ?hk
           case hk => (repeat' apply And.intro) <;> first | with_reducible exact .inr rfl | exact .inl (Mask.bit hm rfl)
           first
            | with_reducible assumption | with_reducible apply within_State_raise
            | with_reducible apply within_State_fault (Mask.sub hm rfl)
            | with_reducible apply within_State_takeMessage (Mask.sub hm rfl) | with_reducible refine Within.snd (by assumption) ?_
            | with_reducible refine Within.fst (by assumption) ?_ | with_reducible refine Within.ite ?_ ?_ | split
            | (extract_lets; split)))

theorem within_State_closeRec {m : Nat} {s₀ s : State} (hm : m ||| 0x4000000000000000000000000000000000000108000000 = m)
    (source : Nat) (h₀ : Within m s₀ s) : Within m s₀ (State.closeRec s source) := by
  unfold State.closeRec
  repeat' first
    | with_reducible assumption | with_reducible apply within_State_raise | with_reducible apply within_State_raiseIf
    | with_reducible apply within_State_fault (Mask.sub hm rfl) | with_reducible apply within_State_showAlert (Mask.sub hm rfl)
    | with_reducible refine Within.snd (by assumption) ?_ | with_reducible refine Within.fst (by assumption) ?_
    | exact touch_FC_STAT (Mask.bit hm rfl) | with_reducible refine Within.ite ?_ ?_ | split | (extract_lets; split)
    | (with_reducible refine Within.mk ?_ ?hk
       case hk => (repeat' apply And.intro) <;> first | with_reducible exact .inr rfl | exact .inl (Mask.bit hm rfl)
       first
        | with_reducible assumption | with_reducible apply within_State_raise | with_reducible apply within_State_raiseIf
        | with_reducible apply within_State_fault (Mask.sub hm rfl) | with_reducible apply within_State_showAlert (Mask.sub hm rfl)
        | with_reducible refine Within.snd (by assumption) ?_ | with_reducible refine Within.fst (by assumption) ?_
        | with_reducible refine Within.ite ?_ ?_ | split | (extract_lets; split)
        | (with_reducible refine Within.mk ?_ ?hk
           case hk => (repeat' apply And.intro) <;> first | with_reducible exact .inr rfl | exact .inl (Mask.bit hm rfl)
           first
            | with_reducible assumption | with_reducible apply within_State_raise | with_reducible apply within_State_raiseIf
            | with_reducible apply within_State_fault (Mask.sub hm rfl) | with_reducible apply within_State_showAlert (Mask.sub hm rfl)
            | with_reducible refine Within.snd (by assumption) ?_ | with_reducible refine Within.fst (by assumption) ?_
            | with_reducible refine Within.ite ?_ ?_ | split | (extract_lets; split)))

theorem within_State_fcAck {m : Nat} {s₀ s : State} (hm : m ||| 0x4000000000000000000000000000000000000108000000 = m) (m_ : Master)
    (d : Word) (h₀ : Within m s₀ s) : Within m s₀ (State.fcAck s m_ d) := by
  unfold State.fcAck
  repeat' first
    | with_reducible assumption | with_reducible apply within_State_raise | with_reducible apply within_State_fault (Mask.sub hm rfl)
    | with_reducible apply within_State_closeRec (Mask.sub hm rfl) | with_reducible refine Within.snd (by assumption) ?_
    | with_reducible refine Within.fst (by assumption) ?_ | exact touch_FC_STAT (Mask.bit hm rfl)
    | with_reducible refine Within.ite ?_ ?_ | split | (extract_lets; split)

theorem within_State_fcForce {m : Nat} {s₀ s : State} (hm : m ||| 0x4000000000000000000000000000000000000001000000 = m) (d : Word)
    (h₀ : Within m s₀ s) : Within m s₀ (State.fcForce s d) := by
  unfold State.fcForce
  repeat' first
    | with_reducible assumption | with_reducible apply within_State_raise | with_reducible apply within_State_fault (Mask.sub hm rfl)
    | exact touch_FC_STAT (Mask.bit hm rfl) | with_reducible refine Within.ite ?_ ?_ | split | (extract_lets; split)
    | (with_reducible refine Within.mk ?_ ?hk
       case hk => (repeat' apply And.intro) <;> first | with_reducible exact .inr rfl | exact .inl (Mask.bit hm rfl)
       first
        | with_reducible assumption | with_reducible apply within_State_raise
        | with_reducible apply within_State_fault (Mask.sub hm rfl) | with_reducible refine Within.ite ?_ ?_ | split
        | (extract_lets; split))

theorem within_State_selfCheckFails {m : Nat} {s₀ s : State}
    (hm : m ||| 0x100000000010000800002000000000F901080F00000870000080000000181E000078006000000001100000020000600420702000B3470340020385C00382204203003FFFFFFFF = m)
    (h₀ : Within m s₀ s) : Within m s₀ (State.selfCheckFails s) := by
  unfold State.selfCheckFails
  repeat' first
    | with_reducible assumption | with_reducible apply within_State_takeMessage (Mask.sub hm rfl) | exact Touch.any (Mask.bit hm rfl)

theorem within_execCollectorSelfcheck {m : Nat} {s₀ s : State}
    (hm : m ||| 0x100000000010000800002000000000F901080F00000870000080000000181E000078006000000001100000020000600420702000B3470340020385C00382204203003FFFFFFFF = m)
    (result : Option Bool) (h₀ : Within m s₀ s) : AnswersWithin m s₀ (execCollectorSelfcheck result s) := by
  unfold execCollectorSelfcheck
  repeat' first
    | with_reducible assumption | with_reducible refine AnswersWithin.next ?_ | with_reducible refine AnswersWithin.ite ?_ ?_
    | with_reducible apply Within.advanceTo _ (Mask.bit hm rfl) | with_reducible apply within_State_fault (Mask.sub hm rfl)
    | with_reducible apply within_State_selfCheckFails (Mask.sub hm rfl) | exact Touch.any (Mask.bit hm rfl)
    | with_reducible refine Within.ite ?_ ?_ | split | (extract_lets; split)
    | (with_reducible refine Within.mk ?_ ?hk
       case hk => (repeat' apply And.intro) <;> first | with_reducible exact .inr rfl | exact .inl (Mask.bit hm rfl)
       first
        | with_reducible assumption | with_reducible apply Within.advanceTo _ (Mask.bit hm rfl)
        | with_reducible apply within_State_fault (Mask.sub hm rfl)
        | with_reducible apply within_State_selfCheckFails (Mask.sub hm rfl) | with_reducible refine Within.ite ?_ ?_ | split
        | (extract_lets; split)
        | (with_reducible refine Within.mk ?_ ?hk
           case hk => (repeat' apply And.intro) <;> first | with_reducible exact .inr rfl | exact .inl (Mask.bit hm rfl)
           first
            | with_reducible assumption | with_reducible apply Within.advanceTo _ (Mask.bit hm rfl)
            | with_reducible apply within_State_fault (Mask.sub hm rfl)
            | with_reducible apply within_State_selfCheckFails (Mask.sub hm rfl) | with_reducible refine Within.ite ?_ ?_ | split
            | (extract_lets; split)))

theorem within_execSelfcheckTimeout {m : Nat} {s₀ s : State}
    (hm : m ||| 0x100000000010000800002000000000F901080F00000870000080000000181E000078006000000001100000020000600420702000B3470340020385C00382204203003FFFFFFFF = m)
    (h₀ : Within m s₀ s) : AnswersWithin m s₀ (execSelfcheckTimeout s) := by
  unfold execSelfcheckTimeout
  repeat' first
    | with_reducible assumption | with_reducible refine AnswersWithin.next ?_
    | with_reducible apply Within.advanceTo _ (Mask.bit hm rfl) | with_reducible apply within_State_fault (Mask.sub hm rfl)
    | with_reducible apply within_State_selfCheckFails (Mask.sub hm rfl) | with_reducible refine Within.snd (by assumption) ?_
    | with_reducible refine Within.fst (by assumption) ?_ | exact Touch.any (Mask.bit hm rfl) | with_reducible refine Within.ite ?_ ?_
    | split | (extract_lets; split)
    | (with_reducible refine Within.mk ?_ ?hk
       case hk => (repeat' apply And.intro) <;> first | with_reducible exact .inr rfl | exact .inl (Mask.bit hm rfl)
       first
        | with_reducible assumption | with_reducible apply Within.advanceTo _ (Mask.bit hm rfl)
        | with_reducible apply within_State_fault (Mask.sub hm rfl)
        | with_reducible apply within_State_selfCheckFails (Mask.sub hm rfl) | with_reducible refine Within.snd (by assumption) ?_
        | with_reducible refine Within.fst (by assumption) ?_ | with_reducible refine Within.ite ?_ ?_ | split | (extract_lets; split)
        | (with_reducible refine Within.mk ?_ ?hk
           case hk => (repeat' apply And.intro) <;> first | with_reducible exact .inr rfl | exact .inl (Mask.bit hm rfl)
           first
            | with_reducible assumption | with_reducible apply Within.advanceTo _ (Mask.bit hm rfl)
            | with_reducible apply within_State_fault (Mask.sub hm rfl)
            | with_reducible apply within_State_selfCheckFails (Mask.sub hm rfl) | with_reducible refine Within.snd (by assumption) ?_
            | with_reducible refine Within.fst (by assumption) ?_ | with_reducible refine Within.ite ?_ ?_ | split
            | (extract_lets; split)))

theorem within_execSupplyExcursion {m : Nat} {s₀ s : State} (hm : m ||| 0x5000001 = m) (k : Fin 8) (at_ : Nat) (h₀ : Within m s₀ s) :
    AnswersWithin m s₀ (execSupplyExcursion k at_ s) := by
  unfold execSupplyExcursion
  repeat' first
    | with_reducible assumption | with_reducible refine AnswersWithin.next ?_
    | with_reducible apply Within.advanceTo _ (Mask.bit hm rfl) | with_reducible apply within_State_fault (Mask.sub hm rfl)
    | (with_reducible refine Within.mk ?_ ?hk
       case hk => (repeat' apply And.intro) <;> first | with_reducible exact .inr rfl | exact .inl (Mask.bit hm rfl)
       first
        | with_reducible assumption | with_reducible apply Within.advanceTo _ (Mask.bit hm rfl)
        | with_reducible apply within_State_fault (Mask.sub hm rfl)
        | (with_reducible refine Within.mk ?_ ?hk
           case hk => (repeat' apply And.intro) <;> first | with_reducible exact .inr rfl | exact .inl (Mask.bit hm rfl)
           first
            | with_reducible assumption | with_reducible apply Within.advanceTo _ (Mask.bit hm rfl)
            | with_reducible apply within_State_fault (Mask.sub hm rfl)))

theorem within_execSupplyGrave {m : Nat} {s₀ s : State}
    (hm : m ||| 0x100000000010000800002000000000F901080F00000870000080000000181E000078006000000001100000020000600420702000B3470340020385C00382204203003FFFFFFFF = m)
    (k : Fin 8) (h₀ : Within m s₀ s) : AnswersWithin m s₀ (execSupplyGrave k s) := by
  unfold execSupplyGrave
  repeat' first
    | with_reducible assumption | with_reducible refine AnswersWithin.next ?_
    | with_reducible apply Within.advanceTo _ (Mask.bit hm rfl) | with_reducible apply within_State_takeMessage (Mask.sub hm rfl)
    | with_reducible refine Within.snd (by assumption) ?_ | with_reducible refine Within.fst (by assumption) ?_
    | exact Touch.any (Mask.bit hm rfl) | with_reducible refine Within.ite ?_ ?_ | split | (extract_lets; split)
    | (with_reducible refine Within.mk ?_ ?hk
       case hk => (repeat' apply And.intro) <;> first | with_reducible exact .inr rfl | exact .inl (Mask.bit hm rfl)
       first
        | with_reducible assumption | with_reducible apply Within.advanceTo _ (Mask.bit hm rfl)
        | with_reducible apply within_State_takeMessage (Mask.sub hm rfl) | with_reducible refine Within.snd (by assumption) ?_
        | with_reducible refine Within.fst (by assumption) ?_ | with_reducible refine Within.ite ?_ ?_ | split | (extract_lets; split)
        | (with_reducible refine Within.mk ?_ ?hk
           case hk => (repeat' apply And.intro) <;> first | with_reducible exact .inr rfl | exact .inl (Mask.bit hm rfl)
           first
            | with_reducible assumption | with_reducible apply Within.advanceTo _ (Mask.bit hm rfl)
            | with_reducible apply within_State_takeMessage (Mask.sub hm rfl) | with_reducible refine Within.snd (by assumption) ?_
            | with_reducible refine Within.fst (by assumption) ?_ | with_reducible refine Within.ite ?_ ?_ | split
            | (extract_lets; split)))

end Sys2Proof.Machine
end

