-- ==== Sys2Proof/Laws/ThermalWithin.lean ====
section
/-! SUPPORT. What the definitions of Machine/Thermal.lean keep, and all that they may change (Laws/Within.lean). -/

namespace Sys2Proof.Machine

set_option linter.all false

theorem within_State_selfRefreshKept {m : Nat} {s₀ s : State} (hm : m ||| 0x400000000080040 = m) (h₀ : Within m s₀ s) :
    Within m s₀ (State.selfRefreshKept s) := by
  unfold State.selfRefreshKept
  repeat' first
    | with_reducible assumption | with_reducible intro _ | with_reducible apply within_State_dropSegment (Mask.sub hm rfl)
    | with_reducible refine Within.each ?_ ?_
    | (with_reducible refine Within.mk ?_ ?hk
       case hk => (repeat' apply And.intro) <;> first | with_reducible exact .inr rfl | exact .inl (Mask.bit hm rfl)
       first
        | with_reducible assumption | with_reducible apply within_State_dropSegment (Mask.sub hm rfl)
        | with_reducible refine Within.each ?_ ?_
        | (with_reducible refine Within.mk ?_ ?hk
           case hk => (repeat' apply And.intro) <;> first | with_reducible exact .inr rfl | exact .inl (Mask.bit hm rfl)
           first
            | with_reducible assumption | with_reducible apply within_State_dropSegment (Mask.sub hm rfl)
            | with_reducible refine Within.each ?_ ?_))

theorem within_State_coreOff {m : Nat} {s₀ s : State}
    (hm : m ||| 0x20000030000000000000000000000000000000000000000000000000000000000000000000000020000020000080000140020000000000004000001020AC040 = m)
    (h₀ : Within m s₀ s) : Within m s₀ (State.coreOff s) := by
  unfold State.coreOff
  repeat' first
    | with_reducible assumption | with_reducible intro _ | with_reducible apply within_State_setFld
    | with_reducible apply within_State_setTl (Mask.sub hm rfl) | with_reducible apply within_State_leaveRts (Mask.sub hm rfl)
    | with_reducible apply within_State_dropHold (Mask.sub hm rfl) | with_reducible apply within_State_selfRefreshKept (Mask.sub hm rfl)
    | with_reducible refine Within.each ?_ ?_ | exact touch_DEV_STATE (Mask.bit hm rfl) | exact touch_FC_HELM_STATE (Mask.bit hm rfl)
    | (with_reducible refine Within.mk ?_ ?hk
       case hk => (repeat' apply And.intro) <;> first | with_reducible exact .inr rfl | exact .inl (Mask.bit hm rfl)
       first
        | with_reducible assumption | with_reducible apply within_State_setFld
        | with_reducible apply within_State_setTl (Mask.sub hm rfl) | with_reducible apply within_State_leaveRts (Mask.sub hm rfl)
        | with_reducible apply within_State_dropHold (Mask.sub hm rfl)
        | with_reducible apply within_State_selfRefreshKept (Mask.sub hm rfl) | with_reducible refine Within.each ?_ ?_)

theorem within_State_showMax {m : Nat} {s₀ s : State} (hm : m ||| 0x10000000000000000000000000000000000000000000000000 = m)
    (h₀ : Within m s₀ s) : Within m s₀ (State.showMax s) := by
  unfold State.showMax
  repeat' first
    | with_reducible assumption | with_reducible apply Within.wr | with_reducible refine Within.snd (by assumption) ?_
    | with_reducible refine Within.fst (by assumption) ?_ | exact touch_TH_MAX (Mask.bit hm rfl)
    | with_reducible refine Within.ite ?_ ?_ | split | (extract_lets; split)

theorem within_State_enterWarn {m : Nat} {s₀ s : State} (hm : m ||| 0x40000000000000000000000000000000000000000001000000 = m)
    (h₀ : Within m s₀ s) : Within m s₀ (State.enterWarn s) := by
  unfold State.enterWarn
  repeat' first
    | with_reducible assumption | with_reducible apply within_State_raise | with_reducible apply within_State_fault (Mask.sub hm rfl)
    | exact touch_TH_STAT (Mask.bit hm rfl)

theorem within_State_enterHalt {m : Nat} {s₀ s : State}
    (hm : m ||| 0x100000000000000800002000000000F901080E00000870000080000000181E000078002000000001000000020004200000702000B3400040020380000382204203003FFFFFFFF = m)
    (h₀ : Within m s₀ s) : Within m s₀ (State.enterHalt s) := by
  unfold State.enterHalt
  repeat' first
    | with_reducible assumption | with_reducible apply within_State_raise | with_reducible apply within_State_fault (Mask.sub hm rfl)
    | with_reducible apply within_State_life (Mask.sub hm rfl) | with_reducible apply within_State_raiseAll (Mask.sub hm rfl)
    | with_reducible apply within_State_abortCal (Mask.sub hm rfl) | with_reducible apply within_State_abortCals (Mask.sub hm rfl)
    | exact touch_TH_STAT (Mask.bit hm rfl) | exact Touch.any (Mask.bit hm rfl)
    | (with_reducible refine Within.mk ?_ ?hk
       case hk => (repeat' apply And.intro) <;> first | with_reducible exact .inr rfl | exact .inl (Mask.bit hm rfl)
       first
        | with_reducible assumption | with_reducible apply within_State_raise
        | with_reducible apply within_State_fault (Mask.sub hm rfl) | with_reducible apply within_State_life (Mask.sub hm rfl)
        | with_reducible apply within_State_raiseAll (Mask.sub hm rfl) | with_reducible apply within_State_abortCal (Mask.sub hm rfl)
        | with_reducible apply within_State_abortCals (Mask.sub hm rfl)
        | (with_reducible refine Within.mk ?_ ?hk
           case hk => (repeat' apply And.intro) <;> first | with_reducible exact .inr rfl | exact .inl (Mask.bit hm rfl)
           first
            | with_reducible assumption | with_reducible apply within_State_raise
            | with_reducible apply within_State_fault (Mask.sub hm rfl) | with_reducible apply within_State_life (Mask.sub hm rfl)
            | with_reducible apply within_State_raiseAll (Mask.sub hm rfl)
            | with_reducible apply within_State_abortCal (Mask.sub hm rfl)
            | with_reducible apply within_State_abortCals (Mask.sub hm rfl)))

theorem within_State_enterShutdown {m : Nat} {s₀ s : State}
    (hm : m ||| 0x100000000000002800003000000000F901080E00000870000080000000181E000078006000000001000000020004200000702000B3400140020380000382204203003FFFFFFFF = m)
    (h₀ : Within m s₀ s) : Within m s₀ (State.enterShutdown s) := by
  unfold State.enterShutdown
  repeat' first
    | with_reducible assumption | with_reducible intro _ | with_reducible apply within_State_raise
    | with_reducible apply within_State_fault (Mask.sub hm rfl) | with_reducible apply within_State_life (Mask.sub hm rfl)
    | with_reducible apply within_State_forcePins (Mask.sub hm rfl) | with_reducible apply within_State_abortCal (Mask.sub hm rfl)
    | with_reducible apply within_State_abortCals (Mask.sub hm rfl) | with_reducible apply within_State_stopCoves (Mask.sub hm rfl)
    | with_reducible apply within_State_coreOff (Mask.sub hm rfl) | exact touch_TH_STAT (Mask.bit hm rfl)
    | exact Touch.any (Mask.bit hm rfl)
    | (with_reducible refine Within.mk ?_ ?hk
       case hk => (repeat' apply And.intro) <;> first | with_reducible exact .inr rfl | exact .inl (Mask.bit hm rfl)
       first
        | with_reducible assumption | with_reducible apply within_State_raise
        | with_reducible apply within_State_fault (Mask.sub hm rfl) | with_reducible apply within_State_life (Mask.sub hm rfl)
        | with_reducible apply within_State_forcePins (Mask.sub hm rfl) | with_reducible apply within_State_abortCal (Mask.sub hm rfl)
        | with_reducible apply within_State_abortCals (Mask.sub hm rfl) | with_reducible apply within_State_stopCoves (Mask.sub hm rfl)
        | with_reducible apply within_State_coreOff (Mask.sub hm rfl)
        | (with_reducible refine Within.mk ?_ ?hk
           case hk => (repeat' apply And.intro) <;> first | with_reducible exact .inr rfl | exact .inl (Mask.bit hm rfl)
           first
            | with_reducible assumption | with_reducible apply within_State_raise
            | with_reducible apply within_State_fault (Mask.sub hm rfl) | with_reducible apply within_State_life (Mask.sub hm rfl)
            | with_reducible apply within_State_forcePins (Mask.sub hm rfl)
            | with_reducible apply within_State_abortCal (Mask.sub hm rfl)
            | with_reducible apply within_State_abortCals (Mask.sub hm rfl)
            | with_reducible apply within_State_stopCoves (Mask.sub hm rfl)
            | with_reducible apply within_State_coreOff (Mask.sub hm rfl)))

theorem within_State_takeLevel {m : Nat} {s₀ s : State}
    (hm : m ||| 0x100000000000002800003000000000F901080E00000870000080000000181E000078006000000001000000020006200000702000B3400140020380000382204203003FFFFFFFF = m)
    (old : Nat) (new : Nat) (h₀ : Within m s₀ s) : Within m s₀ (State.takeLevel s old new) := by
  unfold State.takeLevel
  repeat' first
    | with_reducible assumption | with_reducible apply Within.send _ (Mask.bit hm rfl) | with_reducible apply within_State_setFld
    | with_reducible apply within_State_enterWarn (Mask.sub hm rfl) | with_reducible apply within_State_enterHalt (Mask.sub hm rfl)
    | with_reducible apply within_State_enterShutdown (Mask.sub hm rfl) | exact touch_TH_STATE (Mask.bit hm rfl)
    | exact Touch.any (Mask.bit hm rfl) | with_reducible refine Within.ite ?_ ?_ | split | (extract_lets; split)

theorem within_State_noteCool {m : Nat} {s₀ s : State} (hm : m ||| 0x20000000000000000000000000000000000000000010000000 = m)
    (h₀ : Within m s₀ s) : Within m s₀ (State.noteCool s) := by
  unfold State.noteCool
  repeat' first
    | with_reducible assumption | with_reducible apply within_State_setFld | exact touch_TH_STATE (Mask.bit hm rfl)
    | with_reducible refine Within.ite ?_ ?_ | split | (extract_lets; split)
    | (with_reducible refine Within.mk ?_ ?hk
       case hk => (repeat' apply And.intro) <;> first | with_reducible exact .inr rfl | exact .inl (Mask.bit hm rfl)
       first
        | with_reducible assumption | with_reducible apply within_State_setFld | with_reducible refine Within.ite ?_ ?_ | split
        | (extract_lets; split)
        | (with_reducible refine Within.mk ?_ ?hk
           case hk => (repeat' apply And.intro) <;> first | with_reducible exact .inr rfl | exact .inl (Mask.bit hm rfl)
           first
            | with_reducible assumption | with_reducible apply within_State_setFld | with_reducible refine Within.ite ?_ ?_ | split
            | (extract_lets; split)))

theorem within_State_thermalUpdate {m : Nat} {s₀ s : State}
    (hm : m ||| 0x100000000000002800003000000000F901080E00000870000080000000181E000078006000000001000000020007200000702000B3400140020380000382204203003FFFFFFFF = m)
    (h₀ : Within m s₀ s) : Within m s₀ (State.thermalUpdate s) := by
  unfold State.thermalUpdate
  repeat' first
    | with_reducible assumption | with_reducible apply within_State_showMax (Mask.sub hm rfl)
    | with_reducible apply within_State_takeLevel (Mask.sub hm rfl) | with_reducible apply within_State_noteCool (Mask.sub hm rfl)
    | exact Touch.any (Mask.bit hm rfl)

theorem within_execSensorRead {m : Nat} {s₀ s : State}
    (hm : m ||| 0x100000000000002800003000000000F901080E00000870000080000000181E000078006000000001000000020007200000702000B3400140020380000382204203003FFFFFFFF = m)
    (ok : Bool) (raw : BitVec 16) (h₀ : Within m s₀ s) : AnswersWithin m s₀ (execSensorRead ok raw s) := by
  unfold execSensorRead
  repeat' first
    | with_reducible assumption | with_reducible refine AnswersWithin.next ?_ | with_reducible refine AnswersWithin.ite ?_ ?_
    | with_reducible apply Within.advanceTo _ (Mask.bit hm rfl) | with_reducible apply within_State_setFld
    | with_reducible apply within_State_raise | with_reducible apply within_State_fault (Mask.sub hm rfl)
    | with_reducible apply within_State_thermalUpdate (Mask.sub hm rfl) | exact touch_TH_SENS (Mask.bit hm rfl) _ (by omega)
    | exact touch_TH_STAT (Mask.bit hm rfl) | exact Touch.any (Mask.bit hm rfl) | with_reducible refine Within.ite ?_ ?_ | split
    | (extract_lets; split)
    | (with_reducible refine Within.mk ?_ ?hk
       case hk => (repeat' apply And.intro) <;> first | with_reducible exact .inr rfl | exact .inl (Mask.bit hm rfl)
       first
        | with_reducible assumption | with_reducible apply Within.advanceTo _ (Mask.bit hm rfl)
        | with_reducible apply within_State_setFld | with_reducible apply within_State_raise
        | with_reducible apply within_State_fault (Mask.sub hm rfl) | with_reducible apply within_State_thermalUpdate (Mask.sub hm rfl)
        | with_reducible refine Within.ite ?_ ?_ | split | (extract_lets; split)
        | (with_reducible refine Within.mk ?_ ?hk
           case hk => (repeat' apply And.intro) <;> first | with_reducible exact .inr rfl | exact .inl (Mask.bit hm rfl)
           first
            | with_reducible assumption | with_reducible apply Within.advanceTo _ (Mask.bit hm rfl)
            | with_reducible apply within_State_setFld | with_reducible apply within_State_raise
            | with_reducible apply within_State_fault (Mask.sub hm rfl)
            | with_reducible apply within_State_thermalUpdate (Mask.sub hm rfl) | with_reducible refine Within.ite ?_ ?_ | split
            | (extract_lets; split)))

theorem within_execThermalHaltDeadline {m : Nat} {s₀ s : State} (hm : m ||| 0x10000001 = m) (h₀ : Within m s₀ s) :
    AnswersWithin m s₀ (execThermalHaltDeadline s) := by
  unfold execThermalHaltDeadline
  repeat' first
    | with_reducible assumption | with_reducible refine AnswersWithin.next ?_
    | with_reducible apply Within.advanceTo _ (Mask.bit hm rfl) | with_reducible refine Within.snd (by assumption) ?_
    | with_reducible refine Within.fst (by assumption) ?_ | with_reducible refine Within.ite ?_ ?_ | split | (extract_lets; split)
    | (with_reducible refine Within.mk ?_ ?hk
       case hk => (repeat' apply And.intro) <;> first | with_reducible exact .inr rfl | exact .inl (Mask.bit hm rfl)
       first
        | with_reducible assumption | with_reducible apply Within.advanceTo _ (Mask.bit hm rfl)
        | with_reducible refine Within.snd (by assumption) ?_ | with_reducible refine Within.fst (by assumption) ?_
        | with_reducible refine Within.ite ?_ ?_ | split | (extract_lets; split)
        | (with_reducible refine Within.mk ?_ ?hk
           case hk => (repeat' apply And.intro) <;> first | with_reducible exact .inr rfl | exact .inl (Mask.bit hm rfl)
           first
            | with_reducible assumption | with_reducible apply Within.advanceTo _ (Mask.bit hm rfl)
            | with_reducible refine Within.snd (by assumption) ?_ | with_reducible refine Within.fst (by assumption) ?_
            | with_reducible refine Within.ite ?_ ?_ | split | (extract_lets; split)))

theorem within_State_thExclude {m : Nat} {s₀ s : State}
    (hm : m ||| 0x100000000010002800003000000000F901080E00000870000080000000181E00007800600000000110000002000F200000702000B3400140020385C00382204203003FFFFFFFF = m)
    (v : Word) (h₀ : Within m s₀ s) : Within m s₀ (State.thExclude s v) := by
  unfold State.thExclude
  repeat' first
    | with_reducible assumption | with_reducible intro _ | with_reducible apply within_State_setFld
    | with_reducible apply within_State_raise | with_reducible apply within_State_engineFails (Mask.sub hm rfl)
    | with_reducible apply within_State_thermalUpdate (Mask.sub hm rfl) | with_reducible refine Within.each ?_ ?_
    | with_reducible refine Within.foldl _ ?_ ?_ | with_reducible refine Within.foldlFst _ ?_ ?_
    | with_reducible refine Within.foldlSnd _ ?_ ?_ | exact touch_TH_EXCLUDE (Mask.bit hm rfl)
    | exact touch_TH_SENS (Mask.bit hm rfl) _ (by omega) | exact touch_TH_STAT (Mask.bit hm rfl) | exact Touch.any (Mask.bit hm rfl)
    | with_reducible refine Within.ite ?_ ?_ | split | (extract_lets; split)

end Sys2Proof.Machine
end

