-- ==== Sys2Proof/Laws/SelfTestWithin.lean ====
section
/-! SUPPORT. What the definitions of Machine/SelfTest.lean keep, and all that they may change (Laws/Within.lean). -/

namespace Sys2Proof.Machine

set_option linter.all false

theorem within_State_lendLane {m : Nat} {s₀ s : State} (hm : m ||| 0x200000000000000000000000000000000000000200000 = m) (k : Nat)
    (h₀ : Within m s₀ s) : Within m s₀ (State.lendLane s k) := by
  unfold State.lendLane
  repeat' first
    | with_reducible assumption | with_reducible apply within_State_setFld
    | with_reducible apply within_State_laneTakes (Mask.sub hm rfl) | exact touch_BI_LANE (Mask.bit hm rfl)

theorem within_State_rtStart {m : Nat} {s₀ s : State}
    (hm : m ||| 0x80000000000000000000000000001200000000000000000000000000000000000004200000 = m) (d : Word) (h₀ : Within m s₀ s) :
    Within m s₀ (State.rtStart s d) := by
  unfold State.rtStart
  repeat' first
    | with_reducible assumption | with_reducible apply Within.wr | with_reducible apply within_State_setFld
    | with_reducible apply within_State_raise | with_reducible apply within_State_setSqState (Mask.sub hm rfl)
    | with_reducible apply within_State_lendLane (Mask.sub hm rfl) | with_reducible refine Within.snd (by assumption) ?_
    | with_reducible refine Within.fst (by assumption) ?_ | exact touch_BI_RT_STAT (Mask.bit hm rfl)
    | with_reducible refine Within.ite ?_ ?_ | split | (extract_lets; split)
    | (with_reducible refine Within.mk ?_ ?hk
       case hk => (repeat' apply And.intro) <;> first | with_reducible exact .inr rfl | exact .inl (Mask.bit hm rfl)
       first
        | with_reducible assumption | with_reducible apply Within.wr | with_reducible apply within_State_setFld
        | with_reducible apply within_State_raise | with_reducible apply within_State_setSqState (Mask.sub hm rfl)
        | with_reducible apply within_State_lendLane (Mask.sub hm rfl) | with_reducible refine Within.snd (by assumption) ?_
        | with_reducible refine Within.fst (by assumption) ?_ | with_reducible refine Within.ite ?_ ?_ | split | (extract_lets; split)
        | (with_reducible refine Within.mk ?_ ?hk
           case hk => (repeat' apply And.intro) <;> first | with_reducible exact .inr rfl | exact .inl (Mask.bit hm rfl)
           first
            | with_reducible assumption | with_reducible apply Within.wr | with_reducible apply within_State_setFld
            | with_reducible apply within_State_raise | with_reducible apply within_State_setSqState (Mask.sub hm rfl)
            | with_reducible apply within_State_lendLane (Mask.sub hm rfl) | with_reducible refine Within.snd (by assumption) ?_
            | with_reducible refine Within.fst (by assumption) ?_ | with_reducible refine Within.ite ?_ ?_ | split
            | (extract_lets; split)))

theorem within_State_rtCommand {m : Nat} {s₀ s : State}
    (hm : m ||| 0x80000000000000000000000000001200000000000000000000000000000000000004200000 = m) (d : Word) (h₀ : Within m s₀ s) :
    Within m s₀ (State.rtCommand s d) := by
  unfold State.rtCommand
  repeat' first
    | with_reducible assumption | with_reducible apply within_State_rtStart (Mask.sub hm rfl) | with_reducible refine Within.ite ?_ ?_
    | split | (extract_lets; split)
    | (with_reducible refine Within.mk ?_ ?hk
       case hk => (repeat' apply And.intro) <;> first | with_reducible exact .inr rfl | exact .inl (Mask.bit hm rfl)
       first
        | with_reducible assumption | with_reducible apply within_State_rtStart (Mask.sub hm rfl)
        | with_reducible refine Within.ite ?_ ?_ | split | (extract_lets; split)
        | (with_reducible refine Within.mk ?_ ?hk
           case hk => (repeat' apply And.intro) <;> first | with_reducible exact .inr rfl | exact .inl (Mask.bit hm rfl)
           first
            | with_reducible assumption | with_reducible apply within_State_rtStart (Mask.sub hm rfl)
            | with_reducible refine Within.ite ?_ ?_ | split | (extract_lets; split)))

theorem within_State_testedCauses {m : Nat} {s₀ s : State}
    (hm : m ||| 0x800002000000000F901080E00000870000080000000181E000078002000000001000000020000200000702000B3400040020000000382204203003FFFFFFFF = m)
    (k : Nat) (was : Nat) (causes : List Cause) (h₀ : Within m s₀ s) : Within m s₀ (State.testedCauses s k was causes) := by
  unfold State.testedCauses
  repeat' first
    | with_reducible assumption | with_reducible apply within_State_setFld | with_reducible apply within_State_raise
    | with_reducible apply within_State_setSqState (Mask.sub hm rfl) | with_reducible apply within_State_haltDone (Mask.sub hm rfl)
    | with_reducible apply within_State_raiseStop (Mask.sub hm rfl) | exact touch_SQ_STATE (Mask.bit hm rfl) _
    | exact Touch.any (Mask.bit hm rfl) | with_reducible refine Within.ite ?_ ?_ | split | (extract_lets; split)

theorem within_State_testedEngine {m : Nat} {s₀ s : State}
    (hm : m ||| 0x10000000000000000000000000000000000000000000000000000000000000000000001000000000000001000000000000000000000540000000000000000400000 = m)
    (e : Nat) (subst : Bool) (h₀ : Within m s₀ s) : Within m s₀ (State.testedEngine s e subst) := by
  unfold State.testedEngine
  repeat' first
    | with_reducible assumption | with_reducible apply within_State_setFld
    | with_reducible apply within_State_setHealth (Mask.sub hm rfl) | with_reducible apply within_State_giveReserve (Mask.sub hm rfl)
    | with_reducible refine Within.snd (by assumption) ?_ | with_reducible refine Within.fst (by assumption) ?_
    | exact touch_BI_RT_STAT (Mask.bit hm rfl) | with_reducible refine Within.ite ?_ ?_ | split | (extract_lets; split)

theorem within_State_strandless {m : Nat} {s₀ s : State}
    (hm : m ||| 0x10000800002000000000F901080E00000870000080000000181E000078002000000001100000020000200000702000B3400040020001400382204203003FFFFFFFF = m)
    (k : Nat) (h₀ : Within m s₀ s) : Within m s₀ (State.strandless s k) := by
  unfold State.strandless
  repeat' first
    | with_reducible assumption | with_reducible apply within_State_noEngine (Mask.sub hm rfl)
    | with_reducible refine Within.snd (by assumption) ?_ | with_reducible refine Within.fst (by assumption) ?_
    | exact Touch.any (Mask.bit hm rfl) | with_reducible refine Within.ite ?_ ?_ | split | (extract_lets; split)

theorem within_State_testedLane {m : Nat} {s₀ s : State} (hm : m ||| 0x200000000000000000000000000000000000000000000 = m) (k : Nat)
    (ok : Bool) (h₀ : Within m s₀ s) : Within m s₀ (State.testedLane s k ok) := by
  unfold State.testedLane
  repeat' first
    | with_reducible assumption | with_reducible apply within_State_setFld | exact touch_BI_LANE (Mask.bit hm rfl)
    | with_reducible refine Within.ite ?_ ?_ | split | (extract_lets; split)

theorem within_State_testOutcome {m : Nat} {s₀ s : State}
    (hm : m ||| 0x100008000020000000000000000000000000000000000000000000000000000000000010000000000000012000000033400000000005C000000000000010141C040 = m)
    (t : RtTest) (r : Nat) (h₀ : Within m s₀ s) : Within m s₀ (State.testOutcome s t r) := by
  unfold State.testOutcome
  repeat' first
    | with_reducible assumption | with_reducible intro _ | with_reducible apply within_State_setFld
    | with_reducible apply within_State_raise | with_reducible apply within_State_modStrand (Mask.sub hm rfl)
    | with_reducible apply within_State_fault (Mask.sub hm rfl) | with_reducible apply within_State_healthChanged (Mask.sub hm rfl)
    | with_reducible apply within_State_setHealth (Mask.sub hm rfl) | with_reducible apply within_State_testedEngine (Mask.sub hm rfl)
    | with_reducible apply within_State_testedLane (Mask.sub hm rfl) | with_reducible refine Within.snd (by assumption) ?_
    | with_reducible refine Within.fst (by assumption) ?_ | exact touch_BI_RT_STAT (Mask.bit hm rfl)
    | with_reducible refine Within.ite ?_ ?_ | split | (extract_lets; split)
    | (with_reducible refine Within.mk ?_ ?hk
       case hk => (repeat' apply And.intro) <;> first | with_reducible exact .inr rfl | exact .inl (Mask.bit hm rfl)
       first
        | with_reducible assumption | with_reducible apply within_State_setFld | with_reducible apply within_State_raise
        | with_reducible apply within_State_modStrand (Mask.sub hm rfl) | with_reducible apply within_State_fault (Mask.sub hm rfl)
        | with_reducible apply within_State_healthChanged (Mask.sub hm rfl)
        | with_reducible apply within_State_setHealth (Mask.sub hm rfl)
        | with_reducible apply within_State_testedEngine (Mask.sub hm rfl)
        | with_reducible apply within_State_testedLane (Mask.sub hm rfl) | with_reducible refine Within.snd (by assumption) ?_
        | with_reducible refine Within.fst (by assumption) ?_ | with_reducible refine Within.ite ?_ ?_ | split | (extract_lets; split)
        | (with_reducible refine Within.mk ?_ ?hk
           case hk => (repeat' apply And.intro) <;> first | with_reducible exact .inr rfl | exact .inl (Mask.bit hm rfl)
           first
            | with_reducible assumption | with_reducible apply within_State_setFld | with_reducible apply within_State_raise
            | with_reducible apply within_State_modStrand (Mask.sub hm rfl) | with_reducible apply within_State_fault (Mask.sub hm rfl)
            | with_reducible apply within_State_healthChanged (Mask.sub hm rfl)
            | with_reducible apply within_State_setHealth (Mask.sub hm rfl)
            | with_reducible apply within_State_testedEngine (Mask.sub hm rfl)
            | with_reducible apply within_State_testedLane (Mask.sub hm rfl) | with_reducible refine Within.snd (by assumption) ?_
            | with_reducible refine Within.fst (by assumption) ?_ | with_reducible refine Within.ite ?_ ?_ | split
            | (extract_lets; split)))

end Sys2Proof.Machine
end

