-- ==== Sys2Proof/Laws/CtlStoreWithin.lean ====
section
/-! SUPPORT. What the definitions of Machine/CtlStore.lean keep, and all that they may change (Laws/Within.lean). -/

namespace Sys2Proof.Machine

set_option linter.all false

theorem within_State_stageAdvance {m : Nat} {s₀ s : State} (hm : m ||| 0x8000000000000000000000000000000000000000000000000000 = m)
    (h₀ : Within m s₀ s) : Within m s₀ (State.stageAdvance s) := by
  unfold State.stageAdvance
  repeat' first
    | with_reducible assumption | with_reducible apply within_State_setFld | exact touch_CS_STAGE_ADDR (Mask.bit hm rfl)
    | with_reducible refine Within.ite ?_ ?_ | split | (extract_lets; split)

theorem within_State_stageWrite {m : Nat} {s₀ s : State} (hm : m ||| 0x8000000000000000000000000000000000000000000020000000 = m)
    (v : Word) (h₀ : Within m s₀ s) : Within m s₀ (State.stageWrite s v) := by
  unfold State.stageWrite
  repeat' first
    | with_reducible assumption | with_reducible apply within_State_stageAdvance (Mask.sub hm rfl)
    | with_reducible refine Within.ite ?_ ?_ | split | (extract_lets; split)
    | (with_reducible refine Within.mk ?_ ?hk
       case hk => (repeat' apply And.intro) <;> first | with_reducible exact .inr rfl | exact .inl (Mask.bit hm rfl)
       first
        | with_reducible assumption | with_reducible apply within_State_stageAdvance (Mask.sub hm rfl)
        | with_reducible refine Within.ite ?_ ?_ | split | (extract_lets; split)
        | (with_reducible refine Within.mk ?_ ?hk
           case hk => (repeat' apply And.intro) <;> first | with_reducible exact .inr rfl | exact .inl (Mask.bit hm rfl)
           first
            | with_reducible assumption | with_reducible apply within_State_stageAdvance (Mask.sub hm rfl)
            | with_reducible refine Within.ite ?_ ?_ | split | (extract_lets; split)))

theorem within_State_startOp {m : Nat} {s₀ s : State} (hm : m ||| 0x40000000 = m) (h₀ : Within m s₀ s) :
    Within m s₀ (State.startOp s) := by
  unfold State.startOp
  repeat' first
    | with_reducible assumption | with_reducible refine Within.snd (by assumption) ?_
    | with_reducible refine Within.fst (by assumption) ?_ | with_reducible refine Within.ite ?_ ?_ | split | (extract_lets; split)
    | (with_reducible refine Within.mk ?_ ?hk
       case hk => (repeat' apply And.intro) <;> first | with_reducible exact .inr rfl | exact .inl (Mask.bit hm rfl)
       first
        | with_reducible assumption | with_reducible refine Within.snd (by assumption) ?_
        | with_reducible refine Within.fst (by assumption) ?_ | with_reducible refine Within.ite ?_ ?_ | split | (extract_lets; split)
        | (with_reducible refine Within.mk ?_ ?hk
           case hk => (repeat' apply And.intro) <;> first | with_reducible exact .inr rfl | exact .inl (Mask.bit hm rfl)
           first
            | with_reducible assumption | with_reducible refine Within.snd (by assumption) ?_
            | with_reducible refine Within.fst (by assumption) ?_ | with_reducible refine Within.ite ?_ ?_ | split
            | (extract_lets; split)))

theorem within_State_pushOp {m : Nat} {s₀ s : State} (hm : m ||| 0x40000000 = m) (o : FlashOp) (h₀ : Within m s₀ s) :
    Within m s₀ (State.pushOp s o) := by
  unfold State.pushOp
  repeat' first
    | with_reducible assumption | with_reducible apply within_State_startOp (Mask.sub hm rfl)
    | (with_reducible refine Within.mk ?_ ?hk
       case hk => (repeat' apply And.intro) <;> first | with_reducible exact .inr rfl | exact .inl (Mask.bit hm rfl)
       first
        | with_reducible assumption | with_reducible apply within_State_startOp (Mask.sub hm rfl)
        | (with_reducible refine Within.mk ?_ ?hk
           case hk => (repeat' apply And.intro) <;> first | with_reducible exact .inr rfl | exact .inl (Mask.bit hm rfl)
           first
            | with_reducible assumption | with_reducible apply within_State_startOp (Mask.sub hm rfl)))

theorem within_State_popOp {m : Nat} {s₀ s : State} (hm : m ||| 0x40000000 = m) (h₀ : Within m s₀ s) : Within m s₀ (State.popOp s) := by
  unfold State.popOp
  repeat' first
    | with_reducible assumption | with_reducible apply within_State_startOp (Mask.sub hm rfl)
    | (with_reducible refine Within.mk ?_ ?hk
       case hk => (repeat' apply And.intro) <;> first | with_reducible exact .inr rfl | exact .inl (Mask.bit hm rfl)
       first
        | with_reducible assumption | with_reducible apply within_State_startOp (Mask.sub hm rfl)
        | (with_reducible refine Within.mk ?_ ?hk
           case hk => (repeat' apply And.intro) <;> first | with_reducible exact .inr rfl | exact .inl (Mask.bit hm rfl)
           first
            | with_reducible assumption | with_reducible apply within_State_startOp (Mask.sub hm rfl)))

theorem within_State_csEnds {m : Nat} {s₀ s : State} (hm : m ||| 0xC00000000000000000000000000000000000000000000000000 = m)
    (cmd : Nat) (code : Nat) (bad : Nat) (h₀ : Within m s₀ s) : Within m s₀ (State.csEnds s cmd code bad) := by
  unfold State.csEnds
  repeat' first
    | with_reducible assumption | with_reducible apply Within.wr | with_reducible apply within_State_raise
    | with_reducible apply within_State_raiseIf | exact touch_CS_RES (Mask.bit hm rfl) | exact touch_CS_STAT (Mask.bit hm rfl)

theorem within_State_csCommand {m : Nat} {s₀ s : State} (hm : m ||| 0xC00000000000000000000000000000000000000000060000000 = m)
    (d : Word) (h₀ : Within m s₀ s) : Within m s₀ (State.csCommand s d) := by
  unfold State.csCommand
  repeat' first
    | with_reducible assumption | with_reducible apply within_State_raise | with_reducible apply within_State_pushOp (Mask.sub hm rfl)
    | with_reducible apply within_State_csEnds (Mask.sub hm rfl) | with_reducible refine Within.snd (by assumption) ?_
    | with_reducible refine Within.fst (by assumption) ?_ | exact touch_CS_STAT (Mask.bit hm rfl)
    | with_reducible refine Within.ite ?_ ?_ | split | (extract_lets; split)
    | (with_reducible refine Within.mk ?_ ?hk
       case hk => (repeat' apply And.intro) <;> first | with_reducible exact .inr rfl | exact .inl (Mask.bit hm rfl)
       first
        | with_reducible assumption | with_reducible apply within_State_raise
        | with_reducible apply within_State_pushOp (Mask.sub hm rfl) | with_reducible apply within_State_csEnds (Mask.sub hm rfl)
        | with_reducible refine Within.snd (by assumption) ?_ | with_reducible refine Within.fst (by assumption) ?_
        | with_reducible refine Within.ite ?_ ?_ | split | (extract_lets; split)
        | (with_reducible refine Within.mk ?_ ?hk
           case hk => (repeat' apply And.intro) <;> first | with_reducible exact .inr rfl | exact .inl (Mask.bit hm rfl)
           first
            | with_reducible assumption | with_reducible apply within_State_raise
            | with_reducible apply within_State_pushOp (Mask.sub hm rfl) | with_reducible apply within_State_csEnds (Mask.sub hm rfl)
            | with_reducible refine Within.snd (by assumption) ?_ | with_reducible refine Within.fst (by assumption) ?_
            | with_reducible refine Within.ite ?_ ?_ | split | (extract_lets; split)))

theorem within_State_showPatch {m : Nat} {s₀ s : State} (hm : m ||| 0x20000000000000000000000000000000000000000000200000000 = m)
    (b : List Byte) (h₀ : Within m s₀ s) : Within m s₀ (State.showPatch s b) := by
  unfold State.showPatch
  repeat' first
    | with_reducible assumption | with_reducible intro _ | with_reducible apply Within.wr | with_reducible refine Within.each ?_ ?_
    | with_reducible refine Within.foldl _ ?_ ?_ | with_reducible refine Within.foldlFst _ ?_ ?_
    | with_reducible refine Within.foldlSnd _ ?_ ?_ | with_reducible refine Within.snd (by assumption) ?_
    | with_reducible refine Within.fst (by assumption) ?_ | exact touch_CS_PATCH (Mask.bit hm rfl)
    | exact touch_CS_PATCH_ADDR (Mask.bit hm rfl) _ (by omega) | exact Touch.any (Mask.bit hm rfl)
    | with_reducible refine Within.ite ?_ ?_ | split | (extract_lets; split)

theorem within_State_showVersion {m : Nat} {s₀ s : State}
    (hm : m ||| 0x20000000000000000000000000000000000000000000000000000000000000000000000000000000200000000000000000000000000000000000000000000000004 = m)
    (ver : Nat) (rt : Bool) (slot : Nat) (bad : List Nat) (h₀ : Within m s₀ s) : Within m s₀ (State.showVersion s ver rt slot bad) := by
  unfold State.showVersion
  repeat' first
    | with_reducible assumption | with_reducible intro _ | with_reducible apply Within.wr
    | with_reducible apply Within.free (Mask.bit hm rfl) | with_reducible apply within_State_setFld
    | with_reducible refine Within.each ?_ ?_ | with_reducible refine Within.snd (by assumption) ?_
    | with_reducible refine Within.fst (by assumption) ?_ | exact touch_CS_UCODE_VER (Mask.bit hm rfl)
    | exact touch_RE_UCODE_VER (Mask.bit hm rfl) _ | with_reducible refine Within.ite ?_ ?_ | split | (extract_lets; split)

theorem within_State_readBack {m : Nat} {s₀ s : State}
    (hm : m ||| 0x10000800002000000000F901080E00000870000080000000181E000078002000000001100000020040200000702000B3400040020005C00382204203003FFFFFFFF = m)
    (bad : List Nat) (h₀ : Within m s₀ s) : Within m s₀ (State.readBack s bad) := by
  unfold State.readBack
  repeat' first
    | with_reducible assumption | with_reducible intro _ | with_reducible apply within_State_satAdd
    | with_reducible apply within_State_engineFails (Mask.sub hm rfl) | with_reducible refine Within.each ?_ ?_
    | exact touch_CS_STAT (Mask.bit hm rfl) | exact Touch.any (Mask.bit hm rfl)

theorem within_State_baseLoaded {m : Nat} {s₀ s : State}
    (hm : m ||| 0x30000800002000000000F901080E00000870000080000000181E000078002000000001100000022060200000702000B3400040020005C00382204203003FFFFFFFF = m)
    (slot : Nat) (b : List Byte) (bad : List Nat) (h₀ : Within m s₀ s) : Within m s₀ (State.baseLoaded s slot b bad) := by
  unfold State.baseLoaded
  repeat' first
    | with_reducible assumption | with_reducible apply within_State_showPatch (Mask.sub hm rfl)
    | with_reducible apply within_State_showVersion (Mask.sub hm rfl) | with_reducible apply within_State_readBack (Mask.sub hm rfl)
    | exact Touch.any (Mask.bit hm rfl) | with_reducible refine Within.ite ?_ ?_ | split | (extract_lets; split)
    | (with_reducible refine Within.mk ?_ ?hk
       case hk => (repeat' apply And.intro) <;> first | with_reducible exact .inr rfl | exact .inl (Mask.bit hm rfl)
       first
        | with_reducible assumption | with_reducible apply within_State_showPatch (Mask.sub hm rfl)
        | with_reducible apply within_State_showVersion (Mask.sub hm rfl)
        | with_reducible apply within_State_readBack (Mask.sub hm rfl) | with_reducible refine Within.ite ?_ ?_ | split
        | (extract_lets; split)
        | (with_reducible refine Within.mk ?_ ?hk
           case hk => (repeat' apply And.intro) <;> first | with_reducible exact .inr rfl | exact .inl (Mask.bit hm rfl)
           first
            | with_reducible assumption | with_reducible apply within_State_showPatch (Mask.sub hm rfl)
            | with_reducible apply within_State_showVersion (Mask.sub hm rfl)
            | with_reducible apply within_State_readBack (Mask.sub hm rfl) | with_reducible refine Within.ite ?_ ?_ | split
            | (extract_lets; split)))

theorem within_State_csAct {m : Nat} {s₀ s : State}
    (hm : m ||| 0x30000800002000000000F901080E00000870000080000000181E000078002000000001100000022060200000702000B3400040020005C00382204203003FFFFFFFF = m)
    (r : CsRun) (bad : List Nat) (h₀ : Within m s₀ s) : Within m s₀ (State.csAct s r bad) := by
  unfold State.csAct
  repeat' first
    | with_reducible assumption | with_reducible apply within_State_popOp (Mask.sub hm rfl)
    | with_reducible apply within_State_showPatch (Mask.sub hm rfl) | with_reducible apply within_State_showVersion (Mask.sub hm rfl)
    | with_reducible apply within_State_readBack (Mask.sub hm rfl) | with_reducible apply within_State_baseLoaded (Mask.sub hm rfl)
    | with_reducible refine Within.snd (by assumption) ?_ | with_reducible refine Within.fst (by assumption) ?_
    | exact Touch.any (Mask.bit hm rfl) | with_reducible refine Within.ite ?_ ?_ | split | (extract_lets; split)
    | (with_reducible refine Within.mk ?_ ?hk
       case hk => (repeat' apply And.intro) <;> first | with_reducible exact .inr rfl | exact .inl (Mask.bit hm rfl)
       first
        | with_reducible assumption | with_reducible apply within_State_popOp (Mask.sub hm rfl)
        | with_reducible apply within_State_showPatch (Mask.sub hm rfl)
        | with_reducible apply within_State_showVersion (Mask.sub hm rfl)
        | with_reducible apply within_State_readBack (Mask.sub hm rfl) | with_reducible apply within_State_baseLoaded (Mask.sub hm rfl)
        | with_reducible refine Within.snd (by assumption) ?_ | with_reducible refine Within.fst (by assumption) ?_
        | with_reducible refine Within.ite ?_ ?_ | split | (extract_lets; split)
        | (with_reducible refine Within.mk ?_ ?hk
           case hk => (repeat' apply And.intro) <;> first | with_reducible exact .inr rfl | exact .inl (Mask.bit hm rfl)
           first
            | with_reducible assumption | with_reducible apply within_State_popOp (Mask.sub hm rfl)
            | with_reducible apply within_State_showPatch (Mask.sub hm rfl)
            | with_reducible apply within_State_showVersion (Mask.sub hm rfl)
            | with_reducible apply within_State_readBack (Mask.sub hm rfl)
            | with_reducible apply within_State_baseLoaded (Mask.sub hm rfl) | with_reducible refine Within.snd (by assumption) ?_
            | with_reducible refine Within.fst (by assumption) ?_ | with_reducible refine Within.ite ?_ ?_ | split
            | (extract_lets; split)))

theorem within_State_showLoaded {m : Nat} {s₀ s : State} (hm : m ||| 0x1000000000000000000000000000000000000000000000000000 = m)
    (fallback : Bool) (codeA : Nat) (codeB : Nat) (since : Nat) (h₀ : Within m s₀ s) :
    Within m s₀ (State.showLoaded s fallback codeA codeB since) := by
  unfold State.showLoaded
  repeat' first
    | with_reducible assumption | with_reducible apply Within.wr | exact touch_CS_LOADED (Mask.bit hm rfl)

theorem within_State_runWaitingTests {m : Nat} {s₀ s : State}
    (hm : m ||| 0x80000000000000000000000000001200000000000000000000000000000000000004200000 = m) (h₀ : Within m s₀ s) :
    Within m s₀ (State.runWaitingTests s) := by
  unfold State.runWaitingTests
  repeat' first
    | with_reducible assumption | with_reducible intro _ | with_reducible apply within_State_rtStart (Mask.sub hm rfl)
    | with_reducible refine Within.each ?_ ?_
    | (with_reducible refine Within.mk ?_ ?hk
       case hk => (repeat' apply And.intro) <;> first | with_reducible exact .inr rfl | exact .inl (Mask.bit hm rfl)
       first
        | with_reducible assumption | with_reducible apply within_State_rtStart (Mask.sub hm rfl)
        | with_reducible refine Within.each ?_ ?_
        | (with_reducible refine Within.mk ?_ ?hk
           case hk => (repeat' apply And.intro) <;> first | with_reducible exact .inr rfl | exact .inl (Mask.bit hm rfl)
           first
            | with_reducible assumption | with_reducible apply within_State_rtStart (Mask.sub hm rfl)
            | with_reducible refine Within.each ?_ ?_))

theorem within_execCsCommandDone {m : Nat} {s₀ s : State}
    (hm : m ||| 0x30000800002000000000F901080E00000870000080000000181E0000780020000000011000000221E0200120702000B3400040020005C00382204203003FFFFFFFF = m)
    (bad : List (Fin 208)) (at_ : Nat) (h₀ : Within m s₀ s) : AnswersWithin m s₀ (execCsCommandDone bad at_ s) := by
  unfold execCsCommandDone
  repeat' first
    | with_reducible assumption | with_reducible refine AnswersWithin.next ?_ | with_reducible refine AnswersWithin.ite ?_ ?_
    | with_reducible intro _ | with_reducible apply Within.advanceTo _ (Mask.bit hm rfl) | with_reducible apply within_State_setFld
    | with_reducible apply within_State_csEnds (Mask.sub hm rfl) | with_reducible apply within_State_csAct (Mask.sub hm rfl)
    | with_reducible apply within_State_showLoaded (Mask.sub hm rfl)
    | with_reducible apply within_State_runWaitingTests (Mask.sub hm rfl) | with_reducible refine Within.snd (by assumption) ?_
    | with_reducible refine Within.fst (by assumption) ?_ | exact touch_CS_STAT (Mask.bit hm rfl) | exact Touch.any (Mask.bit hm rfl)
    | with_reducible refine Within.ite ?_ ?_ | split | (extract_lets; split)
    | (with_reducible refine Within.mk ?_ ?hk
       case hk => (repeat' apply And.intro) <;> first | with_reducible exact .inr rfl | exact .inl (Mask.bit hm rfl)
       first
        | with_reducible assumption | with_reducible apply Within.advanceTo _ (Mask.bit hm rfl)
        | with_reducible apply within_State_setFld | with_reducible apply within_State_csEnds (Mask.sub hm rfl)
        | with_reducible apply within_State_csAct (Mask.sub hm rfl) | with_reducible apply within_State_showLoaded (Mask.sub hm rfl)
        | with_reducible apply within_State_runWaitingTests (Mask.sub hm rfl) | with_reducible refine Within.snd (by assumption) ?_
        | with_reducible refine Within.fst (by assumption) ?_ | with_reducible refine Within.ite ?_ ?_ | split | (extract_lets; split)
        | (with_reducible refine Within.mk ?_ ?hk
           case hk => (repeat' apply And.intro) <;> first | with_reducible exact .inr rfl | exact .inl (Mask.bit hm rfl)
           first
            | with_reducible assumption | with_reducible apply Within.advanceTo _ (Mask.bit hm rfl)
            | with_reducible apply within_State_setFld | with_reducible apply within_State_csEnds (Mask.sub hm rfl)
            | with_reducible apply within_State_csAct (Mask.sub hm rfl)
            | with_reducible apply within_State_showLoaded (Mask.sub hm rfl)
            | with_reducible apply within_State_runWaitingTests (Mask.sub hm rfl) | with_reducible refine Within.snd (by assumption) ?_
            | with_reducible refine Within.fst (by assumption) ?_ | with_reducible refine Within.ite ?_ ?_ | split
            | (extract_lets; split)))

end Sys2Proof.Machine
end

