-- ==== Sys2Proof/Laws/Flow.lean ====
section
/-! SUPPORT. What a flow does that is about to issue a step (Machine/Steps.lean). -/

namespace Sys2Proof.Machine

set_option linter.all false

theorem crew_self (s : State) (k : Nat) : k ∈ s.crew k := by
  unfold State.crew
  split <;> simp

/-- No cause stops a flow about to issue. -/
theorem takeStops_of_atWord {s : State} {k : Nat} {w : Word64} (h : s.atWord k w) : s.takeStops k (s.strand k).nextAt = (s, false) := by
  have h3 := h.2.2.1
  unfold State.takeStops
  dsimp only
  rw [h3 k (crew_self s k)]
  dsimp only
  congr 1
  unfold State.each
  have key : ∀ l : List Nat, (∀ j ∈ l, s.dueStops j (s.strand k).nextAt (s.strand k).segStart = []) →
      l.foldl (fun x j => match x.dueStops j (s.strand k).nextAt (s.strand k).segStart with
        | [] => x
        | l => x.stopAlone j (worst l) (s.strand k).nextAt) s = s := by
    intro l hl
    induction l with
    | nil => rfl
    | cons a t ih =>
      rw [List.foldl_cons, hl a List.mem_cons_self]
      exact ih (fun j hj => hl j (List.mem_cons_of_mem _ hj))
  exact key _ (fun j hj => h3 j (List.mem_filter.mp hj).1)

/-- It finds its word. -/
theorem readWord_of_atWord {s : State} {k : Nat} {w : Word64} (h : s.atWord k w) : s.readWord k = .word s w := by
  obtain ⟨h1, h2, h3, h4, h5, h6, h7⟩ := h
  unfold State.readWord
  dsimp only
  rw [takeStops_of_atWord ⟨h1, h2, h3, h4, h5, h6, h7⟩]
  dsimp only
  rw [if_neg (by simp), h4, if_neg (by simp), h5, if_neg (by simp), if_pos h6, h7]

/-- It issues a step of a word that its command is for. -/
theorem stepWord_of_atWord {s : State} {k : Nat} {w : Word64} {want : Word64 → Bool} {act : State → Word64 → State} (h : s.atWord k w)
    (hw : want w = true) (he : (s.strand k).wordError w = none) : s.stepWord k want act = act s w := by
  unfold State.stepWord
  rw [if_pos (by rw [h.1, h.2.1]; rfl), readWord_of_atWord h]
  dsimp only
  rw [if_pos hw, he]

/-- It stops before a step that its word does not allow (R132). -/
theorem stepWord_error {s : State} {k : Nat} {w : Word64} {want : Word64 → Bool} {act : State → Word64 → State} {c : Cause} (h : s.atWord k w)
    (hw : want w = true) (he : (s.strand k).wordError w = some c) : s.stepWord k want act = s.stopFlow k c (s.strand k).nextAt := by
  unfold State.stepWord
  rw [if_pos (by rw [h.1, h.2.1]; rfl), readWord_of_atWord h]
  dsimp only
  rw [if_pos hw, he]

end Sys2Proof.Machine
end

