-- ==== Sys2Proof/Laws/Frames.lean ====
section
/-! SUPPORT. What becomes of an Adeo frame that arrives (Machine/Ring.lean). -/

namespace Sys2Proof.Machine

set_option linter.all false

/-- A frame that the device takes is noted, processed and sent on. -/
theorem adeoWith_takes {s : State} {p type : Nat} {f : Adeo} (h : s.takes p type f) (twice : Bool) (act send : State → State) :
    s.adeoWith p type f twice act send = send (act (s.noted type f)) := by
  obtain ⟨h1, h2, h3, h4, h5, h6⟩ := h
  have hown : s.isOwn type f = false := by
    unfold State.isOwn
    rw [beq_false_of_ne h4]; rfl
  unfold State.adeoWith
  rw [h1, if_neg (by simp), if_neg (by simp [h2]), if_neg (by simp [h3]), hown, if_neg (by simp)]
  dsimp only
  rw [if_neg h4]
  by_cases hh : f.flags % 2 = 1
  · simp [hh, h5, State.noted]
  · rcases h6 with h6 | h6
    · exact absurd h6 hh
    · have hn : f.flags % 2 = 0 := by omega
      have h7 : (type, f.src, f.seq) ∉ s.ring.seen := by simpa using h6
      simp [hn, h7, h5, State.noted]

/-- A frame that is sent on as it is. -/
theorem adeo_takes {s : State} {p type : Nat} {f : Adeo} (h : s.takes p type f) (act : State → State) :
    s.adeo p type f act = (act (s.noted type f)).relay p type f := adeoWith_takes h false act _

/-- A frame that the port does not hear. -/
theorem adeoWith_deaf {s : State} {p type : Nat} {f : Adeo} (h : s.hears p = false) (twice : Bool) (act send : State → State) :
    s.adeoWith p type f twice act send = s := by
  unfold State.adeoWith
  rw [h, if_pos (by simp)]

/-- A frame of another version. -/
theorem adeoWith_version {s : State} {p type : Nat} {f : Adeo} (h : s.hears p = true) (hv : f.ver ≠ 1) (twice : Bool) (act send : State → State) :
    s.adeoWith p type f twice act send = s.passOn p type f := by
  unfold State.adeoWith
  rw [h, if_neg (by simp), if_pos hv]

/-- A frame of another ring. -/
theorem adeoWith_ring {s : State} {p type : Nat} {f : Adeo} (h : s.hears p = true) (hv : f.ver = 1)
    (hr : f.ring ≠ s.fld Reg.RG_ADDR Fld.RG_ADDR_RING) (twice : Bool) (act send : State → State) :
    s.adeoWith p type f twice act send = s.satAdd (linkErrA p) Fld.RG_LINK_ERR_RING 1 := by
  unfold State.adeoWith
  rw [h, if_neg (by simp), if_neg (by simp [hv]), if_pos hr]

/-- A frame that the device sent. -/
theorem adeoWith_own {s : State} {p type : Nat} {f : Adeo} (h : s.hears p = true) (hv : f.ver = 1)
    (hr : f.ring = s.fld Reg.RG_ADDR Fld.RG_ADDR_RING) (ho : s.isOwn type f = true) (twice : Bool) (act send : State → State) :
    s.adeoWith p type f twice act send = s := by
  unfold State.adeoWith
  rw [h, if_neg (by simp), if_neg (by simp [hv]), if_neg (by simp [hr]), ho, if_pos rfl]

end Sys2Proof.Machine
end

