-- ==== Sys2Proof/Laws/LifeWithin.lean ====
section
/-! SUPPORT. What the definitions of Machine/Life.lean keep, and all that they may change (Laws/Within.lean). -/

namespace Sys2Proof.Machine

set_option linter.all false

theorem within_State_cntAdvance {m : Nat} {s₀ s : State} (hm : m ||| 0x1000000000000000000000000000000000000000000000000000000 = m)
    (h₀ : Within m s₀ s) : Within m s₀ (State.cntAdvance s) := by
  unfold State.cntAdvance
  repeat' first
    | with_reducible assumption | with_reducible apply within_State_setFld | exact touch_LS_CNT_SEL (Mask.bit hm rfl)
    | with_reducible refine Within.ite ?_ ?_ | split | (extract_lets; split)

theorem within_State_histAdvance {m : Nat} {s₀ s : State} (hm : m ||| 0x20000000000000000000000000000000000000000000000000000000 = m)
    (h₀ : Within m s₀ s) : Within m s₀ (State.histAdvance s) := by
  unfold State.histAdvance
  repeat' first
    | with_reducible assumption | with_reducible apply within_State_setFld | exact touch_LS_HIST_SEL (Mask.bit hm rfl)
    | with_reducible refine Within.ite ?_ ?_ | split | (extract_lets; split)

theorem within_State_flushed {m : Nat} (hm : m ||| 0xC0000000 = m) {s₀ s : State} (h₀ : Within m s₀ s) : Within m s₀ (State.flushed s) := by
  refine Within.mk (Within.counts (l := []) (Mask.bit hm rfl) h₀ (by simp)) ?_
  (repeat' apply And.intro) <;> first | with_reducible exact .inr rfl | exact .inl (Mask.bit hm rfl)

theorem within_State_cutFlush {m : Nat} (hm : m ||| 0xC0000004 = m) {s₀ s : State} (h₀ : Within m s₀ s) :
    Within m s₀ (State.cutFlush s) := by
  unfold State.cutFlush
  split
  rename_i v s1 e1
  split
  rename_i b s2 e2
  extract_lets f fits n f1 hist
  have h1 := Within.snd e1 (Within.free (Mask.bit hm rfl) h₀)
  have h2 := Within.snd e2 (Within.free (Mask.bit hm rfl) h1)
  have hc : s2.counts = s.counts := by
    have g1 : s1.counts = s.counts := by cases e1; rfl
    have g2 : s2.counts = s1.counts := by cases e2; rfl
    rw [g2, g1]
  exact Within.mk (Within.counts (l := s.counts.drop n) (Mask.bit hm rfl) h2 (fun e he => hc ▸ List.mem_of_mem_drop he))
    (by (repeat' apply And.intro) <;> first | with_reducible exact .inr rfl | exact .inl (Mask.bit hm rfl))

theorem within_State_lsEnds {m : Nat} {s₀ s : State} (hm : m ||| 0x600000000000000000000000000000000000000000000000000000 = m)
    (cmd : Nat) (code : Nat) (h₀ : Within m s₀ s) : Within m s₀ (State.lsEnds s cmd code) := by
  unfold State.lsEnds
  repeat' first
    | with_reducible assumption | with_reducible apply Within.wr | with_reducible apply within_State_raise
    | exact touch_LS_RES (Mask.bit hm rfl) | exact touch_LS_STAT (Mask.bit hm rfl)

theorem within_State_askFlush {m : Nat} {s₀ s : State} (hm : m ||| 0x40000000 = m) (requested : Bool) (h₀ : Within m s₀ s) :
    Within m s₀ (State.askFlush s requested) := by
  unfold State.askFlush
  repeat' first
    | with_reducible assumption | with_reducible apply within_State_request (Mask.sub hm rfl)
    | with_reducible apply within_State_pushOp (Mask.sub hm rfl) | with_reducible refine Within.ite ?_ ?_ | split
    | (extract_lets; split)
    | (with_reducible refine Within.mk ?_ ?hk
       case hk => (repeat' apply And.intro) <;> first | with_reducible exact .inr rfl | exact .inl (Mask.bit hm rfl)
       first
        | with_reducible assumption | with_reducible apply within_State_request (Mask.sub hm rfl)
        | with_reducible apply within_State_pushOp (Mask.sub hm rfl) | with_reducible refine Within.ite ?_ ?_ | split
        | (extract_lets; split)
        | (with_reducible refine Within.mk ?_ ?hk
           case hk => (repeat' apply And.intro) <;> first | with_reducible exact .inr rfl | exact .inl (Mask.bit hm rfl)
           first
            | with_reducible assumption | with_reducible apply within_State_request (Mask.sub hm rfl)
            | with_reducible apply within_State_pushOp (Mask.sub hm rfl) | with_reducible refine Within.ite ?_ ?_ | split
            | (extract_lets; split)))

theorem within_State_lsCommand {m : Nat} {s₀ s : State} (hm : m ||| 0x600000000000000000000000000000000000000000000040000000 = m)
    (d : Word) (h₀ : Within m s₀ s) : Within m s₀ (State.lsCommand s d) := by
  unfold State.lsCommand
  repeat' first
    | with_reducible assumption | with_reducible apply within_State_raise | with_reducible apply within_State_pushOp (Mask.sub hm rfl)
    | with_reducible apply within_State_lsEnds (Mask.sub hm rfl) | with_reducible apply within_State_askFlush (Mask.sub hm rfl)
    | exact touch_LS_RES (Mask.bit hm rfl) | exact touch_LS_STAT (Mask.bit hm rfl) | with_reducible refine Within.ite ?_ ?_ | split
    | (extract_lets; split)

theorem within_execScheduledFlush {m : Nat} {s₀ s : State} (hm : m ||| 0x40000001 = m) (h₀ : Within m s₀ s) :
    AnswersWithin m s₀ (execScheduledFlush s) := by
  unfold execScheduledFlush
  repeat' first
    | with_reducible assumption | with_reducible refine AnswersWithin.next ?_
    | with_reducible apply Within.advanceTo _ (Mask.bit hm rfl) | with_reducible apply within_State_askFlush (Mask.sub hm rfl)
    | with_reducible refine Within.ite ?_ ?_ | split | (extract_lets; split)
    | (with_reducible refine Within.mk ?_ ?hk
       case hk => (repeat' apply And.intro) <;> first | with_reducible exact .inr rfl | exact .inl (Mask.bit hm rfl)
       first
        | with_reducible assumption | with_reducible apply Within.advanceTo _ (Mask.bit hm rfl)
        | with_reducible apply within_State_askFlush (Mask.sub hm rfl) | with_reducible refine Within.ite ?_ ?_ | split
        | (extract_lets; split)
        | (with_reducible refine Within.mk ?_ ?hk
           case hk => (repeat' apply And.intro) <;> first | with_reducible exact .inr rfl | exact .inl (Mask.bit hm rfl)
           first
            | with_reducible assumption | with_reducible apply Within.advanceTo _ (Mask.bit hm rfl)
            | with_reducible apply within_State_askFlush (Mask.sub hm rfl) | with_reducible refine Within.ite ?_ ?_ | split
            | (extract_lets; split)))

theorem within_execFlushWaitEnd {m : Nat} {s₀ s : State} (hm : m ||| 0x40000001 = m) (h₀ : Within m s₀ s) :
    AnswersWithin m s₀ (execFlushWaitEnd s) := by
  unfold execFlushWaitEnd
  repeat' first
    | with_reducible assumption | with_reducible refine AnswersWithin.next ?_ | with_reducible intro _
    | with_reducible apply Within.advanceTo _ (Mask.bit hm rfl) | with_reducible apply within_State_pushOp (Mask.sub hm rfl)
    | with_reducible refine Within.snd (by assumption) ?_ | with_reducible refine Within.fst (by assumption) ?_
    | with_reducible refine Within.ite ?_ ?_ | split | (extract_lets; split)
    | (with_reducible refine Within.mk ?_ ?hk
       case hk => (repeat' apply And.intro) <;> first | with_reducible exact .inr rfl | exact .inl (Mask.bit hm rfl)
       first
        | with_reducible assumption | with_reducible apply Within.advanceTo _ (Mask.bit hm rfl)
        | with_reducible apply within_State_pushOp (Mask.sub hm rfl) | with_reducible refine Within.snd (by assumption) ?_
        | with_reducible refine Within.fst (by assumption) ?_ | with_reducible refine Within.ite ?_ ?_ | split | (extract_lets; split)
        | (with_reducible refine Within.mk ?_ ?hk
           case hk => (repeat' apply And.intro) <;> first | with_reducible exact .inr rfl | exact .inl (Mask.bit hm rfl)
           first
            | with_reducible assumption | with_reducible apply Within.advanceTo _ (Mask.bit hm rfl)
            | with_reducible apply within_State_pushOp (Mask.sub hm rfl) | with_reducible refine Within.snd (by assumption) ?_
            | with_reducible refine Within.fst (by assumption) ?_ | with_reducible refine Within.ite ?_ ?_ | split
            | (extract_lets; split)))

theorem within_execLsCmdDone {m : Nat} {s₀ s : State} (hm : m ||| 0x6000000000000000000000000000000000000000000000C0000001 = m)
    (ok : Bool) (at_ : Nat) (h₀ : Within m s₀ s) : AnswersWithin m s₀ (execLsCmdDone ok at_ s) := by
  unfold execLsCmdDone
  repeat' first
    | with_reducible assumption | with_reducible refine AnswersWithin.next ?_ | with_reducible refine AnswersWithin.ite ?_ ?_
    | with_reducible apply Within.advanceTo _ (Mask.bit hm rfl) | with_reducible apply within_State_request (Mask.sub hm rfl)
    | with_reducible apply within_State_popOp (Mask.sub hm rfl) | with_reducible apply within_State_flushed (Mask.sub hm rfl)
    | with_reducible apply within_State_lsEnds (Mask.sub hm rfl) | with_reducible refine Within.snd (by assumption) ?_
    | with_reducible refine Within.fst (by assumption) ?_ | with_reducible refine Within.ite ?_ ?_ | split | (extract_lets; split)
    | (with_reducible refine Within.mk ?_ ?hk
       case hk => (repeat' apply And.intro) <;> first | with_reducible exact .inr rfl | exact .inl (Mask.bit hm rfl)
       first
        | with_reducible assumption | with_reducible apply Within.advanceTo _ (Mask.bit hm rfl)
        | with_reducible apply within_State_request (Mask.sub hm rfl) | with_reducible apply within_State_popOp (Mask.sub hm rfl)
        | with_reducible apply within_State_flushed (Mask.sub hm rfl) | with_reducible apply within_State_lsEnds (Mask.sub hm rfl)
        | with_reducible refine Within.snd (by assumption) ?_ | with_reducible refine Within.fst (by assumption) ?_
        | with_reducible refine Within.ite ?_ ?_ | split | (extract_lets; split)
        | (with_reducible refine Within.mk ?_ ?hk
           case hk => (repeat' apply And.intro) <;> first | with_reducible exact .inr rfl | exact .inl (Mask.bit hm rfl)
           first
            | with_reducible assumption | with_reducible apply Within.advanceTo _ (Mask.bit hm rfl)
            | with_reducible apply within_State_request (Mask.sub hm rfl) | with_reducible apply within_State_popOp (Mask.sub hm rfl)
            | with_reducible apply within_State_flushed (Mask.sub hm rfl) | with_reducible apply within_State_lsEnds (Mask.sub hm rfl)
            | with_reducible refine Within.snd (by assumption) ?_ | with_reducible refine Within.fst (by assumption) ?_
            | with_reducible refine Within.ite ?_ ?_ | split | (extract_lets; split)))

theorem within_State_setupAdvance {m : Nat} {s₀ s : State}
    (hm : m ||| 0x100000000000000000000000000000000000000000000000000000000 = m) (h₀ : Within m s₀ s) :
    Within m s₀ (State.setupAdvance s) := by
  unfold State.setupAdvance
  repeat' first
    | with_reducible assumption | with_reducible apply within_State_setFld | exact touch_LS_SETUP_ADDR (Mask.bit hm rfl)
    | with_reducible refine Within.ite ?_ ?_ | split | (extract_lets; split)

theorem within_State_setupWrite {m : Nat} {s₀ s : State} (hm : m ||| 0x100000000000000000000000000000000000000000000000040000000 = m)
    (al : Alias) (d : Word) (h₀ : Within m s₀ s) : Within m s₀ (State.setupWrite s al d) := by
  unfold State.setupWrite
  repeat' first
    | with_reducible assumption | with_reducible apply within_State_setupAdvance (Mask.sub hm rfl)
    | with_reducible refine Within.ite ?_ ?_ | split | (extract_lets; split)
    | (with_reducible refine Within.mk ?_ ?hk
       case hk => (repeat' apply And.intro) <;> first | with_reducible exact .inr rfl | exact .inl (Mask.bit hm rfl)
       first
        | with_reducible assumption | with_reducible apply within_State_setupAdvance (Mask.sub hm rfl)
        | with_reducible refine Within.ite ?_ ?_ | split | (extract_lets; split)
        | (with_reducible refine Within.mk ?_ ?hk
           case hk => (repeat' apply And.intro) <;> first | with_reducible exact .inr rfl | exact .inl (Mask.bit hm rfl)
           first
            | with_reducible assumption | with_reducible apply within_State_setupAdvance (Mask.sub hm rfl)
            | with_reducible refine Within.ite ?_ ?_ | split | (extract_lets; split)))

theorem within_State_dayOf {m : Nat} {s₀ s : State} (hm : m ||| 0x4 = m) (cal : Nat) (h₀ : Within m s₀ s) :
    Within m s₀ (State.dayOf s cal).2 := by
  unfold State.dayOf
  repeat' first
    | with_reducible assumption | with_reducible apply Within.free (Mask.bit hm rfl)
    | with_reducible refine Within.snd (by assumption) ?_ | with_reducible refine Within.fst (by assumption) ?_
    | with_reducible refine Within.ite ?_ ?_ | split | (extract_lets; split)

theorem within_State_setCalendar {m : Nat} {s₀ s : State} (hm : m ||| 0x14200000000000000000000000000000000000000000000000000004 = m)
    (cal : Nat) (h₀ : Within m s₀ s) : Within m s₀ (State.setCalendar s cal) := by
  unfold State.setCalendar
  repeat' first
    | with_reducible assumption | with_reducible apply Within.wr | with_reducible apply within_State_raise
    | with_reducible apply within_State_raiseIf | with_reducible apply within_State_dayOf (Mask.sub hm rfl)
    | with_reducible refine Within.snd (by assumption) ?_ | with_reducible refine Within.fst (by assumption) ?_
    | exact touch_LS_CAL_DAY (Mask.bit hm rfl) | exact touch_LS_CAL_S (Mask.bit hm rfl) | exact touch_LS_STAT (Mask.bit hm rfl)
    | with_reducible refine Within.ite ?_ ?_ | split | (extract_lets; split)

theorem within_execCalendarTick {m : Nat} {s₀ s : State} (hm : m ||| 0x142000000000000000000000000000000000000000000000C0000005 = m)
    (h₀ : Within m s₀ s) : AnswersWithin m s₀ (execCalendarTick s) := by
  unfold execCalendarTick
  repeat' first
    | with_reducible assumption | with_reducible refine AnswersWithin.next ?_
    | with_reducible apply Within.advanceTo _ (Mask.bit hm rfl) | with_reducible apply within_State_raise
    | with_reducible apply within_State_life (Mask.sub hm rfl) | with_reducible apply within_State_setCalendar (Mask.sub hm rfl)
    | exact touch_LS_STAT (Mask.bit hm rfl) | with_reducible refine Within.ite ?_ ?_ | split | (extract_lets; split)
    | (with_reducible refine Within.mk ?_ ?hk
       case hk => (repeat' apply And.intro) <;> first | with_reducible exact .inr rfl | exact .inl (Mask.bit hm rfl)
       first
        | with_reducible assumption | with_reducible apply Within.advanceTo _ (Mask.bit hm rfl)
        | with_reducible apply within_State_raise | with_reducible apply within_State_life (Mask.sub hm rfl)
        | with_reducible apply within_State_setCalendar (Mask.sub hm rfl) | with_reducible refine Within.ite ?_ ?_ | split
        | (extract_lets; split)
        | (with_reducible refine Within.mk ?_ ?hk
           case hk => (repeat' apply And.intro) <;> first | with_reducible exact .inr rfl | exact .inl (Mask.bit hm rfl)
           first
            | with_reducible assumption | with_reducible apply Within.advanceTo _ (Mask.bit hm rfl)
            | with_reducible apply within_State_raise | with_reducible apply within_State_life (Mask.sub hm rfl)
            | with_reducible apply within_State_setCalendar (Mask.sub hm rfl) | with_reducible refine Within.ite ?_ ?_ | split
            | (extract_lets; split)))

theorem within_State_cbCommit {m : Nat} {s₀ s : State} (hm : m ||| 0x18000000000000000040000000 = m) (d : Word) (h₀ : Within m s₀ s) :
    Within m s₀ (State.cbCommit s d) := by
  unfold State.cbCommit
  repeat' first
    | with_reducible assumption | with_reducible apply within_State_commitWrite (Mask.sub hm rfl)
    | with_reducible apply within_State_pushOp (Mask.sub hm rfl) | with_reducible refine Within.ite ?_ ?_ | split
    | (extract_lets; split)

theorem within_execCbCommitDone {m : Nat} {s₀ s : State} (hm : m ||| 0x18000000000000000040000001 = m) (ok : Bool) (at_ : Nat)
    (h₀ : Within m s₀ s) : AnswersWithin m s₀ (execCbCommitDone ok at_ s) := by
  unfold execCbCommitDone
  repeat' first
    | with_reducible assumption | with_reducible refine AnswersWithin.next ?_ | with_reducible refine AnswersWithin.ite ?_ ?_
    | with_reducible intro _ | with_reducible apply Within.advanceTo _ (Mask.bit hm rfl) | with_reducible apply within_State_setFld
    | with_reducible apply within_State_raise | with_reducible apply within_State_popOp (Mask.sub hm rfl)
    | with_reducible refine Within.snd (by assumption) ?_ | with_reducible refine Within.fst (by assumption) ?_
    | exact touch_CB_BUSY (Mask.bit hm rfl) | exact touch_CB_STAT (Mask.bit hm rfl) | with_reducible refine Within.ite ?_ ?_ | split
    | (extract_lets; split)
    | (with_reducible refine Within.mk ?_ ?hk
       case hk => (repeat' apply And.intro) <;> first | with_reducible exact .inr rfl | exact .inl (Mask.bit hm rfl)
       first
        | with_reducible assumption | with_reducible apply Within.advanceTo _ (Mask.bit hm rfl)
        | with_reducible apply within_State_setFld | with_reducible apply within_State_raise
        | with_reducible apply within_State_popOp (Mask.sub hm rfl) | with_reducible refine Within.snd (by assumption) ?_
        | with_reducible refine Within.fst (by assumption) ?_ | with_reducible refine Within.ite ?_ ?_ | split | (extract_lets; split)
        | (with_reducible refine Within.mk ?_ ?hk
           case hk => (repeat' apply And.intro) <;> first | with_reducible exact .inr rfl | exact .inl (Mask.bit hm rfl)
           first
            | with_reducible assumption | with_reducible apply Within.advanceTo _ (Mask.bit hm rfl)
            | with_reducible apply within_State_setFld | with_reducible apply within_State_raise
            | with_reducible apply within_State_popOp (Mask.sub hm rfl) | with_reducible refine Within.snd (by assumption) ?_
            | with_reducible refine Within.fst (by assumption) ?_ | with_reducible refine Within.ite ?_ ?_ | split
            | (extract_lets; split)))

end Sys2Proof.Machine
end

