-- ==== Sys2Proof/Laws/PowerWithin.lean ====
section
/-! SUPPORT. What the definitions of Machine/Power.lean keep, and all that they may change (Laws/Within.lean). -/

namespace Sys2Proof.Machine

set_option linter.all false

theorem within_State_cutOp {m : Nat} (hm : m ||| 0xC0000004 = m) {s₀ s : State} (h₀ : Within m s₀ s) : Within m s₀ (State.cutOp s) := by
  unfold State.cutOp
  split
  · exact h₀
  · extract_lets f
    split
    · exact h₀
    · exact within_State_cutFlush hm h₀
    · exact Within.mk h₀ (by (repeat' apply And.intro) <;> first | with_reducible exact .inr rfl | exact .inl (Mask.bit hm rfl))
    · exact Within.mk h₀ (by (repeat' apply And.intro) <;> first | with_reducible exact .inr rfl | exact .inl (Mask.bit hm rfl))
    · exact Within.mk h₀ (by (repeat' apply And.intro) <;> first | with_reducible exact .inr rfl | exact .inl (Mask.bit hm rfl))

theorem within_State_closeAll {m : Nat} {s₀ s : State} (hm : m ||| 0x4000000000000000000000000000000000000108000000 = m)
    (h₀ : Within m s₀ s) : Within m s₀ (State.closeAll s) := by
  unfold State.closeAll
  repeat' first
    | with_reducible assumption | with_reducible intro _ | with_reducible apply within_State_fault (Mask.sub hm rfl)
    | with_reducible apply within_State_closeRec (Mask.sub hm rfl) | with_reducible refine Within.each ?_ ?_

theorem within_State_resetLevel {m : Nat} {s₀ s : State} (hm : m ||| 0x20000000000000000000000000000000000000000110000000 = m)
    (h₀ : Within m s₀ s) : Within m s₀ (State.resetLevel s) := by
  unfold State.resetLevel
  repeat' first
    | with_reducible assumption | with_reducible apply Within.wr | with_reducible apply Within.send _ (Mask.bit hm rfl)
    | exact touch_TH_STATE (Mask.bit hm rfl) | with_reducible refine Within.ite ?_ ?_ | split | (extract_lets; split)
    | (with_reducible refine Within.mk ?_ ?hk
       case hk => (repeat' apply And.intro) <;> first | with_reducible exact .inr rfl | exact .inl (Mask.bit hm rfl)
       first
        | with_reducible assumption | with_reducible apply Within.wr | with_reducible apply Within.send _ (Mask.bit hm rfl)
        | with_reducible refine Within.ite ?_ ?_ | split | (extract_lets; split)
        | (with_reducible refine Within.mk ?_ ?hk
           case hk => (repeat' apply And.intro) <;> first | with_reducible exact .inr rfl | exact .inl (Mask.bit hm rfl)
           first
            | with_reducible assumption | with_reducible apply Within.wr | with_reducible apply Within.send _ (Mask.bit hm rfl)
            | with_reducible refine Within.ite ?_ ?_ | split | (extract_lets; split)))

theorem within_execRstNFall {m : Nat} {s₀ s : State} (hm : m ||| 0x220040000000000000100000000000000004000003FFFFFFFF = m)
    (h₀ : Within m s₀ s) : AnswersWithin m s₀ (execRstNFall s) := by
  unfold execRstNFall
  repeat' first
    | with_reducible assumption | with_reducible refine AnswersWithin.next ?_ | with_reducible refine AnswersWithin.ite ?_ ?_
    | with_reducible intro _ | with_reducible apply Within.coreReset _ (Mask.sub hm rfl) | with_reducible apply within_State_setFld
    | with_reducible apply within_State_fault (Mask.sub hm rfl) | with_reducible apply within_State_keepSegments (Mask.sub hm rfl)
    | with_reducible apply within_State_dropHold (Mask.sub hm rfl) | with_reducible apply within_State_cutOp (Mask.sub hm rfl)
    | with_reducible apply within_State_closeAll (Mask.sub hm rfl) | with_reducible apply within_State_resetLevel (Mask.sub hm rfl)
    | exact touch_FC_HELM_STATE (Mask.bit hm rfl) | exact Touch.any (Mask.bit hm rfl) | with_reducible refine Within.ite ?_ ?_ | split
    | (extract_lets; split)
    | (with_reducible refine Within.mk ?_ ?hk
       case hk => (repeat' apply And.intro) <;> first | with_reducible exact .inr rfl | exact .inl (Mask.bit hm rfl)
       first
        | with_reducible assumption | with_reducible apply Within.coreReset _ (Mask.sub hm rfl)
        | with_reducible apply within_State_setFld | with_reducible apply within_State_fault (Mask.sub hm rfl)
        | with_reducible apply within_State_keepSegments (Mask.sub hm rfl)
        | with_reducible apply within_State_dropHold (Mask.sub hm rfl) | with_reducible apply within_State_cutOp (Mask.sub hm rfl)
        | with_reducible apply within_State_closeAll (Mask.sub hm rfl) | with_reducible apply within_State_resetLevel (Mask.sub hm rfl)
        | with_reducible refine Within.ite ?_ ?_ | split | (extract_lets; split)
        | (with_reducible refine Within.mk ?_ ?hk
           case hk => (repeat' apply And.intro) <;> first | with_reducible exact .inr rfl | exact .inl (Mask.bit hm rfl)
           first
            | with_reducible assumption | with_reducible apply Within.coreReset _ (Mask.sub hm rfl)
            | with_reducible apply within_State_setFld | with_reducible apply within_State_fault (Mask.sub hm rfl)
            | with_reducible apply within_State_keepSegments (Mask.sub hm rfl)
            | with_reducible apply within_State_dropHold (Mask.sub hm rfl) | with_reducible apply within_State_cutOp (Mask.sub hm rfl)
            | with_reducible apply within_State_closeAll (Mask.sub hm rfl)
            | with_reducible apply within_State_resetLevel (Mask.sub hm rfl) | with_reducible refine Within.ite ?_ ?_ | split
            | (extract_lets; split)))

theorem within_State_fullReset {m : Nat} (hm : m ||| 0x100000000000000000000003FFFFFFFF = m) {s₀ s : State} (grave : Bool)
    (h₀ : Within m s₀ s) : Within m s₀ (State.fullReset s grave) := by
  unfold State.fullReset
  extract_lets recs s1 s2 s3
  have h1 : Within m s₀ s1 := within_State_cutOp (Mask.sub hm rfl) (within_State_dropHold (Mask.sub hm rfl) h₀)
  have h2 : Within m s₀ s2 := Within.ite h1 (Within.send _ (Mask.bit hm rfl) h1)
  have h3 : Within m s₀ s3 := Within.coreReset _ (Mask.sub hm rfl) h2
  exact within_State_showAlert (Mask.sub hm rfl) (Within.mk (Within.counts (l := []) (Mask.bit hm rfl) h3 (by simp))
    (by (repeat' apply And.intro) <;> first | with_reducible exact .inr rfl | exact .inl (Mask.bit hm rfl)))

theorem within_execPwrOkFall {m : Nat} {s₀ s : State} (hm : m ||| 0x100000000000000000000003FFFFFFFF = m) (h₀ : Within m s₀ s) :
    AnswersWithin m s₀ (execPwrOkFall s) := by
  unfold execPwrOkFall
  repeat' first
    | with_reducible assumption | with_reducible refine AnswersWithin.next ?_
    | with_reducible apply within_State_fullReset (Mask.sub hm rfl) | exact Touch.any (Mask.bit hm rfl)

theorem within_execVddAonLoss {m : Nat} {s₀ s : State} (hm : m ||| 0x100000000000000000000003FFFFFFFF = m) (h₀ : Within m s₀ s) :
    AnswersWithin m s₀ (execVddAonLoss s) := by
  unfold execVddAonLoss
  repeat' first
    | with_reducible assumption | with_reducible refine AnswersWithin.next ?_
    | with_reducible apply within_State_fullReset (Mask.sub hm rfl) | exact Touch.any (Mask.bit hm rfl)
    | (with_reducible refine Within.mk ?_ ?hk
       case hk => (repeat' apply And.intro) <;> first | with_reducible exact .inr rfl | exact .inl (Mask.bit hm rfl)
       first
        | with_reducible assumption | with_reducible apply within_State_fullReset (Mask.sub hm rfl)
        | (with_reducible refine Within.mk ?_ ?hk
           case hk => (repeat' apply And.intro) <;> first | with_reducible exact .inr rfl | exact .inl (Mask.bit hm rfl)
           first
            | with_reducible assumption | with_reducible apply within_State_fullReset (Mask.sub hm rfl)))

theorem within_State_pwrCommand {m : Nat} {s₀ s : State}
    (hm : m ||| 0x20000030000000000000000000000000000000000000000000000000000000000000000000000020000270000080000140020000000000004000003FFFFFFFF = m)
    (m_ : Master) (d : Word) (h₀ : Within m s₀ s) : Within m s₀ (State.pwrCommand s m_ d) := by
  unfold State.pwrCommand
  repeat' first
    | with_reducible assumption | with_reducible apply within_State_raise | with_reducible apply within_State_deepWake (Mask.sub hm rfl)
    | with_reducible apply within_State_coreOff (Mask.sub hm rfl) | exact touch_DEV_PWR_STAT (Mask.bit hm rfl)
    | exact Touch.any (Mask.bit hm rfl) | with_reducible refine Within.ite ?_ ?_ | split | (extract_lets; split)

theorem within_State_atStep {m : Nat} {s₀ s : State} (hm : m ||| 0x2000000000000000000000000000000000000000000 = m) (n : Nat)
    (h₀ : Within m s₀ s) : Within m s₀ (State.atStep s n) := by
  unfold State.atStep
  repeat' first
    | with_reducible assumption | with_reducible apply within_State_setFld | exact touch_DEV_STATE (Mask.bit hm rfl)

theorem within_State_failed {m : Nat} {s₀ s : State} (hm : m ||| 0x2000000000000000000000000000000000000000000 = m)
    (h₀ : Within m s₀ s) : Within m s₀ (State.failed s) := by
  unfold State.failed
  repeat' first
    | with_reducible assumption | with_reducible apply within_State_setFld | exact touch_DEV_STATE (Mask.bit hm rfl)

theorem within_State_step3 {m : Nat} {s₀ s : State}
    (hm : m ||| 0x100000000010000800002000000000F901080F00000870000080000000181E000078006000000001100000028000600420702000B3470340020385C00382204203003FFFFFFFF = m)
    (f : StartFacts) (h₀ : Within m s₀ s) : Within m s₀ (State.step3 s f) := by
  unfold State.step3
  repeat' first
    | with_reducible assumption | with_reducible apply within_State_setFld
    | with_reducible apply within_State_selfCheckFails (Mask.sub hm rfl) | exact touch_SPI_STAT (Mask.bit hm rfl)
    | exact Touch.any (Mask.bit hm rfl) | with_reducible refine Within.ite ?_ ?_ | split | (extract_lets; split)

theorem within_State_step4 {m : Nat} {s₀ s : State} (hm : m ||| 0x800200000000400000000004001C000000000000000000040000000 = m)
    (h₀ : Within m s₀ s) : Within m s₀ (State.step4 s) := by
  unfold State.step4
  repeat' first
    | with_reducible assumption | with_reducible apply Within.wr | with_reducible apply within_State_setFld
    | with_reducible apply within_State_raise | with_reducible apply within_State_raiseIf | exact touch_CS_SLOT (Mask.bit hm rfl)
    | exact touch_DEV_STAT (Mask.bit hm rfl) | exact touch_HT_IP (Mask.bit hm rfl) | exact touch_HT_MAC_HI (Mask.bit hm rfl)
    | exact touch_HT_MAC_LO (Mask.bit hm rfl) | exact touch_LS_FACTORY_S (Mask.bit hm rfl) | exact touch_RG_ADDR (Mask.bit hm rfl)
    | with_reducible refine Within.ite ?_ ?_ | split | (extract_lets; split)
    | (with_reducible refine Within.mk ?_ ?hk
       case hk => (repeat' apply And.intro) <;> first | with_reducible exact .inr rfl | exact .inl (Mask.bit hm rfl)
       first
        | with_reducible assumption | with_reducible apply Within.wr | with_reducible apply within_State_setFld
        | with_reducible apply within_State_raise | with_reducible apply within_State_raiseIf | with_reducible refine Within.ite ?_ ?_
        | split | (extract_lets; split)
        | (with_reducible refine Within.mk ?_ ?hk
           case hk => (repeat' apply And.intro) <;> first | with_reducible exact .inr rfl | exact .inl (Mask.bit hm rfl)
           first
            | with_reducible assumption | with_reducible apply Within.wr | with_reducible apply within_State_setFld
            | with_reducible apply within_State_raise | with_reducible apply within_State_raiseIf
            | with_reducible refine Within.ite ?_ ?_ | split | (extract_lets; split)))

theorem within_State_showBits {m : Nat} {s₀ s : State} (hm : m ||| 0x200000000 = m) (a : Nat) (n : Nat) (l : List Nat)
    (h₀ : Within m s₀ s) : Within m s₀ (State.showBits s a n l) := by
  unfold State.showBits
  repeat' first
    | with_reducible assumption | with_reducible intro _ | with_reducible apply Within.wr | with_reducible refine Within.each ?_ ?_
    | with_reducible refine Within.foldl _ ?_ ?_ | with_reducible refine Within.foldlFst _ ?_ ?_
    | with_reducible refine Within.foldlSnd _ ?_ ?_ | exact Touch.any (Mask.bit hm rfl)

theorem within_State_step5 {m : Nat} {s₀ s : State}
    (hm : m ||| 0x10000800002000000000F901080E00000870000080000000181E000078002000000001100000020000200024702000B3400040020005C00382204203003FFFFFFFF = m)
    (f : StartFacts) (h₀ : Within m s₀ s) : Within m s₀ (State.step5 s f) := by
  unfold State.step5
  repeat' first
    | with_reducible assumption | with_reducible intro _ | with_reducible apply Within.wr | with_reducible apply within_State_setFld
    | with_reducible apply within_State_modStrand (Mask.sub hm rfl) | with_reducible apply within_State_fault (Mask.sub hm rfl)
    | with_reducible apply within_State_engineFails (Mask.sub hm rfl) | with_reducible apply within_State_laneFails (Mask.sub hm rfl)
    | with_reducible apply within_State_failed (Mask.sub hm rfl) | with_reducible apply within_State_showBits (Mask.sub hm rfl)
    | with_reducible refine Within.each ?_ ?_ | exact touch_BI_LANE (Mask.bit hm rfl) | exact touch_BI_RESULT (Mask.bit hm rfl)
    | exact touch_CV_STATE (Mask.bit hm rfl) _ | exact Touch.any (Mask.bit hm rfl) | with_reducible refine Within.ite ?_ ?_ | split
    | (extract_lets; split)
    | (with_reducible refine Within.mk ?_ ?hk
       case hk => (repeat' apply And.intro) <;> first | with_reducible exact .inr rfl | exact .inl (Mask.bit hm rfl)
       first
        | with_reducible assumption | with_reducible apply Within.wr | with_reducible apply within_State_setFld
        | with_reducible apply within_State_modStrand (Mask.sub hm rfl) | with_reducible apply within_State_fault (Mask.sub hm rfl)
        | with_reducible apply within_State_engineFails (Mask.sub hm rfl)
        | with_reducible apply within_State_laneFails (Mask.sub hm rfl) | with_reducible apply within_State_failed (Mask.sub hm rfl)
        | with_reducible apply within_State_showBits (Mask.sub hm rfl) | with_reducible refine Within.each ?_ ?_
        | with_reducible refine Within.ite ?_ ?_ | split | (extract_lets; split))

theorem within_State_step6 {m : Nat} {s₀ s : State} (hm : m ||| 0x5000000000000000000000000000000000000000000 = m) (f : StartFacts)
    (h₀ : Within m s₀ s) : Within m s₀ (State.step6 s f) := by
  unfold State.step6
  repeat' first
    | with_reducible assumption | with_reducible apply Within.wr | with_reducible apply within_State_raise
    | with_reducible refine Within.snd (by assumption) ?_ | with_reducible refine Within.fst (by assumption) ?_
    | exact touch_DEV_FW_VER (Mask.bit hm rfl) | exact touch_DEV_STAT (Mask.bit hm rfl) | with_reducible refine Within.ite ?_ ?_ | split
    | (extract_lets; split)

theorem within_State_noUcode {m : Nat} {s₀ s : State}
    (hm : m ||| 0x10000800002000000000F901080E00000870000080000000181E000078002000000001100000020000200000702000B3400040020005C00382204203003FFFFFFFF = m)
    (h₀ : Within m s₀ s) : Within m s₀ (State.noUcode s) := by
  unfold State.noUcode
  repeat' first
    | with_reducible assumption | with_reducible intro _ | with_reducible apply within_State_raise
    | with_reducible apply within_State_engineFails (Mask.sub hm rfl) | with_reducible refine Within.each ?_ ?_
    | exact touch_DEV_STAT (Mask.bit hm rfl) | exact Touch.any (Mask.bit hm rfl)

theorem within_State_loadUcode {m : Nat} {s₀ s : State}
    (hm : m ||| 0x30000800002000000000F901080E00000870000080000000181E0000780020000000011000000221E0200000702000B3400040020005C00382204203003FFFFFFFF = m)
    (f : StartFacts) (h₀ : Within m s₀ s) : Within m s₀ (State.loadUcode s f) := by
  unfold State.loadUcode
  repeat' first
    | with_reducible assumption | with_reducible apply Within.free (Mask.bit hm rfl) | with_reducible apply Within.wr
    | with_reducible apply within_State_baseLoaded (Mask.sub hm rfl)
    | with_reducible apply within_State_showLoaded (Mask.sub hm rfl) | with_reducible apply within_State_noUcode (Mask.sub hm rfl)
    | exact touch_CS_RES (Mask.bit hm rfl) | exact Touch.any (Mask.bit hm rfl) | with_reducible refine Within.ite ?_ ?_ | split
    | (extract_lets; split)

theorem within_State_loadCal {m : Nat} {s₀ s : State} (hm : m ||| 0x4000000000000000000000000000000000200000000 = m)
    (h₀ : Within m s₀ s) : Within m s₀ (State.loadCal s) := by
  unfold State.loadCal
  repeat' first
    | with_reducible assumption | with_reducible intro _ | with_reducible apply Within.wr | with_reducible apply within_State_raise
    | with_reducible refine Within.each ?_ ?_ | with_reducible refine Within.snd (by assumption) ?_
    | with_reducible refine Within.fst (by assumption) ?_ | exact Touch.cal (Mask.bit hm rfl) (by unfold calA; omega)
    | exact touch_DEV_STAT (Mask.bit hm rfl) | exact Touch.any (Mask.bit hm rfl) | with_reducible refine Within.ite ?_ ?_ | split
    | (extract_lets; split)

theorem within_State_loadJournals {m : Nat} {s₀ s : State} (hm : m ||| 0x1420000000000001C000000000000000000000000000000044020004 = m)
    (h₀ : Within m s₀ s) : Within m s₀ (State.loadJournals s) := by
  unfold State.loadJournals
  repeat' first
    | with_reducible assumption | with_reducible apply Within.wr | with_reducible apply within_State_raise
    | with_reducible apply within_State_raiseIf | with_reducible apply within_State_ageFrom (Mask.sub hm rfl)
    | with_reducible apply within_State_setCalendar (Mask.sub hm rfl) | with_reducible refine Within.snd (by assumption) ?_
    | with_reducible refine Within.fst (by assumption) ?_ | exact touch_LS_STAT (Mask.bit hm rfl)
    | exact touch_TL_AGE_RATE (Mask.bit hm rfl) | exact touch_TL_AGE_TRIM (Mask.bit hm rfl) | with_reducible refine Within.ite ?_ ?_
    | split | (extract_lets; split)
    | (with_reducible refine Within.mk ?_ ?hk
       case hk => (repeat' apply And.intro) <;> first | with_reducible exact .inr rfl | exact .inl (Mask.bit hm rfl)
       first
        | with_reducible assumption | with_reducible apply Within.wr | with_reducible apply within_State_raise
        | with_reducible apply within_State_raiseIf | with_reducible apply within_State_ageFrom (Mask.sub hm rfl)
        | with_reducible apply within_State_setCalendar (Mask.sub hm rfl) | with_reducible refine Within.snd (by assumption) ?_
        | with_reducible refine Within.fst (by assumption) ?_ | with_reducible refine Within.ite ?_ ?_ | split | (extract_lets; split)
        | (with_reducible refine Within.mk ?_ ?hk
           case hk => (repeat' apply And.intro) <;> first | with_reducible exact .inr rfl | exact .inl (Mask.bit hm rfl)
           first
            | with_reducible assumption | with_reducible apply Within.wr | with_reducible apply within_State_raise
            | with_reducible apply within_State_raiseIf | with_reducible apply within_State_ageFrom (Mask.sub hm rfl)
            | with_reducible apply within_State_setCalendar (Mask.sub hm rfl) | with_reducible refine Within.snd (by assumption) ?_
            | with_reducible refine Within.fst (by assumption) ?_ | with_reducible refine Within.ite ?_ ?_ | split
            | (extract_lets; split)))

theorem within_State_step11 {m : Nat} {s₀ s : State} (hm : m ||| 0x600002200000000000400200000000000000000000B000000 = m)
    (f : StartFacts) (h₀ : Within m s₀ s) : Within m s₀ (State.step11 s f) := by
  unfold State.step11
  repeat' first
    | with_reducible assumption | with_reducible apply within_State_setFld | with_reducible apply within_State_fault (Mask.sub hm rfl)
    | with_reducible apply within_State_helmTransfer (Mask.sub hm rfl) | with_reducible apply within_State_atStep (Mask.sub hm rfl)
    | exact touch_DEV_PWR_STAT (Mask.bit hm rfl) | exact touch_DEV_STATE (Mask.bit hm rfl) | exact touch_FC_HELM_STATE (Mask.bit hm rfl)
    | with_reducible refine Within.ite ?_ ?_ | split | (extract_lets; split)
    | (with_reducible refine Within.mk ?_ ?hk
       case hk => (repeat' apply And.intro) <;> first | with_reducible exact .inr rfl | exact .inl (Mask.bit hm rfl)
       first
        | with_reducible assumption | with_reducible apply within_State_setFld
        | with_reducible apply within_State_fault (Mask.sub hm rfl) | with_reducible apply within_State_helmTransfer (Mask.sub hm rfl)
        | with_reducible apply within_State_atStep (Mask.sub hm rfl) | with_reducible refine Within.ite ?_ ?_ | split
        | (extract_lets; split)
        | (with_reducible refine Within.mk ?_ ?hk
           case hk => (repeat' apply And.intro) <;> first | with_reducible exact .inr rfl | exact .inl (Mask.bit hm rfl)
           first
            | with_reducible assumption | with_reducible apply within_State_setFld
            | with_reducible apply within_State_fault (Mask.sub hm rfl)
            | with_reducible apply within_State_helmTransfer (Mask.sub hm rfl)
            | with_reducible apply within_State_atStep (Mask.sub hm rfl) | with_reducible refine Within.ite ?_ ?_ | split
            | (extract_lets; split)))

theorem within_State_stepsFrom8 {m : Nat} {s₀ s : State} (hm : m ||| 0x600002200000000003400200000000000000000010B000000 = m)
    (f : StartFacts) (stop : Nat) (h₀ : Within m s₀ s) : Within m s₀ (State.stepsFrom8 s f stop) := by
  unfold State.stepsFrom8
  repeat' first
    | with_reducible assumption | with_reducible apply within_State_raise
    | with_reducible apply within_State_raiseHold (Mask.sub hm rfl) | with_reducible apply within_State_atStep (Mask.sub hm rfl)
    | with_reducible apply within_State_failed (Mask.sub hm rfl) | with_reducible apply within_State_step11 (Mask.sub hm rfl)
    | exact touch_RG_STAT (Mask.bit hm rfl) | with_reducible refine Within.ite ?_ ?_ | split | (extract_lets; split)

theorem within_State_stepsFrom5 {m : Nat} {s₀ s : State}
    (hm : m ||| 0x30000800002000000000F901080E00000870000080000000181E0000780020000000011000014221E0600026703C00B3400340020005C00382204203003FFFFFFFF = m)
    (f : StartFacts) (stop : Nat) (h₀ : Within m s₀ s) : Within m s₀ (State.stepsFrom5 s f stop) := by
  unfold State.stepsFrom5
  repeat' first
    | with_reducible assumption | with_reducible apply within_State_atStep (Mask.sub hm rfl)
    | with_reducible apply within_State_step5 (Mask.sub hm rfl) | with_reducible apply within_State_step6 (Mask.sub hm rfl)
    | with_reducible apply within_State_loadUcode (Mask.sub hm rfl) | with_reducible apply within_State_loadCal (Mask.sub hm rfl)
    | with_reducible apply within_State_loadJournals (Mask.sub hm rfl) | with_reducible apply within_State_stepsFrom8 (Mask.sub hm rfl)
    | exact Touch.any (Mask.bit hm rfl) | with_reducible refine Within.ite ?_ ?_ | split | (extract_lets; split)

theorem within_execStartup {m : Nat} {s₀ s : State}
    (hm : m ||| 0x100000000030000800002000000000F901080F00000870000080000000181E000078006000000001100001C2A3E0600426703C00B34707401E0385C00382204203003FFFFFFFF = m)
    (f : StartFacts) (h₀ : Within m s₀ s) : AnswersWithin m s₀ (execStartup f s) := by
  unfold execStartup
  repeat' first
    | with_reducible assumption | with_reducible refine AnswersWithin.next ?_ | with_reducible refine AnswersWithin.ite ?_ ?_
    | with_reducible apply Within.advanceTo _ (Mask.bit hm rfl) | with_reducible apply within_State_setFld
    | with_reducible apply within_State_atStep (Mask.sub hm rfl) | with_reducible apply within_State_failed (Mask.sub hm rfl)
    | with_reducible apply within_State_step3 (Mask.sub hm rfl) | with_reducible apply within_State_step4 (Mask.sub hm rfl)
    | with_reducible apply within_State_stepsFrom5 (Mask.sub hm rfl) | exact touch_DEV_PWR_STAT (Mask.bit hm rfl)
    | exact Touch.any (Mask.bit hm rfl) | with_reducible refine Within.ite ?_ ?_ | split | (extract_lets; split)
    | (with_reducible refine Within.mk ?_ ?hk
       case hk => (repeat' apply And.intro) <;> first | with_reducible exact .inr rfl | exact .inl (Mask.bit hm rfl)
       first
        | with_reducible assumption | with_reducible apply Within.advanceTo _ (Mask.bit hm rfl)
        | with_reducible apply within_State_setFld | with_reducible apply within_State_atStep (Mask.sub hm rfl)
        | with_reducible apply within_State_failed (Mask.sub hm rfl) | with_reducible apply within_State_step3 (Mask.sub hm rfl)
        | with_reducible apply within_State_step4 (Mask.sub hm rfl) | with_reducible apply within_State_stepsFrom5 (Mask.sub hm rfl)
        | with_reducible refine Within.ite ?_ ?_ | split | (extract_lets; split)
        | (with_reducible refine Within.mk ?_ ?hk
           case hk => (repeat' apply And.intro) <;> first | with_reducible exact .inr rfl | exact .inl (Mask.bit hm rfl)
           first
            | with_reducible assumption | with_reducible apply Within.advanceTo _ (Mask.bit hm rfl)
            | with_reducible apply within_State_setFld | with_reducible apply within_State_atStep (Mask.sub hm rfl)
            | with_reducible apply within_State_failed (Mask.sub hm rfl) | with_reducible apply within_State_step3 (Mask.sub hm rfl)
            | with_reducible apply within_State_step4 (Mask.sub hm rfl)
            | with_reducible apply within_State_stepsFrom5 (Mask.sub hm rfl) | with_reducible refine Within.ite ?_ ?_ | split
            | (extract_lets; split)))

theorem within_execThermalRestart {m : Nat} {s₀ s : State} (hm : m ||| 0x220040070000000000000000000000000004000003FFFFFFFF = m)
    (h₀ : Within m s₀ s) : AnswersWithin m s₀ (execThermalRestart s) := by
  unfold execThermalRestart
  repeat' first
    | with_reducible assumption | with_reducible refine AnswersWithin.next ?_ | with_reducible apply within_State_raise
    | with_reducible apply Within.advanceTo _ (Mask.bit hm rfl) | with_reducible apply within_State_deepWake (Mask.sub hm rfl)
    | with_reducible apply within_State_closeAll (Mask.sub hm rfl) | with_reducible apply within_State_resetLevel (Mask.sub hm rfl)
    | with_reducible refine Within.snd (by assumption) ?_ | with_reducible refine Within.fst (by assumption) ?_
    | exact touch_TH_STAT (Mask.bit hm rfl) | exact Touch.any (Mask.bit hm rfl) | with_reducible refine Within.ite ?_ ?_ | split | (extract_lets; split)
    | (with_reducible refine Within.mk ?_ ?hk
       case hk => (repeat' apply And.intro) <;> first | with_reducible exact .inr rfl | exact .inl (Mask.bit hm rfl)
       first
        | with_reducible assumption | with_reducible apply Within.advanceTo _ (Mask.bit hm rfl)
        | with_reducible apply within_State_deepWake (Mask.sub hm rfl) | with_reducible apply within_State_closeAll (Mask.sub hm rfl)
        | with_reducible apply within_State_resetLevel (Mask.sub hm rfl) | with_reducible refine Within.snd (by assumption) ?_
        | with_reducible refine Within.fst (by assumption) ?_ | with_reducible refine Within.ite ?_ ?_ | split | (extract_lets; split)
        | (with_reducible refine Within.mk ?_ ?hk
           case hk => (repeat' apply And.intro) <;> first | with_reducible exact .inr rfl | exact .inl (Mask.bit hm rfl)
           first
            | with_reducible assumption | with_reducible apply Within.advanceTo _ (Mask.bit hm rfl)
            | with_reducible apply within_State_deepWake (Mask.sub hm rfl)
            | with_reducible apply within_State_closeAll (Mask.sub hm rfl)
            | with_reducible apply within_State_resetLevel (Mask.sub hm rfl) | with_reducible refine Within.snd (by assumption) ?_
            | with_reducible refine Within.fst (by assumption) ?_ | with_reducible refine Within.ite ?_ ?_ | split
            | (extract_lets; split)))

theorem within_execBeaconBootDone {m : Nat} {s₀ s : State}
    (hm : m ||| 0x10000800002000000000F901080E00000870000098003000181E000C78002000000001100000020000200000702000B3400040020005C003EA204243003FFFFFFFF = m)
    (fw : Option Word) (at_ : Nat) (h₀ : Within m s₀ s) : AnswersWithin m s₀ (execBeaconBootDone fw at_ s) := by
  unfold execBeaconBootDone
  repeat' first
    | with_reducible assumption | with_reducible refine AnswersWithin.next ?_ | with_reducible refine AnswersWithin.ite ?_ ?_
    | with_reducible apply Within.wr | with_reducible apply Within.advanceTo _ (Mask.bit hm rfl)
    | with_reducible apply within_State_setFld | with_reducible apply within_State_raise
    | with_reducible apply within_State_fault (Mask.sub hm rfl) | with_reducible apply within_State_resumePlacing (Mask.sub hm rfl)
    | with_reducible apply within_State_startOp (Mask.sub hm rfl) | with_reducible apply within_State_noUcode (Mask.sub hm rfl)
    | with_reducible refine Within.snd (by assumption) ?_ | with_reducible refine Within.fst (by assumption) ?_
    | exact touch_DEV_FW_VER (Mask.bit hm rfl) | exact touch_DEV_STAT (Mask.bit hm rfl) | exact touch_FC_HELM_STATE (Mask.bit hm rfl)
    | exact Touch.any (Mask.bit hm rfl) | with_reducible refine Within.ite ?_ ?_ | split | (extract_lets; split)
    | (with_reducible refine Within.mk ?_ ?hk
       case hk => (repeat' apply And.intro) <;> first | with_reducible exact .inr rfl | exact .inl (Mask.bit hm rfl)
       first
        | with_reducible assumption | with_reducible apply Within.wr | with_reducible apply Within.advanceTo _ (Mask.bit hm rfl)
        | with_reducible apply within_State_setFld | with_reducible apply within_State_raise
        | with_reducible apply within_State_fault (Mask.sub hm rfl) | with_reducible apply within_State_resumePlacing (Mask.sub hm rfl)
        | with_reducible apply within_State_startOp (Mask.sub hm rfl) | with_reducible apply within_State_noUcode (Mask.sub hm rfl)
        | with_reducible refine Within.snd (by assumption) ?_ | with_reducible refine Within.fst (by assumption) ?_
        | with_reducible refine Within.ite ?_ ?_ | split | (extract_lets; split)
        | (with_reducible refine Within.mk ?_ ?hk
           case hk => (repeat' apply And.intro) <;> first | with_reducible exact .inr rfl | exact .inl (Mask.bit hm rfl)
           first
            | with_reducible assumption | with_reducible apply Within.wr | with_reducible apply Within.advanceTo _ (Mask.bit hm rfl)
            | with_reducible apply within_State_setFld | with_reducible apply within_State_raise
            | with_reducible apply within_State_fault (Mask.sub hm rfl)
            | with_reducible apply within_State_resumePlacing (Mask.sub hm rfl)
            | with_reducible apply within_State_startOp (Mask.sub hm rfl) | with_reducible apply within_State_noUcode (Mask.sub hm rfl)
            | with_reducible refine Within.snd (by assumption) ?_ | with_reducible refine Within.fst (by assumption) ?_
            | with_reducible refine Within.ite ?_ ?_ | split | (extract_lets; split)))

end Sys2Proof.Machine
end

