-- ==== Sys2Proof/Laws/RegAccessWithin.lean ====
section
/-! SUPPORT. What the definitions of Machine/RegAccess.lean keep, and all that they may change (Laws/Within.lean). -/

namespace Sys2Proof.Machine

set_option linter.all false

theorem within_State_latchLimits {m : Nat} {s₀ s : State} (hm : m ||| 0x8000000000000000000000000000000000000000000000000000000000000000000000000000000000000000000000000000000000 = m) (n : Nat) (limit clamp : Bool)
    (h₀ : Within m s₀ s) : Within m s₀ (State.latchLimits s n limit clamp) :=
  within_State_raiseIf _ _ _ (touch_PM_STAT (Mask.bit hm rfl) n) (within_State_raiseIf _ _ _ (touch_PM_STAT (Mask.bit hm rfl) n) h₀)

theorem within_State_regValue {m : Nat} {s₀ s : State} (hm : m ||| 0x8000000000000000000000000000000000000000000000000000000000000000000000000000000000000000000000000000000004 = m) (a : Nat) (h₀ : Within m s₀ s) :
    Within m s₀ (State.regValue s a).2 := by
  unfold State.regValue
  repeat' first
    | with_reducible assumption | with_reducible apply within_State_latchLimits (Mask.sub hm rfl) | with_reducible apply Within.free (Mask.bit hm rfl)
    | with_reducible refine Within.snd (by assumption) ?_ | with_reducible refine Within.fst (by assumption) ?_
    | with_reducible refine Within.ite ?_ ?_ | split | (extract_lets; split)

theorem within_State_advance {m : Nat} {s₀ s : State}
    (hm : m ||| 0x200000040000000010000900000000000000121008000000000000000000000000401000000000000000000000000 = m) (a : Nat)
    (h₀ : Within m s₀ s) : Within m s₀ (State.advance s a) := by
  unfold State.advance
  repeat' first
    | with_reducible assumption | with_reducible apply within_State_wvAdvance (Mask.sub hm rfl)
    | with_reducible apply within_State_edAdvance (Mask.sub hm rfl) | with_reducible apply within_State_agAdvance (Mask.sub hm rfl)
    | with_reducible apply within_State_sgAdvance (Mask.sub hm rfl) | with_reducible apply within_State_btAdvance (Mask.sub hm rfl)
    | with_reducible apply within_State_plTabAdvance (Mask.sub hm rfl) | with_reducible apply within_State_cbAdvance (Mask.sub hm rfl)
    | with_reducible apply within_State_stageAdvance (Mask.sub hm rfl) | with_reducible apply within_State_cntAdvance (Mask.sub hm rfl)
    | with_reducible apply within_State_histAdvance (Mask.sub hm rfl) | with_reducible apply within_State_setupAdvance (Mask.sub hm rfl)
    | with_reducible refine Within.snd (by assumption) ?_ | with_reducible refine Within.fst (by assumption) ?_
    | with_reducible refine Within.ite ?_ ?_ | split | (extract_lets; split)

theorem within_State_regRead {m : Nat} {s₀ s : State}
    (hm : m ||| 0x8000000000000200000040000000010000900000000000000121008000000000000000000000000401000000000000000200000004 = m) (m_ : Master)
    (a : Nat) (h₀ : Within m s₀ s) : Within m s₀ (State.regRead s m_ a).2 := by
  unfold State.regRead
  repeat' first
    | with_reducible assumption | with_reducible apply Within.wr | with_reducible apply within_State_regValue (Mask.sub hm rfl)
    | with_reducible apply within_State_advance (Mask.sub hm rfl) | with_reducible refine Within.snd (by assumption) ?_
    | with_reducible refine Within.fst (by assumption) ?_ | exact Touch.any (Mask.bit hm rfl) | with_reducible refine Within.ite ?_ ?_
    | split | (extract_lets; split)

theorem within_State_lockViolation {m : Nat} {s₀ s : State} (hm : m ||| 0x800001000000 = m) (a : Nat) (h₀ : Within m s₀ s) :
    Within m s₀ (State.lockViolation s a) := by
  unfold State.lockViolation
  repeat' first
    | with_reducible assumption | with_reducible apply within_State_setFld | with_reducible apply within_State_satAdd
    | with_reducible apply within_State_fault (Mask.sub hm rfl) | exact touch_DEV_LOCK_VIOL (Mask.bit hm rfl)

theorem within_State_privViolation {m : Nat} {s₀ s : State} (hm : m ||| 0x1000000000000 = m) (a : Nat) (h₀ : Within m s₀ s) :
    Within m s₀ (State.privViolation s a) := by
  unfold State.privViolation
  repeat' first
    | with_reducible assumption | with_reducible apply within_State_setFld | with_reducible apply within_State_satAdd
    | exact touch_DEV_PRIV_VIOL (Mask.bit hm rfl)

theorem within_State_qpEnable {m : Nat} {s₀ s : State}
    (hm : m ||| 0x3000000000000000000000000000000000000000000000000000000000000000000000000000000000000000000000000000000000000000200004000 = m)
    (q : Nat) (h₀ : Within m s₀ s) : Within m s₀ (State.qpEnable s q) := by
  unfold State.qpEnable
  repeat' first
    | with_reducible assumption | with_reducible intro _ | with_reducible apply Within.wr | with_reducible apply within_State_setFld
    | with_reducible apply within_State_raise | with_reducible apply within_State_setQp (Mask.sub hm rfl)
    | with_reducible refine Within.each ?_ ?_ | exact touch_HT_QP_CTRL (Mask.bit hm rfl) _ | exact touch_HT_QP_STAT (Mask.bit hm rfl) _
    | exact Touch.any (Mask.bit hm rfl) | with_reducible refine Within.ite ?_ ?_ | split | (extract_lets; split)

theorem within_State_qpDisable {m : Nat} {s₀ s : State}
    (hm : m ||| 0x200000300000000000000000000000000000000000000000000000000000000000000000000000000000000000000000400200000000000000000000208C000 = m)
    (q : Nat) (h₀ : Within m s₀ s) : Within m s₀ (State.qpDisable s q) := by
  unfold State.qpDisable
  repeat' first
    | with_reducible assumption | with_reducible apply within_State_setFld
    | with_reducible apply within_State_leaveRts (Mask.sub hm rfl) | with_reducible refine Within.snd (by assumption) ?_
    | with_reducible refine Within.fst (by assumption) ?_ | exact touch_HT_QP_CTRL (Mask.bit hm rfl) _
    | exact touch_HT_QP_PRIV (Mask.bit hm rfl) _ | with_reducible refine Within.ite ?_ ?_ | split | (extract_lets; split)

theorem within_State_qpCtrlWrite {m : Nat} {s₀ s : State}
    (hm : m ||| 0x200000300000000000000000000000000000000000000000000000000000000000000000000000000000000000000000400200000000000000000020208C000 = m)
    (q : Nat) (d : Word) (h₀ : Within m s₀ s) : Within m s₀ (State.qpCtrlWrite s q d) := by
  unfold State.qpCtrlWrite
  repeat' first
    | with_reducible assumption | with_reducible apply Within.wr | with_reducible apply within_State_raise
    | with_reducible apply within_State_raiseIf | with_reducible apply within_State_qpEnable (Mask.sub hm rfl)
    | with_reducible apply within_State_qpDisable (Mask.sub hm rfl) | exact touch_HT_QP_CTRL (Mask.bit hm rfl) _
    | exact touch_HT_QP_STAT (Mask.bit hm rfl) _ | exact Touch.any (Mask.bit hm rfl) | with_reducible refine Within.ite ?_ ?_ | split
    | (extract_lets; split)

theorem within_State_qpWrite {m : Nat} {s₀ s : State}
    (hm : m ||| 0x200000300000000000000000000000000000000000000000000000000000000000000000000000000000000000000000400200000000000000000020208C000 = m)
    (q : Nat) (a : Nat) (d : Word) (v : Word) (h₀ : Within m s₀ s) : Within m s₀ (State.qpWrite s q a d v) := by
  unfold State.qpWrite
  repeat' first
    | with_reducible assumption | with_reducible apply Within.wr | with_reducible apply within_State_raise
    | with_reducible apply within_State_qpCtrlWrite (Mask.sub hm rfl) | exact touch_HT_QP_STAT (Mask.bit hm rfl) _
    | exact Touch.any (Mask.bit hm rfl) | with_reducible refine Within.ite ?_ ?_ | split | (extract_lets; split)

theorem within_State_ringCfgWrite {m : Nat} {s₀ s : State} (hm : m ||| 0x2000800000400200000000000000000030A020004 = m) (a : Nat)
    (v : Word) (h₀ : Within m s₀ s) : Within m s₀ (State.ringCfgWrite s a v) := by
  unfold State.ringCfgWrite
  repeat' first
    | with_reducible assumption | with_reducible apply Within.wr | with_reducible apply within_State_setFld
    | with_reducible apply within_State_raise | with_reducible apply within_State_raiseIf
    | with_reducible apply within_State_deviceApplied (Mask.sub hm rfl) | exact touch_HT_STAT (Mask.bit hm rfl)
    | exact Touch.any (Mask.bit hm rfl) | with_reducible refine Within.ite ?_ ?_ | split | (extract_lets; split)

theorem within_State_controlWrite {m : Nat} {s₀ s : State}
    (hm : m ||| 0x100000000010002800003000000000F901080E00000870000098002000181E0000780060000000011000100608CF603522702000B3400140020385C003EA204243003FFFFFFFF = m)
    (m_ : Master) (al : Alias) (a : Nat) (d : Word) (v : Word) (h₀ : Within m s₀ s) :
    Within m s₀ (State.controlWrite s m_ al a d v) := by
  unfold State.controlWrite
  repeat' first
    | with_reducible assumption | with_reducible apply Within.wr | with_reducible apply within_State_strobe (Mask.sub hm rfl)
    | with_reducible apply within_State_flDevCommand (Mask.sub hm rfl) | with_reducible apply within_State_updCtrl (Mask.sub hm rfl)
    | with_reducible apply within_State_recSel (Mask.sub hm rfl) | with_reducible apply within_State_logSel (Mask.sub hm rfl)
    | with_reducible apply within_State_wdtKick (Mask.sub hm rfl) | with_reducible apply within_State_helmCommand (Mask.sub hm rfl)
    | with_reducible apply within_State_fcAck (Mask.sub hm rfl) | with_reducible apply within_State_fcForce (Mask.sub hm rfl)
    | with_reducible apply within_State_thExclude (Mask.sub hm rfl) | with_reducible apply within_State_rtCommand (Mask.sub hm rfl)
    | with_reducible apply within_State_stageWrite (Mask.sub hm rfl) | with_reducible apply within_State_csCommand (Mask.sub hm rfl)
    | with_reducible apply within_State_lsCommand (Mask.sub hm rfl) | with_reducible apply within_State_setupWrite (Mask.sub hm rfl)
    | with_reducible apply within_State_pwrCommand (Mask.sub hm rfl) | exact Touch.any (Mask.bit hm rfl)
    | with_reducible refine Within.ite ?_ ?_ | split | (extract_lets; split)

theorem within_State_deviceWrite {m : Nat} {s₀ s : State}
    (hm : m ||| 0x100000000000000800002000000000F901080E00000870000080601000181E000478002000000001100000020000200000703001B3470740024381580B82204203003FFFFFFFF = m)
    (al : Alias) (a : Nat) (d : Word) (v : Word) (h₀ : Within m s₀ s) : Within m s₀ (State.deviceWrite s al a d v) := by
  unfold State.deviceWrite
  repeat' first
    | with_reducible assumption | with_reducible apply Within.wr | with_reducible apply within_State_spCommand (Mask.sub hm rfl)
    | with_reducible apply within_State_release (Mask.sub hm rfl) | with_reducible apply within_State_cbWrite (Mask.sub hm rfl)
    | with_reducible apply within_State_calCommand (Mask.sub hm rfl) | with_reducible apply within_State_rgCommand (Mask.sub hm rfl)
    | with_reducible apply within_State_rgBypass (Mask.sub hm rfl) | with_reducible apply within_State_rgAddr (Mask.sub hm rfl)
    | with_reducible apply within_State_ageWrite (Mask.sub hm rfl) | with_reducible apply within_State_tlCommand (Mask.sub hm rfl)
    | with_reducible apply within_State_cbCommit (Mask.sub hm rfl) | with_reducible apply within_State_ringCfgWrite (Mask.sub hm rfl)
    | exact Touch.any (Mask.bit hm rfl) | with_reducible refine Within.ite ?_ ?_ | split | (extract_lets; split)

theorem within_State_aqCtrl {m : Nat} {s₀ s : State}
    (hm : m ||| 0x1FF000000000000000000000000000000000000000000000000000000000000000000000000000000000000000000080804 = m) (k : Nat)
    (d : Word) (h₀ : Within m s₀ s) : Within m s₀ (State.aqCtrl s k d) := by
  unfold State.aqCtrl
  repeat' first
    | with_reducible assumption | with_reducible apply within_State_aqTrigger (Mask.sub hm rfl)
    | with_reducible apply within_State_aqStop (Mask.sub hm rfl) | with_reducible apply within_State_aqStart (Mask.sub hm rfl)
    | with_reducible refine Within.ite ?_ ?_ | split | (extract_lets; split)

theorem within_State_flagsWrite {m : Nat} {s₀ s : State}
    (hm : m ||| 0x1000000000000000000000000000000000000000000000000000000000000000000000000040 = m) (k : Nat) (v : Word)
    (h₀ : Within m s₀ s) : Within m s₀ (State.flagsWrite s k v) := by
  unfold State.flagsWrite
  repeat' first
    | with_reducible assumption | with_reducible intro _ | with_reducible apply within_State_setFld
    | with_reducible apply within_State_modStrand (Mask.sub hm rfl) | exact touch_SQ_FLAGS (Mask.bit hm rfl) _
    | with_reducible refine Within.ite ?_ ?_ | split | (extract_lets; split)
    | (with_reducible refine Within.mk ?_ ?hk
       case hk => (repeat' apply And.intro) <;> first | with_reducible exact .inr rfl | exact .inl (Mask.bit hm rfl)
       first
        | with_reducible assumption | with_reducible apply within_State_setFld
        | with_reducible apply within_State_modStrand (Mask.sub hm rfl) | with_reducible refine Within.ite ?_ ?_ | split
        | (extract_lets; split)
        | (with_reducible refine Within.mk ?_ ?hk
           case hk => (repeat' apply And.intro) <;> first | with_reducible exact .inr rfl | exact .inl (Mask.bit hm rfl)
           first
            | with_reducible assumption | with_reducible apply within_State_setFld
            | with_reducible apply within_State_modStrand (Mask.sub hm rfl) | with_reducible refine Within.ite ?_ ?_ | split
            | (extract_lets; split)))

theorem within_State_strandWrite {m : Nat} {s₀ s : State}
    (hm : m ||| 0x800002000000000F901080E00001FF0002080003400185E001978092000000001000000020000200000702000B3400040020000000382204203003FFFFFFFF = m)
    (al : Alias) (k : Nat) (off : Nat) (d : Word) (v : Word) (h₀ : Within m s₀ s) : Within m s₀ (State.strandWrite s al k off d v) := by
  unfold State.strandWrite
  repeat' first
    | with_reducible assumption | with_reducible apply Within.wr | with_reducible apply within_State_wvWrite (Mask.sub hm rfl)
    | with_reducible apply within_State_edWrite (Mask.sub hm rfl) | with_reducible apply within_State_agTabWrite (Mask.sub hm rfl)
    | with_reducible apply within_State_sgWrite (Mask.sub hm rfl) | with_reducible apply within_State_sqCommand (Mask.sub hm rfl)
    | with_reducible apply within_State_btWrite (Mask.sub hm rfl) | with_reducible apply within_State_flCommand (Mask.sub hm rfl)
    | with_reducible apply within_State_flDieWrite (Mask.sub hm rfl) | with_reducible apply within_State_aqCtrl (Mask.sub hm rfl)
    | with_reducible apply within_State_flagsWrite (Mask.sub hm rfl) | exact Touch.any (Mask.bit hm rfl)
    | with_reducible refine Within.ite ?_ ?_ | split | (extract_lets; split)

theorem within_State_tdCtrl {m : Nat} {s₀ s : State}
    (hm : m ||| 0xFF0000000000000000000000000000000000000000000000000000000000000000000000000000004002000000000000000000002000400 = m)
    (n : Nat) (d : Word) (h₀ : Within m s₀ s) : Within m s₀ (State.tdCtrl s n d) := by
  unfold State.tdCtrl
  repeat' first
    | with_reducible assumption | with_reducible apply within_State_tdStart (Mask.sub hm rfl)
    | with_reducible apply within_State_tdStop (Mask.sub hm rfl) | with_reducible refine Within.ite ?_ ?_ | split
    | (extract_lets; split)

theorem within_State_pinWrite {m : Nat} {s₀ s : State}
    (hm : m ||| 0xFF00082B920000000000000000000000000000000000000000000000000000000000000000000000400200000000000000000020204079C = m)
    (n : Nat) (off : Nat) (d : Word) (v : Word) (present : Option Bool) (h₀ : Within m s₀ s) :
    Within m s₀ (State.pinWrite s n off d v present) := by
  unfold State.pinWrite
  repeat' first
    | with_reducible assumption | with_reducible apply Within.wr | with_reducible apply Within.free (Mask.bit hm rfl)
    | with_reducible apply within_State_forceDirect (Mask.sub hm rfl) | with_reducible apply within_State_psLimWrite (Mask.sub hm rfl)
    | with_reducible apply within_State_pmLimWrite (Mask.sub hm rfl) | with_reducible apply within_State_evtWrite (Mask.sub hm rfl)
    | with_reducible apply within_State_bwCtrlWrite (Mask.sub hm rfl) | with_reducible apply within_State_tdCtrl (Mask.sub hm rfl)
    | with_reducible refine Within.snd (by assumption) ?_ | with_reducible refine Within.fst (by assumption) ?_
    | exact Touch.any (Mask.bit hm rfl) | with_reducible refine Within.ite ?_ ?_ | split | (extract_lets; split)

theorem within_State_writeReg {m : Nat} {s₀ s : State}
    (hm : m ||| 0x100000000010002800003000000000FF01082F92001FF0002098603400185E001D780960000000011000100608CF603522703001B3470740024385D80BEA204243003FFFFFFFF = m)
    (m_ : Master) (al : Alias) (a : Nat) (d : Word) (v : Word) (present : Option Bool) (h₀ : Within m s₀ s) :
    Within m s₀ (State.writeReg s m_ al a d v present) := by
  unfold State.writeReg
  repeat' first
    | with_reducible assumption | with_reducible apply Within.wr | with_reducible apply within_State_cvCommand (Mask.sub hm rfl)
    | with_reducible apply within_State_regValue (Mask.sub hm rfl) | with_reducible apply within_State_qpWrite (Mask.sub hm rfl)
    | with_reducible apply within_State_controlWrite (Mask.sub hm rfl) | with_reducible apply within_State_deviceWrite (Mask.sub hm rfl)
    | with_reducible apply within_State_strandWrite (Mask.sub hm rfl) | with_reducible apply within_State_pinWrite (Mask.sub hm rfl)
    | with_reducible refine Within.snd (by assumption) ?_ | with_reducible refine Within.fst (by assumption) ?_
    | exact Touch.any (Mask.bit hm rfl) | with_reducible refine Within.ite ?_ ?_ | split | (extract_lets; split)

theorem within_State_writeWord {m : Nat} {s₀ s : State}
    (hm : m ||| 0x100000000010002800003000000000FF01082F92001FF0002098603400185E001D780960000000011000100608CF603522703001B3470740024385D80BEA20425B003FFFFFFFF = m)
    (m_ : Master) (a : Nat) (d : Word) (present : Option Bool) (h₀ : Within m s₀ s) :
    Within m s₀ (State.writeWord s m_ a d present) := by
  unfold State.writeWord
  repeat' first
    | with_reducible assumption | with_reducible apply Within.wr | with_reducible apply within_State_writeShadow (Mask.sub hm rfl)
    | with_reducible apply within_State_regValue (Mask.sub hm rfl) | with_reducible apply within_State_lockViolation (Mask.sub hm rfl)
    | with_reducible apply within_State_privViolation (Mask.sub hm rfl) | with_reducible apply within_State_writeReg (Mask.sub hm rfl)
    | with_reducible refine Within.snd (by assumption) ?_ | with_reducible refine Within.fst (by assumption) ?_
    | exact Touch.any (Mask.bit hm rfl) | with_reducible refine Within.ite ?_ ?_ | split | (extract_lets; split)

theorem within_State_noteBusError {m : Nat} {s₀ s : State} (hm : m ||| 0x10000000000 = m) (m_ : Master) (a : Nat) (h₀ : Within m s₀ s) :
    Within m s₀ (State.noteBusError s m_ a) := by
  unfold State.noteBusError
  repeat' first
    | with_reducible assumption | with_reducible apply Within.wr | exact touch_DEV_BUS_ERR (Mask.bit hm rfl)

theorem within_State_readBurst {m : Nat} {s₀ s : State}
    (hm : m ||| 0x8000000000000200000040000000010000900000000000000121008000000000000000000000000401000000000000010200000004 = m) (m_ : Master)
    (addrs : List Nat) (addr : Nat) (tail : Nat) (h₀ : Within m s₀ s) : Within m s₀ (State.readBurst s m_ addrs addr tail).2 := by
  unfold State.readBurst
  repeat' first
    | with_reducible assumption | with_reducible intro _ | with_reducible apply within_State_regRead (Mask.sub hm rfl)
    | with_reducible apply within_State_noteBusError (Mask.sub hm rfl) | with_reducible refine Within.foldl _ ?_ ?_
    | with_reducible refine Within.foldlFst _ ?_ ?_ | with_reducible refine Within.foldlSnd _ ?_ ?_
    | with_reducible refine Within.snd (by assumption) ?_ | with_reducible refine Within.fst (by assumption) ?_
    | exact Touch.any (Mask.bit hm rfl) | with_reducible refine Within.ite ?_ ?_ | split | (extract_lets; split)

theorem within_State_writeBurst {m : Nat} {s₀ s : State}
    (hm : m ||| 0x100000000010002800003000000000FF01082F92001FF0002098603400185E001D780960000000011000100608CF603522703001B3470740024385D80BEA20425B103FFFFFFFF = m)
    (m_ : Master) (addrs : List Nat) (data : List Word) (addr : Nat) (tail : Nat) (present : Option Bool) (h₀ : Within m s₀ s) :
    Within m s₀ (State.writeBurst s m_ addrs data addr tail present).2 := by
  unfold State.writeBurst
  repeat' first
    | with_reducible assumption | with_reducible intro _ | with_reducible apply Within.wr
    | with_reducible apply within_State_modStrand (Mask.sub hm rfl) | with_reducible apply within_State_writeWord (Mask.sub hm rfl)
    | with_reducible apply within_State_noteBusError (Mask.sub hm rfl) | with_reducible refine Within.foldl _ ?_ ?_
    | with_reducible refine Within.foldlFst _ ?_ ?_ | with_reducible refine Within.foldlSnd _ ?_ ?_
    | with_reducible refine Within.snd (by assumption) ?_ | with_reducible refine Within.fst (by assumption) ?_
    | exact Touch.any (Mask.bit hm rfl) | with_reducible refine Within.ite ?_ ?_ | split | (extract_lets; split)
    | (with_reducible refine Within.mk ?_ ?hk
       case hk => (repeat' apply And.intro) <;> first | with_reducible exact .inr rfl | exact .inl (Mask.bit hm rfl)
       first
        | with_reducible assumption | with_reducible apply Within.wr | with_reducible apply within_State_modStrand (Mask.sub hm rfl)
        | with_reducible apply within_State_writeWord (Mask.sub hm rfl)
        | with_reducible apply within_State_noteBusError (Mask.sub hm rfl) | with_reducible refine Within.foldl _ ?_ ?_
        | with_reducible refine Within.foldlFst _ ?_ ?_ | with_reducible refine Within.foldlSnd _ ?_ ?_
        | with_reducible refine Within.snd (by assumption) ?_ | with_reducible refine Within.fst (by assumption) ?_
        | with_reducible refine Within.ite ?_ ?_ | split | (extract_lets; split)
        | (with_reducible refine Within.mk ?_ ?hk
           case hk => (repeat' apply And.intro) <;> first | with_reducible exact .inr rfl | exact .inl (Mask.bit hm rfl)
           first
            | with_reducible assumption | with_reducible apply Within.wr
            | with_reducible apply within_State_modStrand (Mask.sub hm rfl)
            | with_reducible apply within_State_writeWord (Mask.sub hm rfl)
            | with_reducible apply within_State_noteBusError (Mask.sub hm rfl) | with_reducible refine Within.foldl _ ?_ ?_
            | with_reducible refine Within.foldlFst _ ?_ ?_ | with_reducible refine Within.foldlSnd _ ?_ ?_
            | with_reducible refine Within.snd (by assumption) ?_ | with_reducible refine Within.fst (by assumption) ?_
            | with_reducible refine Within.ite ?_ ?_ | split | (extract_lets; split)))

theorem within_State_report {m : Nat} {s₀ s : State} (hm : m ||| 0x100000000 = m) (m_ : Master) (r : Access) (read : Bool)
    (h₀ : Within m s₀ s) : Within m s₀ (State.report s m_ r read) := by
  unfold State.report
  repeat' first
    | with_reducible assumption | with_reducible apply Within.send _ (Mask.bit hm rfl)
    | with_reducible refine Within.snd (by assumption) ?_ | with_reducible refine Within.fst (by assumption) ?_
    | with_reducible refine Within.ite ?_ ?_ | split | (extract_lets; split)

theorem within_State_busWrite {m : Nat} {s₀ s : State}
    (hm : m ||| 0x100000000010002800003000000000FF01082F92001FF0002098603400185E001D780960000000011000100608CF603522703001B3470740024385D80BEA20425B103FFFFFFFF = m)
    (m_ : Master) (addr : Nat) (data : List Word) (tail : Nat) (present : Option Bool) (h₀ : Within m s₀ s) :
    Within m s₀ (State.busWrite s m_ addr data tail present) := by
  unfold State.busWrite
  repeat' first
    | with_reducible assumption | with_reducible apply Within.wr | with_reducible apply within_State_writeBurst (Mask.sub hm rfl)
    | with_reducible apply within_State_report (Mask.sub hm rfl) | with_reducible refine Within.snd (by assumption) ?_
    | with_reducible refine Within.fst (by assumption) ?_ | exact Touch.any (Mask.bit hm rfl) | with_reducible refine Within.ite ?_ ?_
    | split | (extract_lets; split)

theorem within_State_busRead {m : Nat} {s₀ s : State}
    (hm : m ||| 0x8000000000000200000040000000010000900000000000000121008000000000000000000000000401000000000000010300000004 = m) (m_ : Master)
    (addr : Nat) (n : Nat) (tail : Nat) (h₀ : Within m s₀ s) : Within m s₀ (State.busRead s m_ addr n tail) := by
  unfold State.busRead
  repeat' first
    | with_reducible assumption | with_reducible apply within_State_readBurst (Mask.sub hm rfl)
    | with_reducible apply within_State_report (Mask.sub hm rfl) | with_reducible refine Within.snd (by assumption) ?_
    | with_reducible refine Within.fst (by assumption) ?_ | exact Touch.any (Mask.bit hm rfl) | with_reducible refine Within.ite ?_ ?_
    | split | (extract_lets; split)

theorem within_State_busWord {m : Nat} {s₀ s : State}
    (hm : m ||| 0x100000000010002800003000000000FF01082F92001FF0002098603400185E001D780960000000011000100608CF603522703001B3470740024385D80BEA20425B103FFFFFFFF = m)
    (m_ : Master) (al : Alias) (a : Nat) (d : Word) (h₀ : Within m s₀ s) : Within m s₀ (State.busWord s m_ al a d) := by
  unfold State.busWord
  repeat' first
    | with_reducible assumption | with_reducible apply within_State_busWrite (Mask.sub hm rfl)
    | with_reducible refine Within.snd (by assumption) ?_ | with_reducible refine Within.fst (by assumption) ?_
    | exact Touch.any (Mask.bit hm rfl) | with_reducible refine Within.ite ?_ ?_ | split | (extract_lets; split)

end Sys2Proof.Machine
end

