-- ==== Sys2Proof/Laws/RegRowsWithin.lean ====
section
/-! SUPPORT. What the definitions of Machine/RegRows.lean keep, and all that they may change (Laws/Within.lean). -/

namespace Sys2Proof.Machine

set_option linter.all false

theorem within_execRegWrite {m : Nat} {s₀ s : State}
    (hm : m ||| 0x100000000010002800003000000000FF01082F92001FF0002098603400185E001D780960000000011000100608CF603522703001B3470740024385D80BEA20425B103FFFFFFFF = m)
    (m_ : Master) (addr : BitVec 24) (data : List Word) (tail : Fin 4) (h₀ : Within m s₀ s) :
    AnswersWithin m s₀ (execRegWrite m_ addr data tail s) := by
  unfold execRegWrite
  repeat' first
    | with_reducible assumption | with_reducible refine AnswersWithin.next ?_
    | with_reducible apply within_State_busWrite (Mask.sub hm rfl) | exact Touch.any (Mask.bit hm rfl)

theorem within_execRcRead {m : Nat} {s₀ s : State}
    (hm : m ||| 0x8000000000000200000040000000010000900000000000000121008000000000000000000000000401000000000000010300000004 = m) (m_ : Master)
    (addr : BitVec 24) (count : Nat) (tail : Fin 4) (h₀ : Within m s₀ s) : AnswersWithin m s₀ (execRcRead m_ addr count tail s) := by
  unfold execRcRead
  repeat' first
    | with_reducible assumption | with_reducible refine AnswersWithin.next ?_
    | with_reducible apply within_State_busRead (Mask.sub hm rfl) | exact Touch.any (Mask.bit hm rfl)

theorem within_execSnapWrite {m : Nat} {s₀ s : State}
    (hm : m ||| 0x100000000010002800003000000000FF01082F92001FF0002098603400185E001D780960000000011000100608CF603522703001B3470740024385D80BEA20425B103FFFFFFFF = m)
    (m_ : Master) (addr : BitVec 22) (offset : Word) (h₀ : Within m s₀ s) : AnswersWithin m s₀ (execSnapWrite m_ addr offset s) := by
  unfold execSnapWrite
  repeat' first
    | with_reducible assumption | with_reducible refine AnswersWithin.next ?_
    | with_reducible apply within_State_busWord (Mask.sub hm rfl) | exact Touch.any (Mask.bit hm rfl)
    | with_reducible refine Within.ite ?_ ?_ | split | (extract_lets; split)

theorem within_execDevLockWrite {m : Nat} {s₀ s : State}
    (hm : m ||| 0x100000000010002800003000000000FF01082F92001FF0002098603400185E001D780960000000011000100608CF603522703001B3470740024385D80BEA20425B103FFFFFFFF = m)
    (m_ : Master) (al : Alias) (d : Word) (h₀ : Within m s₀ s) : AnswersWithin m s₀ (execDevLockWrite m_ al d s) := by
  unfold execDevLockWrite
  repeat' first
    | with_reducible assumption | with_reducible refine AnswersWithin.next ?_
    | with_reducible apply within_State_busWord (Mask.sub hm rfl) | exact Touch.any (Mask.bit hm rfl)

theorem within_execUpdStrobe {m : Nat} {s₀ s : State}
    (hm : m ||| 0x100000000010002800003000000000FF01082F92001FF0002098603400185E001D780960000000011000100608CF603522703001B3470740024385D80BEA20425B103FFFFFFFF = m)
    (m_ : Master) (mask : Word) (h₀ : Within m s₀ s) : AnswersWithin m s₀ (execUpdStrobe m_ mask s) := by
  unfold execUpdStrobe
  repeat' first
    | with_reducible assumption | with_reducible refine AnswersWithin.next ?_
    | with_reducible apply within_State_busWord (Mask.sub hm rfl) | exact Touch.any (Mask.bit hm rfl)

theorem within_execUpdArm {m : Nat} {s₀ s : State}
    (hm : m ||| 0x100000000010002800003000000000FF01082F92001FF0002098603400185E001D780960000000011000100608CF603522703001B3470740024385D80BEA20425B103FFFFFFFF = m)
    (m_ : Master) (slack : Bool) (h₀ : Within m s₀ s) : AnswersWithin m s₀ (execUpdArm m_ slack s) := by
  unfold execUpdArm
  repeat' first
    | with_reducible assumption | with_reducible refine AnswersWithin.next ?_
    | with_reducible apply within_State_busWord (Mask.sub hm rfl) | exact Touch.any (Mask.bit hm rfl)
    | with_reducible refine Within.ite ?_ ?_ | split | (extract_lets; split)

theorem within_execUpdDisarm {m : Nat} {s₀ s : State}
    (hm : m ||| 0x100000000010002800003000000000FF01082F92001FF0002098603400185E001D780960000000011000100608CF603522703001B3470740024385D80BEA20425B103FFFFFFFF = m)
    (m_ : Master) (h₀ : Within m s₀ s) : AnswersWithin m s₀ (execUpdDisarm m_ s) := by
  unfold execUpdDisarm
  repeat' first
    | with_reducible assumption | with_reducible refine AnswersWithin.next ?_
    | with_reducible apply within_State_busWord (Mask.sub hm rfl) | exact Touch.any (Mask.bit hm rfl)

theorem within_execDevPwrDeep {m : Nat} {s₀ s : State}
    (hm : m ||| 0x100000000010002800003000000000FF01082F92001FF0002098603400185E001D780960000000011000100608CF603522703001B3470740024385D80BEA20425B103FFFFFFFF = m)
    (m_ : Master) (confirm : BitVec 16) (h₀ : Within m s₀ s) : AnswersWithin m s₀ (execDevPwrDeep m_ confirm s) := by
  unfold execDevPwrDeep
  repeat' first
    | with_reducible assumption | with_reducible refine AnswersWithin.next ?_
    | with_reducible apply within_State_busWord (Mask.sub hm rfl) | exact Touch.any (Mask.bit hm rfl)
    | with_reducible refine Within.ite ?_ ?_ | split | (extract_lets; split)

theorem within_execDevPwrWake {m : Nat} {s₀ s : State}
    (hm : m ||| 0x100000000010002800003000000000FF01082F92001FF0002098603400185E001D780960000000011000100608CF603522703001B3470740024385D80BEA20425B103FFFFFFFF = m)
    (event : Option (Fin 1536)) (h₀ : Within m s₀ s) : AnswersWithin m s₀ (execDevPwrWake event s) := by
  unfold execDevPwrWake
  repeat' first
    | with_reducible assumption | with_reducible refine AnswersWithin.next ?_
    | with_reducible apply within_State_firePinEvent (Mask.sub hm rfl) | with_reducible apply within_State_busWord (Mask.sub hm rfl)
    | with_reducible refine Within.snd (by assumption) ?_ | with_reducible refine Within.fst (by assumption) ?_
    | exact Touch.any (Mask.bit hm rfl) | with_reducible refine Within.ite ?_ ?_ | split | (extract_lets; split)

theorem within_execRtSelftestStrand {m : Nat} {s₀ s : State}
    (hm : m ||| 0x100000000010002800003000000000FF01082F92001FF0002098603400185E001D780960000000011000100608CF603522703001B3470740024385D80BEA20425B103FFFFFFFF = m)
    (m_ : Master) (num : Fin 256) (subst : Bool) (h₀ : Within m s₀ s) : AnswersWithin m s₀ (execRtSelftestStrand m_ num subst s) := by
  unfold execRtSelftestStrand
  repeat' first
    | with_reducible assumption | with_reducible refine AnswersWithin.next ?_
    | with_reducible apply within_State_busWord (Mask.sub hm rfl) | exact Touch.any (Mask.bit hm rfl)
    | with_reducible refine Within.ite ?_ ?_ | split | (extract_lets; split)

theorem within_execRtSelftestEngine {m : Nat} {s₀ s : State}
    (hm : m ||| 0x100000000010002800003000000000FF01082F92001FF0002098603400185E001D780960000000011000100608CF603522703001B3470740024385D80BEA20425B103FFFFFFFF = m)
    (m_ : Master) (num : Fin 256) (subst : Bool) (h₀ : Within m s₀ s) : AnswersWithin m s₀ (execRtSelftestEngine m_ num subst s) := by
  unfold execRtSelftestEngine
  repeat' first
    | with_reducible assumption | with_reducible refine AnswersWithin.next ?_
    | with_reducible apply within_State_busWord (Mask.sub hm rfl) | exact Touch.any (Mask.bit hm rfl)
    | with_reducible refine Within.ite ?_ ?_ | split | (extract_lets; split)

theorem within_execRtSelftestLane {m : Nat} {s₀ s : State}
    (hm : m ||| 0x100000000010002800003000000000FF01082F92001FF0002098603400185E001D780960000000011000100608CF603522703001B3470740024385D80BEA20425B103FFFFFFFF = m)
    (m_ : Master) (num : Fin 256) (h₀ : Within m s₀ s) : AnswersWithin m s₀ (execRtSelftestLane m_ num s) := by
  unfold execRtSelftestLane
  repeat' first
    | with_reducible assumption | with_reducible refine AnswersWithin.next ?_
    | with_reducible apply within_State_busWord (Mask.sub hm rfl) | exact Touch.any (Mask.bit hm rfl)
    | with_reducible refine Within.ite ?_ ?_ | split | (extract_lets; split)

theorem within_execCvWake {m : Nat} {s₀ s : State}
    (hm : m ||| 0x100000000010002800003000000000FF01082F92001FF0002098603400185E001D780960000000011000100608CF603522703001B3470740024385D80BEA20425B103FFFFFFFF = m)
    (m_ : Master) (c : Fin 16) (h₀ : Within m s₀ s) : AnswersWithin m s₀ (execCvWake m_ c s) := by
  unfold execCvWake
  repeat' first
    | with_reducible assumption | with_reducible refine AnswersWithin.next ?_
    | with_reducible apply within_State_busWord (Mask.sub hm rfl) | exact Touch.any (Mask.bit hm rfl)

theorem within_execCsLoad {m : Nat} {s₀ s : State}
    (hm : m ||| 0x100000000010002800003000000000FF01082F92001FF0002098603400185E001D780960000000011000100608CF603522703001B3470740024385D80BEA20425B103FFFFFFFF = m)
    (m_ : Master) (slot : Fin 2) (h₀ : Within m s₀ s) : AnswersWithin m s₀ (execCsLoad m_ slot s) := by
  unfold execCsLoad
  repeat' first
    | with_reducible assumption | with_reducible refine AnswersWithin.next ?_
    | with_reducible apply within_State_busWord (Mask.sub hm rfl) | exact Touch.any (Mask.bit hm rfl)
    | with_reducible refine Within.ite ?_ ?_ | split | (extract_lets; split)

theorem within_execCsApplyPatch {m : Nat} {s₀ s : State}
    (hm : m ||| 0x100000000010002800003000000000FF01082F92001FF0002098603400185E001D780960000000011000100608CF603522703001B3470740024385D80BEA20425B103FFFFFFFF = m)
    (m_ : Master) (h₀ : Within m s₀ s) : AnswersWithin m s₀ (execCsApplyPatch m_ s) := by
  unfold execCsApplyPatch
  repeat' first
    | with_reducible assumption | with_reducible refine AnswersWithin.next ?_
    | with_reducible apply within_State_busWord (Mask.sub hm rfl) | exact Touch.any (Mask.bit hm rfl)

theorem within_execCsClearPatch {m : Nat} {s₀ s : State}
    (hm : m ||| 0x100000000010002800003000000000FF01082F92001FF0002098603400185E001D780960000000011000100608CF603522703001B3470740024385D80BEA20425B103FFFFFFFF = m)
    (m_ : Master) (h₀ : Within m s₀ s) : AnswersWithin m s₀ (execCsClearPatch m_ s) := by
  unfold execCsClearPatch
  repeat' first
    | with_reducible assumption | with_reducible refine AnswersWithin.next ?_
    | with_reducible apply within_State_busWord (Mask.sub hm rfl) | exact Touch.any (Mask.bit hm rfl)

theorem within_execCsProgram {m : Nat} {s₀ s : State}
    (hm : m ||| 0x100000000010002800003000000000FF01082F92001FF0002098603400185E001D780960000000011000100608CF603522703001B3470740024385D80BEA20425B103FFFFFFFF = m)
    (m_ : Master) (slot : Fin 2) (h₀ : Within m s₀ s) : AnswersWithin m s₀ (execCsProgram m_ slot s) := by
  unfold execCsProgram
  repeat' first
    | with_reducible assumption | with_reducible refine AnswersWithin.next ?_
    | with_reducible apply within_State_busWord (Mask.sub hm rfl) | exact Touch.any (Mask.bit hm rfl)
    | with_reducible refine Within.ite ?_ ?_ | split | (extract_lets; split)

theorem within_execLsFlush {m : Nat} {s₀ s : State}
    (hm : m ||| 0x100000000010002800003000000000FF01082F92001FF0002098603400185E001D780960000000011000100608CF603522703001B3470740024385D80BEA20425B103FFFFFFFF = m)
    (m_ : Master) (h₀ : Within m s₀ s) : AnswersWithin m s₀ (execLsFlush m_ s) := by
  unfold execLsFlush
  repeat' first
    | with_reducible assumption | with_reducible refine AnswersWithin.next ?_
    | with_reducible apply within_State_busWord (Mask.sub hm rfl) | exact Touch.any (Mask.bit hm rfl)

theorem within_execLsSetupCommit {m : Nat} {s₀ s : State}
    (hm : m ||| 0x100000000010002800003000000000FF01082F92001FF0002098603400185E001D780960000000011000100608CF603522703001B3470740024385D80BEA20425B103FFFFFFFF = m)
    (m_ : Master) (confirm : BitVec 16) (h₀ : Within m s₀ s) : AnswersWithin m s₀ (execLsSetupCommit m_ confirm s) := by
  unfold execLsSetupCommit
  repeat' first
    | with_reducible assumption | with_reducible refine AnswersWithin.next ?_
    | with_reducible apply within_State_busWord (Mask.sub hm rfl) | exact Touch.any (Mask.bit hm rfl)
    | with_reducible refine Within.ite ?_ ?_ | split | (extract_lets; split)

theorem within_execLsSetupWrite {m : Nat} {s₀ s : State}
    (hm : m ||| 0x100000000010002800003000000000FF01082F92001FF0002098603400185E001D780960000000011000100608CF603522703001B3470740024385D80BEA20425B103FFFFFFFF = m)
    (m_ : Master) (al : Alias) (d : Word) (h₀ : Within m s₀ s) : AnswersWithin m s₀ (execLsSetupWrite m_ al d s) := by
  unfold execLsSetupWrite
  repeat' first
    | with_reducible assumption | with_reducible refine AnswersWithin.next ?_
    | with_reducible apply within_State_busWord (Mask.sub hm rfl) | exact Touch.any (Mask.bit hm rfl)

theorem within_execFcAck {m : Nat} {s₀ s : State}
    (hm : m ||| 0x100000000010002800003000000000FF01082F92001FF0002098603400185E001D780960000000011000100608CF603522703001B3470740024385D80BEA20425B103FFFFFFFF = m)
    (m_ : Master) (source : Fin 4096) (h₀ : Within m s₀ s) : AnswersWithin m s₀ (execFcAck m_ source s) := by
  unfold execFcAck
  repeat' first
    | with_reducible assumption | with_reducible refine AnswersWithin.next ?_
    | with_reducible apply within_State_busWord (Mask.sub hm rfl) | exact Touch.any (Mask.bit hm rfl)

theorem within_execFcForce {m : Nat} {s₀ s : State}
    (hm : m ||| 0x100000000010002800003000000000FF01082F92001FF0002098603400185E001D780960000000011000100608CF603522703001B3470740024385D80BEA20425B103FFFFFFFF = m)
    (m_ : Master) (d : Word) (h₀ : Within m s₀ s) : AnswersWithin m s₀ (execFcForce m_ d s) := by
  unfold execFcForce
  repeat' first
    | with_reducible assumption | with_reducible refine AnswersWithin.next ?_
    | with_reducible apply within_State_busWord (Mask.sub hm rfl) | exact Touch.any (Mask.bit hm rfl)

theorem within_execFcRecSel {m : Nat} {s₀ s : State}
    (hm : m ||| 0x100000000010002800003000000000FF01082F92001FF0002098603400185E001D780960000000011000100608CF603522703001B3470740024385D80BEA20425B103FFFFFFFF = m)
    (m_ : Master) (al : Alias) (d : Word) (h₀ : Within m s₀ s) : AnswersWithin m s₀ (execFcRecSel m_ al d s) := by
  unfold execFcRecSel
  repeat' first
    | with_reducible assumption | with_reducible refine AnswersWithin.next ?_
    | with_reducible apply within_State_busWord (Mask.sub hm rfl) | exact Touch.any (Mask.bit hm rfl)

theorem within_execFcLogSel {m : Nat} {s₀ s : State}
    (hm : m ||| 0x100000000010002800003000000000FF01082F92001FF0002098603400185E001D780960000000011000100608CF603522703001B3470740024385D80BEA20425B103FFFFFFFF = m)
    (m_ : Master) (al : Alias) (d : Word) (h₀ : Within m s₀ s) : AnswersWithin m s₀ (execFcLogSel m_ al d s) := by
  unfold execFcLogSel
  repeat' first
    | with_reducible assumption | with_reducible refine AnswersWithin.next ?_
    | with_reducible apply within_State_busWord (Mask.sub hm rfl) | exact Touch.any (Mask.bit hm rfl)

theorem within_execFcWdtKick {m : Nat} {s₀ s : State}
    (hm : m ||| 0x100000000010002800003000000000FF01082F92001FF0002098603400185E001D780960000000011000100608CF603522703001B3470740024385D80BEA20425B103FFFFFFFF = m)
    (m_ : Master) (d : Word) (h₀ : Within m s₀ s) : AnswersWithin m s₀ (execFcWdtKick m_ d s) := by
  unfold execFcWdtKick
  repeat' first
    | with_reducible assumption | with_reducible refine AnswersWithin.next ?_
    | with_reducible apply within_State_busWord (Mask.sub hm rfl) | exact Touch.any (Mask.bit hm rfl)

theorem within_execFcHelmAck {m : Nat} {s₀ s : State}
    (hm : m ||| 0x100000000010002800003000000000FF01082F92001FF0002098603400185E001D780960000000011000100608CF603522703001B3470740024385D80BEA20425B103FFFFFFFF = m)
    (m_ : Master) (h₀ : Within m s₀ s) : AnswersWithin m s₀ (execFcHelmAck m_ s) := by
  unfold execFcHelmAck
  repeat' first
    | with_reducible assumption | with_reducible refine AnswersWithin.next ?_
    | with_reducible apply within_State_busWord (Mask.sub hm rfl) | exact Touch.any (Mask.bit hm rfl)

theorem within_execFcHelmReset {m : Nat} {s₀ s : State}
    (hm : m ||| 0x100000000010002800003000000000FF01082F92001FF0002098603400185E001D780960000000011000100608CF603522703001B3470740024385D80BEA20425B103FFFFFFFF = m)
    (m_ : Master) (confirm : BitVec 16) (h₀ : Within m s₀ s) : AnswersWithin m s₀ (execFcHelmReset m_ confirm s) := by
  unfold execFcHelmReset
  repeat' first
    | with_reducible assumption | with_reducible refine AnswersWithin.next ?_
    | with_reducible apply within_State_busWord (Mask.sub hm rfl) | exact Touch.any (Mask.bit hm rfl)
    | with_reducible refine Within.ite ?_ ?_ | split | (extract_lets; split)

theorem within_execFcHelmReturn {m : Nat} {s₀ s : State}
    (hm : m ||| 0x100000000010002800003000000000FF01082F92001FF0002098603400185E001D780960000000011000100608CF603522703001B3470740024385D80BEA20425B103FFFFFFFF = m)
    (m_ : Master) (h₀ : Within m s₀ s) : AnswersWithin m s₀ (execFcHelmReturn m_ s) := by
  unfold execFcHelmReturn
  repeat' first
    | with_reducible assumption | with_reducible refine AnswersWithin.next ?_
    | with_reducible apply within_State_busWord (Mask.sub hm rfl) | exact Touch.any (Mask.bit hm rfl)

theorem within_execThExcludeWrite {m : Nat} {s₀ s : State}
    (hm : m ||| 0x100000000010002800003000000000FF01082F92001FF0002098603400185E001D780960000000011000100608CF603522703001B3470740024385D80BEA20425B103FFFFFFFF = m)
    (m_ : Master) (al : Alias) (d : Word) (h₀ : Within m s₀ s) : AnswersWithin m s₀ (execThExcludeWrite m_ al d s) := by
  unfold execThExcludeWrite
  repeat' first
    | with_reducible assumption | with_reducible refine AnswersWithin.next ?_
    | with_reducible apply within_State_busWord (Mask.sub hm rfl) | exact Touch.any (Mask.bit hm rfl)

theorem within_execPsLimWrite {m : Nat} {s₀ s : State}
    (hm : m ||| 0x100000000010002800003000000000FF01082F92001FF0002098603400185E001D780960000000011000100608CF603522703001B3470740024385D80BEA20425B103FFFFFFFF = m)
    (m_ : Master) (al : Alias) (n : Fin 1536) (d : Word) (h₀ : Within m s₀ s) : AnswersWithin m s₀ (execPsLimWrite m_ al n d s) := by
  unfold execPsLimWrite
  repeat' first
    | with_reducible assumption | with_reducible refine AnswersWithin.next ?_
    | with_reducible apply within_State_busWord (Mask.sub hm rfl) | exact Touch.any (Mask.bit hm rfl)

theorem within_execPmLimWrite {m : Nat} {s₀ s : State}
    (hm : m ||| 0x100000000010002800003000000000FF01082F92001FF0002098603400185E001D780960000000011000100608CF603522703001B3470740024385D80BEA20425B103FFFFFFFF = m)
    (m_ : Master) (al : Alias) (n : Fin 1536) (current : Bool) (d : Word) (h₀ : Within m s₀ s) :
    AnswersWithin m s₀ (execPmLimWrite m_ al n current d s) := by
  unfold execPmLimWrite
  repeat' first
    | with_reducible assumption | with_reducible refine AnswersWithin.next ?_
    | with_reducible apply within_State_busWord (Mask.sub hm rfl) | exact Touch.any (Mask.bit hm rfl)
    | with_reducible refine Within.ite ?_ ?_ | split | (extract_lets; split)

theorem within_execPsEvtArm {m : Nat} {s₀ s : State}
    (hm : m ||| 0x100000000010002800003000000000FF01082F92001FF0002098603400185E001D780960000000011000100608CF603522703001B3470740024385D80BEA20425B103FFFFFFFF = m)
    (m_ : Master) (n : Fin 1536) (target : Fin 8) (ring : Bool) (wake : Bool) (h₀ : Within m s₀ s) :
    AnswersWithin m s₀ (execPsEvtArm m_ n target ring wake s) := by
  unfold execPsEvtArm
  repeat' first
    | with_reducible assumption | with_reducible refine AnswersWithin.next ?_
    | with_reducible apply within_State_busWord (Mask.sub hm rfl) | exact Touch.any (Mask.bit hm rfl)
    | with_reducible refine Within.ite ?_ ?_ | split | (extract_lets; split)

theorem within_execPsEvtDisarm {m : Nat} {s₀ s : State}
    (hm : m ||| 0x100000000010002800003000000000FF01082F92001FF0002098603400185E001D780960000000011000100608CF603522703001B3470740024385D80BEA20425B103FFFFFFFF = m)
    (m_ : Master) (n : Fin 1536) (target : Fin 8) (ring : Bool) (wake : Bool) (h₀ : Within m s₀ s) :
    AnswersWithin m s₀ (execPsEvtDisarm m_ n target ring wake s) := by
  unfold execPsEvtDisarm
  repeat' first
    | with_reducible assumption | with_reducible refine AnswersWithin.next ?_
    | with_reducible apply within_State_busWord (Mask.sub hm rfl) | exact Touch.any (Mask.bit hm rfl)
    | with_reducible refine Within.ite ?_ ?_ | split | (extract_lets; split)

theorem within_execBwRearm {m : Nat} {s₀ s : State}
    (hm : m ||| 0x100000000010002800003000000000FF01082F92001FF0002098603400185E001D780960000000011000100608CF603522703001B3470740024385D80BEA20425B103FFFFFFFF = m)
    (m_ : Master) (n : Fin 1536) (action : Fin 4) (present : Bool) (h₀ : Within m s₀ s) :
    AnswersWithin m s₀ (execBwRearm m_ n action present s) := by
  unfold execBwRearm
  repeat' first
    | with_reducible assumption | with_reducible refine AnswersWithin.next ?_
    | with_reducible apply within_State_busWrite (Mask.sub hm rfl) | exact Touch.any (Mask.bit hm rfl)
    | with_reducible refine Within.ite ?_ ?_ | split | (extract_lets; split)

theorem within_execPmForceDirectWrite {m : Nat} {s₀ s : State}
    (hm : m ||| 0x100000000010002800003000000000FF01082F92001FF0002098603400185E001D780960000000011000100608CF603522703001B3470740024385D80BEA20425B103FFFFFFFF = m)
    (m_ : Master) (al : Alias) (n : Fin 1536) (d : Word) (h₀ : Within m s₀ s) :
    AnswersWithin m s₀ (execPmForceDirectWrite m_ al n d s) := by
  unfold execPmForceDirectWrite
  repeat' first
    | with_reducible assumption | with_reducible refine AnswersWithin.next ?_
    | with_reducible apply within_State_busWord (Mask.sub hm rfl) | exact Touch.any (Mask.bit hm rfl)

theorem within_execTdStart {m : Nat} {s₀ s : State}
    (hm : m ||| 0x100000000010002800003000000000FF01082F92001FF0002098603400185E001D780960000000011000100608CF603522703001B3470740024385D80BEA20425B103FFFFFFFF = m)
    (m_ : Master) (n : Fin 1536) (h₀ : Within m s₀ s) : AnswersWithin m s₀ (execTdStart m_ n s) := by
  unfold execTdStart
  repeat' first
    | with_reducible assumption | with_reducible refine AnswersWithin.next ?_
    | with_reducible apply within_State_busWord (Mask.sub hm rfl) | exact Touch.any (Mask.bit hm rfl)

theorem within_execTdStop {m : Nat} {s₀ s : State}
    (hm : m ||| 0x100000000010002800003000000000FF01082F92001FF0002098603400185E001D780960000000011000100608CF603522703001B3470740024385D80BEA20425B103FFFFFFFF = m)
    (m_ : Master) (n : Fin 1536) (h₀ : Within m s₀ s) : AnswersWithin m s₀ (execTdStop m_ n s) := by
  unfold execTdStop
  repeat' first
    | with_reducible assumption | with_reducible refine AnswersWithin.next ?_
    | with_reducible apply within_State_busWord (Mask.sub hm rfl) | exact Touch.any (Mask.bit hm rfl)

theorem within_execWvDataWrite {m : Nat} {s₀ s : State}
    (hm : m ||| 0x100000000010002800003000000000FF01082F92001FF0002098603400185E001D780960000000011000100608CF603522703001B3470740024385D80BEA20425B103FFFFFFFF = m)
    (m_ : Master) (al : Alias) (k : Fin 192) (d : Word) (h₀ : Within m s₀ s) : AnswersWithin m s₀ (execWvDataWrite m_ al k d s) := by
  unfold execWvDataWrite
  repeat' first
    | with_reducible assumption | with_reducible refine AnswersWithin.next ?_
    | with_reducible apply within_State_busWord (Mask.sub hm rfl) | exact Touch.any (Mask.bit hm rfl)

theorem within_execEdEdgeWrite {m : Nat} {s₀ s : State}
    (hm : m ||| 0x100000000010002800003000000000FF01082F92001FF0002098603400185E001D780960000000011000100608CF603522703001B3470740024385D80BEA20425B103FFFFFFFF = m)
    (m_ : Master) (al : Alias) (k : Fin 192) (e : Fin 6) (d : Word) (h₀ : Within m s₀ s) :
    AnswersWithin m s₀ (execEdEdgeWrite m_ al k e d s) := by
  unfold execEdEdgeWrite
  repeat' first
    | with_reducible assumption | with_reducible refine AnswersWithin.next ?_
    | with_reducible apply within_State_busWord (Mask.sub hm rfl) | exact Touch.any (Mask.bit hm rfl)

theorem within_execSqHalt {m : Nat} {s₀ s : State}
    (hm : m ||| 0x100000000010002800003000000000FF01082F92001FF0002098603400185E001D780960000000011000100608CF603522703001B3470740024385D80BEA20425B103FFFFFFFF = m)
    (m_ : Master) (k : Fin 192) (h₀ : Within m s₀ s) : AnswersWithin m s₀ (execSqHalt m_ k s) := by
  unfold execSqHalt
  repeat' first
    | with_reducible assumption | with_reducible refine AnswersWithin.next ?_
    | with_reducible apply within_State_busWord (Mask.sub hm rfl) | exact Touch.any (Mask.bit hm rfl)

theorem within_execSqResume {m : Nat} {s₀ s : State}
    (hm : m ||| 0x100000000010002800003000000000FF01082F92001FF0002098603400185E001D780960000000011000100608CF603522703001B3470740024385D80BEA20425B103FFFFFFFF = m)
    (m_ : Master) (k : Fin 192) (h₀ : Within m s₀ s) : AnswersWithin m s₀ (execSqResume m_ k s) := by
  unfold execSqResume
  repeat' first
    | with_reducible assumption | with_reducible refine AnswersWithin.next ?_
    | with_reducible apply within_State_busWord (Mask.sub hm rfl) | exact Touch.any (Mask.bit hm rfl)

theorem within_execSqLedgerClr {m : Nat} {s₀ s : State}
    (hm : m ||| 0x100000000010002800003000000000FF01082F92001FF0002098603400185E001D780960000000011000100608CF603522703001B3470740024385D80BEA20425B103FFFFFFFF = m)
    (m_ : Master) (k : Fin 192) (h₀ : Within m s₀ s) : AnswersWithin m s₀ (execSqLedgerClr m_ k s) := by
  unfold execSqLedgerClr
  repeat' first
    | with_reducible assumption | with_reducible refine AnswersWithin.next ?_
    | with_reducible apply within_State_busWord (Mask.sub hm rfl) | exact Touch.any (Mask.bit hm rfl)

theorem within_execSqBtWrite {m : Nat} {s₀ s : State}
    (hm : m ||| 0x100000000010002800003000000000FF01082F92001FF0002098603400185E001D780960000000011000100608CF603522703001B3470740024385D80BEA20425B103FFFFFFFF = m)
    (m_ : Master) (al : Alias) (k : Fin 192) (d : Word) (h₀ : Within m s₀ s) : AnswersWithin m s₀ (execSqBtWrite m_ al k d s) := by
  unfold execSqBtWrite
  repeat' first
    | with_reducible assumption | with_reducible refine AnswersWithin.next ?_
    | with_reducible apply within_State_busWord (Mask.sub hm rfl) | exact Touch.any (Mask.bit hm rfl)

theorem within_execAgTabWrite {m : Nat} {s₀ s : State}
    (hm : m ||| 0x100000000010002800003000000000FF01082F92001FF0002098603400185E001D780960000000011000100608CF603522703001B3470740024385D80BEA20425B103FFFFFFFF = m)
    (m_ : Master) (al : Alias) (k : Fin 192) (d : Word) (h₀ : Within m s₀ s) : AnswersWithin m s₀ (execAgTabWrite m_ al k d s) := by
  unfold execAgTabWrite
  repeat' first
    | with_reducible assumption | with_reducible refine AnswersWithin.next ?_
    | with_reducible apply within_State_busWord (Mask.sub hm rfl) | exact Touch.any (Mask.bit hm rfl)

theorem within_execSgTabWrite {m : Nat} {s₀ s : State}
    (hm : m ||| 0x100000000010002800003000000000FF01082F92001FF0002098603400185E001D780960000000011000100608CF603522703001B3470740024385D80BEA20425B103FFFFFFFF = m)
    (m_ : Master) (al : Alias) (k : Fin 192) (d : Word) (h₀ : Within m s₀ s) : AnswersWithin m s₀ (execSgTabWrite m_ al k d s) := by
  unfold execSgTabWrite
  repeat' first
    | with_reducible assumption | with_reducible refine AnswersWithin.next ?_
    | with_reducible apply within_State_busWord (Mask.sub hm rfl) | exact Touch.any (Mask.bit hm rfl)

theorem within_execAqStart {m : Nat} {s₀ s : State}
    (hm : m ||| 0x100000000010002800003000000000FF01082F92001FF0002098603400185E001D780960000000011000100608CF603522703001B3470740024385D80BEA20425B103FFFFFFFF = m)
    (m_ : Master) (k : Fin 192) (h₀ : Within m s₀ s) : AnswersWithin m s₀ (execAqStart m_ k s) := by
  unfold execAqStart
  repeat' first
    | with_reducible assumption | with_reducible refine AnswersWithin.next ?_
    | with_reducible apply within_State_busWord (Mask.sub hm rfl) | exact Touch.any (Mask.bit hm rfl)

theorem within_execAqStop {m : Nat} {s₀ s : State}
    (hm : m ||| 0x100000000010002800003000000000FF01082F92001FF0002098603400185E001D780960000000011000100608CF603522703001B3470740024385D80BEA20425B103FFFFFFFF = m)
    (m_ : Master) (k : Fin 192) (h₀ : Within m s₀ s) : AnswersWithin m s₀ (execAqStop m_ k s) := by
  unfold execAqStop
  repeat' first
    | with_reducible assumption | with_reducible refine AnswersWithin.next ?_
    | with_reducible apply within_State_busWord (Mask.sub hm rfl) | exact Touch.any (Mask.bit hm rfl)

theorem within_execAqForce {m : Nat} {s₀ s : State}
    (hm : m ||| 0x100000000010002800003000000000FF01082F92001FF0002098603400185E001D780960000000011000100608CF603522703001B3470740024385D80BEA20425B103FFFFFFFF = m)
    (m_ : Master) (k : Fin 192) (h₀ : Within m s₀ s) : AnswersWithin m s₀ (execAqForce m_ k s) := by
  unfold execAqForce
  repeat' first
    | with_reducible assumption | with_reducible refine AnswersWithin.next ?_
    | with_reducible apply within_State_busWord (Mask.sub hm rfl) | exact Touch.any (Mask.bit hm rfl)

theorem within_execFlLedgerClr {m : Nat} {s₀ s : State}
    (hm : m ||| 0x100000000010002800003000000000FF01082F92001FF0002098603400185E001D780960000000011000100608CF603522703001B3470740024385D80BEA20425B103FFFFFFFF = m)
    (m_ : Master) (k : Fin 192) (h₀ : Within m s₀ s) : AnswersWithin m s₀ (execFlLedgerClr m_ k s) := by
  unfold execFlLedgerClr
  repeat' first
    | with_reducible assumption | with_reducible refine AnswersWithin.next ?_
    | with_reducible apply within_State_busWord (Mask.sub hm rfl) | exact Touch.any (Mask.bit hm rfl)

theorem within_execFlDieWrite {m : Nat} {s₀ s : State}
    (hm : m ||| 0x100000000010002800003000000000FF01082F92001FF0002098603400185E001D780960000000011000100608CF603522703001B3470740024385D80BEA20425B103FFFFFFFF = m)
    (m_ : Master) (al : Alias) (k : Fin 192) (d : Word) (h₀ : Within m s₀ s) : AnswersWithin m s₀ (execFlDieWrite m_ al k d s) := by
  unfold execFlDieWrite
  repeat' first
    | with_reducible assumption | with_reducible refine AnswersWithin.next ?_
    | with_reducible apply within_State_busWord (Mask.sub hm rfl) | exact Touch.any (Mask.bit hm rfl)

theorem within_execJrnReset {m : Nat} {s₀ s : State}
    (hm : m ||| 0x100000000010002800003000000000FF01082F92001FF0002098603400185E001D780960000000011000100608CF603522703001B3470740024385D80BEA20425B103FFFFFFFF = m)
    (m_ : Master) (h₀ : Within m s₀ s) : AnswersWithin m s₀ (execJrnReset m_ s) := by
  unfold execJrnReset
  repeat' first
    | with_reducible assumption | with_reducible refine AnswersWithin.next ?_
    | with_reducible apply within_State_busWord (Mask.sub hm rfl) | exact Touch.any (Mask.bit hm rfl)

theorem within_execJournalAudit {m : Nat} {s₀ s : State}
    (hm : m ||| 0x100000000010002800003000000000FF01082F92001FF0002098603400185E001D780960000000011000100608CF603522703001B3470740024385D80BEA20425B103FFFFFFFF = m)
    (m_ : Master) (h₀ : Within m s₀ s) : AnswersWithin m s₀ (execJournalAudit m_ s) := by
  unfold execJournalAudit
  repeat' first
    | with_reducible assumption | with_reducible refine AnswersWithin.next ?_
    | with_reducible apply within_State_busWord (Mask.sub hm rfl) | exact Touch.any (Mask.bit hm rfl)

theorem within_execSpFinal {m : Nat} {s₀ s : State}
    (hm : m ||| 0x100000000010002800003000000000FF01082F92001FF0002098603400185E001D780960000000011000100608CF603522703001B3470740024385D80BEA20425B103FFFFFFFF = m)
    (m_ : Master) (die : BitVec 16) (h₀ : Within m s₀ s) : AnswersWithin m s₀ (execSpFinal m_ die s) := by
  unfold execSpFinal
  repeat' first
    | with_reducible assumption | with_reducible refine AnswersWithin.next ?_
    | with_reducible apply within_State_busWord (Mask.sub hm rfl) | exact Touch.any (Mask.bit hm rfl)
    | with_reducible refine Within.ite ?_ ?_ | split | (extract_lets; split)

theorem within_execSpFinalAll {m : Nat} {s₀ s : State}
    (hm : m ||| 0x100000000010002800003000000000FF01082F92001FF0002098603400185E001D780960000000011000100608CF603522703001B3470740024385D80BEA20425B103FFFFFFFF = m)
    (m_ : Master) (h₀ : Within m s₀ s) : AnswersWithin m s₀ (execSpFinalAll m_ s) := by
  unfold execSpFinalAll
  repeat' first
    | with_reducible assumption | with_reducible refine AnswersWithin.next ?_
    | with_reducible apply within_State_busWord (Mask.sub hm rfl) | exact Touch.any (Mask.bit hm rfl)

theorem within_execSpRelease {m : Nat} {s₀ s : State}
    (hm : m ||| 0x100000000010002800003000000000FF01082F92001FF0002098603400185E001D780960000000011000100608CF603522703001B3470740024385D80BEA20425B103FFFFFFFF = m)
    (m_ : Master) (die : BitVec 16) (h₀ : Within m s₀ s) : AnswersWithin m s₀ (execSpRelease m_ die s) := by
  unfold execSpRelease
  repeat' first
    | with_reducible assumption | with_reducible refine AnswersWithin.next ?_
    | with_reducible apply within_State_busWord (Mask.sub hm rfl) | exact Touch.any (Mask.bit hm rfl)
    | with_reducible refine Within.ite ?_ ?_ | split | (extract_lets; split)

theorem within_execPlRelease {m : Nat} {s₀ s : State}
    (hm : m ||| 0x100000000010002800003000000000FF01082F92001FF0002098603400185E001D780960000000011000100608CF603522703001B3470740024385D80BEA20425B103FFFFFFFF = m)
    (m_ : Master) (h₀ : Within m s₀ s) : AnswersWithin m s₀ (execPlRelease m_ s) := by
  unfold execPlRelease
  repeat' first
    | with_reducible assumption | with_reducible refine AnswersWithin.next ?_
    | with_reducible apply within_State_busWord (Mask.sub hm rfl) | exact Touch.any (Mask.bit hm rfl)

theorem within_execCalTiming {m : Nat} {s₀ s : State}
    (hm : m ||| 0x100000000010002800003000000000FF01082F92001FF0002098603400185E001D780960000000011000100608CF603522703001B3470740024385D80BEA20425B103FFFFFFFF = m)
    (m_ : Master) (strand : Fin 256) (pins : BitVec 8) (ctx : Fin 4) (h₀ : Within m s₀ s) :
    AnswersWithin m s₀ (execCalTiming m_ strand pins ctx s) := by
  unfold execCalTiming
  repeat' first
    | with_reducible assumption | with_reducible refine AnswersWithin.next ?_
    | with_reducible apply within_State_busWord (Mask.sub hm rfl) | exact Touch.any (Mask.bit hm rfl)

theorem within_execCalLevels {m : Nat} {s₀ s : State}
    (hm : m ||| 0x100000000010002800003000000000FF01082F92001FF0002098603400185E001D780960000000011000100608CF603522703001B3470740024385D80BEA20425B103FFFFFFFF = m)
    (m_ : Master) (strand : Fin 256) (pins : BitVec 8) (ctx : Fin 4) (h₀ : Within m s₀ s) :
    AnswersWithin m s₀ (execCalLevels m_ strand pins ctx s) := by
  unfold execCalLevels
  repeat' first
    | with_reducible assumption | with_reducible refine AnswersWithin.next ?_
    | with_reducible apply within_State_busWord (Mask.sub hm rfl) | exact Touch.any (Mask.bit hm rfl)

theorem within_execCalConv {m : Nat} {s₀ s : State}
    (hm : m ||| 0x100000000010002800003000000000FF01082F92001FF0002098603400185E001D780960000000011000100608CF603522703001B3470740024385D80BEA20425B103FFFFFFFF = m)
    (m_ : Master) (strand : Fin 256) (pins : BitVec 8) (ctx : Fin 4) (h₀ : Within m s₀ s) :
    AnswersWithin m s₀ (execCalConv m_ strand pins ctx s) := by
  unfold execCalConv
  repeat' first
    | with_reducible assumption | with_reducible refine AnswersWithin.next ?_
    | with_reducible apply within_State_busWord (Mask.sub hm rfl) | exact Touch.any (Mask.bit hm rfl)

theorem within_execCalSysZero {m : Nat} {s₀ s : State}
    (hm : m ||| 0x100000000010002800003000000000FF01082F92001FF0002098603400185E001D780960000000011000100608CF603522703001B3470740024385D80BEA20425B103FFFFFFFF = m)
    (m_ : Master) (strand : Fin 256) (pins : BitVec 8) (ctx : Fin 4) (src : Fin 8) (h₀ : Within m s₀ s) :
    AnswersWithin m s₀ (execCalSysZero m_ strand pins ctx src s) := by
  unfold execCalSysZero
  repeat' first
    | with_reducible assumption | with_reducible refine AnswersWithin.next ?_
    | with_reducible apply within_State_busWord (Mask.sub hm rfl) | exact Touch.any (Mask.bit hm rfl)

theorem within_execCalSysFs {m : Nat} {s₀ s : State}
    (hm : m ||| 0x100000000010002800003000000000FF01082F92001FF0002098603400185E001D780960000000011000100608CF603522703001B3470740024385D80BEA20425B103FFFFFFFF = m)
    (m_ : Master) (strand : Fin 256) (pins : BitVec 8) (ctx : Fin 4) (src : Fin 8) (h₀ : Within m s₀ s) :
    AnswersWithin m s₀ (execCalSysFs m_ strand pins ctx src s) := by
  unfold execCalSysFs
  repeat' first
    | with_reducible assumption | with_reducible refine AnswersWithin.next ?_
    | with_reducible apply within_State_busWord (Mask.sub hm rfl) | exact Touch.any (Mask.bit hm rfl)

theorem within_execCalAbort {m : Nat} {s₀ s : State}
    (hm : m ||| 0x100000000010002800003000000000FF01082F92001FF0002098603400185E001D780960000000011000100608CF603522703001B3470740024385D80BEA20425B103FFFFFFFF = m)
    (m_ : Master) (strand : Fin 256) (h₀ : Within m s₀ s) : AnswersWithin m s₀ (execCalAbort m_ strand s) := by
  unfold execCalAbort
  repeat' first
    | with_reducible assumption | with_reducible refine AnswersWithin.next ?_
    | with_reducible apply within_State_busWord (Mask.sub hm rfl) | exact Touch.any (Mask.bit hm rfl)

theorem within_execCbDataWrite {m : Nat} {s₀ s : State}
    (hm : m ||| 0x100000000010002800003000000000FF01082F92001FF0002098603400185E001D780960000000011000100608CF603522703001B3470740024385D80BEA20425B103FFFFFFFF = m)
    (m_ : Master) (al : Alias) (d : Word) (h₀ : Within m s₀ s) : AnswersWithin m s₀ (execCbDataWrite m_ al d s) := by
  unfold execCbDataWrite
  repeat' first
    | with_reducible assumption | with_reducible refine AnswersWithin.next ?_
    | with_reducible apply within_State_busWord (Mask.sub hm rfl) | exact Touch.any (Mask.bit hm rfl)

theorem within_execCbCommit {m : Nat} {s₀ s : State}
    (hm : m ||| 0x100000000010002800003000000000FF01082F92001FF0002098603400185E001D780960000000011000100608CF603522703001B3470740024385D80BEA20425B103FFFFFFFF = m)
    (m_ : Master) (confirm : BitVec 16) (h₀ : Within m s₀ s) : AnswersWithin m s₀ (execCbCommit m_ confirm s) := by
  unfold execCbCommit
  repeat' first
    | with_reducible assumption | with_reducible refine AnswersWithin.next ?_
    | with_reducible apply within_State_busWord (Mask.sub hm rfl) | exact Touch.any (Mask.bit hm rfl)
    | with_reducible refine Within.ite ?_ ?_ | split | (extract_lets; split)

theorem within_execQpEnable {m : Nat} {s₀ s : State}
    (hm : m ||| 0x100000000010002800003000000000FF01082F92001FF0002098603400185E001D780960000000011000100608CF603522703001B3470740024385D80BEA20425B103FFFFFFFF = m)
    (m_ : Master) (q : Fin 64) (cfg : Word) (h₀ : Within m s₀ s) : AnswersWithin m s₀ (execQpEnable m_ q cfg s) := by
  unfold execQpEnable
  repeat' first
    | with_reducible assumption | with_reducible refine AnswersWithin.next ?_
    | with_reducible apply within_State_busWord (Mask.sub hm rfl) | exact Touch.any (Mask.bit hm rfl)

theorem within_execQpDisable {m : Nat} {s₀ s : State}
    (hm : m ||| 0x100000000010002800003000000000FF01082F92001FF0002098603400185E001D780960000000011000100608CF603522703001B3470740024385D80BEA20425B103FFFFFFFF = m)
    (m_ : Master) (q : Fin 64) (cfg : Word) (h₀ : Within m s₀ s) : AnswersWithin m s₀ (execQpDisable m_ q cfg s) := by
  unfold execQpDisable
  repeat' first
    | with_reducible assumption | with_reducible refine AnswersWithin.next ?_
    | with_reducible apply within_State_busWord (Mask.sub hm rfl) | exact Touch.any (Mask.bit hm rfl)

theorem within_execRgCmdSlack {m : Nat} {s₀ s : State}
    (hm : m ||| 0x100000000010002800003000000000FF01082F92001FF0002098603400185E001D780960000000011000100608CF603522703001B3470740024385D80BEA20425B103FFFFFFFF = m)
    (m_ : Master) (h₀ : Within m s₀ s) : AnswersWithin m s₀ (execRgCmdSlack m_ s) := by
  unfold execRgCmdSlack
  repeat' first
    | with_reducible assumption | with_reducible refine AnswersWithin.next ?_
    | with_reducible apply within_State_busWord (Mask.sub hm rfl) | exact Touch.any (Mask.bit hm rfl)

theorem within_execRgCmdSlackClr {m : Nat} {s₀ s : State}
    (hm : m ||| 0x100000000010002800003000000000FF01082F92001FF0002098603400185E001D780960000000011000100608CF603522703001B3470740024385D80BEA20425B103FFFFFFFF = m)
    (m_ : Master) (h₀ : Within m s₀ s) : AnswersWithin m s₀ (execRgCmdSlackClr m_ s) := by
  unfold execRgCmdSlackClr
  repeat' first
    | with_reducible assumption | with_reducible refine AnswersWithin.next ?_
    | with_reducible apply within_State_busWord (Mask.sub hm rfl) | exact Touch.any (Mask.bit hm rfl)

theorem within_execRgBypassGo {m : Nat} {s₀ s : State}
    (hm : m ||| 0x100000000010002800003000000000FF01082F92001FF0002098603400185E001D780960000000011000100608CF603522703001B3470740024385D80BEA20425B103FFFFFFFF = m)
    (m_ : Master) (confirm : BitVec 16) (h₀ : Within m s₀ s) : AnswersWithin m s₀ (execRgBypassGo m_ confirm s) := by
  unfold execRgBypassGo
  repeat' first
    | with_reducible assumption | with_reducible refine AnswersWithin.next ?_
    | with_reducible apply within_State_busWord (Mask.sub hm rfl) | exact Touch.any (Mask.bit hm rfl)
    | with_reducible refine Within.ite ?_ ?_ | split | (extract_lets; split)

theorem within_execTlAgeWrite {m : Nat} {s₀ s : State}
    (hm : m ||| 0x100000000010002800003000000000FF01082F92001FF0002098603400185E001D780960000000011000100608CF603522703001B3470740024385D80BEA20425B103FFFFFFFF = m)
    (m_ : Master) (al : Alias) (rate : Bool) (d : Word) (h₀ : Within m s₀ s) : AnswersWithin m s₀ (execTlAgeWrite m_ al rate d s) := by
  unfold execTlAgeWrite
  repeat' first
    | with_reducible assumption | with_reducible refine AnswersWithin.next ?_
    | with_reducible apply within_State_busWord (Mask.sub hm rfl) | exact Touch.any (Mask.bit hm rfl)
    | with_reducible refine Within.ite ?_ ?_ | split | (extract_lets; split)

theorem within_execTlSet {m : Nat} {s₀ s : State}
    (hm : m ||| 0x100000000010002800003000000000FF01082F92001FF0002098603400185E001D780960000000011000100608CF603522703001B3470740024385D80BEA20425B103FFFFFFFF = m)
    (m_ : Master) (h₀ : Within m s₀ s) : AnswersWithin m s₀ (execTlSet m_ s) := by
  unfold execTlSet
  repeat' first
    | with_reducible assumption | with_reducible refine AnswersWithin.next ?_
    | with_reducible apply within_State_busWord (Mask.sub hm rfl) | exact Touch.any (Mask.bit hm rfl)

theorem within_execTlSettle {m : Nat} {s₀ s : State}
    (hm : m ||| 0x100000000010002800003000000000FF01082F92001FF0002098603400185E001D780960000000011000100608CF603522703001B3470740024385D80BEA20425B103FFFFFFFF = m)
    (m_ : Master) (h₀ : Within m s₀ s) : AnswersWithin m s₀ (execTlSettle m_ s) := by
  unfold execTlSettle
  repeat' first
    | with_reducible assumption | with_reducible refine AnswersWithin.next ?_
    | with_reducible apply within_State_busWord (Mask.sub hm rfl) | exact Touch.any (Mask.bit hm rfl)

theorem within_State_replay {m : Nat} {s₀ s : State}
    (hm : m ||| 0x100000000010002800003000000000FF01082F92001FF0002098603400185E001D780960000000011000100608CF603522703001B3470740024385D80BEA20425B003FFFFFFFF = m)
    (k : Nat) (h : Held) (h₀ : Within m s₀ s) : Within m s₀ (State.replay s k h) := by
  unfold State.replay
  repeat' first
    | with_reducible assumption | with_reducible apply Within.wr | with_reducible apply within_State_strobe (Mask.sub hm rfl)
    | with_reducible apply within_State_strobeStrand (Mask.sub hm rfl) | with_reducible apply within_State_writeWord (Mask.sub hm rfl)
    | with_reducible refine Within.snd (by assumption) ?_ | with_reducible refine Within.fst (by assumption) ?_
    | exact Touch.any (Mask.bit hm rfl) | with_reducible refine Within.ite ?_ ?_ | split | (extract_lets; split)

theorem within_State_testReturn {m : Nat} {s₀ s : State}
    (hm : m ||| 0x100000000010002800003000000000FF01082F92001FF0002098603400185E001D780960000000011000100608CF603522703001B3470740024385D80BEA20425B003FFFFFFFF = m)
    (k : Nat) (was : Nat) (h₀ : Within m s₀ s) : Within m s₀ (State.testReturn s k was) := by
  unfold State.testReturn
  repeat' first
    | with_reducible assumption | with_reducible intro _ | with_reducible apply within_State_modStrand (Mask.sub hm rfl)
    | with_reducible apply within_State_setSqState (Mask.sub hm rfl) | with_reducible apply within_State_testedCauses (Mask.sub hm rfl)
    | with_reducible apply within_State_replay (Mask.sub hm rfl) | with_reducible refine Within.each ?_ ?_
    | exact Touch.any (Mask.bit hm rfl)
    | (with_reducible refine Within.mk ?_ ?hk
       case hk => (repeat' apply And.intro) <;> first | with_reducible exact .inr rfl | exact .inl (Mask.bit hm rfl)
       first
        | with_reducible assumption | with_reducible apply within_State_modStrand (Mask.sub hm rfl)
        | with_reducible apply within_State_setSqState (Mask.sub hm rfl)
        | with_reducible apply within_State_testedCauses (Mask.sub hm rfl) | with_reducible apply within_State_replay (Mask.sub hm rfl)
        | with_reducible refine Within.each ?_ ?_)

theorem within_execRtSelftestEnd {m : Nat} {s₀ s : State}
    (hm : m ||| 0x100000000010002800003000000000FF01082F92001FF0002098603400185E001D780960000000011000100608CF603522703001B3470740024385D80BEA20425B003FFFFFFFF = m)
    (v : RtVerdict) (h₀ : Within m s₀ s) : AnswersWithin m s₀ (execRtSelftestEnd v s) := by
  unfold execRtSelftestEnd
  repeat' first
    | with_reducible assumption | with_reducible refine AnswersWithin.next ?_
    | with_reducible apply Within.advanceTo _ (Mask.bit hm rfl) | with_reducible apply within_State_raise
    | with_reducible apply within_State_raiseStop (Mask.sub hm rfl) | with_reducible apply within_State_healthChanged (Mask.sub hm rfl)
    | with_reducible apply within_State_strandless (Mask.sub hm rfl) | with_reducible apply within_State_testOutcome (Mask.sub hm rfl)
    | with_reducible apply within_State_advance (Mask.sub hm rfl) | with_reducible apply within_State_testReturn (Mask.sub hm rfl)
    | with_reducible refine Within.snd (by assumption) ?_ | with_reducible refine Within.fst (by assumption) ?_
    | exact Touch.any (Mask.bit hm rfl) | with_reducible refine Within.ite ?_ ?_ | split | (extract_lets; split)
    | (with_reducible refine Within.mk ?_ ?hk
       case hk => (repeat' apply And.intro) <;> first | with_reducible exact .inr rfl | exact .inl (Mask.bit hm rfl)
       first
        | with_reducible assumption | with_reducible apply Within.advanceTo _ (Mask.bit hm rfl)
        | with_reducible apply within_State_raise | with_reducible apply within_State_raiseStop (Mask.sub hm rfl)
        | with_reducible apply within_State_healthChanged (Mask.sub hm rfl)
        | with_reducible apply within_State_strandless (Mask.sub hm rfl)
        | with_reducible apply within_State_testOutcome (Mask.sub hm rfl) | with_reducible apply within_State_advance (Mask.sub hm rfl)
        | with_reducible apply within_State_testReturn (Mask.sub hm rfl) | with_reducible refine Within.snd (by assumption) ?_
        | with_reducible refine Within.fst (by assumption) ?_ | with_reducible refine Within.ite ?_ ?_ | split | (extract_lets; split)
        | (with_reducible refine Within.mk ?_ ?hk
           case hk => (repeat' apply And.intro) <;> first | with_reducible exact .inr rfl | exact .inl (Mask.bit hm rfl)
           first
            | with_reducible assumption | with_reducible apply Within.advanceTo _ (Mask.bit hm rfl)
            | with_reducible apply within_State_raise | with_reducible apply within_State_raiseStop (Mask.sub hm rfl)
            | with_reducible apply within_State_healthChanged (Mask.sub hm rfl)
            | with_reducible apply within_State_strandless (Mask.sub hm rfl)
            | with_reducible apply within_State_testOutcome (Mask.sub hm rfl)
            | with_reducible apply within_State_advance (Mask.sub hm rfl)
            | with_reducible apply within_State_testReturn (Mask.sub hm rfl) | with_reducible refine Within.snd (by assumption) ?_
            | with_reducible refine Within.fst (by assumption) ?_ | with_reducible refine Within.ite ?_ ?_ | split
            | (extract_lets; split)))

end Sys2Proof.Machine
end

