-- ==== Sys2Proof/Laws/HostRowsWithin.lean ====
section
/-! SUPPORT. What the definitions of Machine/HostRows.lean keep, and all that they may change (Laws/Within.lean). -/

namespace Sys2Proof.Machine

set_option linter.all false

theorem within_State_rxDrain {m : Nat} {s₀ s : State} (hm : m ||| 0x100008000 = m) (n : Nat) (h₀ : Within m s₀ s) :
    Within m s₀ (State.rxDrain s n) := by
  unfold State.rxDrain
  repeat' first
    | with_reducible assumption | with_reducible intro _ | with_reducible apply within_State_rxOut (Mask.sub hm rfl)
    | with_reducible refine Within.iter ?_ _ ?_

theorem within_State_arrive {m : Nat} {s₀ s : State} (hm : m ||| 0x2000000000000000000100008000 = m) (h : RoceHead) (frames : Nat)
    (h₀ : Within m s₀ s) : Within m s₀ (State.arrive s h frames).2 := by
  unfold State.arrive
  repeat' first
    | with_reducible assumption | with_reducible apply within_State_raise | with_reducible apply within_State_rxDrain (Mask.sub hm rfl)
    | exact touch_HT_STAT (Mask.bit hm rfl) | with_reducible refine Within.ite ?_ ?_ | split | (extract_lets; split)

theorem within_State_expect {m : Nat} {s₀ s : State} (hm : m ||| 0x4000 = m) (q : Nat) (n : Nat) (h₀ : Within m s₀ s) :
    Within m s₀ (State.expect s q n) := by
  unfold State.expect
  repeat' first
    | with_reducible assumption | with_reducible intro _ | with_reducible apply within_State_modQp (Mask.sub hm rfl)
    | (with_reducible refine Within.mk ?_ ?hk
       case hk => (repeat' apply And.intro) <;> first | with_reducible exact .inr rfl | exact .inl (Mask.bit hm rfl)
       first
        | with_reducible assumption | with_reducible apply within_State_modQp (Mask.sub hm rfl))

theorem within_State_ack {m : Nat} {s₀ s : State} (hm : m ||| 0x3340000000000000000000000000100010000 = m) (q : Nat) (psn : Nat)
    (h₀ : Within m s₀ s) : Within m s₀ (State.ack s q psn) := by
  unfold State.ack
  repeat' first
    | with_reducible assumption | with_reducible apply Within.send _ (Mask.bit hm rfl)
    | with_reducible apply within_State_sendRoce (Mask.sub hm rfl)

theorem within_State_nak {m : Nat} {s₀ s : State} (hm : m ||| 0x3340000000000000000000000000100010000 = m) (q : Nat) (psn : Nat)
    (code : Nat) (h₀ : Within m s₀ s) : Within m s₀ (State.nak s q psn code) := by
  unfold State.nak
  repeat' first
    | with_reducible assumption | with_reducible apply Within.send _ (Mask.bit hm rfl)
    | with_reducible apply within_State_sendRoce (Mask.sub hm rfl)

theorem within_State_respond {m : Nat} {s₀ s : State} (hm : m ||| 0x3340000000000000000000000000100010000 = m) (q : Nat) (psn : Nat)
    (data : List Byte) (h₀ : Within m s₀ s) : Within m s₀ (State.respond s q psn data) := by
  unfold State.respond
  repeat' first
    | with_reducible assumption | with_reducible apply Within.send _ (Mask.bit hm rfl)
    | with_reducible apply within_State_sendRoce (Mask.sub hm rfl)

theorem within_State_outOfTurn {m : Nat} {s₀ s : State} (hm : m ||| 0x3340000000000000000000000000100010000 = m) (q : Nat) (psn : Nat)
    (t : Turn) (h₀ : Within m s₀ s) : Within m s₀ (State.outOfTurn s q psn t) := by
  unfold State.outOfTurn
  repeat' first
    | with_reducible assumption | with_reducible apply within_State_ack (Mask.sub hm rfl)
    | with_reducible apply within_State_nak (Mask.sub hm rfl) | with_reducible refine Within.snd (by assumption) ?_
    | with_reducible refine Within.fst (by assumption) ?_ | with_reducible refine Within.ite ?_ ?_ | split | (extract_lets; split)

theorem within_State_fetchMore {m : Nat} {s₀ s : State} (hm : m ||| 0x3340000000000000000000000000100014000 = m) (q : Nat)
    (h₀ : Within m s₀ s) : Within m s₀ (State.fetchMore s q) := by
  unfold State.fetchMore
  repeat' first
    | with_reducible assumption | with_reducible intro _ | with_reducible apply within_State_modQp (Mask.sub hm rfl)
    | with_reducible apply within_State_rdmaRead (Mask.sub hm rfl) | with_reducible refine Within.each ?_ ?_
    | (with_reducible refine Within.mk ?_ ?hk
       case hk => (repeat' apply And.intro) <;> first | with_reducible exact .inr rfl | exact .inl (Mask.bit hm rfl)
       first
        | with_reducible assumption | with_reducible apply within_State_modQp (Mask.sub hm rfl)
        | with_reducible apply within_State_rdmaRead (Mask.sub hm rfl) | with_reducible refine Within.each ?_ ?_)

theorem within_State_idxStep {m : Nat}
    (hm : m ||| 0x120000000000000000000000000000000000000000000000000000000000000000000000000000000000000000334000000000000000004000000010201C000 = m) {s₀ s : State} (q d w : Nat) (i : HostIdx) (h₀ : Within m s₀ s) :
    Within m s₀ (State.idxStep s q d w i) := by
  cases i with
  | cmdPi => exact within_State_fetchMore (Mask.sub hm rfl) _ (Within.wr _ _ (touch_HT_QP_CMD_PI (Mask.bit hm rfl) _) h₀)
  | cplCi => exact Within.wr _ _ (touch_HT_QP_CPL_CI (Mask.bit hm rfl) _) h₀
  | evtCi => exact Within.mk h₀ (by (repeat' apply And.intro) <;> first | with_reducible exact .inr rfl | exact .inl (Mask.bit hm rfl))
  | resCi => exact Within.mk h₀ (by (repeat' apply And.intro) <;> first | with_reducible exact .inr rfl | exact .inl (Mask.bit hm rfl))
  | stream n => exact within_State_setFld _ _ _ (touch_strmA_MC_STRM_PROD (Mask.bit hm rfl) _) h₀

theorem within_State_takeIndex {m : Nat} {s₀ s : State}
    (hm : m ||| 0x120000200000000000000000000000000000000000000000000000000000000000000000000000000000000000334000000000000000004000000010201C000 = m)
    (q : Nat) (w : Nat) (i : HostIdx) (h₀ : Within m s₀ s) : Within m s₀ (State.takeIndex s q w i) := by
  unfold State.takeIndex
  repeat' first
    | with_reducible assumption | with_reducible apply within_State_raise | with_reducible apply within_State_idxStep (Mask.sub hm rfl)
    | with_reducible refine Within.snd (by assumption) ?_ | with_reducible refine Within.fst (by assumption) ?_
    | exact touch_HT_QP_STAT (Mask.bit hm rfl) _ | with_reducible refine Within.ite ?_ ?_ | split | (extract_lets; split)

theorem within_execKnock {m : Nat}
    (hm : m ||| 0x120000200000000000000000000000000000000000000000000000000000000000000000000000000000000000334000000200000000004000000010201C001 = m) {s₀ : State} (h : RoceHead) (payload : List Byte) (at_ : Nat) {s : State} (h₀ : Within m s₀ s) :
    AnswersWithin m s₀ (execKnock h payload at_ s) := by
  unfold execKnock
  refine AnswersWithin.next ?_
  have hA := within_State_arrive (Mask.sub hm rfl) h (1) (Within.advanceTo at_ (Mask.bit hm rfl) h₀)
  generalize (s.advanceTo at_).arrive h (1) = x at hA ⊢
  obtain ⟨q?, s1⟩ := x
  cases q? with
  | none => exact hA
  | some q =>
    dsimp only at hA ⊢
    generalize s1.turnOf q h.psn.toNat = t
    generalize h.psn.toNat = psn
    have h2 : Within m s₀ ((s1.expect q 1).ack q psn) := within_State_ack (Mask.sub hm rfl) _ _ (within_State_expect (Mask.sub hm rfl) _ _ hA)
    generalize (s1.expect q 1).ack q psn = s2 at h2 ⊢
    cases t with
    | now =>
      dsimp only
      refine Within.ite (within_State_raise _ _ (touch_HT_QP_STAT (Mask.bit hm rfl) _) h2) ?_
      generalize s2.knockIdx q (leAt payload 0 1) = i?
      cases i? with
      | none => exact within_State_raise _ _ (touch_HT_QP_STAT (Mask.bit hm rfl) _) h2
      | some i => exact within_State_takeIndex (Mask.sub hm rfl) _ _ _ h2
    | again => exact within_State_outOfTurn (Mask.sub hm rfl) _ _ _ hA
    | early => exact within_State_outOfTurn (Mask.sub hm rfl) _ _ _ hA

theorem within_execDoorbellPoll {m : Nat} {s₀ s : State} (hm : m ||| 0x3340000000000000000000000000100014001 = m) (at_ : Nat)
    (h₀ : Within m s₀ s) : AnswersWithin m s₀ (execDoorbellPoll at_ s) := by
  unfold execDoorbellPoll
  repeat' first
    | with_reducible assumption | with_reducible refine AnswersWithin.next ?_ | with_reducible intro _
    | with_reducible apply Within.advanceTo _ (Mask.bit hm rfl) | with_reducible apply within_State_rdmaRead (Mask.sub hm rfl)
    | with_reducible apply within_State_advance (Mask.sub hm rfl) | with_reducible refine Within.each ?_ ?_
    | with_reducible refine Within.ite ?_ ?_ | split | (extract_lets; split)

theorem within_State_windowNak {m : Nat} {s₀ s : State}
    (hm : m ||| 0x200000300000000000000000000000000000000000000000000000000000000000000000000000000000000000334000400200000000000000000010209C000 = m)
    (q : Nat) (psn : Nat) (code : Nat) (f : Field) (h₀ : Within m s₀ s) : Within m s₀ (State.windowNak s q psn code f) := by
  unfold State.windowNak
  repeat' first
    | with_reducible assumption | with_reducible apply within_State_raise | with_reducible apply within_State_qpError (Mask.sub hm rfl)
    | with_reducible apply within_State_nak (Mask.sub hm rfl) | exact touch_HT_QP_STAT (Mask.bit hm rfl) _

theorem within_execWindowWrite {m : Nat}
    (hm : m ||| 0x100000000010002800003000000000FF01082F92001FF0002098603400185E001D780960000000011000100608CF603522703001B3470740024385D80BEA20425B103FFFFFFFF = m) {s₀ : State} (h : RoceHead) (va : BitVec 64) (rkey : Word) (data : List Byte) (at_ : Nat)
    {s : State} (h₀ : Within m s₀ s) : AnswersWithin m s₀ (execWindowWrite h va rkey data at_ s) := by
  unfold execWindowWrite
  refine AnswersWithin.next ?_
  have hA := within_State_arrive (Mask.sub hm rfl) h (packets 1024 data.length) (Within.advanceTo at_ (Mask.bit hm rfl) h₀)
  generalize (s.advanceTo at_).arrive h (packets 1024 data.length) = x at hA ⊢
  obtain ⟨q?, s1⟩ := x
  cases q? with
  | none => exact hA
  | some q =>
    dsimp only at hA ⊢
    generalize s1.turnOf q h.psn.toNat = t
    generalize h.psn.toNat = psn
    cases t with
    | now =>
      dsimp only
      generalize packets (s1.mtu q) data.length = n
      generalize psnAdd psn (n - 1) = last
      have h2 : Within m s₀ (s1.expect q n) := within_State_expect (Mask.sub hm rfl) _ _ hA
      generalize s1.expect q n = s2 at h2 ⊢
      refine Within.ite (within_State_ack (Mask.sub hm rfl) _ _ h2) (Within.ite (within_State_windowNak (Mask.sub hm rfl) _ _ _ _ h2) ?_)
      have h3 := within_State_writeBurst (Mask.sub hm rfl) (qpMaster q) (wordsFrom va.toNat (wordsLe (data.length / 4) data).length)
        (wordsLe (data.length / 4) data) va.toNat (data.length % 4) none h2
      generalize s2.writeBurst (qpMaster q) (wordsFrom va.toNat (wordsLe (data.length / 4) data).length)
        (wordsLe (data.length / 4) data) va.toNat (data.length % 4) none = y at h3 ⊢
      obtain ⟨r, s3⟩ := y
      cases r with
      | done _ => exact within_State_ack (Mask.sub hm rfl) _ _ h3
      | deferred => exact within_State_windowNak (Mask.sub hm rfl) _ _ _ _ h3
      | error => exact within_State_windowNak (Mask.sub hm rfl) _ _ _ _ h3
    | again => exact within_State_outOfTurn (Mask.sub hm rfl) _ _ _ hA
    | early => exact within_State_outOfTurn (Mask.sub hm rfl) _ _ _ hA

theorem within_execWindowRead {m : Nat}
    (hm : m ||| 0x200000300000000000000800000000000020000004000000001000090000000000000012100800000000000000334000400240100000000000001030209C005 = m) {s₀ : State} (h : RoceHead) (va : BitVec 64) (rkey : Word) (len : Word) (at_ : Nat) {s : State}
    (h₀ : Within m s₀ s) : AnswersWithin m s₀ (execWindowRead h va rkey len at_ s) := by
  unfold execWindowRead
  refine AnswersWithin.next ?_
  have hA := within_State_arrive (Mask.sub hm rfl) h (1) (Within.advanceTo at_ (Mask.bit hm rfl) h₀)
  generalize (s.advanceTo at_).arrive h (1) = x at hA ⊢
  obtain ⟨q?, s1⟩ := x
  cases q? with
  | none => exact hA
  | some q =>
    dsimp only at hA ⊢
    generalize s1.turnOf q h.psn.toNat = t
    generalize h.psn.toNat = psn
    have key : ∀ s2, Within m s₀ s2 → Within m s₀ (if len.toNat = 0 then s2.respond q psn []
        else if s2.windowBad q va.toNat rkey.toNat len.toNat then s2.windowNak q psn nakAccess Fld.HT_QP_STAT_WIN_ERR
        else
          let (r, s3) := s2.readBurst (qpMaster q) (wordsFrom va.toNat (min 257 (len.toNat / 4))) va.toNat (len.toNat % 4)
          match r with
          | .done l => s3.respond q psn (l.flatMap (fun w => leBytes 4 w.toNat))
          | .deferred => s3.windowNak q psn nakOperational Fld.HT_QP_STAT_WIN_DEFER
          | .error => s3.windowNak q psn nakAccess Fld.HT_QP_STAT_WIN_ERR) := by
      intro s2 h2
      refine Within.ite (within_State_respond (Mask.sub hm rfl) _ _ _ h2) (Within.ite (within_State_windowNak (Mask.sub hm rfl) _ _ _ _ h2) ?_)
      have h3 := within_State_readBurst (Mask.sub hm rfl) (qpMaster q) (wordsFrom va.toNat (min 257 (len.toNat / 4))) va.toNat (len.toNat % 4) h2
      generalize s2.readBurst (qpMaster q) (wordsFrom va.toNat (min 257 (len.toNat / 4))) va.toNat (len.toNat % 4) = y at h3 ⊢
      obtain ⟨r, s3⟩ := y
      cases r with
      | done _ => exact within_State_respond (Mask.sub hm rfl) _ _ _ h3
      | deferred => exact within_State_windowNak (Mask.sub hm rfl) _ _ _ _ h3
      | error => exact within_State_windowNak (Mask.sub hm rfl) _ _ _ _ h3
    cases t with
    | now => exact key _ (Within.ite (within_State_expect (Mask.sub hm rfl) _ _ hA) hA)
    | again => exact key _ (Within.ite (within_State_expect (Mask.sub hm rfl) _ _ hA) hA)
    | early => exact within_State_outOfTurn (Mask.sub hm rfl) _ _ _ hA

theorem within_State_progressed {m : Nat} {s₀ s : State} (hm : m ||| 0x3340000000000000000000000000100014000 = m) (q : Nat)
    (out : List Rdma) (h₀ : Within m s₀ s) : Within m s₀ (State.progressed s q out) := by
  unfold State.progressed
  repeat' first
    | with_reducible assumption | with_reducible intro _ | with_reducible apply within_State_pump (Mask.sub hm rfl)
    | with_reducible apply within_State_modQp (Mask.sub hm rfl) | with_reducible apply within_State_pumpQp (Mask.sub hm rfl)
    | (with_reducible refine Within.mk ?_ ?hk
       case hk => (repeat' apply And.intro) <;> first | with_reducible exact .inr rfl | exact .inl (Mask.bit hm rfl)
       first
        | with_reducible assumption | with_reducible apply within_State_pump (Mask.sub hm rfl)
        | with_reducible apply within_State_modQp (Mask.sub hm rfl) | with_reducible apply within_State_pumpQp (Mask.sub hm rfl))

theorem within_State_rangBell {m : Nat} {s₀ s : State}
    (hm : m ||| 0x120000200000000000000000000000000000000000000000000000000000000000000000000000000000000000334000000000000000004000000010201C000 = m)
    (q : Nat) (bs : List Byte) (h₀ : Within m s₀ s) : Within m s₀ (State.rangBell s q bs) := by
  unfold State.rangBell
  repeat' first
    | with_reducible assumption | with_reducible apply within_State_takeIndex (Mask.sub hm rfl) | with_reducible refine Within.ite ?_ ?_
    | split | (extract_lets; split)

theorem within_State_readDone {m : Nat}
    (hm : m ||| 0x12000020000000000000000000000000000000000000000000000000000000000000000000000000000000000033400000000000000000E380400010309C044 = m) {s₀ s : State} (q : Nat) (bs : List Byte) (u : ReadUse) (h₀ : Within m s₀ s) :
    Within m s₀ (State.readDone s q bs u) := by
  cases u <;> unfold State.readDone <;> dsimp only <;> repeat' first
    | with_reducible assumption | with_reducible apply within_State_rangBell (Mask.sub hm rfl) | with_reducible apply within_State_takeIndex (Mask.sub hm rfl)
    | with_reducible apply within_State_modQp (Mask.sub hm rfl) | with_reducible apply within_State_modCmd (Mask.sub hm rfl) | with_reducible apply within_State_pulled (Mask.sub hm rfl)
    | with_reducible apply within_State_repaired (Mask.sub hm rfl) | with_reducible refine Within.ite ?_ ?_

theorem within_execRdmaReadResponse {m : Nat} {s₀ s : State}
    (hm : m ||| 0x12000020000000000000000000000000000000000000000000000000000000000000000000000000000000000033400000020000000000E380400010309C045 = m)
    (h : RoceHead) (data : List Byte) (at_ : Nat) (h₀ : Within m s₀ s) : AnswersWithin m s₀ (execRdmaReadResponse h data at_ s) := by
  unfold execRdmaReadResponse
  repeat' first
    | with_reducible assumption | with_reducible refine AnswersWithin.next ?_ | with_reducible intro _
    | with_reducible apply Within.advanceTo _ (Mask.bit hm rfl) | with_reducible apply within_State_advance (Mask.sub hm rfl)
    | with_reducible apply within_State_arrive (Mask.sub hm rfl) | with_reducible apply within_State_progressed (Mask.sub hm rfl)
    | with_reducible apply within_State_readDone (Mask.sub hm rfl) | with_reducible refine Within.foldl _ ?_ ?_
    | with_reducible refine Within.foldlFst _ ?_ ?_ | with_reducible refine Within.foldlSnd _ ?_ ?_
    | with_reducible refine Within.snd (by assumption) ?_ | with_reducible refine Within.fst (by assumption) ?_
    | with_reducible refine Within.ite ?_ ?_ | split | (extract_lets; split)

theorem within_execRdmaAck {m : Nat} {s₀ s : State} (hm : m ||| 0x334000000200000000000000000010001C001 = m) (h : RoceHead)
    (at_ : Nat) (h₀ : Within m s₀ s) : AnswersWithin m s₀ (execRdmaAck h at_ s) := by
  unfold execRdmaAck
  repeat' first
    | with_reducible assumption | with_reducible refine AnswersWithin.next ?_
    | with_reducible apply Within.advanceTo _ (Mask.bit hm rfl) | with_reducible apply within_State_advance (Mask.sub hm rfl)
    | with_reducible apply within_State_arrive (Mask.sub hm rfl) | with_reducible apply within_State_ack (Mask.sub hm rfl)
    | with_reducible apply within_State_progressed (Mask.sub hm rfl) | with_reducible refine Within.snd (by assumption) ?_
    | with_reducible refine Within.fst (by assumption) ?_ | with_reducible refine Within.ite ?_ ?_ | split | (extract_lets; split)

theorem within_execNakRcvd {m : Nat} {s₀ s : State}
    (hm : m ||| 0x200000300000000000000000000000000000000000000000000000000000000000000000000000000000000000000000400200000000000000000010208C001 = m)
    (h : RoceHead) (at_ : Nat) (h₀ : Within m s₀ s) : AnswersWithin m s₀ (execNakRcvd h at_ s) := by
  unfold execNakRcvd
  repeat' first
    | with_reducible assumption | with_reducible refine AnswersWithin.next ?_
    | with_reducible apply Within.advanceTo _ (Mask.bit hm rfl) | with_reducible apply within_State_raise
    | with_reducible apply within_State_qpError (Mask.sub hm rfl) | with_reducible apply within_State_advance (Mask.sub hm rfl)
    | with_reducible apply within_State_arrive (Mask.sub hm rfl) | with_reducible refine Within.snd (by assumption) ?_
    | with_reducible refine Within.fst (by assumption) ?_ | exact touch_HT_QP_STAT (Mask.bit hm rfl) _
    | with_reducible refine Within.ite ?_ ?_ | split | (extract_lets; split)

theorem within_execAckTimeout {m : Nat} {s₀ s : State}
    (hm : m ||| 0x200000300000000000000000000000000000000000000000000000000000000000000000000000000000000000334000400200000000000000000010209C001 = m)
    (q : Fin 64) (h₀ : Within m s₀ s) : AnswersWithin m s₀ (execAckTimeout q s) := by
  unfold execAckTimeout
  repeat' first
    | with_reducible assumption | with_reducible refine AnswersWithin.next ?_ | with_reducible intro _
    | with_reducible apply Within.advanceTo _ (Mask.bit hm rfl) | with_reducible apply Within.send _ (Mask.bit hm rfl)
    | with_reducible apply within_State_raise | with_reducible apply within_State_modQp (Mask.sub hm rfl)
    | with_reducible apply within_State_sendRequest (Mask.sub hm rfl) | with_reducible apply within_State_qpError (Mask.sub hm rfl)
    | with_reducible apply within_State_advance (Mask.sub hm rfl) | with_reducible apply within_State_ack (Mask.sub hm rfl)
    | with_reducible refine Within.foldl _ ?_ ?_ | with_reducible refine Within.foldlFst _ ?_ ?_
    | with_reducible refine Within.foldlSnd _ ?_ ?_ | exact touch_HT_QP_STAT (Mask.bit hm rfl) _
    | with_reducible refine Within.ite ?_ ?_ | split | (extract_lets; split)
    | (with_reducible refine Within.mk ?_ ?hk
       case hk => (repeat' apply And.intro) <;> first | with_reducible exact .inr rfl | exact .inl (Mask.bit hm rfl)
       first
        | with_reducible assumption | with_reducible apply Within.advanceTo _ (Mask.bit hm rfl)
        | with_reducible apply Within.send _ (Mask.bit hm rfl) | with_reducible apply within_State_raise
        | with_reducible apply within_State_modQp (Mask.sub hm rfl) | with_reducible apply within_State_sendRequest (Mask.sub hm rfl)
        | with_reducible apply within_State_qpError (Mask.sub hm rfl) | with_reducible apply within_State_advance (Mask.sub hm rfl)
        | with_reducible apply within_State_ack (Mask.sub hm rfl) | with_reducible refine Within.foldl _ ?_ ?_
        | with_reducible refine Within.foldlFst _ ?_ ?_ | with_reducible refine Within.foldlSnd _ ?_ ?_
        | with_reducible refine Within.ite ?_ ?_ | split | (extract_lets; split))

theorem within_execPfcFrame {m : Nat} {s₀ s : State} (hm : m ||| 0x3300000000000000000000000000100018001 = m) (p : Fin 2)
    (enable : BitVec 8) (quanta : List (BitVec 16)) (at_ : Nat) (h₀ : Within m s₀ s) :
    AnswersWithin m s₀ (execPfcFrame p enable quanta at_ s) := by
  unfold execPfcFrame
  repeat' first
    | with_reducible assumption | with_reducible refine AnswersWithin.next ?_ | with_reducible refine AnswersWithin.ite ?_ ?_
    | with_reducible intro _ | with_reducible apply Within.advanceTo _ (Mask.bit hm rfl)
    | with_reducible apply within_State_drain (Mask.sub hm rfl) | with_reducible apply within_State_advance (Mask.sub hm rfl)
    | with_reducible refine Within.foldl _ ?_ ?_ | with_reducible refine Within.foldlFst _ ?_ ?_
    | with_reducible refine Within.foldlSnd _ ?_ ?_ | with_reducible refine Within.ite ?_ ?_ | split | (extract_lets; split)
    | (with_reducible refine Within.mk ?_ ?hk
       case hk => (repeat' apply And.intro) <;> first | with_reducible exact .inr rfl | exact .inl (Mask.bit hm rfl)
       first
        | with_reducible assumption | with_reducible apply Within.advanceTo _ (Mask.bit hm rfl)
        | with_reducible apply within_State_drain (Mask.sub hm rfl) | with_reducible apply within_State_advance (Mask.sub hm rfl)
        | with_reducible refine Within.foldl _ ?_ ?_ | with_reducible refine Within.foldlFst _ ?_ ?_
        | with_reducible refine Within.foldlSnd _ ?_ ?_ | with_reducible refine Within.ite ?_ ?_ | split | (extract_lets; split)
        | (with_reducible refine Within.mk ?_ ?hk
           case hk => (repeat' apply And.intro) <;> first | with_reducible exact .inr rfl | exact .inl (Mask.bit hm rfl)
           first
            | with_reducible assumption | with_reducible apply Within.advanceTo _ (Mask.bit hm rfl)
            | with_reducible apply within_State_drain (Mask.sub hm rfl) | with_reducible apply within_State_advance (Mask.sub hm rfl)
            | with_reducible refine Within.foldl _ ?_ ?_ | with_reducible refine Within.foldlFst _ ?_ ?_
            | with_reducible refine Within.foldlSnd _ ?_ ?_ | with_reducible refine Within.ite ?_ ?_ | split | (extract_lets; split)))

theorem within_execPfcPauseExpiry {m : Nat} {s₀ s : State} (hm : m ||| 0x3300000000000000000000000000100018001 = m) (p : Fin 2)
    (h₀ : Within m s₀ s) : AnswersWithin m s₀ (execPfcPauseExpiry p s) := by
  unfold execPfcPauseExpiry
  repeat' first
    | with_reducible assumption | with_reducible refine AnswersWithin.next ?_ | with_reducible intro _
    | with_reducible apply Within.advanceTo _ (Mask.bit hm rfl) | with_reducible apply within_State_drain (Mask.sub hm rfl)
    | with_reducible apply within_State_advance (Mask.sub hm rfl) | with_reducible refine Within.snd (by assumption) ?_
    | with_reducible refine Within.fst (by assumption) ?_ | with_reducible refine Within.ite ?_ ?_ | split | (extract_lets; split)
    | (with_reducible refine Within.mk ?_ ?hk
       case hk => (repeat' apply And.intro) <;> first | with_reducible exact .inr rfl | exact .inl (Mask.bit hm rfl)
       first
        | with_reducible assumption | with_reducible apply Within.advanceTo _ (Mask.bit hm rfl)
        | with_reducible apply within_State_drain (Mask.sub hm rfl) | with_reducible apply within_State_advance (Mask.sub hm rfl)
        | with_reducible refine Within.snd (by assumption) ?_ | with_reducible refine Within.fst (by assumption) ?_
        | with_reducible refine Within.ite ?_ ?_ | split | (extract_lets; split)
        | (with_reducible refine Within.mk ?_ ?hk
           case hk => (repeat' apply And.intro) <;> first | with_reducible exact .inr rfl | exact .inl (Mask.bit hm rfl)
           first
            | with_reducible assumption | with_reducible apply Within.advanceTo _ (Mask.bit hm rfl)
            | with_reducible apply within_State_drain (Mask.sub hm rfl) | with_reducible apply within_State_advance (Mask.sub hm rfl)
            | with_reducible refine Within.snd (by assumption) ?_ | with_reducible refine Within.fst (by assumption) ?_
            | with_reducible refine Within.ite ?_ ?_ | split | (extract_lets; split)))

theorem within_State_admit {m : Nat} {s₀ s : State}
    (hm : m ||| 0x80000200000000000000000000000000000000000000000000000000000000000000000000000000000000000334000000000000000000000000010001C000 = m)
    (c : HostCmd) (h₀ : Within m s₀ s) : Within m s₀ (State.admitCmd s c) := by
  unfold State.admitCmd
  repeat' first
    | with_reducible assumption | with_reducible apply within_State_complete (Mask.sub hm rfl)
    | with_reducible apply within_State_completeWith (Mask.sub hm rfl) | with_reducible apply within_State_readIn (Mask.sub hm rfl)
    | with_reducible refine Within.snd (by assumption) ?_ | with_reducible refine Within.fst (by assumption) ?_
    | with_reducible refine Within.ite ?_ ?_ | split | (extract_lets; split)

theorem within_execCommandStart {m : Nat} {s₀ s : State}
    (hm : m ||| 0xC0000200000000000000000000000000000000000000000000000000000000000000000000000000000000000334000000000000000000000000010001C000 = m)
    (h₀ : Within m s₀ s) : AnswersWithin m s₀ (execCommandStart s) := by
  unfold execCommandStart
  repeat' first
    | with_reducible assumption | with_reducible refine AnswersWithin.next ?_ | with_reducible intro _ | with_reducible apply Within.wr
    | with_reducible apply within_State_modQp (Mask.sub hm rfl) | with_reducible apply within_State_admit (Mask.sub hm rfl)
    | with_reducible refine Within.snd (by assumption) ?_ | with_reducible refine Within.fst (by assumption) ?_
    | exact touch_HT_QP_CMD_CI (Mask.bit hm rfl) _ | with_reducible refine Within.ite ?_ ?_ | split | (extract_lets; split)
    | (with_reducible refine Within.mk ?_ ?hk
       case hk => (repeat' apply And.intro) <;> first | with_reducible exact .inr rfl | exact .inl (Mask.bit hm rfl)
       first
        | with_reducible assumption | with_reducible apply Within.wr | with_reducible apply within_State_modQp (Mask.sub hm rfl)
        | with_reducible apply within_State_admit (Mask.sub hm rfl) | with_reducible refine Within.snd (by assumption) ?_
        | with_reducible refine Within.fst (by assumption) ?_ | with_reducible refine Within.ite ?_ ?_ | split | (extract_lets; split)
        | (with_reducible refine Within.mk ?_ ?hk
           case hk => (repeat' apply And.intro) <;> first | with_reducible exact .inr rfl | exact .inl (Mask.bit hm rfl)
           first
            | with_reducible assumption | with_reducible apply Within.wr | with_reducible apply within_State_modQp (Mask.sub hm rfl)
            | with_reducible apply within_State_admit (Mask.sub hm rfl) | with_reducible refine Within.snd (by assumption) ?_
            | with_reducible refine Within.fst (by assumption) ?_ | with_reducible refine Within.ite ?_ ?_ | split
            | (extract_lets; split)))

theorem within_execRunAt {m : Nat} {s₀ s : State}
    (hm : m ||| 0x80000200000000000000000000000000000000000000000000000000000000000000000000000000000000000334000000000000000000000000010001C060 = m)
    (h₀ : Within m s₀ s) : AnswersWithin m s₀ (execRunAt s) := by
  unfold execRunAt
  repeat' first
    | with_reducible assumption | with_reducible refine AnswersWithin.next ?_ | with_reducible refine AnswersWithin.ite ?_ ?_
    | with_reducible intro _ | with_reducible apply within_State_modStrand (Mask.sub hm rfl)
    | with_reducible apply within_State_complete (Mask.sub hm rfl) | with_reducible apply within_State_completeWith (Mask.sub hm rfl)
    | with_reducible apply within_State_modCmd (Mask.sub hm rfl) | with_reducible refine Within.each ?_ ?_
    | with_reducible refine Within.snd (by assumption) ?_ | with_reducible refine Within.fst (by assumption) ?_
    | with_reducible refine Within.ite ?_ ?_ | split | (extract_lets; split)
    | (with_reducible refine Within.mk ?_ ?hk
       case hk => (repeat' apply And.intro) <;> first | with_reducible exact .inr rfl | exact .inl (Mask.bit hm rfl)
       first
        | with_reducible assumption | with_reducible apply within_State_modStrand (Mask.sub hm rfl)
        | with_reducible apply within_State_complete (Mask.sub hm rfl)
        | with_reducible apply within_State_completeWith (Mask.sub hm rfl) | with_reducible apply within_State_modCmd (Mask.sub hm rfl)
        | with_reducible refine Within.each ?_ ?_ | with_reducible refine Within.snd (by assumption) ?_
        | with_reducible refine Within.fst (by assumption) ?_ | with_reducible refine Within.ite ?_ ?_ | split | (extract_lets; split)
        | (with_reducible refine Within.mk ?_ ?hk
           case hk => (repeat' apply And.intro) <;> first | with_reducible exact .inr rfl | exact .inl (Mask.bit hm rfl)
           first
            | with_reducible assumption | with_reducible apply within_State_modStrand (Mask.sub hm rfl)
            | with_reducible apply within_State_complete (Mask.sub hm rfl)
            | with_reducible apply within_State_completeWith (Mask.sub hm rfl)
            | with_reducible apply within_State_modCmd (Mask.sub hm rfl) | with_reducible refine Within.each ?_ ?_
            | with_reducible refine Within.snd (by assumption) ?_ | with_reducible refine Within.fst (by assumption) ?_
            | with_reducible refine Within.ite ?_ ?_ | split | (extract_lets; split)))

theorem within_execHalt {m : Nat} {s₀ s : State}
    (hm : m ||| 0x800002000000000F901080E00000870000080000000181E000078002000000001000000020000200000702000B3400040020000000382204203003FFFFFFFF = m)
    (h₀ : Within m s₀ s) : AnswersWithin m s₀ (execHalt s) := by
  unfold execHalt
  repeat' first
    | with_reducible assumption | with_reducible refine AnswersWithin.next ?_ | with_reducible intro _
    | with_reducible apply within_State_raise | with_reducible apply within_State_complete (Mask.sub hm rfl)
    | with_reducible apply within_State_modCmd (Mask.sub hm rfl) | with_reducible apply within_State_abortRun (Mask.sub hm rfl)
    | with_reducible apply within_State_raiseStop (Mask.sub hm rfl) | with_reducible refine Within.each ?_ ?_
    | with_reducible refine Within.snd (by assumption) ?_ | with_reducible refine Within.fst (by assumption) ?_
    | exact Touch.any (Mask.bit hm rfl) | with_reducible refine Within.ite ?_ ?_ | split | (extract_lets; split)
    | (with_reducible refine Within.mk ?_ ?hk
       case hk => (repeat' apply And.intro) <;> first | with_reducible exact .inr rfl | exact .inl (Mask.bit hm rfl)
       first
        | with_reducible assumption | with_reducible apply within_State_raise
        | with_reducible apply within_State_complete (Mask.sub hm rfl) | with_reducible apply within_State_modCmd (Mask.sub hm rfl)
        | with_reducible apply within_State_abortRun (Mask.sub hm rfl) | with_reducible apply within_State_raiseStop (Mask.sub hm rfl)
        | with_reducible refine Within.each ?_ ?_ | with_reducible refine Within.snd (by assumption) ?_
        | with_reducible refine Within.fst (by assumption) ?_ | with_reducible refine Within.ite ?_ ?_ | split | (extract_lets; split)
        | (with_reducible refine Within.mk ?_ ?hk
           case hk => (repeat' apply And.intro) <;> first | with_reducible exact .inr rfl | exact .inl (Mask.bit hm rfl)
           first
            | with_reducible assumption | with_reducible apply within_State_raise
            | with_reducible apply within_State_complete (Mask.sub hm rfl) | with_reducible apply within_State_modCmd (Mask.sub hm rfl)
            | with_reducible apply within_State_abortRun (Mask.sub hm rfl)
            | with_reducible apply within_State_raiseStop (Mask.sub hm rfl) | with_reducible refine Within.each ?_ ?_
            | with_reducible refine Within.snd (by assumption) ?_ | with_reducible refine Within.fst (by assumption) ?_
            | with_reducible refine Within.ite ?_ ?_ | split | (extract_lets; split)))

theorem within_State_readGroup {m : Nat} {s₀ s : State} (hm : m ||| 0x1200000000001000004 = m) (g : Nat) (bad : Bool)
    (h₀ : Within m s₀ s) : Within m s₀ (State.readGroup s g bad).2 := by
  unfold State.readGroup
  repeat' first
    | with_reducible assumption | with_reducible apply Within.free (Mask.bit hm rfl)
    | with_reducible apply within_State_groupBad (Mask.sub hm rfl) | with_reducible refine Within.snd (by assumption) ?_
    | with_reducible refine Within.fst (by assumption) ?_ | with_reducible refine Within.ite ?_ ?_ | split | (extract_lets; split)

theorem within_State_freeRecords {m : Nat} {s₀ s : State}
    (hm : m ||| 0x80000000000000000000000000000000000000000000000000000000000000000000000000000000000000000000000800 = m) (k : Nat)
    (n : Nat) (bytes : Nat) (h₀ : Within m s₀ s) : Within m s₀ (State.freeRecords s k n bytes) := by
  unfold State.freeRecords
  repeat' first
    | with_reducible assumption | with_reducible intro _ | with_reducible apply within_State_modAcq (Mask.sub hm rfl)
    | with_reducible apply within_State_aqFill (Mask.sub hm rfl)
    | (with_reducible refine Within.mk ?_ ?hk
       case hk => (repeat' apply And.intro) <;> first | with_reducible exact .inr rfl | exact .inl (Mask.bit hm rfl)
       first
        | with_reducible assumption | with_reducible apply within_State_modAcq (Mask.sub hm rfl)
        | with_reducible apply within_State_aqFill (Mask.sub hm rfl))

theorem within_execResultFetch {m : Nat} {s₀ s : State}
    (hm : m ||| 0x80000200000000000000000000008000000000000000000000000000000000000000000000000000000000000334000000000000000120000400010109C804 = m)
    (bad : List Nat) (h₀ : Within m s₀ s) : AnswersWithin m s₀ (execResultFetch bad s) := by
  unfold execResultFetch
  repeat' first
    | with_reducible assumption | with_reducible refine AnswersWithin.next ?_ | with_reducible intro _ | with_reducible apply Within.wr
    | with_reducible apply Within.free (Mask.bit hm rfl) | with_reducible apply within_State_complete (Mask.sub hm rfl)
    | with_reducible apply within_State_completeWith (Mask.sub hm rfl) | with_reducible apply within_State_writeOut (Mask.sub hm rfl)
    | with_reducible apply within_State_traffic (Mask.sub hm rfl) | with_reducible apply within_State_readGroup (Mask.sub hm rfl)
    | with_reducible apply within_State_freeRecords (Mask.sub hm rfl) | with_reducible refine Within.foldl _ ?_ ?_
    | with_reducible refine Within.foldlFst _ ?_ ?_ | with_reducible refine Within.foldlSnd _ ?_ ?_
    | with_reducible refine Within.snd (by assumption) ?_ | with_reducible refine Within.fst (by assumption) ?_
    | with_reducible refine Within.ite ?_ ?_ | split | (extract_lets; split)

theorem within_batchStep {n : Nat}
    (hm : n ||| 0x100000000010002800003000000000FF01082F92001FF0002098603400185E001D780960000000011000121608CF603522703001B3470740024395D80BEA20425B103FFFFFFFF = n) {s₀ : State} (m : Master) {x : BatchRun × State} (e : BatchEntry × Nat) (h₀ : Within n s₀ x.2) :
    Within n s₀ (batchStep m x e).2 := by
  obtain ⟨b, s⟩ := x
  unfold batchStep
  dsimp only
  split
  · exact h₀
  · have h1 : Within n s₀ (match e.1.data with
        | some d => s.writeBurst m (wordsFrom e.1.addr e.1.count) d e.1.addr 0 none
        | none => s.readBurst m (wordsFrom e.1.addr e.1.count) e.1.addr 0).2 := by
      split
      · exact within_State_writeBurst (Mask.sub hm rfl) _ _ _ _ _ _ h₀
      · exact within_State_readBurst (Mask.sub hm rfl) _ _ _ _ h₀
    split <;> exact h1

theorem within_execRegBatch {m : Nat} {s₀ s : State}
    (hm : m ||| 0x100000000010002800003000000000FF01082F92001FF0002098603400185E001D780960000000011000121608CF603522703001B3470740024395D80BEA20425B103FFFFFFFF = m)
    (h₀ : Within m s₀ s) : AnswersWithin m s₀ (execRegBatch s) := by
  unfold execRegBatch
  repeat' first
    | with_reducible assumption | with_reducible refine AnswersWithin.next ?_ | with_reducible refine AnswersWithin.ite ?_ ?_
    | with_reducible intro _ | with_reducible apply Within.wr | with_reducible apply within_State_complete (Mask.sub hm rfl)
    | with_reducible apply within_State_completeWith (Mask.sub hm rfl) | with_reducible apply within_State_writeOut (Mask.sub hm rfl)
    | with_reducible apply within_State_failed (Mask.sub hm rfl) | with_reducible apply within_batchStep (Mask.sub hm rfl)
    | with_reducible refine Within.foldl _ ?_ ?_ | with_reducible refine Within.foldlFst _ ?_ ?_
    | with_reducible refine Within.foldlSnd _ ?_ ?_ | with_reducible refine Within.snd (by assumption) ?_
    | with_reducible refine Within.fst (by assumption) ?_ | exact Touch.any (Mask.bit hm rfl) | with_reducible refine Within.ite ?_ ?_
    | split | (extract_lets; split)

theorem within_State_keyFail {m : Nat} {s₀ s : State} (hm : m ||| 0x8000000000000000000000000000000 = m) (q : Nat)
    (h₀ : Within m s₀ s) : Within m s₀ (State.keyFail s q) := by
  unfold State.keyFail
  repeat' first
    | with_reducible assumption | with_reducible apply within_State_setFld | with_reducible apply within_State_satAdd
    | exact touch_HT_KEY_FAIL (Mask.bit hm rfl)

theorem within_execHelmClaim {m : Nat} {s₀ s : State}
    (hm : m ||| 0x280000200000000000000000000000000000000000000000000000000000000000000000000000000000000000334000800200000000000000000010101C000 = m)
    (h₀ : Within m s₀ s) : AnswersWithin m s₀ (execHelmClaim s) := by
  unfold execHelmClaim
  repeat' first
    | with_reducible assumption | with_reducible refine AnswersWithin.next ?_ | with_reducible refine AnswersWithin.ite ?_ ?_
    | with_reducible intro _ | with_reducible apply within_State_setFld | with_reducible apply within_State_raise
    | with_reducible apply within_State_fault (Mask.sub hm rfl) | with_reducible apply within_State_complete (Mask.sub hm rfl)
    | with_reducible apply within_State_completeWith (Mask.sub hm rfl) | with_reducible apply within_State_keyFail (Mask.sub hm rfl)
    | with_reducible refine Within.snd (by assumption) ?_ | with_reducible refine Within.fst (by assumption) ?_
    | exact touch_HT_QP_PRIV (Mask.bit hm rfl) _ | exact touch_HT_STAT (Mask.bit hm rfl) | with_reducible refine Within.ite ?_ ?_
    | split | (extract_lets; split)
    | (with_reducible refine Within.mk ?_ ?hk
       case hk => (repeat' apply And.intro) <;> first | with_reducible exact .inr rfl | exact .inl (Mask.bit hm rfl)
       first
        | with_reducible assumption | with_reducible apply within_State_setFld | with_reducible apply within_State_raise
        | with_reducible apply within_State_fault (Mask.sub hm rfl) | with_reducible apply within_State_complete (Mask.sub hm rfl)
        | with_reducible apply within_State_completeWith (Mask.sub hm rfl)
        | with_reducible apply within_State_keyFail (Mask.sub hm rfl) | with_reducible refine Within.snd (by assumption) ?_
        | with_reducible refine Within.fst (by assumption) ?_ | with_reducible refine Within.ite ?_ ?_ | split | (extract_lets; split)
        | (with_reducible refine Within.mk ?_ ?hk
           case hk => (repeat' apply And.intro) <;> first | with_reducible exact .inr rfl | exact .inl (Mask.bit hm rfl)
           first
            | with_reducible assumption | with_reducible apply within_State_setFld | with_reducible apply within_State_raise
            | with_reducible apply within_State_fault (Mask.sub hm rfl) | with_reducible apply within_State_complete (Mask.sub hm rfl)
            | with_reducible apply within_State_completeWith (Mask.sub hm rfl)
            | with_reducible apply within_State_keyFail (Mask.sub hm rfl) | with_reducible refine Within.snd (by assumption) ?_
            | with_reducible refine Within.fst (by assumption) ?_ | with_reducible refine Within.ite ?_ ?_ | split
            | (extract_lets; split)))

theorem within_execLockoutEnd {m : Nat} {s₀ s : State} (hm : m ||| 0x8001 = m) (h₀ : Within m s₀ s) :
    AnswersWithin m s₀ (execLockoutEnd s) := by
  unfold execLockoutEnd
  repeat' first
    | with_reducible assumption | with_reducible refine AnswersWithin.next ?_
    | with_reducible apply Within.advanceTo _ (Mask.bit hm rfl) | with_reducible apply within_State_advance (Mask.sub hm rfl)
    | with_reducible refine Within.snd (by assumption) ?_ | with_reducible refine Within.fst (by assumption) ?_
    | with_reducible refine Within.ite ?_ ?_ | split | (extract_lets; split)
    | (with_reducible refine Within.mk ?_ ?hk
       case hk => (repeat' apply And.intro) <;> first | with_reducible exact .inr rfl | exact .inl (Mask.bit hm rfl)
       first
        | with_reducible assumption | with_reducible apply Within.advanceTo _ (Mask.bit hm rfl)
        | with_reducible apply within_State_advance (Mask.sub hm rfl) | with_reducible refine Within.snd (by assumption) ?_
        | with_reducible refine Within.fst (by assumption) ?_ | with_reducible refine Within.ite ?_ ?_ | split | (extract_lets; split)
        | (with_reducible refine Within.mk ?_ ?hk
           case hk => (repeat' apply And.intro) <;> first | with_reducible exact .inr rfl | exact .inl (Mask.bit hm rfl)
           first
            | with_reducible assumption | with_reducible apply Within.advanceTo _ (Mask.bit hm rfl)
            | with_reducible apply within_State_advance (Mask.sub hm rfl) | with_reducible refine Within.snd (by assumption) ?_
            | with_reducible refine Within.fst (by assumption) ?_ | with_reducible refine Within.ite ?_ ?_ | split
            | (extract_lets; split)))

theorem within_execHelmAck {m : Nat} {s₀ s : State}
    (hm : m ||| 0x80000200000000000000000000000000000000000000000000000000000000000000000000000200000000000334000000000000000000000000010801C000 = m)
    (h₀ : Within m s₀ s) : AnswersWithin m s₀ (execHelmAck s) := by
  unfold execHelmAck
  repeat' first
    | with_reducible assumption | with_reducible refine AnswersWithin.next ?_
    | with_reducible apply within_State_complete (Mask.sub hm rfl) | with_reducible apply within_State_completeWith (Mask.sub hm rfl)
    | with_reducible apply within_State_helmAck (Mask.sub hm rfl) | with_reducible refine Within.snd (by assumption) ?_
    | with_reducible refine Within.fst (by assumption) ?_ | with_reducible refine Within.ite ?_ ?_ | split | (extract_lets; split)

theorem within_execNop {m : Nat} {s₀ s : State}
    (hm : m ||| 0x80000200000000000000000000000000000000000000000000000000000000000000000000000000000000000334000000000000000000000000010001C000 = m)
    (h₀ : Within m s₀ s) : AnswersWithin m s₀ (execNop s) := by
  unfold execNop
  repeat' first
    | with_reducible assumption | with_reducible refine AnswersWithin.next ?_
    | with_reducible apply within_State_complete (Mask.sub hm rfl) | with_reducible apply within_State_completeWith (Mask.sub hm rfl)
    | with_reducible refine Within.snd (by assumption) ?_ | with_reducible refine Within.fst (by assumption) ?_
    | with_reducible refine Within.ite ?_ ?_ | split | (extract_lets; split)

theorem within_State_writeEvent {m : Nat} {s₀ s : State} (hm : m ||| 0x3340000000000000000000000000102014000 = m) (e : EventRec)
    (h₀ : Within m s₀ s) : Within m s₀ (State.writeEvent s e) := by
  unfold State.writeEvent
  repeat' first
    | with_reducible assumption | with_reducible apply within_State_rdmaWrite (Mask.sub hm rfl)
    | (with_reducible refine Within.mk ?_ ?hk
       case hk => (repeat' apply And.intro) <;> first | with_reducible exact .inr rfl | exact .inl (Mask.bit hm rfl)
       first
        | with_reducible assumption | with_reducible apply within_State_rdmaWrite (Mask.sub hm rfl)
        | (with_reducible refine Within.mk ?_ ?hk
           case hk => (repeat' apply And.intro) <;> first | with_reducible exact .inr rfl | exact .inl (Mask.bit hm rfl)
           first
            | with_reducible assumption | with_reducible apply within_State_rdmaWrite (Mask.sub hm rfl)))

theorem within_execEventWrite {m : Nat} {s₀ s : State} (hm : m ||| 0x3340000000000000000000000000102014000 = m) (h₀ : Within m s₀ s) :
    AnswersWithin m s₀ (execEventWrite s) := by
  unfold execEventWrite
  repeat' first
    | with_reducible assumption | with_reducible refine AnswersWithin.next ?_ | with_reducible apply Within.wr
    | with_reducible apply within_State_writeEvent (Mask.sub hm rfl) | with_reducible refine Within.snd (by assumption) ?_
    | with_reducible refine Within.fst (by assumption) ?_ | with_reducible refine Within.ite ?_ ?_ | split | (extract_lets; split)
    | (with_reducible refine Within.mk ?_ ?hk
       case hk => (repeat' apply And.intro) <;> first | with_reducible exact .inr rfl | exact .inl (Mask.bit hm rfl)
       first
        | with_reducible assumption | with_reducible apply Within.wr | with_reducible apply within_State_writeEvent (Mask.sub hm rfl)
        | with_reducible refine Within.snd (by assumption) ?_ | with_reducible refine Within.fst (by assumption) ?_
        | with_reducible refine Within.ite ?_ ?_ | split | (extract_lets; split)
        | (with_reducible refine Within.mk ?_ ?hk
           case hk => (repeat' apply And.intro) <;> first | with_reducible exact .inr rfl | exact .inl (Mask.bit hm rfl)
           first
            | with_reducible assumption | with_reducible apply Within.wr
            | with_reducible apply within_State_writeEvent (Mask.sub hm rfl) | with_reducible refine Within.snd (by assumption) ?_
            | with_reducible refine Within.fst (by assumption) ?_ | with_reducible refine Within.ite ?_ ?_ | split
            | (extract_lets; split)))

theorem within_State_resPut {m : Nat} {s₀ s : State} (hm : m ||| 0x3340000000000000000000000000100014000 = m) (i : Nat)
    (data : List Byte) (h₀ : Within m s₀ s) : Within m s₀ (State.resPut s i data) := by
  unfold State.resPut
  repeat' first
    | with_reducible assumption | with_reducible apply within_State_rdmaWrite (Mask.sub hm rfl)

theorem within_State_resPad {m : Nat} {s₀ s : State} (hm : m ||| 0x334000000000000000000000000010001C000 = m) (size : Nat)
    (h₀ : Within m s₀ s) : Within m s₀ (State.resPad s size) := by
  unfold State.resPad
  repeat' first
    | with_reducible assumption | with_reducible apply within_State_resPut (Mask.sub hm rfl) | with_reducible refine Within.ite ?_ ?_
    | split | (extract_lets; split)
    | (with_reducible refine Within.mk ?_ ?hk
       case hk => (repeat' apply And.intro) <;> first | with_reducible exact .inr rfl | exact .inl (Mask.bit hm rfl)
       first
        | with_reducible assumption | with_reducible apply within_State_resPut (Mask.sub hm rfl)
        | with_reducible refine Within.ite ?_ ?_ | split | (extract_lets; split)
        | (with_reducible refine Within.mk ?_ ?hk
           case hk => (repeat' apply And.intro) <;> first | with_reducible exact .inr rfl | exact .inl (Mask.bit hm rfl)
           first
            | with_reducible assumption | with_reducible apply within_State_resPut (Mask.sub hm rfl)
            | with_reducible refine Within.ite ?_ ?_ | split | (extract_lets; split)))

theorem within_execResultWrite {m : Nat} {s₀ s : State}
    (hm : m ||| 0x6000000000000000000000000000000000000000000000000000334000000200001908000000000010029C000 = m) (h₀ : Within m s₀ s) :
    AnswersWithin m s₀ (execResultWrite s) := by
  unfold execResultWrite
  repeat' first
    | with_reducible assumption | with_reducible refine AnswersWithin.next ?_ | with_reducible refine AnswersWithin.ite ?_ ?_
    | with_reducible apply within_State_raise | with_reducible apply within_State_resultWritten (Mask.sub hm rfl)
    | with_reducible apply within_State_resPut (Mask.sub hm rfl) | with_reducible apply within_State_resPad (Mask.sub hm rfl)
    | with_reducible refine Within.snd (by assumption) ?_ | with_reducible refine Within.fst (by assumption) ?_
    | exact touch_HT_STAT (Mask.bit hm rfl) | with_reducible refine Within.ite ?_ ?_ | split | (extract_lets; split)
    | (with_reducible refine Within.mk ?_ ?hk
       case hk => (repeat' apply And.intro) <;> first | with_reducible exact .inr rfl | exact .inl (Mask.bit hm rfl)
       first
        | with_reducible assumption | with_reducible apply within_State_raise
        | with_reducible apply within_State_resultWritten (Mask.sub hm rfl)
        | with_reducible apply within_State_resPut (Mask.sub hm rfl) | with_reducible apply within_State_resPad (Mask.sub hm rfl)
        | with_reducible refine Within.snd (by assumption) ?_ | with_reducible refine Within.fst (by assumption) ?_
        | with_reducible refine Within.ite ?_ ?_ | split | (extract_lets; split)
        | (with_reducible refine Within.mk ?_ ?hk
           case hk => (repeat' apply And.intro) <;> first | with_reducible exact .inr rfl | exact .inl (Mask.bit hm rfl)
           first
            | with_reducible assumption | with_reducible apply within_State_raise
            | with_reducible apply within_State_resultWritten (Mask.sub hm rfl)
            | with_reducible apply within_State_resPut (Mask.sub hm rfl) | with_reducible apply within_State_resPad (Mask.sub hm rfl)
            | with_reducible refine Within.snd (by assumption) ?_ | with_reducible refine Within.fst (by assumption) ?_
            | with_reducible refine Within.ite ?_ ?_ | split | (extract_lets; split)))

end Sys2Proof.Machine
end

