-- ==== Sys2Proof/Laws/SpiWithin.lean ====
section
/-! SUPPORT. What the definitions of Machine/Spi.lean keep, and all that they may change (Laws/Within.lean). -/

namespace Sys2Proof.Machine

set_option linter.all false

theorem within_State_spiNote {m : Nat} {s₀ s : State} (hm : m ||| 0x80000000000000000000000000000000000000000000000000000 = m)
    (c : Bool) (f : Field) (h₀ : Within m s₀ s) : Within m s₀ (State.spiNote s c f) := by
  unfold State.spiNote
  repeat' first
    | with_reducible assumption | with_reducible apply within_State_raise | with_reducible apply within_State_raiseIf
    | exact touch_SPI_STAT (Mask.bit hm rfl)

theorem within_State_spiLast {m : Nat} {s₀ s : State} (hm : m ||| 0x100000000000000000000000000000000000000000000000000000 = m)
    (outcome : Nat) (words : Nat) (waddr : BitVec 22) (h₀ : Within m s₀ s) : Within m s₀ (State.spiLast s outcome words waddr) := by
  unfold State.spiLast
  repeat' first
    | with_reducible assumption | with_reducible apply Within.wr | exact touch_SPI_LAST (Mask.bit hm rfl)

theorem within_State_spiFetch {m : Nat} {s₀ s : State}
    (hm : m ||| 0x8000000000000200000040000000010000900000000000000121088000000000000000000000000401000000000000010200000004 = m) (a : Nat)
    (first : Bool) (h₀ : Within m s₀ s) : Within m s₀ (State.spiFetch s a first).2 := by
  unfold State.spiFetch
  repeat' first
    | with_reducible assumption | with_reducible apply within_State_raise
    | with_reducible apply within_State_readBurst (Mask.sub hm rfl) | with_reducible refine Within.snd (by assumption) ?_
    | with_reducible refine Within.fst (by assumption) ?_ | exact touch_SPI_STAT (Mask.bit hm rfl) | exact Touch.any (Mask.bit hm rfl)
    | with_reducible refine Within.ite ?_ ?_ | split | (extract_lets; split)

theorem within_State_spiReadWords {m : Nat}
    (hm : m ||| 0x8000000000000200000040000000010000900000000000000121088000000000000000000000000401000000000000010200000004 = m) {s₀ : State} (cut : Bool) (l : List Nat) (first : Bool) {s : State} (out : List Byte) (h₀ : Within m s₀ s) :
    Within m s₀ (State.spiReadWords cut l first s out).2 := by
  induction l generalizing first s out with
  | nil => exact h₀
  | cons a rest ih =>
    unfold State.spiReadWords
    split
    rename_i w s1 e1
    split
    rename_i f s2 e2
    have h2 : Within m s₀ s2 := Within.snd e2 (Within.free (Mask.bit hm rfl) (Within.snd e1 (within_State_spiFetch (Mask.sub hm rfl) _ _ h₀)))
    have h3 := within_State_spiNote (Mask.sub hm rfl) (a % 0x10000 == 0xFFFC) Fld.SPI_STAT_WRAP h2
    extract_lets s3
    split
    · exact h3
    · split
      · exact ih _ _ h3
      · exact h3

theorem within_execSpiRead {m : Nat} {s₀ s : State}
    (hm : m ||| 0x8000000000000200000040000000010000900000000000000121088000000000000000000000000401000000000000010300000004 = m)
    (waddr : BitVec 22) (words : Nat) (cut : Bool) (h₀ : Within m s₀ s) : AnswersWithin m s₀ (execSpiRead waddr words cut s) := by
  unfold execSpiRead
  repeat' first
    | with_reducible assumption | with_reducible refine AnswersWithin.next ?_ | with_reducible apply Within.send _ (Mask.bit hm rfl)
    | with_reducible apply within_State_spiNote (Mask.sub hm rfl) | with_reducible apply within_State_spiReadWords (Mask.sub hm rfl)
    | with_reducible refine Within.snd (by assumption) ?_ | with_reducible refine Within.fst (by assumption) ?_
    | exact Touch.any (Mask.bit hm rfl) | with_reducible refine Within.ite ?_ ?_ | split | (extract_lets; split)

theorem within_execSpiWrite {m : Nat} {s₀ s : State}
    (hm : m ||| 0x100000000010002800003000000000FF01082F92001FF0002098603400185E001D780960000000011000100788CF603522703001B3470740024385D80BEA20425B103FFFFFFFF = m)
    (waddr : BitVec 22) (data : List Word) (bits : Fin 32) (h₀ : Within m s₀ s) :
    AnswersWithin m s₀ (execSpiWrite waddr data bits s) := by
  unfold execSpiWrite
  repeat' first
    | with_reducible assumption | with_reducible refine AnswersWithin.next ?_ | with_reducible intro _ | with_reducible apply Within.wr
    | with_reducible apply within_State_raise | with_reducible apply within_State_writeBurst (Mask.sub hm rfl)
    | with_reducible apply within_State_spiNote (Mask.sub hm rfl) | with_reducible apply within_State_spiLast (Mask.sub hm rfl)
    | with_reducible refine Within.snd (by assumption) ?_ | with_reducible refine Within.fst (by assumption) ?_
    | exact touch_SPI_STAT (Mask.bit hm rfl) | exact Touch.any (Mask.bit hm rfl) | with_reducible refine Within.ite ?_ ?_ | split
    | (extract_lets; split)

theorem within_execSpiBadCmd {m : Nat} {s₀ s : State} (hm : m ||| 0x180000000000000000000000000000000000000000000100000000 = m)
    (waddr : BitVec 22) (words : Nat) (whole : Bool) (h₀ : Within m s₀ s) : AnswersWithin m s₀ (execSpiBadCmd waddr words whole s) := by
  unfold execSpiBadCmd
  repeat' first
    | with_reducible assumption | with_reducible refine AnswersWithin.next ?_ | with_reducible apply Within.send _ (Mask.bit hm rfl)
    | with_reducible apply within_State_raise | with_reducible apply within_State_spiLast (Mask.sub hm rfl)
    | exact touch_SPI_STAT (Mask.bit hm rfl) | with_reducible refine Within.ite ?_ ?_ | split | (extract_lets; split)

end Sys2Proof.Machine
end

