-- ==== Sys2Proof/Laws/State.lean ====
section
/-! SUPPORT. What each named update of the state leaves as it was, one lemma a field, and what it changes, read back. -/

namespace Sys2Proof.Machine

set_option linter.all false

/-! ### State.wr -/

@[simp] theorem State.wr_now (s : State) (a : Nat) (v : Word) : (s.wr a v).now = s.now := rfl
@[simp] theorem State.wr_tideOff (s : State) (a : Nat) (v : Word) : (s.wr a v).tideOff = s.tideOff := rfl
@[simp] theorem State.wr_fresh (s : State) (a : Nat) (v : Word) : (s.wr a v).fresh = s.fresh := rfl
@[simp] theorem State.wr_shadows (s : State) (a : Nat) (v : Word) : (s.wr a v).shadows = s.shadows := rfl
@[simp] theorem State.wr_captured (s : State) (a : Nat) (v : Word) : (s.wr a v).captured = s.captured := rfl
@[simp] theorem State.wr_bound (s : State) (a : Nat) (v : Word) : (s.wr a v).bound = s.bound := rfl
@[simp] theorem State.wr_strands (s : State) (a : Nat) (v : Word) : (s.wr a v).strands = s.strands := rfl
@[simp] theorem State.wr_pins (s : State) (a : Nat) (v : Word) : (s.wr a v).pins = s.pins := rfl
@[simp] theorem State.wr_pmus (s : State) (a : Nat) (v : Word) : (s.wr a v).pmus = s.pmus := rfl
@[simp] theorem State.wr_convs (s : State) (a : Nat) (v : Word) : (s.wr a v).convs = s.convs := rfl
@[simp] theorem State.wr_tdcs (s : State) (a : Nat) (v : Word) : (s.wr a v).tdcs = s.tdcs := rfl
@[simp] theorem State.wr_acqs (s : State) (a : Nat) (v : Word) : (s.wr a v).acqs = s.acqs := rfl
@[simp] theorem State.wr_calRuns (s : State) (a : Nat) (v : Word) : (s.wr a v).calRuns = s.calRuns := rfl
@[simp] theorem State.wr_calZero (s : State) (a : Nat) (v : Word) : (s.wr a v).calZero = s.calZero := rfl
@[simp] theorem State.wr_qps (s : State) (a : Nat) (v : Word) : (s.wr a v).qps = s.qps := rfl
@[simp] theorem State.wr_host (s : State) (a : Nat) (v : Word) : (s.wr a v).host = s.host := rfl
@[simp] theorem State.wr_ring (s : State) (a : Nat) (v : Word) : (s.wr a v).ring = s.ring := rfl
@[simp] theorem State.wr_tide (s : State) (a : Nat) (v : Word) : (s.wr a v).tide = s.tide := rfl
@[simp] theorem State.wr_trips (s : State) (a : Nat) (v : Word) : (s.wr a v).trips = s.trips := rfl
@[simp] theorem State.wr_mem (s : State) (a : Nat) (v : Word) : (s.wr a v).mem = s.mem := rfl
@[simp] theorem State.wr_failPath (s : State) (a : Nat) (v : Word) : (s.wr a v).failPath = s.failPath := rfl
@[simp] theorem State.wr_splice (s : State) (a : Nat) (v : Word) : (s.wr a v).splice = s.splice := rfl
@[simp] theorem State.wr_place (s : State) (a : Nat) (v : Word) : (s.wr a v).place = s.place := rfl
@[simp] theorem State.wr_forced (s : State) (a : Nat) (v : Word) : (s.wr a v).forced = s.forced := rfl
@[simp] theorem State.wr_faultQ (s : State) (a : Nat) (v : Word) : (s.wr a v).faultQ = s.faultQ := rfl
@[simp] theorem State.wr_evt (s : State) (a : Nat) (v : Word) : (s.wr a v).evt = s.evt := rfl
@[simp] theorem State.wr_power (s : State) (a : Nat) (v : Word) : (s.wr a v).power = s.power := rfl
@[simp] theorem State.wr_faults (s : State) (a : Nat) (v : Word) : (s.wr a v).faults = s.faults := rfl
@[simp] theorem State.wr_thermal (s : State) (a : Nat) (v : Word) : (s.wr a v).thermal = s.thermal := rfl
@[simp] theorem State.wr_ctl (s : State) (a : Nat) (v : Word) : (s.wr a v).ctl = s.ctl := rfl
@[simp] theorem State.wr_store (s : State) (a : Nat) (v : Word) : (s.wr a v).store = s.store := rfl
@[simp] theorem State.wr_counts (s : State) (a : Nat) (v : Word) : (s.wr a v).counts = s.counts := rfl
@[simp] theorem State.wr_sent (s : State) (a : Nat) (v : Word) : (s.wr a v).sent = s.sent := rfl
@[simp] theorem State.wr_pending (s : State) (a : Nat) (v : Word) : (s.wr a v).pending = s.pending := rfl

/-! ### State.setFld -/

@[simp] theorem State.setFld_now (s : State) (a : Nat) (f : Field) (v : Nat) : (s.setFld a f v).now = s.now := rfl
@[simp] theorem State.setFld_tideOff (s : State) (a : Nat) (f : Field) (v : Nat) : (s.setFld a f v).tideOff = s.tideOff := rfl
@[simp] theorem State.setFld_fresh (s : State) (a : Nat) (f : Field) (v : Nat) : (s.setFld a f v).fresh = s.fresh := rfl
@[simp] theorem State.setFld_shadows (s : State) (a : Nat) (f : Field) (v : Nat) : (s.setFld a f v).shadows = s.shadows := rfl
@[simp] theorem State.setFld_captured (s : State) (a : Nat) (f : Field) (v : Nat) : (s.setFld a f v).captured = s.captured := rfl
@[simp] theorem State.setFld_bound (s : State) (a : Nat) (f : Field) (v : Nat) : (s.setFld a f v).bound = s.bound := rfl
@[simp] theorem State.setFld_strands (s : State) (a : Nat) (f : Field) (v : Nat) : (s.setFld a f v).strands = s.strands := rfl
@[simp] theorem State.setFld_pins (s : State) (a : Nat) (f : Field) (v : Nat) : (s.setFld a f v).pins = s.pins := rfl
@[simp] theorem State.setFld_pmus (s : State) (a : Nat) (f : Field) (v : Nat) : (s.setFld a f v).pmus = s.pmus := rfl
@[simp] theorem State.setFld_convs (s : State) (a : Nat) (f : Field) (v : Nat) : (s.setFld a f v).convs = s.convs := rfl
@[simp] theorem State.setFld_tdcs (s : State) (a : Nat) (f : Field) (v : Nat) : (s.setFld a f v).tdcs = s.tdcs := rfl
@[simp] theorem State.setFld_acqs (s : State) (a : Nat) (f : Field) (v : Nat) : (s.setFld a f v).acqs = s.acqs := rfl
@[simp] theorem State.setFld_calRuns (s : State) (a : Nat) (f : Field) (v : Nat) : (s.setFld a f v).calRuns = s.calRuns := rfl
@[simp] theorem State.setFld_calZero (s : State) (a : Nat) (f : Field) (v : Nat) : (s.setFld a f v).calZero = s.calZero := rfl
@[simp] theorem State.setFld_qps (s : State) (a : Nat) (f : Field) (v : Nat) : (s.setFld a f v).qps = s.qps := rfl
@[simp] theorem State.setFld_host (s : State) (a : Nat) (f : Field) (v : Nat) : (s.setFld a f v).host = s.host := rfl
@[simp] theorem State.setFld_ring (s : State) (a : Nat) (f : Field) (v : Nat) : (s.setFld a f v).ring = s.ring := rfl
@[simp] theorem State.setFld_tide (s : State) (a : Nat) (f : Field) (v : Nat) : (s.setFld a f v).tide = s.tide := rfl
@[simp] theorem State.setFld_trips (s : State) (a : Nat) (f : Field) (v : Nat) : (s.setFld a f v).trips = s.trips := rfl
@[simp] theorem State.setFld_mem (s : State) (a : Nat) (f : Field) (v : Nat) : (s.setFld a f v).mem = s.mem := rfl
@[simp] theorem State.setFld_failPath (s : State) (a : Nat) (f : Field) (v : Nat) : (s.setFld a f v).failPath = s.failPath := rfl
@[simp] theorem State.setFld_splice (s : State) (a : Nat) (f : Field) (v : Nat) : (s.setFld a f v).splice = s.splice := rfl
@[simp] theorem State.setFld_place (s : State) (a : Nat) (f : Field) (v : Nat) : (s.setFld a f v).place = s.place := rfl
@[simp] theorem State.setFld_forced (s : State) (a : Nat) (f : Field) (v : Nat) : (s.setFld a f v).forced = s.forced := rfl
@[simp] theorem State.setFld_faultQ (s : State) (a : Nat) (f : Field) (v : Nat) : (s.setFld a f v).faultQ = s.faultQ := rfl
@[simp] theorem State.setFld_evt (s : State) (a : Nat) (f : Field) (v : Nat) : (s.setFld a f v).evt = s.evt := rfl
@[simp] theorem State.setFld_power (s : State) (a : Nat) (f : Field) (v : Nat) : (s.setFld a f v).power = s.power := rfl
@[simp] theorem State.setFld_faults (s : State) (a : Nat) (f : Field) (v : Nat) : (s.setFld a f v).faults = s.faults := rfl
@[simp] theorem State.setFld_thermal (s : State) (a : Nat) (f : Field) (v : Nat) : (s.setFld a f v).thermal = s.thermal := rfl
@[simp] theorem State.setFld_ctl (s : State) (a : Nat) (f : Field) (v : Nat) : (s.setFld a f v).ctl = s.ctl := rfl
@[simp] theorem State.setFld_store (s : State) (a : Nat) (f : Field) (v : Nat) : (s.setFld a f v).store = s.store := rfl
@[simp] theorem State.setFld_counts (s : State) (a : Nat) (f : Field) (v : Nat) : (s.setFld a f v).counts = s.counts := rfl
@[simp] theorem State.setFld_sent (s : State) (a : Nat) (f : Field) (v : Nat) : (s.setFld a f v).sent = s.sent := rfl
@[simp] theorem State.setFld_pending (s : State) (a : Nat) (f : Field) (v : Nat) : (s.setFld a f v).pending = s.pending := rfl

/-! ### State.raise -/

@[simp] theorem State.raise_now (s : State) (a : Nat) (f : Field) : (s.raise a f).now = s.now := rfl
@[simp] theorem State.raise_tideOff (s : State) (a : Nat) (f : Field) : (s.raise a f).tideOff = s.tideOff := rfl
@[simp] theorem State.raise_fresh (s : State) (a : Nat) (f : Field) : (s.raise a f).fresh = s.fresh := rfl
@[simp] theorem State.raise_shadows (s : State) (a : Nat) (f : Field) : (s.raise a f).shadows = s.shadows := rfl
@[simp] theorem State.raise_captured (s : State) (a : Nat) (f : Field) : (s.raise a f).captured = s.captured := rfl
@[simp] theorem State.raise_bound (s : State) (a : Nat) (f : Field) : (s.raise a f).bound = s.bound := rfl
@[simp] theorem State.raise_strands (s : State) (a : Nat) (f : Field) : (s.raise a f).strands = s.strands := rfl
@[simp] theorem State.raise_pins (s : State) (a : Nat) (f : Field) : (s.raise a f).pins = s.pins := rfl
@[simp] theorem State.raise_pmus (s : State) (a : Nat) (f : Field) : (s.raise a f).pmus = s.pmus := rfl
@[simp] theorem State.raise_convs (s : State) (a : Nat) (f : Field) : (s.raise a f).convs = s.convs := rfl
@[simp] theorem State.raise_tdcs (s : State) (a : Nat) (f : Field) : (s.raise a f).tdcs = s.tdcs := rfl
@[simp] theorem State.raise_acqs (s : State) (a : Nat) (f : Field) : (s.raise a f).acqs = s.acqs := rfl
@[simp] theorem State.raise_calRuns (s : State) (a : Nat) (f : Field) : (s.raise a f).calRuns = s.calRuns := rfl
@[simp] theorem State.raise_calZero (s : State) (a : Nat) (f : Field) : (s.raise a f).calZero = s.calZero := rfl
@[simp] theorem State.raise_qps (s : State) (a : Nat) (f : Field) : (s.raise a f).qps = s.qps := rfl
@[simp] theorem State.raise_host (s : State) (a : Nat) (f : Field) : (s.raise a f).host = s.host := rfl
@[simp] theorem State.raise_ring (s : State) (a : Nat) (f : Field) : (s.raise a f).ring = s.ring := rfl
@[simp] theorem State.raise_tide (s : State) (a : Nat) (f : Field) : (s.raise a f).tide = s.tide := rfl
@[simp] theorem State.raise_trips (s : State) (a : Nat) (f : Field) : (s.raise a f).trips = s.trips := rfl
@[simp] theorem State.raise_mem (s : State) (a : Nat) (f : Field) : (s.raise a f).mem = s.mem := rfl
@[simp] theorem State.raise_failPath (s : State) (a : Nat) (f : Field) : (s.raise a f).failPath = s.failPath := rfl
@[simp] theorem State.raise_splice (s : State) (a : Nat) (f : Field) : (s.raise a f).splice = s.splice := rfl
@[simp] theorem State.raise_place (s : State) (a : Nat) (f : Field) : (s.raise a f).place = s.place := rfl
@[simp] theorem State.raise_forced (s : State) (a : Nat) (f : Field) : (s.raise a f).forced = s.forced := rfl
@[simp] theorem State.raise_faultQ (s : State) (a : Nat) (f : Field) : (s.raise a f).faultQ = s.faultQ := rfl
@[simp] theorem State.raise_evt (s : State) (a : Nat) (f : Field) : (s.raise a f).evt = s.evt := rfl
@[simp] theorem State.raise_power (s : State) (a : Nat) (f : Field) : (s.raise a f).power = s.power := rfl
@[simp] theorem State.raise_faults (s : State) (a : Nat) (f : Field) : (s.raise a f).faults = s.faults := rfl
@[simp] theorem State.raise_thermal (s : State) (a : Nat) (f : Field) : (s.raise a f).thermal = s.thermal := rfl
@[simp] theorem State.raise_ctl (s : State) (a : Nat) (f : Field) : (s.raise a f).ctl = s.ctl := rfl
@[simp] theorem State.raise_store (s : State) (a : Nat) (f : Field) : (s.raise a f).store = s.store := rfl
@[simp] theorem State.raise_counts (s : State) (a : Nat) (f : Field) : (s.raise a f).counts = s.counts := rfl
@[simp] theorem State.raise_sent (s : State) (a : Nat) (f : Field) : (s.raise a f).sent = s.sent := rfl
@[simp] theorem State.raise_pending (s : State) (a : Nat) (f : Field) : (s.raise a f).pending = s.pending := rfl

/-! ### State.setStrand -/

@[simp] theorem State.setStrand_now (s : State) (k : Nat) (v : Strand) : (s.setStrand k v).now = s.now := rfl
@[simp] theorem State.setStrand_tideOff (s : State) (k : Nat) (v : Strand) : (s.setStrand k v).tideOff = s.tideOff := rfl
@[simp] theorem State.setStrand_fresh (s : State) (k : Nat) (v : Strand) : (s.setStrand k v).fresh = s.fresh := rfl
@[simp] theorem State.setStrand_regs (s : State) (k : Nat) (v : Strand) : (s.setStrand k v).regs = s.regs := rfl
@[simp] theorem State.setStrand_shadows (s : State) (k : Nat) (v : Strand) : (s.setStrand k v).shadows = s.shadows := rfl
@[simp] theorem State.setStrand_captured (s : State) (k : Nat) (v : Strand) : (s.setStrand k v).captured = s.captured := rfl
@[simp] theorem State.setStrand_bound (s : State) (k : Nat) (v : Strand) : (s.setStrand k v).bound = s.bound := rfl
@[simp] theorem State.setStrand_pins (s : State) (k : Nat) (v : Strand) : (s.setStrand k v).pins = s.pins := rfl
@[simp] theorem State.setStrand_pmus (s : State) (k : Nat) (v : Strand) : (s.setStrand k v).pmus = s.pmus := rfl
@[simp] theorem State.setStrand_convs (s : State) (k : Nat) (v : Strand) : (s.setStrand k v).convs = s.convs := rfl
@[simp] theorem State.setStrand_tdcs (s : State) (k : Nat) (v : Strand) : (s.setStrand k v).tdcs = s.tdcs := rfl
@[simp] theorem State.setStrand_acqs (s : State) (k : Nat) (v : Strand) : (s.setStrand k v).acqs = s.acqs := rfl
@[simp] theorem State.setStrand_calRuns (s : State) (k : Nat) (v : Strand) : (s.setStrand k v).calRuns = s.calRuns := rfl
@[simp] theorem State.setStrand_calZero (s : State) (k : Nat) (v : Strand) : (s.setStrand k v).calZero = s.calZero := rfl
@[simp] theorem State.setStrand_qps (s : State) (k : Nat) (v : Strand) : (s.setStrand k v).qps = s.qps := rfl
@[simp] theorem State.setStrand_host (s : State) (k : Nat) (v : Strand) : (s.setStrand k v).host = s.host := rfl
@[simp] theorem State.setStrand_ring (s : State) (k : Nat) (v : Strand) : (s.setStrand k v).ring = s.ring := rfl
@[simp] theorem State.setStrand_tide (s : State) (k : Nat) (v : Strand) : (s.setStrand k v).tide = s.tide := rfl
@[simp] theorem State.setStrand_trips (s : State) (k : Nat) (v : Strand) : (s.setStrand k v).trips = s.trips := rfl
@[simp] theorem State.setStrand_mem (s : State) (k : Nat) (v : Strand) : (s.setStrand k v).mem = s.mem := rfl
@[simp] theorem State.setStrand_failPath (s : State) (k : Nat) (v : Strand) : (s.setStrand k v).failPath = s.failPath := rfl
@[simp] theorem State.setStrand_splice (s : State) (k : Nat) (v : Strand) : (s.setStrand k v).splice = s.splice := rfl
@[simp] theorem State.setStrand_place (s : State) (k : Nat) (v : Strand) : (s.setStrand k v).place = s.place := rfl
@[simp] theorem State.setStrand_forced (s : State) (k : Nat) (v : Strand) : (s.setStrand k v).forced = s.forced := rfl
@[simp] theorem State.setStrand_faultQ (s : State) (k : Nat) (v : Strand) : (s.setStrand k v).faultQ = s.faultQ := rfl
@[simp] theorem State.setStrand_evt (s : State) (k : Nat) (v : Strand) : (s.setStrand k v).evt = s.evt := rfl
@[simp] theorem State.setStrand_power (s : State) (k : Nat) (v : Strand) : (s.setStrand k v).power = s.power := rfl
@[simp] theorem State.setStrand_faults (s : State) (k : Nat) (v : Strand) : (s.setStrand k v).faults = s.faults := rfl
@[simp] theorem State.setStrand_thermal (s : State) (k : Nat) (v : Strand) : (s.setStrand k v).thermal = s.thermal := rfl
@[simp] theorem State.setStrand_ctl (s : State) (k : Nat) (v : Strand) : (s.setStrand k v).ctl = s.ctl := rfl
@[simp] theorem State.setStrand_store (s : State) (k : Nat) (v : Strand) : (s.setStrand k v).store = s.store := rfl
@[simp] theorem State.setStrand_counts (s : State) (k : Nat) (v : Strand) : (s.setStrand k v).counts = s.counts := rfl
@[simp] theorem State.setStrand_sent (s : State) (k : Nat) (v : Strand) : (s.setStrand k v).sent = s.sent := rfl
@[simp] theorem State.setStrand_pending (s : State) (k : Nat) (v : Strand) : (s.setStrand k v).pending = s.pending := rfl

/-! ### State.modStrand -/

@[simp] theorem State.modStrand_now (s : State) (k : Nat) (f : Strand → Strand) : (s.modStrand k f).now = s.now := rfl
@[simp] theorem State.modStrand_tideOff (s : State) (k : Nat) (f : Strand → Strand) : (s.modStrand k f).tideOff = s.tideOff := rfl
@[simp] theorem State.modStrand_fresh (s : State) (k : Nat) (f : Strand → Strand) : (s.modStrand k f).fresh = s.fresh := rfl
@[simp] theorem State.modStrand_regs (s : State) (k : Nat) (f : Strand → Strand) : (s.modStrand k f).regs = s.regs := rfl
@[simp] theorem State.modStrand_shadows (s : State) (k : Nat) (f : Strand → Strand) : (s.modStrand k f).shadows = s.shadows := rfl
@[simp] theorem State.modStrand_captured (s : State) (k : Nat) (f : Strand → Strand) : (s.modStrand k f).captured = s.captured := rfl
@[simp] theorem State.modStrand_bound (s : State) (k : Nat) (f : Strand → Strand) : (s.modStrand k f).bound = s.bound := rfl
@[simp] theorem State.modStrand_pins (s : State) (k : Nat) (f : Strand → Strand) : (s.modStrand k f).pins = s.pins := rfl
@[simp] theorem State.modStrand_pmus (s : State) (k : Nat) (f : Strand → Strand) : (s.modStrand k f).pmus = s.pmus := rfl
@[simp] theorem State.modStrand_convs (s : State) (k : Nat) (f : Strand → Strand) : (s.modStrand k f).convs = s.convs := rfl
@[simp] theorem State.modStrand_tdcs (s : State) (k : Nat) (f : Strand → Strand) : (s.modStrand k f).tdcs = s.tdcs := rfl
@[simp] theorem State.modStrand_acqs (s : State) (k : Nat) (f : Strand → Strand) : (s.modStrand k f).acqs = s.acqs := rfl
@[simp] theorem State.modStrand_calRuns (s : State) (k : Nat) (f : Strand → Strand) : (s.modStrand k f).calRuns = s.calRuns := rfl
@[simp] theorem State.modStrand_calZero (s : State) (k : Nat) (f : Strand → Strand) : (s.modStrand k f).calZero = s.calZero := rfl
@[simp] theorem State.modStrand_qps (s : State) (k : Nat) (f : Strand → Strand) : (s.modStrand k f).qps = s.qps := rfl
@[simp] theorem State.modStrand_host (s : State) (k : Nat) (f : Strand → Strand) : (s.modStrand k f).host = s.host := rfl
@[simp] theorem State.modStrand_ring (s : State) (k : Nat) (f : Strand → Strand) : (s.modStrand k f).ring = s.ring := rfl
@[simp] theorem State.modStrand_tide (s : State) (k : Nat) (f : Strand → Strand) : (s.modStrand k f).tide = s.tide := rfl
@[simp] theorem State.modStrand_trips (s : State) (k : Nat) (f : Strand → Strand) : (s.modStrand k f).trips = s.trips := rfl
@[simp] theorem State.modStrand_mem (s : State) (k : Nat) (f : Strand → Strand) : (s.modStrand k f).mem = s.mem := rfl
@[simp] theorem State.modStrand_failPath (s : State) (k : Nat) (f : Strand → Strand) : (s.modStrand k f).failPath = s.failPath := rfl
@[simp] theorem State.modStrand_splice (s : State) (k : Nat) (f : Strand → Strand) : (s.modStrand k f).splice = s.splice := rfl
@[simp] theorem State.modStrand_place (s : State) (k : Nat) (f : Strand → Strand) : (s.modStrand k f).place = s.place := rfl
@[simp] theorem State.modStrand_forced (s : State) (k : Nat) (f : Strand → Strand) : (s.modStrand k f).forced = s.forced := rfl
@[simp] theorem State.modStrand_faultQ (s : State) (k : Nat) (f : Strand → Strand) : (s.modStrand k f).faultQ = s.faultQ := rfl
@[simp] theorem State.modStrand_evt (s : State) (k : Nat) (f : Strand → Strand) : (s.modStrand k f).evt = s.evt := rfl
@[simp] theorem State.modStrand_power (s : State) (k : Nat) (f : Strand → Strand) : (s.modStrand k f).power = s.power := rfl
@[simp] theorem State.modStrand_faults (s : State) (k : Nat) (f : Strand → Strand) : (s.modStrand k f).faults = s.faults := rfl
@[simp] theorem State.modStrand_thermal (s : State) (k : Nat) (f : Strand → Strand) : (s.modStrand k f).thermal = s.thermal := rfl
@[simp] theorem State.modStrand_ctl (s : State) (k : Nat) (f : Strand → Strand) : (s.modStrand k f).ctl = s.ctl := rfl
@[simp] theorem State.modStrand_store (s : State) (k : Nat) (f : Strand → Strand) : (s.modStrand k f).store = s.store := rfl
@[simp] theorem State.modStrand_counts (s : State) (k : Nat) (f : Strand → Strand) : (s.modStrand k f).counts = s.counts := rfl
@[simp] theorem State.modStrand_sent (s : State) (k : Nat) (f : Strand → Strand) : (s.modStrand k f).sent = s.sent := rfl
@[simp] theorem State.modStrand_pending (s : State) (k : Nat) (f : Strand → Strand) : (s.modStrand k f).pending = s.pending := rfl

/-! ### State.setPin -/

@[simp] theorem State.setPin_now (s : State) (k : Nat) (v : Pin) : (s.setPin k v).now = s.now := rfl
@[simp] theorem State.setPin_tideOff (s : State) (k : Nat) (v : Pin) : (s.setPin k v).tideOff = s.tideOff := rfl
@[simp] theorem State.setPin_fresh (s : State) (k : Nat) (v : Pin) : (s.setPin k v).fresh = s.fresh := rfl
@[simp] theorem State.setPin_regs (s : State) (k : Nat) (v : Pin) : (s.setPin k v).regs = s.regs := rfl
@[simp] theorem State.setPin_shadows (s : State) (k : Nat) (v : Pin) : (s.setPin k v).shadows = s.shadows := rfl
@[simp] theorem State.setPin_captured (s : State) (k : Nat) (v : Pin) : (s.setPin k v).captured = s.captured := rfl
@[simp] theorem State.setPin_bound (s : State) (k : Nat) (v : Pin) : (s.setPin k v).bound = s.bound := rfl
@[simp] theorem State.setPin_strands (s : State) (k : Nat) (v : Pin) : (s.setPin k v).strands = s.strands := rfl
@[simp] theorem State.setPin_pmus (s : State) (k : Nat) (v : Pin) : (s.setPin k v).pmus = s.pmus := rfl
@[simp] theorem State.setPin_convs (s : State) (k : Nat) (v : Pin) : (s.setPin k v).convs = s.convs := rfl
@[simp] theorem State.setPin_tdcs (s : State) (k : Nat) (v : Pin) : (s.setPin k v).tdcs = s.tdcs := rfl
@[simp] theorem State.setPin_acqs (s : State) (k : Nat) (v : Pin) : (s.setPin k v).acqs = s.acqs := rfl
@[simp] theorem State.setPin_calRuns (s : State) (k : Nat) (v : Pin) : (s.setPin k v).calRuns = s.calRuns := rfl
@[simp] theorem State.setPin_calZero (s : State) (k : Nat) (v : Pin) : (s.setPin k v).calZero = s.calZero := rfl
@[simp] theorem State.setPin_qps (s : State) (k : Nat) (v : Pin) : (s.setPin k v).qps = s.qps := rfl
@[simp] theorem State.setPin_host (s : State) (k : Nat) (v : Pin) : (s.setPin k v).host = s.host := rfl
@[simp] theorem State.setPin_ring (s : State) (k : Nat) (v : Pin) : (s.setPin k v).ring = s.ring := rfl
@[simp] theorem State.setPin_tide (s : State) (k : Nat) (v : Pin) : (s.setPin k v).tide = s.tide := rfl
@[simp] theorem State.setPin_trips (s : State) (k : Nat) (v : Pin) : (s.setPin k v).trips = s.trips := rfl
@[simp] theorem State.setPin_mem (s : State) (k : Nat) (v : Pin) : (s.setPin k v).mem = s.mem := rfl
@[simp] theorem State.setPin_failPath (s : State) (k : Nat) (v : Pin) : (s.setPin k v).failPath = s.failPath := rfl
@[simp] theorem State.setPin_splice (s : State) (k : Nat) (v : Pin) : (s.setPin k v).splice = s.splice := rfl
@[simp] theorem State.setPin_place (s : State) (k : Nat) (v : Pin) : (s.setPin k v).place = s.place := rfl
@[simp] theorem State.setPin_forced (s : State) (k : Nat) (v : Pin) : (s.setPin k v).forced = s.forced := rfl
@[simp] theorem State.setPin_faultQ (s : State) (k : Nat) (v : Pin) : (s.setPin k v).faultQ = s.faultQ := rfl
@[simp] theorem State.setPin_evt (s : State) (k : Nat) (v : Pin) : (s.setPin k v).evt = s.evt := rfl
@[simp] theorem State.setPin_power (s : State) (k : Nat) (v : Pin) : (s.setPin k v).power = s.power := rfl
@[simp] theorem State.setPin_faults (s : State) (k : Nat) (v : Pin) : (s.setPin k v).faults = s.faults := rfl
@[simp] theorem State.setPin_thermal (s : State) (k : Nat) (v : Pin) : (s.setPin k v).thermal = s.thermal := rfl
@[simp] theorem State.setPin_ctl (s : State) (k : Nat) (v : Pin) : (s.setPin k v).ctl = s.ctl := rfl
@[simp] theorem State.setPin_store (s : State) (k : Nat) (v : Pin) : (s.setPin k v).store = s.store := rfl
@[simp] theorem State.setPin_counts (s : State) (k : Nat) (v : Pin) : (s.setPin k v).counts = s.counts := rfl
@[simp] theorem State.setPin_sent (s : State) (k : Nat) (v : Pin) : (s.setPin k v).sent = s.sent := rfl
@[simp] theorem State.setPin_pending (s : State) (k : Nat) (v : Pin) : (s.setPin k v).pending = s.pending := rfl

/-! ### State.modPin -/

@[simp] theorem State.modPin_now (s : State) (k : Nat) (f : Pin → Pin) : (s.modPin k f).now = s.now := rfl
@[simp] theorem State.modPin_tideOff (s : State) (k : Nat) (f : Pin → Pin) : (s.modPin k f).tideOff = s.tideOff := rfl
@[simp] theorem State.modPin_fresh (s : State) (k : Nat) (f : Pin → Pin) : (s.modPin k f).fresh = s.fresh := rfl
@[simp] theorem State.modPin_regs (s : State) (k : Nat) (f : Pin → Pin) : (s.modPin k f).regs = s.regs := rfl
@[simp] theorem State.modPin_shadows (s : State) (k : Nat) (f : Pin → Pin) : (s.modPin k f).shadows = s.shadows := rfl
@[simp] theorem State.modPin_captured (s : State) (k : Nat) (f : Pin → Pin) : (s.modPin k f).captured = s.captured := rfl
@[simp] theorem State.modPin_bound (s : State) (k : Nat) (f : Pin → Pin) : (s.modPin k f).bound = s.bound := rfl
@[simp] theorem State.modPin_strands (s : State) (k : Nat) (f : Pin → Pin) : (s.modPin k f).strands = s.strands := rfl
@[simp] theorem State.modPin_pmus (s : State) (k : Nat) (f : Pin → Pin) : (s.modPin k f).pmus = s.pmus := rfl
@[simp] theorem State.modPin_convs (s : State) (k : Nat) (f : Pin → Pin) : (s.modPin k f).convs = s.convs := rfl
@[simp] theorem State.modPin_tdcs (s : State) (k : Nat) (f : Pin → Pin) : (s.modPin k f).tdcs = s.tdcs := rfl
@[simp] theorem State.modPin_acqs (s : State) (k : Nat) (f : Pin → Pin) : (s.modPin k f).acqs = s.acqs := rfl
@[simp] theorem State.modPin_calRuns (s : State) (k : Nat) (f : Pin → Pin) : (s.modPin k f).calRuns = s.calRuns := rfl
@[simp] theorem State.modPin_calZero (s : State) (k : Nat) (f : Pin → Pin) : (s.modPin k f).calZero = s.calZero := rfl
@[simp] theorem State.modPin_qps (s : State) (k : Nat) (f : Pin → Pin) : (s.modPin k f).qps = s.qps := rfl
@[simp] theorem State.modPin_host (s : State) (k : Nat) (f : Pin → Pin) : (s.modPin k f).host = s.host := rfl
@[simp] theorem State.modPin_ring (s : State) (k : Nat) (f : Pin → Pin) : (s.modPin k f).ring = s.ring := rfl
@[simp] theorem State.modPin_tide (s : State) (k : Nat) (f : Pin → Pin) : (s.modPin k f).tide = s.tide := rfl
@[simp] theorem State.modPin_trips (s : State) (k : Nat) (f : Pin → Pin) : (s.modPin k f).trips = s.trips := rfl
@[simp] theorem State.modPin_mem (s : State) (k : Nat) (f : Pin → Pin) : (s.modPin k f).mem = s.mem := rfl
@[simp] theorem State.modPin_failPath (s : State) (k : Nat) (f : Pin → Pin) : (s.modPin k f).failPath = s.failPath := rfl
@[simp] theorem State.modPin_splice (s : State) (k : Nat) (f : Pin → Pin) : (s.modPin k f).splice = s.splice := rfl
@[simp] theorem State.modPin_place (s : State) (k : Nat) (f : Pin → Pin) : (s.modPin k f).place = s.place := rfl
@[simp] theorem State.modPin_forced (s : State) (k : Nat) (f : Pin → Pin) : (s.modPin k f).forced = s.forced := rfl
@[simp] theorem State.modPin_faultQ (s : State) (k : Nat) (f : Pin → Pin) : (s.modPin k f).faultQ = s.faultQ := rfl
@[simp] theorem State.modPin_evt (s : State) (k : Nat) (f : Pin → Pin) : (s.modPin k f).evt = s.evt := rfl
@[simp] theorem State.modPin_power (s : State) (k : Nat) (f : Pin → Pin) : (s.modPin k f).power = s.power := rfl
@[simp] theorem State.modPin_faults (s : State) (k : Nat) (f : Pin → Pin) : (s.modPin k f).faults = s.faults := rfl
@[simp] theorem State.modPin_thermal (s : State) (k : Nat) (f : Pin → Pin) : (s.modPin k f).thermal = s.thermal := rfl
@[simp] theorem State.modPin_ctl (s : State) (k : Nat) (f : Pin → Pin) : (s.modPin k f).ctl = s.ctl := rfl
@[simp] theorem State.modPin_store (s : State) (k : Nat) (f : Pin → Pin) : (s.modPin k f).store = s.store := rfl
@[simp] theorem State.modPin_counts (s : State) (k : Nat) (f : Pin → Pin) : (s.modPin k f).counts = s.counts := rfl
@[simp] theorem State.modPin_sent (s : State) (k : Nat) (f : Pin → Pin) : (s.modPin k f).sent = s.sent := rfl
@[simp] theorem State.modPin_pending (s : State) (k : Nat) (f : Pin → Pin) : (s.modPin k f).pending = s.pending := rfl

/-! ### State.setPmu -/

@[simp] theorem State.setPmu_now (s : State) (k : Nat) (v : Pmu) : (s.setPmu k v).now = s.now := rfl
@[simp] theorem State.setPmu_tideOff (s : State) (k : Nat) (v : Pmu) : (s.setPmu k v).tideOff = s.tideOff := rfl
@[simp] theorem State.setPmu_fresh (s : State) (k : Nat) (v : Pmu) : (s.setPmu k v).fresh = s.fresh := rfl
@[simp] theorem State.setPmu_regs (s : State) (k : Nat) (v : Pmu) : (s.setPmu k v).regs = s.regs := rfl
@[simp] theorem State.setPmu_shadows (s : State) (k : Nat) (v : Pmu) : (s.setPmu k v).shadows = s.shadows := rfl
@[simp] theorem State.setPmu_captured (s : State) (k : Nat) (v : Pmu) : (s.setPmu k v).captured = s.captured := rfl
@[simp] theorem State.setPmu_bound (s : State) (k : Nat) (v : Pmu) : (s.setPmu k v).bound = s.bound := rfl
@[simp] theorem State.setPmu_strands (s : State) (k : Nat) (v : Pmu) : (s.setPmu k v).strands = s.strands := rfl
@[simp] theorem State.setPmu_pins (s : State) (k : Nat) (v : Pmu) : (s.setPmu k v).pins = s.pins := rfl
@[simp] theorem State.setPmu_convs (s : State) (k : Nat) (v : Pmu) : (s.setPmu k v).convs = s.convs := rfl
@[simp] theorem State.setPmu_tdcs (s : State) (k : Nat) (v : Pmu) : (s.setPmu k v).tdcs = s.tdcs := rfl
@[simp] theorem State.setPmu_acqs (s : State) (k : Nat) (v : Pmu) : (s.setPmu k v).acqs = s.acqs := rfl
@[simp] theorem State.setPmu_calRuns (s : State) (k : Nat) (v : Pmu) : (s.setPmu k v).calRuns = s.calRuns := rfl
@[simp] theorem State.setPmu_calZero (s : State) (k : Nat) (v : Pmu) : (s.setPmu k v).calZero = s.calZero := rfl
@[simp] theorem State.setPmu_qps (s : State) (k : Nat) (v : Pmu) : (s.setPmu k v).qps = s.qps := rfl
@[simp] theorem State.setPmu_host (s : State) (k : Nat) (v : Pmu) : (s.setPmu k v).host = s.host := rfl
@[simp] theorem State.setPmu_ring (s : State) (k : Nat) (v : Pmu) : (s.setPmu k v).ring = s.ring := rfl
@[simp] theorem State.setPmu_tide (s : State) (k : Nat) (v : Pmu) : (s.setPmu k v).tide = s.tide := rfl
@[simp] theorem State.setPmu_trips (s : State) (k : Nat) (v : Pmu) : (s.setPmu k v).trips = s.trips := rfl
@[simp] theorem State.setPmu_mem (s : State) (k : Nat) (v : Pmu) : (s.setPmu k v).mem = s.mem := rfl
@[simp] theorem State.setPmu_failPath (s : State) (k : Nat) (v : Pmu) : (s.setPmu k v).failPath = s.failPath := rfl
@[simp] theorem State.setPmu_splice (s : State) (k : Nat) (v : Pmu) : (s.setPmu k v).splice = s.splice := rfl
@[simp] theorem State.setPmu_place (s : State) (k : Nat) (v : Pmu) : (s.setPmu k v).place = s.place := rfl
@[simp] theorem State.setPmu_forced (s : State) (k : Nat) (v : Pmu) : (s.setPmu k v).forced = s.forced := rfl
@[simp] theorem State.setPmu_faultQ (s : State) (k : Nat) (v : Pmu) : (s.setPmu k v).faultQ = s.faultQ := rfl
@[simp] theorem State.setPmu_evt (s : State) (k : Nat) (v : Pmu) : (s.setPmu k v).evt = s.evt := rfl
@[simp] theorem State.setPmu_power (s : State) (k : Nat) (v : Pmu) : (s.setPmu k v).power = s.power := rfl
@[simp] theorem State.setPmu_faults (s : State) (k : Nat) (v : Pmu) : (s.setPmu k v).faults = s.faults := rfl
@[simp] theorem State.setPmu_thermal (s : State) (k : Nat) (v : Pmu) : (s.setPmu k v).thermal = s.thermal := rfl
@[simp] theorem State.setPmu_ctl (s : State) (k : Nat) (v : Pmu) : (s.setPmu k v).ctl = s.ctl := rfl
@[simp] theorem State.setPmu_store (s : State) (k : Nat) (v : Pmu) : (s.setPmu k v).store = s.store := rfl
@[simp] theorem State.setPmu_counts (s : State) (k : Nat) (v : Pmu) : (s.setPmu k v).counts = s.counts := rfl
@[simp] theorem State.setPmu_sent (s : State) (k : Nat) (v : Pmu) : (s.setPmu k v).sent = s.sent := rfl
@[simp] theorem State.setPmu_pending (s : State) (k : Nat) (v : Pmu) : (s.setPmu k v).pending = s.pending := rfl

/-! ### State.modPmu -/

@[simp] theorem State.modPmu_now (s : State) (k : Nat) (f : Pmu → Pmu) : (s.modPmu k f).now = s.now := rfl
@[simp] theorem State.modPmu_tideOff (s : State) (k : Nat) (f : Pmu → Pmu) : (s.modPmu k f).tideOff = s.tideOff := rfl
@[simp] theorem State.modPmu_fresh (s : State) (k : Nat) (f : Pmu → Pmu) : (s.modPmu k f).fresh = s.fresh := rfl
@[simp] theorem State.modPmu_regs (s : State) (k : Nat) (f : Pmu → Pmu) : (s.modPmu k f).regs = s.regs := rfl
@[simp] theorem State.modPmu_shadows (s : State) (k : Nat) (f : Pmu → Pmu) : (s.modPmu k f).shadows = s.shadows := rfl
@[simp] theorem State.modPmu_captured (s : State) (k : Nat) (f : Pmu → Pmu) : (s.modPmu k f).captured = s.captured := rfl
@[simp] theorem State.modPmu_bound (s : State) (k : Nat) (f : Pmu → Pmu) : (s.modPmu k f).bound = s.bound := rfl
@[simp] theorem State.modPmu_strands (s : State) (k : Nat) (f : Pmu → Pmu) : (s.modPmu k f).strands = s.strands := rfl
@[simp] theorem State.modPmu_pins (s : State) (k : Nat) (f : Pmu → Pmu) : (s.modPmu k f).pins = s.pins := rfl
@[simp] theorem State.modPmu_convs (s : State) (k : Nat) (f : Pmu → Pmu) : (s.modPmu k f).convs = s.convs := rfl
@[simp] theorem State.modPmu_tdcs (s : State) (k : Nat) (f : Pmu → Pmu) : (s.modPmu k f).tdcs = s.tdcs := rfl
@[simp] theorem State.modPmu_acqs (s : State) (k : Nat) (f : Pmu → Pmu) : (s.modPmu k f).acqs = s.acqs := rfl
@[simp] theorem State.modPmu_calRuns (s : State) (k : Nat) (f : Pmu → Pmu) : (s.modPmu k f).calRuns = s.calRuns := rfl
@[simp] theorem State.modPmu_calZero (s : State) (k : Nat) (f : Pmu → Pmu) : (s.modPmu k f).calZero = s.calZero := rfl
@[simp] theorem State.modPmu_qps (s : State) (k : Nat) (f : Pmu → Pmu) : (s.modPmu k f).qps = s.qps := rfl
@[simp] theorem State.modPmu_host (s : State) (k : Nat) (f : Pmu → Pmu) : (s.modPmu k f).host = s.host := rfl
@[simp] theorem State.modPmu_ring (s : State) (k : Nat) (f : Pmu → Pmu) : (s.modPmu k f).ring = s.ring := rfl
@[simp] theorem State.modPmu_tide (s : State) (k : Nat) (f : Pmu → Pmu) : (s.modPmu k f).tide = s.tide := rfl
@[simp] theorem State.modPmu_trips (s : State) (k : Nat) (f : Pmu → Pmu) : (s.modPmu k f).trips = s.trips := rfl
@[simp] theorem State.modPmu_mem (s : State) (k : Nat) (f : Pmu → Pmu) : (s.modPmu k f).mem = s.mem := rfl
@[simp] theorem State.modPmu_failPath (s : State) (k : Nat) (f : Pmu → Pmu) : (s.modPmu k f).failPath = s.failPath := rfl
@[simp] theorem State.modPmu_splice (s : State) (k : Nat) (f : Pmu → Pmu) : (s.modPmu k f).splice = s.splice := rfl
@[simp] theorem State.modPmu_place (s : State) (k : Nat) (f : Pmu → Pmu) : (s.modPmu k f).place = s.place := rfl
@[simp] theorem State.modPmu_forced (s : State) (k : Nat) (f : Pmu → Pmu) : (s.modPmu k f).forced = s.forced := rfl
@[simp] theorem State.modPmu_faultQ (s : State) (k : Nat) (f : Pmu → Pmu) : (s.modPmu k f).faultQ = s.faultQ := rfl
@[simp] theorem State.modPmu_evt (s : State) (k : Nat) (f : Pmu → Pmu) : (s.modPmu k f).evt = s.evt := rfl
@[simp] theorem State.modPmu_power (s : State) (k : Nat) (f : Pmu → Pmu) : (s.modPmu k f).power = s.power := rfl
@[simp] theorem State.modPmu_faults (s : State) (k : Nat) (f : Pmu → Pmu) : (s.modPmu k f).faults = s.faults := rfl
@[simp] theorem State.modPmu_thermal (s : State) (k : Nat) (f : Pmu → Pmu) : (s.modPmu k f).thermal = s.thermal := rfl
@[simp] theorem State.modPmu_ctl (s : State) (k : Nat) (f : Pmu → Pmu) : (s.modPmu k f).ctl = s.ctl := rfl
@[simp] theorem State.modPmu_store (s : State) (k : Nat) (f : Pmu → Pmu) : (s.modPmu k f).store = s.store := rfl
@[simp] theorem State.modPmu_counts (s : State) (k : Nat) (f : Pmu → Pmu) : (s.modPmu k f).counts = s.counts := rfl
@[simp] theorem State.modPmu_sent (s : State) (k : Nat) (f : Pmu → Pmu) : (s.modPmu k f).sent = s.sent := rfl
@[simp] theorem State.modPmu_pending (s : State) (k : Nat) (f : Pmu → Pmu) : (s.modPmu k f).pending = s.pending := rfl

/-! ### State.setConv -/

@[simp] theorem State.setConv_now (s : State) (k : Nat) (v : Conv) : (s.setConv k v).now = s.now := rfl
@[simp] theorem State.setConv_tideOff (s : State) (k : Nat) (v : Conv) : (s.setConv k v).tideOff = s.tideOff := rfl
@[simp] theorem State.setConv_fresh (s : State) (k : Nat) (v : Conv) : (s.setConv k v).fresh = s.fresh := rfl
@[simp] theorem State.setConv_regs (s : State) (k : Nat) (v : Conv) : (s.setConv k v).regs = s.regs := rfl
@[simp] theorem State.setConv_shadows (s : State) (k : Nat) (v : Conv) : (s.setConv k v).shadows = s.shadows := rfl
@[simp] theorem State.setConv_captured (s : State) (k : Nat) (v : Conv) : (s.setConv k v).captured = s.captured := rfl
@[simp] theorem State.setConv_bound (s : State) (k : Nat) (v : Conv) : (s.setConv k v).bound = s.bound := rfl
@[simp] theorem State.setConv_strands (s : State) (k : Nat) (v : Conv) : (s.setConv k v).strands = s.strands := rfl
@[simp] theorem State.setConv_pins (s : State) (k : Nat) (v : Conv) : (s.setConv k v).pins = s.pins := rfl
@[simp] theorem State.setConv_pmus (s : State) (k : Nat) (v : Conv) : (s.setConv k v).pmus = s.pmus := rfl
@[simp] theorem State.setConv_tdcs (s : State) (k : Nat) (v : Conv) : (s.setConv k v).tdcs = s.tdcs := rfl
@[simp] theorem State.setConv_acqs (s : State) (k : Nat) (v : Conv) : (s.setConv k v).acqs = s.acqs := rfl
@[simp] theorem State.setConv_calRuns (s : State) (k : Nat) (v : Conv) : (s.setConv k v).calRuns = s.calRuns := rfl
@[simp] theorem State.setConv_calZero (s : State) (k : Nat) (v : Conv) : (s.setConv k v).calZero = s.calZero := rfl
@[simp] theorem State.setConv_qps (s : State) (k : Nat) (v : Conv) : (s.setConv k v).qps = s.qps := rfl
@[simp] theorem State.setConv_host (s : State) (k : Nat) (v : Conv) : (s.setConv k v).host = s.host := rfl
@[simp] theorem State.setConv_ring (s : State) (k : Nat) (v : Conv) : (s.setConv k v).ring = s.ring := rfl
@[simp] theorem State.setConv_tide (s : State) (k : Nat) (v : Conv) : (s.setConv k v).tide = s.tide := rfl
@[simp] theorem State.setConv_trips (s : State) (k : Nat) (v : Conv) : (s.setConv k v).trips = s.trips := rfl
@[simp] theorem State.setConv_mem (s : State) (k : Nat) (v : Conv) : (s.setConv k v).mem = s.mem := rfl
@[simp] theorem State.setConv_failPath (s : State) (k : Nat) (v : Conv) : (s.setConv k v).failPath = s.failPath := rfl
@[simp] theorem State.setConv_splice (s : State) (k : Nat) (v : Conv) : (s.setConv k v).splice = s.splice := rfl
@[simp] theorem State.setConv_place (s : State) (k : Nat) (v : Conv) : (s.setConv k v).place = s.place := rfl
@[simp] theorem State.setConv_forced (s : State) (k : Nat) (v : Conv) : (s.setConv k v).forced = s.forced := rfl
@[simp] theorem State.setConv_faultQ (s : State) (k : Nat) (v : Conv) : (s.setConv k v).faultQ = s.faultQ := rfl
@[simp] theorem State.setConv_evt (s : State) (k : Nat) (v : Conv) : (s.setConv k v).evt = s.evt := rfl
@[simp] theorem State.setConv_power (s : State) (k : Nat) (v : Conv) : (s.setConv k v).power = s.power := rfl
@[simp] theorem State.setConv_faults (s : State) (k : Nat) (v : Conv) : (s.setConv k v).faults = s.faults := rfl
@[simp] theorem State.setConv_thermal (s : State) (k : Nat) (v : Conv) : (s.setConv k v).thermal = s.thermal := rfl
@[simp] theorem State.setConv_ctl (s : State) (k : Nat) (v : Conv) : (s.setConv k v).ctl = s.ctl := rfl
@[simp] theorem State.setConv_store (s : State) (k : Nat) (v : Conv) : (s.setConv k v).store = s.store := rfl
@[simp] theorem State.setConv_counts (s : State) (k : Nat) (v : Conv) : (s.setConv k v).counts = s.counts := rfl
@[simp] theorem State.setConv_sent (s : State) (k : Nat) (v : Conv) : (s.setConv k v).sent = s.sent := rfl
@[simp] theorem State.setConv_pending (s : State) (k : Nat) (v : Conv) : (s.setConv k v).pending = s.pending := rfl

/-! ### State.modConv -/

@[simp] theorem State.modConv_now (s : State) (k : Nat) (f : Conv → Conv) : (s.modConv k f).now = s.now := rfl
@[simp] theorem State.modConv_tideOff (s : State) (k : Nat) (f : Conv → Conv) : (s.modConv k f).tideOff = s.tideOff := rfl
@[simp] theorem State.modConv_fresh (s : State) (k : Nat) (f : Conv → Conv) : (s.modConv k f).fresh = s.fresh := rfl
@[simp] theorem State.modConv_regs (s : State) (k : Nat) (f : Conv → Conv) : (s.modConv k f).regs = s.regs := rfl
@[simp] theorem State.modConv_shadows (s : State) (k : Nat) (f : Conv → Conv) : (s.modConv k f).shadows = s.shadows := rfl
@[simp] theorem State.modConv_captured (s : State) (k : Nat) (f : Conv → Conv) : (s.modConv k f).captured = s.captured := rfl
@[simp] theorem State.modConv_bound (s : State) (k : Nat) (f : Conv → Conv) : (s.modConv k f).bound = s.bound := rfl
@[simp] theorem State.modConv_strands (s : State) (k : Nat) (f : Conv → Conv) : (s.modConv k f).strands = s.strands := rfl
@[simp] theorem State.modConv_pins (s : State) (k : Nat) (f : Conv → Conv) : (s.modConv k f).pins = s.pins := rfl
@[simp] theorem State.modConv_pmus (s : State) (k : Nat) (f : Conv → Conv) : (s.modConv k f).pmus = s.pmus := rfl
@[simp] theorem State.modConv_tdcs (s : State) (k : Nat) (f : Conv → Conv) : (s.modConv k f).tdcs = s.tdcs := rfl
@[simp] theorem State.modConv_acqs (s : State) (k : Nat) (f : Conv → Conv) : (s.modConv k f).acqs = s.acqs := rfl
@[simp] theorem State.modConv_calRuns (s : State) (k : Nat) (f : Conv → Conv) : (s.modConv k f).calRuns = s.calRuns := rfl
@[simp] theorem State.modConv_calZero (s : State) (k : Nat) (f : Conv → Conv) : (s.modConv k f).calZero = s.calZero := rfl
@[simp] theorem State.modConv_qps (s : State) (k : Nat) (f : Conv → Conv) : (s.modConv k f).qps = s.qps := rfl
@[simp] theorem State.modConv_host (s : State) (k : Nat) (f : Conv → Conv) : (s.modConv k f).host = s.host := rfl
@[simp] theorem State.modConv_ring (s : State) (k : Nat) (f : Conv → Conv) : (s.modConv k f).ring = s.ring := rfl
@[simp] theorem State.modConv_tide (s : State) (k : Nat) (f : Conv → Conv) : (s.modConv k f).tide = s.tide := rfl
@[simp] theorem State.modConv_trips (s : State) (k : Nat) (f : Conv → Conv) : (s.modConv k f).trips = s.trips := rfl
@[simp] theorem State.modConv_mem (s : State) (k : Nat) (f : Conv → Conv) : (s.modConv k f).mem = s.mem := rfl
@[simp] theorem State.modConv_failPath (s : State) (k : Nat) (f : Conv → Conv) : (s.modConv k f).failPath = s.failPath := rfl
@[simp] theorem State.modConv_splice (s : State) (k : Nat) (f : Conv → Conv) : (s.modConv k f).splice = s.splice := rfl
@[simp] theorem State.modConv_place (s : State) (k : Nat) (f : Conv → Conv) : (s.modConv k f).place = s.place := rfl
@[simp] theorem State.modConv_forced (s : State) (k : Nat) (f : Conv → Conv) : (s.modConv k f).forced = s.forced := rfl
@[simp] theorem State.modConv_faultQ (s : State) (k : Nat) (f : Conv → Conv) : (s.modConv k f).faultQ = s.faultQ := rfl
@[simp] theorem State.modConv_evt (s : State) (k : Nat) (f : Conv → Conv) : (s.modConv k f).evt = s.evt := rfl
@[simp] theorem State.modConv_power (s : State) (k : Nat) (f : Conv → Conv) : (s.modConv k f).power = s.power := rfl
@[simp] theorem State.modConv_faults (s : State) (k : Nat) (f : Conv → Conv) : (s.modConv k f).faults = s.faults := rfl
@[simp] theorem State.modConv_thermal (s : State) (k : Nat) (f : Conv → Conv) : (s.modConv k f).thermal = s.thermal := rfl
@[simp] theorem State.modConv_ctl (s : State) (k : Nat) (f : Conv → Conv) : (s.modConv k f).ctl = s.ctl := rfl
@[simp] theorem State.modConv_store (s : State) (k : Nat) (f : Conv → Conv) : (s.modConv k f).store = s.store := rfl
@[simp] theorem State.modConv_counts (s : State) (k : Nat) (f : Conv → Conv) : (s.modConv k f).counts = s.counts := rfl
@[simp] theorem State.modConv_sent (s : State) (k : Nat) (f : Conv → Conv) : (s.modConv k f).sent = s.sent := rfl
@[simp] theorem State.modConv_pending (s : State) (k : Nat) (f : Conv → Conv) : (s.modConv k f).pending = s.pending := rfl

/-! ### State.setTdc -/

@[simp] theorem State.setTdc_now (s : State) (k : Nat) (v : Tdc) : (s.setTdc k v).now = s.now := rfl
@[simp] theorem State.setTdc_tideOff (s : State) (k : Nat) (v : Tdc) : (s.setTdc k v).tideOff = s.tideOff := rfl
@[simp] theorem State.setTdc_fresh (s : State) (k : Nat) (v : Tdc) : (s.setTdc k v).fresh = s.fresh := rfl
@[simp] theorem State.setTdc_regs (s : State) (k : Nat) (v : Tdc) : (s.setTdc k v).regs = s.regs := rfl
@[simp] theorem State.setTdc_shadows (s : State) (k : Nat) (v : Tdc) : (s.setTdc k v).shadows = s.shadows := rfl
@[simp] theorem State.setTdc_captured (s : State) (k : Nat) (v : Tdc) : (s.setTdc k v).captured = s.captured := rfl
@[simp] theorem State.setTdc_bound (s : State) (k : Nat) (v : Tdc) : (s.setTdc k v).bound = s.bound := rfl
@[simp] theorem State.setTdc_strands (s : State) (k : Nat) (v : Tdc) : (s.setTdc k v).strands = s.strands := rfl
@[simp] theorem State.setTdc_pins (s : State) (k : Nat) (v : Tdc) : (s.setTdc k v).pins = s.pins := rfl
@[simp] theorem State.setTdc_pmus (s : State) (k : Nat) (v : Tdc) : (s.setTdc k v).pmus = s.pmus := rfl
@[simp] theorem State.setTdc_convs (s : State) (k : Nat) (v : Tdc) : (s.setTdc k v).convs = s.convs := rfl
@[simp] theorem State.setTdc_acqs (s : State) (k : Nat) (v : Tdc) : (s.setTdc k v).acqs = s.acqs := rfl
@[simp] theorem State.setTdc_calRuns (s : State) (k : Nat) (v : Tdc) : (s.setTdc k v).calRuns = s.calRuns := rfl
@[simp] theorem State.setTdc_calZero (s : State) (k : Nat) (v : Tdc) : (s.setTdc k v).calZero = s.calZero := rfl
@[simp] theorem State.setTdc_qps (s : State) (k : Nat) (v : Tdc) : (s.setTdc k v).qps = s.qps := rfl
@[simp] theorem State.setTdc_host (s : State) (k : Nat) (v : Tdc) : (s.setTdc k v).host = s.host := rfl
@[simp] theorem State.setTdc_ring (s : State) (k : Nat) (v : Tdc) : (s.setTdc k v).ring = s.ring := rfl
@[simp] theorem State.setTdc_tide (s : State) (k : Nat) (v : Tdc) : (s.setTdc k v).tide = s.tide := rfl
@[simp] theorem State.setTdc_trips (s : State) (k : Nat) (v : Tdc) : (s.setTdc k v).trips = s.trips := rfl
@[simp] theorem State.setTdc_mem (s : State) (k : Nat) (v : Tdc) : (s.setTdc k v).mem = s.mem := rfl
@[simp] theorem State.setTdc_failPath (s : State) (k : Nat) (v : Tdc) : (s.setTdc k v).failPath = s.failPath := rfl
@[simp] theorem State.setTdc_splice (s : State) (k : Nat) (v : Tdc) : (s.setTdc k v).splice = s.splice := rfl
@[simp] theorem State.setTdc_place (s : State) (k : Nat) (v : Tdc) : (s.setTdc k v).place = s.place := rfl
@[simp] theorem State.setTdc_forced (s : State) (k : Nat) (v : Tdc) : (s.setTdc k v).forced = s.forced := rfl
@[simp] theorem State.setTdc_faultQ (s : State) (k : Nat) (v : Tdc) : (s.setTdc k v).faultQ = s.faultQ := rfl
@[simp] theorem State.setTdc_evt (s : State) (k : Nat) (v : Tdc) : (s.setTdc k v).evt = s.evt := rfl
@[simp] theorem State.setTdc_power (s : State) (k : Nat) (v : Tdc) : (s.setTdc k v).power = s.power := rfl
@[simp] theorem State.setTdc_faults (s : State) (k : Nat) (v : Tdc) : (s.setTdc k v).faults = s.faults := rfl
@[simp] theorem State.setTdc_thermal (s : State) (k : Nat) (v : Tdc) : (s.setTdc k v).thermal = s.thermal := rfl
@[simp] theorem State.setTdc_ctl (s : State) (k : Nat) (v : Tdc) : (s.setTdc k v).ctl = s.ctl := rfl
@[simp] theorem State.setTdc_store (s : State) (k : Nat) (v : Tdc) : (s.setTdc k v).store = s.store := rfl
@[simp] theorem State.setTdc_counts (s : State) (k : Nat) (v : Tdc) : (s.setTdc k v).counts = s.counts := rfl
@[simp] theorem State.setTdc_sent (s : State) (k : Nat) (v : Tdc) : (s.setTdc k v).sent = s.sent := rfl
@[simp] theorem State.setTdc_pending (s : State) (k : Nat) (v : Tdc) : (s.setTdc k v).pending = s.pending := rfl

/-! ### State.modTdc -/

@[simp] theorem State.modTdc_now (s : State) (k : Nat) (f : Tdc → Tdc) : (s.modTdc k f).now = s.now := rfl
@[simp] theorem State.modTdc_tideOff (s : State) (k : Nat) (f : Tdc → Tdc) : (s.modTdc k f).tideOff = s.tideOff := rfl
@[simp] theorem State.modTdc_fresh (s : State) (k : Nat) (f : Tdc → Tdc) : (s.modTdc k f).fresh = s.fresh := rfl
@[simp] theorem State.modTdc_regs (s : State) (k : Nat) (f : Tdc → Tdc) : (s.modTdc k f).regs = s.regs := rfl
@[simp] theorem State.modTdc_shadows (s : State) (k : Nat) (f : Tdc → Tdc) : (s.modTdc k f).shadows = s.shadows := rfl
@[simp] theorem State.modTdc_captured (s : State) (k : Nat) (f : Tdc → Tdc) : (s.modTdc k f).captured = s.captured := rfl
@[simp] theorem State.modTdc_bound (s : State) (k : Nat) (f : Tdc → Tdc) : (s.modTdc k f).bound = s.bound := rfl
@[simp] theorem State.modTdc_strands (s : State) (k : Nat) (f : Tdc → Tdc) : (s.modTdc k f).strands = s.strands := rfl
@[simp] theorem State.modTdc_pins (s : State) (k : Nat) (f : Tdc → Tdc) : (s.modTdc k f).pins = s.pins := rfl
@[simp] theorem State.modTdc_pmus (s : State) (k : Nat) (f : Tdc → Tdc) : (s.modTdc k f).pmus = s.pmus := rfl
@[simp] theorem State.modTdc_convs (s : State) (k : Nat) (f : Tdc → Tdc) : (s.modTdc k f).convs = s.convs := rfl
@[simp] theorem State.modTdc_acqs (s : State) (k : Nat) (f : Tdc → Tdc) : (s.modTdc k f).acqs = s.acqs := rfl
@[simp] theorem State.modTdc_calRuns (s : State) (k : Nat) (f : Tdc → Tdc) : (s.modTdc k f).calRuns = s.calRuns := rfl
@[simp] theorem State.modTdc_calZero (s : State) (k : Nat) (f : Tdc → Tdc) : (s.modTdc k f).calZero = s.calZero := rfl
@[simp] theorem State.modTdc_qps (s : State) (k : Nat) (f : Tdc → Tdc) : (s.modTdc k f).qps = s.qps := rfl
@[simp] theorem State.modTdc_host (s : State) (k : Nat) (f : Tdc → Tdc) : (s.modTdc k f).host = s.host := rfl
@[simp] theorem State.modTdc_ring (s : State) (k : Nat) (f : Tdc → Tdc) : (s.modTdc k f).ring = s.ring := rfl
@[simp] theorem State.modTdc_tide (s : State) (k : Nat) (f : Tdc → Tdc) : (s.modTdc k f).tide = s.tide := rfl
@[simp] theorem State.modTdc_trips (s : State) (k : Nat) (f : Tdc → Tdc) : (s.modTdc k f).trips = s.trips := rfl
@[simp] theorem State.modTdc_mem (s : State) (k : Nat) (f : Tdc → Tdc) : (s.modTdc k f).mem = s.mem := rfl
@[simp] theorem State.modTdc_failPath (s : State) (k : Nat) (f : Tdc → Tdc) : (s.modTdc k f).failPath = s.failPath := rfl
@[simp] theorem State.modTdc_splice (s : State) (k : Nat) (f : Tdc → Tdc) : (s.modTdc k f).splice = s.splice := rfl
@[simp] theorem State.modTdc_place (s : State) (k : Nat) (f : Tdc → Tdc) : (s.modTdc k f).place = s.place := rfl
@[simp] theorem State.modTdc_forced (s : State) (k : Nat) (f : Tdc → Tdc) : (s.modTdc k f).forced = s.forced := rfl
@[simp] theorem State.modTdc_faultQ (s : State) (k : Nat) (f : Tdc → Tdc) : (s.modTdc k f).faultQ = s.faultQ := rfl
@[simp] theorem State.modTdc_evt (s : State) (k : Nat) (f : Tdc → Tdc) : (s.modTdc k f).evt = s.evt := rfl
@[simp] theorem State.modTdc_power (s : State) (k : Nat) (f : Tdc → Tdc) : (s.modTdc k f).power = s.power := rfl
@[simp] theorem State.modTdc_faults (s : State) (k : Nat) (f : Tdc → Tdc) : (s.modTdc k f).faults = s.faults := rfl
@[simp] theorem State.modTdc_thermal (s : State) (k : Nat) (f : Tdc → Tdc) : (s.modTdc k f).thermal = s.thermal := rfl
@[simp] theorem State.modTdc_ctl (s : State) (k : Nat) (f : Tdc → Tdc) : (s.modTdc k f).ctl = s.ctl := rfl
@[simp] theorem State.modTdc_store (s : State) (k : Nat) (f : Tdc → Tdc) : (s.modTdc k f).store = s.store := rfl
@[simp] theorem State.modTdc_counts (s : State) (k : Nat) (f : Tdc → Tdc) : (s.modTdc k f).counts = s.counts := rfl
@[simp] theorem State.modTdc_sent (s : State) (k : Nat) (f : Tdc → Tdc) : (s.modTdc k f).sent = s.sent := rfl
@[simp] theorem State.modTdc_pending (s : State) (k : Nat) (f : Tdc → Tdc) : (s.modTdc k f).pending = s.pending := rfl

/-! ### State.setAcq -/

@[simp] theorem State.setAcq_now (s : State) (k : Nat) (v : Acq) : (s.setAcq k v).now = s.now := rfl
@[simp] theorem State.setAcq_tideOff (s : State) (k : Nat) (v : Acq) : (s.setAcq k v).tideOff = s.tideOff := rfl
@[simp] theorem State.setAcq_fresh (s : State) (k : Nat) (v : Acq) : (s.setAcq k v).fresh = s.fresh := rfl
@[simp] theorem State.setAcq_regs (s : State) (k : Nat) (v : Acq) : (s.setAcq k v).regs = s.regs := rfl
@[simp] theorem State.setAcq_shadows (s : State) (k : Nat) (v : Acq) : (s.setAcq k v).shadows = s.shadows := rfl
@[simp] theorem State.setAcq_captured (s : State) (k : Nat) (v : Acq) : (s.setAcq k v).captured = s.captured := rfl
@[simp] theorem State.setAcq_bound (s : State) (k : Nat) (v : Acq) : (s.setAcq k v).bound = s.bound := rfl
@[simp] theorem State.setAcq_strands (s : State) (k : Nat) (v : Acq) : (s.setAcq k v).strands = s.strands := rfl
@[simp] theorem State.setAcq_pins (s : State) (k : Nat) (v : Acq) : (s.setAcq k v).pins = s.pins := rfl
@[simp] theorem State.setAcq_pmus (s : State) (k : Nat) (v : Acq) : (s.setAcq k v).pmus = s.pmus := rfl
@[simp] theorem State.setAcq_convs (s : State) (k : Nat) (v : Acq) : (s.setAcq k v).convs = s.convs := rfl
@[simp] theorem State.setAcq_tdcs (s : State) (k : Nat) (v : Acq) : (s.setAcq k v).tdcs = s.tdcs := rfl
@[simp] theorem State.setAcq_calRuns (s : State) (k : Nat) (v : Acq) : (s.setAcq k v).calRuns = s.calRuns := rfl
@[simp] theorem State.setAcq_calZero (s : State) (k : Nat) (v : Acq) : (s.setAcq k v).calZero = s.calZero := rfl
@[simp] theorem State.setAcq_qps (s : State) (k : Nat) (v : Acq) : (s.setAcq k v).qps = s.qps := rfl
@[simp] theorem State.setAcq_host (s : State) (k : Nat) (v : Acq) : (s.setAcq k v).host = s.host := rfl
@[simp] theorem State.setAcq_ring (s : State) (k : Nat) (v : Acq) : (s.setAcq k v).ring = s.ring := rfl
@[simp] theorem State.setAcq_tide (s : State) (k : Nat) (v : Acq) : (s.setAcq k v).tide = s.tide := rfl
@[simp] theorem State.setAcq_trips (s : State) (k : Nat) (v : Acq) : (s.setAcq k v).trips = s.trips := rfl
@[simp] theorem State.setAcq_mem (s : State) (k : Nat) (v : Acq) : (s.setAcq k v).mem = s.mem := rfl
@[simp] theorem State.setAcq_failPath (s : State) (k : Nat) (v : Acq) : (s.setAcq k v).failPath = s.failPath := rfl
@[simp] theorem State.setAcq_splice (s : State) (k : Nat) (v : Acq) : (s.setAcq k v).splice = s.splice := rfl
@[simp] theorem State.setAcq_place (s : State) (k : Nat) (v : Acq) : (s.setAcq k v).place = s.place := rfl
@[simp] theorem State.setAcq_forced (s : State) (k : Nat) (v : Acq) : (s.setAcq k v).forced = s.forced := rfl
@[simp] theorem State.setAcq_faultQ (s : State) (k : Nat) (v : Acq) : (s.setAcq k v).faultQ = s.faultQ := rfl
@[simp] theorem State.setAcq_evt (s : State) (k : Nat) (v : Acq) : (s.setAcq k v).evt = s.evt := rfl
@[simp] theorem State.setAcq_power (s : State) (k : Nat) (v : Acq) : (s.setAcq k v).power = s.power := rfl
@[simp] theorem State.setAcq_faults (s : State) (k : Nat) (v : Acq) : (s.setAcq k v).faults = s.faults := rfl
@[simp] theorem State.setAcq_thermal (s : State) (k : Nat) (v : Acq) : (s.setAcq k v).thermal = s.thermal := rfl
@[simp] theorem State.setAcq_ctl (s : State) (k : Nat) (v : Acq) : (s.setAcq k v).ctl = s.ctl := rfl
@[simp] theorem State.setAcq_store (s : State) (k : Nat) (v : Acq) : (s.setAcq k v).store = s.store := rfl
@[simp] theorem State.setAcq_counts (s : State) (k : Nat) (v : Acq) : (s.setAcq k v).counts = s.counts := rfl
@[simp] theorem State.setAcq_sent (s : State) (k : Nat) (v : Acq) : (s.setAcq k v).sent = s.sent := rfl
@[simp] theorem State.setAcq_pending (s : State) (k : Nat) (v : Acq) : (s.setAcq k v).pending = s.pending := rfl

/-! ### State.modAcq -/

@[simp] theorem State.modAcq_now (s : State) (k : Nat) (f : Acq → Acq) : (s.modAcq k f).now = s.now := rfl
@[simp] theorem State.modAcq_tideOff (s : State) (k : Nat) (f : Acq → Acq) : (s.modAcq k f).tideOff = s.tideOff := rfl
@[simp] theorem State.modAcq_fresh (s : State) (k : Nat) (f : Acq → Acq) : (s.modAcq k f).fresh = s.fresh := rfl
@[simp] theorem State.modAcq_regs (s : State) (k : Nat) (f : Acq → Acq) : (s.modAcq k f).regs = s.regs := rfl
@[simp] theorem State.modAcq_shadows (s : State) (k : Nat) (f : Acq → Acq) : (s.modAcq k f).shadows = s.shadows := rfl
@[simp] theorem State.modAcq_captured (s : State) (k : Nat) (f : Acq → Acq) : (s.modAcq k f).captured = s.captured := rfl
@[simp] theorem State.modAcq_bound (s : State) (k : Nat) (f : Acq → Acq) : (s.modAcq k f).bound = s.bound := rfl
@[simp] theorem State.modAcq_strands (s : State) (k : Nat) (f : Acq → Acq) : (s.modAcq k f).strands = s.strands := rfl
@[simp] theorem State.modAcq_pins (s : State) (k : Nat) (f : Acq → Acq) : (s.modAcq k f).pins = s.pins := rfl
@[simp] theorem State.modAcq_pmus (s : State) (k : Nat) (f : Acq → Acq) : (s.modAcq k f).pmus = s.pmus := rfl
@[simp] theorem State.modAcq_convs (s : State) (k : Nat) (f : Acq → Acq) : (s.modAcq k f).convs = s.convs := rfl
@[simp] theorem State.modAcq_tdcs (s : State) (k : Nat) (f : Acq → Acq) : (s.modAcq k f).tdcs = s.tdcs := rfl
@[simp] theorem State.modAcq_calRuns (s : State) (k : Nat) (f : Acq → Acq) : (s.modAcq k f).calRuns = s.calRuns := rfl
@[simp] theorem State.modAcq_calZero (s : State) (k : Nat) (f : Acq → Acq) : (s.modAcq k f).calZero = s.calZero := rfl
@[simp] theorem State.modAcq_qps (s : State) (k : Nat) (f : Acq → Acq) : (s.modAcq k f).qps = s.qps := rfl
@[simp] theorem State.modAcq_host (s : State) (k : Nat) (f : Acq → Acq) : (s.modAcq k f).host = s.host := rfl
@[simp] theorem State.modAcq_ring (s : State) (k : Nat) (f : Acq → Acq) : (s.modAcq k f).ring = s.ring := rfl
@[simp] theorem State.modAcq_tide (s : State) (k : Nat) (f : Acq → Acq) : (s.modAcq k f).tide = s.tide := rfl
@[simp] theorem State.modAcq_trips (s : State) (k : Nat) (f : Acq → Acq) : (s.modAcq k f).trips = s.trips := rfl
@[simp] theorem State.modAcq_mem (s : State) (k : Nat) (f : Acq → Acq) : (s.modAcq k f).mem = s.mem := rfl
@[simp] theorem State.modAcq_failPath (s : State) (k : Nat) (f : Acq → Acq) : (s.modAcq k f).failPath = s.failPath := rfl
@[simp] theorem State.modAcq_splice (s : State) (k : Nat) (f : Acq → Acq) : (s.modAcq k f).splice = s.splice := rfl
@[simp] theorem State.modAcq_place (s : State) (k : Nat) (f : Acq → Acq) : (s.modAcq k f).place = s.place := rfl
@[simp] theorem State.modAcq_forced (s : State) (k : Nat) (f : Acq → Acq) : (s.modAcq k f).forced = s.forced := rfl
@[simp] theorem State.modAcq_faultQ (s : State) (k : Nat) (f : Acq → Acq) : (s.modAcq k f).faultQ = s.faultQ := rfl
@[simp] theorem State.modAcq_evt (s : State) (k : Nat) (f : Acq → Acq) : (s.modAcq k f).evt = s.evt := rfl
@[simp] theorem State.modAcq_power (s : State) (k : Nat) (f : Acq → Acq) : (s.modAcq k f).power = s.power := rfl
@[simp] theorem State.modAcq_faults (s : State) (k : Nat) (f : Acq → Acq) : (s.modAcq k f).faults = s.faults := rfl
@[simp] theorem State.modAcq_thermal (s : State) (k : Nat) (f : Acq → Acq) : (s.modAcq k f).thermal = s.thermal := rfl
@[simp] theorem State.modAcq_ctl (s : State) (k : Nat) (f : Acq → Acq) : (s.modAcq k f).ctl = s.ctl := rfl
@[simp] theorem State.modAcq_store (s : State) (k : Nat) (f : Acq → Acq) : (s.modAcq k f).store = s.store := rfl
@[simp] theorem State.modAcq_counts (s : State) (k : Nat) (f : Acq → Acq) : (s.modAcq k f).counts = s.counts := rfl
@[simp] theorem State.modAcq_sent (s : State) (k : Nat) (f : Acq → Acq) : (s.modAcq k f).sent = s.sent := rfl
@[simp] theorem State.modAcq_pending (s : State) (k : Nat) (f : Acq → Acq) : (s.modAcq k f).pending = s.pending := rfl

/-! ### State.setQp -/

@[simp] theorem State.setQp_now (s : State) (k : Nat) (v : Qp) : (s.setQp k v).now = s.now := rfl
@[simp] theorem State.setQp_tideOff (s : State) (k : Nat) (v : Qp) : (s.setQp k v).tideOff = s.tideOff := rfl
@[simp] theorem State.setQp_fresh (s : State) (k : Nat) (v : Qp) : (s.setQp k v).fresh = s.fresh := rfl
@[simp] theorem State.setQp_regs (s : State) (k : Nat) (v : Qp) : (s.setQp k v).regs = s.regs := rfl
@[simp] theorem State.setQp_shadows (s : State) (k : Nat) (v : Qp) : (s.setQp k v).shadows = s.shadows := rfl
@[simp] theorem State.setQp_captured (s : State) (k : Nat) (v : Qp) : (s.setQp k v).captured = s.captured := rfl
@[simp] theorem State.setQp_bound (s : State) (k : Nat) (v : Qp) : (s.setQp k v).bound = s.bound := rfl
@[simp] theorem State.setQp_strands (s : State) (k : Nat) (v : Qp) : (s.setQp k v).strands = s.strands := rfl
@[simp] theorem State.setQp_pins (s : State) (k : Nat) (v : Qp) : (s.setQp k v).pins = s.pins := rfl
@[simp] theorem State.setQp_pmus (s : State) (k : Nat) (v : Qp) : (s.setQp k v).pmus = s.pmus := rfl
@[simp] theorem State.setQp_convs (s : State) (k : Nat) (v : Qp) : (s.setQp k v).convs = s.convs := rfl
@[simp] theorem State.setQp_tdcs (s : State) (k : Nat) (v : Qp) : (s.setQp k v).tdcs = s.tdcs := rfl
@[simp] theorem State.setQp_acqs (s : State) (k : Nat) (v : Qp) : (s.setQp k v).acqs = s.acqs := rfl
@[simp] theorem State.setQp_calRuns (s : State) (k : Nat) (v : Qp) : (s.setQp k v).calRuns = s.calRuns := rfl
@[simp] theorem State.setQp_calZero (s : State) (k : Nat) (v : Qp) : (s.setQp k v).calZero = s.calZero := rfl
@[simp] theorem State.setQp_host (s : State) (k : Nat) (v : Qp) : (s.setQp k v).host = s.host := rfl
@[simp] theorem State.setQp_ring (s : State) (k : Nat) (v : Qp) : (s.setQp k v).ring = s.ring := rfl
@[simp] theorem State.setQp_tide (s : State) (k : Nat) (v : Qp) : (s.setQp k v).tide = s.tide := rfl
@[simp] theorem State.setQp_trips (s : State) (k : Nat) (v : Qp) : (s.setQp k v).trips = s.trips := rfl
@[simp] theorem State.setQp_mem (s : State) (k : Nat) (v : Qp) : (s.setQp k v).mem = s.mem := rfl
@[simp] theorem State.setQp_failPath (s : State) (k : Nat) (v : Qp) : (s.setQp k v).failPath = s.failPath := rfl
@[simp] theorem State.setQp_splice (s : State) (k : Nat) (v : Qp) : (s.setQp k v).splice = s.splice := rfl
@[simp] theorem State.setQp_place (s : State) (k : Nat) (v : Qp) : (s.setQp k v).place = s.place := rfl
@[simp] theorem State.setQp_forced (s : State) (k : Nat) (v : Qp) : (s.setQp k v).forced = s.forced := rfl
@[simp] theorem State.setQp_faultQ (s : State) (k : Nat) (v : Qp) : (s.setQp k v).faultQ = s.faultQ := rfl
@[simp] theorem State.setQp_evt (s : State) (k : Nat) (v : Qp) : (s.setQp k v).evt = s.evt := rfl
@[simp] theorem State.setQp_power (s : State) (k : Nat) (v : Qp) : (s.setQp k v).power = s.power := rfl
@[simp] theorem State.setQp_faults (s : State) (k : Nat) (v : Qp) : (s.setQp k v).faults = s.faults := rfl
@[simp] theorem State.setQp_thermal (s : State) (k : Nat) (v : Qp) : (s.setQp k v).thermal = s.thermal := rfl
@[simp] theorem State.setQp_ctl (s : State) (k : Nat) (v : Qp) : (s.setQp k v).ctl = s.ctl := rfl
@[simp] theorem State.setQp_store (s : State) (k : Nat) (v : Qp) : (s.setQp k v).store = s.store := rfl
@[simp] theorem State.setQp_counts (s : State) (k : Nat) (v : Qp) : (s.setQp k v).counts = s.counts := rfl
@[simp] theorem State.setQp_sent (s : State) (k : Nat) (v : Qp) : (s.setQp k v).sent = s.sent := rfl
@[simp] theorem State.setQp_pending (s : State) (k : Nat) (v : Qp) : (s.setQp k v).pending = s.pending := rfl

/-! ### State.modQp -/

@[simp] theorem State.modQp_now (s : State) (k : Nat) (f : Qp → Qp) : (s.modQp k f).now = s.now := rfl
@[simp] theorem State.modQp_tideOff (s : State) (k : Nat) (f : Qp → Qp) : (s.modQp k f).tideOff = s.tideOff := rfl
@[simp] theorem State.modQp_fresh (s : State) (k : Nat) (f : Qp → Qp) : (s.modQp k f).fresh = s.fresh := rfl
@[simp] theorem State.modQp_regs (s : State) (k : Nat) (f : Qp → Qp) : (s.modQp k f).regs = s.regs := rfl
@[simp] theorem State.modQp_shadows (s : State) (k : Nat) (f : Qp → Qp) : (s.modQp k f).shadows = s.shadows := rfl
@[simp] theorem State.modQp_captured (s : State) (k : Nat) (f : Qp → Qp) : (s.modQp k f).captured = s.captured := rfl
@[simp] theorem State.modQp_bound (s : State) (k : Nat) (f : Qp → Qp) : (s.modQp k f).bound = s.bound := rfl
@[simp] theorem State.modQp_strands (s : State) (k : Nat) (f : Qp → Qp) : (s.modQp k f).strands = s.strands := rfl
@[simp] theorem State.modQp_pins (s : State) (k : Nat) (f : Qp → Qp) : (s.modQp k f).pins = s.pins := rfl
@[simp] theorem State.modQp_pmus (s : State) (k : Nat) (f : Qp → Qp) : (s.modQp k f).pmus = s.pmus := rfl
@[simp] theorem State.modQp_convs (s : State) (k : Nat) (f : Qp → Qp) : (s.modQp k f).convs = s.convs := rfl
@[simp] theorem State.modQp_tdcs (s : State) (k : Nat) (f : Qp → Qp) : (s.modQp k f).tdcs = s.tdcs := rfl
@[simp] theorem State.modQp_acqs (s : State) (k : Nat) (f : Qp → Qp) : (s.modQp k f).acqs = s.acqs := rfl
@[simp] theorem State.modQp_calRuns (s : State) (k : Nat) (f : Qp → Qp) : (s.modQp k f).calRuns = s.calRuns := rfl
@[simp] theorem State.modQp_calZero (s : State) (k : Nat) (f : Qp → Qp) : (s.modQp k f).calZero = s.calZero := rfl
@[simp] theorem State.modQp_host (s : State) (k : Nat) (f : Qp → Qp) : (s.modQp k f).host = s.host := rfl
@[simp] theorem State.modQp_ring (s : State) (k : Nat) (f : Qp → Qp) : (s.modQp k f).ring = s.ring := rfl
@[simp] theorem State.modQp_tide (s : State) (k : Nat) (f : Qp → Qp) : (s.modQp k f).tide = s.tide := rfl
@[simp] theorem State.modQp_trips (s : State) (k : Nat) (f : Qp → Qp) : (s.modQp k f).trips = s.trips := rfl
@[simp] theorem State.modQp_mem (s : State) (k : Nat) (f : Qp → Qp) : (s.modQp k f).mem = s.mem := rfl
@[simp] theorem State.modQp_failPath (s : State) (k : Nat) (f : Qp → Qp) : (s.modQp k f).failPath = s.failPath := rfl
@[simp] theorem State.modQp_splice (s : State) (k : Nat) (f : Qp → Qp) : (s.modQp k f).splice = s.splice := rfl
@[simp] theorem State.modQp_place (s : State) (k : Nat) (f : Qp → Qp) : (s.modQp k f).place = s.place := rfl
@[simp] theorem State.modQp_forced (s : State) (k : Nat) (f : Qp → Qp) : (s.modQp k f).forced = s.forced := rfl
@[simp] theorem State.modQp_faultQ (s : State) (k : Nat) (f : Qp → Qp) : (s.modQp k f).faultQ = s.faultQ := rfl
@[simp] theorem State.modQp_evt (s : State) (k : Nat) (f : Qp → Qp) : (s.modQp k f).evt = s.evt := rfl
@[simp] theorem State.modQp_power (s : State) (k : Nat) (f : Qp → Qp) : (s.modQp k f).power = s.power := rfl
@[simp] theorem State.modQp_faults (s : State) (k : Nat) (f : Qp → Qp) : (s.modQp k f).faults = s.faults := rfl
@[simp] theorem State.modQp_thermal (s : State) (k : Nat) (f : Qp → Qp) : (s.modQp k f).thermal = s.thermal := rfl
@[simp] theorem State.modQp_ctl (s : State) (k : Nat) (f : Qp → Qp) : (s.modQp k f).ctl = s.ctl := rfl
@[simp] theorem State.modQp_store (s : State) (k : Nat) (f : Qp → Qp) : (s.modQp k f).store = s.store := rfl
@[simp] theorem State.modQp_counts (s : State) (k : Nat) (f : Qp → Qp) : (s.modQp k f).counts = s.counts := rfl
@[simp] theorem State.modQp_sent (s : State) (k : Nat) (f : Qp → Qp) : (s.modQp k f).sent = s.sent := rfl
@[simp] theorem State.modQp_pending (s : State) (k : Nat) (f : Qp → Qp) : (s.modQp k f).pending = s.pending := rfl

/-! ### State.fault -/

@[simp] theorem State.fault_now (s : State) (source bit addr : Nat) : (s.fault source bit addr).now = s.now := rfl
@[simp] theorem State.fault_tideOff (s : State) (source bit addr : Nat) : (s.fault source bit addr).tideOff = s.tideOff := rfl
@[simp] theorem State.fault_fresh (s : State) (source bit addr : Nat) : (s.fault source bit addr).fresh = s.fresh := rfl
@[simp] theorem State.fault_regs (s : State) (source bit addr : Nat) : (s.fault source bit addr).regs = s.regs := rfl
@[simp] theorem State.fault_shadows (s : State) (source bit addr : Nat) : (s.fault source bit addr).shadows = s.shadows := rfl
@[simp] theorem State.fault_captured (s : State) (source bit addr : Nat) : (s.fault source bit addr).captured = s.captured := rfl
@[simp] theorem State.fault_bound (s : State) (source bit addr : Nat) : (s.fault source bit addr).bound = s.bound := rfl
@[simp] theorem State.fault_strands (s : State) (source bit addr : Nat) : (s.fault source bit addr).strands = s.strands := rfl
@[simp] theorem State.fault_pins (s : State) (source bit addr : Nat) : (s.fault source bit addr).pins = s.pins := rfl
@[simp] theorem State.fault_pmus (s : State) (source bit addr : Nat) : (s.fault source bit addr).pmus = s.pmus := rfl
@[simp] theorem State.fault_convs (s : State) (source bit addr : Nat) : (s.fault source bit addr).convs = s.convs := rfl
@[simp] theorem State.fault_tdcs (s : State) (source bit addr : Nat) : (s.fault source bit addr).tdcs = s.tdcs := rfl
@[simp] theorem State.fault_acqs (s : State) (source bit addr : Nat) : (s.fault source bit addr).acqs = s.acqs := rfl
@[simp] theorem State.fault_calRuns (s : State) (source bit addr : Nat) : (s.fault source bit addr).calRuns = s.calRuns := rfl
@[simp] theorem State.fault_calZero (s : State) (source bit addr : Nat) : (s.fault source bit addr).calZero = s.calZero := rfl
@[simp] theorem State.fault_qps (s : State) (source bit addr : Nat) : (s.fault source bit addr).qps = s.qps := rfl
@[simp] theorem State.fault_host (s : State) (source bit addr : Nat) : (s.fault source bit addr).host = s.host := rfl
@[simp] theorem State.fault_ring (s : State) (source bit addr : Nat) : (s.fault source bit addr).ring = s.ring := rfl
@[simp] theorem State.fault_tide (s : State) (source bit addr : Nat) : (s.fault source bit addr).tide = s.tide := rfl
@[simp] theorem State.fault_trips (s : State) (source bit addr : Nat) : (s.fault source bit addr).trips = s.trips := rfl
@[simp] theorem State.fault_mem (s : State) (source bit addr : Nat) : (s.fault source bit addr).mem = s.mem := rfl
@[simp] theorem State.fault_failPath (s : State) (source bit addr : Nat) : (s.fault source bit addr).failPath = s.failPath := rfl
@[simp] theorem State.fault_splice (s : State) (source bit addr : Nat) : (s.fault source bit addr).splice = s.splice := rfl
@[simp] theorem State.fault_place (s : State) (source bit addr : Nat) : (s.fault source bit addr).place = s.place := rfl
@[simp] theorem State.fault_forced (s : State) (source bit addr : Nat) : (s.fault source bit addr).forced = s.forced := rfl
@[simp] theorem State.fault_evt (s : State) (source bit addr : Nat) : (s.fault source bit addr).evt = s.evt := rfl
@[simp] theorem State.fault_power (s : State) (source bit addr : Nat) : (s.fault source bit addr).power = s.power := rfl
@[simp] theorem State.fault_faults (s : State) (source bit addr : Nat) : (s.fault source bit addr).faults = s.faults := rfl
@[simp] theorem State.fault_thermal (s : State) (source bit addr : Nat) : (s.fault source bit addr).thermal = s.thermal := rfl
@[simp] theorem State.fault_ctl (s : State) (source bit addr : Nat) : (s.fault source bit addr).ctl = s.ctl := rfl
@[simp] theorem State.fault_store (s : State) (source bit addr : Nat) : (s.fault source bit addr).store = s.store := rfl
@[simp] theorem State.fault_counts (s : State) (source bit addr : Nat) : (s.fault source bit addr).counts = s.counts := rfl
@[simp] theorem State.fault_sent (s : State) (source bit addr : Nat) : (s.fault source bit addr).sent = s.sent := rfl
@[simp] theorem State.fault_pending (s : State) (source bit addr : Nat) : (s.fault source bit addr).pending = s.pending := rfl

/-! ### State.writeShadow -/

@[simp] theorem State.writeShadow_now (s : State) (a : Nat) (v : Word) : (s.writeShadow a v).now = s.now := rfl
@[simp] theorem State.writeShadow_tideOff (s : State) (a : Nat) (v : Word) : (s.writeShadow a v).tideOff = s.tideOff := rfl
@[simp] theorem State.writeShadow_fresh (s : State) (a : Nat) (v : Word) : (s.writeShadow a v).fresh = s.fresh := rfl
@[simp] theorem State.writeShadow_regs (s : State) (a : Nat) (v : Word) : (s.writeShadow a v).regs = s.regs := rfl
@[simp] theorem State.writeShadow_captured (s : State) (a : Nat) (v : Word) : (s.writeShadow a v).captured = s.captured := rfl
@[simp] theorem State.writeShadow_bound (s : State) (a : Nat) (v : Word) : (s.writeShadow a v).bound = s.bound := rfl
@[simp] theorem State.writeShadow_strands (s : State) (a : Nat) (v : Word) : (s.writeShadow a v).strands = s.strands := rfl
@[simp] theorem State.writeShadow_pins (s : State) (a : Nat) (v : Word) : (s.writeShadow a v).pins = s.pins := rfl
@[simp] theorem State.writeShadow_pmus (s : State) (a : Nat) (v : Word) : (s.writeShadow a v).pmus = s.pmus := rfl
@[simp] theorem State.writeShadow_convs (s : State) (a : Nat) (v : Word) : (s.writeShadow a v).convs = s.convs := rfl
@[simp] theorem State.writeShadow_tdcs (s : State) (a : Nat) (v : Word) : (s.writeShadow a v).tdcs = s.tdcs := rfl
@[simp] theorem State.writeShadow_acqs (s : State) (a : Nat) (v : Word) : (s.writeShadow a v).acqs = s.acqs := rfl
@[simp] theorem State.writeShadow_calRuns (s : State) (a : Nat) (v : Word) : (s.writeShadow a v).calRuns = s.calRuns := rfl
@[simp] theorem State.writeShadow_calZero (s : State) (a : Nat) (v : Word) : (s.writeShadow a v).calZero = s.calZero := rfl
@[simp] theorem State.writeShadow_qps (s : State) (a : Nat) (v : Word) : (s.writeShadow a v).qps = s.qps := rfl
@[simp] theorem State.writeShadow_host (s : State) (a : Nat) (v : Word) : (s.writeShadow a v).host = s.host := rfl
@[simp] theorem State.writeShadow_ring (s : State) (a : Nat) (v : Word) : (s.writeShadow a v).ring = s.ring := rfl
@[simp] theorem State.writeShadow_tide (s : State) (a : Nat) (v : Word) : (s.writeShadow a v).tide = s.tide := rfl
@[simp] theorem State.writeShadow_trips (s : State) (a : Nat) (v : Word) : (s.writeShadow a v).trips = s.trips := rfl
@[simp] theorem State.writeShadow_mem (s : State) (a : Nat) (v : Word) : (s.writeShadow a v).mem = s.mem := rfl
@[simp] theorem State.writeShadow_failPath (s : State) (a : Nat) (v : Word) : (s.writeShadow a v).failPath = s.failPath := rfl
@[simp] theorem State.writeShadow_splice (s : State) (a : Nat) (v : Word) : (s.writeShadow a v).splice = s.splice := rfl
@[simp] theorem State.writeShadow_place (s : State) (a : Nat) (v : Word) : (s.writeShadow a v).place = s.place := rfl
@[simp] theorem State.writeShadow_forced (s : State) (a : Nat) (v : Word) : (s.writeShadow a v).forced = s.forced := rfl
@[simp] theorem State.writeShadow_faultQ (s : State) (a : Nat) (v : Word) : (s.writeShadow a v).faultQ = s.faultQ := rfl
@[simp] theorem State.writeShadow_evt (s : State) (a : Nat) (v : Word) : (s.writeShadow a v).evt = s.evt := rfl
@[simp] theorem State.writeShadow_power (s : State) (a : Nat) (v : Word) : (s.writeShadow a v).power = s.power := rfl
@[simp] theorem State.writeShadow_faults (s : State) (a : Nat) (v : Word) : (s.writeShadow a v).faults = s.faults := rfl
@[simp] theorem State.writeShadow_thermal (s : State) (a : Nat) (v : Word) : (s.writeShadow a v).thermal = s.thermal := rfl
@[simp] theorem State.writeShadow_ctl (s : State) (a : Nat) (v : Word) : (s.writeShadow a v).ctl = s.ctl := rfl
@[simp] theorem State.writeShadow_store (s : State) (a : Nat) (v : Word) : (s.writeShadow a v).store = s.store := rfl
@[simp] theorem State.writeShadow_counts (s : State) (a : Nat) (v : Word) : (s.writeShadow a v).counts = s.counts := rfl
@[simp] theorem State.writeShadow_sent (s : State) (a : Nat) (v : Word) : (s.writeShadow a v).sent = s.sent := rfl
@[simp] theorem State.writeShadow_pending (s : State) (a : Nat) (v : Word) : (s.writeShadow a v).pending = s.pending := rfl

/-! ### State.advanceTo -/

@[simp] theorem State.advanceTo_tideOff (s : State) (t : Nat) : (s.advanceTo t).tideOff = s.tideOff := rfl
@[simp] theorem State.advanceTo_fresh (s : State) (t : Nat) : (s.advanceTo t).fresh = s.fresh := rfl
@[simp] theorem State.advanceTo_regs (s : State) (t : Nat) : (s.advanceTo t).regs = s.regs := rfl
@[simp] theorem State.advanceTo_shadows (s : State) (t : Nat) : (s.advanceTo t).shadows = s.shadows := rfl
@[simp] theorem State.advanceTo_captured (s : State) (t : Nat) : (s.advanceTo t).captured = s.captured := rfl
@[simp] theorem State.advanceTo_bound (s : State) (t : Nat) : (s.advanceTo t).bound = s.bound := rfl
@[simp] theorem State.advanceTo_strands (s : State) (t : Nat) : (s.advanceTo t).strands = s.strands := rfl
@[simp] theorem State.advanceTo_pins (s : State) (t : Nat) : (s.advanceTo t).pins = s.pins := rfl
@[simp] theorem State.advanceTo_pmus (s : State) (t : Nat) : (s.advanceTo t).pmus = s.pmus := rfl
@[simp] theorem State.advanceTo_convs (s : State) (t : Nat) : (s.advanceTo t).convs = s.convs := rfl
@[simp] theorem State.advanceTo_tdcs (s : State) (t : Nat) : (s.advanceTo t).tdcs = s.tdcs := rfl
@[simp] theorem State.advanceTo_acqs (s : State) (t : Nat) : (s.advanceTo t).acqs = s.acqs := rfl
@[simp] theorem State.advanceTo_calRuns (s : State) (t : Nat) : (s.advanceTo t).calRuns = s.calRuns := rfl
@[simp] theorem State.advanceTo_calZero (s : State) (t : Nat) : (s.advanceTo t).calZero = s.calZero := rfl
@[simp] theorem State.advanceTo_qps (s : State) (t : Nat) : (s.advanceTo t).qps = s.qps := rfl
@[simp] theorem State.advanceTo_host (s : State) (t : Nat) : (s.advanceTo t).host = s.host := rfl
@[simp] theorem State.advanceTo_ring (s : State) (t : Nat) : (s.advanceTo t).ring = s.ring := rfl
@[simp] theorem State.advanceTo_tide (s : State) (t : Nat) : (s.advanceTo t).tide = s.tide := rfl
@[simp] theorem State.advanceTo_trips (s : State) (t : Nat) : (s.advanceTo t).trips = s.trips := rfl
@[simp] theorem State.advanceTo_mem (s : State) (t : Nat) : (s.advanceTo t).mem = s.mem := rfl
@[simp] theorem State.advanceTo_failPath (s : State) (t : Nat) : (s.advanceTo t).failPath = s.failPath := rfl
@[simp] theorem State.advanceTo_splice (s : State) (t : Nat) : (s.advanceTo t).splice = s.splice := rfl
@[simp] theorem State.advanceTo_place (s : State) (t : Nat) : (s.advanceTo t).place = s.place := rfl
@[simp] theorem State.advanceTo_forced (s : State) (t : Nat) : (s.advanceTo t).forced = s.forced := rfl
@[simp] theorem State.advanceTo_faultQ (s : State) (t : Nat) : (s.advanceTo t).faultQ = s.faultQ := rfl
@[simp] theorem State.advanceTo_evt (s : State) (t : Nat) : (s.advanceTo t).evt = s.evt := rfl
@[simp] theorem State.advanceTo_power (s : State) (t : Nat) : (s.advanceTo t).power = s.power := rfl
@[simp] theorem State.advanceTo_faults (s : State) (t : Nat) : (s.advanceTo t).faults = s.faults := rfl
@[simp] theorem State.advanceTo_thermal (s : State) (t : Nat) : (s.advanceTo t).thermal = s.thermal := rfl
@[simp] theorem State.advanceTo_ctl (s : State) (t : Nat) : (s.advanceTo t).ctl = s.ctl := rfl
@[simp] theorem State.advanceTo_store (s : State) (t : Nat) : (s.advanceTo t).store = s.store := rfl
@[simp] theorem State.advanceTo_counts (s : State) (t : Nat) : (s.advanceTo t).counts = s.counts := rfl
@[simp] theorem State.advanceTo_sent (s : State) (t : Nat) : (s.advanceTo t).sent = s.sent := rfl
@[simp] theorem State.advanceTo_pending (s : State) (t : Nat) : (s.advanceTo t).pending = s.pending := rfl

/-! ### State.send -/

@[simp] theorem State.send_now (s : State) (o : Output) : (s.send o).now = s.now := rfl
@[simp] theorem State.send_tideOff (s : State) (o : Output) : (s.send o).tideOff = s.tideOff := rfl
@[simp] theorem State.send_fresh (s : State) (o : Output) : (s.send o).fresh = s.fresh := rfl
@[simp] theorem State.send_regs (s : State) (o : Output) : (s.send o).regs = s.regs := rfl
@[simp] theorem State.send_shadows (s : State) (o : Output) : (s.send o).shadows = s.shadows := rfl
@[simp] theorem State.send_captured (s : State) (o : Output) : (s.send o).captured = s.captured := rfl
@[simp] theorem State.send_bound (s : State) (o : Output) : (s.send o).bound = s.bound := rfl
@[simp] theorem State.send_strands (s : State) (o : Output) : (s.send o).strands = s.strands := rfl
@[simp] theorem State.send_pins (s : State) (o : Output) : (s.send o).pins = s.pins := rfl
@[simp] theorem State.send_pmus (s : State) (o : Output) : (s.send o).pmus = s.pmus := rfl
@[simp] theorem State.send_convs (s : State) (o : Output) : (s.send o).convs = s.convs := rfl
@[simp] theorem State.send_tdcs (s : State) (o : Output) : (s.send o).tdcs = s.tdcs := rfl
@[simp] theorem State.send_acqs (s : State) (o : Output) : (s.send o).acqs = s.acqs := rfl
@[simp] theorem State.send_calRuns (s : State) (o : Output) : (s.send o).calRuns = s.calRuns := rfl
@[simp] theorem State.send_calZero (s : State) (o : Output) : (s.send o).calZero = s.calZero := rfl
@[simp] theorem State.send_qps (s : State) (o : Output) : (s.send o).qps = s.qps := rfl
@[simp] theorem State.send_host (s : State) (o : Output) : (s.send o).host = s.host := rfl
@[simp] theorem State.send_ring (s : State) (o : Output) : (s.send o).ring = s.ring := rfl
@[simp] theorem State.send_tide (s : State) (o : Output) : (s.send o).tide = s.tide := rfl
@[simp] theorem State.send_trips (s : State) (o : Output) : (s.send o).trips = s.trips := rfl
@[simp] theorem State.send_mem (s : State) (o : Output) : (s.send o).mem = s.mem := rfl
@[simp] theorem State.send_failPath (s : State) (o : Output) : (s.send o).failPath = s.failPath := rfl
@[simp] theorem State.send_splice (s : State) (o : Output) : (s.send o).splice = s.splice := rfl
@[simp] theorem State.send_place (s : State) (o : Output) : (s.send o).place = s.place := rfl
@[simp] theorem State.send_forced (s : State) (o : Output) : (s.send o).forced = s.forced := rfl
@[simp] theorem State.send_faultQ (s : State) (o : Output) : (s.send o).faultQ = s.faultQ := rfl
@[simp] theorem State.send_evt (s : State) (o : Output) : (s.send o).evt = s.evt := rfl
@[simp] theorem State.send_power (s : State) (o : Output) : (s.send o).power = s.power := rfl
@[simp] theorem State.send_faults (s : State) (o : Output) : (s.send o).faults = s.faults := rfl
@[simp] theorem State.send_thermal (s : State) (o : Output) : (s.send o).thermal = s.thermal := rfl
@[simp] theorem State.send_ctl (s : State) (o : Output) : (s.send o).ctl = s.ctl := rfl
@[simp] theorem State.send_store (s : State) (o : Output) : (s.send o).store = s.store := rfl
@[simp] theorem State.send_counts (s : State) (o : Output) : (s.send o).counts = s.counts := rfl
@[simp] theorem State.send_pending (s : State) (o : Output) : (s.send o).pending = s.pending := rfl

/-! ### State.withQueue -/

@[simp] theorem State.withQueue_now (s : State) (l : List Instr) : (s.withQueue l).now = s.now := rfl
@[simp] theorem State.withQueue_tideOff (s : State) (l : List Instr) : (s.withQueue l).tideOff = s.tideOff := rfl
@[simp] theorem State.withQueue_fresh (s : State) (l : List Instr) : (s.withQueue l).fresh = s.fresh := rfl
@[simp] theorem State.withQueue_regs (s : State) (l : List Instr) : (s.withQueue l).regs = s.regs := rfl
@[simp] theorem State.withQueue_shadows (s : State) (l : List Instr) : (s.withQueue l).shadows = s.shadows := rfl
@[simp] theorem State.withQueue_captured (s : State) (l : List Instr) : (s.withQueue l).captured = s.captured := rfl
@[simp] theorem State.withQueue_bound (s : State) (l : List Instr) : (s.withQueue l).bound = s.bound := rfl
@[simp] theorem State.withQueue_strands (s : State) (l : List Instr) : (s.withQueue l).strands = s.strands := rfl
@[simp] theorem State.withQueue_pins (s : State) (l : List Instr) : (s.withQueue l).pins = s.pins := rfl
@[simp] theorem State.withQueue_pmus (s : State) (l : List Instr) : (s.withQueue l).pmus = s.pmus := rfl
@[simp] theorem State.withQueue_convs (s : State) (l : List Instr) : (s.withQueue l).convs = s.convs := rfl
@[simp] theorem State.withQueue_tdcs (s : State) (l : List Instr) : (s.withQueue l).tdcs = s.tdcs := rfl
@[simp] theorem State.withQueue_acqs (s : State) (l : List Instr) : (s.withQueue l).acqs = s.acqs := rfl
@[simp] theorem State.withQueue_calRuns (s : State) (l : List Instr) : (s.withQueue l).calRuns = s.calRuns := rfl
@[simp] theorem State.withQueue_calZero (s : State) (l : List Instr) : (s.withQueue l).calZero = s.calZero := rfl
@[simp] theorem State.withQueue_qps (s : State) (l : List Instr) : (s.withQueue l).qps = s.qps := rfl
@[simp] theorem State.withQueue_host (s : State) (l : List Instr) : (s.withQueue l).host = s.host := rfl
@[simp] theorem State.withQueue_ring (s : State) (l : List Instr) : (s.withQueue l).ring = s.ring := rfl
@[simp] theorem State.withQueue_tide (s : State) (l : List Instr) : (s.withQueue l).tide = s.tide := rfl
@[simp] theorem State.withQueue_trips (s : State) (l : List Instr) : (s.withQueue l).trips = s.trips := rfl
@[simp] theorem State.withQueue_mem (s : State) (l : List Instr) : (s.withQueue l).mem = s.mem := rfl
@[simp] theorem State.withQueue_failPath (s : State) (l : List Instr) : (s.withQueue l).failPath = s.failPath := rfl
@[simp] theorem State.withQueue_splice (s : State) (l : List Instr) : (s.withQueue l).splice = s.splice := rfl
@[simp] theorem State.withQueue_place (s : State) (l : List Instr) : (s.withQueue l).place = s.place := rfl
@[simp] theorem State.withQueue_forced (s : State) (l : List Instr) : (s.withQueue l).forced = s.forced := rfl
@[simp] theorem State.withQueue_faultQ (s : State) (l : List Instr) : (s.withQueue l).faultQ = s.faultQ := rfl
@[simp] theorem State.withQueue_evt (s : State) (l : List Instr) : (s.withQueue l).evt = s.evt := rfl
@[simp] theorem State.withQueue_power (s : State) (l : List Instr) : (s.withQueue l).power = s.power := rfl
@[simp] theorem State.withQueue_faults (s : State) (l : List Instr) : (s.withQueue l).faults = s.faults := rfl
@[simp] theorem State.withQueue_thermal (s : State) (l : List Instr) : (s.withQueue l).thermal = s.thermal := rfl
@[simp] theorem State.withQueue_ctl (s : State) (l : List Instr) : (s.withQueue l).ctl = s.ctl := rfl
@[simp] theorem State.withQueue_store (s : State) (l : List Instr) : (s.withQueue l).store = s.store := rfl
@[simp] theorem State.withQueue_counts (s : State) (l : List Instr) : (s.withQueue l).counts = s.counts := rfl
@[simp] theorem State.withQueue_sent (s : State) (l : List Instr) : (s.withQueue l).sent = s.sent := rfl

/-! ### State.idle -/

@[simp] theorem State.idle_tideOff (s : State) : s.idle.tideOff = s.tideOff := rfl
@[simp] theorem State.idle_fresh (s : State) : s.idle.fresh = s.fresh := rfl
@[simp] theorem State.idle_regs (s : State) : s.idle.regs = s.regs := rfl
@[simp] theorem State.idle_shadows (s : State) : s.idle.shadows = s.shadows := rfl
@[simp] theorem State.idle_captured (s : State) : s.idle.captured = s.captured := rfl
@[simp] theorem State.idle_bound (s : State) : s.idle.bound = s.bound := rfl
@[simp] theorem State.idle_strands (s : State) : s.idle.strands = s.strands := rfl
@[simp] theorem State.idle_pins (s : State) : s.idle.pins = s.pins := rfl
@[simp] theorem State.idle_pmus (s : State) : s.idle.pmus = s.pmus := rfl
@[simp] theorem State.idle_convs (s : State) : s.idle.convs = s.convs := rfl
@[simp] theorem State.idle_tdcs (s : State) : s.idle.tdcs = s.tdcs := rfl
@[simp] theorem State.idle_acqs (s : State) : s.idle.acqs = s.acqs := rfl
@[simp] theorem State.idle_calRuns (s : State) : s.idle.calRuns = s.calRuns := rfl
@[simp] theorem State.idle_calZero (s : State) : s.idle.calZero = s.calZero := rfl
@[simp] theorem State.idle_qps (s : State) : s.idle.qps = s.qps := rfl
@[simp] theorem State.idle_host (s : State) : s.idle.host = s.host := rfl
@[simp] theorem State.idle_ring (s : State) : s.idle.ring = s.ring := rfl
@[simp] theorem State.idle_tide (s : State) : s.idle.tide = s.tide := rfl
@[simp] theorem State.idle_trips (s : State) : s.idle.trips = s.trips := rfl
@[simp] theorem State.idle_mem (s : State) : s.idle.mem = s.mem := rfl
@[simp] theorem State.idle_failPath (s : State) : s.idle.failPath = s.failPath := rfl
@[simp] theorem State.idle_splice (s : State) : s.idle.splice = s.splice := rfl
@[simp] theorem State.idle_place (s : State) : s.idle.place = s.place := rfl
@[simp] theorem State.idle_forced (s : State) : s.idle.forced = s.forced := rfl
@[simp] theorem State.idle_faultQ (s : State) : s.idle.faultQ = s.faultQ := rfl
@[simp] theorem State.idle_evt (s : State) : s.idle.evt = s.evt := rfl
@[simp] theorem State.idle_power (s : State) : s.idle.power = s.power := rfl
@[simp] theorem State.idle_faults (s : State) : s.idle.faults = s.faults := rfl
@[simp] theorem State.idle_thermal (s : State) : s.idle.thermal = s.thermal := rfl
@[simp] theorem State.idle_ctl (s : State) : s.idle.ctl = s.ctl := rfl
@[simp] theorem State.idle_store (s : State) : s.idle.store = s.store := rfl
@[simp] theorem State.idle_counts (s : State) : s.idle.counts = s.counts := rfl
@[simp] theorem State.idle_sent (s : State) : s.idle.sent = s.sent := rfl
@[simp] theorem State.idle_pending (s : State) : s.idle.pending = s.pending := rfl

/-! ### Read back -/

@[simp] theorem State.strand_set (s : State) (k : Nat) (v : Strand) : (s.setStrand k v).strand k = v := Store.getD_putD_same _ _ _ _
theorem State.strand_set_other (s : State) {k j : Nat} (v : Strand) (h : j ≠ k) : (s.setStrand k v).strand j = s.strand j :=
  Store.getD_putD_other _ _ _ _ h
@[simp] theorem State.strand_mod (s : State) (k : Nat) (f : Strand → Strand) : (s.modStrand k f).strand k = f (s.strand k) := Store.getD_putD_same _ _ _ _
theorem State.strand_mod_other (s : State) {k j : Nat} (f : Strand → Strand) (h : j ≠ k) : (s.modStrand k f).strand j = s.strand j :=
  Store.getD_putD_other _ _ _ _ h
@[simp] theorem State.pin_set (s : State) (k : Nat) (v : Pin) : (s.setPin k v).pin k = v := Store.getD_putD_same _ _ _ _
theorem State.pin_set_other (s : State) {k j : Nat} (v : Pin) (h : j ≠ k) : (s.setPin k v).pin j = s.pin j :=
  Store.getD_putD_other _ _ _ _ h
@[simp] theorem State.pin_mod (s : State) (k : Nat) (f : Pin → Pin) : (s.modPin k f).pin k = f (s.pin k) := Store.getD_putD_same _ _ _ _
theorem State.pin_mod_other (s : State) {k j : Nat} (f : Pin → Pin) (h : j ≠ k) : (s.modPin k f).pin j = s.pin j :=
  Store.getD_putD_other _ _ _ _ h
@[simp] theorem State.pmu_set (s : State) (k : Nat) (v : Pmu) : (s.setPmu k v).pmu k = v := Store.getD_putD_same _ _ _ _
theorem State.pmu_set_other (s : State) {k j : Nat} (v : Pmu) (h : j ≠ k) : (s.setPmu k v).pmu j = s.pmu j :=
  Store.getD_putD_other _ _ _ _ h
@[simp] theorem State.pmu_mod (s : State) (k : Nat) (f : Pmu → Pmu) : (s.modPmu k f).pmu k = f (s.pmu k) := Store.getD_putD_same _ _ _ _
theorem State.pmu_mod_other (s : State) {k j : Nat} (f : Pmu → Pmu) (h : j ≠ k) : (s.modPmu k f).pmu j = s.pmu j :=
  Store.getD_putD_other _ _ _ _ h
@[simp] theorem State.conv_set (s : State) (k : Nat) (v : Conv) : (s.setConv k v).conv k = v := Store.getD_putD_same _ _ _ _
theorem State.conv_set_other (s : State) {k j : Nat} (v : Conv) (h : j ≠ k) : (s.setConv k v).conv j = s.conv j :=
  Store.getD_putD_other _ _ _ _ h
@[simp] theorem State.conv_mod (s : State) (k : Nat) (f : Conv → Conv) : (s.modConv k f).conv k = f (s.conv k) := Store.getD_putD_same _ _ _ _
theorem State.conv_mod_other (s : State) {k j : Nat} (f : Conv → Conv) (h : j ≠ k) : (s.modConv k f).conv j = s.conv j :=
  Store.getD_putD_other _ _ _ _ h
@[simp] theorem State.tdc_set (s : State) (k : Nat) (v : Tdc) : (s.setTdc k v).tdc k = v := Store.getD_putD_same _ _ _ _
theorem State.tdc_set_other (s : State) {k j : Nat} (v : Tdc) (h : j ≠ k) : (s.setTdc k v).tdc j = s.tdc j :=
  Store.getD_putD_other _ _ _ _ h
@[simp] theorem State.tdc_mod (s : State) (k : Nat) (f : Tdc → Tdc) : (s.modTdc k f).tdc k = f (s.tdc k) := Store.getD_putD_same _ _ _ _
theorem State.tdc_mod_other (s : State) {k j : Nat} (f : Tdc → Tdc) (h : j ≠ k) : (s.modTdc k f).tdc j = s.tdc j :=
  Store.getD_putD_other _ _ _ _ h
@[simp] theorem State.acq_set (s : State) (k : Nat) (v : Acq) : (s.setAcq k v).acq k = v := Store.getD_putD_same _ _ _ _
theorem State.acq_set_other (s : State) {k j : Nat} (v : Acq) (h : j ≠ k) : (s.setAcq k v).acq j = s.acq j :=
  Store.getD_putD_other _ _ _ _ h
@[simp] theorem State.acq_mod (s : State) (k : Nat) (f : Acq → Acq) : (s.modAcq k f).acq k = f (s.acq k) := Store.getD_putD_same _ _ _ _
theorem State.acq_mod_other (s : State) {k j : Nat} (f : Acq → Acq) (h : j ≠ k) : (s.modAcq k f).acq j = s.acq j :=
  Store.getD_putD_other _ _ _ _ h
@[simp] theorem State.qp_set (s : State) (k : Nat) (v : Qp) : (s.setQp k v).qp k = v := Store.getD_putD_same _ _ _ _
theorem State.qp_set_other (s : State) {k j : Nat} (v : Qp) (h : j ≠ k) : (s.setQp k v).qp j = s.qp j :=
  Store.getD_putD_other _ _ _ _ h
@[simp] theorem State.qp_mod (s : State) (k : Nat) (f : Qp → Qp) : (s.modQp k f).qp k = f (s.qp k) := Store.getD_putD_same _ _ _ _
theorem State.qp_mod_other (s : State) {k j : Nat} (f : Qp → Qp) (h : j ≠ k) : (s.modQp k f).qp j = s.qp j :=
  Store.getD_putD_other _ _ _ _ h

/-! ### Registers through updates of other parts -/

@[simp] theorem rd_setStrand (s : State) (k : Nat) (v : Strand) (r : Nat) : (s.setStrand k v).rd r = s.rd r := rfl
@[simp] theorem rd_modStrand (s : State) (k : Nat) (f : Strand → Strand) (r : Nat) : (s.modStrand k f).rd r = s.rd r := rfl
@[simp] theorem rd_setPin (s : State) (k : Nat) (v : Pin) (r : Nat) : (s.setPin k v).rd r = s.rd r := rfl
@[simp] theorem rd_modPin (s : State) (k : Nat) (f : Pin → Pin) (r : Nat) : (s.modPin k f).rd r = s.rd r := rfl
@[simp] theorem rd_setPmu (s : State) (k : Nat) (v : Pmu) (r : Nat) : (s.setPmu k v).rd r = s.rd r := rfl
@[simp] theorem rd_modPmu (s : State) (k : Nat) (f : Pmu → Pmu) (r : Nat) : (s.modPmu k f).rd r = s.rd r := rfl
@[simp] theorem rd_setConv (s : State) (k : Nat) (v : Conv) (r : Nat) : (s.setConv k v).rd r = s.rd r := rfl
@[simp] theorem rd_modConv (s : State) (k : Nat) (f : Conv → Conv) (r : Nat) : (s.modConv k f).rd r = s.rd r := rfl
@[simp] theorem rd_setTdc (s : State) (k : Nat) (v : Tdc) (r : Nat) : (s.setTdc k v).rd r = s.rd r := rfl
@[simp] theorem rd_modTdc (s : State) (k : Nat) (f : Tdc → Tdc) (r : Nat) : (s.modTdc k f).rd r = s.rd r := rfl
@[simp] theorem rd_setAcq (s : State) (k : Nat) (v : Acq) (r : Nat) : (s.setAcq k v).rd r = s.rd r := rfl
@[simp] theorem rd_modAcq (s : State) (k : Nat) (f : Acq → Acq) (r : Nat) : (s.modAcq k f).rd r = s.rd r := rfl
@[simp] theorem rd_setQp (s : State) (k : Nat) (v : Qp) (r : Nat) : (s.setQp k v).rd r = s.rd r := rfl
@[simp] theorem rd_modQp (s : State) (k : Nat) (f : Qp → Qp) (r : Nat) : (s.modQp k f).rd r = s.rd r := rfl
@[simp] theorem rd_fault (s : State) (source bit addr : Nat) (r : Nat) : (s.fault source bit addr).rd r = s.rd r := rfl
@[simp] theorem rd_writeShadow (s : State) (a : Nat) (v : Word) (r : Nat) : (s.writeShadow a v).rd r = s.rd r := rfl
@[simp] theorem rd_advanceTo (s : State) (t : Nat) (r : Nat) : (s.advanceTo t).rd r = s.rd r := rfl
@[simp] theorem rd_withQueue (s : State) (l : List Instr) (r : Nat) : (s.withQueue l).rd r = s.rd r := rfl
@[simp] theorem rd_idle (s : State) (r : Nat) : s.idle.rd r = s.rd r := rfl

end Sys2Proof.Machine
end

