-- ==== Sys2Proof/Tests/Slice0.lean ====
section
/-! SUPPORT. Tests: a state for the hypotheses of each statement, ill-formed commands that are refused, and effects of single commands that the
rules of the spec give. -/

namespace Sys2Proof.Machine

set_option linter.all false
set_option Elab.async false
set_option maxRecDepth 20000

/-- Fields set, one after another. -/
def sets (s : State) (l : List (Nat × Field × Nat)) : State := l.foldl (fun x e => x.setFld e.1 e.2.1 e.2.2) s

/-- A device that is on, with Beacon running, both links up, tideline valid, cove 0 awake, QP 0 in RTS and SPI privileged. -/
def on : State := { State.reset with
  power := { begun := true }
  regs := [(Reg.DEV_STATE, 0x1C000000), (Reg.FC_HELM_STATE, 0x20000000), (Reg.SPI_STAT, 0x80000000), (qpA 0 Reg.HT_QP_CTRL, 0x40000750),
    (Reg.RG_STATE, 0x80000000), (linkA 0, 0xC0000000), (linkA 1, 0xC0000000), (Reg.TL_STATE, 0x40000000), (coveA 0 Reg.CV_STATE, 0x30000000)] }

/-- `on` with more fields set. -/
def onWith (l : List (Nat × Field × Nat)) : State := sets on l

/-- A step word of an opcode and an operand. -/
def stepWord (op opnd : Nat) : Word64 := BitVec.ofNat 64 (op * 2 ^ 58 + opnd * 2 ^ 24)

/-- Strand 0 in RUN about to issue word `w`, the first of segment 0, which its cache holds. -/
def atWordOf (w : Word64) (t : Strand) : State :=
  { onWith [(strandA 0 Reg.SQ_STATE, Fld.SQ_STATE_STATE, 1)] with
    strands := [(0, { t with nextAt := 100000, cache := [⟨0, 0, true, 0⟩] })]
    mem := { segs := [(0, { len := 1, succ := none, fd := 0, pairs := [⟨0, 5, true⟩], crcs := [], grans := [(0, w :: List.replicate 63 0)], chan0 := 0,
                            groups := [0], stream := none })] } }

/-- A segment image of four granules of zeros that passes its checks; `stream` for one without granules. -/
def imageOf (stream : Bool) : List Byte :=
  let head := leBytes 4 0x4B534701 ++ leBytes 2 2 ++ leBytes 2 (if stream then 2 else 0) ++ leBytes 4 0 ++ leBytes 4 4 ++ leBytes 8 0
  let crcs := (List.range 4).flatMap (fun _ => leBytes 2 (crc16 (List.replicate 512 0)))
  head ++ leBytes 4 (crc32 (head ++ crcs)) ++ leBytes 4 0 ++ crcs ++ (if stream then [] else List.replicate 2048 0)

/-- A command of QP 0, index 0, with opcode `op`, the rest of its descriptor `l`, at a stage with an input. -/
def cmdOf (op : Nat) (l : List Byte) (stage : CmdStage) (input : List Byte) : HostCmd := ⟨0, 0, BitVec.ofNat 8 op :: l, 0, stage, input, false, []⟩

/-- `on` with one command started. -/
def onCmd (c : HostCmd) : State := { on with host := { cmds := [c] } }

/-- A start-up that meets nothing wrong and no firmware. -/
def facts : StartFacts := ⟨true, 0, true, [], [], [], [], 0, none, [], true, true, none, 0, 0⟩

/-- Whether work orders are refused with BUSY does not depend on PL_TIME. -/
theorem orderBusy_time (s : State) (f : Field) (v : Nat) : (s.setFld Reg.PL_TIME f v).orderBusy = s.orderBusy := by
  have h : ∀ l : List Nat, l.any (fun k => let st := (s.setFld Reg.PL_TIME f v).fld (strandA k Reg.SQ_STATE) Fld.SQ_STATE_STATE
      st == 1 || st == 2 || st == 3 || st == 4) = l.any (fun k => let st := s.fld (strandA k Reg.SQ_STATE) Fld.SQ_STATE_STATE
      st == 1 || st == 2 || st == 3 || st == 4) := by
    intro l
    congr 1
    funext k
    rw [fld_setFld_ne _ _ _ _ (by unfold strandA Reg.PL_TIME; omega)]
  unfold State.orderBusy State.activeTest
  rw [h]
  rfl

/-- Whether a command answers a next state with a property. -/
def gives (c : Instr) (s : State) (p : State → Bool) : Bool :=
  match exec c s with
  | .next t => p t
  | .fault _ => false
  | .refused _ => false

/-! ### Ill-formed commands that the checks refuse -/

theorem test_wf_write_length : (Instr.regWrite .spi 0 (List.replicate 2 0) 0).wf = true ∧ wordsFit 4194305 = false := by decide +kernel
theorem test_wf_read_length : (Instr.rcRead .spi 0 4194305 0).wf = false := by decide +kernel
theorem test_wf_snap_unaligned : (Instr.snapWrite .spi 0x201 0).wf = false := by decide +kernel
theorem test_wf_engage_twice : (Instr.bwEngageCheck [3, 3]).wf = false := by decide +kernel
theorem test_wf_segment_number : (Instr.granuleRefill 0 65536 0 true true 0).wf = false := by decide +kernel
theorem test_wf_granule_number : (Instr.granuleRefill 0 0 262144 true true 0).wf = false := by decide +kernel
theorem test_wf_audit_group : (Instr.journalAuditDone [8388608]).wf = false := by decide +kernel
theorem test_wf_fetch_group_twice : (Instr.resultFetch [7, 7]).wf = false := by decide +kernel
theorem test_wf_fold_twice : (Instr.laneFold 0 [1, 1]).wf = false := by decide +kernel
theorem test_wf_splice_die : (Instr.laneSpliceDone 0 65536 [] false).wf = false := by decide +kernel
theorem test_wf_splice_group : (Instr.laneSpliceDone 0 0 [8388608] false).wf = false := by decide +kernel
theorem test_wf_conversion : (Instr.conversionEnd 0 2147483648).wf = false ∧ (Instr.conversionEnd 0 (-2147483649)).wf = false := by decide +kernel
theorem test_wf_scale_count : (Instr.tdcCalDone 0 4294967296 0).wf = false := by decide +kernel
theorem test_wf_measured_twice :
    (Instr.calRunEnd 0 (List.replicate 2 ⟨0, true, false, 0, 0, List.replicate 64 0, 0, 0, 0, List.replicate 8 0, List.replicate 8 0, List.replicate 8 0, 0, 0, 0, 0⟩) 0).wf =
      false := by decide +kernel
theorem test_wf_measured_short : (Instr.calRunEnd 0 [⟨0, true, false, 0, 0, [], 0, 0, 0, [], [], [], 0, 0, 0, 0⟩] 0).wf = false := by decide +kernel
theorem test_wf_knock_long : (Instr.knock ⟨0x100, 0, true⟩ (List.replicate 4097 0) 0).wf = false := by decide +kernel
theorem test_wf_pfc_quanta : (Instr.pfcFrame 0 0 [0, 0, 0] 0).wf = false := by decide +kernel
theorem test_wf_frame_short : (Instr.frameForward 0 ⟨0, 0, 0, none, 63, true⟩ 0).wf = false := by decide +kernel
theorem test_wf_adeo_body : (Instr.slack 0 ⟨1, 0, 5, 1, 0xFFFF, 0, 0, []⟩ 0).wf = false := by decide +kernel
theorem test_wf_startup_rail : (Instr.startup { facts with rail := some 12 }).wf = false := by decide +kernel
theorem test_wf_fault_source : (Instr.faultMessage (some ⟨4096, 1, 0, false⟩)).wf = false := by decide +kernel
theorem test_wf_microcode_twice : (Instr.csCommandDone [0, 0] 0).wf = false := by decide +kernel

/-! ### Effects, with the rule each expectation comes from -/

/-- R47: a write to an update-buffered register leaves the value in force. -/
theorem test_buffered_write : gives (.regWrite .spi (BitVec.ofNat 24 Reg.MC_BUDGET_TOTAL) [5] 0) on (fun t =>
    t.rd Reg.MC_BUDGET_TOTAL == on.rd Reg.MC_BUDGET_TOTAL && t.shadowOf Reg.MC_BUDGET_TOTAL == 5) = true := by decide +kernel

/-- R40, R41: an access to an address that is no multiple of 4 is a bus error, and DEV_BUS_ERR records it. -/
theorem test_bus_error : gives (.regWrite .spi 0x00012D [5] 0) on (fun t =>
    t.fld Reg.DEV_BUS_ERR Fld.DEV_BUS_ERR_ADDR == 0x12D && t.sent == [.busError .spi]) = true := by decide +kernel

/-- R42: a read of a read-clearing bit returns it and clears it. -/
theorem test_read_clears : gives (.rcRead .spi (BitVec.ofNat 24 Reg.DEV_UPD_STAT) 1 0) (on.wr Reg.DEV_UPD_STAT 1) (fun t =>
    t.rd Reg.DEV_UPD_STAT == 0 && t.sent == [.readData .spi [1]]) = true := by decide +kernel

/-- R32: the toggle space inverts the bits given. -/
theorem test_toggle : gives (.regWrite .spi (BitVec.ofNat 24 (0xC00000 + Reg.DEV_UPD_SCHED)) [3] 0) (on.wr Reg.DEV_UPD_SCHED 1) (fun t =>
    t.rd Reg.DEV_UPD_SCHED == 2) = true := by decide +kernel

/-- R54: DEV_LOCK bits are set, never cleared. -/
theorem test_lock_stays : gives (.devLockWrite .spi .normal 0) (on.wr Reg.DEV_LOCK 1) (fun t => t.rd Reg.DEV_LOCK == 1) = true := by decide +kernel

/-- R59: a privileged register reads as zero without privilege. -/
theorem test_no_privilege : gives (.rcRead .spi (BitVec.ofNat 24 Reg.FC_WDT) 1 0) (onWith [(Reg.SPI_STAT, Fld.SPI_STAT_PRIV, 0)]) (fun t =>
    t.sent == [.readData .spi [0]]) = true := by decide +kernel

/-- R73: a new PS_LIM re-clips VIH in force at once (the codes of its example). -/
theorem test_reclip : gives (.psLimWrite .spi .normal 9 0x7E804000) (on.wr (pinA 9 Reg.PS_VIH) 0x81A0) (fun t =>
    t.flag (pinA 9 Reg.PS_STAT) Fld.PS_STAT_LIM_CLIP && t.driveLevel 9 (t.fld (pinA 9 Reg.PS_VIH) Fld.PS_VIH_CODE) == 0x7E80) = true := by decide +kernel

/-- R88: arming copies the comparator's state and clears FIRED. -/
theorem test_event_arm : gives (.psEvtArm .spi 9 0 false true) (onWith [(pinA 9 Reg.PS_EVT, Fld.PS_EVT_FIRED, 1)]) (fun t =>
    t.flag (pinA 9 Reg.PS_EVT) Fld.PS_EVT_ARM && !t.flag (pinA 9 Reg.PS_EVT) Fld.PS_EVT_FIRED) = true := by decide +kernel

/-- R123: a wave write to a running strand is refused. -/
theorem test_wave_busy : gives (.wvDataWrite .spi .normal 0 7) (onWith [(strandA 0 Reg.SQ_STATE, Fld.SQ_STATE_STATE, 1)]) (fun t =>
    t.flag (strandA 0 Reg.WV_STAT) Fld.WV_STAT_BUSY_REJ && (t.strand 0).tables.wave == []) = true := by decide +kernel

/-- R131: LOOP_BEGIN with C = 2 pushes a frame with two iterations, whose body is the following word. -/
theorem test_loop_begin : gives (.loopBegin 0) (atWordOf (stepWord 0x04 2) {}) (fun t =>
    (t.strand 0).loops.map (fun f => (f.left, f.body)) == [(2, ⟨0, 1⟩)] && (t.strand 0).pos == ⟨0, 1⟩) = true := by decide +kernel

/-- R131: at LOOP_END with one iteration left the frame is popped and the following word is next. -/
theorem test_loop_end : gives (.loopEnd 0) (atWordOf (stepWord 0x06 0) { loops := [⟨⟨0, 0⟩, 1, 0, none⟩] }) (fun t =>
    (t.strand 0).loops == [] && (t.strand 0).pos == ⟨0, 1⟩) = true := by decide +kernel

/-- R132: a ninth call frame halts the strand with NEST_OVF before the step. -/
theorem test_nest_overflow : gives (.call 0) (atWordOf (stepWord 0x08 0) { calls := List.replicate 8 ⟨⟨0, 0⟩, 0⟩ }) (fun t =>
    t.sqState 0 == 5 && t.fld (strandA 0 Reg.SQ_STATE) Fld.SQ_STATE_CAUSE == 7 && t.rd (strandA 0 Reg.SQ_EXEC_LO) == 0) = true := by decide +kernel

/-- R152: HALT stops the strand after its step. -/
theorem test_halt : gives (.haltOp 0) (atWordOf (stepWord 0x1A 0) {}) (fun t => t.sqState 0 == 5) = true := by decide +kernel

/-- R158: the step ledger of a halted strand clears. -/
theorem test_step_ledger : gives (.sqLedgerClr .spi 3) (sets (on.wr (strandA 3 Reg.SQ_ISSUED_LO) 9) [(strandA 3 Reg.SQ_STATE, Fld.SQ_STATE_STATE, 5)])
    (fun t => t.rd (strandA 3 Reg.SQ_ISSUED_LO) == 0) = true := by decide +kernel

/-- R192: the example of the granule CRC. -/
theorem test_crc16 : crc16 [0x31, 0x32, 0x33, 0x34, 0x35, 0x36, 0x37, 0x38, 0x39] = 0x29B1 := by decide +kernel

/-- R193: an image shorter than its header is refused with BAD_LENGTH. -/
theorem test_image_short : (readImage (List.replicate 31 0) false).1 = 2 := by decide +kernel

/-- R369: a SEG_WRITE of the segment that another in progress at its start has written completes with BUSY (code 9). -/
theorem test_segment_busy : gives .segImageReceived (onCmd { cmdOf 2 [] .received (imageOf false) with met := [0] }) (fun t =>
    t.host.cmds == [] && t.mem.segs == []) = true := by decide +kernel

/-- R196: SEG_FREE of a segment not loaded succeeds. -/
theorem test_free_absent : gives .segFree (onCmd (cmdOf 3 [] .started [])) (fun t => t.host.cmds == [] &&
    t.rd (qpA 0 Reg.HT_QP_CPL_PI) == 1) = true := by decide +kernel

/-- R221: a fail ledger that clears takes FL_JRN_EV as its baseline. -/
theorem test_ledger_baseline : gives (.flLedgerClr .spi 2) (on.wr (strandA 2 Reg.FL_JRN_EV_LO) 7) (fun t => (t.strand 2).baseJ == 7) = true := by decide +kernel

/-- R233: an event without a die goes to lane 0. -/
theorem test_lane_of_no_die : on.laneOf ⟨0, 0xFFFF, 3, 3, 0, 1⟩ = 0 := by decide +kernel

/-- R219: a journal reset empties the journal. -/
theorem test_journal_reset : gives (.jrnReset .spi) { on with failPath := { journal := [(0, [padRec])], nextGroup := 1 } } (fun t =>
    t.failPath.journal == [] && t.failPath.nextGroup == 0) = true := by decide +kernel

/-- R276: PL_RELEASE is refused in active test. -/
theorem test_release_refused : gives (.plRelease .spi)
    { onWith [(strandA 5 Reg.SQ_STATE, Fld.SQ_STATE_STATE, 1)] with strands := [(5, {})] } (fun t => t.flag Reg.PL_STAT Fld.PL_STAT_REFUSED) = true := by decide +kernel

/-- R338: a run on a pin with a measurement under way is refused. -/
theorem test_cal_refused : gives (.calTiming .spi 0 1 0) (onWith [(pinA 0 Reg.TD_STAT, Fld.TD_STAT_STATE, 1)]) (fun t =>
    t.flag Reg.CB_STAT Fld.CB_STAT_REFUSED && t.calRuns == []) = true := by decide +kernel

/-- R353: a QP whose set-up is bad stays disabled. -/
theorem test_qp_bad_setup : gives (.qpEnable .spi 5 0) on (fun t => !t.qpRts 5 && t.flag (qpA 5 Reg.HT_QP_STAT) Fld.HT_QP_STAT_CFG_REJ) = true := by decide +kernel

/-- R364: an index out of range is ignored. -/
theorem test_index_error : (on.takeIndex 0 65537 .cmdPi).flag (qpA 0 Reg.HT_QP_STAT) Fld.HT_QP_STAT_IDX_ERR = true ∧
    (on.takeIndex 0 65537 .cmdPi).rd (qpA 0 Reg.HT_QP_CMD_PI) = 0 := by decide +kernel

/-- R388: a frame of 65 bytes takes two cells. -/
theorem test_cells : frameCells 64 = 1 ∧ frameCells 65 = 2 ∧ frameCells 4178 = 66 := by decide +kernel

/-- R385: a frame of another version is passed on unprocessed. -/
theorem test_other_version : gives (.hbReply 0 ⟨2, 0, 5, 1, 0xFFFF, 0, 0, List.replicate 32 0⟩ 0) { on with ring := { east := { misses := 2 } } } (fun t =>
    t.ring.east.misses == 2 && t.sent.length == 1) = true := by decide +kernel

/-- R393: a heartbeat reply clears the count of heartbeats missed. -/
theorem test_heartbeat_reply : gives (.hbReply 0 ⟨1, 1, 1, 1, 0, 0, 0, List.replicate 32 0⟩ 0) { on with ring := { east := { misses := 2 } } } (fun t =>
    t.ring.east.misses == 0) = true := by decide +kernel

/-- R410: TL_SET is rejected while a schedule is held. -/
theorem test_set_rejected : gives (.tlSet .spi) (onWith [(Reg.DEV_UPD_CTRL, Fld.DEV_UPD_CTRL_ARM, 1)]) (fun t =>
    t.flag Reg.TL_STAT Fld.TL_STAT_SET_REJ && t.tideOff == on.tideOff) = true := by decide +kernel

/-- R424: a cove that does not lock in 100 µs goes back to sleep. -/
theorem test_lock_fail : gives (.lockFail 4) (onWith [(coveA 4 Reg.CV_STATE, Fld.CV_STATE_STATE, 1)]) (fun t =>
    t.cvState 4 == 0 && t.flag (coveA 4 Reg.CV_STAT) Fld.CV_STAT_LOCK_FAIL) = true := by decide +kernel

/-- R445: FC_ACK of a source without an open record is rejected. -/
theorem test_ack_rejected : gives (.fcAck .beacon 5) on (fun t => t.flag Reg.FC_STAT Fld.FC_STAT_ACK_REJ) = true := by decide +kernel

/-- R455: a kick of another master than Beacon is ignored. -/
theorem test_kick_ignored : gives (.fcWdtKick .spi 0) { on with now := 9 } (fun t => t.faults.kickAt == 0) = true ∧
    gives (.fcWdtKick .beacon 0) { on with now := 9 } (fun t => t.faults.kickAt == 9) = true := by decide +kernel

/-- R461: a sensor that does not answer reads as 150 degrees. -/
theorem test_sensor_silent : gives (.sensorRead false 0) on (fun t => t.flag Reg.TH_SENS Fld.TH_SENS_BROKEN) = true := by decide +kernel

/-- R439: a strand number that does not exist is refused with its code. -/
theorem test_selftest_target : on.testRefusal 1 192 = 0xC ∧ on.testRefusal 2 208 = 0xC ∧ on.testRefusal 3 17 = 0xC := by decide +kernel

/-- R483: an SPI WRITE of more than 64 words is LONG and writes nothing. -/
theorem test_spi_long : gives (.spiWrite 0 (List.replicate 65 7) 0) on (fun t => t.flag Reg.SPI_STAT Fld.SPI_STAT_LONG && t.sent == []) = true := by decide +kernel

/-- R496: a life counter's pending count does not wrap at its 24 bits. -/
theorem test_count_saturates : (({ on with counts := [(0, 0xFFFFFF)] } : State).life 0).counts = [(0, 0xFFFFFF)] := by decide +kernel

/-- R22: the next QP in turn starts its next descriptor; NOP completes at once. -/
theorem test_nop : gives .commandStart { on with qps := [(0, { fetched := [(0, [0x0D])], fetchNext := 1 })] } (fun t =>
    t.host.cmds.length == 1 && t.host.turn == 1 && t.rd (qpA 0 Reg.HT_QP_CMD_CI) == 1) = true := by decide +kernel

/-- An empty queue: time passes by one engine cycle (assumption log 2). -/
theorem test_idle : (match step State.reset with | .next t => t.now == 512 | _ => false) = true := by decide +kernel

/-- A step takes the command at the front. -/
theorem test_step_front : (match step { on with pending := [.devLockWrite .spi .normal 1, .nop] } with
    | .next t => t.rd Reg.DEV_LOCK == 1 && t.pending == [.nop]
    | _ => false) = true := by decide +kernel

/-! ### A state for the hypotheses of each statement -/

/-- The hypotheses of Obligations.IdleStep have a state. -/
theorem test_hyps_IdleStep :
    ∃ (s : State), (s.pending = []) :=
  ⟨on, by decide +kernel⟩

/-- The hypotheses of Obligations.StepKeepsSound have a state. -/
theorem test_hyps_StepKeepsSound :
    ∃ (s : State), ∃ (t : State), (s.sound = true) ∧ (step s = .next t) :=
  ⟨on, _, by decide +kernel, rfl⟩

/-- The hypotheses of Obligations.EveryStepAnswers have a state. -/
theorem test_hyps_EveryStepAnswers :
    ∃ (s : State), (s.sound = true) :=
  ⟨on, by decide +kernel⟩

/-- The hypotheses of Obligations.RegisterStore have a state for each clause. -/
theorem test_hyps_RegisterStore :
    (∃ (s : State), ∃ (a : Nat), ∃ (v : Word), ∃ b, (b ≠ a)) ∧
    (∃ (s : State), ∃ (a : Nat), ∃ (v : Word), (s.regsCanonical = true)) ∧
    (∃ (s : State), ∃ (a : Nat), ∃ (v : Nat), ∃ (f : Field), (f.lo + f.width ≤ 32)) ∧
    (∃ (s : State), ∃ (a : Nat), ∃ (v : Nat), ∃ (f : Field), (f.lo + f.width ≤ 32) ∧ ∃ (g : Field), (f.lo + f.width ≤ g.lo ∨ g.lo + g.width ≤ f.lo)) ∧
    (∃ (s : State), ∃ (a : Nat), ∃ (v : Nat), ∃ (f : Field), (f.lo + f.width ≤ 32) ∧ ∃ (b : Nat), ∃ (g : Field), (b ≠ a)) :=
  ⟨⟨on, 0, 0, 1, by decide +kernel⟩,
    ⟨on, 0, 0, by decide +kernel⟩,
    ⟨on, 0, 0, ⟨0, 1⟩, by decide +kernel⟩,
    ⟨on, 0, 0, ⟨0, 1⟩, by decide +kernel, ⟨1, 1⟩, by decide +kernel⟩,
    ⟨on, 0, 0, ⟨0, 1⟩, by decide +kernel, 1, ⟨1, 1⟩, by decide +kernel⟩⟩

/-- The hypotheses of Obligations.PrivilegedRegisters have a state. -/
theorem test_hyps_PrivilegedRegisters :
    ∃ (m : Master), ∃ (a : BitVec 24), ∃ (d : Word), ∃ (present : Option Bool), ∃ (h : RegHit), ∃ (s : State), (regAlias a.toNat = some h) ∧
    (h.row.priv = true) ∧ (s.privileged m = false) :=
  ⟨.spi, BitVec.ofNat 24 Reg.FC_WDT, 0, none, _, (onWith [(Reg.SPI_STAT, Fld.SPI_STAT_PRIV, 0)]), rfl, by decide +kernel, by decide +kernel⟩

/-- The hypotheses of Obligations.HoldQueueLimit have a state for each clause. -/
theorem test_hyps_HoldQueueLimit :
    (∃ (m : Master), ∃ (addrs : List Nat), ∃ (data : List Word), ∃ (addr : Nat), ∃ (present : Option Bool), ∃ (s : State),
    (addrs.length = data.length) ∧ ((∀ a ∈ addrs, a / 0x400000 = addr / 0x400000)) ∧ (addrs.length ≤ burstLimit m) ∧
    ((∀ e ∈ addrs.zip data, s.badWord e.1 (some e.2) = false)) ∧ ∃ (k : Fin 192), (s.sqState k = 6) ∧ ((∃ a ∈ addrs, s.testedAt a = some k.val)) ∧
    (255 < (s.strand k).holdQ.length + (addrs.filter (fun a => s.testedAt a == some k.val)).length)) ∧
    (∃ (m : Master), ∃ (addrs : List Nat), ∃ (data : List Word), ∃ (addr : Nat), ∃ (present : Option Bool), ∃ (s : State),
    (addrs.length = data.length) ∧ ((∀ a ∈ addrs, a / 0x400000 = addr / 0x400000)) ∧ (addrs.length ≤ burstLimit m) ∧
    ((∀ e ∈ addrs.zip data, s.badWord e.1 (some e.2) = false)) ∧
    ((∀ k : Nat, (∃ a ∈ addrs, s.testedAt a = some k) → (s.strand k).holdQ.length + (addrs.filter (fun a => s.testedAt a == some k)).length ≤ 255))) ∧
    (∃ (m : Master), ∃ (addrs : List Nat), ∃ (data : List Word), ∃ (addr : Nat), ∃ (present : Option Bool), ∃ (s : State),
    (addrs.length = data.length) ∧ ((∀ a ∈ addrs, a / 0x400000 = addr / 0x400000)) ∧ (addrs.length ≤ burstLimit m) ∧
    ((∀ e ∈ addrs.zip data, s.badWord e.1 (some e.2) = false)) ∧ ∃ (k : Fin 192), (addrs ≠ []) ∧ ((∀ a ∈ addrs, s.testedAt a = some k.val)) ∧
    ((s.strand k).holdQ.length + addrs.length ≤ 255)) :=
  ⟨⟨.spi, [strandA 0 Reg.SQ_CMD], [0], strandA 0 Reg.SQ_CMD, none,
     ((onWith [(strandA 0 Reg.SQ_STATE, Fld.SQ_STATE_STATE, 6)]).modStrand 0 (fun t => { t with holdQ := List.replicate 255 (.strobe 0) })),
     by decide +kernel, by decide +kernel, by decide +kernel, by decide +kernel, 0, by decide +kernel, by decide +kernel, by decide +kernel⟩,
    ⟨.spi, [strandA 0 Reg.SQ_CMD], [0], strandA 0 Reg.SQ_CMD, none,
     ((onWith [(strandA 0 Reg.SQ_STATE, Fld.SQ_STATE_STATE, 6)]).modStrand 0 (fun t => { t with holdQ := List.replicate 254 (.strobe 0) })),
     by decide +kernel, by decide +kernel, by decide +kernel, by decide +kernel,
     by rintro k ⟨a, ha, e⟩; rw [List.mem_singleton.mp ha, show State.testedAt _ _ = some 0 by decide +kernel] at e; cases e; decide +kernel⟩,
    ⟨.spi, [strandA 0 Reg.SQ_CMD], [0], strandA 0 Reg.SQ_CMD, none,
     ((onWith [(strandA 0 Reg.SQ_STATE, Fld.SQ_STATE_STATE, 6)]).modStrand 0 (fun t => { t with holdQ := List.replicate 254 (.strobe 0) })),
     by decide +kernel, by decide +kernel, by decide +kernel, by decide +kernel, 0, by decide +kernel, by decide +kernel, by decide +kernel⟩⟩

/-- The hypotheses of Obligations.Shadows have a state. -/
theorem test_hyps_Shadows :
    ∃ (s : State), ∃ (a : Nat), ∃ (v : Word), ∃ b, (b ≠ a) :=
  ⟨on, 0, 0, 1, by decide +kernel⟩

/-- The hypotheses of Obligations.RegisterAccesses have a state for each clause. -/
theorem test_hyps_RegisterAccesses :
    (∃ (m : Master), ∃ (al : Alias), ∃ (a : Nat), ∃ (d : Word), ∃ (h : RegHit), ∃ (g : Nat), ∃ (s : State), (s.mayWrite m a = true) ∧
    (a < 0x400000) ∧ (a % 4 = 0) ∧ (regAt a = some h) ∧ ((h.row.aliased = true ∨ al = .normal)) ∧ (h.row.w ≠ 0) ∧ (snapSpec a = none) ∧
    (h.row.group = some g)) ∧
    (∃ (m : Master), ∃ (addr : BitVec 24), ∃ (data : List Word), ∃ (tail : Fin 4), ∃ (bad : Nat), ∃ (s : State), (s.masterLive m = true) ∧
    (s.burstBad m (wordsFrom addr.toNat data.length) (some data) addr.toNat tail = some bad)) ∧
    (∃ (m : Master), ∃ (al : Alias), ∃ (d : Word), ∃ (s : State), (s.mayWrite m Reg.DEV_UPD_SCHED = true) ∧
    (s.flag Reg.DEV_UPD_CTRL Fld.DEV_UPD_CTRL_ARM = false)) ∧
    (∃ (m : Master), ∃ (a : Nat), ∃ (h : RegHit), ∃ (s : State), (s.masterLive m = true) ∧ (s.inReach a = true) ∧ (s.testedAt a = none) ∧
    (a < 0x400000) ∧ (a % 4 = 0) ∧ (regAt a = some h) ∧ (h.row.rc ≠ 0) ∧ ((∀ n, a ≠ pinA n Reg.PM_STAT))) ∧
    (∃ (m : Master), ∃ (n : Fin 1536), ∃ (a : Nat), ∃ (s : State), (a = pinA n Reg.PM_STAT) ∧ (s.masterLive m = true) ∧ (s.inReach a = true) ∧
    (s.testedAt a = none)) ∧
    (∃ (m : Master), ∃ (d : Word), ∃ (s : State), (s.mayWrite m Reg.DEV_SNAP = true) ∧ (snapValid (0, 16) d.toNat = true)) ∧
    (∃ (m : Master), ∃ (al : Alias), ∃ (d : Word), ∃ (s : State), (s.mayWrite m Reg.DEV_LOCK = true) ∧ ((al = .normal ∨ al = .set))) :=
  ⟨⟨.spi, .normal, Reg.MC_BUDGET_TOTAL, 0, _, 18, on, by decide +kernel, by decide +kernel, by decide +kernel, rfl, by decide +kernel,
     by decide +kernel, by decide +kernel, by decide +kernel⟩,
    ⟨.spi, 0x3FFFFE, [0], 0, 0x3FFFFE, on, by decide +kernel, by decide +kernel⟩,
    ⟨.spi, .normal, 0, on, by decide +kernel, by decide +kernel⟩,
    ⟨.spi, Reg.DEV_BUS_ERR, _, on, by decide +kernel, by decide +kernel, by decide +kernel, by decide +kernel, by decide +kernel, rfl,
     by decide +kernel, by intro n e; unfold pinA Reg.DEV_BUS_ERR at e; omega⟩,
    ⟨.spi, 1535, pinA 1535 Reg.PM_STAT, on, rfl, by decide +kernel, by decide +kernel, by decide +kernel⟩,
    ⟨.spi, BitVec.ofNat 32 Reg.DEV_BUS_ERR, on, by decide +kernel, by decide +kernel⟩,
    ⟨.spi, .set, 0, on, by decide +kernel, by decide +kernel⟩⟩

/-- The hypotheses of Obligations.UpdateStrobes have a state for each clause. -/
theorem test_hyps_UpdateStrobes :
    (∃ (m : Master), ∃ (mask : Word), ∃ (s : State), (s.mayWrite m Reg.DEV_UPD_STROBE = true) ∧ (allStrands.all (fun k => s.sqState k != 6) = true)) ∧
    (∃ (m : Master), ∃ (slack : Bool), ∃ (s : State), (s.mayWrite m Reg.DEV_UPD_CTRL = true) ∧
    (s.flag Reg.DEV_UPD_CTRL Fld.DEV_UPD_CTRL_ARM = false) ∧ ((slack = true ∨ (s.tideValid = true ∧ s.tideNow + 2400 ≤ s.rd64 Reg.TL_UPD_AT_LO)))) ∧
    (∃ (m : Master), ∃ (s : State), (s.mayWrite m Reg.DEV_UPD_CTRL = true) ∧ (s.tideValid = false) ∧
    (s.flag Reg.DEV_UPD_CTRL Fld.DEV_UPD_CTRL_ARM = false)) ∧
    (∃ (m : Master), ∃ (s : State), (s.mayWrite m Reg.DEV_UPD_CTRL = true) ∧ (s.flag Reg.DEV_UPD_CTRL Fld.DEV_UPD_CTRL_ARM = true)) :=
  ⟨⟨.spi, 0, on, by decide +kernel, by decide +kernel⟩,
    ⟨.spi, true, on, by decide +kernel, by decide +kernel, by decide +kernel⟩,
    ⟨.spi, (onWith [(Reg.TL_STATE, Fld.TL_STATE_STATE, 0)]), by decide +kernel, by decide +kernel, by decide +kernel⟩,
    ⟨.spi, (onWith [(Reg.DEV_UPD_CTRL, Fld.DEV_UPD_CTRL_ARM, 1)]), by decide +kernel, by decide +kernel⟩⟩

/-- The hypotheses of Obligations.PowerAndSelfTestCommands have a state for each clause. -/
theorem test_hyps_PowerAndSelfTestCommands :
    (∃ (m : Master), ∃ (s : State), (s.mayWrite m Reg.DEV_PWR_CMD = true) ∧ (s.fld Reg.DEV_STATE Fld.DEV_STATE_STATE = 1) ∧
    (s.fld Reg.DEV_STATE Fld.DEV_STATE_POWER = 1) ∧ (s.place.table = none) ∧ (s.host.cmds = [])) ∧
    (∃ (m : Master), ∃ (c : BitVec 16), ∃ (s : State), (s.mayWrite m Reg.DEV_PWR_CMD = true) ∧ (c ≠ 0xD5E1)) ∧
    (∃ (s : State), (s.mayWrite .spi Reg.DEV_PWR_CMD = true) ∧ (s.mayWake = true)) ∧
    (∃ (n : Fin 1536), ∃ (s : State), (s.coreOut = true) ∧ (s.flag (pinA n Reg.PS_EVT) Fld.PS_EVT_ARM = true) ∧
    (s.flag (pinA n Reg.PS_EVT) Fld.PS_EVT_WAKE_EN = true)) ∧
    (∃ (m : Master), ∃ (num : Fin 256), ∃ (subst : Bool), ∃ (s : State), (s.mayWrite m Reg.BI_RT_CMD = true) ∧ (s.ucodeBusy = false) ∧
    (s.testRefusal 1 num = 0)) ∧
    (∃ (m : Master), ∃ (num : Fin 256), ∃ (subst : Bool), ∃ (s : State), (s.mayWrite m Reg.BI_RT_CMD = true) ∧ (s.ucodeBusy = false) ∧
    (s.testRefusal 2 num = 0)) ∧
    (∃ (m : Master), ∃ (num : Fin 256), ∃ (s : State), (s.mayWrite m Reg.BI_RT_CMD = true) ∧ (s.ucodeBusy = false) ∧ (s.testRefusal 3 num = 0) ∧
    (s.fld Reg.BI_LANE Fld.BI_LANE_RESERVE = num)) ∧
    (∃ (m : Master), ∃ (num : Fin 256), ∃ (subst : Bool), ∃ (s : State), (s.mayWrite m Reg.BI_RT_CMD = true) ∧ (s.ucodeBusy = false) ∧
    (s.testRefusal 1 num ≠ 0)) ∧
    (∃ (m : Master), ∃ (c : Fin 16), ∃ (s : State), (s.mayWrite m (coveA c Reg.CV_CMD) = true) ∧ (s.coreOut = false) ∧
    (s.fld (coveA c Reg.CV_STATE) Fld.CV_STATE_STATE = 0) ∧ (bitOf (s.rd Reg.TH_EXCLUDE).toNat c = false)) :=
  ⟨⟨.spi, (onWith [(Reg.DEV_STATE, Fld.DEV_STATE_POWER, 1)]), by decide +kernel, by decide +kernel, by decide +kernel, by decide +kernel,
     by decide +kernel⟩,
    ⟨.spi, 1, on, by decide +kernel, by decide +kernel⟩,
    ⟨(onWith [(Reg.DEV_STATE, Fld.DEV_STATE_POWER, 2)]), by decide +kernel, by decide +kernel⟩,
    ⟨1535,
     (onWith [(Reg.DEV_STATE, Fld.DEV_STATE_POWER, 2), (pinA 1535 Reg.PS_EVT, Fld.PS_EVT_ARM, 1), (pinA 1535 Reg.PS_EVT, Fld.PS_EVT_WAKE_EN, 1)]),
     by decide +kernel, by decide +kernel, by decide +kernel⟩,
    ⟨.spi, 191, true, (onWith [(coveA 15 Reg.CV_STATE, Fld.CV_STATE_STATE, 3)]), by decide +kernel, by decide +kernel, by decide +kernel⟩,
    ⟨.spi, 207, true, on, by decide +kernel, by decide +kernel, by decide +kernel⟩,
    ⟨.spi, 16, (onWith [(Reg.BI_LANE, Fld.BI_LANE_RESERVE, 16)]), by decide +kernel, by decide +kernel, by decide +kernel, by decide +kernel⟩,
    ⟨.spi, 192, true, on, by decide +kernel, by decide +kernel, by decide +kernel⟩,
    ⟨.spi, 15, on, by decide +kernel, by decide +kernel, by decide +kernel, by decide +kernel⟩⟩

/-- The hypotheses of Obligations.StoreCommands have a state for each clause. -/
theorem test_hyps_StoreCommands :
    (∃ (m : Master), ∃ (slot : Fin 2), ∃ (s : State), (s.mayWrite m Reg.CS_CMD = true) ∧ (s.csRefusal 1 = 0)) ∧
    (∃ (m : Master), ∃ (s : State), (s.mayWrite m Reg.CS_CMD = true) ∧ (s.csRefusal 2 = 0)) ∧
    (∃ (m : Master), ∃ (s : State), (s.mayWrite m Reg.CS_CMD = true) ∧ (s.csRefusal 3 = 0)) ∧
    (∃ (m : Master), ∃ (slot : Fin 2), ∃ (s : State), (s.mayWrite m Reg.CS_CMD = true) ∧ (s.csRefusal 4 = 0) ∧
    (s.imageCode s.stagedImage 1 false false = 1)) ∧
    (∃ (m : Master), ∃ (s : State), (s.mayWrite m Reg.CS_CMD = true) ∧ (s.ctl.run.isSome = true)) ∧
    (∃ (m : Master), ∃ (s : State), (s.mayWrite m Reg.LS_CMD = true) ∧ (s.flag Reg.LS_RES Fld.LS_RES_BUSY = false) ∧ (s.beaconRuns = true) ∧
    (s.dayStarts.length < 64)) ∧
    (∃ (m : Master), ∃ (s : State), (s.mayWrite m Reg.LS_CMD = true) ∧ (s.flag Reg.LS_RES Fld.LS_RES_BUSY = false) ∧ (s.beaconRuns = true)) ∧
    (∃ (m : Master), ∃ (s : State), (s.mayWrite m Reg.LS_CMD = true)) ∧
    (∃ (m : Master), ∃ (al : Alias), ∃ (d : Word), ∃ (s : State), (s.mayWrite m Reg.LS_SETUP_DATA = true) ∧
    (s.fld Reg.LS_SETUP_ADDR Fld.LS_SETUP_ADDR_WORD ≤ 11)) :=
  ⟨⟨.spi, 0, on, by decide +kernel, by decide +kernel⟩,
    ⟨.spi, on, by decide +kernel, by decide +kernel⟩,
    ⟨.spi, on, by decide +kernel, by decide +kernel⟩,
    ⟨.spi, 0, { on with ctl := { staging := [(0, 0x55434D02), (1, 0x00400001), (2, 0x7D1536B2), (3, 0x00010000), (6, 53408)] } }, by decide +kernel,
     by decide +kernel, by decide +kernel⟩,
    ⟨.spi, { on with ctl := { run := some ⟨4, 0, 0, 1⟩ } }, by decide +kernel, by decide +kernel⟩,
    ⟨.spi, on, by decide +kernel, by decide +kernel, by decide +kernel, by decide +kernel⟩,
    ⟨.spi, on, by decide +kernel, by decide +kernel, by decide +kernel⟩,
    ⟨.spi, on, by decide +kernel⟩,
    ⟨.spi, .normal, 0, (onWith [(Reg.LS_SETUP_ADDR, Fld.LS_SETUP_ADDR_WORD, 11)]), by decide +kernel, by decide +kernel⟩⟩

/-- The hypotheses of Obligations.FaultCommands have a state for each clause. -/
theorem test_hyps_FaultCommands_1 :
    (∃ (m : Master), ∃ (src : Fin 4096), ∃ (r : FaultRec), ∃ (s : State), (s.mayWrite m Reg.FC_ACK = true) ∧
    (Store.get? s.faults.recs src = some r) ∧ (r.cls < 2) ∧ ((m = .beacon ∨ s.helmHost = true))) ∧
    (∃ (m : Master), ∃ (src : Fin 4096), ∃ (s : State), (s.mayWrite m Reg.FC_ACK = true) ∧ (Store.get? s.faults.recs src = none)) ∧
    (∃ (m : Master), ∃ (d : Word), ∃ (s : State), (s.mayWrite m Reg.FC_FORCE = true) ∧ (Fld.FC_FORCE_GO.get d = 1) ∧
    (kindValid (Fld.FC_FORCE_SOURCE.get d) (Fld.FC_FORCE_KIND.get d) = true)) ∧
    (∃ (m : Master), ∃ (al : Alias), ∃ (d : Word), ∃ (r : FaultRec), ∃ (s : State), (s.mayWrite m Reg.FC_REC_SEL = true) ∧
    (Store.get? s.faults.recs (Fld.FC_REC_SEL_INDEX.get (s.newWord al Reg.FC_REC_SEL d)) = some r)) ∧
    (∃ (m : Master), ∃ (al : Alias), ∃ (d : Word), ∃ (r : FaultRec), ∃ (s : State), (s.mayWrite m Reg.FC_LOG_SEL = true) ∧
    (s.faults.history[Fld.FC_LOG_SEL_INDEX.get (s.newWord al Reg.FC_LOG_SEL d)]? = some r)) ∧
    (∃ (d : Word), ∃ (s : State), (s.mayWrite .beacon Reg.FC_WDT_KICK = true)) ∧
    (∃ (m : Master), ∃ (d : Word), ∃ (s : State), (s.mayWrite m Reg.FC_WDT_KICK = true) ∧ (m ≠ .beacon)) ∧
    (∃ (m : Master), ∃ (s : State), (s.mayWrite m Reg.FC_HELM_CMD = true) ∧ (s.helmPending = true)) ∧
    (∃ (m : Master), ∃ (s : State), (s.mayWrite m Reg.FC_HELM_CMD = true) ∧ (s.helmHost = true) ∧ (s.helmPending = false)) ∧
    (∃ (m : Master), ∃ (c : BitVec 16), ∃ (s : State), (s.mayWrite m Reg.FC_HELM_CMD = true) ∧ (c ≠ 0x4E1A)) ∧
    (∃ (m : Master), ∃ (s : State), (s.mayWrite m Reg.FC_HELM_CMD = true) ∧ (s.helmHost = true) ∧ (s.beaconRuns = true)) ∧
    (∃ (m : Master), ∃ (al : Alias), ∃ (d : Word), ∃ (n : Nat), ∃ (s : State), (s.mayWrite m Reg.TH_EXCLUDE = true) ∧ (n < 16) ∧
    (s.coveAwake n = true) ∧ (bitOf (Fld.TH_EXCLUDE_SENSORS.get (s.newWord al Reg.TH_EXCLUDE d)) n = true) ∧
    (bitOf (s.fld Reg.TH_EXCLUDE Fld.TH_EXCLUDE_SENSORS) n = false)) :=
  ⟨⟨.spi, 7, (⟨5, 7, 1, 1, 0, false, 0, 0⟩ : FaultRec),
     { (onWith [(Reg.FC_HELM_STATE, Fld.FC_HELM_STATE_HOLDER, 1)]) with faults := { recs := [(7, (⟨5, 7, 1, 1, 0, false, 0, 0⟩ : FaultRec))], history := [(⟨5, 7, 1, 1, 0, false, 0, 0⟩ : FaultRec)] } },
     by decide +kernel, by decide +kernel, by decide +kernel, by decide +kernel⟩,
    ⟨.spi, 0, on, by decide +kernel, by decide +kernel⟩,
    ⟨.spi, 0x80000001, on, by decide +kernel, by decide +kernel, by decide +kernel⟩,
    ⟨.spi, .normal, 7, (⟨5, 7, 1, 1, 0, false, 0, 0⟩ : FaultRec),
     { on with faults := { recs := [(7, (⟨5, 7, 1, 1, 0, false, 0, 0⟩ : FaultRec))], history := [(⟨5, 7, 1, 1, 0, false, 0, 0⟩ : FaultRec)] } },
     by decide +kernel, by decide +kernel⟩,
    ⟨.spi, .normal, 0, (⟨5, 7, 1, 1, 0, false, 0, 0⟩ : FaultRec),
     { on with faults := { recs := [(7, (⟨5, 7, 1, 1, 0, false, 0, 0⟩ : FaultRec))], history := [(⟨5, 7, 1, 1, 0, false, 0, 0⟩ : FaultRec)] } },
     by decide +kernel, by decide +kernel⟩,
    ⟨0, on, by decide +kernel⟩,
    ⟨.spi, 0, on, by decide +kernel, by decide +kernel⟩,
    ⟨.spi, (onWith [(Reg.FC_HELM_STATE, Fld.FC_HELM_STATE_PENDING, 1)]), by decide +kernel, by decide +kernel⟩,
    ⟨.spi, (onWith [(Reg.FC_HELM_STATE, Fld.FC_HELM_STATE_HOLDER, 1)]), by decide +kernel, by decide +kernel, by decide +kernel⟩,
    ⟨.spi, 0, on, by decide +kernel, by decide +kernel⟩,
    ⟨.spi, (onWith [(Reg.FC_HELM_STATE, Fld.FC_HELM_STATE_HOLDER, 1)]), by decide +kernel, by decide +kernel, by decide +kernel⟩,
    ⟨.spi, .normal, 1, 0, on, by decide +kernel, by decide +kernel, by decide +kernel, by decide +kernel, by decide +kernel⟩⟩

/-- The hypotheses of Obligations.FaultCommands have a state for each clause. -/
theorem test_hyps_FaultCommands_2 :
    ∃ (m : Master), ∃ (n : Nat), ∃ (s : State), (s.mayWrite m Reg.TH_EXCLUDE = true) ∧ (16 ≤ n) ∧ (n < 24) ∧
    (s.fld Reg.TH_EXCLUDE Fld.TH_EXCLUDE_SENSORS = 0) :=
  ⟨.spi, 23, on, by decide +kernel, by decide +kernel, by decide +kernel, by decide +kernel⟩

/-- The hypotheses of Obligations.PinRegisterCommands have a state for each clause. -/
theorem test_hyps_PinRegisterCommands :
    (∃ (m : Master), ∃ (al : Alias), ∃ (n : Fin 1536), ∃ (d : Word), ∃ (s : State), (s.mayWrite m (pinA n Reg.PS_LIM) = true)) ∧
    (∃ (m : Master), ∃ (al : Alias), ∃ (n : Fin 1536), ∃ (cur : Bool), ∃ (d : Word), ∃ (s : State),
    (s.mayWrite m (pinA n (if cur then Reg.PM_LIM_I else Reg.PM_LIM_V)) = true)) ∧
    (∃ (m : Master), ∃ (n : Fin 1536), ∃ (tg : Fin 8), ∃ (ring : Bool), ∃ (wake : Bool), ∃ (s : State), (s.mayWrite m (pinA n Reg.PS_EVT) = true)) ∧
    (∃ (m : Master), ∃ (n : Fin 1536), ∃ (tg : Fin 8), ∃ (ring : Bool), ∃ (wake : Bool), ∃ (s : State), (s.mayWrite m (pinA n Reg.PS_EVT) = true)) ∧
    (∃ (m : Master), ∃ (n : Fin 1536), ∃ (act : Fin 4), ∃ (present : Bool), ∃ (s : State), (s.mayWrite m (pinA n Reg.PS_BW_CTRL) = true)) ∧
    (∃ (m : Master), ∃ (al : Alias), ∃ (n : Fin 1536), ∃ (d : Word), ∃ (v : Word), ∃ (s : State),
    (s.mayWrite m (pinA n Reg.PM_FORCE_DIRECT) = true) ∧ (v = s.newWord al (pinA n Reg.PM_FORCE_DIRECT) d) ∧
    (Store.get? s.shadows (pinA n Reg.PM_FORCE) = none)) ∧
    (∃ (m : Master), ∃ (n : Fin 1536), ∃ (cfg : Word), ∃ (s : State), (s.mayWrite m (pinA n Reg.TD_CTRL) = true) ∧ (s.tdState n = 0) ∧
    (cfg = s.rd (pinA n Reg.TD_CFG)) ∧ (s.fld (pinA n Reg.TD_N) Fld.TD_N_N ≠ 0) ∧ (Fld.TD_CFG_MODE.get cfg ≠ 3) ∧ (Fld.TD_CFG_ARM.get cfg ≠ 3) ∧
    (¬ (Fld.TD_CFG_MODE.get cfg = 0 ∧ Fld.TD_CFG_ARM.get cfg = 0)) ∧ (Fld.TD_CFG_START_EDGE.get cfg ≠ 3) ∧ (Fld.TD_CFG_STOP_EDGE.get cfg ≠ 3) ∧
    (s.fld (pinA n Reg.PS_CMP_STATE) Fld.PS_CMP_STATE_MODE_EFF = 0)) ∧
    (∃ (m : Master), ∃ (n : Fin 1536), ∃ (s : State), (s.mayWrite m (pinA n Reg.TD_CTRL) = true) ∧ (s.tdState n ≠ 0)) :=
  ⟨⟨.spi, .normal, 0, 0, on, by decide +kernel⟩,
    ⟨.spi, .normal, 0, true, 0, on, by decide +kernel⟩,
    ⟨.spi, 0, 0, true, true, on, by decide +kernel⟩,
    ⟨.spi, 0, 0, true, true, on, by decide +kernel⟩,
    ⟨.spi, 0, 0, true, on, by decide +kernel⟩,
    ⟨.spi, .normal, 0, 0, _, on, by decide +kernel, rfl, by decide +kernel⟩,
    ⟨.spi, 1535, _, (onWith [(pinA 1535 Reg.TD_CFG, Fld.TD_CFG_MODE, 1), (pinA 1535 Reg.PS_CMP_STATE, Fld.PS_CMP_STATE_MODE_EFF, 0)]),
     by decide +kernel, by decide +kernel, rfl, by decide +kernel, by decide +kernel, by decide +kernel, by decide +kernel, by decide +kernel,
     by decide +kernel, by decide +kernel⟩,
    ⟨.spi, 1535, (onWith [(pinA 1535 Reg.TD_STAT, Fld.TD_STAT_STATE, 1)]), by decide +kernel, by decide +kernel⟩⟩

/-- The hypotheses of Obligations.StrandTables have a state for each clause. -/
theorem test_hyps_StrandTables :
    (∃ (m : Master), ∃ (al : Alias), ∃ (k : Fin 192), ∃ (d : Word), ∃ (s : State), (s.mayWrite m (strandA k Reg.WV_DATA) = true)) ∧
    (∃ (m : Master), ∃ (al : Alias), ∃ (k : Fin 192), ∃ (e : Fin 6), ∃ (d : Word), ∃ (s : State),
    (s.mayWrite m (strandA k (Reg.ED_E0 + 4 * e)) = true)) ∧
    (∃ (m : Master), ∃ (al : Alias), ∃ (k : Fin 192), ∃ (d : Word), ∃ (s : State), (s.mayWrite m (strandA k Reg.SQ_BT_DATA) = true)) ∧
    (∃ (m : Master), ∃ (al : Alias), ∃ (k : Fin 192), ∃ (d : Word), ∃ (tab : Nat), ∃ (i : Nat), ∃ (size : Nat), ∃ (width : Nat), ∃ (s : State),
    (s.mayWrite m (strandA k Reg.AG_TAB_DATA) = true) ∧ (tab = s.fld (strandA k Reg.AG_TAB_ADDR) Fld.AG_TAB_ADDR_TABLE) ∧
    (i = s.fld (strandA k Reg.AG_TAB_ADDR) Fld.AG_TAB_ADDR_INDEX) ∧ (agTable tab = some (size, width))) ∧
    (∃ (m : Master), ∃ (al : Alias), ∃ (k : Fin 192), ∃ (d : Word), ∃ (s : State), (s.mayWrite m (strandA k Reg.SG_TAB_DATA) = true)) ∧
    (∃ (m : Master), ∃ (al : Alias), ∃ (k : Fin 192), ∃ (d : Word), ∃ (s : State), (s.mayWrite m (strandA k Reg.FL_DIE) = true)) ∧
    (∃ (m : Master), ∃ (k : Fin 192), ∃ (s : State), (s.mayWrite m (strandA k Reg.FL_CMD) = true)) :=
  ⟨⟨.spi, .normal, 0, 0, on, by decide +kernel⟩,
    ⟨.spi, .normal, 0, 0, 0, on, by decide +kernel⟩,
    ⟨.spi, .normal, 0, 0, on, by decide +kernel⟩,
    ⟨.spi, .normal, 0, 0, _, _, _, _, on, by decide +kernel, rfl, rfl, rfl⟩,
    ⟨.spi, .normal, 0, 0, on, by decide +kernel⟩,
    ⟨.spi, .normal, 0, 0, on, by decide +kernel⟩,
    ⟨.spi, 0, on, by decide +kernel⟩⟩

/-- The hypotheses of Obligations.StrandRegisterCommands have a state for each clause. -/
theorem test_hyps_StrandRegisterCommands :
    (∃ (m : Master), ∃ (k : Fin 192), ∃ (s : State), (s.mayWrite m (strandA k Reg.SQ_CMD) = true) ∧ ((s.sqState k = 1 ∨ s.sqState k = 2))) ∧
    (∃ (m : Master), ∃ (k : Fin 192), ∃ (s : State), (s.mayWrite m (strandA k Reg.SQ_CMD) = true) ∧ (s.sqState k = 3)) ∧
    (∃ (m : Master), ∃ (k : Fin 192), ∃ (s : State), (s.mayWrite m (strandA k Reg.SQ_CMD) = true) ∧ (s.sqState k = 0)) ∧
    (∃ (m : Master), ∃ (k : Fin 192), ∃ (s : State), (s.mayWrite m (strandA k Reg.SQ_CMD) = true) ∧ (s.sqState k = 4) ∧ (s.role k ≠ 2)) ∧
    (∃ (m : Master), ∃ (k : Fin 192), ∃ (s : State), (s.mayWrite m (strandA k Reg.SQ_CMD) = true) ∧ ((s.sqState k = 0 ∨ s.sqState k = 5))) ∧
    (∃ (m : Master), ∃ (k : Fin 192), ∃ (s : State), (s.mayWrite m (strandA k Reg.AQ_CTRL) = true) ∧ (s.aqState k = 0) ∧
    ((Fld.AQ_CFG_SRC.get (s.sq k Reg.AQ_CFG) = 1 ∨ Fld.AQ_CFG_SRC.get (s.sq k Reg.AQ_CFG) = 2)) ∧
    ((Fld.AQ_CFG_TSRC.get (s.sq k Reg.AQ_CFG) = 0 ∨ Fld.AQ_CFG_TSRC.get (s.sq k Reg.AQ_CFG) = 2))) ∧
    (∃ (m : Master), ∃ (k : Fin 192), ∃ (s : State), (s.mayWrite m (strandA k Reg.AQ_CTRL) = true) ∧ (s.aqState k ≠ 0)) ∧
    (∃ (m : Master), ∃ (k : Fin 192), ∃ (s : State), (s.mayWrite m (strandA k Reg.AQ_CTRL) = true)) ∧
    (∃ (m : Master), ∃ (k : Fin 192), ∃ (s : State), (s.mayWrite m (strandA k Reg.AQ_CTRL) = true)) ∧
    (∃ (m : Master), ∃ (k : Fin 192), ∃ (s : State), (s.mayWrite m (strandA k Reg.AQ_CTRL) = true) ∧ ((s.aqState k = 2 ∨ s.aqState k = 3))) :=
  ⟨⟨.spi, 191, (onWith [(strandA 191 Reg.SQ_STATE, Fld.SQ_STATE_STATE, 2)]), by decide +kernel, by decide +kernel⟩,
    ⟨.spi, 0, (onWith [(strandA 0 Reg.SQ_STATE, Fld.SQ_STATE_STATE, 3)]), by decide +kernel, by decide +kernel⟩,
    ⟨.spi, 0, on, by decide +kernel, by decide +kernel⟩,
    ⟨.spi, 0, (onWith [(strandA 0 Reg.SQ_STATE, Fld.SQ_STATE_STATE, 4)]), by decide +kernel, by decide +kernel, by decide +kernel⟩,
    ⟨.spi, 0, on, by decide +kernel, by decide +kernel⟩,
    ⟨.spi, 0, (onWith [(strandA 0 Reg.AQ_CFG, Fld.AQ_CFG_SRC, 2), (strandA 0 Reg.AQ_CFG, Fld.AQ_CFG_TSRC, 2)]), by decide +kernel, by decide +kernel,
     by decide +kernel, by decide +kernel⟩,
    ⟨.spi, 0, (onWith [(strandA 0 Reg.AQ_STAT, Fld.AQ_STAT_STATE, 3)]), by decide +kernel, by decide +kernel⟩,
    ⟨.spi, 0, on, by decide +kernel⟩,
    ⟨.spi, 0, on, by decide +kernel⟩,
    ⟨.spi, 0, (onWith [(strandA 0 Reg.AQ_STAT, Fld.AQ_STAT_STATE, 2)]), by decide +kernel, by decide +kernel⟩⟩

/-- The hypotheses of Obligations.JournalCommands have a state for each clause. -/
theorem test_hyps_JournalCommands :
    (∃ (m : Master), ∃ (s : State), (s.mayWrite m Reg.FL_DEV_CMD = true) ∧ (s.activeTest = false)) ∧
    (∃ (m : Master), ∃ (s : State), (s.mayWrite m Reg.FL_DEV_CMD = true) ∧ (s.activeTest = true)) ∧
    (∃ (m : Master), ∃ (s : State), (s.mayWrite m Reg.FL_DEV_CMD = true) ∧ (s.activeTest = false)) ∧
    (∃ (m : Master), ∃ (d : BitVec 16), ∃ (s : State), (s.mayWrite m Reg.SP_CMD = true)) ∧
    (∃ (m : Master), ∃ (s : State), (s.mayWrite m Reg.SP_CMD = true)) ∧
    (∃ (m : Master), ∃ (d : BitVec 16), ∃ (s : State), (s.mayWrite m Reg.SP_CMD = true)) ∧
    (∃ (m : Master), ∃ (s : State), (s.mayWrite m Reg.PL_CMD = true) ∧ (s.activeTest = false) ∧ (s.place.making = none)) ∧
    (∃ (m : Master), ∃ (s : State), (s.mayWrite m Reg.PL_CMD = true) ∧ (s.activeTest = true)) :=
  ⟨⟨.spi, on, by decide +kernel, by decide +kernel⟩,
    ⟨.spi, { onWith [(strandA 5 Reg.SQ_STATE, Fld.SQ_STATE_STATE, 1)] with strands := [(5, {})] }, by decide +kernel, by decide +kernel⟩,
    ⟨.spi, on, by decide +kernel, by decide +kernel⟩,
    ⟨.spi, 0, on, by decide +kernel⟩,
    ⟨.spi, on, by decide +kernel⟩,
    ⟨.spi, 0, on, by decide +kernel⟩,
    ⟨.spi, on, by decide +kernel, by decide +kernel, by decide +kernel⟩,
    ⟨.spi, { onWith [(strandA 5 Reg.SQ_STATE, Fld.SQ_STATE_STATE, 1)] with strands := [(5, {})] }, by decide +kernel, by decide +kernel⟩⟩

/-- The hypotheses of Obligations.CalibrationCommands have a state for each clause. -/
theorem test_hyps_CalibrationCommands :
    (∃ (m : Master), ∃ (k : Fin 256), ∃ (pins : BitVec 8), ∃ (ctx : Fin 4), ∃ (s : State), (s.mayWrite m Reg.CB_CMD = true) ∧
    (s.calRefusal k 1 0 pins.toNat = 0)) ∧
    (∃ (m : Master), ∃ (k : Fin 256), ∃ (pins : BitVec 8), ∃ (ctx : Fin 4), ∃ (s : State), (s.mayWrite m Reg.CB_CMD = true) ∧
    (s.calRefusal k 2 0 pins.toNat = 0)) ∧
    (∃ (m : Master), ∃ (k : Fin 256), ∃ (pins : BitVec 8), ∃ (ctx : Fin 4), ∃ (s : State), (s.mayWrite m Reg.CB_CMD = true) ∧
    (s.calRefusal k 3 0 pins.toNat = 0)) ∧
    (∃ (m : Master), ∃ (k : Fin 256), ∃ (pins : BitVec 8), ∃ (ctx : Fin 4), ∃ (src : Fin 8), ∃ (s : State), (s.mayWrite m Reg.CB_CMD = true) ∧
    (s.calRefusal k 4 src pins.toNat = 0)) ∧
    (∃ (m : Master), ∃ (k : Fin 256), ∃ (pins : BitVec 8), ∃ (ctx : Fin 4), ∃ (src : Fin 8), ∃ (s : State), (s.mayWrite m Reg.CB_CMD = true) ∧
    (s.calRefusal k 5 src pins.toNat = 0)) ∧
    (∃ (m : Master), ∃ (k : Fin 256), ∃ (pins : BitVec 8), ∃ (ctx : Fin 4), ∃ (s : State), (s.mayWrite m Reg.CB_CMD = true) ∧
    (s.calRefusal k 1 0 pins.toNat ≠ 0)) ∧
    (∃ (m : Master), ∃ (k : Fin 256), ∃ (r : CalRun), ∃ (s : State), (s.mayWrite m Reg.CB_CMD = true) ∧ (Store.get? s.calRuns (coveOf k) = some r) ∧
    (r.strand = k)) ∧
    (∃ (m : Master), ∃ (al : Alias), ∃ (d : Word), ∃ (s : State), (s.mayWrite m Reg.CB_DATA = true) ∧ (s.cbPin < 1536) ∧ (s.cbItem < 0x2D)) ∧
    (∃ (m : Master), ∃ (s : State), (s.mayWrite m Reg.CB_COMMIT = true) ∧ (s.beaconRuns = true) ∧ (s.calRuns = []) ∧
    (s.flag Reg.CB_BUSY Fld.CB_BUSY_COMMIT = false)) ∧
    (∃ (m : Master), ∃ (r : Nat × CalRun), ∃ (s : State), (s.mayWrite m Reg.CB_COMMIT = true) ∧ (s.calRuns = [r])) :=
  ⟨⟨.spi, 0, 0, 0, on, by decide +kernel, by decide +kernel⟩,
    ⟨.spi, 0, 0, 0, on, by decide +kernel, by decide +kernel⟩,
    ⟨.spi, 0, 0, 0, on, by decide +kernel, by decide +kernel⟩,
    ⟨.spi, 0, 0, 0, 0, on, by decide +kernel, by decide +kernel⟩,
    ⟨.spi, 0, 0, 0, 0, on, by decide +kernel, by decide +kernel⟩,
    ⟨.spi, 192, 0, 0, on, by decide +kernel, by decide +kernel⟩,
    ⟨.spi, 0, (⟨0, 1, 0, 0, 255, 0, none⟩ : CalRun), { on with calRuns := [(0, (⟨0, 1, 0, 0, 255, 0, none⟩ : CalRun))] }, by decide +kernel,
     by decide +kernel, by decide +kernel⟩,
    ⟨.spi, .normal, 0, (onWith [(Reg.CB_ADDR, Fld.CB_ADDR_PIN, 1535), (Reg.CB_ADDR, Fld.CB_ADDR_ITEM, 44)]), by decide +kernel, by decide +kernel,
     by decide +kernel⟩,
    ⟨.spi, on, by decide +kernel, by decide +kernel, by decide +kernel, by decide +kernel⟩,
    ⟨.spi, (0, (⟨0, 1, 0, 0, 255, 0, none⟩ : CalRun)), { on with calRuns := [(0, (⟨0, 1, 0, 0, 255, 0, none⟩ : CalRun))] }, by decide +kernel, rfl⟩⟩

/-- The hypotheses of Obligations.LinkRegisterCommands have a state for each clause. -/
theorem test_hyps_LinkRegisterCommands :
    (∃ (m : Master), ∃ (q : Fin 64), ∃ (cfg : Word), ∃ (v : Word), ∃ (s : State), (s.mayWrite m (qpA q Reg.HT_QP_CTRL) = true) ∧
    (s.fld (qpA q Reg.HT_QP_CTRL) Fld.HT_QP_CTRL_STATE = 0) ∧ (s.qpSetup q = true) ∧
    (v = (s.rd (qpA q Reg.HT_QP_CTRL) &&& ~~~ qpCtrlMask) ||| (Fld.HT_QP_CTRL_EN.put cfg 1 &&& qpCtrlMask))) ∧
    (∃ (m : Master), ∃ (q : Fin 64), ∃ (cfg : Word), ∃ (s : State), (s.mayWrite m (qpA q Reg.HT_QP_CTRL) = true) ∧
    (s.fld (qpA q Reg.HT_QP_CTRL) Fld.HT_QP_CTRL_STATE = 0) ∧ (s.qpSetup q = false)) ∧
    (∃ (m : Master), ∃ (q : Fin 64), ∃ (cfg : Word), ∃ (s : State), (s.mayWrite m (qpA q Reg.HT_QP_CTRL) = true) ∧
    (s.fld (qpA q Reg.HT_QP_CTRL) Fld.HT_QP_CTRL_STATE = 1) ∧ (s.rd (qpA q Reg.HT_QP_CTRL) = cfg)) ∧
    (∃ (m : Master), ∃ (s : State), (s.mayWrite m Reg.RG_CMD = true)) ∧
    (∃ (m : Master), ∃ (s : State), (s.mayWrite m Reg.RG_CMD = true) ∧ (allStrands.all (fun k => s.sqState k == 0 || s.sqState k == 5) = true) ∧
    (s.flag Reg.RG_STATE Fld.RG_STATE_SLACK = true)) ∧
    (∃ (m : Master), ∃ (s : State), (s.mayWrite m Reg.RG_CMD = true) ∧ (allStrands.all (fun k => s.sqState k == 0 || s.sqState k == 5) = false)) ∧
    (∃ (m : Master), ∃ (v : Word), ∃ (s : State), (s.mayWrite m Reg.RG_BYPASS = true) ∧ (v = s.newWord .normal Reg.RG_BYPASS 0xB7A50001)) ∧
    (∃ (m : Master), ∃ (al : Alias), ∃ (rate : Bool), ∃ (d : Word), ∃ (s : State),
    (s.mayWrite m (if rate then Reg.TL_AGE_RATE else Reg.TL_AGE_TRIM) = true)) ∧
    (∃ (m : Master), ∃ (s : State), (s.mayWrite m Reg.TL_CMD = true) ∧ (s.tlSource = 0) ∧ (s.scheduleHeld = false)) ∧
    (∃ (m : Master), ∃ (s : State), (s.mayWrite m Reg.TL_CMD = true) ∧ (s.scheduleHeld = true)) ∧
    (∃ (m : Master), ∃ (s : State), (s.mayWrite m Reg.TL_CMD = true) ∧ (s.flag Reg.TL_CTRL Fld.TL_CTRL_MASTER = true) ∧ (s.ringWhole = true)) :=
  ⟨⟨.spi, 63, 0, _,
     (onWith [(qpA 63 Reg.HT_QP_PEER, Fld.HT_QP_PEER_VALUE, 1), (qpA 63 Reg.HT_QP_IP, Fld.HT_QP_PEER_VALUE, 1), (qpA 63 Reg.HT_QP_RING, Fld.HT_QP_RING_CMD_LOG2, 4), (qpA 63 Reg.HT_QP_RING, Fld.HT_QP_RING_CPL_LOG2, 16)]),
     by decide +kernel, by decide +kernel, by decide +kernel, rfl⟩,
    ⟨.spi, 63, 0, on, by decide +kernel, by decide +kernel, by decide +kernel⟩,
    ⟨.spi, 0, _, on, by decide +kernel, by decide +kernel, rfl⟩,
    ⟨.spi, on, by decide +kernel⟩,
    ⟨.spi, (onWith [(Reg.RG_STATE, Fld.RG_STATE_SLACK, 1)]), by decide +kernel, by decide +kernel, by decide +kernel⟩,
    ⟨.spi, { onWith [(strandA 5 Reg.SQ_STATE, Fld.SQ_STATE_STATE, 1)] with strands := [(5, {})] }, by decide +kernel, by decide +kernel⟩,
    ⟨.spi, _, on, by decide +kernel, rfl⟩,
    ⟨.spi, .normal, true, 0, on, by decide +kernel⟩,
    ⟨.spi, on, by decide +kernel, by decide +kernel, by decide +kernel⟩,
    ⟨.spi, { onWith [(strandA 5 Reg.SQ_STATE, Fld.SQ_STATE_STATE, 1)] with strands := [(5, {})] }, by decide +kernel, by decide +kernel⟩,
    ⟨.spi, (onWith [(Reg.TL_CTRL, Fld.TL_CTRL_MASTER, 1)]), by decide +kernel, by decide +kernel, by decide +kernel⟩⟩

/-- The hypotheses of Obligations.PlainFlow have a state for each clause. -/
theorem test_hyps_PlainFlow :
    (∃ (k : Fin 192), ∃ (w : Word64), ∃ (t : Strand), ∃ (s : State), ∃ (s1 : State), ∃ (per : Nat), (s.atWord k w) ∧ (t = s.strand k) ∧
    (s.issue k w = (s1, per)) ∧ (flowOp (wordOp w) = .next)) ∧
    (∃ (k : Fin 192), ∃ (w : Word64), ∃ (t : Strand), ∃ (s : State), ∃ (s1 : State), ∃ (per : Nat), (s.atWord k w) ∧ (t = s.strand k) ∧
    (s.issue k w = (s1, per)) ∧ (flowOp (wordOp w) = .trig)) ∧
    (∃ (k : Fin 192), ∃ (w : Word64), ∃ (t : Strand), ∃ (s : State), ∃ (s1 : State), ∃ (per : Nat), (s.atWord k w) ∧ (t = s.strand k) ∧
    (s.issue k w = (s1, per)) ∧ (flowOp (wordOp w) = .mark)) ∧
    (∃ (k : Fin 192), ∃ (w : Word64), ∃ (t : Strand), ∃ (s : State), ∃ (s1 : State), ∃ (per : Nat), (s.atWord k w) ∧ (t = s.strand k) ∧
    (s.issue k w = (s1, per)) ∧ (flowOp (wordOp w) = .rpt) ∧ ∃ n, (t.rptLeft.getD (wordOpnd w + 1) = n)) ∧
    (∃ (k : Fin 192), ∃ (w : Word64), ∃ (t : Strand), ∃ (s : State), ∃ (s1 : State), ∃ (per : Nat), (s.atWord k w) ∧ (t = s.strand k) ∧
    (s.issue k w = (s1, per)) ∧ (flowOp (wordOp w) = .loopBegin) ∧ (t.rptLeft = none) ∧ (t.loops.length < 8) ∧ (wordOpnd w ≠ 0) ∧ ∃ n,
    (s1.seqNext k t.pos t.loops t.calls = n)) ∧
    (∃ (k : Fin 192), ∃ (w : Word64), ∃ (t : Strand), ∃ (s : State), ∃ (s1 : State), ∃ (per : Nat), (s.atWord k w) ∧ (t = s.strand k) ∧
    (s.issue k w = (s1, per)) ∧ (flowOp (wordOp w) = .loopBegin) ∧ (t.rptLeft = none) ∧ (t.loops.length < 8) ∧ (wordOpnd w = 0) ∧ ∃ c, ∃ m,
    (s.closing t.pos = some (c, m))) ∧
    (∃ (k : Fin 192), ∃ (w : Word64), ∃ (t : Strand), ∃ (s : State), ∃ (s1 : State), ∃ (per : Nat), (s.atWord k w) ∧ (t = s.strand k) ∧
    (s.issue k w = (s1, per)) ∧ (flowOp (wordOp w) = .loopEnd) ∧ (t.rptLeft = none) ∧ ∃ f, ∃ rest, (t.loops = f :: rest)) ∧
    (∃ (k : Fin 192), ∃ (w : Word64), ∃ (t : Strand), ∃ (s : State), ∃ (s1 : State), ∃ (per : Nat), (s.atWord k w) ∧ (t = s.strand k) ∧
    (s.issue k w = (s1, per)) ∧ (flowOp (wordOp w) = .call) ∧ (t.rptLeft = none) ∧ (t.calls.length < 8)) ∧
    (∃ (k : Fin 192), ∃ (w : Word64), ∃ (t : Strand), ∃ (s : State), ∃ (s1 : State), ∃ (per : Nat), (s.atWord k w) ∧ (t = s.strand k) ∧
    (s.issue k w = (s1, per)) ∧ (flowOp (wordOp w) = .ret) ∧ (t.rptLeft = none) ∧ ∃ c, ∃ rest, (t.calls = c :: rest) ∧ (t.loops.length ≤ c.depth)) ∧
    (∃ (k : Fin 192), ∃ (w : Word64), ∃ (t : Strand), ∃ (s : State), ∃ (s1 : State), ∃ (per : Nat), (s.atWord k w) ∧ (t = s.strand k) ∧
    (s.issue k w = (s1, per)) ∧ (flowOp (wordOp w) = .jmp)) ∧
    (∃ (k : Fin 192), ∃ (w : Word64), ∃ (t : Strand), ∃ (s : State), ∃ (s1 : State), ∃ (per : Nat), (s.atWord k w) ∧ (t = s.strand k) ∧
    (s.issue k w = (s1, per)) ∧ (flowOp (wordOp w) = .park)) ∧
    (∃ (k : Fin 192), ∃ (w : Word64), ∃ (t : Strand), ∃ (s : State), ∃ (s1 : State), ∃ (per : Nat), (s.atWord k w) ∧ (t = s.strand k) ∧
    (s.issue k w = (s1, per)) ∧ (flowOp (wordOp w) = .halt)) :=
  ⟨⟨0, stepWord 0x0 0, _, (atWordOf (stepWord 0x0 0) {}), _, _, by unfold State.atWord; decide +kernel, rfl, rfl, by decide +kernel⟩,
    ⟨0, stepWord 0x12 0, _, (atWordOf (stepWord 0x12 0) {}), _, _, by unfold State.atWord; decide +kernel, rfl, rfl, by decide +kernel⟩,
    ⟨0, stepWord 0x14 0, _, (atWordOf (stepWord 0x14 0) {}), _, _, by unfold State.atWord; decide +kernel, rfl, rfl, by decide +kernel⟩,
    ⟨0, stepWord 0x2 65535, _, (atWordOf (stepWord 0x2 65535) {}), _, _, by unfold State.atWord; decide +kernel, rfl, rfl, by decide +kernel, _, rfl⟩,
    ⟨0, stepWord 0x4 1, _, (atWordOf (stepWord 0x4 1) { loops := List.replicate 7 ⟨⟨0, 0⟩, 1, 0, none⟩ }), _, _,
     by unfold State.atWord; decide +kernel, rfl, rfl, by decide +kernel, by decide +kernel, by decide +kernel, by decide +kernel, _, rfl⟩,
    ⟨0, stepWord 0x4 0, _, (atWordOf (stepWord 0x4 0) {}), _, _, by unfold State.atWord; decide +kernel, rfl, rfl, by decide +kernel,
     by decide +kernel, by decide +kernel, by decide +kernel, _, _, rfl⟩,
    ⟨0, stepWord 0x6 0, _, (atWordOf (stepWord 0x6 0) { loops := [⟨⟨0, 0⟩, 1, 0, some 0⟩] }), _, _, by unfold State.atWord; decide +kernel, rfl, rfl,
     by decide +kernel, by decide +kernel, _, _, rfl⟩,
    ⟨0, stepWord 0x8 0, _, (atWordOf (stepWord 0x8 0) { calls := List.replicate 7 ⟨⟨0, 0⟩, 0⟩ }), _, _, by unfold State.atWord; decide +kernel, rfl,
     rfl, by decide +kernel, by decide +kernel, by decide +kernel⟩,
    ⟨0, stepWord 0xA 0, _, (atWordOf (stepWord 0xA 0) { calls := [⟨⟨0, 0⟩, 1⟩], loops := [⟨⟨0, 0⟩, 1, 0, some 0⟩] }), _, _,
     by unfold State.atWord; decide +kernel, rfl, rfl, by decide +kernel, by decide +kernel, _, _, rfl, by decide +kernel⟩,
    ⟨0, stepWord 0xC 0, _, (atWordOf (stepWord 0xC 0) {}), _, _, by unfold State.atWord; decide +kernel, rfl, rfl, by decide +kernel⟩,
    ⟨0, stepWord 0x18 0, _, (atWordOf (stepWord 0x18 0) {}), _, _, by unfold State.atWord; decide +kernel, rfl, rfl, by decide +kernel⟩,
    ⟨0, stepWord 0x1A 0, _, (atWordOf (stepWord 0x1A 0) {}), _, _, by unfold State.atWord; decide +kernel, rfl, rfl, by decide +kernel⟩⟩

/-- The hypotheses of Obligations.StepChecks have a state for each clause. -/
theorem test_hyps_StepChecks :
    (∃ (k : Fin 192), ∃ (w : Word64), ∃ (t : Strand), ∃ (s : State), (s.atWord k w) ∧ (t = s.strand k) ∧ (t.rptLeft = none) ∧
    (flowOp (wordOp w) = .reserved)) ∧
    (∃ (k : Fin 192), ∃ (w : Word64), ∃ (t : Strand), ∃ (s : State), (s.atWord k w) ∧ (t = s.strand k) ∧ (t.rptLeft = none) ∧
    (flowOp (wordOp w) = .jif) ∧ (9 ≤ jifCond w)) ∧
    (∃ (k : Fin 192), ∃ (w : Word64), ∃ (t : Strand), ∃ (s : State), (s.atWord k w) ∧ (t = s.strand k) ∧ (t.rptLeft = none) ∧
    (flowOp (wordOp w) = .loopBegin) ∧ (8 ≤ t.loops.length)) ∧
    (∃ (k : Fin 192), ∃ (w : Word64), ∃ (t : Strand), ∃ (s : State), (s.atWord k w) ∧ (t = s.strand k) ∧ (t.rptLeft = none) ∧
    (flowOp (wordOp w) = .call) ∧ (8 ≤ t.calls.length)) ∧
    (∃ (k : Fin 192), ∃ (w : Word64), ∃ (t : Strand), ∃ (s : State), (s.atWord k w) ∧ (t = s.strand k) ∧ (t.rptLeft = none) ∧
    (flowOp (wordOp w) = .loopEnd) ∧ (t.loops = [])) ∧
    (∃ (k : Fin 192), ∃ (w : Word64), ∃ (t : Strand), ∃ (s : State), (s.atWord k w) ∧ (t = s.strand k) ∧ (t.rptLeft = none) ∧
    (flowOp (wordOp w) = .match_) ∧ (t.loops = [])) ∧
    (∃ (k : Fin 192), ∃ (w : Word64), ∃ (t : Strand), ∃ (s : State), (s.atWord k w) ∧ (t = s.strand k) ∧ (t.rptLeft = none) ∧
    (flowOp (wordOp w) = .ret) ∧ (t.calls = [])) ∧
    (∃ (k : Fin 192), ∃ (w : Word64), ∃ (t : Strand), ∃ (s : State), (s.atWord k w) ∧ (t = s.strand k) ∧ (t.rptLeft = none) ∧
    (flowOp (wordOp w) = .ret) ∧ ∃ c, ∃ rest, (t.calls = c :: rest) ∧ (c.depth < t.loops.length)) :=
  ⟨⟨0, stepWord 0x3E 0, _, (atWordOf (stepWord 0x3E 0) {}), by unfold State.atWord; decide +kernel, rfl, by decide +kernel, by decide +kernel⟩,
    ⟨0, stepWord 0xE 9216, _, (atWordOf (stepWord 0xE 9216) {}), by unfold State.atWord; decide +kernel, rfl, by decide +kernel, by decide +kernel,
     by decide +kernel⟩,
    ⟨0, stepWord 0x4 1, _, (atWordOf (stepWord 0x4 1) { loops := List.replicate 8 ⟨⟨0, 0⟩, 1, 0, none⟩ }), by unfold State.atWord; decide +kernel,
     rfl, by decide +kernel, by decide +kernel, by decide +kernel⟩,
    ⟨0, stepWord 0x8 0, _, (atWordOf (stepWord 0x8 0) { calls := List.replicate 8 ⟨⟨0, 0⟩, 0⟩ }), by unfold State.atWord; decide +kernel, rfl,
     by decide +kernel, by decide +kernel, by decide +kernel⟩,
    ⟨0, stepWord 0x6 0, _, (atWordOf (stepWord 0x6 0) {}), by unfold State.atWord; decide +kernel, rfl, by decide +kernel, by decide +kernel,
     by decide +kernel⟩,
    ⟨0, stepWord 0x10 0, _, (atWordOf (stepWord 0x10 0) {}), by unfold State.atWord; decide +kernel, rfl, by decide +kernel, by decide +kernel,
     by decide +kernel⟩,
    ⟨0, stepWord 0xA 0, _, (atWordOf (stepWord 0xA 0) {}), by unfold State.atWord; decide +kernel, rfl, by decide +kernel, by decide +kernel,
     by decide +kernel⟩,
    ⟨0, stepWord 0xA 0, _, (atWordOf (stepWord 0xA 0) { calls := [⟨⟨0, 0⟩, 0⟩], loops := [⟨⟨0, 0⟩, 1, 0, some 0⟩] }),
     by unfold State.atWord; decide +kernel, rfl, by decide +kernel, by decide +kernel, _, _, rfl, by decide +kernel⟩⟩

/-- The hypotheses of Obligations.JifAndMatch have a state for each clause. -/
theorem test_hyps_JifAndMatch :
    (∃ (k : Fin 192), ∃ (w : Word64), ∃ (t : Strand), ∃ (s : State), ∃ (s1 : State), ∃ (s2 : State), ∃ (grp : List Nat), ∃ (win : Nat),
    ∃ (per : Nat), ∃ (taken : Bool), ∃ (n : Next), (s.atWord k w) ∧ (t = s.strand k) ∧ (t.rptLeft = none) ∧ (flowOp (wordOp w) = .jif) ∧
    (jifCond w < 9) ∧ ((s.groupMode k w = true ∨ s.crew k = [k.val])) ∧ (grp = s.crew k) ∧ (win = s.resultWindow k t.nextAt) ∧
    (taken = xor (bitOf (wordOpnd w) 15) (s.jifTest k win (jifCond w) grp)) ∧
    (s1 = (if bitOf (wordOpnd w) 14 then s.jifClear k win (jifCond w) grp else s)) ∧ (s1.issue k w = (s2, per)) ∧
    (n = (if taken then s2.jumpNext k t.pos (s2.branchTarget k (wordOpnd w % 1024)) t.loops t.calls else s2.seqNext k t.pos t.loops t.calls))) ∧
    (∃ (k : Fin 192), ∃ (w : Word64), ∃ (t : Strand), ∃ (s : State), ∃ (crew : List Nat), ∃ (f : LoopFrame), ∃ (rest : List LoopFrame), ∃ (b : Nat), ∃ (win : Nat), ∃ (g : Bool), (s.atWord k w) ∧ (t = s.strand k) ∧ (t.rptLeft = none) ∧ (flowOp (wordOp w) = .match_) ∧ (crew = s.crew k) ∧ (g = s.groupMode k w) ∧ ((g = true ∨ crew = [k.val])) ∧ (t.loops = f :: rest) ∧ (f.block = some b) ∧ (win = s.resultWindow k t.nextAt) ∧ let first (x : State) (j : Nat) : State := x.modStrand j (fun u =>
      { u with matchFirst := if (Store.get? u.matchFirst b).isSome then u.matchFirst else Store.put u.matchFirst b (f.ran + 1) })
      let leave (x : State) (j : Nat) : State := x.modStrand j (fun u =>
      let lost := (u.recs.filter (fun r => r.block == some b)).flatMap (fun r => r.fails.map (fun e => e.t))
      let u1 := { u with recs := u.recs.map (fun (r : StepRec) => if r.block = some b then { r with block := blockIn rest, late := true } else r) }
      if (blockIn rest).isNone then u1.setFail lost else u1)
      let s1 := if g then (crew.filter (fun j => (s.blockFails j b win).isEmpty)).foldl first s else s
      ((∀ j ∈ crew, s.blockFails j b win = [])) ∧ ∃ s2, ∃ per, ((crew.foldl (fun x j => x.closeIteration j b win true (blockIn rest)) s1).issue k w = (s2, per))) ∧
    (∃ (k : Fin 192), ∃ (w : Word64), ∃ (t : Strand), ∃ (s : State), ∃ (crew : List Nat), ∃ (f : LoopFrame), ∃ (rest : List LoopFrame), ∃ (b : Nat), ∃ (win : Nat), ∃ (g : Bool), (s.atWord k w) ∧ (t = s.strand k) ∧ (t.rptLeft = none) ∧ (flowOp (wordOp w) = .match_) ∧ (crew = s.crew k) ∧ (g = s.groupMode k w) ∧ ((g = true ∨ crew = [k.val])) ∧ (t.loops = f :: rest) ∧ (f.block = some b) ∧ (win = s.resultWindow k t.nextAt) ∧ let first (x : State) (j : Nat) : State := x.modStrand j (fun u =>
      { u with matchFirst := if (Store.get? u.matchFirst b).isSome then u.matchFirst else Store.put u.matchFirst b (f.ran + 1) })
      let leave (x : State) (j : Nat) : State := x.modStrand j (fun u =>
      let lost := (u.recs.filter (fun r => r.block == some b)).flatMap (fun r => r.fails.map (fun e => e.t))
      let u1 := { u with recs := u.recs.map (fun (r : StepRec) => if r.block = some b then { r with block := blockIn rest, late := true } else r) }
      if (blockIn rest).isNone then u1.setFail lost else u1)
      let s1 := if g then (crew.filter (fun j => (s.blockFails j b win).isEmpty)).foldl first s else s
      ((∃ j ∈ crew, s.blockFails j b win ≠ [])) ∧ (1 < f.left) ∧ ∃ s2, ∃ per, ((crew.foldl (fun x j => x.closeIteration j b win false (blockIn rest)) s1).issue k w = (s2, per))) ∧
    (∃ (k : Fin 192), ∃ (w : Word64), ∃ (t : Strand), ∃ (s : State), ∃ (crew : List Nat), ∃ (f : LoopFrame), ∃ (rest : List LoopFrame), ∃ (b : Nat), ∃ (win : Nat), ∃ (g : Bool), (s.atWord k w) ∧ (t = s.strand k) ∧ (t.rptLeft = none) ∧ (flowOp (wordOp w) = .match_) ∧ (crew = s.crew k) ∧ (g = s.groupMode k w) ∧ ((g = true ∨ crew = [k.val])) ∧ (t.loops = f :: rest) ∧ (f.block = some b) ∧ (win = s.resultWindow k t.nextAt) ∧ let first (x : State) (j : Nat) : State := x.modStrand j (fun u =>
      { u with matchFirst := if (Store.get? u.matchFirst b).isSome then u.matchFirst else Store.put u.matchFirst b (f.ran + 1) })
      let leave (x : State) (j : Nat) : State := x.modStrand j (fun u =>
      let lost := (u.recs.filter (fun r => r.block == some b)).flatMap (fun r => r.fails.map (fun e => e.t))
      let u1 := { u with recs := u.recs.map (fun (r : StepRec) => if r.block = some b then { r with block := blockIn rest, late := true } else r) }
      if (blockIn rest).isNone then u1.setFail lost else u1)
      let s1 := if g then (crew.filter (fun j => (s.blockFails j b win).isEmpty)).foldl first s else s
      ((∃ j ∈ crew, s.blockFails j b win ≠ [])) ∧ (f.left ≤ 1) ∧ ∃ s2, ∃ per, ((crew.foldl (fun x j => x.closeIteration j b win true (blockIn rest)) s1).issue k w = (s2, per))) :=
  ⟨⟨0, stepWord 0xE 8192, _, (atWordOf (stepWord 0xE 8192) {}), _, _, _, _, _, _, _, by unfold State.atWord; decide +kernel, rfl, by decide +kernel,
     by decide +kernel, by decide +kernel, by decide +kernel, rfl, rfl, rfl, rfl, rfl, rfl⟩,
    ⟨0, stepWord 0x10 0, _, (atWordOf (stepWord 0x10 0) { loops := [⟨⟨0, 0⟩, 1, 0, some 0⟩] }), _, _, _, _, _, _,
     by unfold State.atWord; decide +kernel, rfl, by decide +kernel, by decide +kernel, rfl, rfl, by decide +kernel, rfl, rfl, rfl,
     by decide +kernel, _, _, rfl⟩,
    ⟨0, stepWord 0x10 0, _,
     (atWordOf (stepWord 0x10 0) { loops := [⟨⟨0, 0⟩, 2, 0, some 0⟩], recs := [{ step := 0, start := 0, seg := 0, off := 0, xp := 0, yp := 0, zp := 0, pend := 0, fails := [⟨0, 1, false⟩], block := some 0, lastFire := 1, late := false, isMatch := false }] }),
     _, _, _, _, _, _, by unfold State.atWord; decide +kernel, rfl, by decide +kernel, by decide +kernel, rfl, rfl, by decide +kernel, rfl, rfl, rfl,
     by decide +kernel, by decide +kernel, _, _, rfl⟩,
    ⟨0, stepWord 0x10 0, _,
     (atWordOf (stepWord 0x10 0) { loops := [⟨⟨0, 0⟩, 1, 0, some 0⟩], recs := [{ step := 0, start := 0, seg := 0, off := 0, xp := 0, yp := 0, zp := 0, pend := 0, fails := [⟨0, 1, false⟩], block := some 0, lastFire := 1, late := false, isMatch := false }] }),
     _, _, _, _, _, _, by unfold State.atWord; decide +kernel, rfl, by decide +kernel, by decide +kernel, rfl, rfl, by decide +kernel, rfl, rfl, rfl,
     by decide +kernel, by decide +kernel, _, _, rfl⟩⟩

/-- The hypotheses of Obligations.HoldsAndWaits have a state for each clause. -/
theorem test_hyps_HoldsAndWaits :
    (∃ (k : Fin 192), ∃ (t : Strand), ∃ (s : State), (t = s.strand k) ∧ (s.flowing k = true) ∧
    ((∀ j ∈ s.crew k, s.dueStops j t.nextAt t.segStart = [])) ∧ (s.pastLimit k t.nextAt = false) ∧
    (s.marredAt k t.pos (readPoint t.nextAt) = false) ∧ (s.present k t.pos (readPoint t.nextAt) = false) ∧ (t.target = true)) ∧
    (∃ (k : Fin 192), ∃ (t : Strand), ∃ (s : State), (t = s.strand k) ∧ (s.flowing k = true) ∧
    ((∀ j ∈ s.crew k, s.dueStops j t.nextAt t.segStart = [])) ∧ (s.pastLimit k t.nextAt = true)) ∧
    (∃ (k : Fin 192), ∃ (w : Word64), ∃ (t : Strand), ∃ (s : State), ∃ (s1 : State), ∃ (at_ : Option Nat), (s.atWord k w) ∧ (t = s.strand k) ∧
    (t.rptLeft = none) ∧ (flowOp (wordOp w) = .waitSlack) ∧ (bitOf (wordOpnd w) 15 = false) ∧ (s.takeSlack k (readPoint t.nextAt) = (at_, s1))) ∧
    (∃ (k : Fin 192), ∃ (w : Word64), ∃ (l : Nat), ∃ (us : Nat), ∃ (s : State), (s.atWord k w) ∧ ((s.strand k).rptLeft = none) ∧
    (flowOp (wordOp w) = .waitSlack) ∧ (bitOf (wordOpnd w) 15 = true) ∧ (l = s.leaderOf k) ∧ (us = wordOpnd w % 4096)) ∧
    (∃ (k : Fin 192), ∃ (t : Nat), ∃ (s : State), (s.sqState k = 3) ∧ (s.role k ≠ 2) ∧ ((s.strand k).wait = .instant t)) ∧
    (∃ (k : Fin 192), ∃ (b : Nat), ∃ (d : Nat), ∃ (l : Nat), ∃ (lim : Option Nat), ∃ (s : State), (s.sqState k = 3) ∧ (s.role k ≠ 2) ∧
    ((s.strand k).wait = .sync d lim (some b)) ∧ (l = s.leaderOf k)) ∧
    (∃ (k : Fin 192), ∃ (lim : Nat), ∃ (d : Nat), ∃ (start : Option Nat), ∃ (s : State), (s.sqState k = 3) ∧ (s.role k ≠ 2) ∧
    ((s.strand k).wait = .sync d (some lim) start) ∧ ((∀ b, start = some b → lim < b))) ∧
    (∃ (k : Fin 192), ∃ (l : Launch), ∃ (g : Nat), ∃ (b : Nat), ∃ (s : State), ∃ (s1 : State), ∃ (members : List Nat),
    ((s.strand k).launch = some l) ∧ (l.seg = some g) ∧ (b = s.unitsOf l.at_) ∧ (s1 = (s.advanceTo b).fireBound b) ∧
    (members = (if s1.role k = 1 then k.val :: (s1.groupOf k).filter (fun j => j != k.val) else [k.val])) ∧
    ((∀ j ∈ members, s.sqState j ≠ 6 ∧ (s.strand j).endDue = false))) ∧
    (∃ (k : Fin 192), ∃ (l : Launch), ∃ (b : Nat), ∃ (s : State), ((s.strand k).launch = some l) ∧ (l.seg = none) ∧ (b = s.unitsOf l.at_) ∧
    (((s.advanceTo b).fireBound b).sqState k = 4)) :=
  ⟨⟨191, _, { (onWith [(strandA 191 Reg.SQ_STATE, Fld.SQ_STATE_STATE, 1)]) with strands := [(191, { nextAt := 100000, target := true })] }, rfl,
     by decide +kernel, by decide +kernel, by decide +kernel, by decide +kernel, by decide +kernel, by decide +kernel⟩,
    ⟨0, _, { (onWith [(strandA 0 Reg.SQ_STATE, Fld.SQ_STATE_STATE, 2)]) with strands := [(0, { nextAt := 1000000000000, holdFrom := some 0 })] },
     rfl, by decide +kernel, by decide +kernel, by decide +kernel⟩,
    ⟨0, stepWord 0x16 0, _, (atWordOf (stepWord 0x16 0) {}), _, _, by unfold State.atWord; decide +kernel, rfl, by decide +kernel, by decide +kernel,
     by decide +kernel, rfl⟩,
    ⟨0, stepWord 0x16 32773, _, _, (atWordOf (stepWord 0x16 32773) {}), by unfold State.atWord; decide +kernel, by decide +kernel, by decide +kernel,
     by decide +kernel, rfl, rfl⟩,
    ⟨0, _, { (onWith [(strandA 0 Reg.SQ_STATE, Fld.SQ_STATE_STATE, 3)]) with strands := [(0, { wait := .instant 5 })] }, by decide +kernel,
     by decide +kernel, rfl⟩,
    ⟨0, 9, 5, _, none, { (onWith [(strandA 0 Reg.SQ_STATE, Fld.SQ_STATE_STATE, 3)]) with strands := [(0, { wait := .sync 5 none (some 9) })] },
     by decide +kernel, by decide +kernel, by decide +kernel, rfl⟩,
    ⟨0, 9, 5, none, { (onWith [(strandA 0 Reg.SQ_STATE, Fld.SQ_STATE_STATE, 3)]) with strands := [(0, { wait := .sync 5 (some 9) none })] },
     by decide +kernel, by decide +kernel, by decide +kernel, by intro b h; cases h⟩,
    ⟨0, _, _, _, { on with strands := [(0, { launch := some ⟨9, some 0, 0⟩ })] }, _, _, rfl, rfl, rfl, rfl, rfl, by decide +kernel⟩,
    ⟨0, _, _, { (onWith [(strandA 0 Reg.SQ_STATE, Fld.SQ_STATE_STATE, 4)]) with strands := [(0, { launch := some ⟨9, none, 0⟩ })] }, rfl,
     by decide +kernel, rfl, by decide +kernel⟩⟩

/-- The hypotheses of Obligations.AdeoFrames have a state for each clause. -/
theorem test_hyps_AdeoFrames_1 :
    (∃ (p : Fin 2), ∃ (f : Adeo), ∃ (at_ : Nat), ∃ (s : State), ∃ (s1 : State), (s1 = s.advanceTo at_) ∧ (s1.takes p 3 f)) ∧
    (∃ (p : Fin 2), ∃ (f : Adeo), ∃ (at_ : Nat), ∃ (s : State), ∃ (s1 : State), ∃ (s2 : State), ∃ (s3 : State), ∃ (dev : Nat), ∃ (q : Nat),
    (s1 = s.advanceTo at_) ∧ (s1.takes p 4 f) ∧ ((s1.noted 4 f).free = (dev, s2)) ∧ (s2.nextSeq 5 = (q, s3))) ∧
    (∃ (p : Fin 2), ∃ (f : Adeo), ∃ (at_ : Nat), ∃ (s : State), ∃ (s1 : State), (s1 = s.advanceTo at_) ∧ (s1.takes p 5 f)) ∧
    (∃ (p : Fin 2), ∃ (f : Adeo), ∃ (at_ : Nat), ∃ (s : State), ∃ (s1 : State), (s1 = s.advanceTo at_) ∧ (s1.takes p 6 f) ∧ (s1.linkState p = 3)) ∧
    (∃ (p : Fin 2), ∃ (f : Adeo), ∃ (at_ : Nat), ∃ (s : State), ∃ (s1 : State), (s1 = s.advanceTo at_) ∧ (s1.takes p 7 f)) ∧
    (∃ (p : Fin 2), ∃ (f : Adeo), ∃ (at_ : Nat), ∃ (s : State), ∃ (s1 : State), (s1 = s.advanceTo at_) ∧ (s1.takes p 8 f)) ∧
    (∃ (p : Fin 2), ∃ (f : Adeo), ∃ (at_ : Nat), ∃ (s : State), ∃ (s1 : State), (s1 = s.advanceTo at_) ∧ (s1.takes p 9 f) ∧ (s1.linkState p = 2)) ∧
    (∃ (p : Fin 2), ∃ (f : Adeo), ∃ (at_ : Nat), ∃ (c : Nat), ∃ (sent : Nat), ∃ (avail : Nat), ∃ (ret : Nat), ∃ (s : State), ∃ (s1 : State),
    (s1 = s.advanceTo at_) ∧ (s1.takes p 2 f) ∧ (f.at_ 0x18 1 = c) ∧ (Store.get? (s1.port p).audit c = some (sent, avail, ret)) ∧
    (s1.ring.audited.map s1.tideOf = some (f.at_ 0x10 8))) ∧
    (∃ (p : Fin 2), ∃ (f : Adeo), ∃ (at_ : Nat), ∃ (stay : Nat), ∃ (half : Bool), ∃ (s : State), ∃ (s1 : State), (s1 = s.advanceTo at_) ∧
    (s1.takes p 1 f) ∧ (f.at_ 0x10 1 = 0)) ∧
    (∃ (p : Fin 2), ∃ (f : Adeo), ∃ (at_ : Nat), ∃ (stay : Nat), ∃ (half : Bool), ∃ (s : State), ∃ (s1 : State), (s1 = s.advanceTo at_) ∧
    (s1.takes p 1 f) ∧ (f.at_ 0x10 1 = 1)) ∧
    (∃ (p : Fin 2), ∃ (f : Adeo), ∃ (at_ : Nat), ∃ (q : Nat), ∃ (half : Bool), ∃ (t1 : Int), ∃ (d : Int), ∃ (l : List Int), ∃ (s : State),
    ∃ (s1 : State), (s1 = s.advanceTo at_) ∧ (s1.takes p 1 f) ∧ (f.at_ 0x10 1 = 2) ∧ ((s1.port p).pdelay = some (q, t1)) ∧ (f.at_ 0x14 4 = q) ∧
    (d = fineDiff (s1.fine at_ half) t1 - fineDiff (f.at_ 0x20 8 : Nat) (f.at_ 0x18 8 : Nat)) ∧ (l = (d :: (s1.port p).delays).take 16)) ∧
    (∃ (c : Instr), ∃ (p : Fin 2), ∃ (type : Nat), ∃ (f : Adeo), ∃ (at_ : Nat), ∃ (s : State), ∃ (s1 : State), (s1 = s.advanceTo at_) ∧
    ((c, type) ∈ [(Instr.slack p f at_, 3), (Instr.heartbeat p f at_, 4), (Instr.hbReply p f at_, 5), (Instr.credit p f at_, 6), (Instr.active p f at_, 7), (Instr.link p f at_, 8), (Instr.linkInit p f at_, 9), (Instr.audit p f at_, 2)]) ∧
    (s1.hears p = false)) :=
  ⟨⟨0, ⟨1, 0, 5, 1, 65535, 0, 0, 0 :: List.replicate 31 0⟩, 0, on, _, rfl, by unfold State.takes; decide +kernel⟩,
    ⟨0, ⟨1, 0, 5, 1, 65535, 0, 0, 0 :: List.replicate 31 0⟩, 0, on, _, _, _, _, _, rfl, by unfold State.takes; decide +kernel, rfl, rfl⟩,
    ⟨0, ⟨1, 0, 5, 1, 65535, 0, 0, 0 :: List.replicate 31 0⟩, 0, on, _, rfl, by unfold State.takes; decide +kernel⟩,
    ⟨0, ⟨1, 0, 5, 1, 65535, 0, 0, 0 :: List.replicate 31 0⟩, 0, on, _, rfl, by unfold State.takes; decide +kernel, by decide +kernel⟩,
    ⟨0, ⟨1, 0, 5, 1, 65535, 0, 0, 0 :: List.replicate 31 0⟩, 0, on, _, rfl, by unfold State.takes; decide +kernel⟩,
    ⟨0, ⟨1, 0, 5, 1, 65535, 0, 0, 0 :: List.replicate 31 0⟩, 0, on, _, rfl, by unfold State.takes; decide +kernel⟩,
    ⟨0, ⟨1, 0, 5, 1, 65535, 0, 0, 0 :: List.replicate 31 0⟩, 0, (onWith [(linkA 0, Fld.RG_LINK_STATE, 2)]), _, rfl,
     by unfold State.takes; decide +kernel, by decide +kernel⟩,
    ⟨0, ⟨1, 0, 5, 1, 65535, 0, 0, 0 :: List.replicate 31 0⟩, 0, _, _, _, _,
     { on with ring := { east := { audit := [(0, (0, 0, 0))] }, audited := some 0 } }, _, rfl, by unfold State.takes; decide +kernel, rfl, rfl,
     by decide +kernel⟩,
    ⟨0, ⟨1, 0, 5, 1, 65535, 0, 0, 0 :: List.replicate 31 0⟩, 0, 0, true, on, _, rfl, by unfold State.takes; decide +kernel, by decide +kernel⟩,
    ⟨0, ⟨1, 1, 5, 1, 0, 0, 0, 1 :: List.replicate 31 0⟩, 0, 0, true, on, _, rfl, by unfold State.takes; decide +kernel, by decide +kernel⟩,
    ⟨0, ⟨1, 0, 5, 1, 65535, 0, 0, 2 :: List.replicate 31 0⟩, 0, _, true, _, _, _, { on with ring := { east := { pdelay := some (0, 0) } } }, _, rfl,
     by unfold State.takes; decide +kernel, by decide +kernel, rfl, rfl, rfl, rfl⟩,
    ⟨Instr.slack 0 (⟨1, 0, 5, 1, 65535, 0, 0, 0 :: List.replicate 31 0⟩) 0, 0, 3, ⟨1, 0, 5, 1, 65535, 0, 0, 0 :: List.replicate 31 0⟩, 0,
     (onWith [(Reg.RG_STATE, Fld.RG_STATE_HOLD, 0)]), _, rfl, by decide +kernel, by decide +kernel⟩⟩

/-- The hypotheses of Obligations.AdeoFrames have a state for each clause. -/
theorem test_hyps_AdeoFrames_2 :
    (∃ (c : Instr), ∃ (p : Fin 2), ∃ (type : Nat), ∃ (f : Adeo), ∃ (at_ : Nat), ∃ (s : State), ∃ (s1 : State), (s1 = s.advanceTo at_) ∧
    ((c, type) ∈ [(Instr.slack p f at_, 3), (Instr.heartbeat p f at_, 4), (Instr.hbReply p f at_, 5), (Instr.credit p f at_, 6), (Instr.active p f at_, 7), (Instr.link p f at_, 8), (Instr.linkInit p f at_, 9), (Instr.audit p f at_, 2)]) ∧
    (s1.hears p = true) ∧ (f.ver ≠ 1)) ∧
    (∃ (c : Instr), ∃ (p : Fin 2), ∃ (type : Nat), ∃ (f : Adeo), ∃ (at_ : Nat), ∃ (s : State), ∃ (s1 : State), (s1 = s.advanceTo at_) ∧
    ((c, type) ∈ [(Instr.slack p f at_, 3), (Instr.heartbeat p f at_, 4), (Instr.hbReply p f at_, 5), (Instr.credit p f at_, 6), (Instr.active p f at_, 7), (Instr.link p f at_, 8), (Instr.linkInit p f at_, 9), (Instr.audit p f at_, 2)]) ∧
    (s1.hears p = true) ∧ (f.ver = 1) ∧ (f.ring ≠ s1.fld Reg.RG_ADDR Fld.RG_ADDR_RING)) ∧
    (∃ (c : Instr), ∃ (p : Fin 2), ∃ (type : Nat), ∃ (f : Adeo), ∃ (at_ : Nat), ∃ (s : State), ∃ (s1 : State), (s1 = s.advanceTo at_) ∧
    ((c, type) ∈ [(Instr.slack p f at_, 3), (Instr.heartbeat p f at_, 4), (Instr.hbReply p f at_, 5), (Instr.credit p f at_, 6), (Instr.active p f at_, 7), (Instr.link p f at_, 8), (Instr.linkInit p f at_, 9), (Instr.audit p f at_, 2)]) ∧
    (s1.hears p = true) ∧ (f.ver = 1) ∧ (f.ring = s1.fld Reg.RG_ADDR Fld.RG_ADDR_RING) ∧ (s1.isOwn type f = true)) :=
  ⟨⟨Instr.slack 0 (⟨2, 0, 5, 1, 65535, 0, 0, 0 :: List.replicate 31 0⟩) 0, 0, 3, ⟨2, 0, 5, 1, 65535, 0, 0, 0 :: List.replicate 31 0⟩, 0, on, _, rfl,
     by decide +kernel, by decide +kernel, by decide +kernel⟩,
    ⟨Instr.slack 0 (⟨1, 0, 5, 1, 65535, 0, 5, 0 :: List.replicate 31 0⟩) 0, 0, 3, ⟨1, 0, 5, 1, 65535, 0, 5, 0 :: List.replicate 31 0⟩, 0, on, _, rfl,
     by decide +kernel, by decide +kernel, by decide +kernel, by decide +kernel⟩,
    ⟨Instr.slack 0 (⟨1, 0, 5, 0, 65535, 0, 0, 0 :: List.replicate 31 0⟩) 0, 0, 3, ⟨1, 0, 5, 0, 65535, 0, 0, 0 :: List.replicate 31 0⟩, 0,
     { on with ring := { sent := [(3, 0)] } }, _, rfl, by decide +kernel, by decide +kernel, by decide +kernel, by decide +kernel, by decide +kernel⟩⟩

/-- The hypotheses of Obligations.FrameForwarding have a state for each clause. -/
theorem test_hyps_FrameForwarding :
    (∃ (p : Fin 2), ∃ (f : EthFrame), ∃ (at_ : Nat), ∃ (t : Nat), ∃ (n : Nat), ∃ (s : State), ∃ (s1 : State), (s1 = s.advanceTo at_) ∧
    (s1.onRing = true) ∧ (s1.forced.grave = false) ∧ (s1.linkState p = 3) ∧ (t = s1.classOf (f.tag.map (fun k => k.val))) ∧ (n = frameCells f.len) ∧
    (4178 < f.len)) ∧
    (∃ (p : Fin 2), ∃ (f : EthFrame), ∃ (at_ : Nat), ∃ (t : Nat), ∃ (n : Nat), ∃ (s : State), ∃ (s1 : State), (s1 = s.advanceTo at_) ∧
    (s1.onRing = true) ∧ (s1.forced.grave = false) ∧ (s1.linkState p = 3) ∧ (t = s1.classOf (f.tag.map (fun k => k.val))) ∧ (n = frameCells f.len) ∧
    (f.len ≤ 4178) ∧ (f.good = true) ∧ (f.dst = s1.htMac) ∧ (f.etype = 0x0800)) ∧
    (∃ (p : Fin 2), ∃ (f : EthFrame), ∃ (at_ : Nat), ∃ (t : Nat), ∃ (n : Nat), ∃ (s : State), ∃ (s1 : State), (s1 = s.advanceTo at_) ∧
    (s1.onRing = true) ∧ (s1.forced.grave = false) ∧ (s1.linkState p = 3) ∧ (t = s1.classOf (f.tag.map (fun k => k.val))) ∧ (n = frameCells f.len) ∧
    (f.len ≤ 4178) ∧ (f.good = false) ∧ (f.dst = s1.htMac) ∧ (f.etype = 0x0800)) ∧
    (∃ (p : Fin 2), ∃ (f : EthFrame), ∃ (at_ : Nat), ∃ (t : Nat), ∃ (n : Nat), ∃ (s : State), ∃ (s1 : State), (s1 = s.advanceTo at_) ∧
    (s1.onRing = true) ∧ (s1.forced.grave = false) ∧ (s1.linkState p = 3) ∧ (t = s1.classOf (f.tag.map (fun k => k.val))) ∧ (n = frameCells f.len) ∧
    (f.len ≤ 4178) ∧ (f.etype = 0x88B5 ∨ f.etype = 0x8808)) ∧
    (∃ (p : Fin 2), ∃ (f : EthFrame), ∃ (at_ : Nat), ∃ (t : Nat), ∃ (n : Nat), ∃ (s : State), ∃ (s1 : State), (s1 = s.advanceTo at_) ∧
    (s1.onRing = true) ∧ (s1.forced.grave = false) ∧ (s1.linkState p = 3) ∧ (t = s1.classOf (f.tag.map (fun k => k.val))) ∧ (n = frameCells f.len) ∧
    (f.len ≤ 4178) ∧ (f.good = true) ∧ (¬ (f.dst = s1.htMac ∧ f.etype = 0x0800)) ∧ (f.etype ≠ 0x88B5) ∧ (f.etype ≠ 0x8808) ∧ (f.src = s1.htMac)) ∧
    (∃ (p : Fin 2), ∃ (f : EthFrame), ∃ (at_ : Nat), ∃ (t : Nat), ∃ (n : Nat), ∃ (s : State), ∃ (s1 : State), (s1 = s.advanceTo at_) ∧
    (s1.onRing = true) ∧ (s1.forced.grave = false) ∧ (s1.linkState p = 3) ∧ (t = s1.classOf (f.tag.map (fun k => k.val))) ∧ (n = frameCells f.len) ∧
    (f.len ≤ 4178) ∧ (f.good = true) ∧ (¬ (f.dst = s1.htMac ∧ f.etype = 0x0800)) ∧ (f.etype ≠ 0x88B5) ∧ (f.etype ≠ 0x8808) ∧ (f.src ≠ s1.htMac) ∧
    (s1.linkState (otherPort p) ≠ 0)) :=
  ⟨⟨0, ⟨0, 0, 0x0800, none, 4179, true⟩, 0, _, _, on, _, rfl, by decide +kernel, by decide +kernel, by decide +kernel, rfl, rfl, by decide +kernel⟩,
    ⟨0, ⟨on.htMac, 0, 0x0800, none, 4178, true⟩, 0, _, _, on, _, rfl, by decide +kernel, by decide +kernel, by decide +kernel, rfl, rfl,
     by decide +kernel, by decide +kernel, by decide +kernel, by decide +kernel⟩,
    ⟨0, ⟨on.htMac, 0, 0x0800, none, 4178, false⟩, 0, _, _, on, _, rfl, by decide +kernel, by decide +kernel, by decide +kernel, rfl, rfl,
     by decide +kernel, by decide +kernel, by decide +kernel, by decide +kernel⟩,
    ⟨0, ⟨0, 0, 0x8808, none, 4178, true⟩, 0, _, _, on, _, rfl, by decide +kernel, by decide +kernel, by decide +kernel, rfl, rfl, by decide +kernel,
     by decide +kernel⟩,
    ⟨0, ⟨0, on.htMac, 0x0801, none, 4178, true⟩, 0, _, _, on, _, rfl, by decide +kernel, by decide +kernel, by decide +kernel, rfl, rfl,
     by decide +kernel, by decide +kernel, by decide +kernel, by decide +kernel, by decide +kernel, by decide +kernel⟩,
    ⟨0, ⟨0, on.htMac + 1, 0x0801, none, 4178, true⟩, 0, _, _, on, _, rfl, by decide +kernel, by decide +kernel, by decide +kernel, rfl, rfl,
     by decide +kernel, by decide +kernel, by decide +kernel, by decide +kernel, by decide +kernel, by decide +kernel, by decide +kernel⟩⟩

/-- The hypotheses of Obligations.RingTimers have a state for each clause. -/
theorem test_hyps_RingTimers_1 :
    (∃ (p : Fin 2), ∃ (cause : Nat), ∃ (at_ : Nat), ∃ (s : State), ∃ (s1 : State), ∃ (s2 : State), (s1 = s.advanceTo at_) ∧ (s1.linkState p ≠ 0) ∧
    (s2 = ((((s1.setFld (linkA p) Fld.RG_LINK_STATE 0).setFld (linkA p) Fld.RG_LINK_CAUSE cause).flushPort p).modPort p (fun r => { r with misses := 0, pendSince := none, pdelay := none }))) ∧
    (cause = 1)) ∧
    (∃ (p : Fin 2), ∃ (cause : Nat), ∃ (at_ : Nat), ∃ (s : State), ∃ (s1 : State), ∃ (s2 : State), (s1 = s.advanceTo at_) ∧ (s1.linkState p ≠ 0) ∧
    (s2 = ((((s1.setFld (linkA p) Fld.RG_LINK_STATE 0).setFld (linkA p) Fld.RG_LINK_CAUSE cause).flushPort p).modPort p (fun r => { r with misses := 0, pendSince := none, pdelay := none }))) ∧
    (cause = 4)) ∧
    (∃ (p : Fin 2), ∃ (cause : Nat), ∃ (at_ : Nat), ∃ (s : State), ∃ (s1 : State), ∃ (s2 : State), (s1 = s.advanceTo at_) ∧ (s1.linkState p ≠ 0) ∧
    (s2 = ((((s1.setFld (linkA p) Fld.RG_LINK_STATE 0).setFld (linkA p) Fld.RG_LINK_CAUSE cause).flushPort p).modPort p (fun r => { r with misses := 0, pendSince := none, pdelay := none }))) ∧
    (cause = 2)) ∧
    (∃ (p : Fin 2), ∃ (at_ : Nat), ∃ (s : State), (s.linkState p < 2) ∧ (s.onRing = true) ∧ (s.forced.grave = false) ∧
    (s.cr p 1 6 + s.cr p 2 6 + s.cr p 3 6 = 0)) ∧
    (∃ (p : Fin 2), ∃ (t : Nat), ∃ (s : State), ((s.port p).pendSince = some t) ∧ (s.ring.guard = none) ∧ (s.linkState p = 3)) ∧
    (∃ (t : Nat), ∃ (s : State), ∃ (s1 : State), (s.ring.guard = none) ∧ (s.tideValid = true) ∧ (t = (s.tideNow / 12000000 + 1) * 12000000) ∧
    (s1 = s.advanceTo (s.unitsOf t - usU))) ∧
    (∃ (t : Nat), ∃ (s : State), ∃ (s1 : State), ∃ (s2 : State), ∃ (s3 : State), ∃ (s4 : State), (s.ring.guard = some t) ∧
    (s1 = s.advanceTo (s.unitsOf t)) ∧ (s2 = { s1 with ring := { s1.ring with audited := some s1.now } }) ∧ (s3 = (s2.auditPort 0 t).auditPort 1 t) ∧
    (s4 = { s3 with ring := { s3.ring with guard := none } })) ∧
    (∃ (t : Nat), ∃ (n : Nat), ∃ (s : State), (s.ring.audited = some t) ∧ (n = s.ring.east.audit.length + s.ring.west.audit.length)) ∧
    (∃ (s : State), ∃ (s1 : State), (s1 = s.advanceTo (max s.ring.east.hbAt s.ring.west.hbAt + max 10 (s.fld Reg.RG_HB Fld.RG_HB_PERIOD) * usU))) ∧
    (∃ (p : Fin 2), ∃ (s : State), (max 1 (s.fld Reg.RG_HB Fld.RG_HB_MISS) ≤ (s.port p).misses) ∧ (s.linkState p = 3)) ∧
    (∃ (s : State), ∃ (s1 : State), ∃ (s2 : State), ∃ (b : Bool), (s1.activeTest = b) ∧
    (s2 = { s1 with ring := { s1.ring with activeOut := b, activeAt := s1.now } }) ∧ (s1 = s ∧ b ≠ s.ring.activeOut)) ∧
    (∃ (s : State), ∃ (s1 : State), ∃ (s2 : State), ∃ (b : Bool), (s1.activeTest = b) ∧
    (s2 = { s1 with ring := { s1.ring with activeOut := b, activeAt := s1.now } }) ∧ (s1 = s.advanceTo (s.ring.activeAt + 1000 * usU))) :=
  ⟨⟨0, 1, 0, on, _, _, rfl, by decide +kernel, rfl, by decide +kernel⟩,
    ⟨0, 4, 0, on, _, _, rfl, by decide +kernel, rfl, by decide +kernel⟩,
    ⟨0, 2, 0, on, _, _, rfl, by decide +kernel, rfl, by decide +kernel⟩,
    ⟨0, 0, (onWith [(linkA 0, Fld.RG_LINK_STATE, 1)]), by decide +kernel, by decide +kernel, by decide +kernel, by decide +kernel⟩,
    ⟨0, _, { on with ring := { east := { pendSince := some 5 } } }, rfl, by decide +kernel, by decide +kernel⟩,
    ⟨_, on, _, by decide +kernel, by decide +kernel, rfl, rfl⟩,
    ⟨_, { on with ring := { guard := some 5 } }, _, _, _, _, rfl, rfl, rfl, rfl, rfl⟩,
    ⟨_, _, { on with ring := { audited := some 5 } }, rfl, rfl⟩,
    ⟨on, _, rfl⟩,
    ⟨0, { on with ring := { east := { misses := 255 } } }, by decide +kernel, by decide +kernel⟩,
    ⟨{ onWith [(strandA 5 Reg.SQ_STATE, Fld.SQ_STATE_STATE, 1)] with strands := [(5, {})] },
     { onWith [(strandA 5 Reg.SQ_STATE, Fld.SQ_STATE_STATE, 1)] with strands := [(5, {})] }, _, true, by decide +kernel, rfl,
     ⟨rfl, by decide +kernel⟩⟩,
    ⟨{ onWith [(strandA 5 Reg.SQ_STATE, Fld.SQ_STATE_STATE, 1)] with strands := [(5, {})] }, _, _, _, rfl, rfl, rfl⟩⟩

/-- The hypotheses of Obligations.RingTimers have a state for each clause. -/
theorem test_hyps_RingTimers_2 :
    ∃ (e : Nat × Nat), ∃ (s : State), (e ∈ s.ring.active) ∧ ((∀ d ∈ s.ring.active, d = e ∨ e.2 < d.2)) :=
  ⟨(3, 5), { on with ring := { active := [(3, 5), (4, 6)] } }, by decide +kernel, by decide +kernel⟩

/-- The hypotheses of Obligations.TidelineEvents have a state for each clause. -/
theorem test_hyps_TidelineEvents :
    (∃ (e : Nat), ∃ (w : Nat), ∃ (tr : Nat), ∃ (q : Nat), ∃ (on : Bool), ∃ (s : State), ∃ (s0 : State), ∃ (s1 : State), ∃ (s2 : State),
    (s.flag Reg.TL_CTRL Fld.TL_CTRL_MASTER = true) ∧ (s.tideValid = true) ∧ (s0 = s.advanceTo (s.tide.sentAt + 15625 * usU)) ∧
    (on = (match s0.tide.settling with | some t => decide (s0.now < t) | none => false)) ∧
    (({ s0 with tide := { s0.tide with sentAt := s0.now, settling := (if on then s0.tide.settling else none) } }).free = (tr, s1)) ∧
    (s1.nextSeq 1 = (q, s2))) ∧
    (∃ (p : Fin 2), ∃ (out : Nat), ∃ (s : State), ∃ (s1 : State),
    (s1 = (s.advanceTo ((s.port p).pdAt + 1000 * usU)).modPort p (fun r => { r with pdAt := (s.advanceTo ((s.port p).pdAt + 1000 * usU)).now })) ∧
    (s1.linkState p = 3) ∧ (s1.onRing = true)) ∧
    (∃ (at_ : Nat), ∃ (half : Bool), ∃ (ring : Int), ∃ (rx : Int), ∃ (s : State), ∃ (s1 : State),
    (s1 = ({ s.advanceTo at_ with tide := { s.tide with pps := true, lastPps := (s.advanceTo at_).now } }).chooseSource) ∧ (s1.tlSource = 2) ∧
    (rx = s1.fine at_ half + signed 32 (s1.rd Reg.TL_PPS_DLY).toNat) ∧
    (ring = (if s1.tide.ring = false then 0 else match s1.tide.thetaE, s1.tide.thetaW with | some e, _ => e - s1.tlAsym | none, some w => w + s1.tlAsym | none, none => 0))) ∧
    (∃ (at_ : Nat), ∃ (s : State), ∃ (s1 : State), (s1 = s.advanceTo at_)) ∧
    (∃ (at_ : Nat), ∃ (s : State), (s.tide.ref = true)) ∧
    (∃ (at_ : Nat), ∃ (s : State), (s.tide.pps = true)) ∧
    (∃ (at_ : Nat), ∃ (s : State), (s.tide.ring = true)) ∧
    (∃ (t : Nat), ∃ (s : State), (s.tide.within = some t) ∧ (s.tlState = 1)) ∧
    (∃ (c : Nat), ∃ (a : Int), ∃ (total : Int), ∃ (s : State), ∃ (s0 : State), ∃ (s1 : State), (s0 = s.advanceTo (s.tide.ageAt + 1000000 * usU)) ∧
    (a = s.tide.ageBase + openDiv (signed 32 (s.rd Reg.TL_AGE_RATE).toNat * (((s.rd Reg.LS_CAL_DAY).toNat : Nat) - (s.tide.ageDay : Int))) 100) ∧
    (({ s0 with tide := { s0.tide with ageAt := s0.now } }).free = (c, s1)) ∧ (total = a + signed 32 (s.rd Reg.TL_FREQ).toNat + signed 32 c)) ∧
    (∃ (s : State), (64 ≤ s.tide.settleE.length) ∧ (64 ≤ s.tide.settleW.length)) ∧
    (∃ (s : State), (s.flag Reg.DEV_UPD_CTRL Fld.DEV_UPD_CTRL_ARM = true) ∧ (s.flag Reg.DEV_UPD_CTRL Fld.DEV_UPD_CTRL_SRC = false)) ∧
    (∃ (s : State), (s.flag Reg.DEV_UPD_CTRL Fld.DEV_UPD_CTRL_ARM = true) ∧ (s.flag Reg.DEV_UPD_CTRL Fld.DEV_UPD_CTRL_SRC = true) ∧ ∃ a, ∃ b, ∃ t,
    (s.bound = some (a, b, t))) :=
  ⟨⟨0, 0, _, _, _, (onWith [(Reg.TL_CTRL, Fld.TL_CTRL_MASTER, 1)]), _, _, _, by decide +kernel, by decide +kernel, rfl, rfl, rfl, rfl⟩,
    ⟨0, 0, on, _, rfl, by decide +kernel, by decide +kernel⟩,
    ⟨0, true, _, _, { (onWith [(Reg.TL_CTRL, Fld.TL_CTRL_EXT_EN, 1)]) with tide := { ref := true } }, _, rfl, by decide +kernel, rfl, rfl⟩,
    ⟨0, on, _, rfl⟩,
    ⟨0, { on with tide := { ref := true } }, by decide +kernel⟩,
    ⟨0, { on with tide := { pps := true } }, by decide +kernel⟩,
    ⟨0, { on with tide := { ring := true } }, by decide +kernel⟩,
    ⟨_, { (onWith [(Reg.TL_STATE, Fld.TL_STATE_STATE, 1)]) with tide := { within := some 7 } }, rfl, by decide +kernel⟩,
    ⟨_, _, _, on, _, _, rfl, rfl, rfl, rfl⟩,
    ⟨{ on with tide := { settleE := List.replicate 64 0, settleW := List.replicate 64 0 } }, by decide +kernel, by decide +kernel⟩,
    ⟨(onWith [(Reg.DEV_UPD_CTRL, Fld.DEV_UPD_CTRL_ARM, 1)]), by decide +kernel, by decide +kernel⟩,
    ⟨{ (onWith [(Reg.DEV_UPD_CTRL, Fld.DEV_UPD_CTRL_ARM, 1), (Reg.DEV_UPD_CTRL, Fld.DEV_UPD_CTRL_SRC, 1)]) with bound := some (0, 0, 5) },
     by decide +kernel, by decide +kernel, _, _, _, rfl⟩⟩

/-- The hypotheses of Obligations.PinEvents have a state for each clause. -/
theorem test_hyps_PinEvents :
    (∃ (n : Fin 1536), ∃ (hi : Fin 3), ∃ (lo : Fin 3), ∃ (at_ : Nat), ∃ (s : State), (s.fld (pinA n Reg.PS_CMP_STATE) Fld.PS_CMP_STATE_MODE_EFF < 4)) ∧
    (∃ (n : Fin 1536), ∃ (e : DriveEv), ∃ (rest : List DriveEv), ∃ (act : Nat), ∃ (delayed : Bool), ∃ (s : State), ∃ (s1 : State),
    ((s.pin n).drives = e :: rest) ∧ (fireAt (s.pin n).lastDrive e.t = (act, delayed)) ∧
    (s1 = ((s.advanceTo act).raiseIf delayed (strandA (n / 8) Reg.WV_STAT) Fld.WV_STAT_SEP).modPin n (fun p => ({ p with drives := rest, cond := e.level, lastDrive := some (e.t, act) } : Pin).settlePark))) ∧
    (∃ (n : Fin 1536), ∃ (e : StrobeEv), ∃ (rest : List StrobeEv), ∃ (act : Nat), ∃ (delayed : Bool), ∃ (s : State), ∃ (s1 : State), ∃ (s2 : State),
    ((s.pin n).strobes = e :: rest) ∧ (fireAt (s.pin n).lastStrobe e.t = (act, delayed)) ∧
    (s1 = ((s.advanceTo act).raiseIf delayed (strandA (n / 8) Reg.WV_STAT) Fld.WV_STAT_SEP).modPin n (fun p => { p with strobes := rest, lastStrobe := some (e.t, act) })) ∧
    (s2 = s1.fireStrobe n e act delayed)) ∧
    (∃ (n : Fin 1536), ∃ (hi : Fin 3), ∃ (lo : Fin 3), ∃ (t : Nat), ∃ (s : State), ∃ (s1 : State),
    (s.fld (pinA n Reg.PS_CMP_STATE) Fld.PS_CMP_STATE_MODE_EFF = 5) ∧ ((s.pin n).settleAt = some t) ∧
    (s1 = ((s.advanceTo t).modPin n (fun p => { p with settleAt := none })).setFld (pinA n Reg.PS_CMP_STATE) Fld.PS_CMP_STATE_MODE_EFF (s.fld (pinA n Reg.PS_CMP_CFG) Fld.PS_CMP_CFG_MODE))) ∧
    (∃ (s : State), ∃ (s1 : State),
    (s1 = { s.advanceTo (s.power.holdAt + 1000 * usU) with power := { s.power with holdAt := max s.now (s.power.holdAt + 1000 * usU) } })) ∧
    (∃ (n : Fin 1536), ∃ (ovh : Bool), ∃ (ovl : Bool), ∃ (oc : Bool), ∃ (at_ : Nat), ∃ (kind : Nat), ∃ (s : State),
    (kind = bitN ovh + 2 * bitN ovl + 4 * bitN oc) ∧ (kind ≠ 0)) ∧
    (∃ (bad : List (Fin 1536)), ∃ (t : Nat), ∃ (s : State), (s.forced.checkAt = some t)) ∧
    (∃ (bad : List (Fin 1536)), ∃ (t : Trip), ∃ (u : Nat), ∃ (s : State), (s.forced.checkAt = none) ∧
    (s.trips.find? (fun x => x.checkAt.isSome) = some t) ∧ (t.checkAt = some u)) :=
  ⟨⟨1535, 2, 0, 0, (onWith [(pinA 1535 Reg.PS_CMP_STATE, Fld.PS_CMP_STATE_MODE_EFF, 3)]), by decide +kernel⟩,
    ⟨0, _, _, _, _, { on with pins := [(0, { drives := [⟨5, 0, .vih⟩] })] }, _, rfl, rfl, rfl⟩,
    ⟨0, _, _, _, _, { on with pins := [(0, { strobes := [⟨5, 0, .edge, .high, 0⟩] })] }, _, _, rfl, rfl, rfl, rfl⟩,
    ⟨0, 0, 0, _, { (onWith [(pinA 0 Reg.PS_CMP_STATE, Fld.PS_CMP_STATE_MODE_EFF, 5)]) with pins := [(0, { settleAt := some 5 })] }, _,
     by decide +kernel, rfl, rfl⟩,
    ⟨on, _, rfl⟩,
    ⟨0, true, true, true, 0, _, on, rfl, by decide +kernel⟩,
    ⟨[0, 1535], _, { on with forced := { checkAt := some 5 } }, rfl⟩,
    ⟨[0, 1535], ⟨0, 1, 0, [0], some 5⟩, 5, { on with trips := [⟨0, 1, 0, [0], some 5⟩] }, by decide +kernel, by decide +kernel, by decide +kernel⟩⟩

/-- The hypotheses of Obligations.BreakwaterTrip have a state. -/
theorem test_hyps_BreakwaterTrip :
    ∃ (n : Fin 1536), ∃ (ovh : Bool), ∃ (ovl : Bool), ∃ (oc : Bool), ∃ (at_ : Nat), ∃ (kind : Nat), ∃ (s : State), (s.sound = true) ∧
    (kind = bitN ovh + 2 * bitN ovl + 4 * bitN oc) ∧ (kind ≠ 0) ∧ (s.fld (pinA n Reg.PS_BW_CTRL) Fld.PS_BW_CTRL_ACTION = 0) :=
  ⟨1535, true, true, true, 0, _, (onWith [(pinA 1535 Reg.PS_BW_CTRL, Fld.PS_BW_CTRL_ACTION, 0)]), by decide +kernel, rfl, by decide +kernel,
   by decide +kernel⟩

/-- The hypotheses of Obligations.TdcAndConverters have a state for each clause. -/
theorem test_hyps_TdcAndConverters :
    (∃ (n : Fin 1536), ∃ (m1 : Nat), ∃ (m2 : Nat), ∃ (d : Nat), ∃ (s : State), (s.tdState n = 1) ∧ (m1 < m2) ∧ (d = m2 - m1) ∧
    (95 * d ≤ 262144 * 100) ∧ (262144 * 100 ≤ 105 * d)) ∧
    (∃ (n : Fin 1536), ∃ (m1 : Nat), ∃ (m2 : Nat), ∃ (d : Nat), ∃ (s : State), (s.tdState n = 1) ∧ (m1 < m2) ∧ (d = m2 - m1) ∧
    (262144 * 100 < 95 * d ∨ 105 * d < 262144 * 100)) ∧
    (∃ (n : Fin 1536), ∃ (m1 : Nat), ∃ (m2 : Nat), ∃ (f : Nat), ∃ (s : State), ∃ (s1 : State), (s.tdState n = 1) ∧ (m2 ≤ m1) ∧ (s.free = (f, s1))) ∧
    (∃ (n : Fin 1536), ∃ (ms : Nat), ∃ (s : State), (s.tdState n ≠ 0) ∧ (ms = Fld.TD_CFG_TIMEOUT.get (s.tdc n).cfg) ∧ (ms ≠ 0)) ∧
    (∃ (n : Fin 1536), ∃ (raw : Int), ∃ (r : Int), ∃ (dist : Bool), ∃ (sat : Bool), ∃ (win : List (Nat × Int × Bool)), ∃ (s : State),
    ((s.conv n).running = true) ∧ (s.adResult n raw = (r, dist, sat, win))) :=
  ⟨⟨0, 0, 275941, _, (onWith [(pinA 0 Reg.TD_STAT, Fld.TD_STAT_STATE, 1)]), by decide +kernel, by decide +kernel, rfl, by decide +kernel,
     by decide +kernel⟩,
    ⟨0, 0, 275942, _, (onWith [(pinA 0 Reg.TD_STAT, Fld.TD_STAT_STATE, 1)]), by decide +kernel, by decide +kernel, rfl, by decide +kernel⟩,
    ⟨0, 0, 0, _, (onWith [(pinA 0 Reg.TD_STAT, Fld.TD_STAT_STATE, 1)]), _, by decide +kernel, by decide +kernel, rfl⟩,
    ⟨0, _, { (onWith [(pinA 0 Reg.TD_STAT, Fld.TD_STAT_STATE, 2)]) with tdcs := [(0, { cfg := Fld.TD_CFG_TIMEOUT.put 0 1 })] }, by decide +kernel,
     rfl, by decide +kernel⟩,
    ⟨0, 0, _, _, _, _, { on with convs := [(0, { running := true })] }, by decide +kernel, rfl⟩⟩

/-- The hypotheses of Obligations.AcquisitionEvents have a state for each clause. -/
theorem test_hyps_AcquisitionEvents :
    (∃ (k : Fin 192), ∃ (a : Acq), ∃ (s : State), ∃ (s1 : State), (s.aqState k ≠ 0) ∧ (a = s.acq k) ∧ (a.src = 2) ∧ (a.div ≠ 0) ∧
    (s1 = (s.advanceTo a.nextSample).setAcq k { a with nextSample := max s.now a.nextSample + a.div * cycU })) ∧
    (∃ (k : Fin 192), ∃ (ns : Nat), ∃ (dead : Nat), ∃ (a : Acq), ∃ (r : AqRecord), ∃ (s : State), ∃ (s1 : State), ∃ (s2 : State), (s.aqState k = 3) ∧
    (a = s.acq k) ∧ (a.record = some r) ∧ (dead = min ns (1000 + (if a.measEn then r.rows.length else 0))) ∧
    (s1 = (s.advanceTo (a.rearmAt + ceilDiv (dead * 6144) 10)).aqWriteRecord k false false) ∧
    (s2 = (((s1.setFld (strandA k Reg.AQ_DEAD) Fld.AQ_DEAD_LAST (min 65535 dead)).setFld (strandA k Reg.AQ_DEAD) Fld.AQ_DEAD_MAX (max (s1.fld (strandA k Reg.AQ_DEAD) Fld.AQ_DEAD_MAX) (min 65535 dead))).modAcq k (fun x => { x with dead := dead, rows := [] })))) ∧
    (∃ (k : Fin 192), ∃ (l : List MemReq), ∃ (r : List MemReq), ∃ (q : MemReq), ∃ (s : State), (s.mem.reqs = l ++ q :: r) ∧ (q.use = .acq k) ∧
    ((∀ x ∈ l, x.use ≠ .acq k))) :=
  ⟨⟨0, _, { (onWith [(strandA 0 Reg.AQ_STAT, Fld.AQ_STAT_STATE, 1)]) with acqs := [(0, { cfg := Fld.AQ_CFG_SRC.put 0 2, div := 1 })] }, _,
     by decide +kernel, rfl, by decide +kernel, by decide +kernel, rfl⟩,
    ⟨0, 0, _, _, _, { (onWith [(strandA 0 Reg.AQ_STAT, Fld.AQ_STAT_STATE, 3)]) with acqs := [(0, { record := some ⟨0, 0, [], []⟩ })] }, _, _,
     by decide +kernel, rfl, rfl, rfl, rfl, rfl⟩,
    ⟨0, [], [], ⟨.acq 0, 4, 0, 0, false, 0⟩, { on with mem := { reqs := [⟨.acq 0, 4, 0, 0, false, 0⟩] } }, by decide +kernel, by decide +kernel,
     by decide +kernel⟩⟩

/-- The hypotheses of Obligations.MemoryController have a state for each clause. -/
theorem test_hyps_MemoryController :
    (∃ (k : Fin 192), ∃ (seg : Nat), ∃ (gran : Nat), ∃ (t : Nat), ∃ (read1 : Bool), ∃ (read2 : Bool), ∃ (r : MemReq), ∃ (s : State), ∃ (s1 : State),
    ∃ (s2 : State), (s.mem.reqs.find? (fun r => r.use == .refill k seg gran) = some r) ∧ (s.serving r.chan = true) ∧
    (s1 = { (s.advanceTo t).traffic 516 with mem := { ((s.advanceTo t).traffic 516).mem with reqs := ((s.advanceTo t).traffic 516).mem.reqs.erase r } }) ∧
    (s2 = (if s.panicLate r t then (s1.raise Reg.MC_STAT Fld.MC_STAT_PANIC_LATE).fault srcMem 1 r.chan else s1)) ∧ (read1 = true) ∧
    (s2.granuleMatches seg gran = true)) ∧
    (∃ (k : Fin 192), ∃ (seg : Nat), ∃ (gran : Nat), ∃ (t : Nat), ∃ (read1 : Bool), ∃ (read2 : Bool), ∃ (r : MemReq), ∃ (s : State), ∃ (s1 : State),
    ∃ (s2 : State), (s.mem.reqs.find? (fun r => r.use == .refill k seg gran) = some r) ∧ (s.serving r.chan = true) ∧
    (s1 = { (s.advanceTo t).traffic 516 with mem := { ((s.advanceTo t).traffic 516).mem with reqs := ((s.advanceTo t).traffic 516).mem.reqs.erase r } }) ∧
    (s2 = (if s.panicLate r t then (s1.raise Reg.MC_STAT Fld.MC_STAT_PANIC_LATE).fault srcMem 1 r.chan else s1)) ∧ (read1 = false) ∧ (read2 = true) ∧
    (s2.granuleMatches seg gran = true)) ∧
    (∃ (k : Fin 192), ∃ (seg : Nat), ∃ (gran : Nat), ∃ (t : Nat), ∃ (read1 : Bool), ∃ (read2 : Bool), ∃ (r : MemReq), ∃ (s : State), ∃ (s1 : State),
    ∃ (s2 : State), (s.mem.reqs.find? (fun r => r.use == .refill k seg gran) = some r) ∧ (s.serving r.chan = true) ∧
    (s1 = { (s.advanceTo t).traffic 516 with mem := { ((s.advanceTo t).traffic 516).mem with reqs := ((s.advanceTo t).traffic 516).mem.reqs.erase r } }) ∧
    (s2 = (if s.panicLate r t then (s1.raise Reg.MC_STAT Fld.MC_STAT_PANIC_LATE).fault srcMem 1 r.chan else s1)) ∧
    ((read1 = false ∧ read2 = false) ∨ s2.granuleMatches seg gran = false) ∧ (s2.streamOf seg = none)) ∧
    (∃ (k : Fin 192), ∃ (seg : Nat), ∃ (gran : Nat), ∃ (t : Nat), ∃ (read1 : Bool), ∃ (read2 : Bool), ∃ (r : MemReq), ∃ (s : State), ∃ (s1 : State),
    ∃ (s2 : State), (s.mem.reqs.find? (fun r => r.use == .refill k seg gran) = some r) ∧ (s.serving r.chan = true) ∧
    (s1 = { (s.advanceTo t).traffic 516 with mem := { ((s.advanceTo t).traffic 516).mem with reqs := ((s.advanceTo t).traffic 516).mem.reqs.erase r } }) ∧
    (s2 = (if s.panicLate r t then (s1.raise Reg.MC_STAT Fld.MC_STAT_PANIC_LATE).fault srcMem 1 r.chan else s1)) ∧
    ((read1 = false ∧ read2 = false) ∨ s2.granuleMatches seg gran = false) ∧ ∃ n, ∃ x, (s2.streamOf seg = some n) ∧
    (Store.get? s2.mem.streams n = some x)) ∧
    (∃ (r : MemReq), ∃ (s : State), ∃ (s1 : State), (s.mem.reqs.find? (fun r => decide (4 ≤ r.cls) && !r.promoted) = some r) ∧
    (s1 = s.advanceTo (r.at_ + 20 * usU))) ∧
    (∃ (c : Fin 8), ∃ (s : State), ∃ (s1 : State), (s.mem.selfRefresh = false) ∧ ((s.chan c).window = none) ∧ ((s.chan c).paused = false) ∧
    (s1 = (s.advanceTo (s.pauseDue c - 4 * usU)).modChan c (fun x => { x with window := some (max s.now (s.pauseDue c - 4 * usU)) }))) ∧
    (∃ (c : Fin 8), ∃ (w : Nat), ∃ (due : Nat), ∃ (s : State), ∃ (s1 : State), ∃ (s2 : State), ((s.chan c).window = some w) ∧
    (s.mem.selfRefresh = false) ∧ ((∀ i < 8, (s.chan i).paused = false)) ∧ (due = max (s.pauseDue c) (w + 4 * usU)) ∧
    (s1 = s.advanceTo (if 0 < s.panicOn c then due + 100 * usU else due)) ∧
    (s2 = ((s1.modChan c (fun x => { x with paused := true, lastPause := s1.now, window := none })).satAdd Reg.MC_RETRAIN_STAT Fld.MC_RETRAIN_STAT_COUNT 1).setFld Reg.MC_RETRAIN_STAT Fld.MC_RETRAIN_STAT_LAST_CH c)) ∧
    (∃ (c : Fin 8), ∃ (ok : Bool), ∃ (f : Nat), ∃ (s : State), ∃ (s1 : State), ∃ (s2 : State), ((s.chan c).paused = true) ∧ (s.free = (f, s1)) ∧
    (s2 = s1.advanceTo ((s.chan c).lastPause + f % 983041))) ∧
    (∃ (c : Fin 8), ∃ (ok : Bool), ∃ (s : State), ((s.chan c).paused = false) ∧ ((s.chan c).training = true) ∧
    ((∀ i < c.val, (s.chan i).training = false))) ∧
    (∃ (n : Fin 16), ∃ (g : Nat), ∃ (len : Nat), ∃ (x : Stream), ∃ (s : State), ∃ (s1 : State), (Store.get? s.mem.streams n = some x) ∧
    (g = s.strmPull n + x.pulling.length) ∧ (len = (match s.segment? x.seg with | some q => q.len | none => 0)) ∧
    (s.fld (strmA Reg.MC_STRM_STAT n) Fld.MC_STRM_STAT_STATE = 1) ∧ (g < s.strmProd n) ∧ (g < len) ∧ (g < s.strmCons n + 32768) ∧
    (s1 = s.advanceTo s.mem.nextPull)) :=
  ⟨⟨0, 0, 0, 0, true, false, ⟨.refill 0 0 0, 4, 0, 0, false, 0⟩,
     { on with mem := { reqs := [⟨.refill 0 0 0, 4, 0, 0, false, 0⟩], segs := [(0, { len := 1, succ := none, fd := 0, pairs := [], crcs := [crc16 (granBytes (List.replicate 64 0))], grans := [(0, List.replicate 64 0)], chan0 := 0, groups := [0], stream := none })] } },
     _, _, by decide +kernel, by decide +kernel, rfl, rfl, by decide +kernel, by decide +kernel⟩,
    ⟨0, 0, 0, 0, false, true, ⟨.refill 0 0 0, 4, 0, 0, false, 0⟩,
     { on with mem := { reqs := [⟨.refill 0 0 0, 4, 0, 0, false, 0⟩], segs := [(0, { len := 1, succ := none, fd := 0, pairs := [], crcs := [crc16 (granBytes (List.replicate 64 0))], grans := [(0, List.replicate 64 0)], chan0 := 0, groups := [0], stream := none })] } },
     _, _, by decide +kernel, by decide +kernel, rfl, rfl, by decide +kernel, by decide +kernel, by decide +kernel⟩,
    ⟨0, 0, 0, 0, false, false, ⟨.refill 0 0 0, 4, 0, 0, false, 0⟩,
     { on with mem := { reqs := [⟨.refill 0 0 0, 4, 0, 0, false, 0⟩], segs := [(0, { len := 1, succ := none, fd := 0, pairs := [], crcs := [crc16 (granBytes (List.replicate 64 0))], grans := [(0, List.replicate 64 0)], chan0 := 0, groups := [0], stream := none })] } },
     _, _, by decide +kernel, by decide +kernel, rfl, rfl, by decide +kernel, by decide +kernel⟩,
    ⟨0, 0, 0, 0, false, false, ⟨.refill 0 0 0, 4, 0, 0, false, 0⟩,
     { on with mem := { reqs := [⟨.refill 0 0 0, 4, 0, 0, false, 0⟩], segs := [(0, { len := 1, succ := none, fd := 0, pairs := [], crcs := [crc16 (granBytes (List.replicate 64 0))], grans := [(0, List.replicate 64 0)], chan0 := 0, groups := [0], stream := some 15 })], streams := [(15, ⟨0, 1, 0, 0, 0, 0, 0, [], 0, 0⟩)] } },
     _, _, by decide +kernel, by decide +kernel, rfl, rfl, by decide +kernel, _, _, rfl, rfl⟩,
    ⟨⟨.refill 0 0 0, 4, 0, 0, false, 0⟩, { on with mem := { reqs := [⟨.refill 0 0 0, 4, 0, 0, false, 0⟩] } }, _, by decide +kernel, rfl⟩,
    ⟨0, on, _, by decide +kernel, by decide +kernel, by decide +kernel, rfl⟩,
    ⟨0, 5, _, { on with mem := { chans := [(0, { window := some 5 })] } }, _, _, by decide +kernel, by decide +kernel, by decide +kernel, rfl, rfl,
     rfl⟩,
    ⟨0, true, _, { on with mem := { chans := [(0, { paused := true })] } }, _, _, by decide +kernel, rfl, rfl⟩,
    ⟨7, true, { on with mem := { chans := [(7, { training := true })] } }, by decide +kernel, by decide +kernel, by decide +kernel⟩,
    ⟨0, _, _, ⟨0, 1, 0, 0, 0, 0, 0, [], 0, 0⟩,
     { (onWith [(strmA Reg.MC_STRM_STAT 0, Fld.MC_STRM_STAT_STATE, 1), (strmA Reg.MC_STRM_PROD 0, Fld.MC_STRM_PROD_INDEX, 1)]) with mem := { segs := [(0, { len := 1, succ := none, fd := 0, pairs := [], crcs := [crc16 (granBytes (List.replicate 64 0))], grans := [(0, List.replicate 64 0)], chan0 := 0, groups := [0], stream := some 0 })], streams := [(0, ⟨0, 1, 0, 0, 0, 0, 0, [], 0, 0⟩)] } },
     _, by decide +kernel, rfl, rfl, by decide +kernel, by decide +kernel, by decide +kernel, by decide +kernel, rfl⟩⟩

/-- The hypotheses of Obligations.SelfRefresh have a state for each clause. -/
theorem test_hyps_SelfRefresh :
    (∃ (dropped : List Nat), ∃ (held : Bool), ∃ (s : State), ∃ (s1 : State), (s.flag Reg.MC_PASR Fld.MC_PASR_EN = true) ∧ (s.allAsleep = true) ∧
    (s.memBusy = false) ∧ (s.mem.selfRefresh = false) ∧
    (dropped = (List.range 8).filter (fun k => k != 0 && !bitOf (s.fld Reg.MC_PASR Fld.MC_PASR_KEEP) k)) ∧
    (held = s.acqs.any (fun e => decide (0 < e.2.spilled))) ∧ (s1 = s.raiseIf (held && dropped.contains 7) Reg.MC_STAT Fld.MC_STAT_PASR_KEPT)) ∧
    (∃ (s : State), (s.mem.selfRefresh = true) ∧ ((s.memBusy = true ∨ s.allAsleep = false))) :=
  ⟨⟨_, _, (onWith [(Reg.MC_PASR, Fld.MC_PASR_EN, 1), (coveA 0 Reg.CV_STATE, Fld.CV_STATE_STATE, 0)]), _, by decide +kernel, by decide +kernel,
     by decide +kernel, by decide +kernel, rfl, rfl, rfl⟩,
    ⟨{ on with mem := { selfRefresh := true } }, by decide +kernel, by decide +kernel⟩⟩

/-- The hypotheses of Obligations.SegmentsAndStreams have a state for each clause. -/
theorem test_hyps_SegmentsAndStreams :
    (∃ (c : HostCmd), ∃ (s : State), (s.nextCmd 0x02 = some c)) ∧
    (∃ (c : HostCmd), ∃ (code : Nat), ∃ (x : Image), ∃ (s : State), ∃ (s1 : State), (s.cmdAt 0x02 .received = some c) ∧
    (readImage c.input false = (code, x)) ∧ (s1 = s.meetSeg c) ∧ (code ≠ 0)) ∧
    (∃ (c : HostCmd), ∃ (code : Nat), ∃ (x : Image), ∃ (s : State), ∃ (s1 : State), (s.cmdAt 0x02 .received = some c) ∧
    (readImage c.input false = (code, x)) ∧ (s1 = s.meetSeg c) ∧ (code = 0) ∧ (s.segBusy c x.seg = true)) ∧
    (∃ (c : HostCmd), ∃ (code : Nat), ∃ (x : Image), ∃ (s : State), ∃ (s1 : State), (s.cmdAt 0x02 .received = some c) ∧
    (readImage c.input false = (code, x)) ∧ (s1 = s.meetSeg c) ∧ (code = 0) ∧ (s.segBusy c x.seg = false) ∧
    (s.fld Reg.MC_FREE Fld.MC_FREE_GROUPS < ceilDiv x.len 16)) ∧
    (∃ (c : HostCmd), ∃ (code : Nat), ∃ (x : Image), ∃ (s : State), ∃ (s1 : State), (s.cmdAt 0x02 .received = some c) ∧
    (readImage c.input false = (code, x)) ∧ (s1 = s.meetSeg c) ∧ (code = 0) ∧ (s.segBusy c x.seg = false) ∧
    (ceilDiv x.len 16 ≤ s.fld Reg.MC_FREE Fld.MC_FREE_GROUPS) ∧ (s.segActive x.seg = true)) ∧
    (∃ (c : HostCmd), ∃ (code : Nat), ∃ (x : Image), ∃ (s : State), ∃ (s1 : State), (s.cmdAt 0x02 .received = some c) ∧
    (readImage c.input false = (code, x)) ∧ (s1 = s.meetSeg c) ∧ (code = 0) ∧ (s.segBusy c x.seg = false) ∧
    (ceilDiv x.len 16 ≤ s.fld Reg.MC_FREE Fld.MC_FREE_GROUPS) ∧ (s.segActive x.seg = false)) ∧
    (∃ (c : HostCmd), ∃ (g : Nat), ∃ (s : State), (s.nextCmd 0x03 = some c) ∧ (g = c.arg 0x08 2) ∧ (s.segBusy c g = false) ∧ (s.segment? g = none)) ∧
    (∃ (c : HostCmd), ∃ (g : Nat), ∃ (s : State), (s.nextCmd 0x03 = some c) ∧ (g = c.arg 0x08 2) ∧ (s.segBusy c g = false) ∧ ∃ x,
    (s.segment? g = some x) ∧ (s.segActive g = true)) ∧
    (∃ (c : HostCmd), ∃ (g : Nat), ∃ (s : State), (s.nextCmd 0x03 = some c) ∧ (g = c.arg 0x08 2) ∧ (s.segBusy c g = false) ∧ ∃ x,
    (s.segment? g = some x) ∧ (s.segActive g = false)) ∧
    (∃ (c : HostCmd), ∃ (n : Nat), ∃ (shown : Nat), ∃ (charge : Nat), ∃ (rate : Nat), ∃ (x : Image), ∃ (s : State), ∃ (s1 : State), ∃ (s2 : State),
    ∃ (s3 : State), ∃ (s4 : State), (s.cmdAt 0x04 .received = some c) ∧ (n = c.arg 0x08 1) ∧ (readImage c.input true = (0, x)) ∧
    (shown = (match s.grantedGroup x.seg with | some g => g.charge | none => chargeMbps 2 128 512)) ∧
    (charge = (if (s.grantedGroup x.seg).isSome then 0 else shown)) ∧ (rate = ceilDiv shown 2) ∧ (s.streamRefusal n x charge rate = 0) ∧
    (s1 = s.dropSegment x.seg) ∧
    (s2 = { s1 with mem := { s1.mem with segs := Store.put s1.mem.segs x.seg { len := x.len, succ := x.succ, fd := x.fd, pairs := x.pairs, crcs := x.crcs, grans := [], chan0 := 5 * x.seg % 8, groups := [], stream := some n }, streams := Store.put s1.mem.streams n { seg := x.seg, slots := c.bufLen 0x20 / 512, hostVa := c.bufAddr 0x20, rkey := c.bufKey 0x20, qp := c.qp, bellVa := c.arg 0x30 8, bellKey := c.arg 0x38 4, pulling := [], charge := charge, rate := rate } } }) ∧
    (s3 = s2.setFld Reg.MC_BUDGET_USED Fld.MC_BUDGET_USED_MBPS (s2.fld Reg.MC_BUDGET_USED Fld.MC_BUDGET_USED_MBPS + charge)) ∧
    (s4 = (((s3.wr (strmA Reg.MC_STRM_STAT n) (BitVec.ofNat 32 (2 ^ 30 + 0xFF0000 + x.seg))).wr (strmA Reg.MC_STRM_PROD n) 0).wr (strmA Reg.MC_STRM_PULL n) 0).wr (strmA Reg.MC_STRM_CONS n) 0)) ∧
    (∃ (c : HostCmd), ∃ (code : Nat), ∃ (n : Nat), ∃ (shown : Nat), ∃ (charge : Nat), ∃ (x : Image), ∃ (s : State),
    (s.cmdAt 0x04 .received = some c) ∧ (n = c.arg 0x08 1) ∧ (readImage c.input true = (code, x)) ∧
    (shown = (match s.grantedGroup x.seg with | some g => g.charge | none => chargeMbps 2 128 512)) ∧
    (charge = (if (s.grantedGroup x.seg).isSome then 0 else shown)) ∧ (code ≠ 0)) ∧
    (∃ (c : HostCmd), ∃ (code : Nat), ∃ (n : Nat), ∃ (shown : Nat), ∃ (charge : Nat), ∃ (x : Image), ∃ (s : State),
    (s.cmdAt 0x04 .received = some c) ∧ (n = c.arg 0x08 1) ∧ (readImage c.input true = (code, x)) ∧
    (shown = (match s.grantedGroup x.seg with | some g => g.charge | none => chargeMbps 2 128 512)) ∧
    (charge = (if (s.grantedGroup x.seg).isSome then 0 else shown)) ∧ (code = 0) ∧ (s.streamRefusal n x charge (ceilDiv shown 2) ≠ 0)) :=
  ⟨⟨(cmdOf 0x02 [] .started []), { on with host := { cmds := [(cmdOf 0x02 [] .started [])] } }, by decide +kernel⟩,
    ⟨(cmdOf 0x02 [] .received []), _, _, { on with host := { cmds := [(cmdOf 0x02 [] .received [])] } }, _, by decide +kernel, rfl, rfl,
     by decide +kernel⟩,
    ⟨{ (cmdOf 0x02 [] .received (imageOf false)) with met := [0] }, 0, (readImage (imageOf false) false).2,
     { on with host := { cmds := [{ (cmdOf 0x02 [] .received (imageOf false)) with met := [0] }] } }, _, by decide +kernel, by decide +kernel, rfl,
     by decide +kernel, by decide +kernel⟩,
    ⟨(cmdOf 0x02 [] .received (imageOf false)), 0, (readImage (imageOf false) false).2,
     { onWith [(Reg.MC_FREE, Fld.MC_FREE_GROUPS, 0)] with host := { cmds := [(cmdOf 0x02 [] .received (imageOf false))] } }, _, by decide +kernel,
     by decide +kernel, rfl, by decide +kernel, by decide +kernel, by decide +kernel⟩,
    ⟨(cmdOf 0x02 [] .received (imageOf false)), 0, (readImage (imageOf false) false).2,
     { on with host := { cmds := [(cmdOf 0x02 [] .received (imageOf false))] }, strands := [(0, { anchored := [0] })] }, _, by decide +kernel,
     by decide +kernel, rfl, by decide +kernel, by decide +kernel, by decide +kernel, by decide +kernel⟩,
    ⟨(cmdOf 0x02 [] .received (imageOf false)), 0, (readImage (imageOf false) false).2,
     { on with host := { cmds := [(cmdOf 0x02 [] .received (imageOf false))] } }, _, by decide +kernel, by decide +kernel, rfl, by decide +kernel,
     by decide +kernel, by decide +kernel, by decide +kernel⟩,
    ⟨(cmdOf 0x03 [] .started []), _, { on with host := { cmds := [(cmdOf 0x03 [] .started [])] } }, by decide +kernel, rfl, by decide +kernel,
     by decide +kernel⟩,
    ⟨(cmdOf 0x03 [] .started []), _,
     { on with host := { cmds := [(cmdOf 0x03 [] .started [])] }, mem := { segs := [(0, { len := 1, succ := none, fd := 0, pairs := [], crcs := [crc16 (granBytes (List.replicate 64 0))], grans := [(0, List.replicate 64 0)], chan0 := 0, groups := [0], stream := none })] }, strands := [(0, { anchored := [0] })] },
     by decide +kernel, rfl, by decide +kernel,
     { len := 1, succ := none, fd := 0, pairs := [], crcs := [crc16 (granBytes (List.replicate 64 0))], grans := [(0, List.replicate 64 0)], chan0 := 0, groups := [0], stream := none },
     by decide +kernel, by decide +kernel⟩,
    ⟨(cmdOf 0x03 [] .started []), _,
     { on with host := { cmds := [(cmdOf 0x03 [] .started [])] }, mem := { segs := [(0, { len := 1, succ := none, fd := 0, pairs := [], crcs := [crc16 (granBytes (List.replicate 64 0))], grans := [(0, List.replicate 64 0)], chan0 := 0, groups := [0], stream := none })] } },
     by decide +kernel, rfl, by decide +kernel,
     { len := 1, succ := none, fd := 0, pairs := [], crcs := [crc16 (granBytes (List.replicate 64 0))], grans := [(0, List.replicate 64 0)], chan0 := 0, groups := [0], stream := none },
     by decide +kernel, by decide +kernel⟩,
    ⟨(cmdOf 0x04 [] .received (imageOf true)), _, _, _, _, (readImage (imageOf true) true).2,
     { onWith [(Reg.MC_STREAM_ALLOW, Fld.MC_STREAM_ALLOW_ALLOW, 16)] with host := { cmds := [(cmdOf 0x04 [] .received (imageOf true))] } }, _, _, _,
     _, by decide +kernel, rfl, by decide +kernel, rfl, rfl, rfl, by decide +kernel, rfl, rfl, rfl, rfl⟩,
    ⟨(cmdOf 0x04 [] .received []), _, _, _, _, _, { on with host := { cmds := [(cmdOf 0x04 [] .received [])] } }, by decide +kernel, rfl, rfl, rfl,
     rfl, by decide +kernel⟩,
    ⟨(cmdOf 0x04 [] .received (imageOf true)), 0, _, _, _, (readImage (imageOf true) true).2,
     { onWith [(Reg.MC_STREAM_ALLOW, Fld.MC_STREAM_ALLOW_ALLOW, 0)] with host := { cmds := [(cmdOf 0x04 [] .received (imageOf true))] } },
     by decide +kernel, rfl, by decide +kernel, rfl, rfl, by decide +kernel, by decide +kernel⟩⟩

/-- The hypotheses of Obligations.FailPath have a state for each clause. -/
theorem test_hyps_FailPath :
    (∃ (k : Fin 192), ∃ (r : StepRec), ∃ (e : FailEvent), ∃ (s : State), ∃ (s1 : State), (s.nextFail k = some r) ∧ (e = s.eventOf k r) ∧
    (s1 = (pinsSet e.pins).foldl (fun x p => x.wr (strandA k (Reg.FL_PIN_FAIL + 4 * (p % 8))) (BitVec.ofNat 32 (sat32 ((x.rd (strandA k (Reg.FL_PIN_FAIL + 4 * (p % 8)))).toNat + 1)))) ((s.modStrand k (fun t => ({ t with recs := t.recs.erase r } : Strand).setFail (r.fails.map (fun f => f.t)))).addLed k Reg.FL_SEEN_LO 1)) ∧
    ((s1.strand k).capture = false)) ∧
    (∃ (k : Fin 192), ∃ (r : StepRec), ∃ (e : FailEvent), ∃ (s : State), ∃ (s1 : State), (s.nextFail k = some r) ∧ (e = s.eventOf k r) ∧
    (s1 = (pinsSet e.pins).foldl (fun x p => x.wr (strandA k (Reg.FL_PIN_FAIL + 4 * (p % 8))) (BitVec.ofNat 32 (sat32 ((x.rd (strandA k (Reg.FL_PIN_FAIL + 4 * (p % 8)))).toNat + 1)))) ((s.modStrand k (fun t => ({ t with recs := t.recs.erase r } : Strand).setFail (r.fails.map (fun f => f.t)))).addLed k Reg.FL_SEEN_LO 1)) ∧
    ((s1.strand k).capture = true) ∧ (s1.jrnFree ≤ 65536)) ∧
    (∃ (k : Fin 192), ∃ (r : StepRec), ∃ (e : FailEvent), ∃ (s : State), ∃ (s1 : State), (s.nextFail k = some r) ∧ (e = s.eventOf k r) ∧
    (s1 = (pinsSet e.pins).foldl (fun x p => x.wr (strandA k (Reg.FL_PIN_FAIL + 4 * (p % 8))) (BitVec.ofNat 32 (sat32 ((x.rd (strandA k (Reg.FL_PIN_FAIL + 4 * (p % 8)))).toNat + 1)))) ((s.modStrand k (fun t => ({ t with recs := t.recs.erase r } : Strand).setFail (r.fails.map (fun f => f.t)))).addLed k Reg.FL_SEEN_LO 1)) ∧
    ((s1.strand k).capture = true) ∧ (65536 < s1.jrnFree) ∧ (1024 ≤ (s1.strand k).failQ.length)) ∧
    (∃ (k : Fin 192), ∃ (r : StepRec), ∃ (e : FailEvent), ∃ (s : State), ∃ (s1 : State), (s.nextFail k = some r) ∧ (e = s.eventOf k r) ∧
    (s1 = (pinsSet e.pins).foldl (fun x p => x.wr (strandA k (Reg.FL_PIN_FAIL + 4 * (p % 8))) (BitVec.ofNat 32 (sat32 ((x.rd (strandA k (Reg.FL_PIN_FAIL + 4 * (p % 8)))).toNat + 1)))) ((s.modStrand k (fun t => ({ t with recs := t.recs.erase r } : Strand).setFail (r.fails.map (fun f => f.t)))).addLed k Reg.FL_SEEN_LO 1)) ∧
    ((s1.strand k).capture = true) ∧ (65536 < s1.jrnFree) ∧ ((s1.strand k).failQ.length < 1024)) ∧
    (∃ (k : Nat), ∃ (e : FailEvent), ∃ (rest : List FailEvent), ∃ (ev : LaneEv), ∃ (spill : Bool), ∃ (s : State), ∃ (s1 : State), ∃ (s2 : State),
    (s.nextStrand = some k) ∧ ((s.strand k).failQ = e :: rest) ∧ (ev = ⟨k, e.dieField, e.xp, e.yp, e.zp, e.pins⟩) ∧
    (spill = s.laneShut (s.laneOf ev) e.dieField) ∧ (s1 = s.modStrand k (fun t => { t with failQ := rest })) ∧
    (s2 = ({ s1 with failPath := { s1.failPath with turn := (k + 1) % 192 } }).journalRec k e.start 0 e.xp e.yp e.zp e.dieField e.pins (bitN e.nodec * 4 + bitN spill * 2 + bitN e.isMatch) 0)) ∧
    (∃ (s : State), (s.failPath.buffer ≠ [])) ∧
    (∃ (g : Nat), ∃ (recs : List JrnRec), ∃ (rest : List (Nat × List JrnRec)), ∃ (s : State), ∃ (s1 : State), ∃ (s2 : State),
    (s.mem.selfRefresh = false) ∧ (s.failPath.writing = (g, recs) :: rest) ∧
    (s1 = ((({ s with failPath := { s.failPath with writing := rest, journal := Store.put s.failPath.journal g recs } }).traffic 64).countGroup g recs)) ∧
    (s2 = (if 8388608 - (g + 1) = 65536 then s1.fault srcJournal 0 0 else s1))) ∧
    (∃ (b : Nat), ∃ (s : State), ∃ (s1 : State), (s.failPath.base = some b) ∧ (s1 = s.advanceTo ((b + 549755813888) * cycU))) ∧
    (∃ (k : Fin 192), ∃ (s : State), ((s.strand k).endDue = true) ∧ ((s.strand k).recs = []) ∧ ((s.strand k).failQ = []) ∧
    ((s.strand k).mark = none)) ∧
    (∃ (bad : List Nat), ∃ (s : State), ∃ (s1 : State), ∃ (s2 : State), (s.failPath.audit.isSome = true) ∧
    (s1 = (s.failPath.journal.filter (fun g => bad.contains g.1)).foldl (fun x g => x.groupBad g.1) s) ∧
    (s2 = ((((s.failPath.journal.filter (fun g => !bad.contains g.1)).foldl (fun x g => g.2.foldl (auditRec g.1) x) (([], []) : Store Scan × List (Nat × Nat × Int))).2).foldl (fun x e => x.jrnImb e.1 e.2.1 e.1 e.2.2) s1))) ∧
    (∃ (c : HostCmd), ∃ (ks : List Nat), ∃ (out : List Byte), ∃ (s : State), (s.nextCmd 0x0A = some c) ∧ (ks = c.mask 0x08) ∧
    (out = ks.flatMap (fun k => s.ledgerBlock k) ++ s.deviceBlock)) :=
  ⟨⟨0,
     { step := 0, start := 0, seg := 0, off := 0, xp := 0, yp := 0, zp := 0, pend := 0, fails := [⟨7, 1, false⟩], block := none, lastFire := 1, late := false, isMatch := false },
     _,
     { on with strands := [(0, { recs := [{ step := 0, start := 0, seg := 0, off := 0, xp := 0, yp := 0, zp := 0, pend := 0, fails := [⟨7, 1, false⟩], block := none, lastFire := 1, late := false, isMatch := false }], capture := false })] },
     _, by decide +kernel, rfl, rfl, by decide +kernel⟩,
    ⟨0,
     { step := 0, start := 0, seg := 0, off := 0, xp := 0, yp := 0, zp := 0, pend := 0, fails := [⟨7, 1, false⟩], block := none, lastFire := 1, late := false, isMatch := false },
     _,
     { (onWith [(Reg.FL_JRN_WP, Fld.FL_JRN_WP_GROUPS, 8323072)]) with strands := [(0, { recs := [{ step := 0, start := 0, seg := 0, off := 0, xp := 0, yp := 0, zp := 0, pend := 0, fails := [⟨7, 1, false⟩], block := none, lastFire := 1, late := false, isMatch := false }] })] },
     _, by decide +kernel, rfl, rfl, by decide +kernel, by decide +kernel⟩,
    ⟨0,
     { step := 0, start := 0, seg := 0, off := 0, xp := 0, yp := 0, zp := 0, pend := 0, fails := [⟨7, 1, false⟩], block := none, lastFire := 1, late := false, isMatch := false },
     _,
     { on with strands := [(0, { recs := [{ step := 0, start := 0, seg := 0, off := 0, xp := 0, yp := 0, zp := 0, pend := 0, fails := [⟨7, 1, false⟩], block := none, lastFire := 1, late := false, isMatch := false }], failQ := List.replicate 1024 ⟨0, 0, 128, 0, 0, 0, 0, false, false, false⟩ })] },
     _, by decide +kernel, rfl, rfl, by decide +kernel, by decide +kernel, by decide +kernel⟩,
    ⟨0,
     { step := 0, start := 0, seg := 0, off := 0, xp := 0, yp := 0, zp := 0, pend := 0, fails := [⟨7, 1, false⟩], block := none, lastFire := 1, late := false, isMatch := false },
     _,
     { on with strands := [(0, { recs := [{ step := 0, start := 0, seg := 0, off := 0, xp := 0, yp := 0, zp := 0, pend := 0, fails := [⟨7, 1, false⟩], block := none, lastFire := 1, late := false, isMatch := false }], failQ := List.replicate 1023 ⟨0, 0, 128, 0, 0, 0, 0, false, false, false⟩ })] },
     _, by decide +kernel, rfl, rfl, by decide +kernel, by decide +kernel, by decide +kernel⟩,
    ⟨191, _, _, _, _, { on with strands := [(191, { failQ := [⟨0, 0, 128, 0, 0, 0, 0, false, false, false⟩] })] }, _, _, by decide +kernel, rfl, rfl,
     rfl, rfl, rfl⟩,
    ⟨{ on with failPath := { buffer := [padRec] } }, by decide +kernel⟩,
    ⟨8323071, [padRec], [], { on with failPath := { writing := [(8323071, [padRec])] } }, _, _, by decide +kernel, by decide +kernel, rfl, rfl⟩,
    ⟨_, { on with failPath := { base := some 5 } }, _, rfl, rfl⟩,
    ⟨0, { on with strands := [(0, { endDue := true })] }, by decide +kernel, by decide +kernel, by decide +kernel, by decide +kernel⟩,
    ⟨[], { on with failPath := { audit := some 5 } }, _, _, by decide +kernel, rfl, rfl⟩,
    ⟨(cmdOf 0x0A [] .started []), _, _, { on with host := { cmds := [(cmdOf 0x0A [] .started [])] } }, by decide +kernel, rfl, rfl⟩⟩

/-- The hypotheses of Obligations.SpliceLanes have a state for each clause. -/
theorem test_hyps_SpliceLanes :
    (∃ (l : Fin 16), ∃ (bad : List Nat), ∃ (e : LaneEv), ∃ (rest : List LaneEv), ∃ (s : State), ((s.lane l).input = e :: rest) ∧
    ((s.lane l).waiting.length < 64)) ∧
    (∃ (slot : Nat), ∃ (good : Bool), ∃ (c : Ctx), ∃ (s : State), ∃ (s1 : State), (s.mem.reqs.any (fun r => r.use == .context slot) = true) ∧
    (s.mem.selfRefresh = false) ∧ (s1 = { s with mem := { s.mem with reqs := s.mem.reqs.filter (fun r => decide (r.use ≠ MemUse.context slot)) } }) ∧
    (s1.ctx slot = some c)) ∧
    (∃ (l : Fin 16), ∃ (d : Nat), ∃ (f : Final), ∃ (sum : LaneSum), ∃ (recs : List (Nat × JrnRec)), ∃ (s : State), ∃ (s1 : State), ∃ (s2 : State),
    ∃ (s3 : State), ∃ (rebuild : Bool), (s.finalOf d = some f) ∧ (f.left.contains l.val = true) ∧ ((∀ e ∈ (s.lane l).waiting, e.die ≠ d)) ∧
    (rebuild = s.recomp l d) ∧ (s.windowRecs l d f.start f.stop rebuild = recs) ∧ ((f.cut && rebuild) = false) ∧
    (s1 = (if rebuild then (s.dropCtxs l d).satAdd Reg.SP_CRC_CNT Fld.SP_CRC_CNT_RECOMP 1 else s)) ∧
    (s2 = recs.foldl (fun x e => (match x.needCtx .die l d 0 0 with | (some _, y) => y | (none, y) => y.ctxLost l d).foldEvent l e.2.event) s1) ∧
    (sum = s2.laneSolve l d f.bound rebuild false) ∧ (s3 = s2.raiseIf sum.undetermined Reg.SP_STAT Fld.SP_STAT_BOUND_HIT)) :=
  ⟨⟨0, [], ⟨0, 0, 0, 0, 0, 0⟩, [],
     { on with splice := { lanes := [(0, { input := [⟨0, 0, 0, 0, 0, 0⟩], waiting := List.replicate 63 ⟨0, 0, 0, 0, 0, 0⟩ })] } }, by decide +kernel,
     by decide +kernel⟩,
    ⟨5, true, { kind := .die, lane := 0, die := 0, seg := 0, line := 0 },
     { on with mem := { reqs := [⟨.context 5, 4, 0, 0, false, 0⟩] }, splice := { ctxs := [(5, { kind := .die, lane := 0, die := 0, seg := 0, line := 0 })] } },
     _, by decide +kernel, by decide +kernel, rfl, by decide +kernel⟩,
    ⟨15, 0, ⟨0, 0, 0, 0, [15], [], 0, false, false, false, false⟩, _, _,
     { on with splice := { finals := [⟨0, 0, 0, 0, [15], [], 0, false, false, false, false⟩] } }, _, _, _, _, by decide +kernel, by decide +kernel,
     by decide +kernel, rfl, rfl, by decide +kernel, rfl, rfl, rfl, rfl⟩⟩

/-- The hypotheses of Obligations.PlacementCommands have a state for each clause. -/
theorem test_hyps_PlacementCommands :
    (∃ (c : HostCmd), ∃ (s : State), (s.nextCmd 0x01 = some c)) ∧
    (∃ (c : HostCmd), ∃ (r : Option Refused), ∃ (t : Option Placement), ∃ (s : State), (s.cmdAt 0x01 .received = some c) ∧ (s.plannerFree = true) ∧
    (s.orderBusy = true)) ∧
    (∃ (c : HostCmd), ∃ (r : Option Refused), ∃ (t : Option Placement), ∃ (s : State), (s.cmdAt 0x01 .received = some c) ∧ (s.plannerFree = true) ∧
    (s.orderBusy = false) ∧ (s.place.making.isSome = true)) ∧
    (∃ (c : HostCmd), ∃ (r : Option Refused), ∃ (t : Option Placement), ∃ (s : State), (s.cmdAt 0x01 .received = some c) ∧ (s.plannerFree = true) ∧
    (s.orderBusy = false) ∧ (s.place.making = none) ∧ (s.decision c.input = (r, t))) ∧
    (∃ (m : Placing), ∃ (c : HostCmd), ∃ (f : Nat), ∃ (s : State), ∃ (s0 : State), ∃ (s1 : State), ∃ (s2 : State), (s.makingCmd = some (m, c)) ∧
    (m.applying = none) ∧ (s.plannerFree = true) ∧ (s.free = (f, s0)) ∧ (s1 = s0.advanceTo (m.since + f % (150000 * usU))) ∧
    (s2 = s1.setFld Reg.PL_TIME Fld.PL_TIME_PLACE (min 65535 ((s1.now - m.since) / (10 * usU)))) ∧ ∃ r, (m.refusal = some r)) ∧
    (∃ (m : Placing), ∃ (c : HostCmd), ∃ (f : Nat), ∃ (s : State), ∃ (s0 : State), ∃ (s1 : State), ∃ (s2 : State), (s.makingCmd = some (m, c)) ∧
    (m.applying = none) ∧ (s.plannerFree = true) ∧ (s.free = (f, s0)) ∧ (s1 = s0.advanceTo (m.since + f % (150000 * usU))) ∧
    (s2 = s1.setFld Reg.PL_TIME Fld.PL_TIME_PLACE (min 65535 ((s1.now - m.since) / (10 * usU)))) ∧ ∃ p, (m.refusal = none) ∧ (m.table = some p) ∧
    (s.splice.finals = []) ∧ (s.calRuns = []) ∧ (s2.orderBusy = true)) ∧
    (∃ (m : Placing), ∃ (c : HostCmd), ∃ (f : Nat), ∃ (s : State), ∃ (s0 : State), ∃ (s1 : State), ∃ (s2 : State), (s.makingCmd = some (m, c)) ∧
    (m.applying = none) ∧ (s.plannerFree = true) ∧ (s.free = (f, s0)) ∧ (s1 = s0.advanceTo (m.since + f % (150000 * usU))) ∧
    (s2 = s1.setFld Reg.PL_TIME Fld.PL_TIME_PLACE (min 65535 ((s1.now - m.since) / (10 * usU)))) ∧ ∃ p, (m.refusal = none) ∧ (m.table = some p) ∧
    (s.splice.finals = []) ∧ (s.calRuns = []) ∧ (s2.orderBusy = false)) ∧
    (∃ (m : Placing), ∃ (c : HostCmd), ∃ (t0 : Nat), ∃ (f : Nat), ∃ (p : Placement), ∃ (out : List Byte), ∃ (s : State), ∃ (s0 : State),
    ∃ (s1 : State), ∃ (s2 : State), ∃ (s3 : State), ∃ (s4 : State), (s.makingCmd = some (m, c)) ∧ (m.applying = some t0) ∧ (m.table = some p) ∧
    (s.plannerFree = true) ∧ ((∀ k ∈ covesOf p.wake, s.wakeOver k = true)) ∧ (s.free = (f, s0)) ∧ (s1 = s0.advanceTo (t0 + f % (40000 * usU))) ∧
    (s2 = ((({ s1 with place := { s1.place with making := none, toTouch := List.range 16 } }).setTable p).switchEngines p).showBudget) ∧
    (s3 = s2.setFld Reg.PL_TIME Fld.PL_TIME_APPLY (min 65535 ((s2.now - t0) / (10 * usU)))) ∧
    (s4 = (s3.raise Reg.PL_STAT Fld.PL_STAT_APPLIED).raiseIf (p.refDrop || !p.dropped.isEmpty) Reg.PL_STAT Fld.PL_STAT_DROPPED) ∧
    (out = (match s4.place.table with | some t => t.bytes | none => []))) :=
  ⟨⟨(cmdOf 0x01 [] .started []), { on with host := { cmds := [(cmdOf 0x01 [] .started [])] } }, by decide +kernel⟩,
    ⟨(cmdOf 0x01 [] .received []), none, none, { on with host := { cmds := [(cmdOf 0x01 [] .received [])] }, forced := { device := true } },
     by decide +kernel, by decide +kernel, by decide +kernel⟩,
    ⟨(cmdOf 0x01 [] .received []), none, none,
     { on with host := { cmds := [(cmdOf 0x01 [] .received [])] }, place := { making := some ⟨0, 0, 0, 0, none, none, none⟩ } }, by decide +kernel,
     by decide +kernel, by decide +kernel, by decide +kernel⟩,
    ⟨(cmdOf 0x01 [] .received []), _, _, { on with host := { cmds := [(cmdOf 0x01 [] .received [])] } }, by decide +kernel, by decide +kernel,
     by decide +kernel, by decide +kernel, rfl⟩,
    ⟨(⟨0, 0, 0, 0, some (1, 0), none, none⟩ : Placing), (cmdOf 0x01 [] .deciding []), _,
     { on with host := { cmds := [(cmdOf 0x01 [] .deciding [])] }, place := { making := some (⟨0, 0, 0, 0, some (1, 0), none, none⟩ : Placing) } },
     _, _, _, by decide +kernel, by decide +kernel, by decide +kernel, rfl, rfl, rfl, (1, 0), by decide +kernel⟩,
    ⟨(⟨0, 0, 0, 0, none, some ⟨0, 1, [], 1, 0, 0, 0, 0, [], [], false, [], []⟩, none⟩ : Placing), (cmdOf 0x01 [] .deciding []), _,
     { on with host := { cmds := [(cmdOf 0x01 [] .deciding [])] }, place := { making := some (⟨0, 0, 0, 0, none, some ⟨0, 1, [], 1, 0, 0, 0, 0, [], [], false, [], []⟩, none⟩ : Placing) }, forced := { device := true } },
     _, _, _, by decide +kernel, by decide +kernel, by decide +kernel, rfl, rfl, rfl, ⟨0, 1, [], 1, 0, 0, 0, 0, [], [], false, [], []⟩,
     by decide +kernel, by decide +kernel, by decide +kernel, by decide +kernel, (orderBusy_time _ _ _).trans (by decide +kernel)⟩,
    ⟨(⟨0, 0, 0, 0, none, some ⟨0, 1, [], 1, 0, 0, 0, 0, [], [], false, [], []⟩, none⟩ : Placing), (cmdOf 0x01 [] .deciding []), _,
     { on with host := { cmds := [(cmdOf 0x01 [] .deciding [])] }, place := { making := some (⟨0, 0, 0, 0, none, some ⟨0, 1, [], 1, 0, 0, 0, 0, [], [], false, [], []⟩, none⟩ : Placing) } },
     _, _, _, by decide +kernel, by decide +kernel, by decide +kernel, rfl, rfl, rfl, ⟨0, 1, [], 1, 0, 0, 0, 0, [], [], false, [], []⟩,
     by decide +kernel, by decide +kernel, by decide +kernel, by decide +kernel, (orderBusy_time _ _ _).trans (by decide +kernel)⟩,
    ⟨(⟨0, 0, 0, 0, none, some ⟨0, 1, [], 1, 0, 0, 0, 0, [], [], false, [], []⟩, some 5⟩ : Placing), (cmdOf 0x01 [] .applying []), 5, _,
     ⟨0, 1, [], 1, 0, 0, 0, 0, [], [], false, [], []⟩, _,
     { on with host := { cmds := [(cmdOf 0x01 [] .applying [])] }, place := { making := some (⟨0, 0, 0, 0, none, some ⟨0, 1, [], 1, 0, 0, 0, 0, [], [], false, [], []⟩, some 5⟩ : Placing) } },
     _, _, _, _, _, by decide +kernel, by decide +kernel, by decide +kernel, by decide +kernel, by decide +kernel, rfl, rfl, rfl, rfl, rfl, rfl⟩⟩

/-- The hypotheses of Obligations.PmuSequences have a state for each clause. -/
theorem test_hyps_PmuSequences :
    (∃ (n : Fin 1536), ∃ (t : Nat), ∃ (s : State), ((s.pmu n).seq = .connect t)) ∧
    (∃ (n : Fin 1536), ∃ (t : Nat), ∃ (conn : Bool), ∃ (s : State), ((s.pmu n).seq = .off t) ∧ (conn = (s.pmConn n && s.pmMode n == 0))) ∧
    (∃ (n : Fin 1536), ∃ (outside : Bool), ∃ (t : Nat), ∃ (r : Nat), ∃ (s : State), ((s.pmu n).seq = .rangeLimit t r)) ∧
    (∃ (n : Fin 1536), ∃ (t : Nat), ∃ (r : Nat), ∃ (s : State), ((s.pmu n).seq = .rangeOpen t r)) ∧
    (∃ (n : Fin 1536), ∃ (t : Nat), ∃ (r : Nat), ∃ (s : State), ((s.pmu n).seq = .rangeEnd t r)) :=
  ⟨⟨1535, 5, { on with pmus := [(1535, { seq := .connect 5 })] }, by decide +kernel⟩,
    ⟨1535, 5, _, { on with pmus := [(1535, { seq := .off 5 })] }, by decide +kernel, rfl⟩,
    ⟨1535, true, 5, 2, { on with pmus := [(1535, { seq := .rangeLimit 5 2 })] }, by decide +kernel⟩,
    ⟨1535, 5, 2, { on with pmus := [(1535, { seq := .rangeOpen 5 2 })] }, by decide +kernel⟩,
    ⟨1535, 5, 2, { on with pmus := [(1535, { seq := .rangeEnd 5 2 })] }, by decide +kernel⟩⟩

/-- The hypotheses of Obligations.SineGenerator have a state for each clause. -/
theorem test_hyps_SineGenerator :
    (∃ (k : Fin 192), ∃ (phase : Nat), ∃ (raw : Int), ∃ (s : State), (s.flag (strandA k Reg.SG_CTRL) Fld.SG_CTRL_EN = true) ∧
    (phase = (if (s.strand k).sineLoad then ((s.sq k Reg.SG_PHASE0).toNat % 65536) * 2 ^ 32 else ((s.strand k).sinePhase + min ftwMax (s.sgFtw k)) % 2 ^ 48)) ∧
    (raw = s.sineRaw k (s.sineEntry k (phase / 2 ^ 36)))) ∧
    (∃ (k : Fin 192), ∃ (s : State), (s.flag (strandA k Reg.SG_CTRL) Fld.SG_CTRL_EN = false)) :=
  ⟨⟨191, _, _, (onWith [(strandA 191 Reg.SG_CTRL, Fld.SG_CTRL_EN, 1)]), by decide +kernel, rfl, rfl⟩,
    ⟨0, on, by decide +kernel⟩⟩

/-- The hypotheses of Obligations.CalibrationRuns have a state for each clause. -/
theorem test_hyps_CalibrationRuns :
    (∃ (c : HostCmd), ∃ (s : State), (s.nextCmd 0x08 = some c)) ∧
    (∃ (c : Fin 16), ∃ (meas : List CalMeas), ∃ (temp : BitVec 8), ∃ (r : CalRun), ∃ (left : List Nat), ∃ (m : Nat), ∃ (acc : Nat), ∃ (s : State),
    ∃ (s1 : State), ∃ (s2 : State), (Store.get? s.calRuns c = some r) ∧ (r.kind ≠ 4) ∧
    (left = (pinsSet r.pins).filter (fun p => !bitOf r.tripped p)) ∧
    (left.foldl (fun (x : State × Nat) p => ((State.endCalPin r meas temp.toNat x.1 p).1, if (State.endCalPin r meas temp.toNat x.1 p).2 then x.2 + 2 ^ p else x.2)) (s, 0) = (s1, acc)) ∧
    (m = left.foldl (fun m p => m + 2 ^ p) 0) ∧
    (s2 = (if r.kind = 5 then { s1 with calZero := s1.calZero.filter (fun e => e.1 / 8 / 8 != r.strand) } else s1))) ∧
    (∃ (c : Fin 16), ∃ (meas : List CalMeas), ∃ (temp : BitVec 8), ∃ (r : CalRun), ∃ (left : List Nat), ∃ (m : Nat), ∃ (f : Nat), ∃ (s : State),
    ∃ (s0 : State), (Store.get? s.calRuns c = some r) ∧ (r.kind = 4) ∧ (left = (pinsSet r.pins).filter (fun p => !bitOf r.tripped p)) ∧
    (s.free = (f, s0)) ∧ (m = left.foldl (fun m p => m + 2 ^ p) 0)) :=
  ⟨⟨(cmdOf 0x08 [] .started []), { on with host := { cmds := [(cmdOf 0x08 [] .started [])] } }, by decide +kernel⟩,
    ⟨0, [], 0, (⟨0, 1, 0, 0, 255, 0, none⟩ : CalRun), _, _, _, { on with calRuns := [(0, (⟨0, 1, 0, 0, 255, 0, none⟩ : CalRun))] }, _, _,
     by decide +kernel, by decide +kernel, rfl, rfl, rfl, rfl⟩,
    ⟨0, [], 0, (⟨0, 4, 0, 0, 255, 0, none⟩ : CalRun), _, _, _, { on with calRuns := [(0, (⟨0, 4, 0, 0, 255, 0, none⟩ : CalRun))] }, _,
     by decide +kernel, by decide +kernel, rfl, rfl, rfl⟩⟩

/-- The hypotheses of Obligations.LifeStore have a state for each clause. -/
theorem test_hyps_LifeStore :
    (∃ (s : State), ∃ (s1 : State),
    (s1 = { s.advanceTo (s.store.schedAt + 600000000 * usU) with store := { s.store with schedAt := max s.now (s.store.schedAt + 600000000 * usU) } })) ∧
    (∃ (r : Bool), ∃ (rest : List Bool), ∃ (s : State), ∃ (s1 : State), (s.store.waiting = r :: rest) ∧ ((∀ b, FlashOp.flush b ∉ s.store.ops)) ∧
    (s1 = (match s.store.flushAt with | some t => s.advanceTo (t + 60000000 * usU) | none => s))) ∧
    (∃ (ok : Bool), ∃ (req : Bool), ∃ (at_ : Nat), ∃ (rest : List FlashOp), ∃ (s : State), ∃ (s1 : State), (s.opRuns = true) ∧
    (s.store.ops = .flush req :: rest) ∧ (s1 = (if ok then (s.advanceTo at_).flushed else s.advanceTo at_).popOp)) ∧
    (∃ (ok : Bool), ∃ (at_ : Nat), ∃ (rest : List FlashOp), ∃ (s : State), ∃ (s1 : State), (s.opRuns = true) ∧ (s.store.ops = .setup :: rest) ∧
    (s1 = s.advanceTo at_)) ∧
    (∃ (s : State), ∃ (s1 : State), ∃ (cal : Nat), ∃ (t : Nat), (s.power.aonLost = false) ∧
    (s1 = ({ s.advanceTo (s.store.secAt + 1000000 * usU) with store := { s.store with secAt := max s.now (s.store.secAt + 1000000 * usU) } }).life (1554 + min 2 (s.fld Reg.DEV_STATE Fld.DEV_STATE_POWER))) ∧
    (cal = (s1.rd Reg.LS_CAL_S).toNat) ∧ (t = s1.tideNow / 1200000000) ∧ (s1.tideValid = false)) ∧
    (∃ (s : State), ∃ (s1 : State), ∃ (cal : Nat), ∃ (t : Nat), (s.power.aonLost = false) ∧
    (s1 = ({ s.advanceTo (s.store.secAt + 1000000 * usU) with store := { s.store with secAt := max s.now (s.store.secAt + 1000000 * usU) } }).life (1554 + min 2 (s.fld Reg.DEV_STATE Fld.DEV_STATE_POWER))) ∧
    (cal = (s1.rd Reg.LS_CAL_S).toNat) ∧ (t = s1.tideNow / 1200000000) ∧ (s1.tideValid = true) ∧ (cal ≤ t + 1)) ∧
    (∃ (s : State), ∃ (s1 : State), ∃ (cal : Nat), ∃ (t : Nat), (s.power.aonLost = false) ∧
    (s1 = ({ s.advanceTo (s.store.secAt + 1000000 * usU) with store := { s.store with secAt := max s.now (s.store.secAt + 1000000 * usU) } }).life (1554 + min 2 (s.fld Reg.DEV_STATE Fld.DEV_STATE_POWER))) ∧
    (cal = (s1.rd Reg.LS_CAL_S).toNat) ∧ (t = s1.tideNow / 1200000000) ∧ (s1.tideValid = true) ∧ (t + 1 < cal)) ∧
    (∃ (ok : Bool), ∃ (at_ : Nat), ∃ (rest : List FlashOp), ∃ (s : State), ∃ (s1 : State), (s.opRuns = true) ∧ (s.store.ops = .cal :: rest) ∧
    (s1 = s.advanceTo at_)) :=
  ⟨⟨on, _, rfl⟩,
    ⟨_, _, { on with store := { waiting := [true] } }, _, rfl, by decide +kernel, rfl⟩,
    ⟨true, true, 0, [], { on with store := { opSince := some 5, ops := [.flush true] } }, _, by decide +kernel, by decide +kernel, rfl⟩,
    ⟨true, 0, [], { on with store := { opSince := some 5, ops := [.setup] } }, _, by decide +kernel, by decide +kernel, rfl⟩,
    ⟨(onWith [(Reg.TL_STATE, Fld.TL_STATE_STATE, 0)]), _, _, _, by decide +kernel, rfl, rfl, rfl, by decide +kernel⟩,
    ⟨on, _, _, _, by decide +kernel, rfl, rfl, rfl, by decide +kernel, by decide +kernel⟩,
    ⟨(on.wr Reg.LS_CAL_S 1000), _, _, _, by decide +kernel, rfl, rfl, rfl, by decide +kernel, by decide +kernel⟩,
    ⟨true, 0, [], { on with store := { opSince := some 5, ops := [.cal] } }, _, by decide +kernel, by decide +kernel, rfl⟩⟩

/-- The hypotheses of Obligations.CoveSequences have a state for each clause. -/
theorem test_hyps_CoveSequences :
    (∃ (c : Fin 16), ∃ (s : State), (s.maySleep c = true)) ∧
    (∃ (c : Nat), ∃ (s : State), ((List.range 16).find? (fun c => s.cvState c == 4) = some c)) ∧
    (∃ (c : Fin 16), ∃ (at_ : Nat), ∃ (s : State), (s.cvState c = 1)) ∧
    (∃ (c : Fin 16), ∃ (s : State), ∃ (s1 : State), (s.cvState c = 1) ∧
    (s1 = (s.advanceTo (s.pllAt c + 100 * usU)).setFld (coveA c Reg.CV_STATE) Fld.CV_STATE_STATE 0)) ∧
    (∃ (c : Fin 16), ∃ (s : State), (s.cvState c = 2)) ∧
    (∃ (c : Fin 16), ∃ (at_ : Nat), ∃ (s : State), (s.cvState c = 3)) ∧
    (∃ (s : State), (s.tideValid = true)) :=
  ⟨⟨0, on, by decide +kernel⟩,
    ⟨15, (onWith [(coveA 15 Reg.CV_STATE, Fld.CV_STATE_STATE, 4)]), by decide +kernel⟩,
    ⟨15, 0, (onWith [(coveA 15 Reg.CV_STATE, Fld.CV_STATE_STATE, 1)]), by decide +kernel⟩,
    ⟨15, (onWith [(coveA 15 Reg.CV_STATE, Fld.CV_STATE_STATE, 1)]), _, by decide +kernel, rfl⟩,
    ⟨15, (onWith [(coveA 15 Reg.CV_STATE, Fld.CV_STATE_STATE, 2)]), by decide +kernel⟩,
    ⟨0, 0, on, by decide +kernel⟩,
    ⟨on, by decide +kernel⟩⟩

/-- The hypotheses of Obligations.Starting have a state for each clause. -/
theorem test_hyps_Starting :
    (∃ (f : StartFacts), ∃ (s : State), ∃ (s1 : State), ∃ (s2 : State), (s.power.begun = false) ∧ (s.fld Reg.DEV_STATE Fld.DEV_STATE_STATE = 0) ∧
    (s1 = ({ s.advanceTo f.at_ with power := { s.power with begun := true } }).setFld Reg.DEV_PWR_STAT Fld.DEV_PWR_STAT_LAST_START s.power.cause) ∧
    (s2 = (if s.fld Reg.DEV_STATE Fld.DEV_STATE_STEP = 3 then s1.step3 f else s1)) ∧ (s2.graveOpen = true) ∧ (f.rail = none)) ∧
    (∃ (f : StartFacts), ∃ (s : State), ∃ (s1 : State), ∃ (s2 : State), (s.power.begun = false) ∧ (s.fld Reg.DEV_STATE Fld.DEV_STATE_STATE = 0) ∧
    (s1 = ({ s.advanceTo f.at_ with power := { s.power with begun := true } }).setFld Reg.DEV_PWR_STAT Fld.DEV_PWR_STAT_LAST_START s.power.cause) ∧
    (s2 = (if s.fld Reg.DEV_STATE Fld.DEV_STATE_STEP = 3 then s1.step3 f else s1)) ∧ (s2.graveOpen = false) ∧ (f.rail = none)) ∧
    (∃ (f : StartFacts), ∃ (s : State), ∃ (s1 : State), ∃ (s2 : State), (s.power.begun = false) ∧ (s.fld Reg.DEV_STATE Fld.DEV_STATE_STATE = 0) ∧
    (s1 = ({ s.advanceTo f.at_ with power := { s.power with begun := true } }).setFld Reg.DEV_PWR_STAT Fld.DEV_PWR_STAT_LAST_START s.power.cause) ∧
    (s2 = (if s.fld Reg.DEV_STATE Fld.DEV_STATE_STEP = 3 then s1.step3 f else s1)) ∧ (s2.graveOpen = false) ∧ ∃ n, (f.rail = some n) ∧ (4 < n)) ∧
    (∃ (f : StartFacts), ∃ (s : State), ∃ (s1 : State), ∃ (s2 : State), (s.power.begun = false) ∧ (s.fld Reg.DEV_STATE Fld.DEV_STATE_STATE = 0) ∧
    (s1 = ({ s.advanceTo f.at_ with power := { s.power with begun := true } }).setFld Reg.DEV_PWR_STAT Fld.DEV_PWR_STAT_LAST_START s.power.cause) ∧
    (s2 = (if s.fld Reg.DEV_STATE Fld.DEV_STATE_STEP = 3 then s1.step3 f else s1)) ∧ (s2.graveOpen = false) ∧ (f.rail = some 4)) ∧
    (∃ (f : StartFacts), ∃ (s : State), ∃ (s1 : State), ∃ (s2 : State), (s.power.begun = false) ∧ (s.fld Reg.DEV_STATE Fld.DEV_STATE_STATE = 0) ∧
    (s1 = ({ s.advanceTo f.at_ with power := { s.power with begun := true } }).setFld Reg.DEV_PWR_STAT Fld.DEV_PWR_STAT_LAST_START s.power.cause) ∧
    (s2 = (if s.fld Reg.DEV_STATE Fld.DEV_STATE_STEP = 3 then s1.step3 f else s1)) ∧ (s.fld Reg.DEV_STATE Fld.DEV_STATE_STEP = 3) ∧
    (f.rail = some 3)) ∧
    (∃ (t : Nat), ∃ (s : State), ∃ (s1 : State), (s.thermal.coolSince = some t) ∧ (s.thLevel = 3) ∧ (s.graveOpen = false) ∧
    (s1 = ((s.advanceTo (t + 10000000 * usU)).closeAll).resetLevel)) ∧
    (∃ (fw : Option Word), ∃ (at_ : Nat), ∃ (b : Nat), ∃ (s : State), ∃ (s1 : State), (s.faults.booting = some b) ∧
    (s1 = { s.advanceTo at_ with faults := { s.faults with booting := none } }) ∧ (fw = none)) ∧
    (∃ (fw : Option Word), ∃ (at_ : Nat), ∃ (b : Nat), ∃ (s : State), ∃ (s1 : State), (s.faults.booting = some b) ∧
    (s1 = { s.advanceTo at_ with faults := { s.faults with booting := none } }) ∧ ∃ v, ∃ s2, (fw = some v) ∧
    (s2 = (({ s1 with faults := { s1.faults with kickAt := s1.now } }.wr Reg.DEV_FW_VER v).setFld Reg.FC_HELM_STATE Fld.FC_HELM_STATE_BEACON_RUN 1))) :=
  ⟨⟨facts, { State.reset with faults := { recs := [(0, ⟨5, 0, 1, 3, 0, false, 0, 0⟩)] } }, _, _, by decide +kernel, by decide +kernel, rfl, rfl,
     by decide +kernel, by decide +kernel⟩,
    ⟨facts, State.reset, _, _, by decide +kernel, by decide +kernel, rfl, rfl, by decide +kernel, by decide +kernel⟩,
    ⟨{ facts with rail := some 11 }, State.reset, _, _, by decide +kernel, by decide +kernel, rfl, rfl, by decide +kernel, _, rfl, by decide +kernel⟩,
    ⟨{ facts with rail := some 4 }, State.reset, _, _, by decide +kernel, by decide +kernel, rfl, rfl, by decide +kernel, by decide +kernel⟩,
    ⟨{ facts with rail := some 3 }, (State.reset.setFld Reg.DEV_STATE Fld.DEV_STATE_STEP 3), _, _, by decide +kernel, by decide +kernel, rfl, rfl,
     by decide +kernel, by decide +kernel⟩,
    ⟨5, { (onWith [(Reg.TH_STATE, Fld.TH_STATE_LEVEL, 3)]) with thermal := { coolSince := some 5 } }, _, by decide +kernel, by decide +kernel,
     by decide +kernel, rfl⟩,
    ⟨_, 0, _, { on with faults := { booting := some 5 } }, _, rfl, rfl, rfl⟩,
    ⟨some 7, 0, _, { on with faults := { booting := some 5 } }, _, rfl, rfl, 7, _, by decide +kernel, rfl⟩⟩

/-- The hypotheses of Obligations.FaultEvents have a state for each clause. -/
theorem test_hyps_FaultEvents :
    (∃ (m : FaultMsg), ∃ (rest : List FaultMsg), ∃ (s : State), (s.faultQ = m :: rest)) ∧
    (∃ (m : FaultMsg), ∃ (s : State), (kindValid m.source m.kind = true)) ∧
    (∃ (r : Option Bool), ∃ (s : State), ∃ (s1 : State),
    (s1 = { s.advanceTo (s.faults.checkAt + 100000 * usU) with faults := { s.faults with checkAt := max s.now (s.faults.checkAt + 100000 * usU), checking := if r.isSome then none else some (max s.now (s.faults.checkAt + 100000 * usU)) } })) ∧
    (∃ (t : Nat), ∃ (s : State), (s.faults.checking = some t)) ∧
    (∃ (s : State), ∃ (s1 : State), (s.beaconRuns = true) ∧ (s1 = (s.advanceTo (s.faults.kickAt + s.wdtPeriod)).beaconExpires)) ∧
    (∃ (t : Nat), ∃ (a : Nat), ∃ (s : State), ∃ (s0 : State), ∃ (s1 : State), (s.faults.helmDue = some t) ∧ (s.free = (a, s0)) ∧
    (s1 = ((s0.advanceTo t).helmAck).fault srcBeacon 2 (a % 4294967296))) ∧
    (∃ (k : Fin 8), ∃ (t : Nat), ∃ (s : State), (Store.get? s.power.rails k = some t)) :=
  ⟨⟨(⟨1535, 1, 0, false⟩ : FaultMsg), [], { on with faultQ := [(⟨1535, 1, 0, false⟩ : FaultMsg)] }, by decide +kernel⟩,
    ⟨(⟨1535, 1, 0, false⟩ : FaultMsg), on, by decide +kernel⟩,
    ⟨none, on, _, rfl⟩,
    ⟨_, { on with faults := { checking := some 5 } }, rfl⟩,
    ⟨on, _, by decide +kernel, rfl⟩,
    ⟨_, _, { on with faults := { helmDue := some 5 } }, _, _, rfl, rfl, rfl⟩,
    ⟨7, _, { on with power := { begun := true, rails := [(7, 5)] } }, rfl⟩⟩

/-- The hypotheses of Obligations.FaultRecords have a state for each clause. -/
theorem test_hyps_FaultRecords :
    (∃ (m : FaultMsg), ∃ (cls : Nat), ∃ (own : Bool), ∃ (s : State), (Store.get? s.faults.recs m.source = none)) ∧
    (∃ (m : FaultMsg), ∃ (cls : Nat), ∃ (own : Bool), ∃ (r : FaultRec), ∃ (s : State), (Store.get? s.faults.recs m.source = some r) ∧ (cls ≤ r.cls)) :=
  ⟨⟨(⟨1535, 1, 0, false⟩ : FaultMsg), 0, true, on, by decide +kernel⟩,
    ⟨(⟨1535, 1, 0, false⟩ : FaultMsg), 1, true, (⟨5, 1535, 1, 1, 255, false, 0, 0⟩ : FaultRec),
     { on with faults := { recs := [(1535, (⟨5, 1535, 1, 1, 255, false, 0, 0⟩ : FaultRec))] } }, by decide +kernel, by decide +kernel⟩⟩

/-- The hypotheses of Obligations.ThermalAndTests have a state for each clause. -/
theorem test_hyps_ThermalAndTests :
    (∃ (ok : Bool), ∃ (broken : Bool), ∃ (raw : BitVec 16), ∃ (n : Nat), ∃ (v : Int), ∃ (s : State), ∃ (s1 : State), ∃ (s2 : State),
    (n = s.thermal.next) ∧ (broken = (!ok || decide (signed 16 raw.toNat < -deg 45) || decide (deg 155 < signed 16 raw.toNat))) ∧
    (v = (if broken then deg 150 else max (-deg 40) (min (deg 150) (signed 16 raw.toNat)))) ∧
    (s1 = (({ s.advanceTo (s.thermal.readAt + 10 * usU) with thermal := { s.thermal with next := (n + 1) % 24, readAt := max s.now (s.thermal.readAt + 10 * usU) } }).setFld (Reg.TH_SENS + 4 * n) Fld.TH_SENS_TEMP (unsigned 16 v)).setFld (Reg.TH_SENS + 4 * n) Fld.TH_SENS_BROKEN (bitN broken)) ∧
    (s2 = (if broken && !s.flag (Reg.TH_SENS + 4 * n) Fld.TH_SENS_BROKEN then (s1.raise Reg.TH_STAT Fld.TH_STAT_BROKEN).fault srcThermal 3 n else s1))) ∧
    (∃ (t : Nat), ∃ (s : State), (s.thermal.haltAt = some t)) ∧
    (∃ (bad : List (Fin 208)), ∃ (at_ : Nat), ∃ (r : CsRun), ∃ (l : List Nat), ∃ (s : State), ∃ (s1 : State), ∃ (s2 : State), ∃ (s3 : State),
    (s.ctl.run = some r) ∧ (s.csReady r = true) ∧
    (s1 = (({ s with ctl := { s.ctl with run := none } }).advanceTo at_).setFld Reg.CS_STAT Fld.CS_STAT_BUSY 0) ∧
    (l = (if r.cmd = 4 ∨ r.code ≠ 1 then [] else (List.range 208).filter (fun e => bad.any (fun (b : Fin 208) => b.val == e)))) ∧
    (s2 = (if r.code = 1 then s1.csAct r l else s1)) ∧
    (s3 = (if r.cmd = 1 then s2.showLoaded false (if r.slot = 0 then r.code else 0) (if r.slot = 1 then r.code else 0) (s2.loadTime r.at_) else s2))) ∧
    (∃ (v : RtVerdict), ∃ (t : RtTest), ∃ (s : State), ∃ (s1 : State), (s.power.test = some t) ∧
    (s1 = ({ s.advanceTo (t.at_ + 14000 * usU) with power := { s.power with test := none } }).testOutcome t (t.result v)) ∧ (t.strand = none)) ∧
    (∃ (v : RtVerdict), ∃ (t : RtTest), ∃ (s : State), ∃ (s1 : State), (s.power.test = some t) ∧
    (s1 = ({ s.advanceTo (t.at_ + 14000 * usU) with power := { s.power with test := none } }).testOutcome t (t.result v)) ∧ ∃ k, ∃ s2,
    (t.strand = some k) ∧ (s2 = (s1.testReturn k t.was).strandless k)) :=
  ⟨⟨true, _, 0, _, _, on, _, _, rfl, rfl, rfl, rfl, rfl⟩,
    ⟨_, { on with thermal := { haltAt := some 5 } }, rfl⟩,
    ⟨[0, 207], 0, ⟨3, 0, 0, 1⟩, _, { on with ctl := { run := some ⟨3, 0, 0, 1⟩ } }, _, _, _, by decide +kernel, by decide +kernel, rfl, rfl, rfl, rfl⟩,
    ⟨.pass, ⟨1, 0, false, 0, none, 0⟩, { on with power := { begun := true, test := some ⟨1, 0, false, 0, none, 0⟩ } }, _, by decide +kernel, rfl,
     by decide +kernel⟩,
    ⟨.pass, ⟨1, 0, false, 0, some 191, 0⟩, { on with power := { begun := true, test := some ⟨1, 0, false, 0, some 191, 0⟩ } }, _, by decide +kernel,
     rfl, 191, _, by decide +kernel, rfl⟩⟩

/-- The hypotheses of Obligations.SpiFrames have a state for each clause. -/
theorem test_hyps_SpiFrames :
    (∃ (waddr : BitVec 22), ∃ (words : Nat), ∃ (cut : Bool), ∃ (out : List Byte), ∃ (s : State), ∃ (s1 : State), (s.masterLive .spi = true) ∧
    (words ≠ 0) ∧ (State.spiReadWords cut (spiAddrs (words + bitN cut) (4 * waddr.toNat)) true s [] = (out, s1))) ∧
    (∃ (waddr : BitVec 22), ∃ (data : List Word), ∃ (n : Nat), ∃ (s : State), ∃ (s0 : State), ∃ (s1 : State), ∃ (r : Access),
    (s.masterLive .spi = true) ∧ (n = data.length) ∧ (n ≠ 0) ∧ (n ≤ 64) ∧
    (s0 = s.raiseIf ((spiAddrs n (4 * waddr.toNat)).any (fun a => a % 0x10000 == 0xFFFC)) Reg.SPI_STAT Fld.SPI_STAT_WRAP) ∧
    (s0.writeBurst .spi (spiAddrs n (4 * waddr.toNat)) data (4 * waddr.toNat) 0 none = (r, s1))) ∧
    (∃ (waddr : BitVec 22), ∃ (data : List Word), ∃ (bits : Fin 32), ∃ (outcome : Nat), ∃ (f : Field), ∃ (s : State), (s.masterLive .spi = true) ∧
    (((bits ≠ 0 ∧ outcome = 4 ∧ f = Fld.SPI_STAT_MALFORMED) ∨ (bits = 0 ∧ 64 < data.length ∧ outcome = 5 ∧ f = Fld.SPI_STAT_LONG)))) ∧
    (∃ (waddr : BitVec 22), ∃ (data : List Word), ∃ (bits : Fin 32), ∃ (outcome : Nat), ∃ (f : Field), ∃ (s : State), (s.masterLive .spi = true) ∧
    (((bits ≠ 0 ∧ outcome = 4 ∧ f = Fld.SPI_STAT_MALFORMED) ∨ (bits = 0 ∧ 64 < data.length ∧ outcome = 5 ∧ f = Fld.SPI_STAT_LONG)))) ∧
    (∃ (waddr : BitVec 22), ∃ (s : State), (s.masterLive .spi = true)) ∧
    (∃ (waddr : BitVec 22), ∃ (words : Nat), ∃ (s : State), (s.masterLive .spi = true)) :=
  ⟨⟨0, 1, true, _, on, _, by decide +kernel, by decide +kernel, rfl⟩,
    ⟨0, List.replicate 64 0, 64, on, _, _, _, by decide +kernel, by decide +kernel, by decide +kernel, by decide +kernel, rfl, rfl⟩,
    ⟨0, [], 31, 4, Fld.SPI_STAT_MALFORMED, on, by decide +kernel, by decide +kernel⟩,
    ⟨0, List.replicate 65 0, 0, 5, Fld.SPI_STAT_LONG, on, by decide +kernel, by decide +kernel⟩,
    ⟨0, on, by decide +kernel⟩,
    ⟨0, 0, on, by decide +kernel⟩⟩

/-- The hypotheses of Obligations.HostPackets have a state for each clause. -/
theorem test_hyps_HostPackets_1 :
    (∃ (h : RoceHead), ∃ (n : Nat), ∃ (s : State), (s.coreLive = true) ∧ (s.onRing = true) ∧ (h.icrcOk = false)) ∧
    (∃ (h : RoceHead), ∃ (n : Nat), ∃ (s : State), (s.coreLive = true) ∧ (s.onRing = true) ∧ (h.icrcOk = true) ∧
    ((h.qpn.toNat < 0x100 ∨ 0x140 ≤ h.qpn.toNat))) ∧
    (∃ (h : RoceHead), ∃ (n : Nat), ∃ (s : State), (s.coreLive = true) ∧ (s.onRing = true) ∧ ∃ (q : Fin 64), (h.icrcOk = true) ∧
    (h.qpn.toNat = 0x100 + q)) ∧
    (∃ (h : RoceHead), ∃ (payload : List Byte), ∃ (va : BitVec 64), ∃ (rkey : Word), ∃ (len : Word), ∃ (t : Nat), ∃ (s : State), ∃ (s1 : State),
    ((s.advanceTo t).arrive h 1 = (none, s1))) ∧
    (∃ (h : RoceHead), ∃ (payload : List Byte), ∃ (va : BitVec 64), ∃ (rkey : Word), ∃ (len : Word), ∃ (t : Nat), ∃ (s : State), ∃ (s1 : State),
    ((s.advanceTo t).arrive h (packets 1024 payload.length) = (none, s1))) ∧
    (∃ (h : RoceHead), ∃ (payload : List Byte), ∃ (t : Nat), ∃ (q : Nat), ∃ (s : State), ∃ (s1 : State), ∃ (s2 : State),
    ((s.advanceTo t).arrive h 1 = (some q, s1)) ∧ (s1.turnOf q h.psn.toNat = .now) ∧ (s2 = (s1.expect q 1).ack q h.psn.toNat) ∧
    (payload.length ≠ 16 ∨ s2.knockIdx q (leAt payload 0 1) = none)) ∧
    (∃ (h : RoceHead), ∃ (payload : List Byte), ∃ (t : Nat), ∃ (q : Nat), ∃ (s : State), ∃ (s1 : State), ∃ (s2 : State),
    ((s.advanceTo t).arrive h 1 = (some q, s1)) ∧ (s1.turnOf q h.psn.toNat = .now) ∧ (s2 = (s1.expect q 1).ack q h.psn.toNat) ∧ ∃ i,
    (payload.length = 16) ∧ (s2.knockIdx q (leAt payload 0 1) = some i)) ∧
    (∃ (q : Nat), ∃ (w : Nat), ∃ (v : Nat), ∃ (top : Nat), ∃ (d : Nat), ∃ (i : HostIdx), ∃ (s : State), (s.idxHeld q i = (v, top)) ∧
    (d = (w + 4294967296 - v % 4294967296) % 4294967296) ∧ (d = 0)) ∧
    (∃ (q : Nat), ∃ (w : Nat), ∃ (v : Nat), ∃ (top : Nat), ∃ (d : Nat), ∃ (i : HostIdx), ∃ (s : State), (s.idxHeld q i = (v, top)) ∧
    (d = (w + 4294967296 - v % 4294967296) % 4294967296) ∧ (d ≠ 0) ∧ (d ≤ top)) ∧
    (∃ (q : Nat), ∃ (w : Nat), ∃ (v : Nat), ∃ (top : Nat), ∃ (d : Nat), ∃ (i : HostIdx), ∃ (s : State), (s.idxHeld q i = (v, top)) ∧
    (d = (w + 4294967296 - v % 4294967296) % 4294967296) ∧ (d ≠ 0) ∧ (top < d)) ∧
    (∃ (h : RoceHead), ∃ (va : BitVec 64), ∃ (rkey : Word), ∃ (data : List Byte), ∃ (t : Nat), ∃ (q : Nat), ∃ (last : Nat), ∃ (s : State),
    ∃ (s1 : State), ∃ (s2 : State), ((s.advanceTo t).arrive h (packets 1024 data.length) = (some q, s1)) ∧ (s1.turnOf q h.psn.toNat = .now) ∧
    (last = psnAdd h.psn.toNat (packets (s1.mtu q) data.length - 1)) ∧ (s2 = s1.expect q (packets (s1.mtu q) data.length)) ∧ (data = [])) ∧
    (∃ (h : RoceHead), ∃ (va : BitVec 64), ∃ (rkey : Word), ∃ (data : List Byte), ∃ (t : Nat), ∃ (q : Nat), ∃ (last : Nat), ∃ (s : State),
    ∃ (s1 : State), ∃ (s2 : State), ((s.advanceTo t).arrive h (packets 1024 data.length) = (some q, s1)) ∧ (s1.turnOf q h.psn.toNat = .now) ∧
    (last = psnAdd h.psn.toNat (packets (s1.mtu q) data.length - 1)) ∧ (s2 = s1.expect q (packets (s1.mtu q) data.length)) ∧ (data ≠ []) ∧
    (((s2.rd (qpA q Reg.HT_QP_WKEY)).toNat ≠ rkey.toNat ∨ 0x1000000 < va.toNat + data.length))) :=
  ⟨⟨⟨0x100, 0, false⟩, 0, on, by decide +kernel, by decide +kernel, by decide +kernel⟩,
    ⟨⟨0xFF, 0, true⟩, 0, on, by decide +kernel, by decide +kernel, by decide +kernel, by decide +kernel⟩,
    ⟨⟨0x13F, 0, true⟩, 0, on, by decide +kernel, by decide +kernel, 63, by decide +kernel, by decide +kernel⟩,
    ⟨⟨0x140, 0, true⟩, [], 0, 0, 0, 0, on, _, rfl⟩,
    ⟨⟨0x140, 0, true⟩, [], 0, 0, 0, 0, on, _, rfl⟩,
    ⟨⟨0x100, 0, true⟩, [], 0, _, on, _, _, rfl, by decide +kernel, rfl, by decide +kernel⟩,
    ⟨⟨0x100, 0, true⟩, 1 :: List.replicate 15 0, 0, _, on, _, _, rfl, by decide +kernel, rfl, _, by decide +kernel, rfl⟩,
    ⟨0, 0, _, _, _, .cmdPi, on, rfl, rfl, rfl⟩,
    ⟨0, 1, _, _, _, .cmdPi, on, rfl, rfl, by decide +kernel, by decide +kernel⟩,
    ⟨0, 65537, _, _, _, .cmdPi, on, rfl, rfl, by decide +kernel, by decide +kernel⟩,
    ⟨⟨0x100, 0, true⟩, 0, 0, _, 0, _, _, on, _, _, rfl, by decide +kernel, rfl, rfl, rfl⟩,
    ⟨⟨0x100, 0, true⟩, 0, 1, [0], 0, _, _, on, _, _, rfl, by decide +kernel, rfl, rfl, by decide +kernel, by decide +kernel⟩⟩

/-- The hypotheses of Obligations.HostPackets have a state for each clause. -/
theorem test_hyps_HostPackets_2 :
    (∃ (h : RoceHead), ∃ (va : BitVec 64), ∃ (rkey : Word), ∃ (data : List Byte), ∃ (t : Nat), ∃ (q : Nat), ∃ (last : Nat), ∃ (s : State),
    ∃ (s1 : State), ∃ (s2 : State), ((s.advanceTo t).arrive h (packets 1024 data.length) = (some q, s1)) ∧ (s1.turnOf q h.psn.toNat = .now) ∧
    (last = psnAdd h.psn.toNat (packets (s1.mtu q) data.length - 1)) ∧ (s2 = s1.expect q (packets (s1.mtu q) data.length)) ∧ ∃ (words : List Word),
    ∃ (r : Access), ∃ (s3 : State), (data ≠ []) ∧ ((s2.rd (qpA q Reg.HT_QP_WKEY)).toNat = rkey.toNat) ∧ (va.toNat + data.length ≤ 0x1000000) ∧
    (words = wordsLe (data.length / 4) data) ∧
    (s2.writeBurst (qpMaster q) (wordsFrom va.toNat words.length) words va.toNat (data.length % 4) none = (r, s3))) ∧
    (∃ (h : RoceHead), ∃ (va : BitVec 64), ∃ (rkey : Word), ∃ (len : Word), ∃ (t : Nat), ∃ (q : Nat), ∃ (s : State), ∃ (s1 : State), ∃ (s2 : State),
    ((s.advanceTo t).arrive h 1 = (some q, s1)) ∧
    (((s1.turnOf q h.psn.toNat = .now ∧ s2 = s1.expect q (packets (s1.mtu q) len.toNat)) ∨ (s1.turnOf q h.psn.toNat = .again ∧ s2 = s1))) ∧
    (len = 0)) ∧
    (∃ (h : RoceHead), ∃ (va : BitVec 64), ∃ (rkey : Word), ∃ (len : Word), ∃ (t : Nat), ∃ (q : Nat), ∃ (s : State), ∃ (s1 : State), ∃ (s2 : State),
    ((s.advanceTo t).arrive h 1 = (some q, s1)) ∧
    (((s1.turnOf q h.psn.toNat = .now ∧ s2 = s1.expect q (packets (s1.mtu q) len.toNat)) ∨ (s1.turnOf q h.psn.toNat = .again ∧ s2 = s1))) ∧
    (len ≠ 0) ∧ (((s2.rd (qpA q Reg.HT_QP_WKEY)).toNat ≠ rkey.toNat ∨ 0x1000000 < va.toNat + len.toNat))) ∧
    (∃ (h : RoceHead), ∃ (va : BitVec 64), ∃ (rkey : Word), ∃ (len : Word), ∃ (t : Nat), ∃ (q : Nat), ∃ (s : State), ∃ (s1 : State), ∃ (s2 : State),
    ((s.advanceTo t).arrive h 1 = (some q, s1)) ∧
    (((s1.turnOf q h.psn.toNat = .now ∧ s2 = s1.expect q (packets (s1.mtu q) len.toNat)) ∨ (s1.turnOf q h.psn.toNat = .again ∧ s2 = s1))) ∧
    ∃ (r : Access), ∃ (s3 : State), (len ≠ 0) ∧ ((s2.rd (qpA q Reg.HT_QP_WKEY)).toNat = rkey.toNat) ∧ (va.toNat + len.toNat ≤ 0x1000000) ∧
    (s2.readBurst (qpMaster q) (wordsFrom va.toNat (min 257 (len.toNat / 4))) va.toNat (len.toNat % 4) = (r, s3))) ∧
    (∃ (h : RoceHead), ∃ (data : List Byte), ∃ (t : Nat), ∃ (q : Nat), ∃ (before : List Rdma), ∃ (rest : List Rdma), ∃ (x : Rdma), ∃ (u : ReadUse),
    ∃ (s : State), ∃ (s1 : State), ((s.advanceTo t).arrive h (packets 1024 data.length) = (some q, s1)) ∧ ((s1.qp q).out = before ++ x :: rest) ∧
    ((∀ b ∈ before, b.use = none)) ∧ (x.use = some u) ∧ (data.length = x.len) ∧
    (h.psn.toNat = psnAdd (s1.outPsn q) ((before.map (fun r => s1.rdmaPackets q r)).foldl (· + ·) 0))) ∧
    (∃ (h : RoceHead), ∃ (t : Nat), ∃ (q : Nat), ∃ (left : List Rdma), ∃ (s : State), ∃ (s1 : State), ((s.advanceTo t).arrive h 1 = (some q, s1)) ∧
    (left = acked (s1.rdmaPackets q) h.psn.toNat (s1.outPsn q) (s1.qp q).out)) ∧
    (∃ (h : RoceHead), ∃ (t : Nat), ∃ (q : Nat), ∃ (s : State), ∃ (s1 : State), ((s.advanceTo t).arrive h 1 = (some q, s1)) ∧ ((s1.qp q).out ≠ [])) ∧
    (∃ (q : Fin 64), ∃ (s : State), ∃ (s1 : State), ∃ (s2 : State), (s.qpRts q = true) ∧ ((s.qp q).out ≠ []) ∧
    (s1 = s.advanceTo ((s.qp q).progress + s.ackTimeout q)) ∧ (s2 = s1.modQp q (fun p => { p with retries := p.retries + 1, progress := s1.now })) ∧
    (s1.fld (qpA q Reg.HT_QP_CTRL) Fld.HT_QP_CTRL_RETRY ≤ (s.qp q).retries)) ∧
    (∃ (q : Fin 64), ∃ (s : State), ∃ (s1 : State), ∃ (s2 : State), (s.qpRts q = true) ∧ ((s.qp q).out ≠ []) ∧
    (s1 = s.advanceTo ((s.qp q).progress + s.ackTimeout q)) ∧ (s2 = s1.modQp q (fun p => { p with retries := p.retries + 1, progress := s1.now })) ∧
    ((s.qp q).retries < s1.fld (qpA q Reg.HT_QP_CTRL) Fld.HT_QP_CTRL_RETRY)) ∧
    (∃ (t : Nat), ∃ (s : State), ∃ (s1 : State), ∃ (s2 : State), (s.coreLive = true) ∧ (s1 = s.advanceTo t) ∧
    (s2 = (List.range 64).foldl (fun x q => x.rdmaRead q (x.rd64 (qpA q Reg.HT_QP_DB_BASE_LO)) (x.rd (qpA q Reg.HT_QP_DB_RKEY)).toNat 64 .doorbell) s1)) ∧
    (∃ (p : Fin 2), ∃ (enable : BitVec 8), ∃ (quanta : List (BitVec 16)), ∃ (t : Nat), ∃ (s : State), ∃ (s1 : State), (s1 = s.advanceTo t) ∧
    (s1.onRing = true) ∧ (s1.coreLive = true) ∧ (s1.linkState p = 3)) ∧
    (∃ (p : Fin 2), ∃ (enable : BitVec 8), ∃ (quanta : List (BitVec 16)), ∃ (t : Nat), ∃ (s : State), ∃ (s1 : State), (s1 = s.advanceTo t) ∧
    (s1.onRing = true) ∧ (s1.coreLive = true) ∧ (s1.linkState p = 3)) :=
  ⟨⟨⟨0x100, 0, true⟩, 0xFFFFFC, 0, [1, 2, 3, 4], 0, _, _, on, _, _, rfl, by decide +kernel, rfl, rfl, _, _, _, by decide +kernel, by decide +kernel,
     by decide +kernel, rfl, rfl⟩,
    ⟨⟨0x100, 0, true⟩, 0, 0, 0, 0, 0, on, ((on.advanceTo 0).arrive ⟨0x100, 0, true⟩ 1).2,
     ((on.advanceTo 0).arrive ⟨0x100, 0, true⟩ 1).2.expect 0 (packets (State.mtu ((on.advanceTo 0).arrive ⟨0x100, 0, true⟩ 1).2 0) 0), rfl,
     .inl ⟨by decide +kernel, rfl⟩, by decide +kernel⟩,
    ⟨⟨0x100, 0, true⟩, 0xFFFFFC, 0, 5, 0, 0, on, ((on.advanceTo 0).arrive ⟨0x100, 0, true⟩ 1).2,
     ((on.advanceTo 0).arrive ⟨0x100, 0, true⟩ 1).2.expect 0 (packets (State.mtu ((on.advanceTo 0).arrive ⟨0x100, 0, true⟩ 1).2 0) 5), rfl,
     .inl ⟨by decide +kernel, rfl⟩, by decide +kernel, by decide +kernel⟩,
    ⟨⟨0x100, 0, true⟩, 0xFFFFFC, 0, 4, 0, 0, on, ((on.advanceTo 0).arrive ⟨0x100, 0, true⟩ 1).2,
     ((on.advanceTo 0).arrive ⟨0x100, 0, true⟩ 1).2.expect 0 (packets (State.mtu ((on.advanceTo 0).arrive ⟨0x100, 0, true⟩ 1).2 0) 4), rfl,
     .inl ⟨by decide +kernel, rfl⟩, _, _, by decide +kernel, by decide +kernel, by decide +kernel, rfl⟩,
    ⟨⟨0x100, 0, true⟩, List.replicate 64 0, 0, _, [], [], ⟨some .doorbell, 0, 0, 64, []⟩, .doorbell,
     { on with qps := [(0, { out := [⟨some .doorbell, 0, 0, 64, []⟩], sPsn := 1 })] }, _, rfl, by decide +kernel, by decide +kernel,
     by decide +kernel, by decide +kernel, by decide +kernel⟩,
    ⟨⟨0x100, 0, true⟩, 0, _, _, { on with qps := [(0, { out := [⟨none, 0, 0, 64, []⟩], sPsn := 1 })] }, _, rfl, rfl⟩,
    ⟨⟨0x100, 0, true⟩, 0, _, { on with qps := [(0, { out := [⟨none, 0, 0, 64, []⟩], sPsn := 1 })] }, _, rfl, by decide +kernel⟩,
    ⟨0, { on with qps := [(0, { out := [⟨none, 0, 0, 64, []⟩], sPsn := 1, retries := 7 })] }, _, _, by decide +kernel, by decide +kernel, rfl, rfl,
     by decide +kernel⟩,
    ⟨0, { onWith [(qpA 0 Reg.HT_QP_CTRL, Fld.HT_QP_CTRL_RETRY, 7)] with qps := [(0, { out := [⟨none, 0, 0, 64, []⟩], sPsn := 1, retries := 6 })] },
     _, _, by decide +kernel, by decide +kernel, rfl, rfl, by decide +kernel⟩,
    ⟨0, on, _, _, by decide +kernel, rfl, rfl⟩,
    ⟨0, 255, List.replicate 8 1, 0, on, _, rfl, by decide +kernel, by decide +kernel, by decide +kernel⟩,
    ⟨0, 255, List.replicate 8 1, 0, on, _, rfl, by decide +kernel, by decide +kernel, by decide +kernel⟩⟩

/-- The hypotheses of Obligations.HostPackets have a state for each clause. -/
theorem test_hyps_HostPackets_3 :
    (∃ (p : Fin 2), ∃ (enable : BitVec 8), ∃ (quanta : List (BitVec 16)), ∃ (t : Nat), ∃ (s : State), ∃ (s1 : State), (s1 = s.advanceTo t) ∧
    (s1.onRing = true) ∧ (s1.coreLive = true) ∧ (s1.linkState p = 3) ∧ ∃ (k : Fin 8), (enable.toNat.testBit k = true)) ∧
    (∃ (p : Fin 2), ∃ (enable : BitVec 8), ∃ (quanta : List (BitVec 16)), ∃ (t : Nat), ∃ (s : State), ∃ (s1 : State), (s1 = s.advanceTo t) ∧
    (s1.onRing = true) ∧ (s1.coreLive = true) ∧ (s1.linkState p = 3) ∧ ∃ (k : Fin 8), (enable.toNat.testBit k = true) ∧
    ((quanta.getD k 0).toNat ≠ 0)) ∧
    (∃ (p : Fin 2), ∃ (e : Nat × Nat), ∃ (s : State), ∃ (s1 : State),
    (s.host.pauses.find? (fun e => e.1 == 8 * p.val + s.fld Reg.HT_PFC Fld.HT_PFC_PRIO) = some e) ∧ (s1 = s.advanceTo e.2)) :=
  ⟨⟨0, 255, List.replicate 8 1, 0, on, _, rfl, by decide +kernel, by decide +kernel, by decide +kernel, 0, by decide +kernel⟩,
    ⟨0, 255, List.replicate 8 1, 0, on, _, rfl, by decide +kernel, by decide +kernel, by decide +kernel, 0, by decide +kernel, by decide +kernel⟩,
    ⟨0, _, { on with host := { pauses := [(on.fld Reg.HT_PFC Fld.HT_PFC_PRIO, 5)] } }, _, rfl, rfl⟩⟩

/-- The hypotheses of Obligations.HostCommands have a state for each clause. -/
theorem test_hyps_HostCommands_1 :
    (∃ (q : Nat), ∃ (i : Nat), ∃ (d : List Byte), ∃ (c : HostCmd), ∃ (s : State), ∃ (s1 : State), ∃ (s2 : State),
    (((List.range 64).map (fun i => (s.host.turn + i) % 64)).find? (fun q => (s.ready q).isSome) = some q) ∧ (s.ready q = some (i, d)) ∧
    (c = { qp := q, idx := i, desc := d, at_ := s.now, stage := .started, input := [], lost := false }) ∧
    (s1 = (s.wr (qpA q Reg.HT_QP_CMD_CI) (BitVec.ofNat 32 (i + 1))).modQp q (fun p => { p with fetched := p.fetched.filter (fun e => e.1 != i) })) ∧
    (s2 = { s1 with host := { s1.host with turn := (q + 1) % 64, cmds := s1.host.cmds ++ [c] } })) ∧
    (∃ (q : Nat), ∃ (i : Nat), ∃ (d : List Byte), ∃ (c : HostCmd), ∃ (s : State), ∃ (s1 : State), ∃ (s2 : State),
    (((List.range 64).map (fun i => (s.host.turn + i) % 64)).find? (fun q => (s.ready q).isSome) = some q) ∧ (s.ready q = some (i, d)) ∧
    (c = { qp := q, idx := i, desc := d, at_ := s.now, stage := .started, input := [], lost := false }) ∧
    (s1 = (s.wr (qpA q Reg.HT_QP_CMD_CI) (BitVec.ofNat 32 (i + 1))).modQp q (fun p => { p with fetched := p.fetched.filter (fun e => e.1 != i) })) ∧
    (s2 = { s1 with host := { s1.host with turn := (q + 1) % 64, cmds := s1.host.cmds ++ [c] } }) ∧ ((c.op = 0 ∨ 0x0D < c.op))) ∧
    (∃ (q : Nat), ∃ (i : Nat), ∃ (d : List Byte), ∃ (c : HostCmd), ∃ (s : State), ∃ (s1 : State), ∃ (s2 : State),
    (((List.range 64).map (fun i => (s.host.turn + i) % 64)).find? (fun q => (s.ready q).isSome) = some q) ∧ (s.ready q = some (i, d)) ∧
    (c = { qp := q, idx := i, desc := d, at_ := s.now, stage := .started, input := [], lost := false }) ∧
    (s1 = (s.wr (qpA q Reg.HT_QP_CMD_CI) (BitVec.ofNat 32 (i + 1))).modQp q (fun p => { p with fetched := p.fetched.filter (fun e => e.1 != i) })) ∧
    (s2 = { s1 with host := { s1.host with turn := (q + 1) % 64, cmds := s1.host.cmds ++ [c] } }) ∧ (0 < c.op) ∧ (c.op ≤ 0x0D) ∧
    ((c.zerosOk = false ∨ c.limitsOk = false))) ∧
    (∃ (q : Nat), ∃ (i : Nat), ∃ (d : List Byte), ∃ (c : HostCmd), ∃ (s : State), ∃ (s1 : State), ∃ (s2 : State),
    (((List.range 64).map (fun i => (s.host.turn + i) % 64)).find? (fun q => (s.ready q).isSome) = some q) ∧ (s.ready q = some (i, d)) ∧
    (c = { qp := q, idx := i, desc := d, at_ := s.now, stage := .started, input := [], lost := false }) ∧
    (s1 = (s.wr (qpA q Reg.HT_QP_CMD_CI) (BitVec.ofNat 32 (i + 1))).modQp q (fun p => { p with fetched := p.fetched.filter (fun e => e.1 != i) })) ∧
    (s2 = { s1 with host := { s1.host with turn := (q + 1) % 64, cmds := s1.host.cmds ++ [c] } }) ∧ ∃ n, (0 < c.op) ∧ (c.op ≤ 0x0D) ∧
    (c.zerosOk = true) ∧ (c.limitsOk = true) ∧ (c.shortOf = some n)) ∧
    (∃ (q : Nat), ∃ (i : Nat), ∃ (d : List Byte), ∃ (c : HostCmd), ∃ (s : State), ∃ (s1 : State), ∃ (s2 : State),
    (((List.range 64).map (fun i => (s.host.turn + i) % 64)).find? (fun q => (s.ready q).isSome) = some q) ∧ (s.ready q = some (i, d)) ∧
    (c = { qp := q, idx := i, desc := d, at_ := s.now, stage := .started, input := [], lost := false }) ∧
    (s1 = (s.wr (qpA q Reg.HT_QP_CMD_CI) (BitVec.ofNat 32 (i + 1))).modQp q (fun p => { p with fetched := p.fetched.filter (fun e => e.1 != i) })) ∧
    (s2 = { s1 with host := { s1.host with turn := (q + 1) % 64, cmds := s1.host.cmds ++ [c] } }) ∧ (0 < c.op) ∧ (c.op ≤ 0x0D) ∧ (c.op ≠ 4) ∧
    (c.op ≠ 9) ∧ (c.zerosOk = true) ∧ (c.limitsOk = true) ∧ (c.shortOf = none)) ∧
    (∃ (c : HostCmd), ∃ (q : Nat), ∃ (idx : Nat), ∃ (status : Nat), ∃ (detail : Nat), ∃ (r0 : Nat), ∃ (r1 : Nat), ∃ (s : State), ∃ (s1 : State),
    (s.host.cmds.find? (fun c => c.qp == q && c.idx == idx) = some c) ∧
    (s1 = { s with host := { s.host with cmds := s.host.cmds.filter (fun d => !(d.qp == q && d.idx == idx && d.lost == c.lost)) } }) ∧
    (c.lost = true)) ∧
    (∃ (c : HostCmd), ∃ (q : Nat), ∃ (idx : Nat), ∃ (status : Nat), ∃ (detail : Nat), ∃ (r0 : Nat), ∃ (r1 : Nat), ∃ (s : State), ∃ (s1 : State),
    (s.host.cmds.find? (fun c => c.qp == q && c.idx == idx) = some c) ∧
    (s1 = { s with host := { s.host with cmds := s.host.cmds.filter (fun d => !(d.qp == q && d.idx == idx && d.lost == c.lost)) } }) ∧ ∃ (i : Nat),
    ∃ (n : Nat), (c.lost = false) ∧ (i = (s1.rd (qpA q Reg.HT_QP_CPL_PI)).toNat) ∧ (n = s1.cplSize q)) ∧
    (∃ (c : HostCmd), ∃ (s : State), (s.nextCmd 0x0D = some c)) ∧
    (∃ (c : HostCmd), ∃ (t : Nat), ∃ (g : Nat), ∃ (ks : List Nat), ∃ (s : State), (s.nextCmd 0x05 = some c) ∧ (ks = c.mask 0x08) ∧
    (t = c.arg 0x20 8) ∧ (g = c.arg 0x28 2) ∧ (s.ucodeBusy = true)) ∧
    (∃ (c : HostCmd), ∃ (t : Nat), ∃ (g : Nat), ∃ (ks : List Nat), ∃ (s : State), (s.nextCmd 0x05 = some c) ∧ (ks = c.mask 0x08) ∧
    (t = c.arg 0x20 8) ∧ (g = c.arg 0x28 2) ∧ (s.ucodeBusy = false) ∧ (s.tideValid = false)) ∧
    (∃ (c : HostCmd), ∃ (t : Nat), ∃ (g : Nat), ∃ (ks : List Nat), ∃ (s : State), (s.nextCmd 0x05 = some c) ∧ (ks = c.mask 0x08) ∧
    (t = c.arg 0x20 8) ∧ (g = c.arg 0x28 2) ∧ (s.ucodeBusy = false) ∧ (s.tideValid = true) ∧ (2 ≤ s.thLevel)) ∧
    (∃ (c : HostCmd), ∃ (t : Nat), ∃ (g : Nat), ∃ (ks : List Nat), ∃ (s : State), (s.nextCmd 0x05 = some c) ∧ (ks = c.mask 0x08) ∧
    (t = c.arg 0x20 8) ∧ (g = c.arg 0x28 2) ∧ (s.ucodeBusy = false) ∧ (s.tideValid = true) ∧ (s.thLevel < 2) ∧ (t < s.tideOf c.at_ + 60000)) :=
  ⟨⟨0, 0, [0x0D], _, { on with qps := [(0, { fetched := [(0, [0x0D])], fetchNext := 1 })] }, _, _, by decide +kernel, by decide +kernel, rfl, rfl,
     rfl⟩,
    ⟨0, 0, [0x0E], _, { on with qps := [(0, { fetched := [(0, [0x0E])], fetchNext := 1 })] }, _, _, by decide +kernel, by decide +kernel, rfl, rfl,
     rfl, by decide +kernel⟩,
    ⟨0, 0, [0x0D, 0, 0, 0, 0, 0, 0, 0, 1], _, { on with qps := [(0, { fetched := [(0, [0x0D, 0, 0, 0, 0, 0, 0, 0, 1])], fetchNext := 1 })] }, _, _,
     by decide +kernel, by decide +kernel, rfl, rfl, rfl, by decide +kernel, by decide +kernel, by decide +kernel⟩,
    ⟨0, 0, [0x0A], _, { on with qps := [(0, { fetched := [(0, [0x0A])], fetchNext := 1 })] }, _, _, by decide +kernel, by decide +kernel, rfl, rfl,
     rfl, _, by decide +kernel, by decide +kernel, by decide +kernel, by decide +kernel, rfl⟩,
    ⟨0, 0, [0x0D], _, { on with qps := [(0, { fetched := [(0, [0x0D])], fetchNext := 1 })] }, _, _, by decide +kernel, by decide +kernel, rfl, rfl,
     rfl, by decide +kernel, by decide +kernel, by decide +kernel, by decide +kernel, by decide +kernel, by decide +kernel, by decide +kernel⟩,
    ⟨{ (cmdOf 0x0D [] .started []) with lost := true }, 0, 0, 0, 0, 0, 0,
     { on with host := { cmds := [{ (cmdOf 0x0D [] .started []) with lost := true }] } }, _, by decide +kernel, rfl, by decide +kernel⟩,
    ⟨(cmdOf 0x0D [] .started []), 0, 0, 0, 0, 0, 0, { on with host := { cmds := [(cmdOf 0x0D [] .started [])] } }, _, by decide +kernel, rfl, _, _,
     by decide +kernel, rfl, rfl⟩,
    ⟨(cmdOf 0x0D [] .started []), { on with host := { cmds := [(cmdOf 0x0D [] .started [])] } }, by decide +kernel⟩,
    ⟨(cmdOf 0x05 [] .started []), _, _, _, { on with host := { cmds := [(cmdOf 0x05 [] .started [])] }, ctl := { run := some ⟨1, 0, 0, 1⟩ } },
     by decide +kernel, rfl, rfl, rfl, by decide +kernel⟩,
    ⟨(cmdOf 0x05 [] .started []), _, _, _, { onWith [(Reg.TL_STATE, Fld.TL_STATE_STATE, 0)] with host := { cmds := [(cmdOf 0x05 [] .started [])] } },
     by decide +kernel, rfl, rfl, rfl, by decide +kernel, by decide +kernel⟩,
    ⟨(cmdOf 0x05 [] .started []), _, _, _, { onWith [(Reg.TH_STATE, Fld.TH_STATE_LEVEL, 2)] with host := { cmds := [(cmdOf 0x05 [] .started [])] } },
     by decide +kernel, rfl, rfl, rfl, by decide +kernel, by decide +kernel, by decide +kernel⟩,
    ⟨(cmdOf 0x05 (List.replicate 7 0 ++ leBytes 24 1 ++ leBytes 8 59999) .started []), _, _, _,
     { on with host := { cmds := [(cmdOf 0x05 (List.replicate 7 0 ++ leBytes 24 1 ++ leBytes 8 59999) .started [])] } }, by decide +kernel, rfl, rfl,
     rfl, by decide +kernel, by decide +kernel, by decide +kernel, by decide +kernel⟩⟩

/-- The hypotheses of Obligations.HostCommands have a state for each clause. -/
theorem test_hyps_HostCommands_2 :
    (∃ (c : HostCmd), ∃ (t : Nat), ∃ (g : Nat), ∃ (ks : List Nat), ∃ (s : State), (s.nextCmd 0x05 = some c) ∧ (ks = c.mask 0x08) ∧
    (t = c.arg 0x20 8) ∧ (g = c.arg 0x28 2) ∧ (s.ucodeBusy = false) ∧ (s.tideValid = true) ∧ (s.thLevel < 2) ∧ (s.tideOf c.at_ + 60000 ≤ t) ∧ ∃ r,
    ∃ k, (ks.findSome? (fun k => s.runReason k) = some (r, k))) ∧
    (∃ (c : HostCmd), ∃ (t : Nat), ∃ (g : Nat), ∃ (ks : List Nat), ∃ (s : State), (s.nextCmd 0x05 = some c) ∧ (ks = c.mask 0x08) ∧
    (t = c.arg 0x20 8) ∧ (g = c.arg 0x28 2) ∧ (s.ucodeBusy = false) ∧ (s.tideValid = true) ∧ (s.thLevel < 2) ∧ (s.tideOf c.at_ + 60000 ≤ t) ∧
    (ks.findSome? (fun k => s.runReason k) = none) ∧ ((∃ k ∈ ks, s.wouldStart k = true)) ∧ (s.segment? g = none)) ∧
    (∃ (c : HostCmd), ∃ (t : Nat), ∃ (g : Nat), ∃ (ks : List Nat), ∃ (s : State), (s.nextCmd 0x05 = some c) ∧ (ks = c.mask 0x08) ∧
    (t = c.arg 0x20 8) ∧ (g = c.arg 0x28 2) ∧ (s.ucodeBusy = false) ∧ (s.tideValid = true) ∧ (s.thLevel < 2) ∧ (s.tideOf c.at_ + 60000 ≤ t) ∧
    (ks.findSome? (fun k => s.runReason k) = none) ∧ (((∀ k ∈ ks, s.wouldStart k = false) ∨ (s.segment? g).isSome = true)) ∧ ∃ (s1 : State),
    ∃ (s2 : State),
    (s1 = ks.foldl (fun x k => x.modStrand k (fun y => { y with launch := some ⟨t, if x.wouldStart k then some g else none, c.qp⟩ })) s) ∧
    (s2 = (if s1.flag Reg.DEV_UPD_CTRL Fld.DEV_UPD_CTRL_ARM = true ∧ s1.flag Reg.DEV_UPD_CTRL Fld.DEV_UPD_CTRL_SRC = true ∧ s1.bound = none then { s1 with bound := some (c.qp, c.idx, t) } else s1))) ∧
    (∃ (k : Nat), ∃ (s : State), ((s.entryOf k).placed = false)) ∧
    (∃ (k : Nat), ∃ (s : State), ((s.entryOf k).placed = true) ∧ (s.role k = 2)) ∧
    (∃ (bad : List Nat), ∃ (c : HostCmd), ∃ (s : State), (s.nextCmd 0x07 = some c) ∧ ∃ n, (c.arg 0x08 1 = 1) ∧
    (n = min (min (c.arg 0x0C 4) (c.bufLen 0x18 / 64)) (s.fld Reg.FL_JRN_WP Fld.FL_JRN_WP_GROUPS - c.arg 0x10 4)) ∧ (n = 0)) ∧
    (∃ (bad : List Nat), ∃ (c : HostCmd), ∃ (s : State), (s.nextCmd 0x07 = some c) ∧ ∃ n, (c.arg 0x08 1 = 1) ∧
    (n = min (min (c.arg 0x0C 4) (c.bufLen 0x18 / 64)) (s.fld Reg.FL_JRN_WP Fld.FL_JRN_WP_GROUPS - c.arg 0x10 4)) ∧ ∃ (data : List Byte),
    ∃ (s1 : State), (n ≠ 0) ∧
    ((List.range n).foldl (fun (x : List Byte × State) i => (x.1 ++ (x.2.readGroup (c.arg 0x10 4 + i) (bad.contains (c.arg 0x10 4 + i))).1, (x.2.readGroup (c.arg 0x10 4 + i) (bad.contains (c.arg 0x10 4 + i))).2)) ([], s) = (data, s1))) ∧
    (∃ (bad : List Nat), ∃ (c : HostCmd), ∃ (s : State), (s.nextCmd 0x07 = some c) ∧ ∃ k, (c.arg 0x08 1 ≠ 1) ∧ (k = c.arg 0x09 1) ∧
    ((s.acq k).store = [] ∨ c.arg 0x0C 4 = 0)) ∧
    (∃ (bad : List Nat), ∃ (c : HostCmd), ∃ (s : State), (s.nextCmd 0x07 = some c) ∧ ∃ k, (c.arg 0x08 1 ≠ 1) ∧ (k = c.arg 0x09 1) ∧ ∃ r, ∃ rest, ∃ l,
    ((s.acq k).store = r :: rest) ∧ (c.arg 0x0C 4 ≠ 0) ∧ (l = fitting (c.arg 0x0C 4) (c.bufLen 0x18) (r :: rest))) ∧
    (∃ (c : HostCmd), ∃ (s : State), (s.cmdAt 0x09 .received = some c) ∧ (batchEntries (c.arg 0x28 2) c.input = none)) ∧
    (∃ (c : HostCmd), ∃ (s : State), (s.cmdAt 0x09 .received = some c) ∧ ∃ l, ∃ need, (batchEntries (c.arg 0x28 2) c.input = some l) ∧
    (need = 4 * ((l.filter (fun e => e.data.isNone)).map (fun e => e.count)).foldl (· + ·) 0) ∧ (c.bufLen 0x18 < need)) ∧
    (∃ (c : HostCmd), ∃ (s : State), (s.cmdAt 0x09 .received = some c) ∧ ∃ l, ∃ need, (batchEntries (c.arg 0x28 2) c.input = some l) ∧
    (need = 4 * ((l.filter (fun e => e.data.isNone)).map (fun e => e.count)).foldl (· + ·) 0) ∧ ∃ (b : BatchRun), ∃ (s1 : State), ∃ (s2 : State),
    (need ≤ c.bufLen 0x18) ∧ (l.zipIdx.foldl (batchStep (qpMaster c.qp)) ({}, s) = (b, s1)) ∧
    (s2 = (if b.out = [] then s1 else s1.writeOut c 0x18 b.out))) :=
  ⟨⟨(cmdOf 0x05 (List.replicate 7 0 ++ leBytes 24 1 ++ leBytes 8 60000) .started []), _, _, _,
     { on with host := { cmds := [(cmdOf 0x05 (List.replicate 7 0 ++ leBytes 24 1 ++ leBytes 8 60000) .started [])] } }, by decide +kernel, rfl, rfl,
     rfl, by decide +kernel, by decide +kernel, by decide +kernel, by decide +kernel, 1, 0, by decide +kernel⟩,
    ⟨(cmdOf 0x05 (List.replicate 7 0 ++ leBytes 24 1 ++ leBytes 8 60000) .started []), _, _, _,
     { on with host := { cmds := [(cmdOf 0x05 (List.replicate 7 0 ++ leBytes 24 1 ++ leBytes 8 60000) .started [])] }, place := { table := some ⟨0, 1, [], 1, 0, 0, 0, 0, [(0, { engine := 0, placed := true })], [], false, [], []⟩ } },
     by decide +kernel, rfl, rfl, rfl, by decide +kernel, by decide +kernel, by decide +kernel, by decide +kernel, by decide +kernel,
     by decide +kernel, by decide +kernel⟩,
    ⟨(cmdOf 0x05 (List.replicate 7 0 ++ leBytes 24 1 ++ leBytes 8 60000) .started []), _, _, _,
     { on with host := { cmds := [(cmdOf 0x05 (List.replicate 7 0 ++ leBytes 24 1 ++ leBytes 8 60000) .started [])] }, place := { table := some ⟨0, 1, [], 1, 0, 0, 0, 0, [(0, { engine := 0, placed := true })], [], false, [], []⟩ }, mem := { segs := [(0, { len := 1, succ := none, fd := 0, pairs := [], crcs := [crc16 (granBytes (List.replicate 64 0))], grans := [(0, List.replicate 64 0)], chan0 := 0, groups := [0], stream := none })] } },
     by decide +kernel, rfl, rfl, rfl, by decide +kernel, by decide +kernel, by decide +kernel, by decide +kernel, by decide +kernel,
     by decide +kernel, _, _, rfl, rfl⟩,
    ⟨0, on, by decide +kernel⟩,
    ⟨0,
     { (onWith [(strandA 0 Reg.SQ_STATE, Fld.SQ_STATE_ROLE, 2)]) with place := { table := some ⟨0, 1, [], 1, 0, 0, 0, 0, [(0, { engine := 0, placed := true })], [], false, [], []⟩ } },
     by decide +kernel, by decide +kernel⟩,
    ⟨[], (cmdOf 0x07 (List.replicate 7 0 ++ [1]) .started []),
     { on with host := { cmds := [(cmdOf 0x07 (List.replicate 7 0 ++ [1]) .started [])] } }, by decide +kernel, _, by decide +kernel, rfl, rfl⟩,
    ⟨[], (cmdOf 0x07 (List.replicate 7 0 ++ leBytes 4 1 ++ leBytes 4 1 ++ leBytes 16 0 ++ leBytes 4 64) .started []),
     { onWith [(Reg.FL_JRN_WP, Fld.FL_JRN_WP_GROUPS, 1)] with host := { cmds := [(cmdOf 0x07 (List.replicate 7 0 ++ leBytes 4 1 ++ leBytes 4 1 ++ leBytes 16 0 ++ leBytes 4 64) .started [])] }, failPath := { journal := [(0, [padRec])] } },
     by decide +kernel, _, by decide +kernel, rfl, _, _, by decide +kernel, rfl⟩,
    ⟨[], (cmdOf 0x07 (List.replicate 7 0 ++ leBytes 4 2 ++ leBytes 4 1 ++ leBytes 16 0 ++ leBytes 4 64) .started []),
     { on with host := { cmds := [(cmdOf 0x07 (List.replicate 7 0 ++ leBytes 4 2 ++ leBytes 4 1 ++ leBytes 16 0 ++ leBytes 4 64) .started [])] } },
     by decide +kernel, _, by decide +kernel, rfl, by decide +kernel⟩,
    ⟨[], (cmdOf 0x07 (List.replicate 7 0 ++ leBytes 4 2 ++ leBytes 4 1 ++ leBytes 16 0 ++ leBytes 4 64) .started []),
     { on with host := { cmds := [(cmdOf 0x07 (List.replicate 7 0 ++ leBytes 4 2 ++ leBytes 4 1 ++ leBytes 16 0 ++ leBytes 4 64) .started [])] }, acqs := [(0, { store := [[1, 2]] })] },
     by decide +kernel, _, by decide +kernel, rfl, [1, 2], [], [[1, 2]], by decide +kernel, by decide +kernel, by decide +kernel⟩,
    ⟨(cmdOf 0x09 (List.replicate 31 0 ++ leBytes 8 0 ++ leBytes 2 1) .received []),
     { on with host := { cmds := [(cmdOf 0x09 (List.replicate 31 0 ++ leBytes 8 0 ++ leBytes 2 1) .received [])] } }, by decide +kernel,
     by decide +kernel⟩,
    ⟨(cmdOf 0x09 (List.replicate 31 0 ++ leBytes 8 3 ++ leBytes 2 1) .received [0, 0, 0, 0, 1, 0, 0, 0]),
     { on with host := { cmds := [(cmdOf 0x09 (List.replicate 31 0 ++ leBytes 8 3 ++ leBytes 2 1) .received [0, 0, 0, 0, 1, 0, 0, 0])] } },
     by decide +kernel, [⟨0, 1, none⟩], _, by decide +kernel, rfl, by decide +kernel⟩,
    ⟨(cmdOf 0x09 (List.replicate 31 0 ++ leBytes 8 4 ++ leBytes 2 1) .received [0, 0, 0, 0, 1, 0, 0, 0]),
     { on with host := { cmds := [(cmdOf 0x09 (List.replicate 31 0 ++ leBytes 8 4 ++ leBytes 2 1) .received [0, 0, 0, 0, 1, 0, 0, 0])] } },
     by decide +kernel, [⟨0, 1, none⟩], _, by decide +kernel, rfl, _, _, _, by decide +kernel, rfl, rfl⟩⟩

/-- The hypotheses of Obligations.HostCommands have a state for each clause. -/
theorem test_hyps_HostCommands_3 :
    (∃ (c : HostCmd), ∃ (s : State), (s.nextCmd 0x0B = some c) ∧ (s.host.lockout.isSome = true)) ∧
    (∃ (c : HostCmd), ∃ (s : State), (s.nextCmd 0x0B = some c) ∧ (s.host.lockout = none) ∧ (s.helmKeyNow = none)) ∧
    (∃ (c : HostCmd), ∃ (s : State), (s.nextCmd 0x0B = some c) ∧ (s.host.lockout = none) ∧ (s.helmKeyNow = some ((c.desc.drop 8).take 16))) ∧
    (∃ (c : HostCmd), ∃ (s : State), (s.nextCmd 0x0B = some c) ∧ ∃ (key : List Byte), ∃ (misses : List Nat), ∃ (s1 : State),
    (s.host.lockout = none) ∧ (s.helmKeyNow = some key) ∧ ((c.desc.drop 8).take 16 ≠ key) ∧
    (s1 = (s.keyFail c.qp).raise Reg.HT_STAT Fld.HT_STAT_KEY_FAIL) ∧
    (misses = s1.host.misses.filter (fun t => decide (s1.now < t + 1000000 * usU)) ++ [s1.now]) ∧ (misses.length < 4)) ∧
    (∃ (c : HostCmd), ∃ (s : State), (s.nextCmd 0x0B = some c) ∧ ∃ (key : List Byte), ∃ (misses : List Nat), ∃ (s1 : State),
    (s.host.lockout = none) ∧ (s.helmKeyNow = some key) ∧ ((c.desc.drop 8).take 16 ≠ key) ∧
    (s1 = (s.keyFail c.qp).raise Reg.HT_STAT Fld.HT_STAT_KEY_FAIL) ∧
    (misses = s1.host.misses.filter (fun t => decide (s1.now < t + 1000000 * usU)) ++ [s1.now]) ∧ (4 ≤ misses.length)) ∧
    (∃ (t : Nat), ∃ (s : State), ∃ (s1 : State), (s.host.lockout = some t) ∧ (s1 = s.advanceTo t)) ∧
    (∃ (s : State), (s.evtOpen = false ∨ s.evtSize ≤ s.evt.pi - s.evt.ci)) ∧
    (∃ (s : State), (s.evtOpen = true) ∧ (s.evt.pi - s.evt.ci < s.evtSize) ∧ (s.evt.dropped ≠ 0)) ∧
    (∃ (s : State), (s.evtOpen = true) ∧ (s.evt.pi - s.evt.ci < s.evtSize) ∧ ∃ e, ∃ rest, (s.evt.dropped = 0) ∧ (s.evt.held = e :: rest)) ∧
    (∃ (r : ResultRec), ∃ (rest : List ResultRec), ∃ (s : State), (s.host.results = r :: rest) ∧
    ((s.flag Reg.HT_RES_CFG Fld.HT_RES_CFG_EN && s.qpRts (s.fld Reg.HT_RES_CFG Fld.HT_RES_CFG_QP)) = false)) ∧
    (∃ (r : ResultRec), ∃ (rest : List ResultRec), ∃ (s : State), (s.host.results = r :: rest) ∧ ∃ (n : Nat), ∃ (size : Nat), ∃ (i : Nat),
    ∃ (trunc : Bool), ∃ (body : List Byte), ∃ (s1 : State), ∃ (s2 : State),
    ((s.flag Reg.HT_RES_CFG Fld.HT_RES_CFG_EN && s.qpRts (s.fld Reg.HT_RES_CFG Fld.HT_RES_CFG_QP)) = true) ∧ (n = s.resSize) ∧
    (trunc = decide (n < 16 + ceilDiv r.payload.length 16 * 16)) ∧ (body = (if trunc then r.payload.take (32 + (n - 48) / 8 * 8) else r.payload)) ∧
    (size = 16 + ceilDiv body.length 16 * 16) ∧ (s1 = s.resPad size) ∧ (i = s1.host.resPi) ∧
    (s2 = { s1 with host := { s1.host with results := rest, resPi := i + size, resSeq := s1.host.resSeq + 1 } }) ∧
    ((n - i % n < size ∨ s1.host.resCi + n < i + size))) ∧
    (∃ (r : ResultRec), ∃ (rest : List ResultRec), ∃ (s : State), (s.host.results = r :: rest) ∧ ∃ (n : Nat), ∃ (size : Nat), ∃ (i : Nat),
    ∃ (trunc : Bool), ∃ (body : List Byte), ∃ (s1 : State), ∃ (s2 : State),
    ((s.flag Reg.HT_RES_CFG Fld.HT_RES_CFG_EN && s.qpRts (s.fld Reg.HT_RES_CFG Fld.HT_RES_CFG_QP)) = true) ∧ (n = s.resSize) ∧
    (trunc = decide (n < 16 + ceilDiv r.payload.length 16 * 16)) ∧ (body = (if trunc then r.payload.take (32 + (n - 48) / 8 * 8) else r.payload)) ∧
    (size = 16 + ceilDiv body.length 16 * 16) ∧ (s1 = s.resPad size) ∧ (i = s1.host.resPi) ∧
    (s2 = { s1 with host := { s1.host with results := rest, resPi := i + size, resSeq := s1.host.resSeq + 1 } }) ∧ (size ≤ n - i % n) ∧
    (i + size ≤ s1.host.resCi + n)) :=
  ⟨⟨(cmdOf 0x0B (List.replicate 7 0 ++ List.replicate 16 7) .started []),
     { on with host := { cmds := [(cmdOf 0x0B (List.replicate 7 0 ++ List.replicate 16 7) .started [])], lockout := some 5 } }, by decide +kernel,
     by decide +kernel⟩,
    ⟨(cmdOf 0x0B (List.replicate 7 0 ++ List.replicate 16 7) .started []),
     { on with host := { cmds := [(cmdOf 0x0B (List.replicate 7 0 ++ List.replicate 16 7) .started [])] } }, by decide +kernel, by decide +kernel,
     by decide +kernel⟩,
    ⟨(cmdOf 0x0B (List.replicate 7 0 ++ List.replicate 16 7) .started []),
     { on with host := { cmds := [(cmdOf 0x0B (List.replicate 7 0 ++ List.replicate 16 7) .started [])] }, store := { helmKey := some (List.replicate 16 7) } },
     by decide +kernel, by decide +kernel, by decide +kernel⟩,
    ⟨(cmdOf 0x0B (List.replicate 7 0 ++ List.replicate 16 7) .started []),
     { on with host := { cmds := [(cmdOf 0x0B (List.replicate 7 0 ++ List.replicate 16 7) .started [])] }, store := { helmKey := some (List.replicate 16 8) } },
     by decide +kernel, List.replicate 16 8, _, _, by decide +kernel, by decide +kernel, by decide +kernel, rfl, rfl, by decide +kernel⟩,
    ⟨(cmdOf 0x0B (List.replicate 7 0 ++ List.replicate 16 7) .started []),
     { on with host := { cmds := [(cmdOf 0x0B (List.replicate 7 0 ++ List.replicate 16 7) .started [])], misses := [0, 0, 0] }, store := { helmKey := some (List.replicate 16 8) } },
     by decide +kernel, List.replicate 16 8, _, _, by decide +kernel, by decide +kernel, by decide +kernel, rfl, rfl, by decide +kernel⟩,
    ⟨_, { on with host := { lockout := some 5 } }, _, rfl, rfl⟩,
    ⟨on, by decide +kernel⟩,
    ⟨{ (onWith [(Reg.HT_EVT_CFG, Fld.HT_EVT_CFG_EN, 1)]) with evt := { dropped := 1 } }, by decide +kernel, by decide +kernel, by decide +kernel⟩,
    ⟨{ (onWith [(Reg.HT_EVT_CFG, Fld.HT_EVT_CFG_EN, 1)]) with evt := { held := [⟨1, 0, 0, []⟩] } }, by decide +kernel, by decide +kernel, _, _,
     by decide +kernel, rfl⟩,
    ⟨_, _, { on with host := { results := [⟨0, List.replicate 48 0⟩] } }, rfl, by decide +kernel⟩,
    ⟨_, _, { (onWith [(Reg.HT_RES_CFG, Fld.HT_RES_CFG_EN, 1)]) with host := { results := [⟨0, List.replicate 48 0⟩], resPi := 65536 } }, rfl, _, _,
     _, _, _, _, _, by decide +kernel, rfl, rfl, rfl, rfl, rfl, rfl, rfl, by decide +kernel⟩,
    ⟨_, _, { (onWith [(Reg.HT_RES_CFG, Fld.HT_RES_CFG_EN, 1)]) with host := { results := [⟨0, List.replicate 48 0⟩] } }, rfl, _, _, _, _, _, _, _,
     by decide +kernel, rfl, rfl, rfl, rfl, rfl, rfl, rfl, by decide +kernel, by decide +kernel⟩⟩

/-- The hypotheses of Obligations.HostCommands have a state for each clause. -/
theorem test_hyps_HostCommands_4 :
    (∃ (c : HostCmd), ∃ (ks : List Nat), ∃ (left : List Nat), ∃ (s : State), ∃ (s1 : State), (s.nextCmd 0x06 = some c) ∧ (ks = c.mask 0x08) ∧
    (s1 = (ks.filter (fun k => (s.strand k).launch.isSome)).foldl State.abortRun s) ∧ (left = ks.filter (fun k => !s1.wouldStart k)) ∧ (left = [])) ∧
    (∃ (c : HostCmd), ∃ (ks : List Nat), ∃ (left : List Nat), ∃ (s : State), ∃ (s1 : State), (s.nextCmd 0x06 = some c) ∧ (ks = c.mask 0x08) ∧
    (s1 = (ks.filter (fun k => (s.strand k).launch.isSome)).foldl State.abortRun s) ∧ (left = ks.filter (fun k => !s1.wouldStart k)) ∧ (left ≠ [])) ∧
    (∃ (c : HostCmd), ∃ (s : State), (s.nextCmd 0x0C = some c) ∧ (s.privileged (qpMaster c.qp) = false)) ∧
    (∃ (c : HostCmd), ∃ (s : State), (s.nextCmd 0x0C = some c) ∧ (s.privileged (qpMaster c.qp) = true) ∧
    ((s.flag Reg.FC_HELM_STATE Fld.FC_HELM_STATE_PENDING = false ∨ s.rd Reg.FC_HELM_EPOCH ≠ BitVec.ofNat 32 (c.arg 0x08 4)))) ∧
    (∃ (c : HostCmd), ∃ (s : State), (s.nextCmd 0x0C = some c) ∧ (s.privileged (qpMaster c.qp) = true) ∧
    (s.flag Reg.FC_HELM_STATE Fld.FC_HELM_STATE_PENDING = true) ∧ (s.rd Reg.FC_HELM_EPOCH = BitVec.ofNat 32 (c.arg 0x08 4))) :=
  ⟨⟨(cmdOf 0x06 [] .started []), _, [], { on with host := { cmds := [(cmdOf 0x06 [] .started [])] } }, _, by decide +kernel, rfl, rfl,
     by decide +kernel, by decide +kernel⟩,
    ⟨(cmdOf 0x06 (List.replicate 7 0 ++ [1]) .started []), _, _,
     { onWith [(strandA 0 Reg.SQ_STATE, Fld.SQ_STATE_STATE, 1)] with host := { cmds := [(cmdOf 0x06 (List.replicate 7 0 ++ [1]) .started [])] } }, _,
     by decide +kernel, rfl, rfl, rfl, by decide +kernel⟩,
    ⟨(cmdOf 0x0C [] .started []), { on with host := { cmds := [(cmdOf 0x0C [] .started [])] } }, by decide +kernel, by decide +kernel⟩,
    ⟨(cmdOf 0x0C [] .started []), { onWith [(qpA 0 Reg.HT_QP_PRIV, Fld.HT_QP_PRIV_PRIV, 1)] with host := { cmds := [(cmdOf 0x0C [] .started [])] } },
     by decide +kernel, by decide +kernel, by decide +kernel⟩,
    ⟨(cmdOf 0x0C [] .started []),
     { onWith [(qpA 0 Reg.HT_QP_PRIV, Fld.HT_QP_PRIV_PRIV, 1), (Reg.FC_HELM_STATE, Fld.FC_HELM_STATE_PENDING, 1)] with host := { cmds := [(cmdOf 0x0C [] .started [])] } },
     by decide +kernel, by decide +kernel, by decide +kernel, by decide +kernel⟩⟩

/-- The hypotheses of Obligations.MemoryFrames have a state for each command. -/
theorem test_hyps_MemoryFrames :
    on.sound = true ∧
    (∃ u, exec (.granuleRefill 0 0 0 true true 0) on = .next u) ∧
    (∃ u, exec .requestPromotion on = .next u) ∧
    (∃ u, exec (.prefetchWindow 0) on = .next u) ∧
    (∃ u, exec (.retrainPauseStart 0) on = .next u) ∧
    (∃ u, exec (.retrainPauseEnd 0 true) on = .next u) ∧
    (∃ u, exec .selfRefreshEntry on = .next u) ∧
    (∃ u, exec .selfRefreshExit on = .next u) ∧
    (∃ u, exec .segWrite on = .next u) ∧
    (∃ u, exec .segImageReceived on = .next u) ∧
    (∃ u, exec .segFree on = .next u) ∧
    (∃ u, exec .streamOpen on = .next u) ∧
    (∃ u, exec (.streamPull 0) on = .next u) :=
  ⟨by decide +kernel, ⟨_, rfl⟩, ⟨_, rfl⟩, ⟨_, rfl⟩, ⟨_, rfl⟩, ⟨_, rfl⟩, ⟨_, rfl⟩, ⟨_, rfl⟩, ⟨_, rfl⟩, ⟨_, rfl⟩, ⟨_, rfl⟩, ⟨_, rfl⟩, ⟨_, rfl⟩⟩

/-- The hypotheses of Obligations.CaptureFrames have a state for each command. -/
theorem test_hyps_CaptureFrames :
    on.sound = true ∧
    (∃ u, exec (.failEvent 0) on = .next u) ∧
    (∃ u, exec .failSwitchAccept on = .next u) ∧
    (∃ u, exec .journalGroupTimeout on = .next u) ∧
    (∃ u, exec .journalGroupWritten on = .next u) ∧
    (∃ u, exec .timeBase on = .next u) ∧
    (∃ u, exec (.endMark 0) on = .next u) ∧
    (∃ u, exec (.journalAuditDone []) on = .next u) ∧
    (∃ u, exec .ledgerRead on = .next u) ∧
    (∃ u, exec (.laneFold 0 []) on = .next u) ∧
    (∃ u, exec (.contextFetched 0 true) on = .next u) ∧
    (∃ u, exec (.laneSpliceDone 0 0 [] true) on = .next u) :=
  ⟨by decide +kernel, ⟨_, rfl⟩, ⟨_, rfl⟩, ⟨_, rfl⟩, ⟨_, rfl⟩, ⟨_, rfl⟩, ⟨_, rfl⟩, ⟨_, rfl⟩, ⟨_, rfl⟩, ⟨_, rfl⟩, ⟨_, rfl⟩, ⟨_, rfl⟩⟩

/-- The hypotheses of Obligations.RingFrames have a state for each command. -/
theorem test_hyps_RingFrames :
    on.sound = true ∧
    (∃ u, exec .activeTestChange on = .next u) ∧
    (∃ u, exec (.frameForward 0 ⟨0, 0, 0, none, 64, true⟩ 0) on = .next u) ∧
    (∃ u, exec (.audit 0 ⟨1, 0, 5, 1, 0xFFFF, 0, 0, List.replicate 32 0⟩ 0) on = .next u) ∧
    (∃ u, exec (.heartbeat 0 ⟨1, 0, 5, 1, 0xFFFF, 0, 0, List.replicate 32 0⟩ 0) on = .next u) ∧
    (∃ u, exec (.hbReply 0 ⟨1, 0, 5, 1, 0xFFFF, 0, 0, List.replicate 32 0⟩ 0) on = .next u) ∧
    (∃ u, exec (.credit 0 ⟨1, 0, 5, 1, 0xFFFF, 0, 0, List.replicate 32 0⟩ 0) on = .next u) ∧
    (∃ u, exec (.active 0 ⟨1, 0, 5, 1, 0xFFFF, 0, 0, List.replicate 32 0⟩ 0) on = .next u) ∧
    (∃ u, exec (.link 0 ⟨1, 0, 5, 1, 0xFFFF, 0, 0, List.replicate 32 0⟩ 0) on = .next u) ∧
    (∃ u, exec (.linkInit 0 ⟨1, 0, 5, 1, 0xFFFF, 0, 0, List.replicate 32 0⟩ 0) on = .next u) ∧
    (∃ u, exec (.creditTimeout 0) on = .next u) ∧
    (∃ u, exec .auditGuard on = .next u) ∧
    (∃ u, exec .auditInstant on = .next u) ∧
    (∃ u, exec .auditTimeout on = .next u) ∧
    (∃ u, exec .heartbeatSend on = .next u) ∧
    (∃ u, exec (.hbMiss 0) on = .next u) ∧
    (∃ u, exec (.pcsLockLoss 0 true 0) on = .next u) ∧
    (∃ u, exec (.fecUncorrectable 0 0) on = .next u) ∧
    (∃ u, exec (.linkTrained 0 0) on = .next u) ∧
    (∃ u, exec .activeRepeat on = .next u) ∧
    (∃ u, exec .activeExpiry on = .next u) :=
  ⟨by decide +kernel, ⟨_, rfl⟩, ⟨_, rfl⟩, ⟨_, rfl⟩, ⟨_, rfl⟩, ⟨_, rfl⟩, ⟨_, rfl⟩, ⟨_, rfl⟩, ⟨_, rfl⟩, ⟨_, rfl⟩, ⟨_, rfl⟩, ⟨_, rfl⟩, ⟨_, rfl⟩, ⟨_, rfl⟩, ⟨_, rfl⟩, ⟨_, rfl⟩, ⟨_, rfl⟩, ⟨_, rfl⟩, ⟨_, rfl⟩, ⟨_, rfl⟩, ⟨_, rfl⟩⟩

/-- The hypotheses of Obligations.SystemFrames have a state for each command. -/
theorem test_hyps_SystemFrames :
    on.sound = true ∧
    (∃ u, exec (.cbCommitDone true 0) on = .next u) ∧
    (∃ u, exec (.tideMark 0 ⟨1, 0, 5, 1, 0xFFFF, 0, 0, List.replicate 32 0⟩ 0 true 0) on = .next u) ∧
    (∃ u, exec (.pdelayReq 0 ⟨1, 0, 5, 1, 0xFFFF, 0, 0, List.replicate 32 0⟩ 0 true 0) on = .next u) ∧
    (∃ u, exec (.pdelayResp 0 ⟨1, 0, 5, 1, 0xFFFF, 0, 0, List.replicate 32 0⟩ 0 true) on = .next u) ∧
    (∃ u, exec (.tideMarkSend 0 0) on = .next u) ∧
    (∃ u, exec (.pdelayReqSend 0 0) on = .next u) ∧
    (∃ u, exec (.ppsEdge 0 true) on = .next u) ∧
    (∃ u, exec (.sourceAppear 0 0) on = .next u) ∧
    (∃ u, exec (.sourceLoss 0 0) on = .next u) ∧
    (∃ u, exec .lockAchieved on = .next u) ∧
    (∃ u, exec .ageingUpdate on = .next u) ∧
    (∃ u, exec .settleDone on = .next u) ∧
    (∃ u, exec .ebbTrim on = .next u) ∧
    (∃ u, exec .coveWakeAdmit on = .next u) ∧
    (∃ u, exec (.covePllLocked 0 0) on = .next u) ∧
    (∃ u, exec (.lockFail 0) on = .next u) ∧
    (∃ u, exec (.supplyExcursion 0 0) on = .next u) ∧
    (∃ u, exec .helmTimeout on = .next u) ∧
    (∃ u, exec .thermalHaltDeadline on = .next u) ∧
    (∃ u, exec .scheduledFlush on = .next u) ∧
    (∃ u, exec (.lsCmdDone true 0) on = .next u) ∧
    (∃ u, exec .calendarTick on = .next u) ∧
    (∃ u, exec .flushWaitEnd on = .next u) :=
  ⟨by decide +kernel, ⟨_, rfl⟩, ⟨_, rfl⟩, ⟨_, rfl⟩, ⟨_, rfl⟩, ⟨_, rfl⟩, ⟨_, rfl⟩, ⟨_, rfl⟩, ⟨_, rfl⟩, ⟨_, rfl⟩, ⟨_, rfl⟩, ⟨_, rfl⟩, ⟨_, rfl⟩, ⟨_, rfl⟩, ⟨_, rfl⟩, ⟨_, rfl⟩, ⟨_, rfl⟩, ⟨_, rfl⟩, ⟨_, rfl⟩, ⟨_, rfl⟩, ⟨_, rfl⟩, ⟨_, rfl⟩, ⟨_, rfl⟩, ⟨_, rfl⟩⟩

/-- The hypotheses of Obligations.HostFrames have a state for each command. -/
theorem test_hyps_HostFrames :
    on.sound = true ∧
    (∃ u, exec (.rcRead .spi 0 0 0) on = .next u) ∧
    (∃ u, exec .resultWrite on = .next u) ∧
    (∃ u, exec .workOrder on = .next u) ∧
    (∃ u, exec .workOrderReceived on = .next u) ∧
    (∃ u, exec .placementApplied on = .next u) ∧
    (∃ u, exec (.knock ⟨0x100, 0, true⟩ [] 0) on = .next u) ∧
    (∃ u, exec (.doorbellPoll 0) on = .next u) ∧
    (∃ u, exec (.windowRead ⟨0x100, 0, true⟩ 0 0 0 0) on = .next u) ∧
    (∃ u, exec (.rdmaReadResponse ⟨0x100, 0, true⟩ [] 0) on = .next u) ∧
    (∃ u, exec (.rdmaAck ⟨0x100, 0, true⟩ 0) on = .next u) ∧
    (∃ u, exec (.nakRcvd ⟨0x100, 0, true⟩ 0) on = .next u) ∧
    (∃ u, exec (.ackTimeout 0) on = .next u) ∧
    (∃ u, exec (.pfcFrame 0 0 [] 0) on = .next u) ∧
    (∃ u, exec .commandStart on = .next u) ∧
    (∃ u, exec .runAt on = .next u) ∧
    (∃ u, exec (.resultFetch []) on = .next u) ∧
    (∃ u, exec .helmClaim on = .next u) ∧
    (∃ u, exec .lockoutEnd on = .next u) ∧
    (∃ u, exec .helmAck on = .next u) ∧
    (∃ u, exec .nop on = .next u) ∧
    (∃ u, exec .eventWrite on = .next u) ∧
    (∃ u, exec (.spiRead 0 0 true) on = .next u) ∧
    (∃ u, exec (.spiBadCmd 0 0 true) on = .next u) ∧
    (∃ u, exec (.pfcPauseExpiry 0) on = .next u) :=
  ⟨by decide +kernel, ⟨_, rfl⟩, ⟨_, rfl⟩, ⟨_, rfl⟩, ⟨_, rfl⟩, ⟨_, rfl⟩, ⟨_, rfl⟩, ⟨_, rfl⟩, ⟨_, rfl⟩, ⟨_, rfl⟩, ⟨_, rfl⟩, ⟨_, rfl⟩, ⟨_, rfl⟩, ⟨_, rfl⟩, ⟨_, rfl⟩, ⟨_, rfl⟩, ⟨_, rfl⟩, ⟨_, rfl⟩, ⟨_, rfl⟩, ⟨_, rfl⟩, ⟨_, rfl⟩, ⟨_, rfl⟩, ⟨_, rfl⟩, ⟨_, rfl⟩, ⟨_, rfl⟩⟩

/-- The hypotheses of Obligations.PinFrames have a state for each command. -/
theorem test_hyps_PinFrames :
    on.sound = true ∧
    (∃ u, exec .holdRefresh on = .next u) ∧
    (∃ u, exec (.bwEngageCheck ([0, 1535])) on = .next u) ∧
    (∃ u, exec (.driveEvent 0) on = .next u) ∧
    (∃ u, exec (.strobeEvent 0) on = .next u) ∧
    (∃ u, exec (.pmuConnectClose 0) on = .next u) ∧
    (∃ u, exec (.pmuDisconnectOff 0) on = .next u) ∧
    (∃ u, exec (.pmuRangeLimitMove 0 true) on = .next u) ∧
    (∃ u, exec (.pmuRangeOldOpen 0) on = .next u) ∧
    (∃ u, exec (.pmuRangeDone 0) on = .next u) ∧
    (∃ u, exec (.conversionEnd 0 0) on = .next u) ∧
    (∃ u, exec (.sineSample 0) on = .next u) ∧
    (∃ u, exec (.tdcCalDone 0 0 0) on = .next u) ∧
    (∃ u, exec (.tdcTimeout 0) on = .next u) ∧
    (∃ u, exec (.aqCmpSample 0) on = .next u) ∧
    (∃ u, exec (.aqRearmDone 0 0) on = .next u) ∧
    (∃ u, exec (.aqSpillWritten 0) on = .next u) :=
  ⟨by decide +kernel, ⟨_, rfl⟩, ⟨_, rfl⟩, ⟨_, rfl⟩, ⟨_, rfl⟩, ⟨_, rfl⟩, ⟨_, rfl⟩, ⟨_, rfl⟩, ⟨_, rfl⟩, ⟨_, rfl⟩, ⟨_, rfl⟩, ⟨_, rfl⟩, ⟨_, rfl⟩, ⟨_, rfl⟩, ⟨_, rfl⟩, ⟨_, rfl⟩, ⟨_, rfl⟩⟩

end Sys2Proof.Machine
end

section
/-! PROOFS. The hold queues of strands under self-test (spec/02_register_conventions.md R60 to R62): when a write burst is
refused because a queue would overflow, and what a burst for one strand leaves in its queue. -/

namespace Sys2Proof.Machine

/-! ### The words of a burst that one strand holds -/

/-- The words of a burst that the hold queue of strand `k` has to take. -/
def State.heldWords (s : State) (addrs : List Nat) (k : Nat) : Nat := addrs.countP (fun a => s.testedAt a == some k)

@[simp] theorem State.heldWords_nil (s : State) (k : Nat) : s.heldWords [] k = 0 := rfl

theorem State.heldWords_cons_same {s : State} {a k : Nat} (t : List Nat) (h : s.testedAt a = some k) :
    s.heldWords (a :: t) k = s.heldWords t k + 1 :=
  List.countP_cons_of_pos (by simp [h])

theorem State.heldWords_cons_other {s : State} {a k : Nat} (t : List Nat) (h : s.testedAt a ≠ some k) :
    s.heldWords (a :: t) k = s.heldWords t k :=
  List.countP_cons_of_neg (by simpa using h)

theorem State.heldWords_pos {s : State} {addrs : List Nat} {k : Nat} :
    0 < s.heldWords addrs k ↔ ∃ a ∈ addrs, s.testedAt a = some k := by
  simp [State.heldWords, List.countP_pos_iff]

/-- The count as the obligation writes it, by a filter. -/
theorem State.heldWords_eq_filter (s : State) (addrs : List Nat) (k : Nat) :
    s.heldWords addrs k = (addrs.filter (fun a => s.testedAt a == some k)).length :=
  List.countP_eq_length_filter

theorem State.heldWords_of_all {s : State} {addrs : List Nat} {k : Nat} (h : ∀ a ∈ addrs, s.testedAt a = some k) :
    s.heldWords addrs k = addrs.length :=
  List.countP_eq_length.mpr (fun a ha => by simp [h a ha])

/-! ### The entries in use while a burst is placed -/

/-- The entries of the hold queue of strand `k` in use after the words counted in `used`. -/
def State.holdUse (s : State) (used : Store Nat) (k : Nat) : Nat := Store.getD used k (s.strand k).holdQ.length

@[simp] theorem State.holdUse_nil (s : State) (k : Nat) : s.holdUse [] k = (s.strand k).holdQ.length := rfl

@[simp] theorem State.holdUse_put_same (s : State) (used : Store Nat) (k n : Nat) : s.holdUse (Store.put used k n) k = n := by
  simp [State.holdUse, Store.getD, Store.get?_put_same]

theorem State.holdUse_put_other (s : State) (used : Store Nat) {k j : Nat} (n : Nat) (h : j ≠ k) :
    s.holdUse (Store.put used k n) j = s.holdUse used j := by
  simp [State.holdUse, Store.getD, Store.get?_put_other _ _ h]

/-! ### State.holdFull -/

@[simp] theorem State.holdFull_nil (s : State) (used : Store Nat) : s.holdFull [] used = none := rfl

theorem State.holdFull_cons_free {s : State} {a : Nat} (d : Word) (t : List (Nat × Word)) (used : Store Nat) (h : s.testedAt a = none) :
    s.holdFull ((a, d) :: t) used = s.holdFull t used := by
  simp [State.holdFull, h]

theorem State.holdFull_cons_tested {s : State} {a k : Nat} (d : Word) (t : List (Nat × Word)) (used : Store Nat)
    (h : s.testedAt a = some k) :
    s.holdFull ((a, d) :: t) used =
      if 255 ≤ s.holdUse used k then some a else s.holdFull t (Store.put used k (s.holdUse used k + 1)) := by
  simp only [State.holdFull, h]
  rfl

/-- Only a word of the burst is named as the one that finds no room. -/
theorem State.mem_of_holdFull {s : State} {l : List (Nat × Word)} {used : Store Nat} {b : Nat} (h : s.holdFull l used = some b) :
    b ∈ l.map Prod.fst := by
  induction l generalizing used with
  | nil => simp at h
  | cons e t ih =>
    obtain ⟨a, d⟩ := e
    cases hk : s.testedAt a with
    | none => exact List.mem_cons_of_mem _ (ih (State.holdFull_cons_free d t used hk ▸ h))
    | some k =>
      rw [State.holdFull_cons_tested d t used hk] at h
      split at h
      · simp [Option.some.inj h]
      · exact List.mem_cons_of_mem _ (ih h)

/-- R62: every word finds room exactly when no strand's queue grows beyond 255 entries. -/
theorem State.holdFull_eq_none {s : State} {l : List (Nat × Word)} {used : Store Nat} :
    s.holdFull l used = none ↔
      ∀ k, 0 < s.heldWords (l.map Prod.fst) k → s.holdUse used k + s.heldWords (l.map Prod.fst) k ≤ 255 := by
  induction l generalizing used with
  | nil => simp
  | cons e t ih =>
    obtain ⟨a, d⟩ := e
    simp only [List.map_cons]
    cases hj : s.testedAt a with
    | none =>
      have hcount (k : Nat) : s.heldWords (a :: t.map Prod.fst) k = s.heldWords (t.map Prod.fst) k :=
        State.heldWords_cons_other _ (by simp [hj])
      simp only [State.holdFull_cons_free d t used hj, ih, hcount]
    | some j =>
      have hsame := State.heldWords_cons_same (t.map Prod.fst) hj
      have hother {k : Nat} (hk : k ≠ j) : s.heldWords (a :: t.map Prod.fst) k = s.heldWords (t.map Prod.fst) k :=
        State.heldWords_cons_other _ (by simpa [hj] using hk.symm)
      rw [State.holdFull_cons_tested d t used hj]
      split
      case isTrue hfull =>
        refine iff_of_false (by simp) fun hroom => ?_
        have := hroom j (by omega)
        omega
      case isFalse hfree =>
        rw [ih]
        refine forall_congr' fun k => ?_
        by_cases hk : k = j
        · subst hk
          rw [State.holdUse_put_same]
          omega
        · rw [State.holdUse_put_other s used _ hk, hother hk]

/-! ### Bursts that are good but for the hold queues -/

/-- R39, R40: nothing makes a write burst a bus error but the room in the hold queues. -/
structure State.BurstGood (s : State) (m : Master) (addrs : List Nat) (data : List Word) (addr : Nat) : Prop where
  sameLength : addrs.length = data.length
  sameSpace : ∀ a ∈ addrs, a / 0x400000 = addr / 0x400000
  inLimit : addrs.length ≤ burstLimit m
  goodWords : ∀ e ∈ addrs.zip data, s.badWord e.1 (some e.2) = false

section
variable {s : State} {m : Master} {addrs : List Nat} {data : List Word} {addr : Nat}

theorem State.BurstGood.map_fst_zip (hg : s.BurstGood m addrs data addr) : (addrs.zip data).map Prod.fst = addrs :=
  List.map_fst_zip hg.sameLength.le

/-- The word at place `i` of a good burst passes each check of R40. -/
theorem State.BurstGood.word_passes (hg : s.BurstGood m addrs data addr) {a i : Nat} (h : (a, i) ∈ addrs.zipIdx) :
    i < burstLimit m ∧ a / 0x400000 = addr / 0x400000 ∧ s.badWord a (some (data.getD i 0)) = false := by
  have hat : addrs[i]? = some a := List.mk_mem_zipIdx_iff_getElem?.mp h
  obtain ⟨hi, rfl⟩ := List.getElem?_eq_some_iff.mp hat
  have hd : i < data.length := hg.sameLength ▸ hi
  refine ⟨hi.trans_le hg.inLimit, hg.sameSpace _ (List.getElem_mem hi), hg.goodWords (addrs[i], data.getD i 0) ?_⟩
  have hzip : (addrs.zip data)[i]'(by simp [hi, hd]) = (addrs[i], data.getD i 0) := by simp [hd]
  exact hzip ▸ List.getElem_mem _

/-- R41, R62: the first offending word of a burst that is otherwise good is the first that its hold queue cannot take. -/
theorem State.BurstGood.burstBad_eq (hg : s.BurstGood m addrs data addr) :
    s.burstBad m addrs (some data) addr 0 = s.holdFull (addrs.zip data) [] := by
  have hpass : ∀ e ∈ addrs.zipIdx, (decide (burstLimit m ≤ e.2) || e.1 / 0x400000 != addr / 0x400000 ||
      s.badWord e.1 (some (data.getD e.2 0)) || s.holdFull (addrs.zip data) [] == some e.1) =
      (s.holdFull (addrs.zip data) [] == some e.1) := by
    rintro ⟨a, i⟩ he
    obtain ⟨hlimit, hspace, hword⟩ := hg.word_passes he
    simp only [hspace, hword, decide_eq_false hlimit.not_ge, bne_self_eq_false, Bool.false_or]
  simp only [State.burstBad, Option.map_some, List.find?_congr hpass]
  split
  case h_1 e he =>
    have hfirst := List.find?_some he
    exact (beq_iff_eq.mp hfirst).symm
  case h_2 hnone =>
    cases hfull : s.holdFull (addrs.zip data) [] with
    | none => simp
    | some b =>
      obtain ⟨i, hi, rfl⟩ := List.getElem_of_mem (hg.map_fst_zip ▸ State.mem_of_holdFull hfull : b ∈ addrs)
      have hmem : (addrs[i], i) ∈ addrs.zipIdx := List.mk_mem_zipIdx_iff_getElem?.mpr (List.getElem?_eq_getElem hi)
      exact absurd (by simp [hfull]) (List.find?_eq_none.mp hnone _ hmem)

/-- R62: a burst that is otherwise good has an offending word exactly when some strand's queue would grow beyond 255 entries. -/
theorem State.BurstGood.burstBad_eq_none (hg : s.BurstGood m addrs data addr) :
    s.burstBad m addrs (some data) addr 0 = none ↔
      ∀ k, 0 < s.heldWords addrs k → (s.strand k).holdQ.length + s.heldWords addrs k ≤ 255 := by
  rw [hg.burstBad_eq, State.holdFull_eq_none, hg.map_fst_zip]
  rfl

/-- R41, R62: a burst whose words for strand `k` do not fit is a bus error at one of its words, and nothing else happens. -/
theorem State.BurstGood.writeBurst_error (hg : s.BurstGood m addrs data addr) {k : Nat} (hk : 0 < s.heldWords addrs k)
    (hover : 255 < (s.strand k).holdQ.length + s.heldWords addrs k) (present : Option Bool) :
    ∃ a ∈ addrs, s.writeBurst m addrs data addr 0 present = (.error, s.noteBusError m a) := by
  cases hbad : s.burstBad m addrs (some data) addr 0 with
  | none => exact absurd (hg.burstBad_eq_none.mp hbad k hk) hover.not_ge
  | some a =>
    have ha : a ∈ addrs := hg.map_fst_zip ▸ State.mem_of_holdFull (hg.burstBad_eq ▸ hbad)
    exact ⟨a, ha, by simp [State.writeBurst, hbad]⟩

end

/-! ### Bursts that are taken -/

/-- A burst without an offending word is no bus error. -/
theorem State.writeBurst_ne_error {s : State} {m : Master} {addrs : List Nat} {data : List Word} {addr tail : Nat}
    (h : s.burstBad m addrs (some data) addr tail = none) (present : Option Bool) :
    (s.writeBurst m addrs data addr tail present).1 ≠ .error := by
  simp only [State.writeBurst, h]
  split <;> simp

/-- R61: the words `l` of master `m` enter the hold queue of strand `k`, in order. -/
def State.hold (s : State) (m : Master) (k : Nat) (l : List (Nat × Word)) : State :=
  l.foldl (fun x e => x.modStrand k (fun t => { t with holdQ := t.holdQ ++ [.write m e.1 e.2] })) s

@[simp] theorem State.hold_nil (s : State) (m : Master) (k : Nat) : s.hold m k [] = s := rfl

theorem State.hold_cons (s : State) (m : Master) (k : Nat) (e : Nat × Word) (l : List (Nat × Word)) :
    s.hold m k (e :: l) = (s.modStrand k (fun t => { t with holdQ := t.holdQ ++ [.write m e.1 e.2] })).hold m k l := rfl

/-- R61: the queue keeps its entries and takes the words behind them. -/
theorem State.hold_holdQ (s : State) (m : Master) (k : Nat) (l : List (Nat × Word)) :
    ((s.hold m k l).strand k).holdQ = (s.strand k).holdQ ++ l.map (fun e => .write m e.1 e.2) := by
  induction l generalizing s with
  | nil => simp
  | cons e t ih => simp [State.hold_cons, ih]

/-- Holding words writes no register. -/
@[simp] theorem State.hold_regs (s : State) (m : Master) (k : Nat) (l : List (Nat × Word)) : (s.hold m k l).regs = s.regs := by
  induction l generalizing s with
  | nil => rfl
  | cons e t ih => simp [State.hold_cons, ih]

theorem State.hold_rd (s : State) (m : Master) (k : Nat) (l : List (Nat × Word)) (a : Nat) : (s.hold m k l).rd a = s.rd a := by
  simp [State.rd]

/-- R61: a burst wholly for the block of strand `k` under self-test is deferred, each of its words held. -/
theorem State.writeBurst_deferred {s : State} {m : Master} {addrs : List Nat} {data : List Word} {addr tail k : Nat}
    (h : s.burstBad m addrs (some data) addr tail = none) (hne : addrs ≠ []) (hk : ∀ a ∈ addrs, s.testedAt a = some k)
    (present : Option Bool) :
    s.writeBurst m addrs data addr tail present = (.deferred, s.hold m k (addrs.zip data)) := by
  obtain ⟨a, ha⟩ := List.exists_mem_of_ne_nil addrs hne
  have hheld : addrs.any (fun a => (s.testedAt a).isSome) = true := List.any_eq_true.mpr ⟨a, ha, by simp [hk a ha]⟩
  simp only [State.writeBurst, h, hheld, if_true, State.hold]
  refine congrArg (Prod.mk _) (List.foldl_ext _ _ _ fun x e he => ?_)
  simp only [hk e.1 (List.of_mem_zip he).1]

/-- Settles O9: a burst that is otherwise good is refused exactly when the words of some strand overflow its queue
(`BurstGood.burstBad_eq_none`), by the invariant that `holdFull` counts the entries in use (`holdFull_eq_none`). -/
theorem holdQueueLimit : Obligations.HoldQueueLimit := by
  unfold Obligations.HoldQueueLimit
  intro m addrs data addr present s hlength hspace hlimit hwords
  have hg : s.BurstGood m addrs data addr := ⟨hlength, hspace, hlimit, hwords⟩
  simp only [← State.heldWords_pos, ← State.heldWords_eq_filter]
  refine ⟨fun k _ hpos hover => hg.writeBurst_error hpos hover present,
    fun hfits => State.writeBurst_ne_error (hg.burstBad_eq_none.mpr hfits) present, fun k hne hall hfits => ?_⟩
  have hgood : s.burstBad m addrs (some data) addr 0 = none := hg.burstBad_eq_none.mpr fun j hj => by
    obtain ⟨a, ha, haj⟩ := State.heldWords_pos.mp hj
    obtain rfl : k.val = j := Option.some.inj ((hall a ha).symm.trans haj)
    rwa [State.heldWords_of_all hall]
  exact ⟨_, State.writeBurst_deferred hgood hne hall present, State.hold_holdQ s m k _, State.hold_rd s m k _⟩

end Sys2Proof.Machine
end

section
/-! PROOFS. The CRC-16 of a granule and the storage order of its bytes (spec/07_pattern_memory.md R192). -/

namespace Sys2Proof.Machine

/-! ### The little-endian bytes of a number -/

@[simp] theorem leBytes_length (n v : Nat) : (leBytes n v).length = n := by
  induction n generalizing v with
  | zero => rfl
  | succ n ih => simp [leBytes, ih]

/-- Byte `j` of a number is its digit `j` to the base 256. -/
theorem leBytes_getElem? {n j : Nat} (v : Nat) (h : j < n) : (leBytes n v)[j]? = some (BitVec.ofNat 8 (v / 256 ^ j)) := by
  induction n generalizing v j with
  | zero => omega
  | succ n ih =>
    cases j with
    | zero => simp [leBytes]
    | succ j => rw [leBytes, List.getElem?_cons_succ, ih _ (by omega), Nat.div_div_eq_div_mul, Nat.pow_succ']

/-! ### The bytes of a granule -/

theorem granBytes_cons (w : Word64) (ws : List Word64) : granBytes (w :: ws) = leBytes 8 w.toNat ++ granBytes ws := rfl

theorem granBytes_length (ws : List Word64) : (granBytes ws).length = 8 * ws.length := by
  induction ws with
  | nil => rfl
  | cons w ws ih => simp [granBytes_cons, ih]; omega

/-- Storage order: byte `j` of step word `i` stands at place `8 * i + j`. -/
theorem granBytes_getElem? {ws : List Word64} {i j : Nat} (hi : i < ws.length) (hj : j < 8) :
    (granBytes ws)[8 * i + j]? = (leBytes 8 (ws.getD i 0).toNat)[j]? := by
  induction ws generalizing i with
  | nil => simp at hi
  | cons w ws ih =>
    rw [granBytes_cons]
    cases i with
    | zero =>
      rw [Nat.mul_zero, Nat.zero_add, List.getElem?_append_left (by simpa using hj), List.getD_cons_zero]
    | succ i =>
      have hplace : 8 * (i + 1) + j - 8 = 8 * i + j := by omega
      rw [List.getElem?_append_right (by simp; omega), leBytes_length, hplace, ih (Nat.lt_of_succ_lt_succ hi),
        List.getD_cons_succ]

/-! ### The CRC -/

@[simp] theorem crc16_nil : crc16 [] = 0xFFFF := rfl

/-- The bit step as R192 gives it: shift out the top bit and, when it was set, add the polynomial. -/
theorem crc16Bit_eq (c : Nat) :
    crc16Bit c = if c.testBit 15 then Nat.xor (2 * c % 65536) 0x1021 else 2 * c % 65536 := by
  rw [crc16Bit, Nat.mul_comm c 2]

/-- One more byte goes in at the top of the CRC, most significant bit first. -/
theorem crc16_append_byte (bs : List Byte) (b : Byte) :
    crc16 (bs ++ [b]) = iter crc16Bit 8 (Nat.xor (crc16 bs) (256 * b.toNat)) := by
  rw [crc16, List.foldl_append, List.foldl_cons, List.foldl_nil, Nat.mul_comm b.toNat 256, crc16]

/-! ### The comparison with the side line -/

/-- A granule held is good when the CRC over its bytes is the one its segment's side line gives. -/
theorem State.granuleMatches_of_held {s : State} {seg gran : Nat} {g : Segment} {ws : List Word64} (hseg : s.segment? seg = some g)
    (hgran : Store.get? g.grans gran = some ws) : s.granuleMatches seg gran = (crc16 (granBytes ws) == g.crcs.getD gran 0) := by
  simp only [State.granuleMatches, hseg, hgran]

/-- Settles O7: the recursion over the bytes (`crc16_append_byte`), the storage order (`granBytes_getElem?`) and the side line. -/
theorem granuleCrc : Obligations.GranuleCrc := by
  unfold Obligations.GranuleCrc
  simp only [← crc16Bit_eq]
  refine ⟨crc16_nil, crc16_append_byte, by decide +kernel, fun ws hws => ⟨by rw [granBytes_length, hws], fun i j => ?_⟩,
    fun seg gran g ws s hseg hgran => State.granuleMatches_of_held hseg hgran⟩
  rw [granBytes_getElem? (i.isLt.trans_eq hws.symm) j.isLt, leBytes_getElem? _ j.isLt]

end Sys2Proof.Machine
end

section
/-! PROOFS. What every step keeps (Safety.lean): each command answers a next state within the mask that allows everything, so that the
invariant and the order of time, queue, outputs and free values follow for a step. -/

namespace Sys2Proof.Machine

/-! ### Every command -/

/-- The mask that allows every part of the state and every row of registers to change. -/
def Mask.all : Nat := 0x1FFFFFFFFFFFFFFFFFFFFFFFFFFFFFFFFFFFFFFFFFFFFFFFFFFFFFFFFFFFFFFFFFFFFFFFFFFFFFFFFFFFFFFFFFFFFFFFFFFFFFFFFFFFFFFFFFFFFFFFFFFFFFFFFFFFFFFFFFFFF

/-- Every command answers a next state that comes after the one it acts on: one lemma of Laws/ for each constructor. -/
theorem exec_answersWithin (c : Instr) {s : State} (hs : s.sound = true) : AnswersWithin Mask.all s (exec c s) := by
  have hw : Within Mask.all s s := Within.refl _ hs
  cases c with
  | regWrite m addr data tail => exact within_execRegWrite rfl m addr data tail hw
  | rcRead m addr count tail => exact within_execRcRead rfl m addr count tail hw
  | snapWrite m addr offset => exact within_execSnapWrite rfl m addr offset hw
  | devLockWrite m al d => exact within_execDevLockWrite rfl m al d hw
  | updStrobe m mask => exact within_execUpdStrobe rfl m mask hw
  | updArm m slack => exact within_execUpdArm rfl m slack hw
  | updDisarm m => exact within_execUpdDisarm rfl m hw
  | scheduledStrobe => exact within_execScheduledStrobe rfl hw
  | psLimWrite m al n d => exact within_execPsLimWrite rfl m al n d hw
  | pmLimWrite m al n current d => exact within_execPmLimWrite rfl m al n current d hw
  | psEvtArm m n target ring wake => exact within_execPsEvtArm rfl m n target ring wake hw
  | psEvtDisarm m n target ring wake => exact within_execPsEvtDisarm rfl m n target ring wake hw
  | comparatorDecision n hi lo at_ => exact within_execComparatorDecision rfl n hi lo at_ hw
  | cmpSettled n hi lo => exact within_execCmpSettled rfl n hi lo hw
  | holdRefresh => exact within_execHoldRefresh rfl hw
  | bwTrip n ovh ovl oc at_ => exact within_execBwTrip rfl n ovh ovl oc at_ hw
  | bwEngageCheck bad => exact within_execBwEngageCheck rfl bad hw
  | bwRearm m n action present => exact within_execBwRearm rfl m n action present hw
  | driveEvent n => exact within_execDriveEvent rfl n hw
  | strobeEvent n => exact within_execStrobeEvent rfl n hw
  | wvDataWrite m al k d => exact within_execWvDataWrite rfl m al k d hw
  | edEdgeWrite m al k e d => exact within_execEdEdgeWrite rfl m al k e d hw
  | next k => exact within_execNext rfl k hw
  | rpt k => exact within_execRpt rfl k hw
  | loopBegin k => exact within_execLoopBegin rfl k hw
  | loopEnd k => exact within_execLoopEnd rfl k hw
  | call k => exact within_execCall rfl k hw
  | ret k => exact within_execRet rfl k hw
  | jmp k => exact within_execJmp rfl k hw
  | jif k => exact within_execJif rfl k hw
  | matchOp k => exact within_execMatch rfl k hw
  | trig k => exact within_execTrig rfl k hw
  | mark k => exact within_execMark rfl k hw
  | waitSlack k => exact within_execWaitSlack rfl k hw
  | slackWaitDone k => exact within_execSlackWaitDone rfl k hw
  | lashSyncMet k => exact within_execLashSyncMet rfl k hw
  | syncTo k => exact within_execSyncTo rfl k hw
  | parkOp k => exact within_execParkOp rfl k hw
  | haltOp k => exact within_execHaltOp rfl k hw
  | illegalOp k => exact within_execIllegalOp rfl k hw
  | holdStep k => exact within_execHoldStep rfl k hw
  | holdLimit k => exact within_execHoldLimit rfl k hw
  | runStart k => exact within_execRunStart rfl k hw
  | sqHalt m k => exact within_execSqHalt rfl m k hw
  | sqResume m k => exact within_execSqResume rfl m k hw
  | sqLedgerClr m k => exact within_execSqLedgerClr rfl m k hw
  | sqBtWrite m al k d => exact within_execSqBtWrite rfl m al k d hw
  | agTabWrite m al k d => exact within_execAgTabWrite rfl m al k d hw
  | granuleRefill k seg gran read1 read2 t => exact within_execGranuleRefill rfl k seg gran read1 read2 t hw
  | requestPromotion => exact within_execRequestPromotion rfl hw
  | prefetchWindow c => exact within_execPrefetchWindow rfl c hw
  | retrainPauseStart c => exact within_execRetrainPauseStart rfl c hw
  | retrainPauseEnd c ok => exact within_execRetrainPauseEnd rfl c ok hw
  | selfRefreshEntry => exact within_execSelfRefreshEntry rfl hw
  | selfRefreshExit => exact within_execSelfRefreshExit rfl hw
  | segWrite => exact within_execSegWrite rfl hw
  | segImageReceived => exact within_execSegImageReceived rfl hw
  | segFree => exact within_execSegFree rfl hw
  | streamOpen => exact within_execStreamOpen rfl hw
  | streamPull n => exact within_execStreamPull rfl n hw
  | activeTestChange => exact within_execActiveTestChange rfl hw
  | failEvent k => exact within_execFailEvent rfl k hw
  | failSwitchAccept => exact within_execFailSwitchAccept rfl hw
  | journalGroupTimeout => exact within_execJournalGroupTimeout rfl hw
  | journalGroupWritten => exact within_execJournalGroupWritten rfl hw
  | timeBase => exact within_execTimeBase rfl hw
  | endMark k => exact within_execEndMark rfl k hw
  | jrnReset m => exact within_execJrnReset rfl m hw
  | journalAudit m => exact within_execJournalAudit rfl m hw
  | journalAuditDone bad => exact within_execJournalAuditDone rfl bad hw
  | flLedgerClr m k => exact within_execFlLedgerClr rfl m k hw
  | flDieWrite m al k d => exact within_execFlDieWrite rfl m al k d hw
  | ledgerRead => exact within_execLedgerRead rfl hw
  | laneFold l bad => exact within_execLaneFold rfl l bad hw
  | contextFetched slot good => exact within_execContextFetched rfl slot good hw
  | spFinal m die => exact within_execSpFinal rfl m die hw
  | spFinalAll m => exact within_execSpFinalAll rfl m hw
  | spRelease m die => exact within_execSpRelease rfl m die hw
  | laneSpliceDone l d badGroups badCtx => exact within_execLaneSpliceDone rfl l d badGroups badCtx hw
  | resultWrite => exact within_execResultWrite rfl hw
  | workOrder => exact within_execWorkOrder rfl hw
  | workOrderReceived => exact within_execWorkOrderReceived rfl hw
  | placementDecided => exact within_execPlacementDecided rfl hw
  | placementApplied => exact within_execPlacementApplied rfl hw
  | plRelease m => exact within_execPlRelease rfl m hw
  | pmForceDirectWrite m al n d => exact within_execPmForceDirectWrite rfl m al n d hw
  | pmuConnectClose n => exact within_execPmuConnectClose rfl n hw
  | pmuDisconnectOff n => exact within_execPmuDisconnectOff rfl n hw
  | pmuRangeLimitMove n outside => exact within_execPmuRangeLimitMove rfl n outside hw
  | pmuRangeOldOpen n => exact within_execPmuRangeOldOpen rfl n hw
  | pmuRangeDone n => exact within_execPmuRangeDone rfl n hw
  | conversionEnd n raw => exact within_execConversionEnd rfl n raw hw
  | sineSample k => exact within_execSineSample rfl k hw
  | sgTabWrite m al k d => exact within_execSgTabWrite rfl m al k d hw
  | tdStart m n => exact within_execTdStart rfl m n hw
  | tdStop m n => exact within_execTdStop rfl m n hw
  | tdcCalDone n m1 m2 => exact within_execTdcCalDone rfl n m1 m2 hw
  | tdcTimeout n => exact within_execTdcTimeout rfl n hw
  | aqStart m k => exact within_execAqStart rfl m k hw
  | aqStop m k => exact within_execAqStop rfl m k hw
  | aqForce m k => exact within_execAqForce rfl m k hw
  | aqCmpSample k => exact within_execAqCmpSample rfl k hw
  | aqRearmDone k ns => exact within_execAqRearmDone rfl k ns hw
  | aqSpillWritten k => exact within_execAqSpillWritten rfl k hw
  | calTiming m strand pins ctx => exact within_execCalTiming rfl m strand pins ctx hw
  | calLevels m strand pins ctx => exact within_execCalLevels rfl m strand pins ctx hw
  | calConv m strand pins ctx => exact within_execCalConv rfl m strand pins ctx hw
  | calSysZero m strand pins ctx src => exact within_execCalSysZero rfl m strand pins ctx src hw
  | calSysFs m strand pins ctx src => exact within_execCalSysFs rfl m strand pins ctx src hw
  | calAbort m strand => exact within_execCalAbort rfl m strand hw
  | calRunEnd c meas temp => exact within_execCalRunEnd rfl c meas temp hw
  | cbDataWrite m al d => exact within_execCbDataWrite rfl m al d hw
  | cbCommit m confirm => exact within_execCbCommit rfl m confirm hw
  | cbCommitDone ok at_ => exact within_execCbCommitDone rfl ok at_ hw
  | calRun => exact within_execCalRun rfl hw
  | knock h payload at_ => exact within_execKnock rfl h payload at_ hw
  | doorbellPoll at_ => exact within_execDoorbellPoll rfl at_ hw
  | windowWrite h va rkey data at_ => exact within_execWindowWrite rfl h va rkey data at_ hw
  | windowRead h va rkey len at_ => exact within_execWindowRead rfl h va rkey len at_ hw
  | rdmaReadResponse h data at_ => exact within_execRdmaReadResponse rfl h data at_ hw
  | rdmaAck h at_ => exact within_execRdmaAck rfl h at_ hw
  | nakRcvd h at_ => exact within_execNakRcvd rfl h at_ hw
  | ackTimeout q => exact within_execAckTimeout rfl q hw
  | pfcFrame p enable quanta at_ => exact within_execPfcFrame rfl p enable quanta at_ hw
  | qpEnable m q cfg => exact within_execQpEnable rfl m q cfg hw
  | qpDisable m q cfg => exact within_execQpDisable rfl m q cfg hw
  | commandStart => exact within_execCommandStart rfl hw
  | runAt => exact within_execRunAt rfl hw
  | halt => exact within_execHalt rfl hw
  | resultFetch bad => exact within_execResultFetch rfl bad hw
  | regBatch => exact within_execRegBatch rfl hw
  | helmClaim => exact within_execHelmClaim rfl hw
  | lockoutEnd => exact within_execLockoutEnd rfl hw
  | helmAck => exact within_execHelmAck rfl hw
  | nop => exact within_execNop rfl hw
  | eventWrite => exact within_execEventWrite rfl hw
  | frameForward p f at_ => exact within_execFrameForward rfl p f at_ hw
  | tideMark p f at_ half stay => exact within_execTideMark rfl p f at_ half stay hw
  | pdelayReq p f at_ half stay => exact within_execPdelayReq rfl p f at_ half stay hw
  | pdelayResp p f at_ half => exact within_execPdelayResp rfl p f at_ half hw
  | audit p f at_ => exact within_execAudit rfl p f at_ hw
  | slack p f at_ => exact within_execSlack rfl p f at_ hw
  | heartbeat p f at_ => exact within_execHeartbeat rfl p f at_ hw
  | hbReply p f at_ => exact within_execHbReply rfl p f at_ hw
  | credit p f at_ => exact within_execCredit rfl p f at_ hw
  | active p f at_ => exact within_execActive rfl p f at_ hw
  | link p f at_ => exact within_execLink rfl p f at_ hw
  | linkInit p f at_ => exact within_execLinkInit rfl p f at_ hw
  | creditTimeout p => exact within_execCreditTimeout rfl p hw
  | auditGuard => exact within_execAuditGuard rfl hw
  | auditInstant => exact within_execAuditInstant rfl hw
  | auditTimeout => exact within_execAuditTimeout rfl hw
  | heartbeatSend => exact within_execHeartbeatSend rfl hw
  | hbMiss p => exact within_execHbMiss rfl p hw
  | pcsLockLoss p bypass at_ => exact within_execPcsLockLoss rfl p bypass at_ hw
  | fecUncorrectable p at_ => exact within_execFecUncorrectable rfl p at_ hw
  | linkTrained p at_ => exact within_execLinkTrained rfl p at_ hw
  | rgCmdSlack m => exact within_execRgCmdSlack rfl m hw
  | rgCmdSlackClr m => exact within_execRgCmdSlackClr rfl m hw
  | rgBypassGo m confirm => exact within_execRgBypassGo rfl m confirm hw
  | activeRepeat => exact within_execActiveRepeat rfl hw
  | activeExpiry => exact within_execActiveExpiry rfl hw
  | tideMarkSend e w => exact within_execTideMarkSend rfl e w hw
  | pdelayReqSend p out => exact within_execPdelayReqSend rfl p out hw
  | ppsEdge at_ half => exact within_execPpsEdge rfl at_ half hw
  | sourceAppear w at_ => exact within_execSourceAppear rfl w at_ hw
  | sourceLoss w at_ => exact within_execSourceLoss rfl w at_ hw
  | lockAchieved => exact within_execLockAchieved rfl hw
  | ageingUpdate => exact within_execAgeingUpdate rfl hw
  | tlAgeWrite m al rate d => exact within_execTlAgeWrite rfl m al rate d hw
  | tlSet m => exact within_execTlSet rfl m hw
  | tlSettle m => exact within_execTlSettle rfl m hw
  | settleDone => exact within_execSettleDone rfl hw
  | ebbTrim => exact within_execEbbTrim rfl hw
  | cvWake m c => exact within_execCvWake rfl m c hw
  | coveWakeAdmit => exact within_execCoveWakeAdmit rfl hw
  | covePllLocked c at_ => exact within_execCovePllLocked rfl c at_ hw
  | lockFail c => exact within_execLockFail rfl c hw
  | coveSettled c => exact within_execCoveSettled rfl c hw
  | lockLost c at_ => exact within_execLockLost rfl c at_ hw
  | coveSleep c => exact within_execCoveSleep rfl c hw
  | devPwrDeep m confirm => exact within_execDevPwrDeep rfl m confirm hw
  | devPwrWake event => exact within_execDevPwrWake rfl event hw
  | startup f => exact within_execStartup rfl f hw
  | pwrOkFall => exact within_execPwrOkFall rfl hw
  | rstNFall => exact within_execRstNFall rfl hw
  | supplyExcursion k at_ => exact within_execSupplyExcursion rfl k at_ hw
  | supplyGrave k => exact within_execSupplyGrave rfl k hw
  | rtSelftestStrand m num subst => exact within_execRtSelftestStrand rfl m num subst hw
  | rtSelftestEngine m num subst => exact within_execRtSelftestEngine rfl m num subst hw
  | rtSelftestLane m num => exact within_execRtSelftestLane rfl m num hw
  | rtSelftestEnd v => exact within_execRtSelftestEnd rfl v hw
  | faultMessage raised => exact within_execFaultMessage rfl raised hw
  | fcAck m source => exact within_execFcAck rfl m source hw
  | fcForce m d => exact within_execFcForce rfl m d hw
  | fcRecSel m al d => exact within_execFcRecSel rfl m al d hw
  | fcLogSel m al d => exact within_execFcLogSel rfl m al d hw
  | collectorSelfcheck result => exact within_execCollectorSelfcheck rfl result hw
  | selfcheckTimeout => exact within_execSelfcheckTimeout rfl hw
  | fcWdtKick m d => exact within_execFcWdtKick rfl m d hw
  | watchdogExpiry => exact within_execWatchdogExpiry rfl hw
  | helmTimeout => exact within_execHelmTimeout rfl hw
  | fcHelmAck m => exact within_execFcHelmAck rfl m hw
  | fcHelmReset m confirm => exact within_execFcHelmReset rfl m confirm hw
  | fcHelmReturn m => exact within_execFcHelmReturn rfl m hw
  | beaconBootDone fw at_ => exact within_execBeaconBootDone rfl fw at_ hw
  | sensorRead ok raw => exact within_execSensorRead rfl ok raw hw
  | thermalHaltDeadline => exact within_execThermalHaltDeadline rfl hw
  | thermalRestart => exact within_execThermalRestart rfl hw
  | thExcludeWrite m al d => exact within_execThExcludeWrite rfl m al d hw
  | csLoad m slot => exact within_execCsLoad rfl m slot hw
  | csApplyPatch m => exact within_execCsApplyPatch rfl m hw
  | csClearPatch m => exact within_execCsClearPatch rfl m hw
  | csProgram m slot => exact within_execCsProgram rfl m slot hw
  | csCommandDone bad at_ => exact within_execCsCommandDone rfl bad at_ hw
  | spiRead waddr words cut => exact within_execSpiRead rfl waddr words cut hw
  | spiWrite waddr data bits => exact within_execSpiWrite rfl waddr data bits hw
  | spiBadCmd waddr words whole => exact within_execSpiBadCmd rfl waddr words whole hw
  | lsFlush m => exact within_execLsFlush rfl m hw
  | scheduledFlush => exact within_execScheduledFlush rfl hw
  | lsSetupCommit m confirm => exact within_execLsSetupCommit rfl m confirm hw
  | lsSetupWrite m al d => exact within_execLsSetupWrite rfl m al d hw
  | lsCmdDone ok at_ => exact within_execLsCmdDone rfl ok at_ hw
  | calendarTick => exact within_execCalendarTick rfl hw
  | vddAonLoss => exact within_execVddAonLoss rfl hw
  | flushWaitEnd => exact within_execFlushWaitEnd rfl hw
  | pfcPauseExpiry p => exact within_execPfcPauseExpiry rfl p hw

theorem exec_answers (c : Instr) {s : State} (hs : s.sound = true) : Answers s (exec c s) := (exec_answersWithin c hs).answers

/-! ### One step -/

theorem step_of_empty {s : State} (h : s.pending = []) : step s = .next s.idle := by
  unfold step
  rw [h]

theorem step_of_cons {s : State} {c : Instr} {rest : List Instr} (h : s.pending = c :: rest) : step s = exec c (s.withQueue rest) := by
  unfold step
  rw [h]

/-- A step answers a state that comes after the one with the command taken off the queue. -/
theorem step_answers {s : State} (hs : s.sound = true) : Answers (s.withQueue s.pending.tail) (step s) := by
  cases hp : s.pending with
  | nil =>
    have hidle : After (s.withQueue []) s.idle := ⟨Nat.le_add_right _ _, hp, List.prefix_refl _, Nat.le_refl _, hs⟩
    exact ⟨s.idle, step_of_empty hp, hidle⟩
  | cons c rest =>
    rw [step_of_cons hp]
    exact exec_answers c hs

/-- Settles O4: a step answers exactly one state, and that one comes after (`step_answers`). -/
theorem stepKeepsSound : Obligations.StepKeepsSound := by
  intro s t hs ht
  obtain ⟨u, hu, hafter⟩ := step_answers hs
  obtain ⟨_, _, _, _, hsound⟩ := hafter
  rw [ht] at hu
  exact (Host.Outcome.next.inj hu) ▸ hsound

/-- Settles O5: the order that `After` states, read from the state whose queue has lost its front. -/
theorem everyStepAnswers : Obligations.EveryStepAnswers := by
  intro s hs
  obtain ⟨t, ht, hnow, hqueue, hsent, hfresh, _⟩ := step_answers hs
  exact ⟨t, ht, hnow, hqueue, hsent, hfresh⟩

/-- Settles O1. -/
theorem stepRunsFront : Obligations.StepRunsFront := fun _ _ => step_of_cons rfl

/-- Settles O2. -/
theorem idleStep : Obligations.IdleStep := fun _ h => ⟨step_of_empty h, rfl⟩

/-- Settles O3. -/
theorem resetIsSound : Obligations.ResetIsSound := ⟨rfl, rfl⟩

end Sys2Proof.Machine
end

section
/-! PROOFS. The register store and the shadow store (spec/02_register_conventions.md R34, R47). -/

namespace Sys2Proof.Machine

/-! ### Registers -/

theorem regsCanonical_wr {s : State} (a : Nat) (v : Word) (h : s.regsCanonical = true) : (s.wr a v).regsCanonical = true :=
  Store.wf_putD a v h

theorem rd_reset (a : Nat) : State.reset.rd a = resetOf a := rfl

/-- Settles O6. -/
theorem registerStore : Obligations.RegisterStore :=
  ⟨fun s a v => ⟨rd_wr_same s a v, fun _ hb => rd_wr_other s v hb, regsCanonical_wr a v⟩,
    fun s a v f hf => ⟨fld_setFld_eq s a f v hf, fun _ hg => fld_setFld_field s a v hg.symm, fun _ g hb => fld_setFld_ne s g f v hb⟩,
    rd_reset⟩

/-! ### Shadows -/

theorem shadowOf_writeShadow_same (s : State) (a : Nat) (v : Word) : (s.writeShadow a v).shadowOf a = v := by
  simp [State.shadowOf, State.writeShadow, Store.get?_put_same]

theorem shadowOf_writeShadow_other (s : State) {a b : Nat} (v : Word) (h : b ≠ a) :
    (s.writeShadow a v).shadowOf b = s.shadowOf b := by
  simp [State.shadowOf, State.writeShadow, Store.get?_put_other _ _ h, State.rd]

/-- Settles O10. -/
theorem shadows : Obligations.Shadows :=
  ⟨fun _ => ⟨rfl, rfl, rfl⟩, fun s a v =>
    ⟨shadowOf_writeShadow_same s a v, rd_writeShadow s a v, fun _ hb => shadowOf_writeShadow_other s v hb⟩⟩

end Sys2Proof.Machine
end

section
/-! PROOFS. What commands leave as it was (Frame.lean): for each command its lemma under Laws/, at the mask of the frame. -/

namespace Sys2Proof.Machine

/-- The frame of a command that answers within the frame's own mask. -/
theorem frame_of_answersWithin {s t : State} {o : Host.Outcome State Fault Refusal} {ps : List Part} {rs : List Nat}
    (h : AnswersWithin (maskOf ps rs) s o) (ho : o = .next t) : Frame ps rs s t :=
  h.frame ho (Nat.or_self _)

/-- Settles O55. -/
theorem ringFrames : Obligations.RingFrames := by
  intro s u hs
  have hw (m : Nat) : Within m s s := Within.refl m hs
  exact ⟨
    frame_of_answersWithin (within_execActiveTestChange rfl (hw _)),
    fun p f at_ => frame_of_answersWithin (within_execFrameForward rfl p f at_ (hw _)),
    fun p f at_ => frame_of_answersWithin (within_execAudit rfl p f at_ (hw _)),
    fun p f at_ => frame_of_answersWithin (within_execHeartbeat rfl p f at_ (hw _)),
    fun p f at_ => frame_of_answersWithin (within_execHbReply rfl p f at_ (hw _)),
    fun p f at_ => frame_of_answersWithin (within_execCredit rfl p f at_ (hw _)),
    fun p f at_ => frame_of_answersWithin (within_execActive rfl p f at_ (hw _)),
    fun p f at_ => frame_of_answersWithin (within_execLink rfl p f at_ (hw _)),
    fun p f at_ => frame_of_answersWithin (within_execLinkInit rfl p f at_ (hw _)),
    fun p => frame_of_answersWithin (within_execCreditTimeout rfl p (hw _)),
    frame_of_answersWithin (within_execAuditGuard rfl (hw _)),
    frame_of_answersWithin (within_execAuditInstant rfl (hw _)),
    frame_of_answersWithin (within_execAuditTimeout rfl (hw _)),
    frame_of_answersWithin (within_execHeartbeatSend rfl (hw _)),
    fun p => frame_of_answersWithin (within_execHbMiss rfl p (hw _)),
    fun p bypass at_ => frame_of_answersWithin (within_execPcsLockLoss rfl p bypass at_ (hw _)),
    fun p at_ => frame_of_answersWithin (within_execFecUncorrectable rfl p at_ (hw _)),
    fun p at_ => frame_of_answersWithin (within_execLinkTrained rfl p at_ (hw _)),
    frame_of_answersWithin (within_execActiveRepeat rfl (hw _)),
    frame_of_answersWithin (within_execActiveExpiry rfl (hw _))⟩

/-- Settles O56. -/
theorem systemFrames : Obligations.SystemFrames := by
  intro s u hs
  have hw (m : Nat) : Within m s s := Within.refl m hs
  exact ⟨
    fun ok at_ => frame_of_answersWithin (within_execCbCommitDone rfl ok at_ (hw _)),
    fun p f at_ half stay => frame_of_answersWithin (within_execTideMark rfl p f at_ half stay (hw _)),
    fun p f at_ half stay => frame_of_answersWithin (within_execPdelayReq rfl p f at_ half stay (hw _)),
    fun p f at_ half => frame_of_answersWithin (within_execPdelayResp rfl p f at_ half (hw _)),
    fun e w => frame_of_answersWithin (within_execTideMarkSend rfl e w (hw _)),
    fun p out => frame_of_answersWithin (within_execPdelayReqSend rfl p out (hw _)),
    fun at_ half => frame_of_answersWithin (within_execPpsEdge rfl at_ half (hw _)),
    fun w at_ => frame_of_answersWithin (within_execSourceAppear rfl w at_ (hw _)),
    fun w at_ => frame_of_answersWithin (within_execSourceLoss rfl w at_ (hw _)),
    frame_of_answersWithin (within_execLockAchieved rfl (hw _)),
    frame_of_answersWithin (within_execAgeingUpdate rfl (hw _)),
    frame_of_answersWithin (within_execSettleDone rfl (hw _)),
    frame_of_answersWithin (within_execEbbTrim rfl (hw _)),
    frame_of_answersWithin (within_execCoveWakeAdmit rfl (hw _)),
    fun c at_ => frame_of_answersWithin (within_execCovePllLocked rfl c at_ (hw _)),
    fun c => frame_of_answersWithin (within_execLockFail rfl c (hw _)),
    fun k at_ => frame_of_answersWithin (within_execSupplyExcursion rfl k at_ (hw _)),
    frame_of_answersWithin (within_execHelmTimeout rfl (hw _)),
    frame_of_answersWithin (within_execThermalHaltDeadline rfl (hw _)),
    frame_of_answersWithin (within_execScheduledFlush rfl (hw _)),
    fun ok at_ => frame_of_answersWithin (within_execLsCmdDone rfl ok at_ (hw _)),
    frame_of_answersWithin (within_execCalendarTick rfl (hw _)),
    frame_of_answersWithin (within_execFlushWaitEnd rfl (hw _))⟩

set_option exponentiation.threshold 600 in
-- A mask names row `i` by bit 40 + `i`, and the pin rows lie beyond the default threshold.
/-- Settles O58. -/
theorem pinFrames : Obligations.PinFrames := by
  intro s u hs
  have hw (m : Nat) : Within m s s := Within.refl m hs
  exact ⟨
    frame_of_answersWithin (within_execHoldRefresh rfl (hw _)),
    fun bad => frame_of_answersWithin (within_execBwEngageCheck rfl bad (hw _)),
    fun n => frame_of_answersWithin (within_execDriveEvent rfl n (hw _)),
    fun n => frame_of_answersWithin (within_execStrobeEvent rfl n (hw _)),
    fun n => frame_of_answersWithin (within_execPmuConnectClose rfl n (hw _)),
    fun n => frame_of_answersWithin (within_execPmuDisconnectOff rfl n (hw _)),
    fun n outside => frame_of_answersWithin (within_execPmuRangeLimitMove rfl n outside (hw _)),
    fun n => frame_of_answersWithin (within_execPmuRangeOldOpen rfl n (hw _)),
    fun n => frame_of_answersWithin (within_execPmuRangeDone rfl n (hw _)),
    fun n raw => frame_of_answersWithin (within_execConversionEnd rfl n raw (hw _)),
    fun k => frame_of_answersWithin (within_execSineSample rfl k (hw _)),
    fun n m1 m2 => frame_of_answersWithin (within_execTdcCalDone rfl n m1 m2 (hw _)),
    fun n => frame_of_answersWithin (within_execTdcTimeout rfl n (hw _)),
    fun k => frame_of_answersWithin (within_execAqCmpSample rfl k (hw _)),
    fun k ns => frame_of_answersWithin (within_execAqRearmDone rfl k ns (hw _)),
    fun k => frame_of_answersWithin (within_execAqSpillWritten rfl k (hw _))⟩

end Sys2Proof.Machine
end

section
/-! PROOFS. The words that commands write: what the fields of a word made of single fields read as, and what registers read as after a
field of another register is written. -/

namespace Sys2Proof.Machine

/-! ### Fields of command words -/

theorem Field.get_word1_same (f : Field) (v : Nat) (h : f.lo + f.width ≤ 32) : f.get (word1 f v) = v % 2 ^ f.width :=
  Field.get_put_same f 0 v h

theorem Field.get_word1_other (f g : Field) (v : Nat) (h : f.lo + f.width ≤ g.lo ∨ g.lo + g.width ≤ f.lo) :
    f.get (word1 g v) = 0 :=
  (Field.get_put_other f g 0 v h).trans (Field.get_zero f)

theorem bitN_lt_two (b : Bool) : bitN b < 2 := by cases b <;> decide

@[simp] theorem bitN_mod_two (b : Bool) : bitN b % 2 = bitN b := Nat.mod_eq_of_lt (bitN_lt_two b)

/-! ### Other registers -/

theorem rd_setFld_ne (s : State) {a b : Nat} (f : Field) (v : Nat) (h : b ≠ a) : (s.setFld a f v).rd b = s.rd b :=
  rd_wr_other s _ h

theorem rd_raise_ne (s : State) {a b : Nat} (f : Field) (h : b ≠ a) : (s.raise a f).rd b = s.rd b :=
  rd_wr_other s _ h

theorem fld_raise_ne (s : State) {a b : Nat} (f g : Field) (h : b ≠ a) : (s.raise a g).fld b f = s.fld b f :=
  fld_setFld_ne s f g 1 h

theorem rd64_setFld_ne (s : State) {a b : Nat} (f : Field) (v : Nat) (h : b ≠ a ∧ b + 4 ≠ a) :
    (s.setFld a f v).rd64 b = s.rd64 b := by
  unfold State.rd64
  rw [rd_setFld_ne s f v h.1, rd_setFld_ne s f v h.2]

theorem flag_wr_ne (s : State) {a b : Nat} (f : Field) (v : Word) (h : b ≠ a) : (s.wr a v).flag b f = s.flag b f := by
  unfold State.flag
  rw [fld_wr_ne s f v h]

theorem beaconRuns_wr (s : State) {a : Nat} (v : Word) (h : Reg.FC_HELM_STATE ≠ a) : (s.wr a v).beaconRuns = s.beaconRuns :=
  flag_wr_ne s _ v h

/-- The registers of strands lie above those of the device, the coves and the queue pairs. -/
theorem strandA_ge (k off : Nat) : 0x100000 ≤ strandA k off := by
  unfold strandA
  omega

theorem sqState_wr (s : State) {a : Nat} (k : Nat) (v : Word) (h : a < 0x100000) : (s.wr a v).sqState k = s.sqState k :=
  fld_wr_ne s _ v (by have := strandA_ge k Reg.SQ_STATE; omega)

theorem activeTest_wr (s : State) {a : Nat} (v : Word) (h : a < 0x100000) : (s.wr a v).activeTest = s.activeTest := by
  have hstate (k : Nat) : (s.wr a v).fld (strandA k Reg.SQ_STATE) Fld.SQ_STATE_STATE = s.fld (strandA k Reg.SQ_STATE) Fld.SQ_STATE_STATE :=
    sqState_wr s k v h
  simp only [State.activeTest, hstate]

theorem tideValid_setFld (s : State) {a : Nat} (f : Field) (v : Nat) (h : Reg.TL_STATE ≠ a) :
    (s.setFld a f v).tideValid = s.tideValid := by
  unfold State.tideValid
  rw [fld_setFld_ne s _ f v h]

end Sys2Proof.Machine
end

section
/-! PROOFS. Update strobes (spec/02_register_conventions.md R48 to R53). -/

namespace Sys2Proof.Machine

/-! ### A strobe with no strand under self-test -/

theorem testing_eq_nil {s : State} (h : allStrands.all (fun k => s.sqState k != 6) = true) :
    allStrands.filter (fun k => s.sqState k == 6) = [] := by
  rw [List.filter_eq_nil_iff]
  intro k hk
  simpa using List.all_eq_true.mp h k hk

/-- The keys of the entries that a test of keys keeps pass the test, and no other entry has one of them. -/
theorem filter_not_keys {p : Nat → Bool} {q : Nat × Word → Bool} (l : Store Word) (hq : ∀ e, q e = p e.1) :
    l.filter (fun e => !((l.filter q).map (·.1)).contains e.1) = l.filter (fun e => !p e.1) := by
  refine List.filter_congr fun e he => congrArg (!·) ?_
  rw [Bool.eq_iff_iff, List.contains_iff_mem]
  constructor
  · intro hm
    obtain ⟨e', he', heq⟩ := List.mem_map.mp hm
    exact heq ▸ hq e' ▸ (List.mem_filter.mp he').2
  · exact fun hm => List.mem_map_of_mem (List.mem_filter.mpr ⟨he, (hq e).trans hm⟩)

/-- R48, R49: with no strand under self-test every shadow of the mask leaves the shadow store. -/
theorem strobe_of_none_tested {s : State} (mask : Word) (h : allStrands.all (fun k => s.sqState k != 6) = true) :
    s.strobe mask =
      ({ s with
          shadows := s.shadows.filter (fun e => !inMask mask.toNat e.1)
          captured := (s.shadows.filter (fun (e : Nat × Word) => inMask mask.toNat e.1 &&
            (match strandAt e.1 with | some k => !s.takesNow k | none => false))).foldl
              (fun (c : Store Word) (e : Nat × Word) => Store.put c e.1 e.2) s.captured }).applyAll
        (s.shadows.filter (fun (e : Nat × Word) => inMask mask.toNat e.1 &&
          (match strandAt e.1 with | some k => s.takesNow k | none => true))) := by
  unfold State.strobe
  rw [testing_eq_nil h]
  refine congrArg₂ State.applyAll (congrArg₂ (fun (x y : Store Word) => { s with shadows := x, captured := y })
    (filter_not_keys s.shadows fun e => ?_) (congrArg (List.foldl _ s.captured) ?_)) ?_
  · cases strandAt e.1 <;> simp
  · refine List.filter_filter.trans (List.filter_congr fun e _ => ?_)
    cases strandAt e.1 <;> simp [State.each, Bool.and_comm]
  · refine List.filter_filter.trans (List.filter_congr fun e _ => ?_)
    cases strandAt e.1 <;> simp [State.each, Bool.and_comm]

/-! ### The scheduled strobe -/

section
variable {s : State} {v : Word}

/-- R51: while the strobe is not armed, a word with ARM arms it unless its tideline time is too near. -/
theorem updCtrl_arm (harmed : s.flag Reg.DEV_UPD_CTRL Fld.DEV_UPD_CTRL_ARM = false) (hv : Fld.DEV_UPD_CTRL_ARM.get v = 1)
    (htime : Fld.DEV_UPD_CTRL_SRC.get v = 0 → s.tideValid = true ∧ s.tideNow + 2400 ≤ s.rd64 Reg.TL_UPD_AT_LO) :
    s.updCtrl v = (s.setFld Reg.DEV_UPD_CTRL Fld.DEV_UPD_CTRL_SRC (Fld.DEV_UPD_CTRL_SRC.get v)).setFld
      Reg.DEV_UPD_CTRL Fld.DEV_UPD_CTRL_ARM 1 := by
  have hnear : ¬ (Fld.DEV_UPD_CTRL_SRC.get v = 0 ∧ (!s.tideValid ∨ s.rd64 Reg.TL_UPD_AT_LO < s.tideNow + 2400)) := by
    rintro ⟨hsrc, hor⟩
    obtain ⟨hvalid, hle⟩ := htime hsrc
    rcases hor with hinvalid | hlt
    · simp [hvalid] at hinvalid
    · omega
  unfold State.updCtrl
  simp only [harmed, hv, tideValid_setFld s _ _ (by decide : Reg.TL_STATE ≠ Reg.DEV_UPD_CTRL),
    rd64_setFld_ne s _ _ (by decide : Reg.TL_UPD_AT_LO ≠ Reg.DEV_UPD_CTRL ∧ Reg.TL_UPD_AT_LO + 4 ≠ Reg.DEV_UPD_CTRL)]
  exact if_neg hnear

/-- R51: a tideline time cannot be waited for while tideline is not valid. -/
theorem updCtrl_late (harmed : s.flag Reg.DEV_UPD_CTRL Fld.DEV_UPD_CTRL_ARM = false) (hv : Fld.DEV_UPD_CTRL_ARM.get v = 1)
    (hsrc : Fld.DEV_UPD_CTRL_SRC.get v = 0) (hvalid : s.tideValid = false) :
    s.updCtrl v = (s.setFld Reg.DEV_UPD_CTRL Fld.DEV_UPD_CTRL_SRC 0).raise Reg.DEV_UPD_STAT Fld.DEV_UPD_STAT_LATE := by
  unfold State.updCtrl
  simp [harmed, hv, hsrc, hvalid, tideValid_setFld s _ _ (by decide : Reg.TL_STATE ≠ Reg.DEV_UPD_CTRL)]

/-- R53: while the strobe is armed, a word without ARM disarms it. -/
theorem updCtrl_disarm (harmed : s.flag Reg.DEV_UPD_CTRL Fld.DEV_UPD_CTRL_ARM = true) (hv : Fld.DEV_UPD_CTRL_ARM.get v = 0) :
    s.updCtrl v = ({ s with bound := none }).setFld Reg.DEV_UPD_CTRL Fld.DEV_UPD_CTRL_ARM 0 := by
  unfold State.updCtrl
  simp [harmed, hv]

end

/-! ### The commands -/

section
variable {s : State} {m : Master}

theorem exec_updArm {slack : Bool} (hm : s.mayWrite m Reg.DEV_UPD_CTRL = true) :
    ∃ v, Fld.DEV_UPD_CTRL_SRC.get v = bitN slack ∧ Fld.DEV_UPD_CTRL_ARM.get v = 1 ∧
      exec (.updArm m slack) s = .next ((s.updCtrl v).send (.accepted m)) := by
  refine ⟨_, ?_, ?_, congrArg Host.Outcome.next (busWord_DEV_UPD_CTRL hm)⟩
  · exact (get_newWord _ (h := ⟨_, _⟩) rfl rfl).trans (by cases slack <;> decide)
  · exact (get_newWord _ (h := ⟨_, _⟩) rfl rfl).trans (by cases slack <;> decide)

theorem exec_updDisarm (hm : s.mayWrite m Reg.DEV_UPD_CTRL = true) :
    ∃ v, Fld.DEV_UPD_CTRL_ARM.get v = 0 ∧ exec (.updDisarm m) s = .next ((s.updCtrl v).send (.accepted m)) :=
  ⟨_, (get_newWord _ (h := ⟨_, _⟩) rfl rfl).trans rfl, congrArg Host.Outcome.next (busWord_DEV_UPD_CTRL hm)⟩

end

/-- Settles O12. -/
theorem updateStrobes : Obligations.UpdateStrobes := by
  refine ⟨fun m mask s hm htest => ?_, fun m slack s hm harmed htime => ?_, fun m s hm hvalid harmed => ?_, fun m s hm harmed => ?_⟩
  · exact congrArg Host.Outcome.next ((busWord_DEV_UPD_STROBE hm).trans
      (congrArg (State.send · (.accepted m)) (strobe_of_none_tested mask htest)))
  · obtain ⟨v, hsrc, harm, hexec⟩ := exec_updArm (slack := slack) hm
    have hready : Fld.DEV_UPD_CTRL_SRC.get v = 0 → s.tideValid = true ∧ s.tideNow + 2400 ≤ s.rd64 Reg.TL_UPD_AT_LO := by
      cases slack with
      | false => exact fun _ => htime.resolve_left (by simp)
      | true => simp [hsrc, bitN]
    rw [hexec, updCtrl_arm harmed harm hready, hsrc]
  · obtain ⟨v, hsrc, harm, hexec⟩ := exec_updArm (slack := false) hm
    rw [hexec, updCtrl_late harmed harm hsrc hvalid]
  · obtain ⟨v, harm, hexec⟩ := exec_updDisarm hm
    rw [hexec, updCtrl_disarm harmed harm]

end Sys2Proof.Machine
end

section
/-! PROOFS. Commands of the control store and of the life store (spec/19_engine_control_store.md R475; spec/21_life_store.md R494, R497). -/

namespace Sys2Proof.Machine

/-! ### The control store -/

section
variable {s : State} {m : Master}

/-- What a write of CS_CMD finds does not depend on CS_CMD. -/
theorem csRefusal_wr_CS_CMD (s : State) (v : Word) (cmd : Nat) : (s.wr Reg.CS_CMD v).csRefusal cmd = s.csRefusal cmd := by
  unfold State.csRefusal
  rw [activeTest_wr s v (by decide), beaconRuns_wr s v (by decide)]
  rfl

theorem imageCode_wr_CS_CMD (s : State) (v : Word) (b : List Byte) (type : Nat) (sign fw : Bool) :
    (s.wr Reg.CS_CMD v).imageCode b type sign fw = s.imageCode b type sign fw := by
  unfold State.imageCode
  rw [rd_wr_other s v (by decide : Reg.DEV_FW_VER ≠ Reg.CS_CMD), rd_wr_other s v (by decide : Reg.CS_UCODE_VER ≠ Reg.CS_CMD)]

theorem slotCode_wr_CS_CMD (s : State) (v : Word) (slot : Nat) (fw : Bool) :
    (s.wr Reg.CS_CMD v).slotCode slot fw = s.slotCode slot fw := by
  unfold State.slotCode
  simp only [imageCode_wr_CS_CMD, State.wr_store]

theorem csRefusal_of_running {cmd : Nat} (h : s.ctl.run.isSome = true) : s.csRefusal cmd = 8 := if_pos h

/-- A write of CS_CMD whose word has the fields `cmd` and `slot`. -/
theorem busWord_CS_CMD_fields {d w : Word} {cmd slot : Nat} (hm : s.mayWrite m Reg.CS_CMD = true) (hw : d &&& 0x10 = w)
    (hcmd : Fld.CS_CMD_CMD.get d = cmd) (hslot : Fld.CS_CMD_SLOT.get d = slot) :
    ∃ v, Fld.CS_CMD_CMD.get v = cmd ∧ Fld.CS_CMD_SLOT.get v = slot ∧
      s.busWord m .normal Reg.CS_CMD d = ((s.wr Reg.CS_CMD w).csCommand v).send (.accepted m) :=
  ⟨s.newWord .normal Reg.CS_CMD d, (get_newWord _ (h := ⟨_, _⟩) rfl rfl).trans hcmd, (get_newWord _ (h := ⟨_, _⟩) rfl rfl).trans hslot, by
    rw [busWord_CS_CMD hm, and_newWord (h := ⟨_, _⟩) rfl (by decide), hw]⟩

/-- R475: a command that meets a reason ends at once with its code. -/
theorem csCommand_refused {v : Word} {cmd r : Nat} (hcmd : Fld.CS_CMD_CMD.get v = cmd) (h0 : cmd ≠ 0) (h4 : cmd ≤ 4)
    (hr : s.csRefusal cmd = r) (hr0 : r ≠ 0) : s.csCommand v = s.csEnds cmd r 0xFF := by
  unfold State.csCommand
  simp only [hcmd, hr]
  rw [if_neg (by omega), if_pos hr0]

/-- The state in which the command `cmd` of CS_CMD runs since now, to end with `code`. -/
def State.csRuns (s : State) (cmd slot code : Nat) : State :=
  ({ s with ctl := { s.ctl with run := some ⟨cmd, slot, s.now, code⟩ } }).raise Reg.CS_STAT Fld.CS_STAT_BUSY

/-- R475: LOAD runs where no reason meets it. -/
theorem csCommand_load {v : Word} {slot : Nat} (hcmd : Fld.CS_CMD_CMD.get v = 1) (hslot : Fld.CS_CMD_SLOT.get v = slot)
    (hr : s.csRefusal 1 = 0) : s.csCommand v = s.csRuns 1 slot (s.slotCode slot true) := by
  unfold State.csCommand
  simp only [hcmd, hslot, hr]
  rfl

/-- R475: APPLY_PATCH. -/
theorem csCommand_applyPatch {v : Word} {slot : Nat} (hcmd : Fld.CS_CMD_CMD.get v = 2) (hslot : Fld.CS_CMD_SLOT.get v = slot)
    (hr : s.csRefusal 2 = 0) : s.csCommand v = s.csRuns 2 slot (s.imageCode s.stagedImage 2 true true) := by
  unfold State.csCommand
  simp only [hcmd, hslot, hr]
  rfl

/-- R475: CLEAR_PATCH. -/
theorem csCommand_clearPatch {v : Word} {slot : Nat} (hcmd : Fld.CS_CMD_CMD.get v = 3) (hslot : Fld.CS_CMD_SLOT.get v = slot)
    (hr : s.csRefusal 3 = 0) : s.csCommand v = s.csRuns 3 slot 1 := by
  unfold State.csCommand
  simp only [hcmd, hslot, hr]
  rfl

/-- R475: PROGRAM of an image that passes its checks asks for its flash operation as well. -/
theorem csCommand_program {v : Word} {slot : Nat} (hcmd : Fld.CS_CMD_CMD.get v = 4) (hslot : Fld.CS_CMD_SLOT.get v = slot)
    (hr : s.csRefusal 4 = 0) (hcode : s.imageCode s.stagedImage 1 false false = 1) :
    s.csCommand v = (s.csRuns 4 slot 1).pushOp (.program slot s.stagedImage) := by
  unfold State.csCommand
  simp only [hcmd, hslot, hr, hcode]
  rfl

end

/-! ### The life store -/

section
variable {s : State} {m : Master}

/-- A write of LS_CMD whose word has the fields `cmd` and `confirm`. -/
theorem busWord_LS_CMD_fields {d w : Word} {cmd confirm : Nat} (hm : s.mayWrite m Reg.LS_CMD = true) (hw : d &&& 0xFFFF0000 = w)
    (hcmd : Fld.LS_CMD_CMD.get d = cmd) (hconfirm : Fld.LS_CMD_CONFIRM.get d = confirm) :
    ∃ v, Fld.LS_CMD_CMD.get v = cmd ∧ Fld.LS_CMD_CONFIRM.get v = confirm ∧
      s.busWord m .normal Reg.LS_CMD d = ((s.wr Reg.LS_CMD w).lsCommand v).send (.accepted m) :=
  ⟨s.newWord .normal Reg.LS_CMD d, (get_newWord _ (h := ⟨_, _⟩) rfl rfl).trans hcmd,
    (get_newWord _ (h := ⟨_, _⟩) rfl rfl).trans hconfirm, by
    rw [busWord_LS_CMD hm, and_newWord (h := ⟨_, _⟩) rfl (by decide), hw]⟩

variable {v : Word}

/-- R497: a flush is asked for where nothing refuses it. -/
theorem lsCommand_flush (hcmd : Fld.LS_CMD_CMD.get v = 1) (hbusy : s.flag Reg.LS_RES Fld.LS_RES_BUSY = false) (hb : s.beaconRuns = true)
    (hday : s.dayStarts.length < 64) : s.lsCommand v = (s.raise Reg.LS_RES Fld.LS_RES_BUSY).askFlush true := by
  unfold State.lsCommand
  simp [hcmd, hbusy, hb, hday]

/-- R494: with its confirmation a commit of SETUP is asked for. -/
theorem lsCommand_commit (hcmd : Fld.LS_CMD_CMD.get v = 2) (hconfirm : Fld.LS_CMD_CONFIRM.get v = 0x15C0)
    (hbusy : s.flag Reg.LS_RES Fld.LS_RES_BUSY = false) (hb : s.beaconRuns = true) :
    s.lsCommand v = (s.raise Reg.LS_RES Fld.LS_RES_BUSY).pushOp .setup := by
  unfold State.lsCommand
  simp [hcmd, hconfirm, hbusy, hb]

/-- R494: without its confirmation a commit is rejected. -/
theorem lsCommand_unconfirmed (hcmd : Fld.LS_CMD_CMD.get v = 2) (hconfirm : Fld.LS_CMD_CONFIRM.get v ≠ 0x15C0) :
    s.lsCommand v = s.raise Reg.LS_STAT Fld.LS_STAT_CMD_REJ := by
  unfold State.lsCommand
  simp [hcmd, hconfirm]

theorem setupWrite_of_le {w : Nat} (al : Alias) (d : Word) (hw : s.fld Reg.LS_SETUP_ADDR Fld.LS_SETUP_ADDR_WORD = w) (h : w ≤ 11) :
    s.setupWrite al d =
      ({ s with store := { s.store with
          shadow := putWord s.store.shadow w (aliasValue al (BitVec.ofNat 32 (leAt s.store.shadow (4 * w) 4)) d) } }).setupAdvance := by
  unfold State.setupWrite
  simp only [hw]
  rw [if_neg (by omega)]

end

/-- Settles O14. -/
theorem storeCommands : Obligations.StoreCommands := by
  refine ⟨fun m slot s hm hr => ?_, fun m s hm hr => ?_, fun m s hm hr => ?_, fun m slot s hm hr hcode => ?_, fun m s hm hrun => ?_,
    fun m s hm hbusy hb hday => ?_, fun m s hm hbusy hb => ?_, fun m s hm => ?_, fun m al d s hm hword => ?_⟩ <;>
    refine congrArg Host.Outcome.next ?_
  · obtain ⟨v, hcmd, hslot, hbus⟩ := busWord_CS_CMD_fields (d := word1 Fld.CS_CMD_SLOT slot ||| word1 Fld.CS_CMD_CMD 1)
      (w := BitVec.ofNat 32 (16 * slot)) (cmd := 1) (slot := slot) hm
      (by revert slot; decide) (by revert slot; decide) (by revert slot; decide)
    refine hbus.trans ?_
    rw [csCommand_load hcmd hslot ((csRefusal_wr_CS_CMD s _ 1).trans hr), slotCode_wr_CS_CMD]
    rfl
  · obtain ⟨v, hcmd, hslot, hbus⟩ := busWord_CS_CMD_fields (d := word1 Fld.CS_CMD_CMD 2) (w := 0) (cmd := 2) (slot := 0) hm rfl rfl rfl
    refine hbus.trans ?_
    rw [csCommand_applyPatch hcmd hslot ((csRefusal_wr_CS_CMD s _ 2).trans hr), imageCode_wr_CS_CMD]
    rfl
  · obtain ⟨v, hcmd, hslot, hbus⟩ := busWord_CS_CMD_fields (d := word1 Fld.CS_CMD_CMD 3) (w := 0) (cmd := 3) (slot := 0) hm rfl rfl rfl
    refine hbus.trans ?_
    rw [csCommand_clearPatch hcmd hslot ((csRefusal_wr_CS_CMD s _ 3).trans hr)]
    rfl
  · obtain ⟨v, hcmd, hslot, hbus⟩ := busWord_CS_CMD_fields (d := word1 Fld.CS_CMD_SLOT slot ||| word1 Fld.CS_CMD_CMD 4)
      (w := BitVec.ofNat 32 (16 * slot)) (cmd := 4) (slot := slot) hm
      (by revert slot; decide) (by revert slot; decide) (by revert slot; decide)
    refine hbus.trans ?_
    rw [csCommand_program hcmd hslot ((csRefusal_wr_CS_CMD s _ 4).trans hr) ((imageCode_wr_CS_CMD s _ _ _ _ _).trans hcode)]
    rfl
  · obtain ⟨v, hcmd, hslot, hbus⟩ := busWord_CS_CMD_fields (d := word1 Fld.CS_CMD_CMD 3) (w := 0) (cmd := 3) (slot := 0) hm rfl rfl rfl
    refine hbus.trans ?_
    rw [csCommand_refused hcmd (by decide) (by decide) ((csRefusal_wr_CS_CMD s 0 3).trans (csRefusal_of_running hrun)) (by decide)]
    rfl
  · obtain ⟨v, hcmd, _, hbus⟩ := busWord_LS_CMD_fields (d := word1 Fld.LS_CMD_CMD 1) (w := 0) (cmd := 1) (confirm := 0) hm
      rfl rfl rfl
    refine hbus.trans ?_
    rw [lsCommand_flush hcmd ((flag_wr_ne s _ _ (by decide)).trans hbusy) ((beaconRuns_wr s _ (by decide)).trans hb) hday]
  · obtain ⟨v, hcmd, hconfirm, hbus⟩ := busWord_LS_CMD_fields (d := word1 Fld.LS_CMD_CONFIRM 0x15C0 ||| word1 Fld.LS_CMD_CMD 2)
      (w := 0x15C00000) (cmd := 2) (confirm := 0x15C0) hm rfl rfl rfl
    refine hbus.trans ?_
    rw [lsCommand_commit hcmd hconfirm ((flag_wr_ne s _ _ (by decide)).trans hbusy) ((beaconRuns_wr s _ (by decide)).trans hb)]
  · obtain ⟨v, hcmd, hconfirm, hbus⟩ := busWord_LS_CMD_fields (d := word1 Fld.LS_CMD_CONFIRM 0 ||| word1 Fld.LS_CMD_CMD 2)
      (w := 0) (cmd := 2) (confirm := 0) hm rfl rfl rfl
    refine hbus.trans ?_
    rw [lsCommand_unconfirmed hcmd (hconfirm ▸ by decide)]
  · exact (busWord_LS_SETUP_DATA hm).trans (congrArg (State.send · (.accepted m)) (setupWrite_of_le al d rfl hword))

end Sys2Proof.Machine
end

section
/-! PROOFS. Commands of the fault collector, of helm and of the thermal monitor (spec/18_faults_and_thermal.md R445 to R465). -/

namespace Sys2Proof.Machine

/-! ### Records -/

section
variable {s : State} {src : Nat} {r : FaultRec}

theorem showAlert_recs (s : State) : s.showAlert.faults.recs = s.faults.recs := by
  unfold State.showAlert
  dsimp only
  split <;> rfl

theorem showAlert_history (s : State) : s.showAlert.faults.history = s.faults.history := by
  unfold State.showAlert
  dsimp only
  split <;> rfl

theorem raiseIf_faults (s : State) (c : Bool) (a : Nat) (f : Field) : (s.raiseIf c a f).faults = s.faults := by
  cases c <;> rfl

/-- R445: a record that closes is no longer open. -/
theorem closeRec_recs (h : Store.get? s.faults.recs src = some r) : (s.closeRec src).faults.recs = Store.del s.faults.recs src := by
  unfold State.closeRec
  simp only [h]
  rw [showAlert_recs, raiseIf_faults]

/-- R448: a record that closes stands at the head of the history. -/
theorem closeRec_history (h : Store.get? s.faults.recs src = some r) :
    (s.closeRec src).faults.history = (r :: s.faults.history).take 64 := by
  unfold State.closeRec
  simp only [h]
  rw [showAlert_history, raiseIf_faults]

variable {m : Master} {d : Word}

theorem fcAck_closes (hsrc : Fld.FC_ACK_SOURCE.get d = src) (h : Store.get? s.faults.recs src = some r) (hcls : r.cls < 2)
    (hm : m = .beacon ∨ s.helmHost = true) : s.fcAck m d = s.closeRec src := by
  unfold State.fcAck
  simp only [hsrc, h]
  rw [if_pos ⟨hcls, hm⟩]

theorem fcAck_rejected (hsrc : Fld.FC_ACK_SOURCE.get d = src) (h : Store.get? s.faults.recs src = none) :
    s.fcAck m d = s.raise Reg.FC_STAT Fld.FC_STAT_ACK_REJ := by
  unfold State.fcAck
  simp only [hsrc, h]

/-- R453: a forced message whose kind its source defines is queued. -/
theorem fcForce_valid (hgo : Fld.FC_FORCE_GO.get d = 1) (hk : kindValid (Fld.FC_FORCE_SOURCE.get d) (Fld.FC_FORCE_KIND.get d) = true) :
    s.fcForce d = { s with
      faultQ := s.faultQ ++ [(⟨Fld.FC_FORCE_SOURCE.get d, Fld.FC_FORCE_KIND.get d, 0, true⟩ : FaultMsg)] } := by
  unfold State.fcForce
  exact (if_neg (by omega)).trans (if_pos hk)

/-- R447: the open record that FC_REC_SEL names is captured. -/
theorem recSel_open (h : Store.get? s.faults.recs (Fld.FC_REC_SEL_INDEX.get d) = some r) :
    s.recSel d = (s.wr Reg.FC_REC_SEL d).capture Reg.FC_REC r.value := by
  unfold State.recSel
  simp only [State.wr_faults, h]

/-- R448: the closed record that FC_LOG_SEL names is captured. -/
theorem logSel_held (h : s.faults.history[Fld.FC_LOG_SEL_INDEX.get d]? = some r) :
    s.logSel d = (s.wr Reg.FC_LOG_SEL d).capture Reg.FC_LOG r.value := by
  unfold State.logSel
  simp only [State.wr_faults, h]

end

/-! ### Helm -/

section
variable {s : State} {m : Master}

/-- Beacon writes registers only while it runs. -/
theorem beaconRuns_of_mayWrite {a : Nat} (hm : s.mayWrite .beacon a = true) : s.beaconRuns = true := by
  simp only [State.mayWrite, State.masterLive, Bool.and_eq_true] at hm
  obtain ⟨⟨⟨hlive, _⟩, _⟩, _⟩ := hm
  exact hlive

theorem wdtKick_beacon (h : s.beaconRuns = true) : s.wdtKick .beacon = { s with faults := { s.faults with kickAt := s.now } } :=
  if_pos ⟨rfl, h⟩

theorem wdtKick_other (h : m ≠ .beacon) : s.wdtKick m = s := if_neg fun hb => h hb.1

/-- Every field of FC_HELM_CMD is writable, so that a command word acts as it is written. -/
theorem busWord_FC_HELM_CMD_fields {d : Word} {ack ret reset confirm : Nat} (hm : s.mayWrite m Reg.FC_HELM_CMD = true)
    (hack : Fld.FC_HELM_CMD_ACK.get d = ack) (hret : Fld.FC_HELM_CMD_RETURN.get d = ret)
    (hreset : Fld.FC_HELM_CMD_RESET.get d = reset) (hconfirm : Fld.FC_HELM_CMD_CONFIRM.get d = confirm) :
    ∃ v, Fld.FC_HELM_CMD_ACK.get v = ack ∧ Fld.FC_HELM_CMD_RETURN.get v = ret ∧ Fld.FC_HELM_CMD_RESET.get v = reset ∧
      Fld.FC_HELM_CMD_CONFIRM.get v = confirm ∧
      s.busWord m .normal Reg.FC_HELM_CMD d = (s.helmCommand v).send (.accepted m) :=
  ⟨s.newWord .normal Reg.FC_HELM_CMD d, (get_newWord _ (h := ⟨_, _⟩) rfl rfl).trans hack,
    (get_newWord _ (h := ⟨_, _⟩) rfl rfl).trans hret, (get_newWord _ (h := ⟨_, _⟩) rfl rfl).trans hreset,
    (get_newWord _ (h := ⟨_, _⟩) rfl rfl).trans hconfirm, busWord_FC_HELM_CMD hm⟩

variable {v : Word}

/-- R457: ACK ends the transfer that is pending. -/
theorem helmCommand_ack (hack : Fld.FC_HELM_CMD_ACK.get v = 1) (hret : Fld.FC_HELM_CMD_RETURN.get v = 0)
    (hreset : Fld.FC_HELM_CMD_RESET.get v = 0) (hp : s.helmPending = true) : s.helmCommand v = s.helmAck := by
  unfold State.helmCommand
  simp [hack, hret, hreset, hp]

/-- R458: RESET with its confirmation boots Beacon, where helm rests with the host and no transfer is pending. -/
theorem helmCommand_reset (hack : Fld.FC_HELM_CMD_ACK.get v = 0) (hret : Fld.FC_HELM_CMD_RETURN.get v = 0)
    (hreset : Fld.FC_HELM_CMD_RESET.get v = 1) (hconfirm : Fld.FC_HELM_CMD_CONFIRM.get v = 0x4E1A) (hh : s.helmHost = true)
    (hp : s.helmPending = false) :
    s.helmCommand v = ({ s with faults := { s.faults with booting := some s.now } }).setFld Reg.FC_HELM_STATE
      Fld.FC_HELM_STATE_BEACON_RUN 0 := by
  unfold State.helmCommand
  simp [hack, hret, hreset, hconfirm, hp, hh]

/-- R458: RESET without its confirmation does nothing. -/
theorem helmCommand_unconfirmed (hreset : Fld.FC_HELM_CMD_RESET.get v = 1) (hconfirm : Fld.FC_HELM_CMD_CONFIRM.get v ≠ 0x4E1A) :
    s.helmCommand v = s := if_pos ⟨hreset, hconfirm⟩

/-- R459: RETURN gives helm back to Beacon that runs. -/
theorem helmCommand_return (hack : Fld.FC_HELM_CMD_ACK.get v = 0) (hret : Fld.FC_HELM_CMD_RETURN.get v = 1)
    (hreset : Fld.FC_HELM_CMD_RESET.get v = 0) (hh : s.helmHost = true) (hb : s.beaconRuns = true) :
    s.helmCommand v = s.helmTransfer 3 false := by
  unfold State.helmCommand
  simp [hack, hret, hreset, hb, hh]

/-- The fields of a word with the confirmation `c` and RESET. -/
theorem helmResetWord_fields (c : BitVec 16) :
    Fld.FC_HELM_CMD_RESET.get (word1 Fld.FC_HELM_CMD_CONFIRM c.toNat ||| word1 Fld.FC_HELM_CMD_RESET 1) = 1 ∧
      Fld.FC_HELM_CMD_CONFIRM.get (word1 Fld.FC_HELM_CMD_CONFIRM c.toNat ||| word1 Fld.FC_HELM_CMD_RESET 1) = c.toNat := by
  constructor <;> rw [Field.get_or]
  · rw [Field.get_word1_other _ _ _ (by decide), Field.get_word1_same _ _ (by decide)]
    rfl
  · rw [Field.get_word1_same _ _ (by decide), Field.get_word1_other _ _ _ (by decide), Nat.or_zero]
    exact Nat.mod_eq_of_lt c.isLt

end

/-! ### Sensors excluded -/

section
variable {s : State} {v : Word} {n : Nat}

/-- R465: sensors of an awake cove are not excluded. -/
theorem thExclude_rejected (hn : n < 16) (hawake : s.coveAwake n = true) (hv : bitOf (Fld.TH_EXCLUDE_SENSORS.get v) n = true)
    (hold : bitOf (s.fld Reg.TH_EXCLUDE Fld.TH_EXCLUDE_SENSORS) n = false) :
    s.thExclude v = s.raise Reg.TH_STAT Fld.TH_STAT_EXCL_REJ := by
  refine if_pos (List.any_eq_true.mpr ⟨n, List.mem_filter.mpr ⟨List.mem_range.mpr (by omega), ?_⟩, ?_⟩)
  · simp [hv, hold]
  · simp [hn, hawake]

/-- R465: a write that newly names one sensor, which belongs to no cove, excludes it. -/
theorem thExclude_one (hn : 16 ≤ n) (hnew : (List.range 24).filter (fun i => bitOf (Fld.TH_EXCLUDE_SENSORS.get v) i &&
      !bitOf (s.fld Reg.TH_EXCLUDE Fld.TH_EXCLUDE_SENSORS) i) = [n]) (hold : s.fld Reg.TH_EXCLUDE Fld.TH_EXCLUDE_SENSORS = 0) :
    s.thExclude v = ((s.setFld Reg.TH_EXCLUDE Fld.TH_EXCLUDE_SENSORS (2 ^ n)).raise (Reg.TH_SENS + 4 * n)
      Fld.TH_SENS_EXCLUDED).thermalUpdate := by
  unfold State.thExclude
  simp only [hnew]
  rw [if_neg (by simp [hn])]
  have hcoves : [n].filter (fun n => decide (n < 16)) = [] := by simp [hn]
  rw [hcoves]
  simp only [List.foldl_cons, List.foldl_nil, hold, Nat.zero_add]
  rfl

/-- A bit that is writable, of the new value of a write through set space. -/
theorem getLsbD_newValue_set {row : RegRow} {old d : Word} {i : Nat} (hi : i < 32) (hw : row.w.testBit i = true) :
    (newValue row .set old d).getLsbD i = (old.getLsbD i || d.getLsbD i) := by
  simp only [newValue, aliasValue, BitVec.getLsbD_or, BitVec.getLsbD_and, BitVec.getLsbD_not, BitVec.getLsbD_ofNat, hi, hw]
  simp

/-- Setting bit `n` of a TH_EXCLUDE that excludes nothing newly names sensor `n` alone. -/
theorem thExclude_set_new (hn : n < 24) (hold : s.fld Reg.TH_EXCLUDE Fld.TH_EXCLUDE_SENSORS = 0) :
    (List.range 24).filter (fun i => bitOf (Fld.TH_EXCLUDE_SENSORS.get (s.newWord .set Reg.TH_EXCLUDE (BitVec.ofNat 32 (2 ^ n)))) i &&
      !bitOf (s.fld Reg.TH_EXCLUDE Fld.TH_EXCLUDE_SENSORS) i) = [n] := by
  have hnew : s.newWord .set Reg.TH_EXCLUDE (BitVec.ofNat 32 (2 ^ n)) =
      newValue { off := Reg.TH_EXCLUDE, w := 0xFFFFFF, priv := true } .set (s.rd Reg.TH_EXCLUDE) (BitVec.ofNat 32 (2 ^ n)) := by
    rw [newWord_at (h := ⟨_, _⟩) rfl, regValue_dev rfl rfl]
  have hbit (i : Nat) (hi : i < 24) : (s.rd Reg.TH_EXCLUDE).getLsbD i = false := by
    have h := congrArg (Nat.testBit · i) hold
    simp only [State.fld, Field.testBit_get, Nat.zero_testBit] at h
    simpa [hi] using h
  have hmask (i : Nat) (hi : i < 24) : (2 ^ 24 - 1 : Nat).testBit i = true := by
    rw [Nat.testBit_two_pow_sub_one]
    exact decide_eq_true hi
  have hsame (i : Nat) (hi : i ∈ List.range 24) :
      (bitOf (Fld.TH_EXCLUDE_SENSORS.get (s.newWord .set Reg.TH_EXCLUDE (BitVec.ofNat 32 (2 ^ n)))) i &&
        !bitOf (s.fld Reg.TH_EXCLUDE Fld.TH_EXCLUDE_SENSORS) i) = (i == n) := by
    have hi' := List.mem_range.mp hi
    have h32 : i < 32 := by omega
    unfold bitOf
    rw [hold, Nat.zero_testBit, hnew, Field.testBit_get, Nat.zero_add, getLsbD_newValue_set h32 (hmask i hi'), hbit i hi',
      BitVec.getLsbD_ofNat, Nat.testBit_two_pow, Bool.eq_iff_iff]
    simp only [hi', h32, decide_true, Bool.true_and, Bool.false_or, Bool.not_false, Bool.and_true, decide_eq_true_eq, beq_iff_eq]
    exact eq_comm
  rw [List.filter_congr hsame, List.filter_beq, List.count_eq_one_of_mem List.nodup_range (List.mem_range.mpr hn)]
  rfl

end

/-- Settles O15. -/
theorem faultCommands : Obligations.FaultCommands := by
  refine ⟨fun m src r s hm h hcls hwho => ?_, fun m src s hm h => ?_, fun m d s hm hgo hk => ?_, fun m al d r s hm h => ?_,
    fun m al d r s hm h => ?_, fun d s hm => ?_, fun m d s hm hne => ?_, fun m s hm hp => ?_, fun m s hm hh hp => ?_,
    fun m c s hm hc => ?_, fun m s hm hh hb => ?_, fun m al d n s hm hn hawake hv hold => ?_, fun m n s hm hn hn' hold => ?_⟩
  · have hsrc : Fld.FC_ACK_SOURCE.get (word1 Fld.FC_ACK_SOURCE src) = src :=
      (Field.get_word1_same _ _ (by decide)).trans (Nat.mod_eq_of_lt src.isLt)
    refine ⟨(s.closeRec src).send (.accepted m), ?_, rfl, closeRec_recs h, closeRec_history h⟩
    exact congrArg Host.Outcome.next ((busWord_FC_ACK hm).trans (congrArg (State.send · _) (fcAck_closes hsrc h hcls hwho)))
  · have hsrc : Fld.FC_ACK_SOURCE.get (word1 Fld.FC_ACK_SOURCE src) = src :=
      (Field.get_word1_same _ _ (by decide)).trans (Nat.mod_eq_of_lt src.isLt)
    exact congrArg Host.Outcome.next ((busWord_FC_ACK hm).trans (congrArg (State.send · _) (fcAck_rejected hsrc h)))
  · have hget (f : Field) (hf : (List.range f.width).all (fun i => (0x8FFF00FF : Nat).testBit (f.lo + i)) = true) :
        f.get (s.newWord .normal Reg.FC_FORCE d) = f.get d := get_newWord f (h := ⟨_, _⟩) rfl hf
    refine congrArg Host.Outcome.next ((busWord_FC_FORCE hm).trans (congrArg (State.send · _) ?_))
    have hsource := hget Fld.FC_FORCE_SOURCE rfl
    have hkind := hget Fld.FC_FORCE_KIND rfl
    rw [fcForce_valid ((hget Fld.FC_FORCE_GO rfl).trans hgo) (by rw [hsource, hkind]; exact hk), hsource, hkind]
    rfl
  · exact congrArg Host.Outcome.next ((busWord_FC_REC_SEL hm).trans (congrArg (State.send · _) (recSel_open h)))
  · exact congrArg Host.Outcome.next ((busWord_FC_LOG_SEL hm).trans (congrArg (State.send · _) (logSel_held h)))
  · exact congrArg Host.Outcome.next ((busWord_FC_WDT_KICK hm).trans
      (congrArg (State.send · _) (wdtKick_beacon (beaconRuns_of_mayWrite hm))))
  · exact congrArg Host.Outcome.next ((busWord_FC_WDT_KICK hm).trans (congrArg (State.send · _) (wdtKick_other hne)))
  · obtain ⟨v, hack, hret, hreset, _, hbus⟩ := busWord_FC_HELM_CMD_fields (d := word1 Fld.FC_HELM_CMD_ACK 1) (ack := 1) (ret := 0)
      (reset := 0) (confirm := 0) hm rfl rfl rfl rfl
    exact congrArg Host.Outcome.next (hbus.trans (congrArg (State.send · _) (helmCommand_ack hack hret hreset hp)))
  · obtain ⟨v, hack, hret, hreset, hconfirm, hbus⟩ := busWord_FC_HELM_CMD_fields (ack := 0) (ret := 0) (reset := 1) (confirm := 0x4E1A)
      (d := word1 Fld.FC_HELM_CMD_CONFIRM 0x4E1A ||| word1 Fld.FC_HELM_CMD_RESET 1) hm rfl rfl rfl rfl
    exact congrArg Host.Outcome.next (hbus.trans (congrArg (State.send · _) (helmCommand_reset hack hret hreset hconfirm hh hp)))
  · obtain ⟨hreset, hconfirm⟩ := helmResetWord_fields c
    obtain ⟨v, _, _, hreset, hconfirm, hbus⟩ := busWord_FC_HELM_CMD_fields hm rfl rfl hreset hconfirm
    exact congrArg Host.Outcome.next (hbus.trans (congrArg (State.send · _)
      (helmCommand_unconfirmed hreset fun h => hc (BitVec.eq_of_toNat_eq (hconfirm.symm.trans h)))))
  · obtain ⟨v, hack, hret, hreset, _, hbus⟩ := busWord_FC_HELM_CMD_fields (d := word1 Fld.FC_HELM_CMD_RETURN 1) (ack := 0) (ret := 1)
      (reset := 0) (confirm := 0) hm rfl rfl rfl rfl
    exact congrArg Host.Outcome.next (hbus.trans (congrArg (State.send · _) (helmCommand_return hack hret hreset hh hb)))
  · exact congrArg Host.Outcome.next ((busWord_TH_EXCLUDE hm).trans (congrArg (State.send · _) (thExclude_rejected hn hawake hv hold)))
  · exact congrArg Host.Outcome.next ((busWord_TH_EXCLUDE hm).trans
      (congrArg (State.send · _) (thExclude_one hn (thExclude_set_new hn' hold) hold)))

end Sys2Proof.Machine
end

section
/-! PROOFS. Pin registers with effects of their own (spec/03_pin_slice.md R73, R88, R98; spec/11_source_measure.md R290, R297;
spec/12_time_and_acquisition.md R319). -/

namespace Sys2Proof.Machine

section
variable {s : State} {n : Nat} {v : Word}

/-! ### The contact event -/

/-- R88: a word with ARM arms the event with the state of the comparator now. -/
theorem evtWrite_arm {ring wake tg : Nat} (hring : Fld.PS_EVT_RING_EN.get v = ring) (hwake : Fld.PS_EVT_WAKE_EN.get v = wake)
    (htg : Fld.PS_EVT_TARGET.get v = tg) (harm : Fld.PS_EVT_ARM.get v = 1) :
    s.evtWrite n v =
      (((((s.setFld (pinA n Reg.PS_EVT) Fld.PS_EVT_RING_EN ring).setFld (pinA n Reg.PS_EVT) Fld.PS_EVT_WAKE_EN wake).setFld
        (pinA n Reg.PS_EVT) Fld.PS_EVT_TARGET tg).setFld (pinA n Reg.PS_EVT) Fld.PS_EVT_ARM 1).setFld
        (pinA n Reg.PS_EVT) Fld.PS_EVT_AT_ARM (s.cmpState n)).setFld (pinA n Reg.PS_EVT) Fld.PS_EVT_FIRED 0 := by
  unfold State.evtWrite
  simp only [hring, hwake, htg]
  exact if_pos harm

/-- R88: a word without ARM disarms it. -/
theorem evtWrite_disarm {ring wake tg : Nat} (hring : Fld.PS_EVT_RING_EN.get v = ring) (hwake : Fld.PS_EVT_WAKE_EN.get v = wake)
    (htg : Fld.PS_EVT_TARGET.get v = tg) (harm : Fld.PS_EVT_ARM.get v = 0) :
    s.evtWrite n v =
      (((s.setFld (pinA n Reg.PS_EVT) Fld.PS_EVT_RING_EN ring).setFld (pinA n Reg.PS_EVT) Fld.PS_EVT_WAKE_EN wake).setFld
        (pinA n Reg.PS_EVT) Fld.PS_EVT_TARGET tg).setFld (pinA n Reg.PS_EVT) Fld.PS_EVT_ARM 0 := by
  unfold State.evtWrite
  simp only [hring, hwake, htg]
  exact if_neg (by omega)

/-! ### The breakwater -/

/-- R98: a word with REARM sets the action and re-arms. -/
theorem bwCtrlWrite_rearm {act : Nat} (present : Bool) (hact : Fld.PS_BW_CTRL_ACTION.get v = act)
    (hrearm : Fld.PS_BW_CTRL_REARM.get v = 1) :
    s.bwCtrlWrite n v present = (s.setFld (pinA n Reg.PS_BW_CTRL) Fld.PS_BW_CTRL_ACTION act).rearm n present := by
  unfold State.bwCtrlWrite
  simp only [hact]
  exact if_pos hrearm

/-! ### The force code -/

/-- R297: with no shadow of PM_FORCE waiting, the force code goes into force and nothing else. -/
theorem forceDirect_of_no_shadow (h : Store.get? s.shadows (pinA n Reg.PM_FORCE) = none) :
    s.forceDirect n v =
      (s.wr (pinA n Reg.PM_FORCE) (BitVec.ofNat 32 (v.toNat % 65536))).appliedForce n (s.rd (pinA n Reg.PM_FORCE)) := by
  unfold State.forceDirect
  simp only [State.wr_shadows, h]
  rfl

/-! ### The capture TDC -/

/-- R319: a measurement whose configuration is good starts. -/
theorem tdStart_good {cfg : Word} (hidle : s.tdState n = 0) (hcfg : cfg = s.rd (pinA n Reg.TD_CFG))
    (hn : s.fld (pinA n Reg.TD_N) Fld.TD_N_N ≠ 0) (hmode : Fld.TD_CFG_MODE.get cfg ≠ 3) (harm : Fld.TD_CFG_ARM.get cfg ≠ 3)
    (hboth : ¬ (Fld.TD_CFG_MODE.get cfg = 0 ∧ Fld.TD_CFG_ARM.get cfg = 0)) (hstart : Fld.TD_CFG_START_EDGE.get cfg ≠ 3)
    (hstop : Fld.TD_CFG_STOP_EDGE.get cfg ≠ 3) (heff : s.fld (pinA n Reg.PS_CMP_STATE) Fld.PS_CMP_STATE_MODE_EFF = 0) :
    s.tdStart n = (((s.setTdc n
      { cfg := cfg, n := min 16777216 (s.fld (pinA n Reg.TD_N) Fld.TD_N_N), startAt := s.now, scale := (s.tdc n).scale,
        lastStamp := (s.tdc n).lastStamp }).wr (pinA n Reg.TD_COUNT) 0).wr (pinA n Reg.TD_MISS) 0).setFld
      (pinA n Reg.TD_STAT) Fld.TD_STAT_STATE 1 := by
  subst hcfg
  unfold State.tdStart
  dsimp only
  rw [if_neg (by simp [hidle]), if_neg (by omega), if_neg (by simpa [hmode, harm, hstart, hstop] using hboth), if_neg (by simp [heff])]

theorem tdStart_running (h : s.tdState n ≠ 0) : s.tdStart n = s.raise (pinA n Reg.TD_STAT) Fld.TD_STAT_CMD_REJ :=
  if_pos (by simpa using h)

theorem tdStop_running (h : s.tdState n ≠ 0) : s.tdStop n = s.tdComplete n 6 := if_pos (by simpa using h)

end

/-- Settles O16. -/
theorem pinRegisterCommands : Obligations.PinRegisterCommands := by
  refine ⟨fun m al n d s hm => ?_, fun m al n cur d s hm => ?_, fun m n tg ring wake s hm => ?_, fun m n tg ring wake s hm => ?_,
    fun m n act present s hm => ?_, fun m al n d v s hm hv h => ?_,
    fun m n cfg s hm hidle hcfg hn hmode harm hboth hstart hstop heff => ?_, fun m n s hm h => ⟨?_, ?_⟩⟩ <;>
    refine congrArg Host.Outcome.next ?_
  · exact busWord_PS_LIM hm
  · cases cur
    · exact busWord_PM_LIM_V hm
    · exact busWord_PM_LIM_I hm
  · refine (busWord_PS_EVT hm).trans (congrArg (State.send · _) (evtWrite_arm ?_ ?_ ?_ ?_)) <;> (revert tg ring wake; decide)
  · refine (busWord_PS_EVT hm).trans (congrArg (State.send · _) (evtWrite_disarm ?_ ?_ ?_ ?_)) <;> (revert tg ring wake; decide)
  · exact (busWrite_PS_BW_CTRL hm).trans (congrArg (State.send · _)
      (bwCtrlWrite_rearm present (by revert act; decide) (by revert act; decide)))
  · subst hv
    have hshadow (v : Word) : Store.get? (s.wr (pinA n Reg.PM_FORCE_DIRECT) v).shadows (pinA n Reg.PM_FORCE) = none := h
    refine (busWord_PM_FORCE_DIRECT hm).trans ?_
    rw [forceDirect_of_no_shadow (hshadow _), rd_wr_other s _ (by unfold pinA Reg.PM_FORCE Reg.PM_FORCE_DIRECT; omega)]
  · exact (busWord_TD_CTRL hm).trans (congrArg (State.send · _)
      (tdStart_good hidle hcfg hn hmode harm hboth hstart hstop heff))
  · exact (busWord_TD_CTRL hm).trans (congrArg (State.send · _) (tdStart_running h))
  · exact (busWord_TD_CTRL hm).trans (congrArg (State.send · _) (tdStop_running h))

end Sys2Proof.Machine
end

section
/-! PROOFS. Tables and fail registers of a strand (spec/04 R123, R124; spec/05 R159; spec/06 R177; spec/11 R312; spec/08 R230). -/

namespace Sys2Proof.Machine

section
variable {s : State} {k : Nat} {al : Alias} {d : Word}

/-- R124: only a write to the bank in force of a strand whose tables are not open is refused. -/
theorem edWrite_eq (e : Nat) :
    s.edWrite k e al d =
      (if s.tablesOpen k = false ∧ s.fld (strandA k Reg.ED_ADDR) Fld.ED_ADDR_BANK = s.fld (strandA k Reg.ED_CTRL) Fld.ED_CTRL_BANK then
          s.raise (strandA k Reg.WV_STAT) Fld.WV_STAT_BUSY_REJ
        else s.modStrand k (fun st => { st with tables := { st.tables with
          edge := Store.putD st.tables.edge (s.edKey k e) ((aliasValue al (s.edData k e) d).toNat % 1048576) 0 } })).edAdvance k e := by
  unfold State.edWrite
  refine congrArg (State.edAdvance · k e) (if_congr ?_ rfl rfl)
  simp [and_comm]

/-- R177: a write of a table entry that the table has. -/
theorem agTabWrite_eq {tab i size width : Nat} (htab : tab = s.fld (strandA k Reg.AG_TAB_ADDR) Fld.AG_TAB_ADDR_TABLE)
    (hi : i = s.fld (strandA k Reg.AG_TAB_ADDR) Fld.AG_TAB_ADDR_INDEX) (hsize : agTable tab = some (size, width)) :
    s.agTabWrite k al d =
      (if s.tablesOpen k = true ∧ i < size then
          s.modStrand k (fun st => { st with tables := st.tables.agPut tab i ((aliasValue al (s.agTabData k) d).toNat % 2 ^ width) })
        else s.raise (strandA k Reg.AG_STAT) Fld.AG_STAT_TAB_REJ).agAdvance k := by
  subst htab hi
  unfold State.agTabWrite
  refine congrArg (State.agAdvance · k) ?_
  simp only [hsize]
  by_cases hopen : s.tablesOpen k = true <;> simp [hopen]

/-- R230: the command LEDGER_CLR. -/
theorem flCommand_ledgerClr (hd : bitOf d.toNat 0 = true) :
    s.flCommand k d = if s.flOpen k then s.clearFails k else s.raise (strandA k Reg.FL_STAT) Fld.FL_STAT_CMD_REJ := if_pos hd

end

/-- Settles O17. -/
theorem strandTables : Obligations.StrandTables := by
  refine ⟨fun m al k d s hm => ?_, fun m al k e d s hm => ?_, fun m al k d s hm => ?_,
    fun m al k d tab i size width s hm htab hi hsize => ?_, fun m al k d s hm => ?_, fun m al k d s hm => ?_, fun m k s hm => ?_⟩ <;>
    refine congrArg Host.Outcome.next ?_
  · exact busWord_WV_DATA hm
  · exact (busWord_ED hm).trans (congrArg (State.send · _) (edWrite_eq _))
  · exact busWord_SQ_BT_DATA hm
  · exact (busWord_AG_TAB_DATA hm).trans (congrArg (State.send · _) (agTabWrite_eq htab hi hsize))
  · exact busWord_SG_TAB_DATA hm
  · exact busWord_FL_DIE hm
  · exact (busWord_FL_CMD hm).trans (congrArg (State.send · _) (flCommand_ledgerClr rfl))

end Sys2Proof.Machine
end

section
/-! PROOFS. Commands of a strand's sequencer and of its acquisition engine (spec/05_sequencer.md R152 to R158;
spec/12_time_and_acquisition.md R320 to R330). -/

namespace Sys2Proof.Machine

/-! ### Registers of a strand, words of 64 bits and flags -/

theorem strandA_ne (k : Nat) {o o' : Nat} (h : o ≠ o') : strandA k o ≠ strandA k o' := by
  unfold strandA
  omega

theorem rd64_wr_ne (s : State) {a b : Nat} (v : Word) (h : b ≠ a ∧ b + 4 ≠ a) : (s.wr a v).rd64 b = s.rd64 b := by
  unfold State.rd64
  rw [rd_wr_other s v h.1, rd_wr_other s v h.2]

theorem rd64_send (s : State) (o : Output) (a : Nat) : (s.send o).rd64 a = s.rd64 a := rfl

theorem rd64_wr64_zero (s : State) (a : Nat) : (s.wr64 a 0).rd64 a = 0 := by
  unfold State.rd64 State.wr64
  rw [rd_wr_other _ _ (by omega), rd_wr_same, rd_wr_same]
  rfl

theorem rd_wr64_ne (s : State) {a b : Nat} (v : Nat) (h : b ≠ a ∧ b ≠ a + 4) : (s.wr64 a v).rd b = s.rd b :=
  (rd_wr_other _ _ h.2).trans (rd_wr_other _ _ h.1)

theorem rd64_wr64_ne (s : State) {a b : Nat} (v : Nat) (h : b + 4 < a ∨ a + 4 < b) : (s.wr64 a v).rd64 b = s.rd64 b := by
  unfold State.rd64
  rw [rd_wr64_ne s v (by omega), rd_wr64_ne s v (by omega)]

theorem rd_raiseIf_ne (s : State) {a b : Nat} (c : Bool) (f : Field) (h : b ≠ a) : (s.raiseIf c a f).rd b = s.rd b := by
  cases c
  · rfl
  · exact rd_raise_ne s f h

theorem fld_raiseIf_field (s : State) (a : Nat) (c : Bool) {f g : Field} (h : f.lo + f.width ≤ g.lo ∨ g.lo + g.width ≤ f.lo) :
    (s.raiseIf c a g).fld a f = s.fld a f := by
  cases c
  · rfl
  · exact fld_setFld_field s a 1 h

/-! ### The sequencer -/

section
variable {s : State} {k : Nat}

/-- R152: a strand that runs or waits at a step stops at its next step start, or takes the stop once that start has been taken. -/
theorem raiseStop_hostHalt_running (h : s.sqState k = 1 ∨ s.sqState k = 2) :
    s.raiseStop k .hostHalt = if s.now ≤ (s.strand (s.flowOf k)).nextAt then s.stopHere k .hostHalt (s.strand (s.flowOf k)).nextAt
      else s.modStrand k (fun t => { t with stops := t.stops ++ [(.hostHalt, s.now)] }) := by
  unfold State.raiseStop
  rcases h with h | h <;> rw [h] <;> rfl

theorem raiseStop_hostHalt_held (h : s.sqState k = 3) :
    s.raiseStop k .hostHalt = s.stopHere k .hostHalt (max s.now (s.strand k).nextAt) := by
  unfold State.raiseStop
  simp only [h]

theorem sqCommand_halt (h : s.sqState k = 1 ∨ s.sqState k = 2 ∨ s.sqState k = 3 ∨ s.sqState k = 4) :
    s.sqCommand k 1 = s.raiseStop k .hostHalt := if_pos h

theorem sqCommand_halt_idle (h : s.sqState k = 0) : s.sqCommand k 1 = s.sqReject k := if_neg (by omega)

/-- R154: a parked strand resumes within a microsecond. -/
theorem sqCommand_resume (h : s.sqState k = 4) (hr : s.role k ≠ 2) :
    s.sqCommand k 2 = ({ s with fresh := s.fresh + 1 }).resumeAt k ((s.now / 512 + 1 + Config.freeNat s.fresh % 1199) * 512) :=
  if_pos (by simp [h, hr])

theorem sqCommand_resume_idle (h : s.sqState k = 0) : s.sqCommand k 2 = s.sqReject k := if_neg (by simp [h])

/-- R158: the step ledger of a strand that is idle or halted clears. -/
theorem sqCommand_ledgerClr (h : s.sqState k = 0 ∨ s.sqState k = 5) : s.sqCommand k 3 = s.clearSteps k := if_pos h

theorem clearSteps_slips (s : State) (k : Nat) : (s.clearSteps k).sq k Reg.SQ_SLIPS = 0 := rd_wr_same _ _ _

theorem clearSteps_ledgers (s : State) (k : Nat) :
    ∀ o ∈ [Reg.SQ_ISSUED_LO, Reg.SQ_EXEC_LO, Reg.SQ_HELD_LO, Reg.SQ_HOLD_TIME_LO, Reg.SQ_PARK_TIME_LO],
      (s.clearSteps k).rd64 (strandA k o) = 0 := by
  have hslips {t : State} {o : Nat} (ho : 0x24 ≤ o) : (t.wr (strandA k Reg.SQ_SLIPS) 0).rd64 (strandA k o) = t.rd64 (strandA k o) :=
    rd64_wr_ne t 0 (by unfold strandA Reg.SQ_SLIPS; omega)
  have hother {t : State} {o o' : Nat} (ho : o + 4 < o') : (t.wr64 (strandA k o') 0).rd64 (strandA k o) = t.rd64 (strandA k o) :=
    rd64_wr64_ne t 0 (.inl (by unfold strandA; omega))
  simp only [List.forall_mem_cons, State.clearSteps, State.each, List.foldl_cons, List.foldl_nil]
  refine ⟨?_, ?_, ?_, ?_, ?_, fun _ h => absurd h List.not_mem_nil⟩ <;> rw [hslips (by decide)]
  · rw [hother (by decide), hother (by decide), hother (by decide), hother (by decide), rd64_wr64_zero]
  · rw [hother (by decide), hother (by decide), hother (by decide), rd64_wr64_zero]
  · rw [hother (by decide), hother (by decide), rd64_wr64_zero]
  · rw [hother (by decide), rd64_wr64_zero]
  · rw [rd64_wr64_zero]

/-! ### The acquisition engine -/

/-- R320, R321: an idle engine with a good configuration goes to PRE with its counts cleared. -/
theorem aqStart_good (hidle : s.aqState k = 0)
    (hsrc : Fld.AQ_CFG_SRC.get (s.sq k Reg.AQ_CFG) = 1 ∨ Fld.AQ_CFG_SRC.get (s.sq k Reg.AQ_CFG) = 2)
    (htsrc : Fld.AQ_CFG_TSRC.get (s.sq k Reg.AQ_CFG) = 0 ∨ Fld.AQ_CFG_TSRC.get (s.sq k Reg.AQ_CFG) = 2) :
    ∃ (u : State) (clip foreign : Bool), s.aqStart k =
      (((((((u.wr (strandA k Reg.AQ_MISSED) 0).wr (strandA k Reg.AQ_RECNUM) 0).wr (strandA k Reg.AQ_OVF) 0).setFld
        (strandA k Reg.AQ_DEAD) Fld.AQ_DEAD_MAX 0).setAqState k 1).raiseIf clip (strandA k Reg.AQ_STAT) Fld.AQ_STAT_CFG_CLIP)).raiseIf
        foreign (strandA k Reg.AQ_STAT) Fld.AQ_STAT_PT_FOREIGN := by
  have hgood : ¬ ((s.aqState k != 0 || decide (Fld.AQ_CFG_SRC.get (s.sq k Reg.AQ_CFG) = 3) ||
      decide (Fld.AQ_CFG_TSRC.get (s.sq k Reg.AQ_CFG) = 3)) = true) := by
    simp only [hidle, Bool.or_eq_true, bne_iff_ne, decide_eq_true_eq]
    omega
  have hsrc0 : Fld.AQ_CFG_SRC.get (s.sq k Reg.AQ_CFG) ≠ 0 := by omega
  unfold State.aqStart
  dsimp only
  rw [if_neg (by simpa [hsrc0] using hgood)]
  exact ⟨_, _, _, rfl⟩

/-- What an engine that has started reads as. -/
theorem aqStart_good_reads (hidle : s.aqState k = 0)
    (hsrc : Fld.AQ_CFG_SRC.get (s.sq k Reg.AQ_CFG) = 1 ∨ Fld.AQ_CFG_SRC.get (s.sq k Reg.AQ_CFG) = 2)
    (htsrc : Fld.AQ_CFG_TSRC.get (s.sq k Reg.AQ_CFG) = 0 ∨ Fld.AQ_CFG_TSRC.get (s.sq k Reg.AQ_CFG) = 2) :
    (s.aqStart k).aqState k = 1 ∧ (s.aqStart k).sq k Reg.AQ_MISSED = 0 ∧ (s.aqStart k).sq k Reg.AQ_RECNUM = 0 ∧
      (s.aqStart k).sq k Reg.AQ_OVF = 0 := by
  obtain ⟨u, clip, foreign, heq⟩ := aqStart_good hidle hsrc htsrc
  have hstat {t : State} {o : Nat} (ho : o ≠ Reg.AQ_STAT) :
      (((t.setAqState k 1).raiseIf clip (strandA k Reg.AQ_STAT) Fld.AQ_STAT_CFG_CLIP).raiseIf foreign (strandA k Reg.AQ_STAT)
        Fld.AQ_STAT_PT_FOREIGN).sq k o = t.sq k o :=
    (rd_raiseIf_ne _ _ _ (strandA_ne k ho)).trans ((rd_raiseIf_ne _ _ _ (strandA_ne k ho)).trans (rd_setFld_ne _ _ _ (strandA_ne k ho)))
  have hdead {t : State} {o : Nat} (ho : o ≠ Reg.AQ_DEAD) :
      (t.setFld (strandA k Reg.AQ_DEAD) Fld.AQ_DEAD_MAX 0).sq k o = t.sq k o := rd_setFld_ne _ _ _ (strandA_ne k ho)
  have hwr {t : State} {o o' : Nat} (ho : o ≠ o') : (t.wr (strandA k o') 0).sq k o = t.sq k o := rd_wr_other _ _ (strandA_ne k ho)
  have hsame {t : State} {o : Nat} : (t.wr (strandA k o) 0).sq k o = 0 := rd_wr_same _ _ _
  rw [heq]
  refine ⟨?_, ?_, ?_, ?_⟩
  · exact (fld_raiseIf_field _ _ _ (by decide)).trans ((fld_raiseIf_field _ _ _ (by decide)).trans (fld_setFld_eq _ _ _ _ (by decide)))
  · rw [hstat (by decide), hdead (by decide), hwr (by decide), hwr (by decide), hsame]
  · rw [hstat (by decide), hdead (by decide), hwr (by decide), hsame]
  · rw [hstat (by decide), hdead (by decide), hsame]

theorem aqStart_busy (h : s.aqState k ≠ 0) : s.aqStart k = s.raise (strandA k Reg.AQ_STAT) Fld.AQ_STAT_CFG_REJ := if_pos (by simp [h])

/-- R330: a stop in POST writes the record that is open, one in another state none. -/
theorem aqStop_eq (s : State) (k : Nat) :
    s.aqStop k = if s.aqState k = 0 then s else
      ((s.aqWriteRecord k false (s.aqState k == 2)).setAqState k 0).modAcq k (fun a => { a with rows := [] }) := by
  unfold State.aqStop
  split
  case h_1 h => exact (if_pos h).symm
  case h_2 h => rw [if_neg (by omega), h]; rfl
  case h_3 h0 h2 => rw [if_neg h0, show (s.aqState k == 2) = false from beq_false_of_ne h2]

theorem aqState_setAqState (s : State) (k st : Nat) : (s.setAqState k st).aqState k = st % 16 := fld_setFld_eq _ _ _ _ (by decide)

theorem aqState_modAcq (s : State) (k : Nat) (f : Acq → Acq) : (s.modAcq k f).aqState k = s.aqState k := rfl

theorem aqStop_aqState (s : State) (k : Nat) : (s.aqStop k).aqState k = 0 := by
  rw [aqStop_eq]
  split
  case isTrue h => exact h
  case isFalse => rw [aqState_modAcq, aqState_setAqState]

theorem aqMissed_reads (s : State) (k t : Nat) (v : Word) (a : Acq) :
    (((s.wr (strandA k Reg.AQ_MISSED) v).wr64 (strandA k Reg.AQ_MISS_T_LO) t).setAcq k a).sq k Reg.AQ_MISSED = v := by
  unfold State.sq
  rw [rd_setAcq, rd_wr64_ne _ _ (by unfold strandA Reg.AQ_MISSED Reg.AQ_MISS_T_LO; omega), rd_wr_same]

/-- R326: a trigger in POST or REARM counts as missed. -/
theorem aqTrigger_missed (t : Nat) (h : s.aqState k = 2 ∨ s.aqState k = 3) :
    (s.aqTrigger k t).sq k Reg.AQ_MISSED = BitVec.ofNat 32 (min 4294967295 ((s.sq k Reg.AQ_MISSED).toNat + 1)) := by
  unfold State.aqTrigger
  rcases h with h | h <;> simp only [h]
  all_goals exact aqMissed_reads _ _ _ _ _

/-! ### The bits of AQ_CTRL -/

theorem aqCtrl_start : s.aqCtrl k (word1 Fld.AQ_CTRL_START 1) = s.aqStart k := by
  unfold State.aqCtrl
  rw [if_neg (by decide), if_pos (by decide), if_neg (by decide)]

theorem aqCtrl_stop : s.aqCtrl k (word1 Fld.AQ_CTRL_STOP 1) = s.aqStop k := by
  unfold State.aqCtrl
  rw [if_neg (by decide), if_neg (by decide), if_pos (by decide)]

theorem aqCtrl_force : s.aqCtrl k (word1 Fld.AQ_CTRL_FORCE 1) = s.aqTrigger k s.now := by
  unfold State.aqCtrl
  rw [if_pos (by decide), if_neg (by decide), if_neg (by decide)]

end

/-- Settles O18. -/
theorem strandRegisterCommands : Obligations.StrandRegisterCommands := by
  refine ⟨fun m k s hm h => ?_, fun m k s hm h => ?_, fun m k s hm h => ⟨?_, ?_⟩, fun m k s hm h hr => ?_, fun m k s hm h => ?_,
    fun m k s hm hidle hsrc htsrc => ?_, fun m k s hm h => ?_, fun m k s hm => ?_, fun m k s hm => ⟨?_, aqTrigger_missed s.now⟩⟩
  · refine congrArg Host.Outcome.next ((busWord_SQ_CMD hm).trans (congrArg (State.send · _) ?_))
    exact (sqCommand_halt (by omega)).trans (raiseStop_hostHalt_running h)
  · refine congrArg Host.Outcome.next ((busWord_SQ_CMD hm).trans (congrArg (State.send · _) ?_))
    exact (sqCommand_halt (by omega)).trans (raiseStop_hostHalt_held h)
  · exact congrArg Host.Outcome.next ((busWord_SQ_CMD hm).trans (congrArg (State.send · _) (sqCommand_halt_idle h)))
  · exact congrArg Host.Outcome.next ((busWord_SQ_CMD hm).trans (congrArg (State.send · _) (sqCommand_resume_idle h)))
  · exact congrArg Host.Outcome.next ((busWord_SQ_CMD hm).trans (congrArg (State.send · _) (sqCommand_resume h hr)))
  · exact ⟨(s.clearSteps k).send (.accepted m),
      congrArg Host.Outcome.next ((busWord_SQ_CMD hm).trans (congrArg (State.send · _) (sqCommand_ledgerClr h))), rfl,
      fun o ho => (rd64_send _ _ _).trans (clearSteps_ledgers s k o ho), (rd_send _ _ _).trans (clearSteps_slips s k)⟩
  · refine ⟨(s.aqStart k).send (.accepted m), ?_, rfl, aqStart_good_reads hidle hsrc htsrc⟩
    exact congrArg Host.Outcome.next ((busWord_AQ_CTRL hm).trans (congrArg (State.send · _) aqCtrl_start))
  · exact congrArg Host.Outcome.next ((busWord_AQ_CTRL hm).trans (congrArg (State.send · _) (aqCtrl_start.trans (aqStart_busy h))))
  · refine ⟨(s.aqStop k).send (.accepted m), ?_, aqStop_aqState s k, congrArg (State.send · _) (aqStop_eq s k)⟩
    exact congrArg Host.Outcome.next ((busWord_AQ_CTRL hm).trans (congrArg (State.send · _) aqCtrl_stop))
  · exact congrArg Host.Outcome.next ((busWord_AQ_CTRL hm).trans (congrArg (State.send · _) aqCtrl_force))

end Sys2Proof.Machine
end

section
/-! PROOFS. Journal, splice and placement-release commands (spec/08_fail_capture.md R219, R227; spec/09_splice_engine.md R240 to R245;
spec/10_placement_and_lashing.md R276). -/

namespace Sys2Proof.Machine

/-- What every step of a loop keeps, the loop keeps. -/
theorem each_keeps {α β : Type} {g : State → β} {f : State → α → State} (h : ∀ s x, g (f s x) = g s) (s : State) (l : List α) :
    g (s.each l f) = g s := by
  unfold State.each
  induction l generalizing s with
  | nil => rfl
  | cons x xs ih => exact (ih (f s x)).trans (h s x)

/-! ### The journal -/

section
variable {s : State}

/-- What a strand's share of the journal becomes when the journal is reset. -/
def State.emptyJournalOf (s : State) (k : Nat) : State :=
  (s.wr64 (strandA k Reg.FL_JRN_EV_LO) 0).modStrand k (fun t => { t with
    seq := 0, baseJ := 0, baseF := s.led k Reg.FL_FOLDED_LO + s.led k Reg.FL_SPILLED_LO })

theorem emptyJournalOf_failPath (s : State) (k : Nat) : (s.emptyJournalOf k).failPath = s.failPath := by
  unfold State.emptyJournalOf State.wr64
  rw [State.modStrand_failPath, State.wr_failPath, State.wr_failPath]

/-- The journal once its last groups are written: emptied, and every final pass cut. -/
def State.emptyJournal (s : State) : State :=
  let s1 := { s with failPath := { s.failPath with
    buffer := [], writing := [], nextGroup := 0, journal := [], base := none } }
  let s2 := (((s1.wr64 Reg.FL_JRN_EVENTS_LO 0).wr Reg.FL_JRN_WP 0)).each allStrands State.emptyJournalOf
  { s2 with splice := { s2.splice with
    dies := [], finals := s2.splice.finals.map (fun (f : Final) => { f with cut := true }) } }

theorem resetJournal_eq (s : State) :
    s.resetJournal = (State.writeAll s.closeGroup.failPath.writing.length s.closeGroup).emptyJournal := rfl

/-- R219: no group is written, in the buffer or numbered, and no die has a window. -/
theorem emptyJournal_empty (s : State) :
    s.emptyJournal.failPath.journal = [] ∧ s.emptyJournal.failPath.buffer = [] ∧ s.emptyJournal.failPath.nextGroup = 0 ∧
      s.emptyJournal.splice.dies = [] := by
  unfold State.emptyJournal State.wr64
  dsimp only
  rw [each_keeps (g := State.failPath) emptyJournalOf_failPath]
  simp only [State.wr_failPath, and_self]

theorem flDevCommand_reset (h : s.activeTest = false) : s.flDevCommand 1 = s.resetJournal := by
  unfold State.flDevCommand
  dsimp only
  rw [if_neg (by decide), if_pos (by decide), if_neg (by simp [h])]

theorem flDevCommand_reset_rejected (h : s.activeTest = true) :
    s.flDevCommand 1 = s.raise Reg.FL_DEV_STAT Fld.FL_DEV_STAT_CMD_REJ := by
  unfold State.flDevCommand
  dsimp only
  rw [if_neg (by decide), if_pos (by decide), if_pos h]

theorem flDevCommand_audit (h : s.activeTest = false) :
    s.flDevCommand 2 = { s with failPath := { s.failPath with audit := some s.now } } := by
  unfold State.flDevCommand
  dsimp only
  rw [if_neg (by decide : ¬ bitOf (2 : Word).toNat 0 = true), if_pos (by decide), if_neg (by simp [h])]

theorem flDevCommand_audit_rejected (h : s.activeTest = true) :
    s.flDevCommand 2 = s.raise Reg.FL_DEV_STAT Fld.FL_DEV_STAT_CMD_REJ := by
  unfold State.flDevCommand
  dsimp only
  rw [if_neg (by decide : ¬ bitOf (2 : Word).toNat 0 = true), if_pos (by decide), if_pos h]

/-! ### Splice -/

/-- The code and the die of a word of SP_CMD. -/
theorem spWord_fields (c : Nat) (d : BitVec 16) (hc : c < 4) :
    Fld.SP_CMD_CODE.get (word1 Fld.SP_CMD_CODE c ||| word1 Fld.SP_CMD_DIE d.toNat) = c ∧
      Fld.SP_CMD_DIE.get (word1 Fld.SP_CMD_CODE c ||| word1 Fld.SP_CMD_DIE d.toNat) = d.toNat := by
  constructor <;> rw [Field.get_or]
  · rw [Field.get_word1_same _ _ (by decide), Field.get_word1_other _ _ _ (by decide), Nat.or_zero]
    exact Nat.mod_eq_of_lt hc
  · rw [Field.get_word1_other _ _ _ (by decide), Field.get_word1_same _ _ (by decide), Nat.zero_or]
    exact Nat.mod_eq_of_lt d.isLt

/-- SP_CMD by its fields. -/
theorem spCommand_eq (s : State) (w : Word) :
    s.spCommand w = match Fld.SP_CMD_CODE.get w with
      | 1 => s.spFinal (Fld.SP_CMD_DIE.get w)
      | 2 => s.spRelease (Fld.SP_CMD_DIE.get w)
      | 3 => s.spFinalAll
      | _ => s := rfl

/-! ### Placement -/

/-- R276: the placement goes where no strand is in active test and no placement is being made. -/
theorem release_of_idle (hactive : s.activeTest = false) (hmaking : s.place.making = none) :
    s.release = ((({ s with place := { s.place with table := none, stay := [] } }).each allStrands
      (fun x k => ((x.clearStrand k).setRole k 0).setFld (lbPos k) Fld.LB_POS_LEADER 255)).wr Reg.PL_ID 0).showBudget :=
  if_neg (by simp [hactive, hmaking])

theorem release_refused (hactive : s.activeTest = true) : s.release = s.raise Reg.PL_STAT Fld.PL_STAT_REFUSED := if_pos (by simp [hactive])

end

/-- Settles O19. -/
theorem journalCommands : Obligations.JournalCommands := by
  refine ⟨fun m s hm h => ?_, fun m s hm h => ⟨?_, ?_⟩, fun m s hm h => ?_, fun m d s hm => ?_, fun m s hm => ?_, fun m d s hm => ?_,
    fun m s hm h hmaking => ?_, fun m s hm h => ?_⟩
  · refine ⟨s.resetJournal.send (.accepted m), ?_, rfl, ?_⟩
    case refine_2 =>
      rw [State.send_failPath, State.send_splice, resetJournal_eq]
      exact emptyJournal_empty _
    exact congrArg Host.Outcome.next ((busWord_FL_DEV_CMD hm).trans (congrArg (State.send · _) (flDevCommand_reset h)))
  · exact congrArg Host.Outcome.next ((busWord_FL_DEV_CMD hm).trans (congrArg (State.send · _) (flDevCommand_reset_rejected h)))
  · exact congrArg Host.Outcome.next ((busWord_FL_DEV_CMD hm).trans (congrArg (State.send · _) (flDevCommand_audit_rejected h)))
  · exact congrArg Host.Outcome.next ((busWord_FL_DEV_CMD hm).trans (congrArg (State.send · _) (flDevCommand_audit h)))
  · obtain ⟨hcode, hdie⟩ := spWord_fields 1 d (by decide)
    refine congrArg Host.Outcome.next ((busWord_SP_CMD hm).trans (congrArg (State.send · _) ?_))
    rw [spCommand_eq, hcode, hdie]
    rfl
  · refine congrArg Host.Outcome.next ((busWord_SP_CMD hm).trans (congrArg (State.send · _) ?_))
    rw [spCommand_eq, show Fld.SP_CMD_CODE.get (word1 Fld.SP_CMD_CODE 3) = 3 by decide]
    rfl
  · obtain ⟨hcode, hdie⟩ := spWord_fields 2 d (by decide)
    refine congrArg Host.Outcome.next ((busWord_SP_CMD hm).trans (congrArg (State.send · _) ?_))
    rw [spCommand_eq, hcode, hdie]
    rfl
  · exact congrArg Host.Outcome.next ((busWord_PL_CMD hm).trans (congrArg (State.send · _) ((if_pos (by decide)).trans (release_of_idle h hmaking))))
  · exact congrArg Host.Outcome.next ((busWord_PL_CMD hm).trans (congrArg (State.send · _) ((if_pos (by decide)).trans (release_refused h))))

end Sys2Proof.Machine
end

section
/-! PROOFS. Calibration commands and data (spec/13_calibration.md R333 to R349). -/

namespace Sys2Proof.Machine

/-! ### CB_CMD -/

/-- The fields of a calibration command word. -/
theorem calWord_fields {kind strand pins ctx src : Nat} (hkind : kind < 16) (hstrand : strand < 256) (hpins : pins < 256) (hctx : ctx < 4)
    (hsrc : src < 8) :
    Fld.CB_CMD_KIND.get (calWord kind strand pins ctx src) = kind ∧ Fld.CB_CMD_STRAND.get (calWord kind strand pins ctx src) = strand ∧
      Fld.CB_CMD_PINS.get (calWord kind strand pins ctx src) = pins ∧ Fld.CB_CMD_CONTEXT.get (calWord kind strand pins ctx src) = ctx ∧
      Fld.CB_CMD_SRC.get (calWord kind strand pins ctx src) = src := by
  have hsame (f : Field) (v : Nat) (h : f.lo + f.width ≤ 32) (hv : v < 2 ^ f.width) : f.get (word1 f v) = v :=
    (Field.get_word1_same f v h).trans (Nat.mod_eq_of_lt hv)
  have hother (f g : Field) (v : Nat) (h : f.lo + f.width ≤ g.lo ∨ g.lo + g.width ≤ f.lo) : f.get (word1 g v) = 0 :=
    Field.get_word1_other f g v h
  simp only [calWord, Field.get_or]
  refine ⟨?_, ?_, ?_, ?_, ?_⟩
  · rw [hsame Fld.CB_CMD_KIND kind (by decide) hkind, hother _ Fld.CB_CMD_STRAND _ (by decide), hother _ Fld.CB_CMD_PINS _ (by decide),
      hother _ Fld.CB_CMD_CONTEXT _ (by decide), hother _ Fld.CB_CMD_SRC _ (by decide)]
    simp
  · rw [hother _ Fld.CB_CMD_KIND _ (by decide), hsame Fld.CB_CMD_STRAND strand (by decide) hstrand, hother _ Fld.CB_CMD_PINS _ (by decide),
      hother _ Fld.CB_CMD_CONTEXT _ (by decide), hother _ Fld.CB_CMD_SRC _ (by decide)]
    simp
  · rw [hother _ Fld.CB_CMD_KIND _ (by decide), hother _ Fld.CB_CMD_STRAND _ (by decide), hsame Fld.CB_CMD_PINS pins (by decide) hpins,
      hother _ Fld.CB_CMD_CONTEXT _ (by decide), hother _ Fld.CB_CMD_SRC _ (by decide)]
    simp
  · rw [hother _ Fld.CB_CMD_KIND _ (by decide), hother _ Fld.CB_CMD_STRAND _ (by decide), hother _ Fld.CB_CMD_PINS _ (by decide),
      hsame Fld.CB_CMD_CONTEXT ctx (by decide) hctx, hother _ Fld.CB_CMD_SRC _ (by decide)]
    simp
  · rw [hother _ Fld.CB_CMD_KIND _ (by decide), hother _ Fld.CB_CMD_STRAND _ (by decide), hother _ Fld.CB_CMD_PINS _ (by decide),
      hother _ Fld.CB_CMD_CONTEXT _ (by decide), hsame Fld.CB_CMD_SRC src (by decide) hsrc]
    simp

section
variable {s : State} {m : Master} {kind strand pins ctx src : Nat}

/-- R338: a calibration that nothing refuses starts. -/
theorem calCommand_starts (hkind : kind < 15) (hstrand : strand < 256) (hpins : pins < 256) (hctx : ctx < 4) (hsrc : src < 8)
    (h : s.calRefusal strand kind src pins = 0) :
    s.calCommand (calWord kind strand pins ctx src) none = s.startCal strand kind src ctx pins none := by
  obtain ⟨hk, hs, hp, hc, hr⟩ := calWord_fields (by omega : kind < 16) hstrand hpins hctx hsrc
  unfold State.calCommand
  simp only [hk, hs, hp, hc, hr]
  rw [if_neg (by omega), if_neg (by omega)]

/-- R339: a calibration that something refuses sets REFUSED and gives the reason. -/
theorem calCommand_refused (hkind : kind < 15) (hstrand : strand < 256) (hpins : pins < 256) (hctx : ctx < 4) (hsrc : src < 8)
    (h : s.calRefusal strand kind src pins ≠ 0) :
    s.calCommand (calWord kind strand pins ctx src) none =
      (s.raise Reg.CB_STAT Fld.CB_STAT_REFUSED).calResult strand kind 3 0 (s.calRefusal strand kind src pins) := by
  obtain ⟨hk, hs, hp, hc, hr⟩ := calWord_fields (by omega : kind < 16) hstrand hpins hctx hsrc
  unfold State.calCommand
  simp only [hk, hs, hp, hr]
  rw [if_neg (by omega), if_pos h]
  rfl

/-- R342: the run of the strand is aborted. -/
theorem calCommand_abort {r : CalRun} (hstrand : strand < 256) (h : Store.get? s.calRuns (coveOf strand) = some r) (hr : r.strand = strand) :
    s.calCommand (calWord 15 strand 0 0 0) none = s.abortCal (coveOf strand) := by
  obtain ⟨hk, hs, _, _, _⟩ := calWord_fields (by decide : 15 < 16) hstrand (by decide : 0 < 256) (by decide : 0 < 4) (by decide : 0 < 8)
  unfold State.calCommand
  simp only [hk, hs, h, hr]
  rfl

/-- A write of a calibration command, from what the command does. -/
theorem busWord_calCommand {d : Word} {t : State} (hm : s.mayWrite m Reg.CB_CMD = true) (h : s.calCommand d none = t) :
    s.busWord m .normal Reg.CB_CMD d = t.send (.accepted m) := by
  rw [busWord_CB_CMD hm, h]

/-! ### CB_DATA -/

/-- R333, R339: data for an item there is goes into its shadow, unless a run uses the pin. -/
theorem cbWrite_item (al : Alias) (d : Word) (hpin : s.cbPin < 1536) (hitem : s.cbItem < 0x2D) :
    s.cbWrite al d = (if s.underCal s.cbPin then s.raise Reg.CB_STAT Fld.CB_STAT_BUSY_REJ
      else s.writeShadow (calA s.cbPin s.cbItem)
        (aliasValue al (s.shadowOf (calA s.cbPin s.cbItem)) d &&& itemMask s.cbItem)).cbAdvance := by
  unfold State.cbWrite
  dsimp only
  rw [if_neg (by simp; omega)]

/-! ### CB_COMMIT -/

/-- The word that a commit with its confirmation writes. -/
theorem cbCommitWord_fields (s : State) :
    Fld.CB_COMMIT_CONFIRM.get (s.newWord .normal Reg.CB_COMMIT 0xCB010001) = 0xCB01 ∧
      bitOf (s.newWord .normal Reg.CB_COMMIT 0xCB010001).toNat 0 = true := by
  have hgo : Fld.CB_COMMIT_GO.get (s.newWord .normal Reg.CB_COMMIT 0xCB010001) = 1 :=
    (get_newWord _ (h := ⟨_, _⟩) rfl rfl).trans (by decide)
  refine ⟨(get_newWord _ (h := ⟨_, _⟩) rfl rfl).trans (by decide), ?_⟩
  have hbit : (s.newWord .normal Reg.CB_COMMIT 0xCB010001).toNat % 2 = 1 := hgo
  unfold bitOf
  rw [Nat.testBit_zero, hbit]
  rfl

variable {d : Word}

/-- R349: a commit that fails asks for no flash operation. -/
theorem cbCommit_fails (hconfirm : Fld.CB_COMMIT_CONFIRM.get d = 0xCB01) (hgo : bitOf d.toNat 0 = true) {r : Nat × CalRun}
    (hruns : s.calRuns = [r]) : s.cbCommit d = s.raise Reg.CB_STAT Fld.CB_STAT_COMMIT_FAIL := by
  have hw : s.commitWrite d = s.raise Reg.CB_STAT Fld.CB_STAT_COMMIT_FAIL := by
    unfold State.commitWrite
    rw [if_pos ⟨hconfirm, hgo⟩, if_pos (by simp [hruns])]
  unfold State.cbCommit
  rw [hw]
  dsimp only
  rw [State.flag, fld_raise_ne s _ _ (by decide)]
  exact if_neg (by simp [State.flag])

/-- R349: with Beacon running, no run under way and no commit, a commit asks for its flash operation. -/
theorem cbCommit_asks (hconfirm : Fld.CB_COMMIT_CONFIRM.get d = 0xCB01) (hgo : bitOf d.toNat 0 = true) (hb : s.beaconRuns = true)
    (hruns : s.calRuns = []) (hidle : s.flag Reg.CB_BUSY Fld.CB_BUSY_COMMIT = false) :
    s.cbCommit d = (s.raise Reg.CB_BUSY Fld.CB_BUSY_COMMIT).pushOp .cal := by
  have hrun : s.flag Reg.FC_HELM_STATE Fld.FC_HELM_STATE_BEACON_RUN = true := hb
  have hw : s.commitWrite d = s.raise Reg.CB_BUSY Fld.CB_BUSY_COMMIT := by
    unfold State.commitWrite
    rw [if_pos ⟨hconfirm, hgo⟩, if_neg (by simp [hrun, hruns, hidle])]
  have hset : (s.raise Reg.CB_BUSY Fld.CB_BUSY_COMMIT).flag Reg.CB_BUSY Fld.CB_BUSY_COMMIT = true := by
    unfold State.flag State.raise
    rw [fld_setFld_eq _ _ _ _ (by decide)]
    rfl
  unfold State.cbCommit
  rw [hw]
  dsimp only
  rw [if_pos (by simp [hset, hidle])]

end

/-- Settles O20. -/
theorem calibrationCommands : Obligations.CalibrationCommands := by
  refine ⟨fun m k pins ctx s hm => ⟨fun h => ?_, fun h => ?_, fun h => ?_⟩, fun m k pins ctx src s hm => ⟨fun h => ?_, fun h => ?_⟩,
    fun m k pins ctx s hm h => ?_, fun m k r s hm h hr => ?_, fun m al d s hm hpin hitem => ?_, fun m s hm hb hruns hidle => ?_,
    fun m r s hm hruns => ?_⟩ <;> refine congrArg Host.Outcome.next ?_
  · exact busWord_calCommand hm (calCommand_starts (by decide) k.isLt pins.isLt ctx.isLt (by decide) h)
  · exact busWord_calCommand hm (calCommand_starts (by decide) k.isLt pins.isLt ctx.isLt (by decide) h)
  · exact busWord_calCommand hm (calCommand_starts (by decide) k.isLt pins.isLt ctx.isLt (by decide) h)
  · exact busWord_calCommand hm (calCommand_starts (by decide) k.isLt pins.isLt ctx.isLt src.isLt h)
  · exact busWord_calCommand hm (calCommand_starts (by decide) k.isLt pins.isLt ctx.isLt src.isLt h)
  · exact busWord_calCommand hm (calCommand_refused (by decide) k.isLt pins.isLt ctx.isLt (by decide) h)
  · exact busWord_calCommand hm (calCommand_abort k.isLt h hr)
  · exact (busWord_CB_DATA hm).trans (congrArg (State.send · _) (cbWrite_item al d hpin hitem))
  · obtain ⟨hconfirm, hgo⟩ := cbCommitWord_fields s
    refine (busWord_CB_COMMIT hm).trans ?_
    exact congrArg (State.send · _) (cbCommit_asks hconfirm hgo ((beaconRuns_wr s _ (by decide)).trans hb) hruns
      ((flag_wr_ne s _ _ (by decide)).trans hidle))
  · obtain ⟨hconfirm, hgo⟩ := cbCommitWord_fields s
    exact (busWord_CB_COMMIT hm).trans (congrArg (State.send · _) (cbCommit_fails hconfirm hgo hruns))

end Sys2Proof.Machine
end

section
/-! PROOFS. Registers of queue pairs, of the ring and of tideline (spec/14_host_transport.md R353, R354; spec/15_ring_and_system.md R394 to
R402; spec/16_tideline.md R406 to R414). -/

namespace Sys2Proof.Machine

/-! ### Queue pairs -/

section
variable {s : State} {q : Nat}

theorem qpA_ne (q : Nat) {o o' : Nat} (h : o ≠ o') : qpA q o ≠ qpA q o' := by
  unfold qpA
  omega

/-- The set-up that a queue pair needs does not lie in its control register. -/
theorem qpSetup_wr_ctrl (s : State) (q : Nat) (v : Word) : (s.wr (qpA q Reg.HT_QP_CTRL) v).qpSetup q = s.qpSetup q := by
  have hrd {o : Nat} (ho : o ≠ Reg.HT_QP_CTRL) : (s.wr (qpA q Reg.HT_QP_CTRL) v).rd (qpA q o) = s.rd (qpA q o) :=
    rd_wr_other s v (qpA_ne q ho)
  have hfld {o : Nat} (f : Field) (ho : o ≠ Reg.HT_QP_CTRL) : (s.wr (qpA q Reg.HT_QP_CTRL) v).fld (qpA q o) f = s.fld (qpA q o) f :=
    fld_wr_ne s f v (qpA_ne q ho)
  unfold State.qpSetup
  simp only [hrd (by decide : Reg.HT_QP_PEER ≠ Reg.HT_QP_CTRL), hrd (by decide : Reg.HT_QP_IP ≠ Reg.HT_QP_CTRL),
    hrd (by decide : Reg.HT_QP_CMD_BASE_LO ≠ Reg.HT_QP_CTRL), hrd (by decide : Reg.HT_QP_CPL_BASE_LO ≠ Reg.HT_QP_CTRL),
    hrd (by decide : Reg.HT_QP_DB_BASE_LO ≠ Reg.HT_QP_CTRL), hfld _ (by decide : Reg.HT_QP_RING ≠ Reg.HT_QP_CTRL)]

/-- R353: enabling a disabled queue pair first writes its control register. -/
theorem qpCtrlWrite_enable {d : Word} (hst : s.fld (qpA q Reg.HT_QP_CTRL) Fld.HT_QP_CTRL_STATE = 0) (hen : Fld.HT_QP_CTRL_EN.get d = 1) :
    s.qpCtrlWrite q d =
      (s.wr (qpA q Reg.HT_QP_CTRL) ((s.rd (qpA q Reg.HT_QP_CTRL) &&& ~~~ qpCtrlMask) ||| (d &&& qpCtrlMask))).qpEnable q := by
  unfold State.qpCtrlWrite
  dsimp only
  rw [if_neg (by omega), if_pos hst, if_pos hst]

theorem qpEnable_good (h : s.qpSetup q = true) :
    s.qpEnable q = (((s.setFld (qpA q Reg.HT_QP_CTRL) Fld.HT_QP_CTRL_STATE 1).setFld (qpA q Reg.HT_QP_CTRL) Fld.HT_QP_CTRL_EN 1).setQp q
        { sPsn := (s.rd (qpA q Reg.HT_QP_SPSN)).toNat, ePsn := (s.rd (qpA q Reg.HT_QP_EPSN)).toNat, progress := s.now }).each
        [Reg.HT_QP_CMD_PI, Reg.HT_QP_CMD_CI, Reg.HT_QP_CPL_PI, Reg.HT_QP_CPL_CI] (fun x o => x.wr (qpA q o) 0) :=
  if_neg (by simp [h])

theorem qpEnable_bad (h : s.qpSetup q = false) : s.qpEnable q = s.raise (qpA q Reg.HT_QP_STAT) Fld.HT_QP_STAT_CFG_REJ :=
  if_pos (by simp [h])

/-- EN is no bit of the set-up of a queue pair. -/
theorem put_EN_and_qpCtrlMask (d : Word) (v : Nat) : Fld.HT_QP_CTRL_EN.put d v &&& qpCtrlMask = d &&& qpCtrlMask := by
  refine BitVec.eq_of_getLsbD_eq fun i hi => ?_
  rw [BitVec.getLsbD_and, BitVec.getLsbD_and, Field.getLsbD_put]
  by_cases h15 : i = 15
  · rw [h15, show qpCtrlMask.getLsbD 15 = false by decide, Bool.and_false, Bool.and_false]
  · rw [if_neg (by simp only; omega), decide_eq_true hi, Bool.true_and]

/-- R354: disabling a queue pair in RTS with its set-up as it is takes it out of RTS. -/
theorem qpCtrlWrite_disable (hst : s.fld (qpA q Reg.HT_QP_CTRL) Fld.HT_QP_CTRL_STATE = 1) :
    s.qpCtrlWrite q (Fld.HT_QP_CTRL_EN.put (s.rd (qpA q Reg.HT_QP_CTRL)) 0) =
      (s.leaveRts q 0).setFld (qpA q Reg.HT_QP_CTRL) Fld.HT_QP_CTRL_EN 0 := by
  have hen : Fld.HT_QP_CTRL_EN.get (Fld.HT_QP_CTRL_EN.put (s.rd (qpA q Reg.HT_QP_CTRL)) 0) = 0 := Field.get_put_same _ _ _ (by decide)
  unfold State.qpCtrlWrite
  dsimp only
  rw [if_pos hen, if_neg (by omega), put_EN_and_qpCtrlMask, bne_self_eq_false]
  unfold State.qpDisable State.raiseIf
  simp only [hst, Bool.false_eq_true, if_false]

end

/-! ### The ring -/

section
variable {s : State}

theorem rgCommand_slack : s.rgCommand (word1 Fld.RG_CMD_SLACK 1) = s.originateSlack 3 := by
  unfold State.rgCommand
  dsimp only
  rw [if_neg (by decide), if_pos (by decide)]

theorem rgCommand_slackClr : s.rgCommand (word1 Fld.RG_CMD_SLACK_CLR 1) = s.clearSlack := by
  unfold State.rgCommand
  dsimp only
  rw [if_pos (by decide), if_neg (by decide)]

/-- R397: slack is left when every strand is idle or halted. -/
theorem clearSlack_idle (hall : allStrands.all (fun k => s.sqState k == 0 || s.sqState k == 5) = true)
    (hslack : s.flag Reg.RG_STATE Fld.RG_STATE_SLACK = true) :
    s.clearSlack =
      ((s.setFld Reg.RG_STATE Fld.RG_STATE_SLACK 0).clearConn (fun _ => true)).freePins (fun f => { f with slack := false }) := by
  unfold State.clearSlack
  rw [hall, hslack, if_neg (by decide), if_neg (by decide)]

theorem clearSlack_rejected (hall : allStrands.all (fun k => s.sqState k == 0 || s.sqState k == 5) = false) :
    s.clearSlack = s.raise Reg.RG_STAT Fld.RG_STAT_CMD_REJ := by
  unfold State.clearSlack
  rw [hall, if_pos (by decide)]

/-- R402: the bypass drops the relay hold where it is confirmed. -/
theorem rgBypass_confirmed {d : Word} (hgo : Fld.RG_BYPASS_GO.get d = 1) (hconfirm : Fld.RG_BYPASS_CONFIRM.get d = 0xB7A5) :
    s.rgBypass d = ({ s with ring := { s.ring with bypassed := true } }).dropHold := if_pos ⟨hgo, hconfirm⟩

/-! ### Tideline -/

theorem unsigned_signed_word (v : Word) : BitVec.ofNat 32 (unsigned 32 (signed 32 v.toNat)) = v := by
  have hv := v.isLt
  have h : unsigned 32 (signed 32 v.toNat) = v.toNat := by
    unfold unsigned signed
    split <;> omega
  rw [h, BitVec.ofNat_toNat, BitVec.setWidth_eq]

/-- R406: a write of the trim or of the rate restarts the accumulation from the trim. -/
theorem ageWrite_reads {a : Nat} (v : Word) (ha : a ≠ Reg.TL_AGE_ACC) :
    (s.ageWrite a v).rd a = v ∧ (s.ageWrite a v).rd Reg.TL_AGE_ACC = (s.ageWrite a v).rd Reg.TL_AGE_TRIM := by
  unfold State.ageWrite State.ageFrom
  refine ⟨(rd_wr_other _ _ ha).trans (rd_wr_same _ _ _), (rd_wr_same _ _ _).trans ?_⟩
  rw [unsigned_signed_word]
  exact (rd_wr_other _ _ (by decide)).symm

theorem ageWrite_sent (a : Nat) (v : Word) : (s.ageWrite a v).sent = s.sent := rfl

theorem tlCommand_set : s.tlCommand (word1 Fld.TL_CMD_SET 1) = s.tlSet := by
  unfold State.tlCommand
  dsimp only
  rw [if_neg (by decide), if_pos (by decide)]

theorem tlCommand_settle : s.tlCommand (word1 Fld.TL_CMD_SETTLE 1) = s.tlSettle := by
  unfold State.tlCommand
  dsimp only
  rw [if_pos (by decide), if_neg (by decide)]

/-- R410: tideline is set where it is the source and no schedule is held. -/
theorem tlSet_free (hsrc : s.tlSource = 0) (hheld : s.scheduleHeld = false) :
    s.tlSet = ({ s with
      tideOff := ((s.rd64 Reg.TL_SET_LO : Nat) : Int) - ((s.now / cycU : Nat) : Int), tide := { s.tide with everValid := true } }).setTl 4 0 :=
  if_neg (by simp [hsrc, hheld])

theorem tlSet_rejected (hheld : s.scheduleHeld = true) : s.tlSet = s.raise Reg.TL_STAT Fld.TL_STAT_SET_REJ := if_pos (.inr hheld)

/-- R414: the master of a whole ring starts its settling. -/
theorem tlSettle_master (hmaster : s.flag Reg.TL_CTRL Fld.TL_CTRL_MASTER = true) (hwhole : s.ringWhole = true) :
    s.tlSettle = s.startSettle := by
  unfold State.tlSettle
  rw [hmaster, if_neg (by decide), if_pos hwhole]

end

/-- Settles O21. -/
theorem linkRegisterCommands : Obligations.LinkRegisterCommands := by
  refine ⟨fun m q cfg v s hm hst hsetup hv => ?_, fun m q cfg s hm hst hsetup => ?_, fun m q cfg s hm hst hcfg => ?_, fun m s hm => ?_,
    fun m s hm hall hslack => ?_, fun m s hm hall => ?_, fun m v s hm hv => ?_, fun m al rate d s hm => ?_, fun m s hm hsrc hheld => ?_,
    fun m s hm hheld => ?_, fun m s hm hmaster hwhole => ?_⟩
  · have hen : Fld.HT_QP_CTRL_EN.get (Fld.HT_QP_CTRL_EN.put cfg 1) = 1 := Field.get_put_same _ _ _ (by decide)
    refine congrArg Host.Outcome.next ((busWord_HT_QP_CTRL hm).trans (congrArg (State.send · _) ?_))
    subst hv
    rw [qpCtrlWrite_enable hst hen, qpEnable_good ((qpSetup_wr_ctrl s q _).trans hsetup),
      rd_wr_other s _ (qpA_ne q (by decide : Reg.HT_QP_SPSN ≠ Reg.HT_QP_CTRL)),
      rd_wr_other s _ (qpA_ne q (by decide : Reg.HT_QP_EPSN ≠ Reg.HT_QP_CTRL)), State.wr_now]
  · have hen : Fld.HT_QP_CTRL_EN.get (Fld.HT_QP_CTRL_EN.put cfg 1) = 1 := Field.get_put_same _ _ _ (by decide)
    refine congrArg Host.Outcome.next ((busWord_HT_QP_CTRL hm).trans (congrArg (State.send · _) ?_))
    rw [qpCtrlWrite_enable hst hen, qpEnable_bad ((qpSetup_wr_ctrl s q _).trans hsetup)]
  · subst hcfg
    refine ⟨_, ?_, rfl⟩
    exact congrArg Host.Outcome.next ((busWord_HT_QP_CTRL hm).trans (congrArg (State.send · _) (qpCtrlWrite_disable hst)))
  · exact congrArg Host.Outcome.next ((busWord_RG_CMD hm).trans (congrArg (State.send · _) rgCommand_slack))
  · exact congrArg Host.Outcome.next ((busWord_RG_CMD hm).trans
      (congrArg (State.send · _) (rgCommand_slackClr.trans (clearSlack_idle hall hslack))))
  · exact congrArg Host.Outcome.next ((busWord_RG_CMD hm).trans
      (congrArg (State.send · _) (rgCommand_slackClr.trans (clearSlack_rejected hall))))
  · subst hv
    have hgo : Fld.RG_BYPASS_GO.get (s.newWord .normal Reg.RG_BYPASS 0xB7A50001) = 1 :=
      (get_newWord _ (h := ⟨_, _⟩) rfl rfl).trans (by decide)
    have hconfirm : Fld.RG_BYPASS_CONFIRM.get (s.newWord .normal Reg.RG_BYPASS 0xB7A50001) = 0xB7A5 :=
      (get_newWord _ (h := ⟨_, _⟩) rfl rfl).trans (by decide)
    exact congrArg Host.Outcome.next ((busWord_RG_BYPASS hm).trans (congrArg (State.send · _) (rgBypass_confirmed hgo hconfirm)))
  · have hbus (a : Nat) (ha : a ≠ Reg.TL_AGE_ACC) (h : s.busWord m al a d = (s.ageWrite a (s.newWord al a d)).send (.accepted m)) :
        ∃ t, Host.Outcome.next (s.busWord m al a d) = (.next t : Host.Outcome State Fault Refusal) ∧
          t.rd a = s.newWord al a d ∧ t.rd Reg.TL_AGE_ACC = t.rd Reg.TL_AGE_TRIM ∧ t.sent = s.sent ++ [.accepted m] := by
      obtain ⟨hval, hacc⟩ := ageWrite_reads (s := s) (s.newWord al a d) ha
      exact ⟨_, congrArg _ h, hval, hacc, rfl⟩
    cases rate
    · exact hbus Reg.TL_AGE_TRIM (by decide) (busWord_TL_AGE_TRIM hm)
    · exact hbus Reg.TL_AGE_RATE (by decide) (busWord_TL_AGE_RATE hm)
  · exact congrArg Host.Outcome.next ((busWord_TL_CMD hm).trans (congrArg (State.send · _) (tlCommand_set.trans (tlSet_free hsrc hheld))))
  · exact congrArg Host.Outcome.next ((busWord_TL_CMD hm).trans (congrArg (State.send · _) (tlCommand_set.trans (tlSet_rejected hheld))))
  · exact congrArg Host.Outcome.next ((busWord_TL_CMD hm).trans
      (congrArg (State.send · _) (tlCommand_settle.trans (tlSettle_master hmaster hwhole))))

end Sys2Proof.Machine
end

section
/-! PROOFS. Accesses to registers (spec/02_register_conventions.md R32 to R66): registers with read-clearing bits are read as they are held,
and what a burst of one word comes to. -/

namespace Sys2Proof.Machine

/-! ### Registers with read-clearing bits in the map -/

theorem findReg_mem {rows : List RegRow} {o : Nat} {h : RegHit} (hf : findReg rows o = some h) : ∃ r ∈ rows, r.hit? o = some h := by
  induction rows with
  | nil => cases hf
  | cons r t ih =>
    unfold findReg at hf
    split at hf
    case h_1 h' hh =>
      cases hf
      exact ⟨r, List.mem_cons_self, hh⟩
    case h_2 =>
      obtain ⟨r', hr', hh⟩ := ih hf
      exact ⟨r', List.mem_cons_of_mem _ hr', hh⟩

theorem RegRow.hit?_eq_some {r : RegRow} {o : Nat} {h : RegHit} (hh : r.hit? o = some h) :
    h.row = r ∧ (o = r.off ∨ ∃ j < r.count, o = r.off + r.stride * j) := by
  unfold RegRow.hit? at hh
  split_ifs at hh with hlt heq hstride hin
  · cases hh
    exact ⟨rfl, .inl heq⟩
  · obtain ⟨hmod, hcount⟩ := hin
    cases hh
    have := Nat.div_add_mod (o - r.off) r.stride
    exact ⟨rfl, .inr ⟨_, hcount, by omega⟩⟩

/-- The offsets of the registers of a block that have read-clearing bits. -/
def rcOffsets (rows : List RegRow) : List Nat :=
  rows.flatMap (fun r => if r.rc = 0 then [] else r.off :: (List.range r.count).map (fun j => r.off + r.stride * j))

theorem mem_rcOffsets {rows : List RegRow} {o : Nat} {h : RegHit} (hf : findReg rows o = some h) (hrc : h.row.rc ≠ 0) :
    o ∈ rcOffsets rows := by
  obtain ⟨r, hr, hh⟩ := findReg_mem hf
  obtain ⟨rfl, ho⟩ := RegRow.hit?_eq_some hh
  refine List.mem_flatMap.mpr ⟨h.row, hr, ?_⟩
  rw [if_neg hrc]
  rcases ho with ho | ⟨j, hj, ho⟩
  · exact ho ▸ List.mem_cons_self
  · exact List.mem_cons_of_mem _ (List.mem_map.mpr ⟨j, List.mem_range.mpr hj, ho.symm⟩)

/-- No register with read-clearing bits is privileged. -/
theorem priv_of_rc {a : Nat} {h : RegHit} (hr : regAt a = some h) (hrc : h.row.rc ≠ 0) : h.row.priv = false := by
  have hall (rows : List RegRow) (hrows : rows.all (fun r => r.rc == 0 || !r.priv) = true) (hf : findReg rows (a - (blockOf a).base) = some h) :
      h.row.priv = false := by
    obtain ⟨r, hmem, hh⟩ := findReg_mem hf
    obtain ⟨rfl, _⟩ := RegRow.hit?_eq_some hh
    simpa [hrc] using List.all_eq_true.mp hrows _ hmem
  unfold regAt at hr
  cases hb : blockOf a <;> rw [hb] at hr hall
  case dev => exact hall deviceRows (by decide) hr
  case qp q => exact hall qpRows (by decide) hr
  case cove c => exact hall coveRows (by decide) hr
  case strand k => exact hall strandRows (by decide) hr
  case pin n => exact hall pinRows (by decide) hr
  case reserve c => exact hall reserveRows (by decide) hr

/-! ### Registers that are not computed when they are read -/

/-- The device-level registers that are computed when they are read, or that a read moves on. -/
def deviceComputed (a : Nat) : Bool :=
  [Reg.DEV_UPD_PEND, Reg.TL_NOW_LO, Reg.TL_NOW_HI, Reg.TL_STATE, Reg.FC_SUMMARY, Reg.FC_NEXT, Reg.FC_HELM_STATE, Reg.LS_CNT,
    Reg.LS_HIST_DATA, Reg.LS_WEAR, Reg.LS_SETUP_DATA, Reg.CS_STAGE_DATA, Reg.SP_PEND, Reg.SP_CTX_USED, Reg.SP_POOL_USED, Reg.PL_STATE,
    Reg.PL_TAB_DATA, Reg.CB_DATA].contains a || (decide (Reg.MC_STRM_CONS ≤ a) && decide (a < Reg.MC_STRM_CONS + 256))

/-- The registers of a strand that are computed when they are read, or that a read moves on. -/
def strandComputed (o : Nat) : Bool :=
  [Reg.SQ_STATE, Reg.SQ_FLAGS, Reg.SQ_BT_DATA, Reg.AG_X_VAL, Reg.AG_YZ_VAL, Reg.AG_TAB_DATA, Reg.WV_DATA, Reg.SG_TAB_DATA,
    Reg.FL_INFLIGHT].contains o || (decide (Reg.ED_E0 ≤ o) && decide (o < Reg.ED_E0 + 24))

section
variable {s : State} {a : Nat}

theorem deviceView_of_not_computed (h : deviceComputed a = false) : s.deviceView a = s.rd a := by
  simp only [deviceComputed, List.contains_eq_mem, Bool.or_eq_false_iff, decide_eq_false_iff_not, List.mem_cons, List.not_mem_nil, or_false,
    not_or, Bool.and_eq_false_imp, decide_eq_true_eq] at h
  obtain ⟨hne, hrange⟩ := h
  unfold State.deviceView
  simp only [hne, if_false]
  exact if_neg fun hin => hrange hin.1 hin.2.1

theorem strandView_of_not_computed {k o : Nat} (h : strandComputed o = false) : s.strandView k o = s.sq k o := by
  simp only [strandComputed, List.contains_eq_mem, Bool.or_eq_false_iff, decide_eq_false_iff_not, List.mem_cons, List.not_mem_nil, or_false,
    not_or, Bool.and_eq_false_imp, decide_eq_true_eq] at h
  obtain ⟨hne, hrange⟩ := h
  have hed : ¬ (Reg.ED_E0 ≤ o ∧ o < Reg.ED_E0 + 24) := fun hin => hrange hin.1 hin.2
  unfold State.strandView
  simp only [hne, hed, if_false]

theorem advance_strand_of_not_computed {k : Nat} (hb : blockOf a = .strand k) (h : strandComputed (a - (Block.strand k).base) = false) :
    s.advance a = s := by
  simp only [strandComputed, List.contains_eq_mem, Bool.or_eq_false_iff, decide_eq_false_iff_not, List.mem_cons, List.not_mem_nil, or_false,
    not_or, Bool.and_eq_false_imp, decide_eq_true_eq] at h
  obtain ⟨hne, hrange⟩ := h
  have hed : ¬ (Reg.ED_E0 ≤ a - (Block.strand k).base ∧ a - (Block.strand k).base < Reg.ED_E0 + 24) := fun hin => hrange hin.1 hin.2
  unfold State.advance
  simp only [hb, hne, hed, if_false]

theorem advance_of_not_computed (hb : ∀ k, blockOf a ≠ .strand k) (h : deviceComputed a = false) : s.advance a = s := by
  simp only [deviceComputed, List.contains_eq_mem, Bool.or_eq_false_iff, decide_eq_false_iff_not, List.mem_cons, List.not_mem_nil, or_false,
    not_or] at h
  obtain ⟨hne, _⟩ := h
  unfold State.advance
  split
  case h_1 k hk => exact absurd hk (hb k)
  case h_2 => simp only [hne, if_false]

/-- Registers of the other blocks are none of the computed device-level ones. -/
theorem deviceComputed_of_block (hb : blockOf a ≠ .dev) : deviceComputed a = false := by
  have hdev : ∀ b ∈ [Reg.DEV_UPD_PEND, Reg.TL_NOW_LO, Reg.TL_NOW_HI, Reg.TL_STATE, Reg.FC_SUMMARY, Reg.FC_NEXT, Reg.FC_HELM_STATE, Reg.LS_CNT,
      Reg.LS_HIST_DATA, Reg.LS_WEAR, Reg.LS_SETUP_DATA, Reg.CS_STAGE_DATA, Reg.SP_PEND, Reg.SP_CTX_USED, Reg.SP_POOL_USED, Reg.PL_STATE,
      Reg.PL_TAB_DATA, Reg.CB_DATA], blockOf b = .dev := by decide
  unfold deviceComputed
  rw [Bool.or_eq_false_iff]
  refine ⟨?_, ?_⟩
  · rw [List.contains_eq_mem, decide_eq_false_iff_not]
    exact fun hmem => hb (hdev a hmem)
  · rw [← Bool.not_eq_true, Bool.and_eq_true, decide_eq_true_eq, decide_eq_true_eq]
    rintro ⟨hlo, hhi⟩
    refine hb ?_
    unfold blockOf
    simp only [Reg.MC_STRM_CONS] at hlo hhi
    rw [if_neg (by omega), if_neg (by omega), if_neg (by omega), if_neg (by omega)]

theorem strandA_of_block {k : Nat} (hb : blockOf a = .strand k) : strandA k (a - (Block.strand k).base) = a := by
  have hbase : (Block.strand k).base = 0x100000 + k * 0x2000 := rfl
  have hk : 0x100000 ≤ a ∧ (a - 0x100000) / 0x2000 = k := by
    unfold blockOf at hb
    dsimp only at hb
    split_ifs at hb with _ _ hin
    exact ⟨hin.1, Block.strand.inj hb⟩
  rw [hbase]
  unfold strandA
  omega

/-- A register with read-clearing bits, but for PM_STAT, reads as it is held, and a read moves nothing on. -/
theorem regValue_of_rc {h : RegHit} (hr : regAt a = some h) (hrc : h.row.rc ≠ 0) (hstat : ∀ n, a ≠ pinA n Reg.PM_STAT) :
    s.regValue a = (s.rd a, s) := by
  have hmem := mem_rcOffsets hr hrc
  unfold State.regValue
  cases hb : blockOf a <;> rw [hb] at hmem <;> dsimp only
  case dev =>
    have hdev : ∀ o ∈ rcOffsets deviceRows, deviceComputed o = false := by decide
    exact congrArg (·, s) (deviceView_of_not_computed (hdev a hmem))
  case strand k =>
    have hstrand : ∀ o ∈ rcOffsets strandRows, strandComputed o = false := by decide
    rw [strandView_of_not_computed (hstrand _ hmem)]
    unfold State.sq
    rw [strandA_of_block hb]
  case pin n =>
    have hpin : ∀ o ∈ rcOffsets pinRows, o ≠ Reg.PM_STATE := by decide
    have hbase : (Block.pin n).base = 0x100000 + (n / 8) * 0x2000 + 0x1000 + (n % 8) * 0x100 := rfl
    have hstate : a ≠ pinA n Reg.PM_STATE := fun ha => hpin _ hmem (by rw [ha, hbase]; unfold pinA; omega)
    rw [if_neg hstate, if_neg (hstat n)]

theorem advance_of_rc {h : RegHit} (hr : regAt a = some h) (hrc : h.row.rc ≠ 0) : s.advance a = s := by
  have hmem := mem_rcOffsets hr hrc
  by_cases hdev : blockOf a = .dev
  · have hnot : ∀ o ∈ rcOffsets deviceRows, deviceComputed o = false := by decide
    rw [hdev] at hmem
    exact advance_of_not_computed (fun k hk => by rw [hdev] at hk; cases hk) (hnot a hmem)
  by_cases hstrand : ∃ k, blockOf a = .strand k
  · obtain ⟨k, hk⟩ := hstrand
    have hnot : ∀ o ∈ rcOffsets strandRows, strandComputed o = false := by decide
    rw [hk] at hmem
    exact advance_strand_of_not_computed hk (hnot _ hmem)
  · exact advance_of_not_computed (fun k hk => hstrand ⟨k, hk⟩) (deviceComputed_of_block hdev)

end

/-! ### Accesses of one word -/

section
variable {s : State} {m : Master} {a : Nat}

theorem regAlias_normal (ha : a < 0x400000) {h : RegHit} (hr : regAt a = some h) : regAlias a = some h := by
  have hn : normalOf a = a := by unfold normalOf; omega
  have hal : aliasOf a = .normal := (congrArg aliasOf (Nat.zero_add a).symm).trans (aliasOf_alias .normal ha)
  unfold regAlias
  simp only [hn, hr, hal, beq_self_eq_true, Bool.or_true, if_true]

/-- A read burst of one word that nothing rejects: the word goes to the master. -/
theorem busRead_one {h : RegHit} (hlive : s.masterLive m = true) (hreach : s.inReach a = true) (htest : s.testedAt a = none)
    (ha : a < 0x400000) (ha4 : a % 4 = 0) (hr : regAt a = some h) :
    s.busRead m a 1 0 = (s.regRead m a).2.send (.readData m [(s.regRead m a).1]) := by
  have hn : normalOf a = a := by unfold normalOf; omega
  have hbad : s.badWord a none = false := by
    unfold State.badWord
    rw [hn, regAlias_normal ha hr]
    simp [ha4, hreach]
  have hlim : ¬ burstLimit m ≤ 0 := by cases m <;> simp [burstLimit]
  have hburst : s.burstBad m [a] none a 0 = none := by
    unfold State.burstBad
    simp [hlim, hbad]
  have hws : wordsFrom a 1 = [a] := by simp [wordsFrom]
  unfold State.busRead
  rw [if_pos hlive, hws]
  unfold State.readBurst
  rw [hburst]
  simp [htest, State.report]

/-- R42: a read of a register with read-clearing bits that are held as they are read. -/
theorem regRead_rc {h : RegHit} {v : Word} {s1 : State} (ha : a < 0x400000) (hr : regAt a = some h) (hrc : h.row.rc ≠ 0)
    (hv : s.regValue a = (v, s1)) :
    s.regRead m a = (v, s1.wr a (s1.rd a &&& ~~~ BitVec.ofNat 32 h.row.rc)) := by
  have hn : normalOf a = a := by unfold normalOf; omega
  unfold State.regRead
  simp only [regAlias_normal ha hr, priv_of_rc hr hrc, hn, hv, hrc, advance_of_rc hr hrc, Bool.false_and, Bool.false_eq_true, if_false]

/-- R66: a write to a _SNAP register that names a register of its block captures that register's value. -/
theorem busWord_snap {h : RegHit} {spec : Nat × Nat} {d : Word} (hm : s.mayWrite m a = true) (ha : a < 0x400000) (ha4 : a % 4 = 0)
    (hr : regAt a = some h) (hw : h.row.w ≠ 0 ∨ h.row.wo ≠ 0) (hg : h.row.group = none) (hlock : a ≠ Reg.DEV_LOCK)
    (hs : snapSpec a = some spec) (hvalid : snapValid spec d.toNat = true) :
    s.busWord m .normal a d =
      ((s.regValue (spec.1 + d.toNat)).2.wr a (s.regValue (spec.1 + d.toNat)).1).send (.accepted m) := by
  have hn : normalOf a = a := by unfold normalOf; omega
  simp only [State.mayWrite, hr, Bool.and_eq_true] at hm
  obtain ⟨⟨⟨hlive, hreach⟩, htest⟩, hpriv, hlocked⟩ := hm
  have htest : s.testedAt a = none := by simpa using htest
  have hbad : s.badWord a (some d) = false := by
    unfold State.badWord
    rw [hn, regAlias_normal ha hr, hs]
    rcases hw with hw | hw <;> simp [ha4, hreach, hw, hvalid]
  have hlim : ¬ burstLimit m ≤ 0 := by cases m <;> simp [burstLimit]
  have hburst : s.burstBad m [a] (some [d]) a 0 = none := by
    unfold State.burstBad
    simp [hlim, hbad, State.holdFull, htest]
  have hword : s.writeWord m a d none = (s.regValue (spec.1 + d.toNat)).2.wr a (s.regValue (spec.1 + d.toNat)).1 := by
    unfold State.writeWord
    simp only [regAlias_normal ha hr, hn, hg]
    rw [if_neg (by revert hpriv; cases h.row.priv <;> cases s.privileged m <;> simp),
      if_neg (by revert hlocked; cases h.row.lock <;> simp), if_neg (fun hl => hlock hl.1)]
    unfold State.writeReg
    rw [hs]
  have hws : wordsFrom a [d].length = [a] := by simp [wordsFrom]
  unfold State.busWord State.busWrite
  dsimp only
  rw [Nat.zero_add, if_pos hlive, hws]
  unfold State.writeBurst
  rw [hburst]
  simp [htest, hword, State.report]

end

end Sys2Proof.Machine
end

section
/-! PROOFS. Register writes, read-clearing reads, snapshots and locks (spec/02_register_conventions.md R40 to R66; spec/11 R289). -/

namespace Sys2Proof.Machine

section
variable {s : State} {m : Master}

theorem toNat_alias (al : Alias) {a : Nat} (h : a < 0x400000) : (BitVec.ofNat 24 (aliasBase al + a)).toNat = aliasBase al + a := by
  rw [BitVec.toNat_ofNat]
  exact Nat.mod_eq_of_lt (by cases al <;> simp only [aliasBase] <;> omega)

/-- R41: a burst with an offending word records the first of them. -/
theorem busWrite_bad {addr tail bad : Nat} {data : List Word} {present : Option Bool} (hlive : s.masterLive m = true)
    (hbad : s.burstBad m (wordsFrom addr data.length) (some data) addr tail = some bad) :
    s.busWrite m addr data tail present = (s.noteBusError m bad).send (.busError m) := by
  unfold State.busWrite State.writeBurst
  simp only [hlive, hbad, if_true]
  rfl

/-- R50: DEV_UPD_SCHED takes its value while no scheduled strobe is armed. -/
theorem busWord_DEV_UPD_SCHED {al : Alias} {d : Word} (hm : s.mayWrite m Reg.DEV_UPD_SCHED = true)
    (harmed : s.flag Reg.DEV_UPD_CTRL Fld.DEV_UPD_CTRL_ARM = false) :
    s.busWord m al Reg.DEV_UPD_SCHED d =
      (s.wr Reg.DEV_UPD_SCHED (aliasValue al (s.rd Reg.DEV_UPD_SCHED) d)).send (.accepted m) := by
  rw [busWord_control hm (by decide) (h := ⟨{ off := Reg.DEV_UPD_SCHED, w := 0xFFFFFFFF }, 0⟩) rfl (.inl rfl) (by decide) rfl rfl
    (.inl (by decide)), newValue_full al _ d rfl, regValue_dev rfl rfl]
  unfold State.controlWrite
  dsimp only
  rw [if_neg (by decide), if_pos rfl, harmed, if_neg (by decide)]

/-- Bits that a mask lets through, set or written over a word whose other bits stand, add to the word what they are. -/
theorem or_newValue_of_set {row : RegRow} {al : Alias} {old d : Word} (hal : al = .normal ∨ al = .set) :
    old ||| newValue row al old d = old ||| (d &&& BitVec.ofNat 32 row.w) := by
  refine BitVec.eq_of_getLsbD_eq fun i hi => ?_
  unfold newValue
  rcases hal with rfl | rfl <;>
    simp only [aliasValue, BitVec.getLsbD_or, BitVec.getLsbD_and, BitVec.getLsbD_not] <;>
    cases old.getLsbD i <;> cases (BitVec.ofNat 32 row.w).getLsbD i <;> simp

/-- R54: bits of DEV_LOCK are set, never cleared. -/
theorem busWord_DEV_LOCK {al : Alias} {d : Word} (hm : s.mayWrite m Reg.DEV_LOCK = true) (hal : al = .normal ∨ al = .set) :
    s.busWord m al Reg.DEV_LOCK d = (s.wr Reg.DEV_LOCK (s.rd Reg.DEV_LOCK ||| (d &&& 0x7))).send (.accepted m) := by
  have hset : al ≠ .clear ∧ al ≠ .toggle := by rcases hal with rfl | rfl <;> decide
  rw [busWord_control hm (by decide) (h := ⟨{ off := Reg.DEV_LOCK, w := 0x7 }, 0⟩) rfl (.inl rfl) (by decide) rfl rfl (.inr hset),
    regValue_dev rfl rfl]
  unfold State.controlWrite
  dsimp only
  rw [if_neg (by decide), if_neg (by decide), if_neg (by decide), if_pos rfl, or_newValue_of_set hal]
  rfl

/-- A write that executes at once, as the burst of one word that REG_WRITE makes of it. -/
theorem exec_regWrite_one {al : Alias} {a : Nat} {d : Word} (ha : a < 0x400000) :
    exec (.regWrite m (BitVec.ofNat 24 (aliasBase al + a)) [d] 0) s = .next (s.busWord m al a d) := by
  have hbus : s.busWord m al a d = s.busWrite m (aliasBase al + a) [d] 0 none := by cases al <;> rfl
  rw [hbus]
  exact congrArg (fun x => Host.Outcome.next (s.busWrite m x [d] 0 none)) (toNat_alias al ha)

theorem exec_rcRead_one {a : Nat} (ha : a < 0x400000) : exec (.rcRead m (BitVec.ofNat 24 a) 1 0) s = .next (s.busRead m a 1 0) := by
  have hnat : (BitVec.ofNat 24 a).toNat = a := (BitVec.toNat_ofNat _ _).trans (Nat.mod_eq_of_lt (by omega))
  exact congrArg (fun x => Host.Outcome.next (s.busRead m x 1 0)) hnat

/-- R42: what a read of one word with read-clearing bits leaves behind, from the value that the register reads as. -/
theorem rcRead_reads {a : Nat} {h : RegHit} {v : Word} {s1 : State} (hlive : s.masterLive m = true) (hreach : s.inReach a = true)
    (htest : s.testedAt a = none) (ha : a < 0x400000) (ha4 : a % 4 = 0) (hr : regAt a = some h) (hrc : h.row.rc ≠ 0)
    (hv : s.regValue a = (v, s1)) (hsent : s1.sent = s.sent) (hother : ∀ b, b ≠ a → s1.rd b = s.rd b) :
    Does (.rcRead m (BitVec.ofNat 24 a) 1 0) s fun t =>
      t.rd a = s1.rd a &&& ~~~ BitVec.ofNat 32 h.row.rc ∧ t.sent = s.sent ++ [.readData m [v]] ∧ ∀ b, b ≠ a → t.rd b = s.rd b := by
  refine ⟨(s1.wr a (s1.rd a &&& ~~~ BitVec.ofNat 32 h.row.rc)).send (.readData m [v]), ?_, ?_, ?_, fun b hb => ?_⟩
  · rw [exec_rcRead_one ha, busRead_one hlive hreach htest ha ha4 hr, regRead_rc ha hr hrc hv]
  · rw [rd_send, rd_wr_same]
  · exact congrArg (· ++ _) hsent
  · rw [rd_send, rd_wr_other _ _ hb, hother b hb]

end

/-! ### The latches of PM_STAT -/

section
variable {s : State} {n : Nat}

theorem latchLimits_sent (s : State) (n : Nat) (limit clamp : Bool) : (s.latchLimits n limit clamp).sent = s.sent := by
  cases limit <;> cases clamp <;> rfl

theorem latchLimits_rd_ne (limit clamp : Bool) {b : Nat} (hb : b ≠ pinA n Reg.PM_STAT) :
    (s.latchLimits n limit clamp).rd b = s.rd b :=
  (rd_raiseIf_ne _ _ _ hb).trans (rd_raiseIf_ne _ _ _ hb)

theorem latchLimits_rd_free (f : Nat) (limit clamp : Bool) (a : Nat) :
    (({ s with fresh := f }).latchLimits n limit clamp).rd a = (s.latchLimits n limit clamp).rd a := by
  cases limit <;> cases clamp <;> rfl

/-- R289: PM_STAT reads as it is held once the load has been asked whether a limit or a clamp acted. -/
theorem regValue_PM_STAT {k : Fin 1536} :
    s.regValue (pinA k Reg.PM_STAT) =
      ((({ s with fresh := s.fresh + 1 }).latchLimits k (bitOf (Config.freeNat s.fresh) 0) (bitOf (Config.freeNat s.fresh) 1)).rd
          (pinA k Reg.PM_STAT),
        ({ s with fresh := s.fresh + 1 }).latchLimits k (bitOf (Config.freeNat s.fresh) 0) (bitOf (Config.freeNat s.fresh) 1)) := by
  unfold State.regValue
  rw [blockOf_pin k (by decide)]
  dsimp only
  rw [if_neg (by unfold pinA Reg.PM_STAT Reg.PM_STATE; omega), if_pos rfl]
  rfl

end

/-- Settles O11. -/
theorem registerAccesses : Obligations.RegisterAccesses := by
  refine ⟨fun m al a d h g s hm ha ha4 hr hal hw hs hg => ?_, fun m addr data tail bad s hlive hbad => ?_, fun m al d s hm harmed => ?_,
    fun m a h s hlive hreach htest ha ha4 hr hrc hstat => ?_, fun m n a s ha hlive hreach htest => ?_, fun m d s hm hvalid => ?_,
    fun m al d s hm hal => ?_⟩
  · have hlock : a ≠ Reg.DEV_LOCK := by
      rintro rfl
      cases hr
      cases hg
    refine (exec_regWrite_one ha).trans (congrArg Host.Outcome.next ?_)
    have hbus : s.busWord m al a d = s.busWrite m (aliasBase al + a) [d] 0 none := by cases al <;> rfl
    rw [hbus, busWrite_any hm ⟨ha, ha4⟩ hr hal (.inl hw) hs (.inl hlock), hg]
  · exact congrArg Host.Outcome.next (busWrite_bad hlive hbad)
  · exact (exec_regWrite_one (by decide)).trans (congrArg Host.Outcome.next (busWord_DEV_UPD_SCHED hm harmed))
  · exact rcRead_reads hlive hreach htest ha ha4 hr hrc (regValue_of_rc hr hrc hstat) rfl (fun _ _ => rfl)
  · subst ha
    refine Exists.elim (rcRead_reads (h := ⟨_, _⟩) hlive hreach htest (by unfold pinA Reg.PM_STAT; omega) (by unfold pinA Reg.PM_STAT; omega)
      ((regAt_pin n (by decide)).trans rfl) (by decide) regValue_PM_STAT (latchLimits_sent _ _ _ _)
      (fun b hb => latchLimits_rd_ne _ _ hb)) fun t ⟨hexec, hval, hsent, hother⟩ => ?_
    rw [latchLimits_rd_free] at hval hsent
    exact ⟨t, hexec, _, _, _, rfl, hval, hsent, hother⟩
  · obtain ⟨hd, hrc⟩ : d.toNat < 65536 ∧ isRc d.toNat = true := by
      unfold snapValid at hvalid
      simpa using hvalid
    have hvalue : s.regValue (0 + d.toNat) = (s.rd d.toNat, s) := by
      rw [Nat.zero_add]
      unfold isRc at hrc
      split at hrc
      case h_1 h hr => exact regValue_of_rc hr (by simpa using hrc) (fun n => by unfold pinA; omega)
      case h_2 => cases hrc
    have hbus : s.busWord m .normal Reg.DEV_SNAP d = (s.wr Reg.DEV_SNAP (s.rd d.toNat)).send (.accepted m) := by
      rw [busWord_snap hm (by decide) (by decide) (h := ⟨_, _⟩) rfl (by decide) rfl (by decide) (spec := (0, 16)) rfl hvalid, hvalue]
    refine ⟨_, congrArg Host.Outcome.next hbus, ?_, rfl, fun b hb => ?_⟩
    · rw [rd_send, rd_wr_same]
    · rw [rd_send, rd_wr_other _ _ hb]
  · exact congrArg Host.Outcome.next (busWord_DEV_LOCK hm hal)

end Sys2Proof.Machine
end

section
/-! PROOFS. The plain flow opcodes, and the checks before a step (spec/05_sequencer.md R128 to R150). -/

namespace Sys2Proof.Machine

/-! ### The check of R132 -/

section
variable {t : Strand} {w : Word64}

/-- A word whose opcode the check of R132 does not concern passes it. -/
theorem wordError_of_op {op : FlowOp} (hop : flowOp (wordOp w) = op)
    (h : op ∉ [FlowOp.reserved, .jif, .loopBegin, .call, .loopEnd, .match_, .ret]) : t.wordError w = none := by
  unfold Strand.wordError
  rw [hop]
  split
  case isTrue => rfl
  case isFalse => cases op <;> simp at h ⊢

variable (hrpt : t.rptLeft = none)
include hrpt

theorem wordError_reserved (hop : flowOp (wordOp w) = .reserved) : t.wordError w = some .illegalOp := by
  unfold Strand.wordError
  simp [hrpt, hop]

theorem wordError_jif (hop : flowOp (wordOp w) = .jif) :
    t.wordError w = if jifReserved w then some .illegalOp else none := by
  unfold Strand.wordError
  simp [hrpt, hop]

theorem wordError_loopBegin (hop : flowOp (wordOp w) = .loopBegin) :
    t.wordError w = if 8 ≤ t.loops.length then some .nestOvf else none := by
  unfold Strand.wordError
  simp [hrpt, hop]

theorem wordError_call (hop : flowOp (wordOp w) = .call) :
    t.wordError w = if 8 ≤ t.calls.length then some .nestOvf else none := by
  unfold Strand.wordError
  simp [hrpt, hop]

theorem wordError_loopEnd (hop : flowOp (wordOp w) = .loopEnd) :
    t.wordError w = if t.loops.isEmpty then some .nestUnf else none := by
  unfold Strand.wordError
  simp [hrpt, hop]

theorem wordError_match (hop : flowOp (wordOp w) = .match_) :
    t.wordError w = if t.loops.isEmpty then some .nestUnf else none := by
  unfold Strand.wordError
  simp [hrpt, hop]

theorem wordError_ret_empty (hop : flowOp (wordOp w) = .ret) (hcalls : t.calls = []) : t.wordError w = some .nestUnf := by
  unfold Strand.wordError
  simp [hrpt, hop, hcalls]

theorem wordError_ret {c : CallFrame} {rest : List CallFrame} (hop : flowOp (wordOp w) = .ret) (hcalls : t.calls = c :: rest) :
    t.wordError w = if c.depth < t.loops.length then some .loopOpen else none := by
  unfold Strand.wordError
  simp [hrpt, hop, hcalls]

end

/-! ### Steps -/

theorem opIs_of_eq {op : FlowOp} {w : Word64} (h : flowOp (wordOp w) = op) : opIs op w = true := by
  unfold opIs
  rw [h]
  cases op <;> rfl

section
variable {s s1 : State} {k per : Nat} {w : Word64}

/-- A plain step, by what its issue comes to. -/
theorem plainStep_of_issue (hi : s.issue k w = (s1, per)) :
    s.plainStep k w =
      s1.goOn k (s1.seqNext k (s.strand k).pos (s.strand k).loops (s.strand k).calls) ((s.strand k).nextAt + per) none := by
  unfold State.plainStep
  rw [hi]

/-- R131: the closing of an iteration of the innermost loop. -/
theorem loopNext_cons (p : Pos) (f : LoopFrame) (rest : List LoopFrame) (calls : List CallFrame) :
    s.loopNext k p (f :: rest) calls =
      if 1 < f.left then { pos := f.body, loops := { f with left := f.left - 1, ran := f.ran + 1 } :: rest, calls := calls, target := true }
      else s.seqNext k p rest calls := rfl

end

/-- Settles O22. -/
theorem plainFlow : Obligations.PlainFlow := by
  intro k w t s s1 per h ht hi
  subst ht
  refine ⟨fun hop => ?_, fun hop => ?_, fun hop => ?_, fun hop n hn => ?_, fun hop hrpt hlen hne n hn => ?_,
    fun hop hrpt hlen hz c m hc => ?_, fun hop hrpt f rest hloops => ?_, fun hop hrpt hlen => ?_, fun hop hrpt c rest hcalls hdepth => ?_,
    fun hop => ?_, fun hop => ?_, fun hop => ?_⟩ <;> refine congrArg Host.Outcome.next ?_
  · exact (stepWord_of_atWord h (opIs_of_eq hop) (wordError_of_op hop (by decide))).trans (plainStep_of_issue hi)
  · exact (stepWord_of_atWord h (opIs_of_eq hop) (wordError_of_op hop (by decide))).trans (plainStep_of_issue hi)
  · refine (stepWord_of_atWord h (opIs_of_eq hop) (wordError_of_op hop (by decide))).trans ?_
    simp only [hi]
  · refine (stepWord_of_atWord h (opIs_of_eq hop) (wordError_of_op hop (by decide))).trans ?_
    subst hn
    cases hr : (s.strand k).rptLeft <;> simp only [hi, hr] <;> rfl
  · refine (stepWord_of_atWord h (opIs_of_eq hop) ((wordError_loopBegin hrpt hop).trans (if_neg (by omega)))).trans ?_
    subst hn
    simp only [hi, if_neg hne]
    cases s.closing (s.strand k).pos with
    | none => rfl
    | some e =>
      obtain ⟨c, m⟩ := e
      cases m <;> rfl
  · refine (stepWord_of_atWord h (opIs_of_eq hop) ((wordError_loopBegin hrpt hop).trans (if_neg (by omega)))).trans ?_
    simp only [hi, hc, if_pos hz]
  · refine (stepWord_of_atWord h (opIs_of_eq hop) ((wordError_loopEnd hrpt hop).trans (if_neg (by simp [hloops])))).trans ?_
    simp only [hi, hloops, loopNext_cons]
  · refine (stepWord_of_atWord h (opIs_of_eq hop) ((wordError_call hrpt hop).trans (if_neg (by omega)))).trans ?_
    simp only [hi]
  · refine (stepWord_of_atWord h (opIs_of_eq hop) ((wordError_ret hrpt hop hcalls).trans (if_neg (by omega)))).trans ?_
    simp only [hi, hcalls]
  · refine (stepWord_of_atWord h (opIs_of_eq hop) (wordError_of_op hop (by decide))).trans ?_
    simp only [hi]
  · refine (stepWord_of_atWord h (opIs_of_eq hop) (wordError_of_op hop (by decide))).trans ?_
    simp only [hi]
  · refine (stepWord_of_atWord h (opIs_of_eq hop) (wordError_of_op hop (by decide))).trans ?_
    simp only [hi]

/-- Settles O23. -/
theorem stepChecks : Obligations.StepChecks := by
  intro k w t s h ht hrpt
  subst ht
  have herror {op : FlowOp} {act : State → Word64 → State} {c : Cause} (hop : flowOp (wordOp w) = op)
      (he : (s.strand k).wordError w = some c) : s.stepWord k (opIs op) act = s.stopFlow k c (s.strand k).nextAt :=
    stepWord_error h (opIs_of_eq hop) he
  refine ⟨fun hop => ?_, fun hop hcond => ?_, fun hop hlen => ?_, fun hop hlen => ?_, fun hop hloops => ?_, fun hop hloops => ?_,
    fun hop hcalls => ?_, fun hop c rest hcalls hdepth => ?_⟩ <;> refine congrArg Host.Outcome.next ?_
  · exact stepWord_error h (by simp [opIs_of_eq hop]) (wordError_reserved hrpt hop)
  · have hres : jifReserved w = true := by simp [jifReserved, hop, hcond]
    exact stepWord_error h (by simp [hres]) ((wordError_jif hrpt hop).trans (if_pos hres))
  · exact herror hop ((wordError_loopBegin hrpt hop).trans (if_pos hlen))
  · exact herror hop ((wordError_call hrpt hop).trans (if_pos hlen))
  · exact herror hop ((wordError_loopEnd hrpt hop).trans (if_pos (by simp [hloops])))
  · exact herror hop ((wordError_match hrpt hop).trans (if_pos (by simp [hloops])))
  · exact herror hop (wordError_ret_empty hrpt hop hcalls)
  · exact herror hop ((wordError_ret hrpt hop hcalls).trans (if_pos hdepth))

end Sys2Proof.Machine
end

section
/-! PROOFS. JIF and MATCH (spec/05_sequencer.md R133 to R136; spec/10_placement_and_lashing.md R279, R280). -/

namespace Sys2Proof.Machine

/-! ### JIF -/

/-- Where one member judges for all, its outcome is every member's. -/
theorem getD_singleton_default (k j : Nat) (v : Bool) : Store.getD [(k, v)] j (Store.getD [(k, v)] k false) = v := by
  have hself : Store.getD [(k, v)] k false = v := by simp [Store.getD, Store.get?]
  rw [hself]
  by_cases h : j = k <;> simp [Store.getD, Store.get?, h]

/-- R133, R279: a JIF that one judge decides, by what its issue comes to. -/
theorem exec_jif_of_judge {k : Fin 192} {w : Word64} {s s2 : State} {grp : List Nat} {win per : Nat} {taken : Bool} (h : s.atWord k w)
    (hrpt : (s.strand k).rptLeft = none) (hop : flowOp (wordOp w) = .jif) (hcond : jifCond w < 9)
    (hjudge : s.groupMode k w = true ∨ s.crew k = [k.val]) (hgrp : grp = s.crew k) (hwin : win = s.resultWindow k (s.strand k).nextAt)
    (htaken : taken = xor (bitOf (wordOpnd w) 15) (s.jifTest k win (jifCond w) grp))
    (hi : (if bitOf (wordOpnd w) 14 then s.jifClear k win (jifCond w) grp else s).issue k w = (s2, per)) :
    exec (.jif k) s = .next
      (let n := s2.jifNext k w taken (s.strand k).pos (s.strand k).loops (s.strand k).calls
       let s3 := s2.goOn k n ((s.strand k).nextAt + per) none
       if taken && n.stop.isNone then s3.request k n.pos.seg n.pos.gran true else s3) := by
  have hres : jifReserved w = false := by simp [jifReserved, hop, hcond]
  refine congrArg Host.Outcome.next ?_
  refine (stepWord_of_atWord h (by simp [opIs_of_eq hop, hres]) ((wordError_jif hrpt hop).trans (by simp [hres]))).trans ?_
  have hjudges : (if s.groupMode k w then [k.val] else s.crew k) = [k.val] := by
    rcases hjudge with hg | hc
    · rw [if_pos hg]
    · rw [hc, ite_self]
  have hgroup : (if s.groupMode k w then s.crew k else [k.val]) = grp := by
    rcases hjudge with hg | hc
    · rw [if_pos hg, hgrp]
    · rw [hgrp, hc, ite_self]
  subst hwin
  simp only [hjudges, hgroup, List.map_cons, List.map_nil, ← htaken, State.each, List.foldl_cons, List.foldl_nil, hi,
    getD_singleton_default, bne_self_eq_false, List.filter_false]

/-! ### MATCH -/

theorem getD_map_mem {α : Type} {l : List Nat} {g : Nat → α} {j : Nat} (hj : j ∈ l) (d : α) :
    Store.getD (l.map (fun i => (i, g i))) j d = g j := by
  induction l with
  | nil => cases hj
  | cons i t ih =>
    unfold Store.getD at ih ⊢
    simp only [List.map_cons, Store.get?]
    by_cases h : j = i
    · rw [if_pos h, h]
      rfl
    · rw [if_neg h]
      exact ih ((List.mem_cons.mp hj).resolve_left h)

theorem each_congr {α : Type} {l : List α} {f g : State → α → State} (h : ∀ s, ∀ x ∈ l, f s x = g s x) (s : State) :
    s.each l f = s.each l g := List.foldl_ext f g s (fun b x hx => h b x hx)

/-- A test that gives one result for every member keeps every member or none. -/
theorem filter_uniform {α : Type} {l : List α} {p : α → Bool} {c : Bool} (h : ∀ x ∈ l, p x = c) : l.filter p = if c then l else [] := by
  rw [List.filter_congr h]
  cases c <;> simp

/-- R136: member `j`, its block having exited, counts later strobes of the block in the outer one, or in their own steps. -/
def State.leaveBlock (s : State) (b : Nat) (outer : Option Nat) (j : Nat) : State :=
  s.modStrand j (fun t =>
    let lost := (t.recs.filter (fun r => r.block == some b)).flatMap (fun r => r.fails.map (fun f => f.t))
    let t1 := { t with recs := t.recs.map (fun (r : StepRec) => if r.block = some b then { r with block := outer, late := true } else r) }
    if outer.isNone then t1.setFail lost else t1)

/-- R136: member `j`, its block running again, counts later strobes of the block in the next iteration. -/
def State.stayInBlock (s : State) (b j : Nat) : State :=
  s.modStrand j (fun t => { t with
    recs := t.recs.map (fun (r : StepRec) => if r.block = some b then { r with late := true } else r) })

/-- R135: the timeout event of member `j`, with the flag that its ACT sets. -/
def State.timeoutAct (s : State) (w : Word64) (p : Pos) (at_ j : Nat) (fails : List StrobeFail) : State :=
  let s1 := s.timeoutEvent j p at_ fails
  if bitsOf (wordOpnd w) 15 14 = 1 then s1.setFld (strandA j Reg.SQ_FLAGS) Fld.SQ_FLAGS_F
    (Nat.lor (s1.fld (strandA j Reg.SQ_FLAGS) Fld.SQ_FLAGS_F) (2 ^ bitsOf (wordOpnd w) 13 12)) else s1

/-- R280: the first iteration that was empty for member `j`. -/
def State.noteFirst (s : State) (b iter j : Nat) : State :=
  s.modStrand j (fun t =>
    { t with matchFirst := if (Store.get? t.matchFirst b).isSome then t.matchFirst else Store.put t.matchFirst b iter })

/-- A MATCH whose members all have the outcome `v`, up to its step: the first empty iterations, and the iteration closed. -/
def State.matchClosed (s : State) (k : Nat) (w : Word64) (f : LoopFrame) (rest : List LoopFrame) (b win : Nat) (v : Match) : State :=
  (if s.groupMode k w then
    s.each ((s.crew k).filter (fun j => (s.blockFails j b win).isEmpty)) (fun x j => x.noteFirst b (f.ran + 1) j) else s).each
    (s.crew k) (fun x j => x.closeIteration j b win (v != .again) (blockIn rest))

/-- A MATCH whose members all have the outcome `v`, after its step was issued: the strobes that are still to come, the timeout events, the
exits recorded. `s` is the state before, `x` the one now. -/
def State.matchTaken (s x : State) (k : Nat) (w : Word64) (f : LoopFrame) (rest : List LoopFrame) (b win : Nat) (v : Match) : State :=
  let crew := s.crew k
  let x1 := if v = .again then x.each crew (fun y j => y.stayInBlock b j) else x.each crew (fun y j => y.leaveBlock b (blockIn rest) j)
  let x2 := if v = .timeout then x1.each (crew.filter (fun j => !(s.blockFails j b win).isEmpty))
    (fun y j => y.timeoutAct w (s.strand k).pos (s.strand k).nextAt j (s.blockFails j b win)) else x1
  let x3 := if v = .again then x2 else x2.each crew (fun y j => y.recordExit [j] (f.ran + 1) (v == .timeout) false)
  if s.groupMode k w && v != .again then x3.each crew (fun y j => y.lbMatch j b (s.blockFails j b win).isEmpty) else x3

/-- R135, R280: a MATCH whose members all have the same outcome, by what its issue comes to. -/
theorem exec_matchOp_of_uniform {k : Fin 192} {w : Word64} {s s2 : State} {f : LoopFrame} {rest : List LoopFrame} {b win per : Nat} {v : Match}
    (h : s.atWord k w) (hrpt : (s.strand k).rptLeft = none) (hop : flowOp (wordOp w) = .match_)
    (hjudge : s.groupMode k w = true ∨ s.crew k = [k.val]) (hloops : (s.strand k).loops = f :: rest) (hblock : f.block = some b)
    (hwin : win = s.resultWindow k (s.strand k).nextAt)
    (hv : v = if (s.crew k).all (fun j => (s.blockFails j b win).isEmpty) then .pass else if 1 < f.left then .again else .timeout)
    (hi : (s.matchClosed k w f rest b win v).issue k w = (s2, per)) :
    exec (.matchOp k) s = .next (let x := s.matchTaken s2 k w f rest b win v
      x.goOn k (x.matchNext k v (s.strand k).pos (f :: rest) (s.strand k).calls) ((s.strand k).nextAt + per) (matchCause w v)) := by
  refine congrArg Host.Outcome.next ?_
  refine (stepWord_of_atWord h (opIs_of_eq hop) ((wordError_match hrpt hop).trans (if_neg (by simp [hloops])))).trans ?_
  subst hwin
  extract_lets t win crew grouped x
  rw [show t.loops = f :: rest from hloops]
  simp -zeta only [hblock, Option.getD_some]
  extract_lets b iter fails failsOf verdict all out outer s0 s1 s2b s3 s4 s6 s7 start s8
  have hfails : ∀ j ∈ crew, failsOf j = s.blockFails j b win := fun j hj => getD_map_mem hj []
  have hall : all = v := by
    rw [hv]
    exact congrArg verdict (Bool.eq_iff_iff.mpr (by
      rw [List.all_eq_true, List.all_eq_true]
      exact forall₂_congr fun j hj => by rw [hfails j hj]))
  have hout : ∀ j ∈ crew, out j = v := fun j hj => by
    refine Eq.trans ?_ hall
    rcases hjudge with hg | hc
    · exact if_pos hg
    · have hcrew : crew = [j] := by
        rw [show crew = [k.val] from hc] at hj ⊢
        rw [List.mem_singleton.mp hj]
      have hone : all = verdict (failsOf j).isEmpty := congrArg verdict (by rw [hcrew]; simp)
      exact (congrArg (ite _ all) hone.symm).trans (ite_self all)
  have hk : k.val ∈ crew := crew_self s k
  have hissue : s1.issue k w = (s2, per) := by
    rw [← hi]
    refine congrArg (State.issue · k w) ((each_congr (fun y j hj => by rw [hout j hj]) _).trans ?_)
    refine congrArg (State.each · crew _) (if_congr Iff.rfl (congrArg (s.each · _) ?_) rfl)
    exact List.filter_congr fun j hj => by rw [hfails j hj]
  have h1 : s3 = if v = .again then s2.each crew (fun y j => y.stayInBlock b j)
      else s2.each crew (fun y j => y.leaveBlock b (blockIn rest) j) := by
    have hleave : crew.filter (fun j => out j != .again) = if v != .again then crew else [] :=
      filter_uniform fun j hj => by rw [hout j hj]
    have hstay : crew.filter (fun j => out j == .again) = if v == .again then crew else [] :=
      filter_uniform fun j hj => by rw [hout j hj]
    simp only [s3, s2b, hissue, hleave, hstay]
    cases v <;> rfl
  have h2 : s4 = if v = .timeout then s3.each (crew.filter (fun j => !(s.blockFails j b win).isEmpty))
      (fun y j => y.timeoutAct w (s.strand k).pos (s.strand k).nextAt j (s.blockFails j b win)) else s3 := by
    have hfiltered : crew.filter (fun j => out j == .timeout && !(failsOf j).isEmpty) =
        if v = .timeout then crew.filter (fun j => !(s.blockFails j b win).isEmpty) else [] := by
      rw [List.filter_congr (q := fun j => v == .timeout && !(s.blockFails j b win).isEmpty)
        fun j hj => by rw [hout j hj, hfails j hj]]
      cases v <;> simp
    refine (congrArg (s3.each · _) hfiltered).trans ?_
    by_cases htimeout : v = .timeout
    · rw [if_pos htimeout, if_pos htimeout]
      exact each_congr (fun y j hj => by rw [hfails j (List.mem_filter.mp hj).1]; rfl) _
    · rw [if_neg htimeout, if_neg htimeout]
      rfl
  have h3 : s6 = if v = .again then s4 else s4.each crew (fun y j => y.recordExit [j] (f.ran + 1) (v == .timeout) false) := by
    have hexit : crew.filter (fun j => out j != .again) = if v != .again then crew else [] :=
      filter_uniform fun j hj => by rw [hout j hj]
    refine (congrArg (s4.each · _) hexit).trans ?_
    by_cases hagain : v = .again
    · rw [if_neg (by simp [hagain]), if_pos hagain]
      rfl
    · rw [if_pos (by simp [hagain]), if_neg hagain]
      exact each_congr (fun y j hj => by rw [hout j hj]) _
  have h4 : s7 = if s.groupMode k w && v != .again then s6.each crew (fun y j => y.lbMatch j b (s.blockFails j b win).isEmpty) else s6 :=
    if_congr (by rw [hall]) (each_congr (fun y j hj => by rw [hfails j hj]) _) rfl
  have h8 : s8 = s7 := by
    have hnone : crew.filter (fun j => out j != out k) = [] :=
      filter_uniform (c := false) fun j hj => by rw [hout j hj, hout k hk, bne_self_eq_false]
    exact congrArg (s7.each · _) hnone
  have hx : s8 = x := by
    rw [h8, h4, h3, h2, h1]
    rfl
  rw [hx, hout k hk, show start = (s.strand k).nextAt + per from congrArg (fun e => (s.strand k).nextAt + e.2) hissue]

section
variable {s x : State} {k b win : Nat} {w : Word64} {f : LoopFrame} {rest : List LoopFrame}

theorem matchTaken_pass (hpass : ∀ j ∈ s.crew k, s.blockFails j b win = []) :
    s.matchTaken x k w f rest b win .pass =
      let y := (x.each (s.crew k) (fun y j => y.leaveBlock b (blockIn rest) j)).each (s.crew k) (fun y j => y.recordExit [j] (f.ran + 1) false false)
      if s.groupMode k w then y.each (s.crew k) (fun y j => y.lbMatch j b true) else y :=
  if_congr (by rw [show (Match.pass != Match.again) = true from rfl, Bool.and_true])
    (each_congr (fun y j hj => by rw [hpass j hj]; rfl) _) rfl

theorem matchTaken_again : s.matchTaken x k w f rest b win .again = x.each (s.crew k) (fun y j => y.stayInBlock b j) :=
  if_neg (by simp)

theorem matchTaken_timeout :
    s.matchTaken x k w f rest b win .timeout =
      let y := ((x.each (s.crew k) (fun y j => y.leaveBlock b (blockIn rest) j)).each
        ((s.crew k).filter (fun j => !(s.blockFails j b win).isEmpty))
        (fun y j => y.timeoutAct w (s.strand k).pos (s.strand k).nextAt j (s.blockFails j b win))).each (s.crew k)
        (fun y j => y.recordExit [j] (f.ran + 1) true false)
      if s.groupMode k w then y.each (s.crew k) (fun y j => y.lbMatch j b (s.blockFails j b win).isEmpty) else y :=
  if_congr (by rw [show (Match.timeout != Match.again) = true from rfl, Bool.and_true]) rfl rfl

end

/-- Settles O24. -/
theorem jifAndMatch : Obligations.JifAndMatch := by
  refine ⟨fun k w t s s1 s2 grp win per taken n h ht hrpt hop hcond hjudge hgrp hwin htaken hs1 hi hn => ?_,
    fun k w t s crew f rest b win g h ht hrpt hop hcrew hg hjudge hloops hblock hwin => ?_⟩
  · subst ht hs1
    rw [exec_jif_of_judge h hrpt hop hcond hjudge hgrp hwin htaken hi]
    subst hn
    rfl
  · subst ht hcrew hg
    intro first leave s1
    have hempty (h : ∃ j ∈ s.crew k, s.blockFails j b win ≠ []) : ¬ (s.crew k).all (fun j => (s.blockFails j b win).isEmpty) = true := by
      obtain ⟨j, hj, hne⟩ := h
      exact fun hall => hne (List.isEmpty_iff.mp (List.all_eq_true.mp hall j hj))
    refine ⟨fun hpass s2 per hi => ?_, fun hfail hleft s2 per hi => ?_, fun hfail hleft s2 per hi => ?_⟩
    · have hall : (s.crew k).all (fun j => (s.blockFails j b win).isEmpty) = true :=
        List.all_eq_true.mpr fun j hj => List.isEmpty_iff.mpr (hpass j hj)
      rw [exec_matchOp_of_uniform (v := .pass) h hrpt hop hjudge hloops hblock hwin (if_pos hall).symm hi,
        matchTaken_pass hpass]
      rfl
    · rw [exec_matchOp_of_uniform (v := .again) h hrpt hop hjudge hloops hblock hwin
        ((if_neg (hempty hfail)).trans (if_pos hleft)).symm hi,
        matchTaken_again]
      exact congrArg (fun n => Host.Outcome.next (State.goOn _ _ n _ _)) (if_pos hleft)
    · rw [exec_matchOp_of_uniform (v := .timeout) h hrpt hop hjudge hloops hblock hwin
        ((if_neg (hempty hfail)).trans (if_neg (by omega))).symm hi,
        matchTaken_timeout]
      simp only [matchCause, true_and]
      rfl

end Sys2Proof.Machine
end

section
/-! PROOFS. Held steps, waits and run starts (spec/05_sequencer.md R143 to R156; spec/10_placement_and_lashing.md R284, R285). -/

namespace Sys2Proof.Machine

section
variable {s : State} {k : Nat}

/-- R152: where no cause is due, none stops a flow at its step start. -/
theorem takeStops_of_no_dueStops (h : ∀ j ∈ s.crew k, s.dueStops j (s.strand k).nextAt (s.strand k).segStart = []) :
    s.takeStops k (s.strand k).nextAt = (s, false) := by
  have hall (l : List Nat) (hl : ∀ j ∈ l, s.dueStops j (s.strand k).nextAt (s.strand k).segStart = []) :
      s.each l (fun x j => match x.dueStops j (s.strand k).nextAt (s.strand k).segStart with
        | [] => x
        | l => x.stopAlone j (worst l) (s.strand k).nextAt) = s := by
    induction l with
    | nil => rfl
    | cons i t ih =>
      unfold State.each at ih ⊢
      rw [List.foldl_cons, hl i List.mem_cons_self]
      exact ih fun j hj => hl j (List.mem_cons_of_mem _ hj)
  unfold State.takeStops
  dsimp only
  rw [h k (crew_self s k)]
  exact congrArg (·, false) (hall _ fun j hj => h j (List.mem_filter.mp hj).1)

/-- R143: the first word of a transfer target that is absent at its read point holds the step. -/
theorem readWord_hold (h : ∀ j ∈ s.crew k, s.dueStops j (s.strand k).nextAt (s.strand k).segStart = [])
    (hlimit : s.pastLimit k (s.strand k).nextAt = false)
    (hmarred : s.marredAt k (s.strand k).pos (readPoint (s.strand k).nextAt) = false)
    (habsent : s.present k (s.strand k).pos (readPoint (s.strand k).nextAt) = false) (htarget : (s.strand k).target = true) :
    s.readWord k = .hold s := by
  unfold State.readWord
  simp only [takeStops_of_no_dueStops h, hlimit, hmarred, habsent, htarget, Bool.false_eq_true, if_false, if_true]

/-- R145: a strand in its wait that takes no leader's flow. -/
theorem waits_of_state (hst : s.sqState k = 3) (hrole : s.role k ≠ 2) : (s.sqState k == 3 && s.role k != 2) = true := by
  simp [hst, hrole]

/-- R144: at its limit a held step parks. -/
theorem readWord_limit (h : ∀ j ∈ s.crew k, s.dueStops j (s.strand k).nextAt (s.strand k).segStart = [])
    (hlimit : s.pastLimit k (s.strand k).nextAt = true) : s.readWord k = .limit s := by
  unfold State.readWord
  simp only [takeStops_of_no_dueStops h, hlimit, Bool.false_eq_true, if_false, if_true]

end

/-- R151: a run whose members are free starts at its instant. -/
theorem exec_runStart_of_free {k : Fin 192} {l : Launch} {g b : Nat} {s s1 : State} {members : List Nat}
    (hl : (s.strand k).launch = some l) (hg : l.seg = some g) (hb : b = s.unitsOf l.at_) (hs1 : s1 = (s.advanceTo b).fireBound b)
    (hmembers : members = if s1.role k = 1 then k.val :: (s1.groupOf k).filter (fun j => j != k.val) else [k.val])
    (hfree : ∀ j ∈ members, s.sqState j ≠ 6 ∧ (s.strand j).endDue = false) :
    exec (.runStart k) s = .next (((((s1.each members (fun x j => x.startMember j k b)).showMarks s1).modStrand k (fun t =>
      { t with pos := ⟨g, 0⟩, segStart := true, target := true })).lookahead k)) := by
  have htested : members.any (fun j => s.sqState j == 6) = false :=
    List.any_eq_false.mpr fun j hj => by simp [(hfree j hj).1]
  have hdue : members.any (fun j => (s.strand j).endDue) = false :=
    List.any_eq_false.mpr fun j hj => by simp [(hfree j hj).2]
  refine congrArg Host.Outcome.next ?_
  subst hb
  simp only [hl, hg, ← hs1, ← hmembers, htested, hdue, Bool.false_eq_true, if_false]

/-- Settles O25. -/
theorem holdsAndWaits : Obligations.HoldsAndWaits := by
  refine ⟨fun k t s ht hflow hstops hlimit hmarred habsent htarget => ?_, fun k t s ht hflow hstops hlimit => ?_,
    fun k w t s s1 at_ h ht hrpt hop hbit htake => ?_, fun k w l us s h hrpt hop hbit hl hus => ?_, fun k t s hst hrole hwait => ?_,
    fun k b d l lim s hst hrole hwait hl => ?_, fun k lim d start s hst hrole hwait hstart => ?_,
    fun k l g b s s1 members hl hg hb hs1 hmembers hfree => ?_, fun k l b s hl hseg hb hst => ?_⟩
  · subst ht
    refine congrArg Host.Outcome.next ?_
    rw [if_pos hflow, readWord_hold hstops hlimit hmarred habsent htarget]
    rfl
  · subst ht
    refine congrArg Host.Outcome.next ?_
    rw [if_pos hflow, readWord_limit hstops hlimit]
  · subst ht
    refine congrArg Host.Outcome.next ?_
    refine (stepWord_of_atWord h (opIs_of_eq hop) (wordError_of_op hop (by decide))).trans ?_
    simp only [hbit, htake, Bool.false_eq_true, if_false]
    cases at_ <;> rfl
  · subst hl hus
    refine congrArg Host.Outcome.next ?_
    refine (stepWord_of_atWord h (opIs_of_eq hop) (wordError_of_op hop (by decide))).trans ?_
    simp only [hbit, if_true]
    refine if_congr ?_ rfl rfl
    simp [or_assoc]
  · refine congrArg Host.Outcome.next ?_
    simp only [waits_of_state hst hrole, hwait]
  · subst hl
    refine congrArg Host.Outcome.next ?_
    simp only [waits_of_state hst hrole, hwait]
    rfl
  · refine congrArg Host.Outcome.next ?_
    simp only [waits_of_state hst hrole, hwait]
    cases start with
    | none => rfl
    | some b => exact if_pos (decide_eq_true (hstart b rfl))
  · exact exec_runStart_of_free hl hg hb hs1 hmembers hfree
  · refine congrArg Host.Outcome.next ?_
    subst hb
    simp only [hl, hseg]
    exact if_pos hst

end Sys2Proof.Machine
end

section
/-! PROOFS. Adeo frames and frames through the ring ports (spec/15_ring_and_system.md R380 to R400). -/

namespace Sys2Proof.Machine

/-! ### What noting a frame leaves unchanged -/

theorem noted_fld (s : State) (type : Nat) (f : Adeo) (a : Nat) (g : Field) : (s.noted type f).fld a g = s.fld a g := by
  unfold State.noted
  split <;> rfl

theorem noted_linkState (s : State) (type : Nat) (f : Adeo) (p : Nat) : (s.noted type f).linkState p = s.linkState p := noted_fld ..

theorem noted_cr (s : State) (type : Nat) (f : Adeo) (p t i : Nat) : (s.noted type f).cr p t i = s.cr p t i := by
  unfold State.noted
  split <;> rfl

theorem noted_port (s : State) (type : Nat) (f : Adeo) (p : Nat) : (s.noted type f).port p = s.port p := by
  unfold State.noted
  split <;> rfl

theorem noted_audited (s : State) (type : Nat) (f : Adeo) : (s.noted type f).ring.audited = s.ring.audited := by
  unfold State.noted
  split <;> rfl

theorem noted_tideOf (s : State) (type : Nat) (f : Adeo) (t : Nat) : (s.noted type f).tideOf t = s.tideOf t := by
  unfold State.noted
  split <;> rfl

theorem noted_fine (s : State) (type : Nat) (f : Adeo) (t : Nat) (half : Bool) : (s.noted type f).fine t half = s.fine t half := by
  unfold State.noted
  split <;> rfl

/-! ### What a frame that the device takes does -/

/-- R413: a mark is sent on with the delay of its port and its residence time in CORR. -/
theorem exec_tideMark_of_takes {p : Fin 2} {f : Adeo} {at_ stay : Nat} {half : Bool} {s s1 : State} (h1 : s1 = s.advanceTo at_)
    (ht : s1.takes p 1 f) (hk : f.at_ 0x10 1 = 0) :
    exec (.tideMark p f at_ half stay) s = .next (((s1.noted 1 f).mark p f ((s1.noted 1 f).fine at_ half)).relay p 1
      { f with body := f.body.take 0x18 ++ fineBytes (signed 64 (f.at_ 0x28 8) + s1.tlPd p + stay) }) := by
  subst h1
  refine congrArg Host.Outcome.next ((adeoWith_takes ht ..).trans ?_)
  rw [if_pos hk, if_pos hk]

/-- R390: a CREDIT frame moves the sender's counters forward, and what waited is sent. -/
theorem exec_credit_of_takes {p : Fin 2} {f : Adeo} {at_ : Nat} {s s1 : State} (h1 : s1 = s.advanceTo at_) (ht : s1.takes p 6 f)
    (hl : s1.linkState p = 3) :
    exec (.credit p f at_) s = .next (((([1, 2, 3].foldl (fun x t => (x.addCr p t 1 (unsigned 32 ((f.at_ (0x10 + 4 * (t - 1)) 4 : Nat) - (x.cr p t 3 : Nat)))).wr
      (crA p t 3) (BitVec.ofNat 32 (f.at_ (0x10 + 4 * (t - 1)) 4))) (s1.noted 6 f)).drain p).relay p 6 f)) := by
  subst h1
  refine congrArg Host.Outcome.next ((adeo_takes ht _).trans ?_)
  rw [if_neg (by rw [noted_linkState]; simp [hl])]
  rfl

/-- R389: a LINK_INIT that answers the device's own brings the link up. -/
theorem exec_linkInit_of_takes {p : Fin 2} {f : Adeo} {at_ : Nat} {s s1 : State} (h1 : s1 = s.advanceTo at_) (ht : s1.takes p 9 f)
    (hl : s1.linkState p = 2) :
    exec (.linkInit p f at_) s = .next ((
      let s2 := ((s1.noted 9 f).initCredits p f).setFld (linkA p) Fld.RG_LINK_STATE 3
      (((s2.announce p 1 (s2.fld (linkA p) Fld.RG_LINK_CAUSE)).delBreak s2.devAddr p).settleOwed).drain p).relay p 9 f) := by
  subst h1
  refine congrArg Host.Outcome.next ((adeo_takes ht _).trans ?_)
  rw [if_pos (by rw [noted_linkState, hl])]

/-- R391: the audit reply that the device waits for is compared with its snapshot. -/
theorem exec_audit_of_takes {p : Fin 2} {f : Adeo} {at_ c sent avail ret : Nat} {s s1 : State} (h1 : s1 = s.advanceTo at_) (ht : s1.takes p 2 f)
    (hc : f.at_ 0x18 1 = c) (hget : Store.get? (s1.port p).audit c = some (sent, avail, ret))
    (haud : s1.ring.audited.map s1.tideOf = some (f.at_ 0x10 8)) :
    exec (.audit p f at_) s = .next ((
      let flight := ((sent : Int) - (f.at_ 0x1C 4 : Nat)) + ((f.at_ 0x20 4 : Nat) - (ret : Int))
      let d := signed 32 (unsigned 32 ((s1.cr p c 0 : Int) - (avail + flight + (f.at_ 0x24 4 : Nat))))
      let s2 := (s1.noted 2 f).modPort p (fun r => { r with audit := Store.del r.audit c })
      (if d = 0 then s2 else (s2.satAdd Reg.RG_AUDIT Fld.RG_AUDIT_FAIL 1).imbalance 4 (256 * p + c) 0 d (srcRing p) 1).auditOver).relay p 2 f) := by
  subst h1 hc
  have htide : (((s.advanceTo at_).noted 2 f).ring.audited.map ((s.advanceTo at_).noted 2 f).tideOf) = some (f.at_ 0x10 8) := by
    rw [noted_audited, ← haud, funext (noted_tideOf (s.advanceTo at_) 2 f)]
  refine congrArg Host.Outcome.next ((adeo_takes ht _).trans ?_)
  dsimp only
  rw [noted_port, hget]
  dsimp only
  rw [if_neg (not_not_intro htide), noted_cr]

/-- R413: the answer to the device's own delay request gives a link delay, averaged over the last 16. -/
theorem exec_pdelayResp_of_takes {p : Fin 2} {f : Adeo} {at_ q : Nat} {half : Bool} {t1 d : Int} {l : List Int} {s s1 : State}
    (h1 : s1 = s.advanceTo at_) (ht : s1.takes p 1 f) (hk : f.at_ 0x10 1 = 2) (hp : (s1.port p).pdelay = some (q, t1)) (hq : f.at_ 0x14 4 = q)
    (hd : d = fineDiff (s1.fine at_ half) t1 - fineDiff (f.at_ 0x20 8 : Nat) (f.at_ 0x18 8 : Nat)) (hl : l = (d :: (s1.port p).delays).take 16) :
    exec (.pdelayResp p f at_ half) s = .next ((((s1.noted 1 f).modPort p (fun r => { r with pdelay := none, delays := l })).wr (Reg.TL_PD0 + 4 * p)
      (BitVec.ofNat 32 (unsigned 32 (openDiv (l.foldl (· + ·) 0) (2 * l.length))))).relay p 1 f) := by
  subst h1 hl hd
  refine congrArg Host.Outcome.next ((adeo_takes ht _).trans ?_)
  dsimp only
  rw [noted_port, hp]
  dsimp only
  rw [if_neg (by simp [hk, hq]), noted_fine]

/-! ### What becomes of a frame that the device does not take -/

/-- The frames of spec/15 that are forwarded as they are. -/
theorem exec_adeoFrame {c : Instr} {p : Fin 2} {type : Nat} {f : Adeo} {at_ : Nat} {s : State}
    (hc : (c, type) ∈ [(Instr.slack p f at_, 3), (Instr.heartbeat p f at_, 4), (Instr.hbReply p f at_, 5), (Instr.credit p f at_, 6),
      (Instr.active p f at_, 7), (Instr.link p f at_, 8), (Instr.linkInit p f at_, 9), (Instr.audit p f at_, 2)]) :
    ∃ act, exec c s = .next ((s.advanceTo at_).adeo p type f act) := by
  simp only [List.mem_cons, Prod.mk.injEq, List.not_mem_nil, or_false] at hc
  rcases hc with ⟨rfl, rfl⟩ | ⟨rfl, rfl⟩ | ⟨rfl, rfl⟩ | ⟨rfl, rfl⟩ | ⟨rfl, rfl⟩ | ⟨rfl, rfl⟩ | ⟨rfl, rfl⟩ | ⟨rfl, rfl⟩ <;>
    exact ⟨_, rfl⟩

/-- Settles O26: what a frame that the device takes does to the noted state, and where the other frames end. -/
theorem adeoFrames : Obligations.AdeoFrames := by
  unfold Obligations.AdeoFrames
  refine ⟨?_, ?_, ?_, fun _ _ _ _ _ => exec_credit_of_takes, ?_, ?_, fun _ _ _ _ _ => exec_linkInit_of_takes,
    fun _ _ _ _ _ _ _ _ _ => exec_audit_of_takes, fun _ _ _ _ _ _ _ => exec_tideMark_of_takes, ?_,
    fun _ _ _ _ _ _ _ _ _ _ => exec_pdelayResp_of_takes, ?_⟩
  · rintro p f at_ s s1 rfl ht
    exact congrArg Host.Outcome.next (adeo_takes ht _)
  · rintro p f at_ s s1 s2 s3 dev q rfl ht hfree hseq
    refine congrArg Host.Outcome.next ((adeo_takes ht _).trans ?_)
    simp only [hfree, hseq]
  · rintro p f at_ s s1 rfl ht
    exact congrArg Host.Outcome.next (adeo_takes ht _)
  · rintro p f at_ s s1 rfl ht
    exact congrArg Host.Outcome.next (adeo_takes ht _)
  · rintro p f at_ s s1 rfl ht
    exact congrArg Host.Outcome.next (adeo_takes ht _)
  · rintro p f at_ stay half s s1 rfl ht hk
    refine congrArg Host.Outcome.next ((adeo_takes ht _).trans ?_)
    rw [if_pos hk]
  · rintro c p type f at_ s s1 rfl hc
    obtain ⟨act, hact⟩ := exec_adeoFrame (s := s) hc
    exact ⟨fun h => hact.trans (congrArg _ (adeoWith_deaf h ..)), fun h hv => hact.trans (congrArg _ (adeoWith_version h hv ..)),
      fun h hv hr => hact.trans (congrArg _ (adeoWith_ring h hv hr ..)), fun h hv hr ho => hact.trans (congrArg _ (adeoWith_own h hv hr ho ..))⟩

/-! ### Frames through the ring ports -/

theorem linkState_addCr (s : State) (p t i q : Nat) (n : Int) : (s.addCr p t i n).linkState q = s.linkState q := by
  have hne : linkA q ≠ crA p t i := by
    simp only [crA, linkA, Reg.RG_LINK, Reg.RG_CR_CLINK]
    omega
  unfold State.linkState State.addCr
  rw [fld_wr_ne _ _ _ hne]

/-- R381, R382: what an open port does with a frame other than the Adeo frames of the ring. -/
def State.takeFrame (s : State) (p : Nat) (f : EthFrame) : State :=
  let t := s.classOf (f.tag.map (fun k => k.val))
  let n := frameCells f.len
  let checked := if f.good then s else s.satAdd (linkErrA p) Fld.RG_LINK_ERR_FCS 1
  if 4178 < f.len then (s.satAdd (linkErrA p) Fld.RG_LINK_ERR_GIANT 1).consumed p t n
  else if f.dst = s.htMac ∧ f.etype = 0x0800 then
    if f.good then (checked.consumed p t n).rxIn p f.len else checked.consumed p t n
  else if f.etype = 0x88B5 ∨ f.etype = 0x8808 then checked
  else if f.src = s.htMac then (checked.satAdd (linkErrA p) Fld.RG_LINK_ERR_LOOP 1).consumed p t n
  else s.transit p f

theorem exec_frameForward_of_up {p : Fin 2} {f : EthFrame} {at_ : Nat} {s s1 : State} (h1 : s1 = s.advanceTo at_) (hring : s1.onRing = true)
    (hgrave : s1.forced.grave = false) (hlink : s1.linkState p = 3) : exec (.frameForward p f at_) s = .next (s1.takeFrame p f) := by
  subst h1
  refine congrArg Host.Outcome.next (if_neg ?_)
  rw [hring, hgrave, hlink]
  decide

theorem takeFrame_giant {s : State} {p : Nat} {f : EthFrame} (hlen : 4178 < f.len) :
    s.takeFrame p f = (s.satAdd (linkErrA p) Fld.RG_LINK_ERR_GIANT 1).consumed p (s.classOf (f.tag.map (fun k => k.val))) (frameCells f.len) :=
  if_pos hlen

theorem takeFrame_host {s : State} {p : Nat} {f : EthFrame} (hlen : f.len ≤ 4178) (hgood : f.good = true) (hdst : f.dst = s.htMac)
    (htype : f.etype = 0x0800) :
    s.takeFrame p f = (s.consumed p (s.classOf (f.tag.map (fun k => k.val))) (frameCells f.len)).rxIn p f.len := by
  unfold State.takeFrame
  dsimp only
  rw [if_neg (by omega), if_pos ⟨hdst, htype⟩, if_pos hgood, if_pos hgood]

theorem takeFrame_host_bad {s : State} {p : Nat} {f : EthFrame} (hlen : f.len ≤ 4178) (hbad : f.good = false) (hdst : f.dst = s.htMac)
    (htype : f.etype = 0x0800) :
    s.takeFrame p f = (s.satAdd (linkErrA p) Fld.RG_LINK_ERR_FCS 1).consumed p (s.classOf (f.tag.map (fun k => k.val))) (frameCells f.len) := by
  unfold State.takeFrame
  dsimp only
  rw [if_neg (by omega), if_pos ⟨hdst, htype⟩, if_neg (by simp [hbad]), if_neg (by simp [hbad])]

theorem takeFrame_mac {s : State} {p : Nat} {f : EthFrame} (hlen : f.len ≤ 4178) (htype : f.etype = 0x88B5 ∨ f.etype = 0x8808) :
    s.takeFrame p f = if f.good then s else s.satAdd (linkErrA p) Fld.RG_LINK_ERR_FCS 1 := by
  have hip : ¬(f.dst = s.htMac ∧ f.etype = 0x0800) := by
    rintro ⟨-, hip⟩
    rw [hip] at htype
    exact absurd htype (by decide)
  unfold State.takeFrame
  dsimp only
  rw [if_neg (by omega), if_neg hip, if_pos htype]

theorem takeFrame_own {s : State} {p : Nat} {f : EthFrame} (hlen : f.len ≤ 4178) (hgood : f.good = true)
    (hip : ¬(f.dst = s.htMac ∧ f.etype = 0x0800)) (hmac : ¬(f.etype = 0x88B5 ∨ f.etype = 0x8808)) (hsrc : f.src = s.htMac) :
    s.takeFrame p f = (s.satAdd (linkErrA p) Fld.RG_LINK_ERR_LOOP 1).consumed p (s.classOf (f.tag.map (fun k => k.val))) (frameCells f.len) := by
  unfold State.takeFrame
  dsimp only
  rw [if_neg (by omega), if_neg hip, if_neg hmac, if_pos hsrc, if_pos hgood]

theorem takeFrame_transit {s : State} {p : Nat} {f : EthFrame} (hlen : f.len ≤ 4178) (hip : ¬(f.dst = s.htMac ∧ f.etype = 0x0800))
    (hmac : ¬(f.etype = 0x88B5 ∨ f.etype = 0x8808)) (hsrc : f.src ≠ s.htMac) : s.takeFrame p f = s.transit p f := by
  unfold State.takeFrame
  dsimp only
  rw [if_neg (by omega), if_neg hip, if_neg hmac, if_neg hsrc]

/-- R383, R390: a good frame for another device waits for the opposite port, whose link is up. -/
theorem transit_of_up {s : State} {p t n : Nat} {f : EthFrame} (hgood : f.good = true) (hup : s.linkState (otherPort p) ≠ 0)
    (ht : t = s.classOf (f.tag.map (fun k => k.val))) (hn : n = frameCells f.len) :
    s.transit p f = (((s.addCr p t 4 n).addCr p t 6 n).modPort (otherPort p) (fun r =>
        { r with transit := r.transit ++ [⟨t, n, .forward f⟩] })).drain (otherPort p) := by
  subst ht hn
  unfold State.transit
  dsimp only
  rw [if_pos hgood, if_neg (by rwa [linkState_addCr])]

/-- Settles O27: the order in which an arriving frame is looked at (R381, R382). -/
theorem frameForwarding : Obligations.FrameForwarding := by
  unfold Obligations.FrameForwarding
  rintro p f at_ t n s s1 h1 hring hgrave hlink rfl rfl
  rw [exec_frameForward_of_up h1 hring hgrave hlink]
  exact ⟨fun hlen => congrArg _ (takeFrame_giant hlen),
    fun hlen hgood hdst htype => congrArg _ (takeFrame_host hlen hgood hdst htype),
    fun hlen hbad hdst htype => congrArg _ (takeFrame_host_bad hlen hbad hdst htype),
    fun hlen htype => congrArg _ (takeFrame_mac hlen htype),
    fun hlen hgood hip hadeo hpause hsrc => congrArg _ (takeFrame_own hlen hgood hip (not_or_intro hadeo hpause) hsrc),
    fun hlen hgood hip hadeo hpause hsrc hup =>
      congrArg _ ((takeFrame_transit hlen hip (not_or_intro hadeo hpause) hsrc).trans (transit_of_up hgood hup rfl rfl))⟩

end Sys2Proof.Machine
end

section
/-! PROOFS. The ring ports at their own times (spec/15_ring_and_system.md R389 to R400). -/

namespace Sys2Proof.Machine

/-- R398: a link that is up goes down. -/
theorem linkDown_of_up {s s2 : State} {p cause : Nat} (hup : s.linkState p ≠ 0)
    (h2 : s2 = ((((s.setFld (linkA p) Fld.RG_LINK_STATE 0).setFld (linkA p) Fld.RG_LINK_CAUSE cause).flushPort p).modPort p (fun r =>
      { r with misses := 0, pendSince := none, pdelay := none }))) :
    s.linkDown p cause = ((s2.announce p 0 cause).addBreak p s2.devAddr p).fault (srcRing p) 0 cause := by
  subst h2
  unfold State.linkDown
  rw [if_neg hup]

/-- R390: pending credit is returned 2 µs after the first cell, outside the guard of an audit. -/
theorem exec_creditTimeout_of_pending {p : Fin 2} {t : Nat} {s : State} (hp : (s.port p).pendSince = some t) (hg : s.ring.guard = none)
    (hl : s.linkState p = 3) : exec (.creditTimeout p) s = .next ((s.advanceTo (t + 2 * usU)).sendCredit p) := by
  refine congrArg Host.Outcome.next ?_
  rw [hp]
  dsimp only
  rw [if_neg (by simp [hg, hl])]

/-- R391: the guard of the next audit instant begins one microsecond before it. -/
theorem exec_auditGuard_of_valid {t : Nat} {s s1 : State} (hg : s.ring.guard = none) (hv : s.tideValid = true)
    (ht : t = (s.tideNow / 12000000 + 1) * 12000000) (h1 : s1 = s.advanceTo (s.unitsOf t - usU)) :
    exec .auditGuard s = .next { s1 with ring := { s1.ring with guard := some t } } := by
  subst h1 ht
  refine congrArg Host.Outcome.next (if_neg ?_)
  simp [hg, hv]

/-! ### The entry refreshed longest ago -/

/-- The least entry of a list with no other as low is what the search for the oldest finds, wherever the search started. -/
theorem foldl_oldest {e : Nat × Nat} {l : List (Nat × Nat)} {a : Nat × Nat} (hmem : a = e ∨ e ∈ l)
    (ha : a = e ∨ e.2 < a.2) (hl : ∀ d ∈ l, d = e ∨ e.2 < d.2) :
    l.foldl (fun (a : Nat × Nat) b => if b.2 < a.2 then b else a) a = e := by
  induction l generalizing a with
  | nil => exact hmem.resolve_right (by simp)
  | cons d t ih =>
    have hd := hl d (by simp)
    have ht : ∀ x ∈ t, x = e ∨ e.2 < x.2 := fun x hx => hl x (by simp [hx])
    rw [List.foldl_cons]
    by_cases hlt : d.2 < a.2
    · rw [if_pos hlt]
      refine ih ?_ hd ht
      rcases hmem with rfl | hmem
      · rcases hd with rfl | hd <;> omega
      · rcases List.mem_cons.mp hmem with rfl | hmem
        · exact .inl rfl
        · exact .inr hmem
    · rw [if_neg hlt]
      refine ih ?_ ha ht
      rcases ha with rfl | ha
      · exact .inl rfl
      · rcases hmem with rfl | hmem
        · exact .inl rfl
        · rcases List.mem_cons.mp hmem with rfl | hmem
          · exact absurd ha hlt
          · exact .inr hmem

/-- R400: the entry refreshed longest ago goes 3 ms after its refresh. -/
theorem exec_activeExpiry_of_oldest {e : Nat × Nat} {s : State} (hmem : e ∈ s.ring.active) (hold : ∀ d ∈ s.ring.active, d = e ∨ e.2 < d.2) :
    exec .activeExpiry s = .next ((s.advanceTo (e.2 + 3000 * usU)).setActive e.1 false) := by
  refine congrArg Host.Outcome.next ?_
  cases hact : s.ring.active with
  | nil => rw [hact] at hmem; simp at hmem
  | cons a t =>
    rw [hact] at hmem hold
    have hfold := foldl_oldest (a := a) (l := t) ((List.mem_cons.mp hmem).imp_left Eq.symm) (hold a (by simp)) (fun d hd => hold d (by simp [hd]))
    dsimp only
    rw [hfold]

/-- Settles O28: each timer's instant and what it does. -/
theorem ringTimers : Obligations.RingTimers := by
  unfold Obligations.RingTimers
  refine ⟨?_, ?_, fun _ _ _ => exec_creditTimeout_of_pending, fun _ _ _ => exec_auditGuard_of_valid, ?_, ?_, ?_, ?_, ?_,
    fun _ _ => exec_activeExpiry_of_oldest⟩
  · rintro p cause at_ s s1 s2 rfl hup h2
    have hdown := linkDown_of_up hup h2
    refine ⟨?_, ?_, ?_⟩ <;> rintro rfl <;> exact congrArg Host.Outcome.next hdown
  · intro p at_ s hdown hring hgrave hempty
    refine congrArg Host.Outcome.next (if_neg ?_)
    simp [hring, hgrave, hempty, hdown]
  · rintro t s s1 s2 s3 s4 hg rfl rfl rfl rfl
    refine congrArg Host.Outcome.next ?_
    rw [hg]
  · rintro t n s ht rfl
    refine congrArg Host.Outcome.next ?_
    rw [ht]
  · rintro s s1 rfl
    rfl
  · intro p s hmiss hl
    exact congrArg Host.Outcome.next (if_pos ⟨hmiss, hl⟩)
  · rintro s s1 s2 b rfl rfl
    refine ⟨?_, ?_⟩
    · rintro ⟨rfl, hne⟩
      refine congrArg Host.Outcome.next (if_neg ?_)
      simpa using hne
    · rintro rfl
      rfl

end Sys2Proof.Machine
end

section
/-! PROOFS. Tideline at its own times (spec/16_tideline.md R403 to R415). -/

namespace Sys2Proof.Machine

/-- R412: a master with valid time sends marks on both ports. -/
theorem exec_tideMarkSend_of_master {e w tr q : Nat} {on : Bool} {s s0 s1 s2 : State} (hm : s.flag Reg.TL_CTRL Fld.TL_CTRL_MASTER = true)
    (hv : s.tideValid = true) (h0 : s0 = s.advanceTo (s.tide.sentAt + 15625 * usU))
    (hon : on = (match s0.tide.settling with | some t => decide (s0.now < t) | none => false))
    (h1 : ({ s0 with tide := { s0.tide with sentAt := s0.now, settling := (if on then s0.tide.settling else none) } }).free = (tr, s1))
    (h2 : s1.nextSeq 1 = (q, s2)) :
    exec (.tideMarkSend e w) s = .next (
      let body (d : Nat) := tideBody 0 (bitN on + 2 * (tr % 2) + 4 * bitN (s2.tlSource == 2)) 0 (fineBytes (s2.fine s2.now false + d)) (leBytes 8 0)
      (s2.originate 0 1 q 0 0xFFFF (body e)).originate 1 1 q 0 0xFFFF (body w)) := by
  subst h0 hon
  refine congrArg Host.Outcome.next ((if_neg (by simp [hm, hv])).trans ?_)
  obtain ⟨rfl, rfl⟩ := Prod.mk.inj h1
  obtain ⟨rfl, rfl⟩ := Prod.mk.inj h2
  rfl

/-- R413: a port whose link is up asks for its delay. -/
theorem exec_pdelayReqSend_of_up {p : Fin 2} {out : Nat} {s s1 : State}
    (h1 : s1 = (s.advanceTo ((s.port p).pdAt + 1000 * usU)).modPort p (fun r => { r with pdAt := (s.advanceTo ((s.port p).pdAt + 1000 * usU)).now }))
    (hl : s1.linkState p = 3) (hr : s1.onRing = true) :
    exec (.pdelayReqSend p out) s = .next ((s1.modPort p (fun r =>
      { r with pdelay := some (Store.getD s1.ring.seqs 1 0, s1.fine s1.now false + out) })).originateLocal p 1
        (tideBody 1 0 0 (leBytes 8 0) (leBytes 8 0))) := by
  subst h1
  exact congrArg Host.Outcome.next (if_neg (by simp [hl, hr]))

/-- The offset of the ring's own marks, as a PPS edge uses it (R408). -/
theorem ppsEdge_ring (t : Tide) (asym : Int) :
    (if (!t.ring) = true then (0 : Int) else match t.thetaE with
      | some e => e - asym
      | none => match t.thetaW with
        | some w => w + asym
        | none => 0) =
    (if t.ring = false then (0 : Int) else match t.thetaE, t.thetaW with
      | some e, _ => e - asym
      | none, some w => w + asym
      | none, none => 0) := by
  cases t.ring
  · rfl
  · cases t.thetaE <;> cases t.thetaW <;> rfl

/-- R408: a PPS edge of the source in use gives the offset from the nearest whole second. -/
theorem exec_ppsEdge_of_source {at_ : Nat} {half : Bool} {ring rx : Int} {s s1 : State}
    (h1 : s1 = ({ s.advanceTo at_ with tide := { s.tide with pps := true, lastPps := (s.advanceTo at_).now } }).chooseSource) (hs : s1.tlSource = 2)
    (hrx : rx = s1.fine at_ half + signed 32 (s1.rd Reg.TL_PPS_DLY).toNat)
    (hring : ring = (if s1.tide.ring = false then 0 else match s1.tide.thetaE, s1.tide.thetaW with
        | some e, _ => e - s1.tlAsym
        | none, some w => w + s1.tlAsym
        | none, none => 0)) :
    exec (.ppsEdge at_ half) s = .next (s1.followOffset (rx - (2 * (rx - ring) + secStamp) / (2 * secStamp) * secStamp)) := by
  rw [← ppsEdge_ring] at hring
  subst h1 hrx hring
  exact congrArg Host.Outcome.next (if_neg (not_not_intro hs))

/-! ### Lock, ageing and settlement -/

/-- A flag that has been raised stands, whatever it was. -/
theorem flag_raise (s : State) (a : Nat) (f : Field) (h : f.lo + f.width ≤ 32 ∧ 0 < f.width) : (s.raise a f).flag a f = true := by
  unfold State.flag State.raise
  rw [fld_setFld_eq _ _ _ _ h.1, Nat.mod_eq_of_lt (Nat.one_lt_two_pow (by omega))]
  rfl

theorem flag_raiseIf (s : State) (c : Bool) (a : Nat) (f : Field) (h : f.lo + f.width ≤ 32 ∧ 0 < f.width) :
    (s.raiseIf c a f).flag a f = (c || s.flag a f) := by
  cases c
  · rfl
  · exact flag_raise s a f h

theorem raiseIf_now (s : State) (c : Bool) (a : Nat) (f : Field) : (s.raiseIf c a f).now = s.now := by
  cases c <;> rfl

theorem raiseIf_tide (s : State) (c : Bool) (a : Nat) (f : Field) : (s.raiseIf c a f).tide = s.tide := by
  cases c <;> rfl

theorem fld_of_tide (s : State) (t : Tide) (a : Nat) (f : Field) : ({ s with tide := t } : State).fld a f = s.fld a f := rfl

theorem lockAchieved_of_within {t : Nat} {s : State} (hw : s.tide.within = some t) (hs : s.tlState = 1) :
    Does .lockAchieved s (fun r => r.tlState = 2 ∧ r.flag Reg.TL_STAT Fld.TL_STAT_LOCKED = true ∧ r.now = max s.now (t + 1000000 * usU) ∧
      r.tide = { s.tide with timeSet := true, everValid := true }) := by
  have hexec : exec .lockAchieved s = .next (({ (s.advanceTo (t + 1000000 * usU)).setFld Reg.TL_STATE Fld.TL_STATE_STATE 2 with
      tide := { s.tide with timeSet := true, everValid := true } } : State).raise Reg.TL_STAT Fld.TL_STAT_LOCKED) := by
    refine congrArg Host.Outcome.next ?_
    rw [hw]
    exact if_neg (not_not_intro hs)
  refine ⟨_, hexec, ?_, flag_raise _ _ _ (by decide), rfl, rfl⟩
  unfold State.tlState
  rw [fld_raise_ne _ _ _ (by decide), fld_of_tide, fld_setFld_eq _ _ _ _ (by decide)]
  decide

theorem ageingUpdate_of_free {c : Nat} {a total : Int} {s s0 s1 : State} (h0 : s0 = s.advanceTo (s.tide.ageAt + 1000000 * usU))
    (ha : a = s.tide.ageBase + openDiv (signed 32 (s.rd Reg.TL_AGE_RATE).toNat * (((s.rd Reg.LS_CAL_DAY).toNat : Nat) - (s.tide.ageDay : Int))) 100)
    (hc : ({ s0 with tide := { s0.tide with ageAt := s0.now } }).free = (c, s1))
    (ht : total = a + signed 32 (s.rd Reg.TL_FREQ).toNat + signed 32 c) :
    Does .ageingUpdate s (fun r => r.rd Reg.TL_AGE_ACC = BitVec.ofNat 32 (unsigned 32 (clipSigned 32 a)) ∧ r.now = s0.now ∧ r.tide.ageAt = r.now ∧
      (r.flag Reg.TL_STAT Fld.TL_STAT_CLIP = true ↔ s.flag Reg.TL_STAT Fld.TL_STAT_CLIP = true ∨ total < -5000000 ∨ 5000000 < total)) := by
  have hrd0 : s0.rd = s.rd := by rw [h0]; rfl
  have htide0 : s0.tide = s.tide := by rw [h0]; rfl
  have hs1 := (Prod.mk.inj hc).2
  have hrd1 : s1.rd = s.rd := by rw [← hs1, ← hrd0]; rfl
  have hnow : s1.now = s0.now := by rw [← hs1]
  have hage : s1.tide.ageAt = s0.now := by rw [← hs1]
  have hexec : exec .ageingUpdate s = .next ((s1.wr Reg.TL_AGE_ACC (BitVec.ofNat 32 (unsigned 32 (clipSigned 32 a)))).raiseIf
      (decide (total < -5000000) || decide (5000000 < total)) Reg.TL_STAT Fld.TL_STAT_CLIP) := by
    refine congrArg Host.Outcome.next ?_
    dsimp only
    rw [← h0, hc]
    dsimp only
    rw [hrd0, htide0, hrd1, ← ha, ← ht]
  refine ⟨_, hexec, ?_, ?_, ?_, ?_⟩
  · rw [rd_raiseIf_ne _ _ _ (by decide), rd_wr_same]
  · rw [raiseIf_now, State.wr_now, hnow]
  · rw [raiseIf_tide, raiseIf_now, State.wr_tide, State.wr_now, hage, hnow]
  · have hclip : s1.flag Reg.TL_STAT Fld.TL_STAT_CLIP = s.flag Reg.TL_STAT Fld.TL_STAT_CLIP := by
      unfold State.flag State.fld
      rw [hrd1]
    rw [flag_raiseIf _ _ _ _ (by decide), flag_wr_ne _ _ _ (by decide), hclip]
    simp only [Bool.or_eq_true, decide_eq_true_eq]
    exact or_comm

theorem settleDone_of_pairs {s : State} (he : 64 ≤ s.tide.settleE.length) (hw : 64 ≤ s.tide.settleW.length) :
    Does .settleDone s (fun r => r.flag Reg.TL_STATE Fld.TL_STATE_SETTLED = true ∧ r.tide = { s.tide with settleE := [], settleW := [] } ∧
      r.rd Reg.TL_ASYM = BitVec.ofNat 32 (unsigned 32 (openDiv ((s.tide.settleE.take 64).foldl (· + ·) 0 -
        (s.tide.settleW.take 64).foldl (· + ·) 0) 128))) := by
  refine ⟨_, congrArg Host.Outcome.next (if_neg (by omega)), flag_raise _ _ _ (by decide), rfl, ?_⟩
  rw [rd_raise_ne _ _ (by decide), rd_wr_same]

/-- Settles O29: the tideline's timers, edges and sources. -/
theorem tidelineEvents : Obligations.TidelineEvents := by
  unfold Obligations.TidelineEvents
  refine ⟨fun _ _ _ _ _ _ _ _ _ => exec_tideMarkSend_of_master, fun _ _ _ _ => exec_pdelayReqSend_of_up,
    fun _ _ _ _ _ _ => exec_ppsEdge_of_source, ?_, ?_, fun _ _ => lockAchieved_of_within, fun _ _ _ _ _ _ => ageingUpdate_of_free,
    fun _ => settleDone_of_pairs, ?_⟩
  · rintro at_ s s1 rfl
    exact ⟨rfl, rfl, rfl⟩
  · intro at_ s
    exact ⟨fun h => congrArg Host.Outcome.next (if_pos h), fun h => congrArg Host.Outcome.next (if_pos h),
      fun h => congrArg Host.Outcome.next (if_pos h)⟩
  · intro s harm
    refine ⟨fun hsrc => ?_, fun hsrc a b t hbound => ?_⟩
    · refine congrArg Host.Outcome.next ((if_neg (by simp [harm])).trans (if_neg (by simp [hsrc])))
    · refine congrArg Host.Outcome.next ((if_neg (by simp [harm])).trans ((if_pos hsrc).trans ?_))
      rw [hbound]

end Sys2Proof.Machine
end

section
/-! PROOFS. Pins at their own times, and the breakwater (spec/03_pin_slice.md R73 to R98; spec/04_edges_and_waves.md R112 to R118). -/

namespace Sys2Proof.Machine

/-! ### Comparators, drive and strobe events -/

theorem exec_comparatorDecision_of_on {n : Fin 1536} {hi lo : Fin 3} {at_ : Nat} {s : State}
    (h : s.fld (pinA n Reg.PS_CMP_STATE) Fld.PS_CMP_STATE_MODE_EFF < 4) :
    exec (.comparatorDecision n hi lo at_) s = .next ((s.advanceTo (max (2 * s.now) at_ / 2)).newDecisions n (decCode hi) (decCode lo)
      ((max (2 * s.now) at_ : Nat) : Int)) := if_neg (by omega)

theorem exec_driveEvent_of_first {n : Fin 1536} {e : DriveEv} {rest : List DriveEv} {act : Nat} {delayed : Bool} {s s1 : State}
    (hd : (s.pin n).drives = e :: rest) (hf : fireAt (s.pin n).lastDrive e.t = (act, delayed))
    (h1 : s1 = ((s.advanceTo act).raiseIf delayed (strandA (n / 8) Reg.WV_STAT) Fld.WV_STAT_SEP).modPin n (fun p =>
      ({ p with drives := rest, cond := e.level, lastDrive := some (e.t, act) } : Pin).settlePark)) :
    exec (.driveEvent n) s = .next s1 := by
  have hexec : exec (.driveEvent n) s = execDriveEvent n s := rfl
  rw [hexec, h1]
  unfold execDriveEvent
  rw [hd]
  dsimp only
  rw [hf]

theorem exec_strobeEvent_of_first {n : Fin 1536} {e : StrobeEv} {rest : List StrobeEv} {act : Nat} {delayed : Bool} {s s1 s2 : State}
    (hd : (s.pin n).strobes = e :: rest) (hf : fireAt (s.pin n).lastStrobe e.t = (act, delayed))
    (h1 : s1 = ((s.advanceTo act).raiseIf delayed (strandA (n / 8) Reg.WV_STAT) Fld.WV_STAT_SEP).modPin n (fun p =>
      { p with strobes := rest, lastStrobe := some (e.t, act) })) (h2 : s2 = s1.fireStrobe n e act delayed) :
    exec (.strobeEvent n) s = .next ((match e.kind with
      | .wopen => s2.tdOpen n act
      | .wclose => s2.tdClose n
      | .edge => s2).modPin n Pin.settlePark) := by
  have hexec : exec (.strobeEvent n) s = execStrobeEvent n s := rfl
  rw [hexec, h2, h1]
  unfold execStrobeEvent
  rw [hd]
  dsimp only
  cases e.kind <;> rw [hf]

/-- R81, R83: a comparator that has settled takes its mode at that instant. -/
theorem exec_cmpSettled_of_settling {n : Fin 1536} {hi lo : Fin 3} {t : Nat} {s s1 : State}
    (hm : s.fld (pinA n Reg.PS_CMP_STATE) Fld.PS_CMP_STATE_MODE_EFF = 5) (ht : (s.pin n).settleAt = some t)
    (h1 : s1 = ((s.advanceTo t).modPin n (fun p => { p with settleAt := none })).setFld (pinA n Reg.PS_CMP_STATE) Fld.PS_CMP_STATE_MODE_EFF
      (s.fld (pinA n Reg.PS_CMP_CFG) Fld.PS_CMP_CFG_MODE)) :
    exec (.cmpSettled n hi lo) s = .next (s1.newDecisions n (decCode hi) (decCode lo) (2 * (max s.now t : Nat))) := by
  have hnow : s1.now = max s.now t := by rw [h1]; rfl
  refine congrArg Host.Outcome.next ((if_neg (not_not_intro hm)).trans ?_)
  rw [ht]
  dsimp only
  rw [← h1, hnow]

theorem thresholdPins_congr {s t : State} (hr : t.regs = s.regs) (hp : t.pins = s.pins) : t.thresholdPins = s.thresholdPins := by
  unfold State.thresholdPins
  rw [hr, hp]

/-- Settles O30: what each event of a pin does. -/
theorem pinEvents : Obligations.PinEvents := by
  unfold Obligations.PinEvents
  refine ⟨fun _ _ _ _ _ => exec_comparatorDecision_of_on, fun _ _ _ _ _ _ _ => exec_driveEvent_of_first,
    fun _ _ _ _ _ _ _ _ => exec_strobeEvent_of_first, fun _ _ _ _ _ _ => exec_cmpSettled_of_settling, ?_, ?_, ?_, ?_⟩
  · rintro s s1 rfl
    refine congrArg Host.Outcome.next ?_
    dsimp only
    rw [thresholdPins_congr (s := s) rfl rfl]
    rfl
  · rintro n ovh ovl oc at_ kind s rfl hk
    exact congrArg Host.Outcome.next (if_neg hk)
  · intro bad t s hc
    refine congrArg Host.Outcome.next ?_
    rw [hc]
    rfl
  · intro bad t u s hc hfind hu
    refine congrArg Host.Outcome.next ?_
    rw [hc, hfind]
    dsimp only
    rw [hu]
    rfl

/-! ### A trip of one pin (R93 to R97) -/

/-- What a trip of pin `n` reports: its instant, the messages, the trips and the pin's PS_BW_STAT. -/
def State.tripView (n : Nat) (s : State) : Nat × List FaultMsg × List Trip × Word :=
  (s.now, s.faultQ, s.trips, s.rd (pinA n Reg.PS_BW_STAT))

theorem tripView_eq {n : Nat} {s t : State} : s.tripView n = t.tripView n ↔
    s.now = t.now ∧ s.faultQ = t.faultQ ∧ s.trips = t.trips ∧ s.rd (pinA n Reg.PS_BW_STAT) = t.rd (pinA n Reg.PS_BW_STAT) := by
  simp only [State.tripView, Prod.mk.injEq]

theorem pinA_lt {n off : Nat} (hn : n < 1536) (ho : off < 0x100) : pinA n off < 0x400000 := by
  unfold pinA
  omega

theorem pinA_ge (n off : Nat) : 0x100000 ≤ pinA n off := by
  unfold pinA
  omega

theorem calA_ge (n i : Nat) : 0x400000 ≤ calA n i := by
  unfold calA
  omega

theorem tripView_noteWindows (n : Nat) (s : State) (m : Nat) : (s.noteWindows m).tripView n = s.tripView n := by
  unfold State.noteWindows
  split <;> rfl

theorem tripView_disturb (n : Nat) (s : State) (m : Nat) : (s.disturb m).tripView n = s.tripView n := by
  unfold State.disturb
  split <;> rfl

theorem tripView_life (n : Nat) (s : State) (i : Nat) : (s.life i).tripView n = s.tripView n := by
  unfold State.life
  split
  · have hne : pinA n Reg.PS_BW_STAT ≠ Reg.LS_STAT := by
      have := pinA_ge n Reg.PS_BW_STAT
      simp only [Reg.LS_STAT]
      omega
    unfold State.tripView
    rw [rd_raise_ne _ _ hne]
    rfl
  · rfl

theorem tripView_enterForced (n : Nat) (s : State) (ps : List Nat) : (s.enterForced ps).tripView n = s.tripView n := by
  refine each_keeps (g := State.tripView n) (fun s m => ?_) s ps
  dsimp only
  rw [tripView_noteWindows, tripView_disturb]
  split <;> rfl

theorem tripView_calStatus {n : Nat} (hn : n < 1536) (s : State) (m kind code : Nat) : (s.calStatus m kind code).tripView n = s.tripView n := by
  have hne : pinA n Reg.PS_BW_STAT ≠ calA m 0x4B := by
    have := pinA_lt (off := Reg.PS_BW_STAT) hn (by decide)
    have := calA_ge m 0x4B
    omega
  unfold State.tripView State.calStatus
  rw [rd_setFld_ne _ _ _ hne]
  rfl

theorem tripView_tripCal {n : Nat} (hn : n < 1536) (s : State) (ps : List Nat) : (s.tripCal ps).tripView n = s.tripView n := by
  refine each_keeps (g := State.tripView n) (fun s m => ?_) s _
  dsimp only
  split
  · rw [tripView_calStatus hn]
    rfl
  · rfl

/-- R93: the cause of a trip is recorded and its message queued. -/
def State.tripCause (s : State) (n kind : Nat) : State :=
  { s.setFld (pinA n Reg.PS_BW_STAT) Fld.PS_BW_STAT_CAUSE (Nat.lor (s.fld (pinA n Reg.PS_BW_STAT) Fld.PS_BW_STAT_CAUSE)
      (bitN (bitOf kind 2) + 2 * bitN (bitOf kind 1) + 4 * bitN (bitOf kind 0))) with
    faultQ := s.faultQ ++ [(⟨srcPin n, kind, n, false⟩ : FaultMsg)] }

/-- R94: TRIPPED and the scope PIN are set, and the trip counted. -/
def State.tripPin (s : State) (n : Nat) : State :=
  ((s.raise (pinA n Reg.PS_BW_STAT) Fld.PS_BW_STAT_TRIPPED).setFld (pinA n Reg.PS_BW_STAT) Fld.PS_BW_STAT_SCOPE 0).life 1552

theorem trip_again {n kind : Nat} {s : State} (hf : s.flag (pinA n Reg.PS_BW_STAT) Fld.PS_BW_STAT_TRIPPED = true) :
    s.trip n kind = s.tripCause n kind := if_pos hf

/-- A first trip of the scope PIN reports what the recording of its cause and the setting of TRIPPED leave, and the trip itself. -/
theorem tripView_first {n kind : Nat} {s s2 : State} (hn : n < 1536) (ha : s.fld (pinA n Reg.PS_BW_CTRL) Fld.PS_BW_CTRL_ACTION = 0)
    (hf : s.flag (pinA n Reg.PS_BW_STAT) Fld.PS_BW_STAT_TRIPPED = false) (h2 : s2 = (s.tripCause n kind).tripPin n) :
    (s.trip n kind).tripView n =
      ({ s2 with trips := s2.trips ++ [(⟨n, kind, 0, [n], some (s2.now + usU)⟩ : Trip)] } : State).tripView n := by
  have hscope : s.tripScope n = 0 := by
    unfold State.tripScope
    rw [ha]
    rfl
  have htrip : s.trip n kind = ((({ s2 with trips := s2.trips ++ [(⟨n, kind, 0, [n], some (s2.now + usU)⟩ : Trip)] }).enterForced
      ([n].filter (fun p => !s2.inTrip p && !s2.safeOther))).tripCal [n]).each [n] State.noteWindows := by
    subst h2
    unfold State.trip
    dsimp only
    rw [if_neg (by simp [hf]), hscope]
    rfl
  rw [htrip, each_keeps (g := State.tripView n) (tripView_noteWindows n), tripView_tripCal hn, tripView_enterForced]

theorem tripView_tripPin (n : Nat) (s : State) :
    (s.tripPin n).tripView n =
      ((s.raise (pinA n Reg.PS_BW_STAT) Fld.PS_BW_STAT_TRIPPED).setFld (pinA n Reg.PS_BW_STAT) Fld.PS_BW_STAT_SCOPE 0).tripView n :=
  tripView_life n _ _

/-! The cause of a trip, bit by bit. -/

theorem bits_of_kind (ovh ovl oc : Bool) :
    bitN (bitOf (bitN ovh + 2 * bitN ovl + 4 * bitN oc) 2) + 2 * bitN (bitOf (bitN ovh + 2 * bitN ovl + 4 * bitN oc) 1) +
      4 * bitN (bitOf (bitN ovh + 2 * bitN ovl + 4 * bitN oc) 0) = bitN oc + 2 * bitN ovl + 4 * bitN ovh := by
  cases ovh <;> cases ovl <;> cases oc <;> rfl

theorem Field.get_lt (f : Field) (w : Word) : f.get w < 2 ^ f.width := by
  unfold Field.get
  exact Nat.mod_lt _ (Nat.two_pow_pos _)

theorem tripCause_fld (s : State) (n kind a : Nat) (f : Field) :
    (s.tripCause n kind).fld a f = (s.setFld (pinA n Reg.PS_BW_STAT) Fld.PS_BW_STAT_CAUSE
      (Nat.lor (s.fld (pinA n Reg.PS_BW_STAT) Fld.PS_BW_STAT_CAUSE)
        (bitN (bitOf kind 2) + 2 * bitN (bitOf kind 1) + 4 * bitN (bitOf kind 0)))).fld a f := rfl

/-- R93: CAUSE takes up the bits of the kind, and no other field of PS_BW_STAT changes. -/
theorem tripCause_cause {n kind bits : Nat} {s : State}
    (hb : bitN (bitOf kind 2) + 2 * bitN (bitOf kind 1) + 4 * bitN (bitOf kind 0) = bits) (hlt : bits < 8) :
    (s.tripCause n kind).fld (pinA n Reg.PS_BW_STAT) Fld.PS_BW_STAT_CAUSE =
      Nat.lor (s.fld (pinA n Reg.PS_BW_STAT) Fld.PS_BW_STAT_CAUSE) bits := by
  have hor : Nat.lor (s.fld (pinA n Reg.PS_BW_STAT) Fld.PS_BW_STAT_CAUSE) bits < 2 ^ 3 :=
    Nat.or_lt_two_pow (Field.get_lt Fld.PS_BW_STAT_CAUSE _) hlt
  subst hb
  rw [tripCause_fld, fld_setFld_eq _ _ _ _ (by decide), Nat.mod_eq_of_lt hor]

theorem tripCause_tripped (s : State) (n kind : Nat) :
    (s.tripCause n kind).flag (pinA n Reg.PS_BW_STAT) Fld.PS_BW_STAT_TRIPPED = s.flag (pinA n Reg.PS_BW_STAT) Fld.PS_BW_STAT_TRIPPED :=
  flag_setFld_field s _ _ (by decide)

/-- What a view says of the fields of PS_BW_STAT. -/
theorem fld_of_tripView {n : Nat} {s t : State} (h : s.tripView n = t.tripView n) (f : Field) :
    s.fld (pinA n Reg.PS_BW_STAT) f = t.fld (pinA n Reg.PS_BW_STAT) f := by
  obtain ⟨-, -, -, hrd⟩ := tripView_eq.mp h
  unfold State.fld
  rw [hrd]

/-- R93 to R97: a trip with ACTION PIN, from the state in which the condition has persisted. -/
theorem trip_pin {n kind bits : Nat} {s : State} (hn : n < 1536)
    (hb : bitN (bitOf kind 2) + 2 * bitN (bitOf kind 1) + 4 * bitN (bitOf kind 0) = bits) (hlt : bits < 8)
    (ha : s.fld (pinA n Reg.PS_BW_CTRL) Fld.PS_BW_CTRL_ACTION = 0) :
    (s.trip n kind).now = s.now ∧ (s.trip n kind).faultQ = s.faultQ ++ [⟨srcPin n, kind, n, false⟩] ∧
      (s.trip n kind).flag (pinA n Reg.PS_BW_STAT) Fld.PS_BW_STAT_TRIPPED = true ∧
      (s.trip n kind).fld (pinA n Reg.PS_BW_STAT) Fld.PS_BW_STAT_CAUSE =
        Nat.lor (s.fld (pinA n Reg.PS_BW_STAT) Fld.PS_BW_STAT_CAUSE) bits ∧
      (s.flag (pinA n Reg.PS_BW_STAT) Fld.PS_BW_STAT_TRIPPED = true → (s.trip n kind).trips = s.trips) ∧
      (s.flag (pinA n Reg.PS_BW_STAT) Fld.PS_BW_STAT_TRIPPED = false →
        (s.trip n kind).trips = s.trips ++ [⟨n, kind, 0, [n], some (s.now + usU)⟩] ∧
        (s.trip n kind).fld (pinA n Reg.PS_BW_STAT) Fld.PS_BW_STAT_SCOPE = 0) := by
  cases hf : s.flag (pinA n Reg.PS_BW_STAT) Fld.PS_BW_STAT_TRIPPED with
  | true =>
    rw [trip_again hf]
    exact ⟨rfl, rfl, (tripCause_tripped s n kind).trans hf, tripCause_cause hb hlt, fun _ => rfl, fun h => absurd h (by decide)⟩
  | false =>
    obtain ⟨s1, h1⟩ : ∃ s1, s1 = s.tripCause n kind := ⟨_, rfl⟩
    obtain ⟨s2, h2⟩ : ∃ s2, s2 = s1.tripPin n := ⟨_, rfl⟩
    have hview := tripView_first (kind := kind) (s2 := s2) hn ha hf (by rw [h2, h1])
    have hview2 : s2.tripView n = _ := (congrArg _ h2).trans (tripView_tripPin n s1)
    obtain ⟨hnow, hq, htr, -⟩ := tripView_eq.mp hview
    obtain ⟨hnow2, hq2, htr2, -⟩ := tripView_eq.mp hview2
    have hnow1 : s2.now = s.now := hnow2.trans (by rw [h1]; rfl)
    have hq1 : s2.faultQ = s.faultQ ++ [⟨srcPin n, kind, n, false⟩] := hq2.trans (by rw [h1]; rfl)
    have htr1 : s2.trips = s.trips := htr2.trans (by rw [h1]; rfl)
    have hfld (f : Field) : (s.trip n kind).fld (pinA n Reg.PS_BW_STAT) f =
        ((s1.raise (pinA n Reg.PS_BW_STAT) Fld.PS_BW_STAT_TRIPPED).setFld (pinA n Reg.PS_BW_STAT) Fld.PS_BW_STAT_SCOPE 0).fld
          (pinA n Reg.PS_BW_STAT) f :=
      (fld_of_tripView hview f).trans (fld_of_tripView hview2 f)
    refine ⟨hnow.trans hnow1, hq.trans hq1, ?_, ?_, fun h => absurd h (by decide), fun _ => ⟨?_, ?_⟩⟩
    · unfold State.flag
      rw [hfld, fld_setFld_field _ _ _ (by decide)]
      exact flag_raise s1 _ _ (by decide)
    · rw [hfld, fld_setFld_field _ _ _ (by decide)]
      unfold State.raise
      rw [fld_setFld_field _ _ _ (by decide), h1, tripCause_cause hb hlt]
    · rw [htr, htr1, hnow1]
    · rw [hfld, fld_setFld_eq _ _ _ _ (by decide)]
      rfl

/-- Settles O31. -/
theorem breakwaterTrip : Obligations.BreakwaterTrip := by
  unfold Obligations.BreakwaterTrip
  rintro n ovh ovl oc at_ kind s - rfl hk ha
  have hlt : bitN oc + 2 * bitN ovl + 4 * bitN ovh < 8 := by
    have h1 := bitN_lt_two oc
    have h2 := bitN_lt_two ovl
    have h3 := bitN_lt_two ovh
    omega
  exact ⟨_, congrArg Host.Outcome.next (if_neg hk), trip_pin (s := s.advanceTo at_) n.isLt (bits_of_kind ovh ovl oc) hlt ha⟩

end Sys2Proof.Machine
end

section
/-! PROOFS. The capture TDC and the converters (spec/11_source_measure.md R298 to R303; spec/12_time_and_acquisition.md R317 to R322). -/

namespace Sys2Proof.Machine

/-! ### The interpolator calibration (R317) -/

/-- A calibration over `d` steps gives its scale, and ends the measurement or lets measuring begin. -/
theorem exec_tdcCalDone_steps {n : Fin 1536} {m1 m2 d scale : Nat} {s s1 : State} (hs : s.tdState n = 1) (hlt : m1 < m2) (hd : d = m2 - m1)
    (hscale : scale = (openDiv ((0x4000 * 262144 : Nat) : Int) d).toNat)
    (h1 : s1 = s.setFld (pinA n Reg.TD_SCALE) Fld.TD_SCALE_SCALE (min 65535 scale)) :
    exec (.tdcCalDone n m1 m2) s =
      if (d = 0 || 262144 * 100 < 95 * d || 105 * d < 262144 * 100 : Bool) = true then .next (s1.tdComplete n 4)
      else .next ((s1.setFld (pinA n Reg.TD_STAT) Fld.TD_STAT_STATE 2).modTdc n (fun t =>
        { t with scale := scale, armed := t.armSrc == 0, first := none })) := by
  have hne : m2 - m1 ≠ 0 := by omega
  have hexec : exec (.tdcCalDone n m1 m2) s = execTdcCalDone n m1 m2 s := rfl
  subst h1 hscale hd
  rw [hexec]
  unfold execTdcCalDone
  dsimp only
  rw [if_neg (by simp [hs]), if_neg hne]
  dsimp only
  rw [if_neg hne, if_neg hne]

theorem fld_modTdc (s : State) (n : Nat) (f : Tdc → Tdc) (a : Nat) (g : Field) : (s.modTdc n f).fld a g = s.fld a g := rfl

theorem tdc_setFld (s : State) (a : Nat) (f : Field) (v n : Nat) : (s.setFld a f v).tdc n = s.tdc n := rfl

theorem tdcCalDone_good {n : Fin 1536} {m1 m2 d : Nat} {s : State} (hs : s.tdState n = 1) (hlt : m1 < m2) (hd : d = m2 - m1)
    (hlo : 95 * d ≤ 262144 * 100) (hhi : 262144 * 100 ≤ 105 * d) :
    Does (.tdcCalDone n m1 m2) s (fun r => r.tdState n = 2 ∧
      r.fld (pinA n Reg.TD_SCALE) Fld.TD_SCALE_SCALE = min 65535 (openDiv ((0x4000 * 262144 : Nat) : Int) d).toNat ∧
      r.tdc n = { s.tdc n with scale := (openDiv ((0x4000 * 262144 : Nat) : Int) d).toNat, armed := (s.tdc n).armSrc == 0, first := none }) := by
  have hgood : ¬(d = 0 || 262144 * 100 < 95 * d || 105 * d < 262144 * 100 : Bool) = true := by
    simp only [Bool.or_eq_true, decide_eq_true_eq]
    omega
  have hpins : pinA n Reg.TD_SCALE ≠ pinA n Reg.TD_STAT := by
    unfold pinA
    simp only [Reg.TD_SCALE, Reg.TD_STAT]
    omega
  have hmin : min 65535 (openDiv ((0x4000 * 262144 : Nat) : Int) d).toNat < 2 ^ Fld.TD_SCALE_SCALE.width :=
    lt_of_le_of_lt (Nat.min_le_left _ _) (by decide)
  have hexec := (exec_tdcCalDone_steps hs hlt hd rfl rfl).trans (if_neg hgood)
  generalize (openDiv ((0x4000 * 262144 : Nat) : Int) d).toNat = scale at hmin hexec ⊢
  refine ⟨_, hexec, ?_, ?_, ?_⟩
  · unfold State.tdState
    rw [fld_modTdc, fld_setFld_eq _ _ _ _ (by decide)]
    decide
  · rw [fld_modTdc, fld_setFld_ne _ _ _ _ hpins, fld_setFld_eq _ _ _ _ (by decide), Nat.mod_eq_of_lt hmin]
  · rw [State.tdc_mod, tdc_setFld, tdc_setFld]

/-- A calibration out of its range ends the measurement with status 4. -/
theorem exec_tdcCalDone_range {n : Fin 1536} {m1 m2 d : Nat} {s : State} (hs : s.tdState n = 1) (hlt : m1 < m2) (hd : d = m2 - m1)
    (hbad : 262144 * 100 < 95 * d ∨ 105 * d < 262144 * 100) :
    exec (.tdcCalDone n m1 m2) s = .next ((s.setFld (pinA n Reg.TD_SCALE) Fld.TD_SCALE_SCALE
      (min 65535 (openDiv ((0x4000 * 262144 : Nat) : Int) d).toNat)).tdComplete n 4) := by
  refine (exec_tdcCalDone_steps hs hlt hd rfl rfl).trans (if_pos ?_)
  simp only [Bool.or_eq_true, decide_eq_true_eq]
  omega

/-- One with no steps between its two readings does too. -/
theorem exec_tdcCalDone_none {n : Fin 1536} {m1 m2 f : Nat} {s s1 : State} (hs : s.tdState n = 1) (hle : m2 ≤ m1) (hf : s.free = (f, s1)) :
    exec (.tdcCalDone n m1 m2) s = .next ((s1.setFld (pinA n Reg.TD_SCALE) Fld.TD_SCALE_SCALE f).tdComplete n 4) := by
  have hz : m2 - m1 = 0 := by omega
  have hexec : exec (.tdcCalDone n m1 m2) s = execTdcCalDone n m1 m2 s := rfl
  rw [hexec]
  unfold execTdcCalDone
  dsimp only
  rw [if_neg (by simp [hs]), if_pos hz, hf]
  dsimp only
  rw [if_pos hz, if_pos hz, if_pos (by simp [hz])]

/-! ### A conversion that ends (R298 to R303) -/

/-- Settles O32. -/
theorem tdcAndConverters : Obligations.TdcAndConverters := by
  unfold Obligations.TdcAndConverters
  refine ⟨fun _ _ _ _ _ => tdcCalDone_good, fun _ _ _ _ _ => exec_tdcCalDone_range, fun _ _ _ _ _ _ => exec_tdcCalDone_none, ?_, ?_⟩
  · rintro n ms s hs rfl hms
    exact if_neg (by simp [hs, hms])
  · intro n raw r dist sat win s hrun hres
    have hexec : exec (.conversionEnd n raw) s = execConversionEnd n raw s := rfl
    rw [hexec]
    unfold execConversionEnd State.endConversion
    dsimp only
    rw [if_neg (by simp [hrun]), if_neg (by simp [hrun]), hres]

end Sys2Proof.Machine
end

section
/-! PROOFS. The memory controller at its own times (spec/07_pattern_memory.md R185 to R200). -/

namespace Sys2Proof.Machine

/-! ### A granule that arrives (R185 to R187, R197) -/

/-- The granule of an awaited request, read twice from DRAM: `s` is the state once the request is off the queue. -/
def State.granuleRead (s : State) (k seg gran : Nat) (read1 read2 : Bool) (t : Nat) : State :=
  if read1 && s.granuleMatches seg gran then s.deliver k seg gran true t
  else if read2 && s.granuleMatches seg gran then (s.crcOutcome k seg gran 0).deliver k seg gran true t
  else match s.streamOf seg with
    | some n =>
      match Store.get? s.mem.streams n with
      | some x => ({ s with mem := { s.mem with repairs := s.mem.repairs ++ [(k, seg, gran)] } }).rdmaRead x.qp (x.hostVa + (gran % x.slots) * 512)
          x.rkey 512 (.repair k seg gran)
      | none => (s.crcOutcome k seg gran 2).deliver k seg gran false t
    | none => (s.crcOutcome k seg gran 2).deliver k seg gran false t

theorem exec_granuleRefill_of_served {k : Fin 192} {seg gran t : Nat} {read1 read2 : Bool} {r : MemReq} {s s1 s2 : State}
    (hr : s.mem.reqs.find? (fun r => r.use == .refill k seg gran) = some r) (hserve : s.serving r.chan = true)
    (h1 : s1 = { (s.advanceTo t).traffic 516 with
      mem := { ((s.advanceTo t).traffic 516).mem with reqs := ((s.advanceTo t).traffic 516).mem.reqs.erase r } })
    (h2 : s2 = (if s.panicLate r t then (s1.raise Reg.MC_STAT Fld.MC_STAT_PANIC_LATE).fault srcMem 1 r.chan else s1)) :
    exec (.granuleRefill k seg gran read1 read2 t) s = .next (s2.granuleRead k seg gran read1 read2 t) := by
  subst h2 h1
  refine congrArg Host.Outcome.next ?_
  rw [hr]
  exact if_neg (by simp [hserve])

/-- R187: with no copy that passes, a granule comes from its stream's host copy, or is marked. -/
theorem granuleRead_bad {s : State} {k seg gran t : Nat} {read1 read2 : Bool}
    (hbad : (read1 = false ∧ read2 = false) ∨ s.granuleMatches seg gran = false) :
    s.granuleRead k seg gran read1 read2 t = match s.streamOf seg with
      | some n =>
        match Store.get? s.mem.streams n with
        | some x => ({ s with mem := { s.mem with repairs := s.mem.repairs ++ [(k, seg, gran)] } }).rdmaRead x.qp
            (x.hostVa + (gran % x.slots) * 512) x.rkey 512 (.repair k seg gran)
        | none => (s.crcOutcome k seg gran 2).deliver k seg gran false t
      | none => (s.crcOutcome k seg gran 2).deliver k seg gran false t := by
  have h1 : (read1 && s.granuleMatches seg gran) = false := by
    rcases hbad with ⟨h, -⟩ | h <;> simp [h]
  have h2 : (read2 && s.granuleMatches seg gran) = false := by
    rcases hbad with ⟨-, h⟩ | h <;> simp [h]
  unfold State.granuleRead
  rw [h1, h2, if_neg (by decide), if_neg (by decide)]

/-! ### Prefetch windows, pauses and pulls -/

theorem exec_prefetchWindow_of_open {c : Fin 8} {s s1 : State} (hself : s.mem.selfRefresh = false) (hw : (s.chan c).window = none)
    (hp : (s.chan c).paused = false)
    (h1 : s1 = (s.advanceTo (s.pauseDue c - 4 * usU)).modChan c (fun x => { x with window := some (max s.now (s.pauseDue c - 4 * usU)) })) :
    exec (.prefetchWindow c) s = .next ((allStrands.filter (fun k => s1.coveAwake (coveOf k) && s1.flowing k)).foldl
      (fun x k => (x.windowGranules k c).foldl (fun y g => y.request k g.1 g.2 false) x) s1) := by
  subst h1
  exact congrArg Host.Outcome.next (if_neg (by simp [hself, hw, hp]))

/-- R188: a pause starts once its window has stood, later when a panic request waits. -/
theorem exec_retrainPauseStart_of_window {c : Fin 8} {w due : Nat} {s s1 s2 : State} (hw : (s.chan c).window = some w)
    (hself : s.mem.selfRefresh = false) (hp : ∀ i < 8, (s.chan i).paused = false) (hdue : due = max (s.pauseDue c) (w + 4 * usU))
    (h1 : s1 = s.advanceTo (if 0 < s.panicOn c then due + 100 * usU else due))
    (h2 : s2 = ((s1.modChan c (fun x => { x with paused := true, lastPause := s1.now, window := none })).satAdd Reg.MC_RETRAIN_STAT
      Fld.MC_RETRAIN_STAT_COUNT 1).setFld Reg.MC_RETRAIN_STAT Fld.MC_RETRAIN_STAT_LAST_CH c) :
    exec (.retrainPauseStart c) s = .next (if 0 < s.panicOn c then
      (s2.satAdd Reg.MC_RETRAIN_STAT Fld.MC_RETRAIN_STAT_FORCED 1).raise Reg.MC_STAT Fld.MC_STAT_RETRAIN_FORCED else s2) := by
  have hnone : (List.range 8).any (fun i => (s.chan i).paused) = false := by
    rw [List.any_eq_false]
    intro i hi
    simp [hp i (List.mem_range.mp hi)]
  subst h2 h1 hdue
  refine congrArg Host.Outcome.next ?_
  rw [hw]
  dsimp only
  rw [hself, hnone, if_neg (by decide)]
  simp only [decide_eq_true_eq]

theorem exec_retrainPauseEnd_of_paused {c : Fin 8} {ok : Bool} {f : Nat} {s s1 s2 : State} (hp : (s.chan c).paused = true)
    (hf : s.free = (f, s1)) (h2 : s2 = s1.advanceTo ((s.chan c).lastPause + f % 983041)) :
    exec (.retrainPauseEnd c ok) s = .next (let s3 := s2.modChan c (fun x => { x with paused := false, lastEnd := s2.now })
      if ok then s3 else s3.fault srcMem 0 c) := by
  subst h2
  refine congrArg Host.Outcome.next ((if_pos hp).trans ?_)
  rw [hf]

theorem exec_retrainPauseEnd_of_training {c : Fin 8} {ok : Bool} {s : State} (hp : (s.chan c).paused = false)
    (ht : (s.chan c).training = true) (hfirst : ∀ i < c.val, (s.chan i).training = false) :
    exec (.retrainPauseEnd c ok) s = .next (let s1 := s.modChan c (fun x => { x with training := false, lastEnd := s.now })
      if ok then s1 else s1.fault srcMem 0 c) := by
  have hall : (List.range c.val).all (fun i => !(s.chan i).training) = true := by
    rw [List.all_eq_true]
    intro i hi
    simp [hfirst i (List.mem_range.mp hi)]
  exact congrArg Host.Outcome.next ((if_neg (by simp [hp])).trans (if_pos (by simp [ht, hall])))

/-- R200: a stream that has room pulls its next granule. -/
theorem exec_streamPull_of_room {n : Fin 16} {g len : Nat} {x : Stream} {s s1 : State} (hx : Store.get? s.mem.streams n = some x)
    (hg : g = s.strmPull n + x.pulling.length) (hlen : len = (match s.segment? x.seg with | some q => q.len | none => 0))
    (hopen : s.fld (strmA Reg.MC_STRM_STAT n) Fld.MC_STRM_STAT_STATE = 1) (hprod : g < s.strmProd n) (hin : g < len)
    (hroom : g < s.strmCons n + 32768) (h1 : s1 = s.advanceTo s.mem.nextPull) :
    exec (.streamPull n) s = .next (({ s1 with mem := { s1.mem with
      nextPull := s1.now + ceilDiv 3145728 s1.rateCap,
      streams := Store.put s1.mem.streams n { x with pulling := x.pulling ++ [g] } } }).rdmaRead x.qp (x.hostVa + (g % x.slots) * 512) x.rkey 512
        (.granule n g)) := by
  have hgo : (s.fld (strmA Reg.MC_STRM_STAT n) Fld.MC_STRM_STAT_STATE == 1 && decide (g < s.strmProd n) && decide (g < len) &&
      decide (g < s.strmCons n + 32768)) = true := by
    simp [hopen, hprod, hin, hroom]
  subst h1 hg hlen
  refine congrArg Host.Outcome.next ?_
  rw [hx]
  exact if_pos hgo

/-- Settles O34. -/
theorem memoryController : Obligations.MemoryController := by
  unfold Obligations.MemoryController
  refine ⟨?_, ?_, fun _ _ _ => exec_prefetchWindow_of_open, fun _ _ _ _ _ _ => exec_retrainPauseStart_of_window,
    fun _ _ _ _ _ _ => exec_retrainPauseEnd_of_paused, fun _ _ _ => exec_retrainPauseEnd_of_training,
    fun _ _ _ _ _ _ => exec_streamPull_of_room⟩
  · intro k seg gran t read1 read2 r s s1 s2 hr hserve h1 h2
    rw [exec_granuleRefill_of_served hr hserve h1 h2]
    refine ⟨fun hread hfits => ?_, fun hread hread2 hfits => ?_, fun hbad hnone => ?_, fun hbad n x hn hx => ?_⟩
    · exact congrArg _ (if_pos (by rw [hread, hfits]; rfl))
    · exact congrArg _ ((if_neg (by rw [hread]; exact Bool.false_ne_true)).trans (if_pos (by rw [hread2, hfits]; rfl)))
    · rw [granuleRead_bad hbad, hnone]
    · rw [granuleRead_bad hbad, hn]
      dsimp only
      rw [hx]
  · rintro r s s1 hr rfl
    refine congrArg Host.Outcome.next ?_
    rw [hr]

end Sys2Proof.Machine
end

section
/-! PROOFS. Segment, stream and placement commands (spec/07_pattern_memory.md R191 to R201; spec/10_placement_and_lashing.md R262 to R269). -/

namespace Sys2Proof.Machine

/-! ### Segments (R191 to R196) -/

/-- A SEG_WRITE whose image has arrived: the state after the other commands have met its segment is `s1`. -/
def State.takeImage (s s1 : State) (c : HostCmd) (code : Nat) (x : Image) : State :=
  if code ≠ 0 then s1.completeWith c 4 code
  else if s.segBusy c x.seg then s1.completeWith c 9 0
  else if s.fld Reg.MC_FREE Fld.MC_FREE_GROUPS < ceilDiv x.len 16 then s1.completeWith c 4 0x07
  else if s.segActive x.seg then s1.completeWith c 4 0x08
  else (s1.loadImage x).complete c.qp c.idx 0 0 (ceilDiv x.len 16 + x.seg * 2 ^ 32 + (5 * x.seg % 8) * 2 ^ 48) 0

theorem exec_segImageReceived_of_image {c : HostCmd} {code : Nat} {x : Image} {s : State} (hc : s.cmdAt 0x02 .received = some c)
    (hi : readImage c.input false = (code, x)) : exec .segImageReceived s = .next (s.takeImage (s.meetSeg c) c code x) := by
  refine congrArg Host.Outcome.next ?_
  rw [hc]
  dsimp only
  rw [hi]
  rfl

theorem segImageReceived_cases {c : HostCmd} {code : Nat} {x : Image} {s s1 : State} (hc : s.cmdAt 0x02 .received = some c)
    (hi : readImage c.input false = (code, x)) (h1 : s1 = s.meetSeg c) :
    (code ≠ 0 → exec .segImageReceived s = .next (s1.completeWith c 4 code)) ∧
    (code = 0 → s.segBusy c x.seg = true → exec .segImageReceived s = .next (s1.completeWith c 9 0)) ∧
    (code = 0 → s.segBusy c x.seg = false → s.fld Reg.MC_FREE Fld.MC_FREE_GROUPS < ceilDiv x.len 16 →
      exec .segImageReceived s = .next (s1.completeWith c 4 0x07)) ∧
    (code = 0 → s.segBusy c x.seg = false → ceilDiv x.len 16 ≤ s.fld Reg.MC_FREE Fld.MC_FREE_GROUPS → s.segActive x.seg = true →
      exec .segImageReceived s = .next (s1.completeWith c 4 0x08)) ∧
    (code = 0 → s.segBusy c x.seg = false → ceilDiv x.len 16 ≤ s.fld Reg.MC_FREE Fld.MC_FREE_GROUPS → s.segActive x.seg = false →
      exec .segImageReceived s = .next ((s1.loadImage x).complete c.qp c.idx 0 0
        (ceilDiv x.len 16 + x.seg * 2 ^ 32 + (5 * x.seg % 8) * 2 ^ 48) 0)) := by
  subst h1
  rw [exec_segImageReceived_of_image hc hi]
  unfold State.takeImage
  refine ⟨fun hcode => ?_, fun hcode hbusy => ?_, fun hcode hbusy hfull => ?_, fun hcode hbusy hroom hact => ?_,
    fun hcode hbusy hroom hact => ?_⟩
  · rw [if_pos hcode]
  · rw [if_neg (not_not_intro hcode), if_pos hbusy]
  · rw [if_neg (not_not_intro hcode), if_neg (ne_true_of_eq_false hbusy), if_pos hfull]
  · rw [if_neg (not_not_intro hcode), if_neg (ne_true_of_eq_false hbusy), if_neg (not_lt_of_ge hroom), if_pos hact]
  · rw [if_neg (not_not_intro hcode), if_neg (ne_true_of_eq_false hbusy), if_neg (not_lt_of_ge hroom), if_neg (ne_true_of_eq_false hact)]

theorem segFree_cases {c : HostCmd} {g : Nat} {s : State} (hc : s.nextCmd 0x03 = some c) (hg : g = c.arg 0x08 2) (hbusy : s.segBusy c g = false) :
    (s.segment? g = none → exec .segFree s = .next (s.complete c.qp c.idx 0 0 0 0)) ∧
    (∀ x, s.segment? g = some x → s.segActive g = true → exec .segFree s = .next (s.completeWith c 4 8)) ∧
    (∀ x, s.segment? g = some x → s.segActive g = false →
      exec .segFree s = .next ((s.dropSegment g).complete c.qp c.idx 0 0 x.groups.length 0)) := by
  subst hg
  have hexec : exec .segFree s = .next (match s.segment? (c.arg 0x08 2) with
      | none => s.complete c.qp c.idx 0 0 0 0
      | some x => if s.segActive (c.arg 0x08 2) then s.completeWith c 4 8
        else (s.dropSegment (c.arg 0x08 2)).complete c.qp c.idx 0 0 x.groups.length 0) := by
    refine congrArg Host.Outcome.next ?_
    rw [hc]
    exact if_neg (ne_true_of_eq_false hbusy)
  rw [hexec]
  refine ⟨fun hnone => ?_, fun x hx hact => ?_, fun x hx hact => ?_⟩
  · rw [hnone]
  · rw [hx]
    exact congrArg _ (if_pos hact)
  · rw [hx]
    exact congrArg _ (if_neg (ne_true_of_eq_false hact))

/-! ### Streams (R201) -/

/-- A STREAM_OPEN that nothing refuses. -/
theorem exec_streamOpen_of_accepted {c : HostCmd} {n shown charge rate : Nat} {x : Image} {s s1 s2 s3 s4 : State}
    (hc : s.cmdAt 0x04 .received = some c) (hn : n = c.arg 0x08 1) (hi : readImage c.input true = (0, x))
    (hshown : shown = (match s.grantedGroup x.seg with | some g => g.charge | none => chargeMbps 2 128 512))
    (hcharge : charge = (if (s.grantedGroup x.seg).isSome then 0 else shown)) (hrate : rate = ceilDiv shown 2)
    (hno : s.streamRefusal n x charge rate = 0) (h1 : s1 = s.dropSegment x.seg)
    (h2 : s2 = { s1 with mem := { s1.mem with
      segs := Store.put s1.mem.segs x.seg { len := x.len, succ := x.succ, fd := x.fd, pairs := x.pairs, crcs := x.crcs, grans := [],
                                            chan0 := 5 * x.seg % 8, groups := [], stream := some n },
      streams := Store.put s1.mem.streams n { seg := x.seg, slots := c.bufLen 0x20 / 512, hostVa := c.bufAddr 0x20, rkey := c.bufKey 0x20, qp := c.qp,
                                              bellVa := c.arg 0x30 8, bellKey := c.arg 0x38 4, pulling := [], charge := charge, rate := rate } } })
    (h3 : s3 = s2.setFld Reg.MC_BUDGET_USED Fld.MC_BUDGET_USED_MBPS (s2.fld Reg.MC_BUDGET_USED Fld.MC_BUDGET_USED_MBPS + charge))
    (h4 : s4 = (((s3.wr (strmA Reg.MC_STRM_STAT n) (BitVec.ofNat 32 (2 ^ 30 + 0xFF0000 + x.seg))).wr (strmA Reg.MC_STRM_PROD n) 0).wr
      (strmA Reg.MC_STRM_PULL n) 0).wr (strmA Reg.MC_STRM_CONS n) 0) :
    exec .streamOpen s = .next (s4.complete c.qp c.idx 0 0 shown 0) := by
  subst hshown hn hcharge hrate h4 h3 h2 h1
  refine congrArg Host.Outcome.next ?_
  rw [hc]
  dsimp only
  rw [hi]
  exact (if_neg (not_not_intro rfl)).trans (if_neg (not_not_intro hno))

theorem streamOpen_refused {c : HostCmd} {code n shown charge : Nat} {x : Image} {s : State} (hc : s.cmdAt 0x04 .received = some c)
    (hn : n = c.arg 0x08 1) (hi : readImage c.input true = (code, x))
    (hshown : shown = (match s.grantedGroup x.seg with | some g => g.charge | none => chargeMbps 2 128 512))
    (hcharge : charge = (if (s.grantedGroup x.seg).isSome then 0 else shown)) :
    (code ≠ 0 → exec .streamOpen s = .next (s.completeWith c 4 code)) ∧
    (code = 0 → s.streamRefusal n x charge (ceilDiv shown 2) ≠ 0 →
      exec .streamOpen s = .next (s.completeWith c 4 (s.streamRefusal n x charge (ceilDiv shown 2)))) := by
  subst hshown hn hcharge
  refine ⟨fun hcode => congrArg Host.Outcome.next ?_, fun hcode hno => congrArg Host.Outcome.next ?_⟩
  · rw [hc]
    dsimp only
    rw [hi]
    exact if_pos hcode
  · rw [hc]
    dsimp only
    rw [hi]
    exact (if_neg (not_not_intro hcode)).trans (if_pos hno)

/-- Settles O36. -/
theorem segmentsAndStreams : Obligations.SegmentsAndStreams := by
  unfold Obligations.SegmentsAndStreams
  refine ⟨?_, fun _ _ _ _ _ => segImageReceived_cases, fun _ _ _ => segFree_cases,
    fun _ _ _ _ _ _ _ _ _ _ _ => exec_streamOpen_of_accepted, fun _ _ _ _ _ _ _ => streamOpen_refused⟩
  intro c s hc
  refine congrArg Host.Outcome.next ?_
  rw [hc]

/-! ### Work orders (R262 to R269) -/

theorem workOrderReceived_cases {c : HostCmd} {r : Option Refused} {t : Option Placement} {s : State} (hc : s.cmdAt 0x01 .received = some c)
    (hfree : s.plannerFree = true) :
    (s.orderBusy = true → exec .workOrderReceived s = .next (s.refuseOrder c busyRefusal)) ∧
    (s.orderBusy = false → s.place.making.isSome = true → exec .workOrderReceived s = .next (s.refuseOther c)) ∧
    (s.orderBusy = false → s.place.making = none → s.decision c.input = (r, t) →
      exec .workOrderReceived s = .next { s.modCmd c.qp c.idx (fun (c : HostCmd) => { c with stage := CmdStage.deciding }) with
        place := { s.place with making := some ⟨c.qp, c.idx, s.now, 0, r, t, none⟩ } }) := by
  have hopen : ¬(!s.plannerFree) = true := by simp [hfree]
  refine ⟨fun hbusy => congrArg Host.Outcome.next ?_, fun hbusy hmaking => congrArg Host.Outcome.next ?_,
    fun hbusy hmaking hdec => congrArg Host.Outcome.next ?_⟩
  · rw [hc]
    exact (if_neg hopen).trans (if_pos hbusy)
  · rw [hc]
    exact (if_neg hopen).trans ((if_neg (ne_true_of_eq_false hbusy)).trans (if_pos hmaking))
  · rw [hc]
    refine (if_neg hopen).trans ((if_neg (ne_true_of_eq_false hbusy)).trans ((if_neg (by simp [hmaking])).trans ?_))
    dsimp only
    rw [hdec]
    rfl

theorem placementDecided_cases {m : Placing} {c : HostCmd} {f : Nat} {s s0 s1 s2 : State} (hm : s.makingCmd = some (m, c))
    (happ : m.applying = none) (hfree : s.plannerFree = true) (hf : s.free = (f, s0)) (h1 : s1 = s0.advanceTo (m.since + f % (150000 * usU)))
    (h2 : s2 = s1.setFld Reg.PL_TIME Fld.PL_TIME_PLACE (min 65535 ((s1.now - m.since) / (10 * usU)))) :
    (∀ r, m.refusal = some r → exec .placementDecided s = .next (s2.refuseOrder c r)) ∧
    (∀ p, m.refusal = none → m.table = some p → s.splice.finals = [] → s.calRuns = [] → s2.orderBusy = true →
      exec .placementDecided s = .next (s2.refuseOrder c busyRefusal)) ∧
    (∀ p, m.refusal = none → m.table = some p → s.splice.finals = [] → s.calRuns = [] → s2.orderBusy = false →
      exec .placementDecided s = .next ((s2.modCmd c.qp c.idx (fun (c : HostCmd) => { c with stage := CmdStage.applying })).beginApply m p
        (readOrder (c.input.take (leAt c.input 8 4))))) := by
  have hexec : exec .placementDecided s = .next (match m.refusal, m.table with
      | none, some p =>
        if !s.splice.finals.isEmpty || !s.calRuns.isEmpty then s
        else if s2.orderBusy then s2.refuseOrder c busyRefusal
        else (s2.modCmd c.qp c.idx (fun (c : HostCmd) => { c with stage := CmdStage.applying })).beginApply m p
          (readOrder (c.input.take (leAt c.input 8 4)))
      | r, _ => s2.refuseOrder c (r.getD busyRefusal)) := by
    refine congrArg Host.Outcome.next ?_
    rw [hm]
    dsimp only
    rw [if_neg (by simp [happ, hfree]), hf]
    dsimp only
    rw [← h1, ← h2] <;> rfl
  rw [hexec]
  refine ⟨fun r hr => ?_, fun p hr hp hfin hcal hbusy => ?_, fun p hr hp hfin hcal hbusy => ?_⟩
  · rw [hr]
    rfl
  · rw [hr, hp]
    exact congrArg _ ((if_neg (by simp [hfin, hcal])).trans (if_pos hbusy))
  · rw [hr, hp]
    exact congrArg _ ((if_neg (by simp [hfin, hcal])).trans (if_neg (ne_true_of_eq_false hbusy)))

/-- R268, R269: the placement is in force once the engines of its wake set have settled. -/
theorem exec_placementApplied_of_settled {m : Placing} {c : HostCmd} {t0 f : Nat} {p : Placement} {out : List Byte} {s s0 s1 s2 s3 s4 : State}
    (hm : s.makingCmd = some (m, c)) (happ : m.applying = some t0) (hp : m.table = some p) (hfree : s.plannerFree = true)
    (hwake : ∀ k ∈ covesOf p.wake, s.wakeOver k = true) (hf : s.free = (f, s0)) (h1 : s1 = s0.advanceTo (t0 + f % (40000 * usU)))
    (h2 : s2 = ((({ s1 with place := { s1.place with making := none, toTouch := List.range 16 } }).setTable p).switchEngines p).showBudget)
    (h3 : s3 = s2.setFld Reg.PL_TIME Fld.PL_TIME_APPLY (min 65535 ((s2.now - t0) / (10 * usU))))
    (h4 : s4 = (s3.raise Reg.PL_STAT Fld.PL_STAT_APPLIED).raiseIf (p.refDrop || !p.dropped.isEmpty) Reg.PL_STAT Fld.PL_STAT_DROPPED)
    (hout : out = (match s4.place.table with | some t => t.bytes | none => [])) :
    exec .placementApplied s = .next ((s4.writeOut c 0x18 out).complete c.qp c.idx 0 0
      ((s4.rd Reg.PL_ID).toNat + p.groups.length * 2 ^ 32 + p.dropped.length * 2 ^ 48) out.length) := by
  have hall : (covesOf p.wake).any (fun k => !s.wakeOver k) = false := by
    rw [List.any_eq_false]
    intro k hk
    simp [hwake k hk]
  subst hout
  refine congrArg Host.Outcome.next ?_
  rw [hm]
  dsimp only
  rw [happ, hp]
  dsimp only
  rw [if_neg (by simp [hfree, hall]), hf]
  dsimp only
  rw [← h1, ← h2, ← h3, ← h4] <;> rfl

/-- Settles O39. -/
theorem placementCommands : Obligations.PlacementCommands := by
  unfold Obligations.PlacementCommands
  refine ⟨?_, fun _ _ _ _ => workOrderReceived_cases, fun _ _ _ _ _ _ _ => placementDecided_cases,
    fun _ _ _ _ _ _ _ _ _ _ _ _ => exec_placementApplied_of_settled⟩
  intro c s hc
  refine congrArg Host.Outcome.next ?_
  rw [hc]

end Sys2Proof.Machine
end

section
/-! PROOFS. The PMU sequences and the sine generator (spec/11_source_measure.md R291 to R294, R308 to R311). -/

namespace Sys2Proof.Machine

/-! ### PMU sequences -/

theorem pmu_raiseIf (s : State) (c : Bool) (a : Nat) (f : Field) (n : Nat) : (s.raiseIf c a f).pmu n = s.pmu n := by
  cases c <;> rfl

theorem flag_raiseIf_field (s : State) (c : Bool) (a : Nat) {f g : Field} (h : f.lo + f.width ≤ g.lo ∨ g.lo + g.width ≤ f.lo) :
    (s.raiseIf c a g).flag a f = s.flag a f := by
  cases c
  · rfl
  · exact flag_setFld_field s a 1 h

theorem flag_modPmu (s : State) (n : Nat) (f : Pmu → Pmu) (a : Nat) (g : Field) : (s.modPmu n f).flag a g = s.flag a g := rfl

/-- R294: the limits of a range change move; a result outside them is reported. -/
theorem pmuRangeLimitMove_of_seq {n : Fin 1536} {outside : Bool} {t r : Nat} {s : State} (h : (s.pmu n).seq = .rangeLimit t r) :
    Does (.pmuRangeLimitMove n outside) s (fun x => x.pmu n = { s.pmu n with seq := .rangeOpen t r } ∧ x.now = max s.now (t + usU) ∧
      (x.flag (pinA n Reg.PM_STAT) Fld.PM_STAT_RANGE_OVR = true ↔ s.flag (pinA n Reg.PM_STAT) Fld.PM_STAT_RANGE_OVR = true ∨ outside = true) ∧
      (x.flag (pinA n Reg.PM_STAT) Fld.PM_STAT_ILIM = true ↔ s.flag (pinA n Reg.PM_STAT) Fld.PM_STAT_ILIM = true ∨ outside = true)) := by
  have hexec : exec (.pmuRangeLimitMove n outside) s = .next ((((s.advanceTo (t + usU)).raiseIf outside (pinA n Reg.PM_STAT)
      Fld.PM_STAT_RANGE_OVR).raiseIf outside (pinA n Reg.PM_STAT) Fld.PM_STAT_ILIM).modPmu n (fun p => { p with seq := .rangeOpen t r })) := by
    have hdef : exec (.pmuRangeLimitMove n outside) s = execPmuRangeLimitMove n outside s := rfl
    rw [hdef]
    unfold execPmuRangeLimitMove
    rw [h]
  refine ⟨_, hexec, ?_, ?_, ?_, ?_⟩
  · rw [State.pmu_mod, pmu_raiseIf, pmu_raiseIf]
    rfl
  · exact (raiseIf_now _ _ _ _).trans (raiseIf_now _ _ _ _)
  · rw [flag_modPmu, flag_raiseIf_field _ _ _ (by decide), flag_raiseIf _ _ _ _ (by decide), Bool.or_eq_true]
    exact or_comm
  · rw [flag_modPmu, flag_raiseIf _ _ _ _ (by decide), flag_raiseIf_field _ _ _ (by decide), Bool.or_eq_true]
    exact or_comm

/-- Settles O40. -/
theorem pmuSequences : Obligations.PmuSequences := by
  unfold Obligations.PmuSequences
  refine ⟨?_, ?_, fun _ _ _ _ _ => pmuRangeLimitMove_of_seq, ?_, ?_⟩
  · intro n t s h
    have hdef : exec (.pmuConnectClose n) s = execPmuConnectClose n s := rfl
    rw [hdef]
    unfold execPmuConnectClose
    rw [h]
  · rintro n t conn s h rfl
    have hdef : exec (.pmuDisconnectOff n) s = execPmuDisconnectOff n s := rfl
    rw [hdef]
    unfold execPmuDisconnectOff
    rw [h]
  · intro n t r s h
    have hexec : exec (.pmuRangeOldOpen n) s =
        .next ((s.advanceTo (t + 2 * usU)).modPmu n (fun p => { p with range := r, seq := .rangeEnd t r })) := by
      have hdef : exec (.pmuRangeOldOpen n) s = execPmuRangeOldOpen n s := rfl
      rw [hdef]
      unfold execPmuRangeOldOpen
      rw [h]
    exact ⟨_, hexec, State.pmu_mod _ _ _, rfl⟩
  · intro n t r s h
    have hdef : exec (.pmuRangeDone n) s = execPmuRangeDone n s := rfl
    rw [hdef]
    unfold execPmuRangeDone
    rw [h]

/-! ### The sine generator -/

/-- Pin `p` of strand `k` is driven when it is in `mask`; one whose drive changes, or whose generator (re)starts, is disturbed. -/
def State.sinePin (s : State) (k mask : Nat) (restart : Bool) (p : Nat) : State :=
  let n := pinOf k p
  let was := (s.pmu n).sg
  let now := bitOf mask p
  let s' := if was == now then s else s.modPmu n (fun q => { q with sg := now })
  if (now || was) && (restart || was != now) then s'.disturb n else s'

def State.sineDrive (s : State) (k mask : Nat) (restart : Bool) : State :=
  s.each (List.range 8) (fun s p => s.sinePin k mask restart p)

/-- What the drive of a strand's pins leaves as it was. -/
def State.sineView (s : State) : Store Strand × Store Word × Nat := (s.strands, s.regs, s.now)

theorem disturb_pmu (s : State) (n m : Nat) : (s.disturb n).pmu m = s.pmu m := by
  unfold State.disturb
  split <;> rfl

theorem sineView_disturb (s : State) (n : Nat) : (s.disturb n).sineView = s.sineView := by
  unfold State.disturb
  split <;> rfl

theorem sineView_sineDrive (s : State) (k mask : Nat) (restart : Bool) : (s.sineDrive k mask restart).sineView = s.sineView := by
  refine each_keeps (g := State.sineView) (fun s p => ?_) s _
  unfold State.sinePin
  dsimp only
  split
  · rw [sineView_disturb]
    split <;> rfl
  · split <;> rfl

theorem sinePin_pmu (s : State) (k mask : Nat) (restart : Bool) (p n : Nat) :
    (s.sinePin k mask restart p).pmu n = (if (s.pmu (pinOf k p)).sg == bitOf mask p then s
      else s.modPmu (pinOf k p) (fun q => { q with sg := bitOf mask p })).pmu n := by
  unfold State.sinePin
  dsimp only
  split
  · exact disturb_pmu _ _ _
  · rfl

theorem sinePin_sg (s : State) (k mask : Nat) (restart : Bool) (p : Nat) :
    ((s.sinePin k mask restart p).pmu (pinOf k p)).sg = bitOf mask p := by
  rw [sinePin_pmu]
  split
  · next h => exact eq_of_beq h
  · rw [State.pmu_mod]

theorem sinePin_sg_other (s : State) (k mask : Nat) (restart : Bool) {p q : Nat} (h : q ≠ p) :
    ((s.sinePin k mask restart p).pmu (pinOf k q)).sg = (s.pmu (pinOf k q)).sg := by
  have hne : pinOf k q ≠ pinOf k p := by
    unfold pinOf
    omega
  rw [sinePin_pmu]
  split
  · rfl
  · rw [State.pmu_mod_other _ _ hne]

theorem sineDrive_sg (s : State) (k mask : Nat) (restart : Bool) : ∀ p < 8,
    ((s.sineDrive k mask restart).pmu (pinOf k p)).sg = bitOf mask p := by
  have hrange (m : Nat) : ∀ p < m,
      ((s.each (List.range m) (fun s p => s.sinePin k mask restart p)).pmu (pinOf k p)).sg = bitOf mask p := by
    induction m with
    | zero => exact fun p hp => absurd hp (Nat.not_lt_zero p)
    | succ m ih =>
      intro p hp
      unfold State.each at ih ⊢
      rw [List.range_succ, List.foldl_append, List.foldl_cons, List.foldl_nil]
      by_cases h : p = m
      · rw [h, sinePin_sg]
      · rw [sinePin_sg_other _ _ _ _ h, ih p (by omega)]
  exact hrange 8

/-- What the drive keeps, part by part. -/
theorem sineDrive_keeps (s : State) (k mask : Nat) (restart : Bool) :
    (s.sineDrive k mask restart).strands = s.strands ∧ (s.sineDrive k mask restart).regs = s.regs ∧ (s.sineDrive k mask restart).now = s.now := by
  have h := sineView_sineDrive s k mask restart
  simp only [State.sineView, Prod.mk.injEq] at h
  exact h

/-- R308 to R311: what a sample of an enabled generator does; `clip` also holds where a pin's own limits clip the code. -/
theorem exec_sineSample_on {k : Fin 192} {phase : Nat} {raw : Int} {s : State} (hen : s.flag (strandA k Reg.SG_CTRL) Fld.SG_CTRL_EN = true)
    (hphase : phase = (if (s.strand k).sineLoad then ((s.sq k Reg.SG_PHASE0).toNat % 65536) * 2 ^ 32
      else ((s.strand k).sinePhase + min ftwMax (s.sgFtw k)) % 2 ^ 48))
    (hraw : raw = s.sineRaw k (s.sineEntry k (phase / 2 ^ 36))) :
    ∃ more restart, exec (.sineSample k) s = .next (((s.modStrand k (fun st =>
      { st with sinePhase := phase, sineLoad := false, sineRun := true, sineCode := (max 0 (min 65535 raw)).toNat })).raiseIf
        (raw < 0 || 65535 < raw || more) (strandA k Reg.SG_STAT) Fld.SG_STAT_CLIP).sineDrive k
        (s.fld (strandA k Reg.SG_CTRL) Fld.SG_CTRL_PINS) restart) := by
  have hdef : exec (.sineSample k) s = execSineSample k s := rfl
  rw [hdef]
  unfold execSineSample
  dsimp only
  rw [if_pos hen, if_pos hen, ← hphase, ← hraw]
  exact ⟨_, _, rfl⟩

theorem exec_sineSample_off {k : Fin 192} {s : State} (hen : s.flag (strandA k Reg.SG_CTRL) Fld.SG_CTRL_EN = false) :
    ∃ restart, exec (.sineSample k) s = .next ((s.modStrand k (fun st => { st with sineRun := false })).sineDrive k 0 restart) := by
  have hdef : exec (.sineSample k) s = execSineSample k s := rfl
  rw [hdef]
  unfold execSineSample
  dsimp only
  rw [if_neg (ne_true_of_eq_false hen), if_neg (ne_true_of_eq_false hen)]
  exact ⟨_, rfl⟩

theorem bitOf_zero (p : Nat) : bitOf 0 p = false := by simp [bitOf]

theorem strand_of_strands {s t : State} (h : s.strands = t.strands) (k : Nat) : s.strand k = t.strand k := by
  unfold State.strand
  rw [h]

theorem flag_of_regs {s t : State} (h : s.regs = t.regs) (a : Nat) (f : Field) : s.flag a f = t.flag a f := by
  unfold State.flag State.fld State.rd
  rw [h]

theorem raiseIf_strand (s : State) (c : Bool) (a : Nat) (f : Field) (k : Nat) : (s.raiseIf c a f).strand k = s.strand k := by
  cases c <;> rfl

/-- Settles O41. -/
theorem sineGenerator : Obligations.SineGenerator := by
  unfold Obligations.SineGenerator
  refine ⟨fun k phase raw s hen hphase hraw => ?_, fun k s hen => ?_⟩
  · obtain ⟨more, restart, hexec⟩ := exec_sineSample_on hen hphase hraw
    refine ⟨_, hexec, ?_⟩
    obtain ⟨hstrands, hregs, hnow⟩ := sineDrive_keeps ((s.modStrand k (fun st =>
      { st with sinePhase := phase, sineLoad := false, sineRun := true, sineCode := (max 0 (min 65535 raw)).toNat })).raiseIf
        (raw < 0 || 65535 < raw || more) (strandA k Reg.SG_STAT) Fld.SG_STAT_CLIP) k (s.fld (strandA k Reg.SG_CTRL) Fld.SG_CTRL_PINS) restart
    refine ⟨?_, fun hclip => ?_, sineDrive_sg _ _ _ _, hnow.trans (raiseIf_now _ _ _ _)⟩
    · rw [strand_of_strands hstrands, raiseIf_strand, State.strand_mod]
    · rw [flag_of_regs hregs, flag_raiseIf _ _ _ _ (by decide)]
      rcases hclip with h | h <;> simp [h]
  · obtain ⟨restart, hexec⟩ := exec_sineSample_off hen
    obtain ⟨hstrands, hregs, hnow⟩ := sineDrive_keeps (s.modStrand k (fun st => { st with sineRun := false })) k 0 restart
    refine ⟨_, hexec, ?_, fun p hp => (sineDrive_sg _ _ _ _ p hp).trans (bitOf_zero p), hregs, hnow⟩
    rw [strand_of_strands hstrands, State.strand_mod]

end Sys2Proof.Machine
end

section
/-! PROOFS. Calibration runs, the life store and the coves (spec/13_calibration.md R338 to R348; spec/21_life_store.md R494 to R500;
spec/17_clocks_power_startup.md R421 to R425). -/

namespace Sys2Proof.Machine

/-! ### Calibration runs -/

theorem exec_calRunEnd_of_pins {c : Fin 16} {meas : List CalMeas} {temp : BitVec 8} {r : CalRun} {left : List Nat} {m acc : Nat} {s s1 s2 : State}
    (hr : Store.get? s.calRuns c = some r) (hk : r.kind ≠ 4) (hleft : left = (pinsSet r.pins).filter (fun p => !bitOf r.tripped p))
    (hfold : left.foldl (fun (x : State × Nat) p => ((State.endCalPin r meas temp.toNat x.1 p).1,
      if (State.endCalPin r meas temp.toNat x.1 p).2 then x.2 + 2 ^ p else x.2)) (s, 0) = (s1, acc))
    (hm : m = left.foldl (fun m p => m + 2 ^ p) 0)
    (h2 : s2 = (if r.kind = 5 then { s1 with calZero := s1.calZero.filter (fun e => e.1 / 8 / 8 != r.strand) } else s1)) :
    exec (.calRunEnd c meas temp) s = .next ((((if s2.flag Reg.CB_CTRL Fld.CB_CTRL_AUTO_STROBE then
      s2.strobePins r.strand acc (kindGroups r.kind) else s2).leaveCal r).calResult r.strand r.kind 1 acc (m - acc)).calReply r.cmd 0) := by
  subst hleft hm h2
  obtain rfl := congrArg Prod.fst hfold
  obtain rfl := congrArg Prod.snd hfold
  refine congrArg Host.Outcome.next ?_
  rw [hr]
  exact if_neg hk

theorem exec_calRunEnd_of_zero {c : Fin 16} {meas : List CalMeas} {temp : BitVec 8} {r : CalRun} {left : List Nat} {m f : Nat} {s s0 : State}
    (hr : Store.get? s.calRuns c = some r) (hk : r.kind = 4) (hleft : left = (pinsSet r.pins).filter (fun p => !bitOf r.tripped p))
    (hf : s.free = (f, s0)) (hm : m = left.foldl (fun m p => m + 2 ^ p) 0) :
    exec (.calRunEnd c meas temp) s = .next ((((left.foldl (fun x p =>
      ({ x with calZero := Store.put x.calZero (8 * pinOf r.strand p + r.src) (measOf meas p).z }).calTemp (pinOf r.strand p) 4 temp.toNat) s0).leaveCal
        r).calResult r.strand 4 1 (Nat.land f m) (m - Nat.land f m)).calReply r.cmd 0) := by
  subst hleft hm
  refine congrArg Host.Outcome.next ?_
  rw [hr]
  refine (if_pos hk).trans ?_
  dsimp only
  rw [hf]
  rfl

/-- Settles O42. -/
theorem calibrationRuns : Obligations.CalibrationRuns := by
  unfold Obligations.CalibrationRuns
  refine ⟨fun c s hc => ?_, fun _ _ _ _ _ _ _ _ _ _ => exec_calRunEnd_of_pins, fun _ _ _ _ _ _ _ _ _ => exec_calRunEnd_of_zero⟩
  refine congrArg Host.Outcome.next ?_
  rw [hc]

/-! ### The life store -/

theorem exec_flushWaitEnd_of_waiting {r : Bool} {rest : List Bool} {s s1 : State} (hw : s.store.waiting = r :: rest)
    (hops : ∀ b, FlashOp.flush b ∉ s.store.ops)
    (h1 : s1 = (match s.store.flushAt with | some t => s.advanceTo (t + 60000000 * usU) | none => s)) :
    exec .flushWaitEnd s = .next (({ s1 with store := { s1.store with waiting := rest } }).pushOp (.flush r)) := by
  have hnone : ¬(s.store.ops.any (fun o => match o with | .flush _ => true | _ => false)) = true := by
    rw [List.any_eq_true]
    rintro ⟨o, ho, hflush⟩
    cases o with
    | flush b => exact hops b ho
    | setup => exact absurd hflush (by decide)
    | cal => exact absurd hflush (by decide)
    | program slot image => exact absurd hflush Bool.false_ne_true
  subst h1
  refine congrArg Host.Outcome.next ?_
  rw [hw]
  exact if_neg hnone

theorem calendarTick_cases {s s1 : State} {cal t : Nat} (ha : s.power.aonLost = false)
    (h1 : s1 = ({ s.advanceTo (s.store.secAt + 1000000 * usU) with
        store := { s.store with secAt := max s.now (s.store.secAt + 1000000 * usU) } }).life
      (1554 + min 2 (s.fld Reg.DEV_STATE Fld.DEV_STATE_POWER))) (hcal : cal = (s1.rd Reg.LS_CAL_S).toNat) (ht : t = s1.tideNow / 1200000000) :
    (s1.tideValid = false → exec .calendarTick s = .next (s1.setCalendar (cal + 1))) ∧
    (s1.tideValid = true → cal ≤ t + 1 → exec .calendarTick s = .next (s1.setCalendar t)) ∧
    (s1.tideValid = true → t + 1 < cal → exec .calendarTick s = .next ((s1.raise Reg.LS_STAT Fld.LS_STAT_CAL_SKEW).setCalendar (cal + 1))) := by
  have hexec : exec .calendarTick s = .next (if s1.tideValid then
      if t + 1 < cal then (s1.raise Reg.LS_STAT Fld.LS_STAT_CAL_SKEW).setCalendar (cal + 1) else s1.setCalendar t
      else s1.setCalendar (cal + 1)) := by
    subst hcal ht h1
    exact congrArg Host.Outcome.next (if_neg (ne_true_of_eq_false ha))
  rw [hexec]
  exact ⟨fun hv => congrArg _ (if_neg (ne_true_of_eq_false hv)), fun hv hle => congrArg _ ((if_pos hv).trans (if_neg (not_lt_of_ge hle))),
    fun hv hlt => congrArg _ ((if_pos hv).trans (if_pos hlt))⟩

/-- Settles O43. -/
theorem lifeStore : Obligations.LifeStore := by
  unfold Obligations.LifeStore
  refine ⟨?_, fun _ _ _ _ => exec_flushWaitEnd_of_waiting, ?_, ?_, fun _ _ _ _ => calendarTick_cases, ?_⟩
  · rintro s s1 rfl
    rfl
  · rintro ok req at_ rest s s1 hruns hops rfl
    refine congrArg Host.Outcome.next ((if_neg (by simp [hruns])).trans ?_)
    rw [hops]
  · rintro ok at_ rest s s1 hruns hops rfl
    refine congrArg Host.Outcome.next ((if_neg (by simp [hruns])).trans ?_)
    rw [hops]
  · rintro ok at_ rest s s1 hruns hops rfl
    refine congrArg Host.Outcome.next ?_
    rw [hops]
    exact if_neg (by simp [hruns])

/-! ### The coves -/

theorem cvState_setFld (s : State) (c v : Nat) (hv : v < 8) : (s.setFld (coveA c Reg.CV_STATE) Fld.CV_STATE_STATE v).cvState c = v := by
  unfold State.cvState
  rw [fld_setFld_eq _ _ _ _ (by decide)]
  exact Nat.mod_eq_of_lt (lt_of_lt_of_le hv (by decide))

theorem pllAt_of_get {s : State} {c t : Nat} (h : Store.get? s.power.plls c = some t) : s.pllAt c = t := by
  unfold State.pllAt Store.getD
  rw [h]
  rfl

/-- R24: the wake of the lowest cove that waits is admitted. -/
theorem coveWakeAdmit_of_waiting {c : Nat} {s : State} (hc : (List.range 16).find? (fun c => s.cvState c == 4) = some c) :
    Does .coveWakeAdmit s (fun r => r.cvState c = 1 ∧ r.power.lastPll = some r.now ∧ r.pllAt c = r.now ∧
      r.now = (match s.power.lastPll with | some t => max s.now (t + 50 * usU) | none => s.now)) := by
  obtain ⟨s1, h1⟩ : ∃ s1, s1 = (match s.power.lastPll with | some t => s.advanceTo (t + 50 * usU) | none => s) := ⟨_, rfl⟩
  have hexec : exec .coveWakeAdmit s = .next (({ s1 with power := { s1.power with
      lastPll := some s1.now, plls := Store.put s1.power.plls c s1.now } }).setFld (coveA c Reg.CV_STATE) Fld.CV_STATE_STATE 1) := by
    subst h1
    refine congrArg Host.Outcome.next ?_
    rw [hc] <;> rfl
  refine ⟨_, hexec, cvState_setFld _ _ _ (by decide), rfl, ?_, ?_⟩
  · exact pllAt_of_get (Store.get?_put_same s1.power.plls c s1.now)
  · rw [State.setFld_now, h1]
    cases s.power.lastPll <;> rfl

/-- Settles O44. -/
theorem coveSequences : Obligations.CoveSequences := by
  unfold Obligations.CoveSequences
  refine ⟨?_, fun _ _ => coveWakeAdmit_of_waiting, ?_, ?_, ?_, ?_, ?_⟩
  · intro c s h
    exact congrArg Host.Outcome.next (if_pos h)
  · intro c at_ s h
    exact ⟨_, congrArg Host.Outcome.next (if_pos h), cvState_setFld _ _ _ (by decide), rfl, rfl⟩
  · rintro c s s1 h rfl
    exact congrArg Host.Outcome.next (if_pos h)
  · intro c s h
    exact congrArg Host.Outcome.next (if_pos h)
  · intro c at_ s h
    exact congrArg Host.Outcome.next (if_pos h)
  · intro s hv
    exact ⟨_, congrArg Host.Outcome.next (if_pos hv), rfl, rfl⟩

end Sys2Proof.Machine
end

section
/-! PROOFS. Starting and restarting, and the fault collector (spec/17_clocks_power_startup.md R432; spec/18_faults_and_thermal.md R443 to R464). -/

namespace Sys2Proof.Machine

/-! ### Start-up (R432) -/

/-- The start-up from step 3 on, or from step 4, until step `stop`: `s` is the state once the start is recorded and step 3 made. -/
def State.startSteps (s : State) (f : StartFacts) (from3 : Bool) (stop : Nat) : State :=
  if from3 = true ∧ stop ≤ 3 then s
  else if s.graveOpen then s.failed
  else if stop ≤ 4 then s.atStep 4 else ((s.atStep 4).step4).stepsFrom5 f stop

theorem exec_startup_of_standing {f : StartFacts} {s s1 s2 : State} (hb : s.power.begun = false)
    (hs : s.fld Reg.DEV_STATE Fld.DEV_STATE_STATE = 0)
    (h1 : s1 = ({ s.advanceTo f.at_ with power := { s.power with begun := true } }).setFld Reg.DEV_PWR_STAT Fld.DEV_PWR_STAT_LAST_START s.power.cause)
    (h2 : s2 = (if s.fld Reg.DEV_STATE Fld.DEV_STATE_STEP = 3 then s1.step3 f else s1)) :
    exec (.startup f) s = .next (s2.startSteps f (decide (s.fld Reg.DEV_STATE Fld.DEV_STATE_STEP = 3)) (f.rail.getD 99)) := by
  subst h2 h1
  refine congrArg Host.Outcome.next ((if_neg (by simp [hb, hs])).trans ?_)
  unfold State.startSteps
  simp only [decide_eq_true_eq]
  rfl

theorem startSteps_grave {s : State} {f : StartFacts} {from3 : Bool} {stop : Nat} (h : 3 < stop) (hg : s.graveOpen = true) :
    s.startSteps f from3 stop = s.failed := (if_neg (by omega)).trans (if_pos hg)

theorem startSteps_good {s : State} {f : StartFacts} {from3 : Bool} {stop : Nat} (h : 4 < stop) (hg : s.graveOpen = false) :
    s.startSteps f from3 stop = ((s.atStep 4).step4).stepsFrom5 f stop :=
  (if_neg (by omega)).trans ((if_neg (ne_true_of_eq_false hg)).trans (if_neg (by omega)))

theorem startSteps_four {s : State} {f : StartFacts} {from3 : Bool} (hg : s.graveOpen = false) : s.startSteps f from3 4 = s.atStep 4 :=
  (if_neg (by omega)).trans ((if_neg (ne_true_of_eq_false hg)).trans (if_pos (by omega)))

/-- R458: Beacon runs the firmware that its boot code has verified. -/
theorem beaconBootDone_cases {fw : Option Word} {at_ b : Nat} {s s1 : State} (hb : s.faults.booting = some b)
    (h1 : s1 = { s.advanceTo at_ with faults := { s.faults with booting := none } }) :
    (fw = none → exec (.beaconBootDone fw at_) s = .next ((s1.raise Reg.DEV_STAT Fld.DEV_STAT_FW_FAIL).fault srcBeacon 1 0)) ∧
    (∀ v s2, fw = some v → s2 = (({ s1 with faults := { s1.faults with kickAt := s1.now } }.wr Reg.DEV_FW_VER v).setFld Reg.FC_HELM_STATE
        Fld.FC_HELM_STATE_BEACON_RUN 1) →
      exec (.beaconBootDone fw at_) s = .next (let s3 := if !s2.ctl.base.isEmpty && decide (v.toNat / 65536 < imgFw s2.ctl.base) then s2.noUcode else s2
        ({ s3 with store := { s3.store with opSince := none } }.startOp).resumePlacing)) := by
  subst h1
  refine ⟨?_, ?_⟩
  · rintro rfl
    refine congrArg Host.Outcome.next ?_
    rw [hb]
    rfl
  · rintro v s2 rfl rfl
    refine congrArg Host.Outcome.next ?_
    rw [hb]
    rfl

/-- Settles O46. -/
theorem starting : Obligations.Starting := by
  unfold Obligations.Starting
  refine ⟨?_, ?_, fun _ _ _ _ _ => beaconBootDone_cases⟩
  · intro f s s1 s2 hb hs h1 h2
    rw [exec_startup_of_standing hb hs h1 h2]
    refine ⟨fun hg hr => ?_, fun hg hr => ?_, fun hg n hr hn => ?_, fun hg hr => ?_, fun h3 hr => ?_⟩
    · rw [hr]
      exact congrArg _ (startSteps_grave (by decide) hg)
    · rw [hr]
      exact congrArg _ (startSteps_good (by decide) hg)
    · rw [hr]
      exact congrArg _ (startSteps_good hn hg)
    · rw [hr]
      exact congrArg _ (startSteps_four hg)
    · rw [hr, h3]
      rfl
  · rintro t s s1 hc hl hg rfl
    refine congrArg Host.Outcome.next ?_
    rw [hc]
    exact if_neg (by simp [hl, hg])

/-! ### The fault collector -/

/-- Settles O47. -/
theorem faultEvents : Obligations.FaultEvents := by
  unfold Obligations.FaultEvents
  refine ⟨?_, ?_, ?_, ?_, ?_, ?_, fun _ _ _ => rfl, ?_⟩
  · intro m rest s hq
    refine congrArg Host.Outcome.next ?_
    dsimp only
    rw [hq]
  · intro m s hv
    exact congrArg Host.Outcome.next (if_pos hv)
  · rintro r s s1 rfl
    rfl
  · intro t s hc
    refine congrArg Host.Outcome.next ?_
    rw [hc]
    rfl
  · rintro s s1 hb rfl
    exact congrArg Host.Outcome.next (if_pos hb)
  · rintro t a s s0 s1 hd hf rfl
    refine congrArg Host.Outcome.next ?_
    rw [hd]
    dsimp only
    rw [hf]
  · intro k t s hr
    refine congrArg Host.Outcome.next ?_
    rw [hr]
    rfl

theorem takeMessage_first {m : FaultMsg} {cls : Nat} {own : Bool} {s : State} (h : Store.get? s.faults.recs m.source = none) :
    ∃ s1 : State, s1.faults.recs = Store.put s.faults.recs m.source ⟨s.stamp, m.source, m.kind, cls, 0, m.forced, m.addr, s.faults.opened⟩ ∧
      s1.faults.opened = s.faults.opened + 1 ∧ s1.flag Reg.FC_STAT Fld.FC_STAT_OPENED = true ∧
      s.takeMessage m cls own = ((s1.faultEvent ⟨s.stamp, m.source, m.kind, cls, 0, m.forced, m.addr, s.faults.opened⟩).showAlert).classActions
        cls m.source m.kind own := by
  obtain ⟨s0, h0⟩ : ∃ s0 : State, s0 = { s with faults := { s.faults with
    recs := Store.put s.faults.recs m.source ⟨s.stamp, m.source, m.kind, cls, 0, m.forced, m.addr, s.faults.opened⟩,
    opened := s.faults.opened + 1 } } := ⟨_, rfl⟩
  have htake : s.takeMessage m cls own = (((s0.raise Reg.FC_STAT Fld.FC_STAT_OPENED).faultEvent
      ⟨s.stamp, m.source, m.kind, cls, 0, m.forced, m.addr, s.faults.opened⟩).showAlert).classActions cls m.source m.kind own := by
    unfold State.takeMessage
    rw [h, h0]
  refine ⟨s0.raise Reg.FC_STAT Fld.FC_STAT_OPENED, ?_, ?_, flag_raise _ _ _ (by decide), htake⟩
  · rw [State.raise_faults, h0]
  · rw [State.raise_faults, h0]

/-- R446: a message of no higher class merges into the open record. -/
theorem takeMessage_merge {m : FaultMsg} {cls : Nat} {own : Bool} {r : FaultRec} {s : State} (h : Store.get? s.faults.recs m.source = some r)
    (hle : cls ≤ r.cls) :
    s.takeMessage m cls own = ({ s with faults := { s.faults with
      recs := Store.put s.faults.recs m.source { r with kind := Nat.lor r.kind m.kind, merge := min 255 (r.merge + 1) } } }).raise Reg.FC_STAT
        Fld.FC_STAT_MERGED := by
  unfold State.takeMessage
  rw [h]
  dsimp only
  rw [Nat.max_eq_left hle, if_neg (Nat.lt_irrefl _)]

/-- Settles O48. -/
theorem faultRecords : Obligations.FaultRecords := by
  unfold Obligations.FaultRecords
  refine ⟨fun _ _ _ _ => takeMessage_first, fun m cls own r s h hle => ?_⟩
  rw [takeMessage_merge h hle]
  exact ⟨Store.get?_put_same _ _ _, flag_raise _ _ _ (by decide), rfl, rfl⟩

end Sys2Proof.Machine
end

section
/-! PROOFS. Sensors, microcode commands, self-tests and the SPI port (spec/18_faults_and_thermal.md R461 to R465; spec/19_engine_control_store.md;
spec/20_spi_port.md R481 to R488). -/

namespace Sys2Proof.Machine

/-! ### Sensors and self-tests -/

/-- R461, R462: the sensor in turn is read; one that is broken reads as the highest temperature. -/
theorem exec_sensorRead_of_turn {ok broken : Bool} {raw : BitVec 16} {n : Nat} {v : Int} {s s1 s2 : State} (hn : n = s.thermal.next)
    (hb : broken = (!ok || decide (signed 16 raw.toNat < -deg 45) || decide (deg 155 < signed 16 raw.toNat)))
    (hv : v = (if broken then deg 150 else max (-deg 40) (min (deg 150) (signed 16 raw.toNat))))
    (h1 : s1 = (({ s.advanceTo (s.thermal.readAt + 10 * usU) with thermal := { s.thermal with
      next := (n + 1) % 24, readAt := max s.now (s.thermal.readAt + 10 * usU) } }).setFld (Reg.TH_SENS + 4 * n) Fld.TH_SENS_TEMP (unsigned 16 v)).setFld
        (Reg.TH_SENS + 4 * n) Fld.TH_SENS_BROKEN (bitN broken))
    (h2 : s2 = (if broken && !s.flag (Reg.TH_SENS + 4 * n) Fld.TH_SENS_BROKEN then (s1.raise Reg.TH_STAT Fld.TH_STAT_BROKEN).fault srcThermal 3 n
      else s1)) : exec (.sensorRead ok raw) s = .next s2.thermalUpdate := by
  subst h2 h1 hv hb hn
  rfl

theorem exec_csCommandDone_of_ready {bad : List (Fin 208)} {at_ : Nat} {r : CsRun} {l : List Nat} {s s1 s2 s3 : State} (hr : s.ctl.run = some r)
    (hready : s.csReady r = true)
    (h1 : s1 = (({ s with ctl := { s.ctl with run := none } }).advanceTo at_).setFld Reg.CS_STAT Fld.CS_STAT_BUSY 0)
    (hl : l = (if r.cmd = 4 ∨ r.code ≠ 1 then [] else (List.range 208).filter (fun e => bad.any (fun (b : Fin 208) => b.val == e))))
    (h2 : s2 = (if r.code = 1 then s1.csAct r l else s1))
    (h3 : s3 = (if r.cmd = 1 then s2.showLoaded false (if r.slot = 0 then r.code else 0) (if r.slot = 1 then r.code else 0) (s2.loadTime r.at_)
      else s2)) :
    exec (.csCommandDone bad at_) s = .next (s3.csEnds r.cmd r.code (l.headD 0xFF)).runWaitingTests := by
  subst h3 h2 hl h1
  refine congrArg Host.Outcome.next ?_
  rw [hr]
  exact if_neg (by simp [hready])

/-- The strand of a self-test that has ended with the result `r` goes on. -/
def State.testGoesOn (s : State) (t : RtTest) (r : Nat) : State :=
  let s1 := match t.strand with
    | none => s
    | some k =>
      let x := (s.testReturn k t.was).strandless k
      if r = 3 then x.raiseStop k .deviceFault else x
  if r = 2 then s1.healthChanged else s1

/-- R441: a self-test ends with its verdict, and its strand goes on. -/
theorem rtSelftestEnd_cases {v : RtVerdict} {t : RtTest} {s s1 : State} (ht : s.power.test = some t)
    (h1 : s1 = ({ s.advanceTo (t.at_ + 14000 * usU) with power := { s.power with test := none } }).testOutcome t (t.result v)) :
    (t.strand = none → exec (.rtSelftestEnd v) s = .next (if t.result v = 2 then s1.healthChanged else s1)) ∧
    (∀ k s2, t.strand = some k → s2 = (s1.testReturn k t.was).strandless k →
      exec (.rtSelftestEnd v) s = .next (if t.result v = 2 then s2.healthChanged else if t.result v = 3 then s2.raiseStop k .deviceFault else s2)) := by
  have hexec : exec (.rtSelftestEnd v) s = .next (s1.testGoesOn t (t.result v)) := by
    subst h1
    refine congrArg Host.Outcome.next ?_
    rw [ht]
    rfl
  rw [hexec]
  unfold State.testGoesOn
  refine ⟨fun hstrand => ?_, ?_⟩
  · rw [hstrand]
  · rintro k s2 hstrand rfl
    rw [hstrand]
    dsimp only
    by_cases h2 : t.result v = 2
    · rw [if_pos h2, if_pos h2, if_neg (by omega)]
    · rw [if_neg h2, if_neg h2]

/-- Settles O49. -/
theorem thermalAndTests : Obligations.ThermalAndTests := by
  unfold Obligations.ThermalAndTests
  refine ⟨fun _ _ _ _ _ _ _ _ => exec_sensorRead_of_turn, ?_, fun _ _ _ _ _ _ _ _ => exec_csCommandDone_of_ready,
    fun _ _ _ _ => rtSelftestEnd_cases⟩
  intro t s ht
  refine congrArg Host.Outcome.next ?_
  rw [ht]
  rfl

/-! ### The SPI port -/

theorem exec_spiRead_of_live {waddr : BitVec 22} {words : Nat} {cut : Bool} {out : List Byte} {s s1 : State} (hl : s.masterLive .spi = true)
    (hw : words ≠ 0) (hr : State.spiReadWords cut (spiAddrs (words + bitN cut) (4 * waddr.toNat)) true s [] = (out, s1)) :
    exec (.spiRead waddr words cut) s = .next ((if cut then s1.raise Reg.SPI_STAT Fld.SPI_STAT_PARTIAL else s1).send (.spiData out)) := by
  have hcut : (cut || words == 0) = cut := by simp [hw]
  refine congrArg Host.Outcome.next ((if_neg (by simp [hl])).trans ?_)
  dsimp only
  rw [hcut]
  unfold spiAddr
  rw [hr]
  rfl

/-- What SPI_STAT and SPI_LAST say of a burst of `n` words. -/
def State.spiOutcome (s : State) (r : Access) (n : Nat) (waddr : BitVec 22) : State :=
  match r with
  | .done _ => s.spiLast 1 n waddr
  | .deferred => (s.raise Reg.SPI_STAT Fld.SPI_STAT_DEFER).spiLast 2 n waddr
  | .error => (s.raise Reg.SPI_STAT Fld.SPI_STAT_BUS_ERR).spiLast 3 n waddr

/-- R485: a WRITE of 1 to 64 whole words is one burst. -/
theorem exec_spiWrite_of_words {waddr : BitVec 22} {data : List Word} {n : Nat} {s s0 s1 : State} {r : Access} (hl : s.masterLive .spi = true)
    (hn : n = data.length) (h0 : n ≠ 0) (hmax : n ≤ 64)
    (hs0 : s0 = s.raiseIf ((spiAddrs n (4 * waddr.toNat)).any (fun a => a % 0x10000 == 0xFFFC)) Reg.SPI_STAT Fld.SPI_STAT_WRAP)
    (hw : s0.writeBurst .spi (spiAddrs n (4 * waddr.toNat)) data (4 * waddr.toNat) 0 none = (r, s1)) :
    exec (.spiWrite waddr data 0) s = .next (s1.spiOutcome r n waddr) := by
  subst hn hs0
  refine congrArg Host.Outcome.next ((if_neg (by simp [hl])).trans ?_)
  dsimp only
  rw [if_neg (by decide), if_neg (by omega), if_neg h0]
  unfold State.spiNote spiAddr
  rw [hw]
  cases r <;> rfl

/-- A WRITE that ends as `outcome` says, with the status bit `f`, changes SPI_LAST and SPI_STAT only. -/
theorem spiWrite_dropped {waddr : BitVec 22} {data : List Word} {bits : Fin 32} {outcome : Nat} {f : Field} {s : State}
    (hl : s.masterLive .spi = true)
    (hcase : (bits ≠ 0 ∧ outcome = 4 ∧ f = Fld.SPI_STAT_MALFORMED) ∨ (bits = 0 ∧ 64 < data.length ∧ outcome = 5 ∧ f = Fld.SPI_STAT_LONG)) :
    exec (.spiWrite waddr data bits) s = .next ((s.raise Reg.SPI_STAT f).spiLast outcome data.length waddr) := by
  have hdef : exec (.spiWrite waddr data bits) s = execSpiWrite waddr data bits s := rfl
  rw [hdef]
  unfold execSpiWrite
  rw [if_neg (by simp [hl])]
  dsimp only
  rcases hcase with ⟨hbits, hout, hf⟩ | ⟨hbits, hlong, hout, hf⟩
  · have hne : bits.val ≠ 0 := fun h => hbits (Fin.ext h)
    rw [if_pos hne, hout, hf]
  · have heq : bits.val = 0 := by rw [hbits]; decide
    rw [if_neg (not_not_intro heq), if_pos hlong, hout, hf]

/-- What SPI_LAST records beside a status bit leaves every other register as it was. -/
theorem spiLast_raise {s : State} {f : Field} {outcome words : Nat} {waddr : BitVec 22} (hf : f.lo + f.width ≤ 32 ∧ 0 < f.width) :
    ((s.raise Reg.SPI_STAT f).spiLast outcome words waddr).rd Reg.SPI_LAST =
      BitVec.ofNat 32 (outcome * 2 ^ 29 + min 127 words * 2 ^ 22 + waddr.toNat) ∧
    ((s.raise Reg.SPI_STAT f).spiLast outcome words waddr).flag Reg.SPI_STAT f = true ∧
    (∀ a, a ≠ Reg.SPI_LAST → a ≠ Reg.SPI_STAT → ((s.raise Reg.SPI_STAT f).spiLast outcome words waddr).rd a = s.rd a) ∧
    ((s.raise Reg.SPI_STAT f).spiLast outcome words waddr).sent = s.sent := by
  unfold State.spiLast
  refine ⟨?_, ?_, fun a hlast hstat => ?_, ?_⟩
  · rw [rd_wr_same]
  · rw [flag_wr_ne _ _ _ (by decide), flag_raise _ _ _ hf]
  · rw [rd_wr_other _ _ hlast, rd_raise_ne _ _ hstat]
  · rw [State.wr_sent, State.raise_sent]

theorem flag_send (s : State) (o : Output) (a : Nat) (f : Field) : (s.send o).flag a f = s.flag a f := rfl

theorem send_sent (s : State) (o : Output) : (s.send o).sent = s.sent ++ [o] := rfl

/-- R482: the next address stays within its block of 64 KiB. -/
theorem spiNext_eq (a : Nat) : spiNext a = (if a % 0x10000 = 0xFFFC then a - 0xFFFC else a + 4) ∧
    spiNext a / 0x10000 = a / 0x10000 + (if a % 0x10000 = 0xFFFE ∨ a % 0x10000 = 0xFFFD ∨ a % 0x10000 = 0xFFFF then 1 else 0) := by
  refine ⟨rfl, ?_⟩
  unfold spiNext
  split <;> split <;> omega

/-- Settles O50. -/
theorem spiFrames : Obligations.SpiFrames := by
  unfold Obligations.SpiFrames
  refine ⟨fun _ _ _ _ _ _ => exec_spiRead_of_live, ?_, ?_, ?_, ?_, spiNext_eq⟩
  · intro waddr data n s s0 s1 r hl hn h0 hmax hs0 hw
    refine (exec_spiWrite_of_words hl hn h0 hmax hs0 hw).trans (congrArg _ ?_)
    cases r <;> rfl
  · intro waddr data bits outcome f s hl hcase
    refine ⟨_, spiWrite_dropped hl hcase, spiLast_raise ?_⟩
    rcases hcase with ⟨-, -, rfl⟩ | ⟨-, -, -, rfl⟩ <;> decide
  · intro waddr s hl
    have hdef : exec (.spiWrite waddr [] 0) s = execSpiWrite waddr [] 0 s := rfl
    rw [hdef]
    unfold execSpiWrite
    rw [if_neg (by simp [hl])]
    dsimp only
    rw [if_neg (by decide), if_neg (by decide), if_pos (by decide)]
    unfold State.spiLast
    rw [Nat.min_zero]
  · intro waddr words s hl
    have hlive : ¬(!s.masterLive .spi) = true := by simp [hl]
    refine ⟨⟨_, congrArg Host.Outcome.next ((if_neg hlive).trans (if_pos rfl)), ?_⟩,
      congrArg Host.Outcome.next ((if_neg hlive).trans (if_neg (by decide)))⟩
    obtain ⟨hlast, hflag, hother, hsent⟩ := spiLast_raise (s := s) (f := Fld.SPI_STAT_BAD_CMD) (outcome := 6) (words := words)
      (waddr := waddr) (by decide)
    refine ⟨?_, ?_, fun a hl hs => ?_, ?_⟩
    · rw [flag_send, hflag]
    · rw [rd_send, hlast]
    · rw [rd_send, hother a hl hs]
    · rw [send_sent, hsent]

end Sys2Proof.Machine
end

section
/-! PROOFS. Packets of the host (spec/14_host_transport.md R350 to R364). -/

namespace Sys2Proof.Machine

/-! ### Arrival (R350, R351) -/

theorem arrive_cases {h : RoceHead} {n : Nat} {s : State} (hc : s.coreLive = true) (hr : s.onRing = true) :
    (h.icrcOk = false → s.arrive h n = (none, (s.rxDrain n).raise Reg.HT_STAT Fld.HT_STAT_ICRC)) ∧
    (h.icrcOk = true → (h.qpn.toNat < 0x100 ∨ 0x140 ≤ h.qpn.toNat) → s.arrive h n = (none, (s.rxDrain n).raise Reg.HT_STAT Fld.HT_STAT_UNK_QP)) ∧
    (∀ q : Fin 64, h.icrcOk = true → h.qpn.toNat = 0x100 + q →
      s.arrive h n = (if (s.rxDrain n).qpRts q then some q.val else none, s.rxDrain n)) := by
  have hlive : ¬(!(s.coreLive && s.onRing)) = true := by simp [hc, hr]
  refine ⟨fun hi => ?_, fun hi hq => ?_, fun q hi hq => ?_⟩
  · exact (if_neg hlive).trans (if_pos (by simp [hi]))
  · exact (if_neg hlive).trans ((if_neg (by simp [hi])).trans (if_pos hq))
  · have hlt := q.isLt
    have hqn : h.qpn.toNat - 0x100 = q := by omega
    refine (if_neg hlive).trans ((if_neg (by simp [hi])).trans ((if_neg (by omega)).trans ?_))
    dsimp only
    rw [hqn]
    cases (s.rxDrain n).qpRts q <;> rfl

/-- A packet that no QP takes does nothing more. -/
theorem packets_dropped {h : RoceHead} {payload : List Byte} {va : BitVec 64} {rkey len : Word} {t : Nat} {s s1 : State} :
    ((s.advanceTo t).arrive h 1 = (none, s1) → exec (.knock h payload t) s = .next s1 ∧ exec (.windowRead h va rkey len t) s = .next s1 ∧
      exec (.rdmaAck h t) s = .next s1 ∧ exec (.nakRcvd h t) s = .next s1) ∧
    ((s.advanceTo t).arrive h (packets 1024 payload.length) = (none, s1) → exec (.windowWrite h va rkey payload t) s = .next s1 ∧
      exec (.rdmaReadResponse h payload t) s = .next s1) := by
  refine ⟨fun ha => ⟨?_, ?_, ?_, ?_⟩, fun ha => ⟨?_, ?_⟩⟩ <;> refine congrArg Host.Outcome.next ?_ <;> dsimp only <;> rw [ha]

/-! ### Indices (R361 to R364) -/

/-- R362: a knock in its turn moves the index that its KIND names. -/
theorem knock_cases {h : RoceHead} {payload : List Byte} {t q : Nat} {s s1 s2 : State} (ha : (s.advanceTo t).arrive h 1 = (some q, s1))
    (ht : s1.turnOf q h.psn.toNat = .now) (h2 : s2 = (s1.expect q 1).ack q h.psn.toNat) :
    (payload.length ≠ 16 ∨ s2.knockIdx q (leAt payload 0 1) = none →
      exec (.knock h payload t) s = .next (s2.raise (qpA q Reg.HT_QP_STAT) Fld.HT_QP_STAT_KNOCK_BAD)) ∧
    (∀ i, payload.length = 16 → s2.knockIdx q (leAt payload 0 1) = some i →
      exec (.knock h payload t) s = .next (s2.takeIndex q (leAt payload 4 4) i)) := by
  have hexec : exec (.knock h payload t) s = .next (if payload.length ≠ 16 then s2.raise (qpA q Reg.HT_QP_STAT) Fld.HT_QP_STAT_KNOCK_BAD
      else match s2.knockIdx q (leAt payload 0 1) with
        | none => s2.raise (qpA q Reg.HT_QP_STAT) Fld.HT_QP_STAT_KNOCK_BAD
        | some i => s2.takeIndex q (leAt payload 4 4) i) := by
    subst h2
    refine congrArg Host.Outcome.next ?_
    dsimp only
    rw [ha]
    dsimp only
    rw [ht] <;> rfl
  rw [hexec]
  refine ⟨fun hbad => ?_, fun i hlen hi => ?_⟩
  · by_cases hlen : payload.length ≠ 16
    · rw [if_pos hlen]
    · rw [if_neg hlen, hbad.resolve_left hlen]
  · rw [if_neg (not_not_intro hlen), hi]

theorem takeIndex_cases {q w v top d : Nat} {i : HostIdx} {s : State} (hi : s.idxHeld q i = (v, top))
    (hd : d = (w + 4294967296 - v % 4294967296) % 4294967296) :
    (d = 0 → s.takeIndex q w i = s) ∧ (d ≠ 0 → d ≤ top → s.takeIndex q w i = s.idxStep q d w i) ∧
    (d ≠ 0 → top < d → s.takeIndex q w i = s.raise (qpA q Reg.HT_QP_STAT) Fld.HT_QP_STAT_IDX_ERR) := by
  have htake : s.takeIndex q w i = if d = 0 then s else if d ≤ top then s.idxStep q d w i
      else s.raise (qpA q Reg.HT_QP_STAT) Fld.HT_QP_STAT_IDX_ERR := by
    subst hd
    unfold State.takeIndex
    rw [hi]
  rw [htake]
  exact ⟨fun h0 => if_pos h0, fun h0 hle => (if_neg h0).trans (if_pos hle), fun h0 hlt => (if_neg h0).trans (if_neg (by omega))⟩

/-! ### The register window (R357, R358) -/

/-- The outcome of an RDMA WRITE of the window. -/
def State.windowWritten (s : State) (q psn last : Nat) (r : Access) : State :=
  match r with
  | .done _ => s.ack q last
  | .deferred => s.windowNak q psn nakOperational Fld.HT_QP_STAT_WIN_DEFER
  | .error => s.windowNak q psn nakAccess Fld.HT_QP_STAT_WIN_ERR

/-- The outcome of an RDMA READ of the window. -/
def State.windowGiven (s : State) (q psn : Nat) (r : Access) : State :=
  match r with
  | .done l => s.respond q psn (l.flatMap (fun w => leBytes 4 w.toNat))
  | .deferred => s.windowNak q psn nakOperational Fld.HT_QP_STAT_WIN_DEFER
  | .error => s.windowNak q psn nakAccess Fld.HT_QP_STAT_WIN_ERR

theorem windowBad_of {s : State} {q va rkey len : Nat} (h : (s.rd (qpA q Reg.HT_QP_WKEY)).toNat ≠ rkey ∨ 0x1000000 < va + len) :
    s.windowBad q va rkey len = true := by
  unfold State.windowBad
  rw [Bool.or_eq_true, decide_eq_true_eq, decide_eq_true_eq]
  exact h

theorem windowBad_of_not {s : State} {q va rkey len : Nat} (hk : (s.rd (qpA q Reg.HT_QP_WKEY)).toNat = rkey) (hl : va + len ≤ 0x1000000) :
    ¬s.windowBad q va rkey len = true := by
  unfold State.windowBad
  rw [Bool.or_eq_true, decide_eq_true_eq, decide_eq_true_eq]
  omega

/-- R357: an RDMA WRITE in its turn, by its burst. -/
theorem exec_windowWrite_of_now {h : RoceHead} {va : BitVec 64} {rkey : Word} {data : List Byte} {t q last : Nat} {s s1 s2 : State}
    (ha : (s.advanceTo t).arrive h (packets 1024 data.length) = (some q, s1)) (ht : s1.turnOf q h.psn.toNat = .now)
    (hlast : last = psnAdd h.psn.toNat (packets (s1.mtu q) data.length - 1)) (h2 : s2 = s1.expect q (packets (s1.mtu q) data.length)) :
    exec (.windowWrite h va rkey data t) s = .next (if data.isEmpty then s2.ack q last
      else if s2.windowBad q va.toNat rkey.toNat data.length then s2.windowNak q h.psn.toNat nakAccess Fld.HT_QP_STAT_WIN_ERR
      else
        let words := wordsLe (data.length / 4) data
        let x := s2.writeBurst (qpMaster q) (wordsFrom va.toNat words.length) words va.toNat (data.length % 4) none
        x.2.windowWritten q h.psn.toNat last x.1) := by
  subst h2 hlast
  refine congrArg Host.Outcome.next ?_
  dsimp only
  rw [ha]
  dsimp only
  rw [ht] <;> rfl

theorem exec_windowRead_of_turn {h : RoceHead} {va : BitVec 64} {rkey len : Word} {t q : Nat} {s s1 s2 : State}
    (ha : (s.advanceTo t).arrive h 1 = (some q, s1))
    (ht : (s1.turnOf q h.psn.toNat = .now ∧ s2 = s1.expect q (packets (s1.mtu q) len.toNat)) ∨ (s1.turnOf q h.psn.toNat = .again ∧ s2 = s1)) :
    exec (.windowRead h va rkey len t) s = .next (if len.toNat = 0 then s2.respond q h.psn.toNat []
      else if s2.windowBad q va.toNat rkey.toNat len.toNat then s2.windowNak q h.psn.toNat nakAccess Fld.HT_QP_STAT_WIN_ERR
      else
        let x := s2.readBurst (qpMaster q) (wordsFrom va.toNat (min 257 (len.toNat / 4))) va.toNat (len.toNat % 4)
        x.2.windowGiven q h.psn.toNat x.1) := by
  refine congrArg Host.Outcome.next ?_
  dsimp only
  rw [ha]
  dsimp only
  rcases ht with ⟨ht, rfl⟩ | ⟨ht, rfl⟩
  · rw [ht]
    rfl
  · rw [ht]
    rfl

end Sys2Proof.Machine
end

section
/-! PROOFS. Answers to the device's requests, and PFC (spec/14_host_transport.md R350 to R354, R363). -/

namespace Sys2Proof.Machine

/-! ### Answers to the device's own requests -/

theorem takeWhile_of_first {α : Type} {p : α → Bool} {l r : List α} {x : α} (hl : ∀ a ∈ l, p a = true) (hx : p x = false) :
    (l ++ x :: r).takeWhile p = l := by
  rw [List.takeWhile_append_of_pos hl, List.takeWhile_cons_of_neg (by simp [hx]), List.append_nil]

/-- R350: the data of the oldest RDMA READ outstanding. -/
theorem exec_rdmaReadResponse_of_read {h : RoceHead} {data : List Byte} {t q : Nat} {before rest : List Rdma} {x : Rdma} {u : ReadUse} {s s1 : State}
    (ha : (s.advanceTo t).arrive h (packets 1024 data.length) = (some q, s1)) (hout : (s1.qp q).out = before ++ x :: rest)
    (hb : ∀ b ∈ before, b.use = none) (hu : x.use = some u) (hlen : data.length = x.len)
    (hpsn : h.psn.toNat = psnAdd (s1.outPsn q) ((before.map (fun r => s1.rdmaPackets q r)).foldl (· + ·) 0)) :
    exec (.rdmaReadResponse h data t) s = .next ((s1.progressed q rest).readDone q data u) := by
  have htake : (s1.qp q).out.takeWhile (fun r => r.use.isNone) = before := by
    rw [hout]
    exact takeWhile_of_first (fun b hmem => by simp [hb b hmem]) (by simp [hu])
  have hdrop : (s1.qp q).out.drop before.length = x :: rest := by
    rw [hout, List.drop_left]
  refine congrArg Host.Outcome.next ?_
  dsimp only
  rw [ha]
  dsimp only
  rw [htake, hdrop]
  dsimp only
  rw [if_neg (by simp [hpsn, hlen]), hu]

theorem exec_rdmaAck_of_arrive {h : RoceHead} {t q : Nat} {left : List Rdma} {s s1 : State} (ha : (s.advanceTo t).arrive h 1 = (some q, s1))
    (hleft : left = acked (s1.rdmaPackets q) h.psn.toNat (s1.outPsn q) (s1.qp q).out) :
    exec (.rdmaAck h t) s = .next (if left.length < (s1.qp q).out.length then s1.progressed q left else s1) := by
  subst hleft
  refine congrArg Host.Outcome.next ?_
  dsimp only
  rw [ha]

theorem exec_nakRcvd_of_out {h : RoceHead} {t q : Nat} {s s1 : State} (ha : (s.advanceTo t).arrive h 1 = (some q, s1)) (ho : (s1.qp q).out ≠ []) :
    exec (.nakRcvd h t) s = .next ((s1.raise (qpA q Reg.HT_QP_STAT) Fld.HT_QP_STAT_NAK_RCVD).qpError q) := by
  refine congrArg Host.Outcome.next ?_
  dsimp only
  rw [ha]
  exact if_neg (by simp [ho])

/-- R354: all requests are sent again, or the retries are exhausted. -/
theorem ackTimeout_cases {q : Fin 64} {s s1 s2 : State} (hr : s.qpRts q = true) (ho : (s.qp q).out ≠ [])
    (h1 : s1 = s.advanceTo ((s.qp q).progress + s.ackTimeout q))
    (h2 : s2 = s1.modQp q (fun p => { p with retries := p.retries + 1, progress := s1.now })) :
    (s1.fld (qpA q Reg.HT_QP_CTRL) Fld.HT_QP_CTRL_RETRY ≤ (s.qp q).retries →
      exec (.ackTimeout q) s = .next ((s1.raise (qpA q Reg.HT_QP_STAT) Fld.HT_QP_STAT_RETRY_EXC).qpError q)) ∧
    ((s.qp q).retries < s1.fld (qpA q Reg.HT_QP_CTRL) Fld.HT_QP_CTRL_RETRY → exec (.ackTimeout q) s = .next
      ((s.qp q).out.foldl (fun (x : State × Nat) r => x.1.sendRequest q x.2 r) (s2, s1.outPsn q)).1) := by
  have hexec : exec (.ackTimeout q) s = .next (if s1.fld (qpA q Reg.HT_QP_CTRL) Fld.HT_QP_CTRL_RETRY ≤ (s.qp q).retries then
      (s1.raise (qpA q Reg.HT_QP_STAT) Fld.HT_QP_STAT_RETRY_EXC).qpError q
      else ((s.qp q).out.foldl (fun (x : State × Nat) r => x.1.sendRequest q x.2 r) (s2, s1.outPsn q)).1) := by
    subst h2 h1
    exact congrArg Host.Outcome.next (if_neg (by simp [hr, ho]))
  rw [hexec]
  exact ⟨fun hle => congrArg _ (if_pos hle), fun hlt => congrArg _ (if_neg (by omega))⟩

/-! ### PFC (R352) -/

/-- A pause of `n` quanta of the class `key` replaces the one that stands; none ends it. -/
def setPause (key n now : Nat) (l : List (Nat × Nat)) : List (Nat × Nat) :=
  if n = 0 then l.filter (fun e => e.1 != key) else l.filter (fun e => e.1 != key) ++ [(key, now + pauseUnits n)]

theorem mem_setPause_other {key n now : Nat} {l : List (Nat × Nat)} {e : Nat × Nat} (h : e.1 ≠ key) : e ∈ setPause key n now l ↔ e ∈ l := by
  have hne : e ≠ (key, now + pauseUnits n) := fun he => h (by rw [he])
  unfold setPause
  split <;> simp [h, hne]

theorem mem_setPause_same {key n now : Nat} {l : List (Nat × Nat)} {e : Nat × Nat} (h : e.1 = key) :
    e ∈ setPause key n now l ↔ n ≠ 0 ∧ e.2 = now + pauseUnits n := by
  unfold setPause
  split
  · next h0 => simp [h, h0]
  · next h0 => simp [h, h0, Prod.ext_iff]

/-- The pauses of the classes `ks` of a port, one after another; `base` is the port's first class. -/
def setPauses (base now : Nat) (quanta : Nat → Nat) (ks : List Nat) (l : List (Nat × Nat)) : List (Nat × Nat) :=
  ks.foldl (fun l k => setPause (base + k) (quanta k) now l) l

theorem mem_setPauses_other {base now : Nat} {quanta : Nat → Nat} {ks : List Nat} {l : List (Nat × Nat)} {e : Nat × Nat}
    (h : ∀ k ∈ ks, e.1 ≠ base + k) : e ∈ setPauses base now quanta ks l ↔ e ∈ l := by
  unfold setPauses
  induction ks generalizing l with
  | nil => rfl
  | cons k t ih =>
    rw [List.foldl_cons, ih (fun j hj => h j (List.mem_cons_of_mem k hj))]
    exact mem_setPause_other (h k List.mem_cons_self)

theorem mem_setPauses_same {base now : Nat} {quanta : Nat → Nat} {ks : List Nat} {l : List (Nat × Nat)} {e : Nat × Nat} {k : Nat}
    (hd : ks.Nodup) (hk : k ∈ ks) (h : e.1 = base + k) :
    e ∈ setPauses base now quanta ks l ↔ quanta k ≠ 0 ∧ e.2 = now + pauseUnits (quanta k) := by
  induction ks generalizing l with
  | nil => cases hk
  | cons j t ih =>
    obtain ⟨hj, ht⟩ := List.nodup_cons.mp hd
    rcases List.mem_cons.mp hk with rfl | hk
    · have hrest : ∀ i ∈ t, e.1 ≠ base + i := fun i hi he => hj (by rwa [show k = i by omega])
      exact (mem_setPauses_other hrest).trans (mem_setPause_same h)
    · exact ih ht hk

theorem exec_pfcFrame_of_live {p : Fin 2} {enable : BitVec 8} {quanta : List (BitVec 16)} {t : Nat} {s s1 : State} (h1 : s1 = s.advanceTo t)
    (hring : s1.onRing = true) (hcore : s1.coreLive = true) (hl : s1.linkState p = 3) :
    exec (.pfcFrame p enable quanta t) s = .next (({ s1 with host := { s1.host with
      pauses := setPauses (8 * p.val) s1.now (fun k => (quanta.getD k 0).toNat) ((List.range 8).filter (fun k => bitOf enable.toNat k))
        s1.host.pauses } }).drain p) := by
  subst h1
  exact congrArg Host.Outcome.next (if_neg (by rw [hring, hcore, hl]; decide))

theorem pfcFrame_pauses {p : Fin 2} {enable : BitVec 8} {quanta : List (BitVec 16)} {t : Nat} {s s1 : State} (h1 : s1 = s.advanceTo t)
    (hring : s1.onRing = true) (hcore : s1.coreLive = true) (hl : s1.linkState p = 3) :
    ∃ l, exec (.pfcFrame p enable quanta t) s = .next (({ s1 with host := { s1.host with pauses := l } }).drain p) ∧
      (∀ e ∈ s1.host.pauses, (∀ k : Fin 8, e.1 = 8 * p.val + k.val → enable.toNat.testBit k = false) → e ∈ l) ∧
      (∀ k : Fin 8, enable.toNat.testBit k = true → ∀ e ∈ l, e.1 = 8 * p.val + k.val →
        (quanta.getD k 0).toNat ≠ 0 ∧ e.2 = s1.now + pauseUnits (quanta.getD k 0).toNat) ∧
      (∀ k : Fin 8, enable.toNat.testBit k = true → (quanta.getD k 0).toNat ≠ 0 → (8 * p.val + k.val, s1.now + pauseUnits (quanta.getD k 0).toNat) ∈ l) := by
  have hmem (k : Fin 8) (hk : enable.toNat.testBit k = true) : k.val ∈ (List.range 8).filter (fun k => bitOf enable.toNat k) :=
    List.mem_filter.mpr ⟨List.mem_range.mpr k.isLt, hk⟩
  have hnd : ((List.range 8).filter (fun k => bitOf enable.toNat k)).Nodup := List.Nodup.filter _ List.nodup_range
  refine ⟨_, exec_pfcFrame_of_live h1 hring hcore hl, fun e he hother => ?_, fun k hk e he hkey => ?_, fun k hk hq => ?_⟩
  · refine (mem_setPauses_other fun k hk hkey => ?_).mpr he
    obtain ⟨hlt, hbit⟩ := List.mem_filter.mp hk
    have hoff := hother ⟨k, List.mem_range.mp hlt⟩ hkey
    exact Bool.false_ne_true (hoff.symm.trans hbit)
  · exact (mem_setPauses_same hnd (hmem k hk) hkey).mp he
  · exact (mem_setPauses_same hnd (hmem k hk) rfl).mpr ⟨hq, rfl⟩

/-- Settles O51. -/
theorem hostPackets : Obligations.HostPackets := by
  unfold Obligations.HostPackets
  refine ⟨fun _ _ _ => arrive_cases, fun _ _ _ _ _ _ _ _ => packets_dropped, fun _ _ _ _ _ _ _ => knock_cases, fun _ _ _ _ _ _ _ => takeIndex_cases,
    ?_, ?_, fun _ _ _ _ _ _ _ _ _ _ => exec_rdmaReadResponse_of_read, fun _ _ _ _ _ _ => exec_rdmaAck_of_arrive,
    fun _ _ _ _ _ => exec_nakRcvd_of_out, fun _ _ _ _ => ackTimeout_cases, ?_, fun _ _ _ _ _ _ => pfcFrame_pauses, ?_⟩
  · intro h va rkey data t q last s s1 s2 ha ht hlast h2
    rw [exec_windowWrite_of_now ha ht hlast h2]
    refine ⟨fun hnil => ?_, fun hdata hbad => ?_, fun words r s3 hdata hkey hlen hwords hburst => ?_⟩
    · rw [if_pos (by simp [hnil])]
    · rw [if_neg (by simp [hdata]), if_pos (windowBad_of hbad)]
      rfl
    · subst hwords
      rw [if_neg (by simp [hdata]), if_neg (windowBad_of_not hkey hlen)]
      dsimp only
      rw [hburst]
      cases r <;> rfl
  · intro h va rkey len t q s s1 s2 ha ht
    rw [exec_windowRead_of_turn ha ht]
    have hzero : len.toNat = 0 ↔ len = 0 := ⟨fun h0 => BitVec.eq_of_toNat_eq h0, fun h0 => by rw [h0]; rfl⟩
    refine ⟨fun hnil => ?_, fun hdata hbad => ?_, fun r s3 hdata hkey hlen hburst => ?_⟩
    · rw [if_pos (hzero.mpr hnil)]
    · rw [if_neg (fun h0 => hdata (hzero.mp h0)), if_pos (windowBad_of hbad)]
      rfl
    · rw [if_neg (fun h0 => hdata (hzero.mp h0)), if_neg (windowBad_of_not hkey hlen)]
      dsimp only
      rw [hburst]
      cases r <;> rfl
  · rintro t s s1 s2 hc rfl rfl
    exact congrArg Host.Outcome.next (if_neg (by simp [hc]))
  · rintro p e s s1 he rfl
    refine congrArg Host.Outcome.next ?_
    rw [he]

end Sys2Proof.Machine
end

section
/-! PROOFS. Commands of the host, their completions, and the event and result rings (spec/14_host_transport.md R355 to R377). -/

namespace Sys2Proof.Machine

/-! ### The start and the end of a command (R366 to R370) -/

theorem exec_commandStart_of_ready {q i : Nat} {d : List Byte} {c : HostCmd} {s s1 s2 : State}
    (hq : ((List.range 64).map (fun i => (s.host.turn + i) % 64)).find? (fun q => (s.ready q).isSome) = some q) (hr : s.ready q = some (i, d))
    (hc : c = { qp := q, idx := i, desc := d, at_ := s.now, stage := .started, input := [], lost := false })
    (h1 : s1 = (s.wr (qpA q Reg.HT_QP_CMD_CI) (BitVec.ofNat 32 (i + 1))).modQp q (fun p => { p with fetched := p.fetched.filter (fun e => e.1 != i) }))
    (h2 : s2 = { s1 with host := { s1.host with turn := (q + 1) % 64, cmds := s1.host.cmds ++ [c] } }) :
    exec .commandStart s = .next (s2.admitCmd c) := by
  subst h2 h1 hc
  refine congrArg Host.Outcome.next ?_
  dsimp only
  rw [hq]
  dsimp only
  rw [hr]

/-- R366, R368: the checks of a descriptor, in their order. -/
theorem admitCmd_cases (s : State) (c : HostCmd) :
    ((c.op = 0 ∨ 0x0D < c.op) → s.admitCmd c = s.completeWith c 5 0) ∧
    (0 < c.op → c.op ≤ 0x0D → (c.zerosOk = false ∨ c.limitsOk = false) → s.admitCmd c = s.completeWith c 6 0) ∧
    (∀ n, 0 < c.op → c.op ≤ 0x0D → c.zerosOk = true → c.limitsOk = true → c.shortOf = some n → s.admitCmd c = s.completeWith c 7 n) ∧
    (0 < c.op → c.op ≤ 0x0D → c.op ≠ 4 → c.op ≠ 9 → c.zerosOk = true → c.limitsOk = true → c.shortOf = none → s.admitCmd c = s) := by
  unfold State.admitCmd
  refine ⟨fun hop => ?_, fun h0 hD hbad => ?_, fun n h0 hD hz hl hs => ?_, fun h0 hD h4 h9 hz hl hs => ?_⟩
  · rw [if_pos hop]
  · have hno : (!(c.zerosOk && c.limitsOk)) = true := by
      rcases hbad with h | h <;> simp [h]
    rw [if_neg (by omega), if_pos hno]
  · rw [if_neg (by omega), if_neg (by simp [hz, hl]), hs]
  · rw [if_neg (by omega), if_neg (by simp [hz, hl]), hs]
    dsimp only
    rw [if_neg h4, if_neg h9]

theorem complete_cases {c : HostCmd} {q idx status detail r0 r1 : Nat} {s s1 : State}
    (hc : s.host.cmds.find? (fun c => c.qp == q && c.idx == idx) = some c)
    (h1 : s1 = { s with host := { s.host with cmds := s.host.cmds.filter (fun d => !(d.qp == q && d.idx == idx && d.lost == c.lost)) } }) :
    (c.lost = true → s.complete q idx status detail r0 r1 = s1.raise (qpA q Reg.HT_QP_STAT) Fld.HT_QP_STAT_CPL_LOST) ∧
    (∀ (i n : Nat), c.lost = false → i = (s1.rd (qpA q Reg.HT_QP_CPL_PI)).toNat → n = s1.cplSize q →
      s.complete q idx status detail r0 r1 = (s1.rdmaWrite q (s1.rd64 (qpA q Reg.HT_QP_CPL_BASE_LO) + i % n * 32)
        (s1.rd (qpA q Reg.HT_QP_CPL_RKEY)).toNat (leBytes 4 (leAt c.desc 4 4) ++ leBytes 4 idx ++ leBytes 1 (leAt c.desc 0 1) ++ leBytes 1 status ++
          leBytes 1 (if i / n % 2 = 0 then 1 else 0) ++ leBytes 1 0 ++ leBytes 4 detail ++ leBytes 8 r0 ++ leBytes 8 r1)).wr
        (qpA q Reg.HT_QP_CPL_PI) (BitVec.ofNat 32 (i + 1))) := by
  have hcomplete : s.complete q idx status detail r0 r1 = if c.lost then s1.raise (qpA q Reg.HT_QP_STAT) Fld.HT_QP_STAT_CPL_LOST
      else s1.writeCompletion q idx (leAt c.desc 4 4) (leAt c.desc 0 1) status detail r0 r1 := by
    subst h1
    unfold State.complete
    rw [hc]
  rw [hcomplete]
  refine ⟨fun hl => if_pos hl, ?_⟩
  rintro i n hl rfl rfl
  rw [if_neg (ne_true_of_eq_false hl)]
  rfl

/-! ### RUN_AT and HALT (R369, R371) -/

/-- A RUN_AT that is accepted, of the strands `ks` at `t` from segment `g`. -/
def State.takeRun (s : State) (c : HostCmd) (ks : List Nat) (t g : Nat) : State :=
  let s1 := s.each ks (fun s k => s.modStrand k (fun x => { x with launch := some ⟨t, if s.wouldStart k then some g else none, c.qp⟩ }))
  let s2 := if s1.flag Reg.DEV_UPD_CTRL Fld.DEV_UPD_CTRL_ARM && s1.flag Reg.DEV_UPD_CTRL Fld.DEV_UPD_CTRL_SRC && s1.bound.isNone
    then { s1 with bound := some (c.qp, c.idx, t) } else s1
  if ks.isEmpty then s2.complete c.qp c.idx 0 0 t 0
  else s2.modCmd c.qp c.idx (fun (c : HostCmd) => { c with stage := CmdStage.strands ks 0 })

/-- A RUN_AT once its instant is not too near: the first reason against it, or its acceptance. -/
def State.judgeRun (s : State) (c : HostCmd) (ks : List Nat) (t g : Nat) : State :=
  match ks.findSome? (fun k => s.runReason k) with
  | some (r, k) => s.completeWith c 0x0A (r * 16777216 + k)
  | none => if ks.any (fun k => s.wouldStart k) && (s.segment? g).isNone then s.completeWith c 4 (0x00030000 + g) else s.takeRun c ks t g

theorem exec_runAt_of_next {c : HostCmd} {s : State} (hc : s.nextCmd 0x05 = some c) :
    exec .runAt s = .next (if s.ucodeBusy then s.completeWith c 9 0
      else if !s.tideValid then s.completeWith c 4 1
      else if 2 ≤ s.thLevel then s.completeWith c 4 2
      else if c.arg 0x20 8 < s.tideOf c.at_ + 60000 then s.completeWith c 8 0
      else s.judgeRun c (c.mask 0x08) (c.arg 0x20 8) (c.arg 0x28 2)) := by
  refine congrArg Host.Outcome.next ?_
  rw [hc]
  rfl

theorem takeRun_eq {c : HostCmd} {ks : List Nat} {t g : Nat} {s s1 s2 : State}
    (h1 : s1 = ks.foldl (fun x k => x.modStrand k (fun y => { y with launch := some ⟨t, if x.wouldStart k then some g else none, c.qp⟩ })) s)
    (h2 : s2 = (if s1.flag Reg.DEV_UPD_CTRL Fld.DEV_UPD_CTRL_ARM = true ∧ s1.flag Reg.DEV_UPD_CTRL Fld.DEV_UPD_CTRL_SRC = true ∧ s1.bound = none
      then { s1 with bound := some (c.qp, c.idx, t) } else s1)) :
    s.takeRun c ks t g = if ks = [] then s2.complete c.qp c.idx 0 0 t 0
      else s2.modCmd c.qp c.idx (fun (c : HostCmd) => { c with stage := CmdStage.strands ks 0 }) := by
  have heach : s.each ks (fun s k => s.modStrand k (fun x => { x with launch := some ⟨t, if s.wouldStart k then some g else none, c.qp⟩ })) = s1 :=
    h1.symm
  unfold State.takeRun
  dsimp only
  rw [heach]
  simp only [Bool.and_eq_true, Option.isNone_iff_eq_none, List.isEmpty_iff, and_assoc, ← h2]

theorem runAt_judged {c : HostCmd} {t g : Nat} {ks : List Nat} {s : State} :
    (∀ r k, ks.findSome? (fun k => s.runReason k) = some (r, k) → s.judgeRun c ks t g = s.completeWith c 0x0A (r * 16777216 + k)) ∧
    (ks.findSome? (fun k => s.runReason k) = none →
      ((∃ k ∈ ks, s.wouldStart k = true) → s.segment? g = none → s.judgeRun c ks t g = s.completeWith c 4 (0x00030000 + g)) ∧
      (((∀ k ∈ ks, s.wouldStart k = false) ∨ (s.segment? g).isSome = true) → s.judgeRun c ks t g = s.takeRun c ks t g)) := by
  unfold State.judgeRun
  refine ⟨fun r k hr => ?_, fun hnone => ⟨fun hstart hseg => ?_, fun hgo => ?_⟩⟩
  · rw [hr]
  · have hbad : (ks.any (fun k => s.wouldStart k) && (s.segment? g).isNone) = true := by
      rw [Bool.and_eq_true, List.any_eq_true, hseg]
      exact ⟨hstart, rfl⟩
    rw [hnone]
    exact if_pos hbad
  · have hgood : ¬(ks.any (fun k => s.wouldStart k) && (s.segment? g).isNone) = true := by
      rw [Bool.and_eq_true, List.any_eq_true, Option.isNone_iff_eq_none]
      rintro ⟨⟨k, hk, hstart⟩, hseg⟩
      rcases hgo with hgo | hgo
      · exact Bool.false_ne_true ((hgo k hk).symm.trans hstart)
      · rw [hseg] at hgo
        exact absurd hgo (by decide)
    rw [hnone]
    exact if_neg hgood

theorem runAt_cases {c : HostCmd} {t g : Nat} {ks : List Nat} {s : State} (hc : s.nextCmd 0x05 = some c) (hks : ks = c.mask 0x08)
    (ht : t = c.arg 0x20 8) (hg : g = c.arg 0x28 2) :
    (s.ucodeBusy = true → exec .runAt s = .next (s.completeWith c 9 0)) ∧
    (s.ucodeBusy = false → s.tideValid = false → exec .runAt s = .next (s.completeWith c 4 1)) ∧
    (s.ucodeBusy = false → s.tideValid = true → 2 ≤ s.thLevel → exec .runAt s = .next (s.completeWith c 4 2)) ∧
    (s.ucodeBusy = false → s.tideValid = true → s.thLevel < 2 → t < s.tideOf c.at_ + 60000 → exec .runAt s = .next (s.completeWith c 8 0)) ∧
    (s.ucodeBusy = false → s.tideValid = true → s.thLevel < 2 → s.tideOf c.at_ + 60000 ≤ t → exec .runAt s = .next (s.judgeRun c ks t g)) := by
  subst hks ht hg
  rw [exec_runAt_of_next hc]
  refine ⟨fun hu => ?_, fun hu hv => ?_, fun hu hv hl => ?_, fun hu hv hl hlate => ?_, fun hu hv hl hsoon => ?_⟩
  · rw [if_pos hu]
  · rw [if_neg (ne_true_of_eq_false hu), if_pos (by simp [hv])]
  · rw [if_neg (ne_true_of_eq_false hu), if_neg (by simp [hv]), if_pos hl]
  · rw [if_neg (ne_true_of_eq_false hu), if_neg (by simp [hv]), if_neg (by omega), if_pos hlate]
  · rw [if_neg (ne_true_of_eq_false hu), if_neg (by simp [hv]), if_neg (by omega), if_neg (by omega)]

theorem runReason_cases (k : Nat) (s : State) :
    ((s.entryOf k).placed = false → s.runReason k = some (1, k)) ∧
    ((s.entryOf k).placed = true → s.role k = 2 → s.runReason k = some (2, k)) :=
  ⟨fun hp => if_pos (by simp [hp]), fun hp hr => (if_neg (by simp [hp])).trans (if_pos hr)⟩

theorem halt_cases {c : HostCmd} {ks left : List Nat} {s s1 : State} (hc : s.nextCmd 0x06 = some c) (hks : ks = c.mask 0x08)
    (h1 : s1 = (ks.filter (fun k => (s.strand k).launch.isSome)).foldl State.abortRun s) (hleft : left = ks.filter (fun k => !s1.wouldStart k)) :
    (left = [] → exec .halt s = .next (s1.complete c.qp c.idx 0 0 0 0)) ∧
    (left ≠ [] → exec .halt s = .next (left.foldl (fun x k => if x.wouldStart k then x else x.raiseStop k .hostHalt)
      (s1.modCmd c.qp c.idx (fun (c : HostCmd) => { c with stage := CmdStage.strands left 0 })))) := by
  have hexec : exec .halt s = .next (if left.isEmpty then s1.complete c.qp c.idx 0 0 0 0
      else (s1.modCmd c.qp c.idx (fun (c : HostCmd) => { c with stage := CmdStage.strands left 0 })).each left
        (fun s k => if s.wouldStart k then s else s.raiseStop k .hostHalt)) := by
    subst hleft h1 hks
    refine congrArg Host.Outcome.next ?_
    rw [hc]
    rfl
  rw [hexec]
  exact ⟨fun hnil => congrArg _ (if_pos (by simp [hnil])), fun hcons => congrArg _ (if_neg (by simp [hcons]))⟩

end Sys2Proof.Machine
end

section
/-! PROOFS. RESULT_FETCH, REG_BATCH, helm, and the event and result rings (spec/14_host_transport.md R355, R370 to R377). -/

namespace Sys2Proof.Machine

/-! ### RESULT_FETCH (R370, R371) -/

/-- RESULT_FETCH of the journal: `n` groups from `first` on. -/
def State.fetchJournal (s : State) (c : HostCmd) (bad : List Nat) (first n : Nat) : State :=
  if n = 0 then s.completeWith c 1 0
  else
    let x := (List.range n).foldl (fun (x : List Byte × State) i =>
      (x.1 ++ (x.2.readGroup (first + i) (bad.contains (first + i))).1, (x.2.readGroup (first + i) (bad.contains (first + i))).2)) ([], s)
    ((x.2.traffic x.1.length).writeOut c 0x18 x.1).complete c.qp c.idx 0 0 x.1.length n

/-- RESULT_FETCH of the records that strand `k` has acquired. -/
def State.fetchRecords (s : State) (c : HostCmd) (k count room : Nat) : State :=
  match (s.acq k).store with
  | [] => s.completeWith c 1 0
  | r :: rest =>
    if count = 0 then s.completeWith c 1 0
    else if room < r.length then s.completeWith c 7 r.length
    else
      let l := fitting count room (r :: rest)
      ((s.freeRecords k l.length l.flatten.length).writeOut c 0x18 l.flatten).complete c.qp c.idx 0 0 l.flatten.length l.length

theorem exec_resultFetch_of_next {bad : List Nat} {c : HostCmd} {s : State} (hc : s.nextCmd 0x07 = some c) :
    exec (.resultFetch bad) s = .next (if c.arg 0x08 1 = 1 then
        s.fetchJournal c bad (c.arg 0x10 4) (min (min (c.arg 0x0C 4) (c.bufLen 0x18 / 64)) (s.fld Reg.FL_JRN_WP Fld.FL_JRN_WP_GROUPS - c.arg 0x10 4))
      else s.fetchRecords c (c.arg 0x09 1) (c.arg 0x0C 4) (c.bufLen 0x18)) := by
  refine congrArg Host.Outcome.next ?_
  rw [hc]
  rfl

theorem fetchRecords_none {c : HostCmd} {k count room : Nat} {s : State} (h : (s.acq k).store = [] ∨ count = 0) :
    s.fetchRecords c k count room = s.completeWith c 1 0 := by
  unfold State.fetchRecords
  cases hst : (s.acq k).store with
  | nil => rfl
  | cons r rest => exact if_pos (h.resolve_left (by simp [hst]))

theorem fetchRecords_some {c : HostCmd} {k count room : Nat} {r : List Byte} {rest l : List (List Byte)} {s : State}
    (hst : (s.acq k).store = r :: rest) (hcount : count ≠ 0) (hl : l = fitting count room (r :: rest)) :
    s.fetchRecords c k count room = if room < r.length then s.completeWith c 7 r.length
      else ((s.freeRecords k l.length l.flatten.length).writeOut c 0x18 l.flatten).complete c.qp c.idx 0 0 l.flatten.length l.length := by
  subst hl
  unfold State.fetchRecords
  rw [hst]
  exact if_neg hcount

theorem resultFetch_cases {bad : List Nat} {c : HostCmd} {s : State} (hc : s.nextCmd 0x07 = some c) :
    (∀ n, c.arg 0x08 1 = 1 → n = min (min (c.arg 0x0C 4) (c.bufLen 0x18 / 64)) (s.fld Reg.FL_JRN_WP Fld.FL_JRN_WP_GROUPS - c.arg 0x10 4) →
      (n = 0 → exec (.resultFetch bad) s = .next (s.completeWith c 1 0)) ∧
      (∀ (data : List Byte) (s1 : State), n ≠ 0 → (List.range n).foldl (fun (x : List Byte × State) i =>
          (x.1 ++ (x.2.readGroup (c.arg 0x10 4 + i) (bad.contains (c.arg 0x10 4 + i))).1,
            (x.2.readGroup (c.arg 0x10 4 + i) (bad.contains (c.arg 0x10 4 + i))).2)) ([], s) = (data, s1) →
        exec (.resultFetch bad) s = .next (((s1.traffic data.length).writeOut c 0x18 data).complete c.qp c.idx 0 0 data.length n))) ∧
    (∀ k, c.arg 0x08 1 ≠ 1 → k = c.arg 0x09 1 →
      ((s.acq k).store = [] ∨ c.arg 0x0C 4 = 0 → exec (.resultFetch bad) s = .next (s.completeWith c 1 0)) ∧
      (∀ r rest l, (s.acq k).store = r :: rest → c.arg 0x0C 4 ≠ 0 → l = fitting (c.arg 0x0C 4) (c.bufLen 0x18) (r :: rest) →
        exec (.resultFetch bad) s = .next (if c.bufLen 0x18 < r.length then s.completeWith c 7 r.length
          else ((s.freeRecords k l.length l.flatten.length).writeOut c 0x18 l.flatten).complete c.qp c.idx 0 0 l.flatten.length l.length))) := by
  rw [exec_resultFetch_of_next hc]
  refine ⟨?_, ?_⟩
  · rintro n hj rfl
    rw [if_pos hj]
    unfold State.fetchJournal
    refine ⟨fun h0 => congrArg _ (if_pos h0), fun data s1 h0 hfold => congrArg _ ((if_neg h0).trans ?_)⟩
    dsimp only
    rw [hfold]
  · rintro k hj rfl
    rw [if_neg hj]
    exact ⟨fun hnone => congrArg _ (fetchRecords_none hnone), fun r rest l hst hcount hl => congrArg _ (fetchRecords_some hst hcount hl)⟩

/-! ### REG_BATCH (R372) -/

/-- The completion of a batch that has run. -/
def State.batchDone (s : State) (c : HostCmd) (b : BatchRun) : State :=
  match b.failed, b.deferred with
  | some i, _ => s.complete c.qp c.idx 3 i b.done b.words
  | none, some i => s.complete c.qp c.idx 2 i b.done b.words
  | none, none => s.complete c.qp c.idx 0 0 b.done b.words

theorem regBatch_bad {c : HostCmd} {s : State} (hc : s.cmdAt 0x09 .received = some c) (hb : batchEntries (c.arg 0x28 2) c.input = none) :
    exec .regBatch s = .next (s.completeWith c 6 0) := by
  refine congrArg Host.Outcome.next ?_
  rw [hc]
  dsimp only
  rw [hb]

theorem regBatch_entries {c : HostCmd} {s : State} {l : List BatchEntry} {need : Nat} (hc : s.cmdAt 0x09 .received = some c)
    (hb : batchEntries (c.arg 0x28 2) c.input = some l)
    (hneed : need = 4 * ((l.filter (fun e => e.data.isNone)).map (fun e => e.count)).foldl (· + ·) 0) :
    (c.bufLen 0x18 < need → exec .regBatch s = .next (s.completeWith c 7 need)) ∧
    (∀ (b : BatchRun) (s1 s2 : State), need ≤ c.bufLen 0x18 → l.zipIdx.foldl (batchStep (qpMaster c.qp)) ({}, s) = (b, s1) →
      s2 = (if b.out = [] then s1 else s1.writeOut c 0x18 b.out) → exec .regBatch s = .next (s2.batchDone c b)) := by
  subst hneed
  refine ⟨fun hshort => congrArg Host.Outcome.next ?_, fun b s1 s2 hroom hfold h2 => congrArg Host.Outcome.next ?_⟩
  · rw [hc]
    dsimp only
    rw [hb]
    exact if_pos hshort
  · have hout : (if b.out.isEmpty then s1 else s1.writeOut c 0x18 b.out) = s2 := by
      rw [h2]
      simp only [List.isEmpty_iff]
    rw [hc]
    dsimp only
    rw [hb]
    refine (if_neg (by omega)).trans ?_
    rw [hfold]
    dsimp only
    rw [hout]
    rfl

/-! ### Helm (R355) -/

theorem helmClaim_cases {c : HostCmd} {s : State} (hc : s.nextCmd 0x0B = some c) :
    (s.host.lockout.isSome = true → exec .helmClaim s = .next (s.completeWith c 0x0B 0)) ∧
    (s.host.lockout = none → s.helmKeyNow = none → exec .helmClaim s = .next ((s.keyFail c.qp).completeWith c 0x0B 0)) ∧
    (s.host.lockout = none → s.helmKeyNow = some ((c.desc.drop 8).take 16) →
      exec .helmClaim s = .next ((if c.lost then s else s.setFld (qpA c.qp Reg.HT_QP_PRIV) Fld.HT_QP_PRIV_PRIV 1).completeWith c 0 0)) ∧
    (∀ (key : List Byte) (misses : List Nat) (s1 : State), s.host.lockout = none → s.helmKeyNow = some key → (c.desc.drop 8).take 16 ≠ key →
      s1 = (s.keyFail c.qp).raise Reg.HT_STAT Fld.HT_STAT_KEY_FAIL →
      misses = s1.host.misses.filter (fun t => decide (s1.now < t + 1000000 * usU)) ++ [s1.now] →
      (misses.length < 4 → exec .helmClaim s = .next (({ s1 with host := { s1.host with misses := misses } }).completeWith c 0x0B 0)) ∧
      (4 ≤ misses.length → exec .helmClaim s = .next (((({ s1 with host := { s1.host with misses := [], lockout := some (s1.now + 10000000 * usU) } }).raise
        Reg.HT_STAT Fld.HT_STAT_LOCKOUT).fault srcHost 0 c.qp).completeWith c 0x0B 0))) := by
  refine ⟨fun hlock => congrArg Host.Outcome.next ?_, fun hopen hkey => congrArg Host.Outcome.next ?_,
    fun hopen hkey => congrArg Host.Outcome.next ?_, ?_⟩
  · rw [hc]
    exact if_pos hlock
  · rw [hc]
    refine (if_neg (by simp [hopen])).trans ?_
    rw [hkey]
  · rw [hc]
    refine (if_neg (by simp [hopen])).trans ?_
    rw [hkey]
    exact if_pos rfl
  · rintro key misses s1 hopen hkey hne h1 hm
    have hexec : exec .helmClaim s = .next ((if 4 ≤ misses.length then
        (({ s1 with host := { s1.host with misses := [], lockout := some (s1.now + 10000000 * usU) } }).raise Reg.HT_STAT
          Fld.HT_STAT_LOCKOUT).fault srcHost 0 c.qp
        else { s1 with host := { s1.host with misses := misses } }).completeWith c 0x0B 0) := by
      subst hm h1
      refine congrArg Host.Outcome.next ?_
      rw [hc]
      refine (if_neg (by simp [hopen])).trans ?_
      rw [hkey]
      exact if_neg hne
    rw [hexec]
    refine ⟨fun hfew => ?_, fun hmany => ?_⟩
    · rw [if_neg (by omega)]
    · rw [if_pos hmany]

theorem helmAck_cases {c : HostCmd} {s : State} (hc : s.nextCmd 0x0C = some c) :
    (s.privileged (qpMaster c.qp) = false → exec .helmAck s = .next (s.completeWith c 0x0C 0)) ∧
    (s.privileged (qpMaster c.qp) = true → (s.flag Reg.FC_HELM_STATE Fld.FC_HELM_STATE_PENDING = false ∨
      s.rd Reg.FC_HELM_EPOCH ≠ BitVec.ofNat 32 (c.arg 0x08 4)) → exec .helmAck s = .next (s.completeWith c 4 1)) ∧
    (s.privileged (qpMaster c.qp) = true → s.flag Reg.FC_HELM_STATE Fld.FC_HELM_STATE_PENDING = true →
      s.rd Reg.FC_HELM_EPOCH = BitVec.ofNat 32 (c.arg 0x08 4) → exec .helmAck s = .next (s.helmAck.completeWith c 0 0)) := by
  have hexec : exec .helmAck s = .next (if !s.privileged (qpMaster c.qp) then s.completeWith c 0x0C 0
      else if s.helmPending && s.rd Reg.FC_HELM_EPOCH == BitVec.ofNat 32 (c.arg 0x08 4) then s.helmAck.completeWith c 0 0
      else s.completeWith c 4 1) := by
    refine congrArg Host.Outcome.next ?_
    rw [hc]
  rw [hexec]
  unfold State.helmPending
  refine ⟨fun hp => ?_, fun hp hbad => ?_, fun hp hpend hepoch => ?_⟩
  · rw [if_pos (by simp [hp])]
  · have hno : ¬(s.flag Reg.FC_HELM_STATE Fld.FC_HELM_STATE_PENDING && s.rd Reg.FC_HELM_EPOCH == BitVec.ofNat 32 (c.arg 0x08 4)) = true := by
      rcases hbad with h | h <;> simp [h]
    rw [if_neg (by simp [hp]), if_neg hno]
  · rw [if_neg (by simp [hp]), if_pos (by simp [hpend, hepoch])]

/-! ### The event ring and the result ring (R374 to R377) -/

theorem eventWrite_cases (s : State) :
    (s.evtOpen = false ∨ s.evtSize ≤ s.evt.pi - s.evt.ci → exec .eventWrite s = .next s) ∧
    (s.evtOpen = true → s.evt.pi - s.evt.ci < s.evtSize →
      (s.evt.dropped ≠ 0 → exec .eventWrite s = .next (({ s with evt := { s.evt with dropped := 0, seq := s.evt.seq + 1 } }).writeEvent
        ⟨6, s.evt.seq % 4294967296, s.stamp, padTo 16 0 (leBytes 4 s.evt.dropped)⟩)) ∧
      (∀ e rest, s.evt.dropped = 0 → s.evt.held = e :: rest →
        exec .eventWrite s = .next (({ s with evt := { s.evt with held := rest } }).writeEvent e))) := by
  refine ⟨fun hshut => congrArg Host.Outcome.next (if_pos ?_), fun hopen hroom => ?_⟩
  · rcases hshut with h | h <;> simp [h]
  · have hgo : ¬(!s.evtOpen || decide (s.evtSize ≤ s.evt.pi - s.evt.ci)) = true := by
      simp only [hopen, Bool.or_eq_true, decide_eq_true_eq, Bool.not_true, Bool.false_eq_true, false_or]
      omega
    refine ⟨fun hd => congrArg Host.Outcome.next ((if_neg hgo).trans (if_pos hd)), fun e rest hd he => ?_⟩
    refine congrArg Host.Outcome.next ((if_neg hgo).trans ((if_neg (not_not_intro hd)).trans ?_))
    rw [he]

theorem resultWrite_shut {r : ResultRec} {rest : List ResultRec} {s : State} (hr : s.host.results = r :: rest)
    (hshut : (s.flag Reg.HT_RES_CFG Fld.HT_RES_CFG_EN && s.qpRts (s.fld Reg.HT_RES_CFG Fld.HT_RES_CFG_QP)) = false) :
    exec .resultWrite s = .next (s.raise Reg.HT_STAT Fld.HT_STAT_RES_WAIT) := by
  refine congrArg Host.Outcome.next ?_
  rw [hr]
  exact if_pos (by rw [hshut]; rfl)

theorem resultWrite_open {r : ResultRec} {rest : List ResultRec} {n size i : Nat} {trunc : Bool} {body : List Byte} {s s1 s2 : State}
    (hr : s.host.results = r :: rest)
    (hopen : (s.flag Reg.HT_RES_CFG Fld.HT_RES_CFG_EN && s.qpRts (s.fld Reg.HT_RES_CFG Fld.HT_RES_CFG_QP)) = true) (hn : n = s.resSize)
    (htrunc : trunc = decide (n < 16 + ceilDiv r.payload.length 16 * 16))
    (hbody : body = (if trunc then r.payload.take (32 + (n - 48) / 8 * 8) else r.payload)) (hsize : size = 16 + ceilDiv body.length 16 * 16)
    (h1 : s1 = s.resPad size) (hi : i = s1.host.resPi)
    (h2 : s2 = { s1 with host := { s1.host with results := rest, resPi := i + size, resSeq := s1.host.resSeq + 1 } }) :
    exec .resultWrite s = .next (if n - i % n < size ∨ s1.host.resCi + n < i + size then s1.raise Reg.HT_STAT Fld.HT_STAT_RES_WAIT
      else ((s2.resPut (i + 16) (padTo (size - 16) 0 body)).resPut i (resHeader body.length 1 (phaseBit i n) trunc
        (s1.host.resSeq % 4294967296))).resultWritten r.die (leAt r.payload 8 1)) := by
  subst h2 hi h1 hsize hbody htrunc hn
  refine congrArg Host.Outcome.next ?_
  rw [hr]
  exact if_neg (by rw [hopen]; decide)

/-- Settles O52. -/
theorem hostCommands : Obligations.HostCommands := by
  unfold Obligations.HostCommands
  refine ⟨?_, fun _ _ _ _ _ _ _ _ _ => complete_cases, ?_, ?_, runReason_cases, fun _ _ _ => resultFetch_cases, ?_, fun _ _ => helmClaim_cases,
    ?_, eventWrite_cases, ?_, fun _ _ _ _ _ => halt_cases, fun _ _ => helmAck_cases⟩
  · intro q i d c s s1 s2 hq hr hc h1 h2
    exact ⟨exec_commandStart_of_ready hq hr hc h1 h2, admitCmd_cases s2 c⟩
  · intro c s hc
    refine congrArg Host.Outcome.next ?_
    rw [hc]
    rfl
  · intro c t g ks s hc hks ht hg
    obtain ⟨hbusy, hinvalid, hhot, hlate, hjudge⟩ := runAt_cases hc hks ht hg
    refine ⟨hbusy, hinvalid, hhot, hlate, fun hu hv hl hsoon => ?_⟩
    rw [hjudge hu hv hl hsoon]
    obtain ⟨hreason, hnone⟩ := runAt_judged (c := c) (t := t) (g := g) (ks := ks) (s := s)
    refine ⟨fun r k hr => congrArg _ (hreason r k hr), fun h => ?_⟩
    obtain ⟨habsent, hgo⟩ := hnone h
    exact ⟨fun hstart hseg => congrArg _ (habsent hstart hseg), fun hok s1 s2 h1 h2 => congrArg _ ((hgo hok).trans (takeRun_eq h1 h2))⟩
  · intro c s hc
    refine ⟨regBatch_bad hc, fun l need hb hneed => ?_⟩
    obtain ⟨hshort, hrun⟩ := regBatch_entries hc hb hneed
    refine ⟨hshort, fun b s1 s2 hroom hfold h2 => (hrun b s1 s2 hroom hfold h2).trans (congrArg _ ?_)⟩
    unfold State.batchDone
    cases b.failed <;> cases b.deferred <;> rfl
  · rintro t s s1 ht rfl
    refine congrArg Host.Outcome.next ?_
    rw [ht]
  · intro r rest s hr
    refine ⟨resultWrite_shut hr, fun n size i trunc body s1 s2 hopen hn htrunc hbody hsize h1 hi h2 => ?_⟩
    rw [resultWrite_open hr hopen hn htrunc hbody hsize h1 hi h2]
    exact ⟨fun hfull => congrArg _ (if_pos hfull), fun hfit hroom => congrArg _ (if_neg (by omega))⟩

end Sys2Proof.Machine
end
